-- ==== Sys2Proof/Word.lean ====
section
/-! DEFINITION. The word types of the block and the shape of its sparse tables (00_scope.md R9, R10, R12, R13). -/

namespace Sys2Proof

/-- A byte. -/
abbrev Byte := BitVec 8
/-- A 64-bit register (00 R10). -/
abbrev Reg := BitVec 64
/-- A sector of 64 B (00 R13); byte k is bits [8k+7:8k]. -/
abbrev Sector := BitVec 512
/-- A line of 128 B, two sectors (00 R13). -/
abbrev Line := BitVec 1024
/-- A fault message of 128 bits (13 R392). -/
abbrev Msg := BitVec 128
/-- A SHA-384 digest of 48 B, byte 0 in bits [7:0] (04 R137). -/
abbrev Digest := BitVec 384
/-- A sparse table: pairs of a key and an entry. In canonical form the keys rise strictly
and no entry equals what an unlisted key reads as. -/
abbrev Map (α : Type) := List (Nat × α)

end Sys2Proof
end

