-- ==== Sys2Proof/Syntax.lean ====
section
/-! DEFINITION. The commands of the block: one constructor of `Instr` for each row of spec/opcode_table.json,
with the operands the row's rule gives it (02_ports.md and the chapters named at each group). -/

namespace Sys2Proof

/-- A transfer on REQ of a tile port (02 R54). The opcode is the command's; `code` is a reserved value of tp_req_op that
the transfer carries in its place (02 R55, R82). -/
structure TpReq where
  code : Option (BitVec 6) := none
  tag : BitVec 10 := 0
  addr : BitVec 44 := 0
  tc : BitVec 2 := 0
  sector : Bool := false
  wdata : Sector := 0
  be : BitVec 64 := 0
  dpar : BitVec 8 := 0
  cpar : Bool := false
  deriving DecidableEq, Repr

/-- A snoop answer on SRSP (02 R54, 05 R160): both beats of an answer with data, each with its parity. -/
structure SnpResp where
  id : BitVec 10 := 0
  resp : BitVec 4 := 0
  data : Line := 0
  dpar : BitVec 16 := 0
  cpar : BitVec 2 := 0
  deriving DecidableEq, Repr

/-- A lane of returns of a memory port (02 R60): the tag, the bad bits, the stored ciphertext and sideband,
whether the parity of the fclk's returns holds, whether the lane keeps within the grant of R61,
the sampled queue level and the measured round trip in ns (06 R209). -/
structure MpReturn where
  tag : BitVec 8 := 0
  bad : BitVec 2 := 0
  data : Line := 0
  sb : BitVec 128 := 0
  cparOk : Bool := true
  inGrant : Bool := true
  qlevel : BitVec 4 := 0
  rttNs : BitVec 16 := 0
  deriving DecidableEq, Repr

/-- A host-port request (02 R66); the op is the command's; `code` is a reserved op that it carries in its place (02 R67,
R82). -/
structure HostReq where
  code : Option (BitVec 3) := none
  fn : BitVec 12 := 0
  peer : Bool := false
  space : BitVec 2 := 0
  addr : BitVec 44 := 0
  len : BitVec 8 := 0
  tag : BitVec 10 := 0
  wdata : Line := 0
  be : BitVec 128 := 0
  dpar : BitVec 16 := 0
  cpar : Bool := false
  deriving DecidableEq, Repr

/-- A kernel-boundary request (02 R66, R68); the type is the command's; `rsvd` where it carries the reserved type 3 in its
place (02 R66, R82). -/
structure KbReq where
  rsvd : Bool := false
  slot : BitVec 7 := 0
  first : BitVec 8 := 0
  count : BitVec 9 := 0
  seq : BitVec 16 := 0
  cpar : Bool := false
  deriving DecidableEq, Repr

/-- A message of a DATA frame (10 R315) with its data: up to 128 B, and the byte enables of a WRITE. -/
structure LinkMsg where
  op : BitVec 6 := 0
  slice : BitVec 7 := 0
  status : BitVec 4 := 0
  xid : BitVec 16 := 0
  addr : BitVec 44 := 0
  sub : BitVec 4 := 0
  count : BitVec 16 := 0
  state : BitVec 3 := 0
  len : BitVec 8 := 0
  data : Line := 0
  be : BitVec 64 := 0
  deriving DecidableEq, Repr

/-- A transfer on the management port (02 R70): `write` false reads. The parity bits of a request with no data and tag 0 that
writes 8 B at offset 0 are the defaults (02 R50). -/
structure MgReq where
  tag : BitVec 6 := 0
  write : Bool := true
  wide : Bool := true
  addr : BitVec 28 := 0
  wdata : Reg := 0
  dpar : Bool := true
  cpar : Bool := true
  deriving DecidableEq, Repr

/-- A record of a MIRROR frame (14 R448): its type and its body, lowest byte first. -/
structure MirrorRec where
  type : BitVec 8 := 0
  body : List Byte := []
  deriving DecidableEq, Repr

/-- The body of a MIRROR frame (14 R448). -/
structure MirrorFrame where
  setTick : BitVec 64 := 0
  index : BitVec 16 := 0
  last : Bool := false
  sweep : Bool := false
  sweepEnds : Bool := false
  senderState : BitVec 3 := 0
  recs : List MirrorRec := []
  deriving DecidableEq, Repr

/-- A received or sent DATA, ACK or MIRROR frame as its fields (10 R312 to R315); `mirror` is the body of a MIRROR frame. `src` and `dst` are the MAC or IPv6 addresses, `hop` the
next-hop MAC of UDP framing, `vlan` the VID of the 802.1Q tag when present; `udpOk` that UDP framing has no IPv6 extension headers
and a valid checksum (10 R313). Flow label, source port and the fixed fields follow from `path`, `prio`, `ce` and the framing.
`sec` the SecTAG when present: SCI, AN and PN[31:0]; `icv` the ICV field. `paused` is no part of the frame: it is
lp_tx_paused of the tine as sampled with it (02 R64). -/
structure Frame where
  src : BitVec 128 := 0
  dst : BitVec 128 := 0
  hop : BitVec 48 := 0
  vlan : Option (BitVec 12) := none
  udp : Bool := false
  udpOk : Bool := true
  etype : BitVec 16 := 0
  port : BitVec 16 := 0
  prio : BitVec 3 := 0
  sec : Option (BitVec 64 × BitVec 2 × BitVec 32) := none
  icv : BitVec 128 := 0
  version : BitVec 4 := 1
  ce : Bool := false
  path : BitVec 8 := 0
  psn : BitVec 32 := 0
  msn : BitVec 32 := 0
  srcChip : BitVec 8 := 0
  dstChip : BitVec 8 := 0
  fcsErr : Bool := false
  parErr : BitVec 2 := 0
  msgs : List LinkMsg := []
  sack : BitVec 64 := 0
  paused : BitVec 8 := 0
  ceCount : BitVec 32 := 0
  mirror : Option MirrorFrame := none
  deriving DecidableEq, Repr

/-- The body of a DISCOVERY frame (10 R327). -/
structure Discovery where
  herdId : BitVec 64 := 0
  chip : BitVec 8 := 0
  tine : BitVec 8 := 0
  pairRole : BitVec 8 := 0
  joined : Bool := false
  version : BitVec 32 := 0
  digest : BitVec 128 := 0
  mac : BitVec 48 := 0
  deriving DecidableEq, Repr

/-- What Fawn finds in the boot store (14 R430, R431): a region that could not be read is `none`. `mode` is the read mode it
uses (0: 0x03, 1: 0x0B, 2: 0x6B, 3: 0xEB), `long` that SFDP reports 4-byte addressing (02 R73). -/
structure BootRead where
  sfdpOk : Bool := true
  mode : BitVec 2 := 0
  long : Bool := false
  hoofprint : Option (List Byte) := none
  repair : Option (List Byte) := none
  chain : Option (List Byte) := none
  deriving DecidableEq, Repr

/-- A transfer of the bridge from one base die to an adjacent one failed its check (01 R28, 13 R396): resent, or failed for good. -/
structure BridgeCheck where
  src : BitVec 3 := 0
  dst : BitVec 3 := 0
  resent : Bool := false
  deriving DecidableEq, Repr

/-- An MCTP packet on the sideband port (02 R72): the target address it names and the one sb_addr is tied to, the message type,
its length, whether the Packet Error Code holds, and the body of a control message after its type byte. -/
structure MctpPkt where
  dst : BitVec 7 := 0
  strap : BitVec 7 := 0
  type : BitVec 7 := 0
  len : BitVec 8 := 0
  pecOk : Bool := true
  body : List Byte := []
  deriving DecidableEq, Repr

/-- Who writes a register of the management window (00 R4, 14 R426, 16 R483). -/
inductive MgSource where
  | driver | fawn | board
  deriving DecidableEq, Repr

/-- A wake source of Doze and Standby (14 R441). -/
inductive WakeSource where
  | mgRequest | timer | effecter
  deriving DecidableEq, Repr

/-- The commands: one constructor for each row of spec/opcode_table.json. -/
inductive Instr where
  -- 01: clocks, tick and heat
  | tickBoundary
  | registerWrite (src : MgSource) (r : MgReq)
  | timebaseLost
  | tickOffsetHigh
  | fclkChange (point : BitVec 4)
  | fclkStable
  | fclkUnstable
  | thermalRaise
  | thermalThrottle
  | thermalPark
  | thermalTrip
  | thermalSample (k : BitVec 6) (v : BitVec 12)
  | supplySample (m : BitVec 5) (v : BitVec 12)
  | sensorStale (supply : Bool) (k : BitVec 6)
  -- 02, 05: tile ports and homes
  | rdShared (port : BitVec 8) (r : TpReq)
  | rdUnique (port : BitVec 8) (r : TpReq)
  | rdOnce (port : BitVec 8) (r : TpReq)
  | rdSeq (port : BitVec 8) (r : TpReq)
  | evictDirty (port : BitVec 8) (r : TpReq)
  | evictClean (port : BitVec 8) (r : TpReq)
  | wrSector (port : BitVec 8) (r : TpReq)
  | atomicHome (port : BitVec 8) (r : TpReq)
  | atomicMem (port : BitVec 8) (r : TpReq)
  | reduceOpen (port : BitVec 8) (r : TpReq)
  | reduceClose (port : BitVec 8) (r : TpReq)
  | reduceContribution (port : BitVec 8) (r : TpReq)
  | marker (port : BitVec 8) (r : TpReq) (fclk : BitVec 12)
  | jobSubmit (port : BitVec 8) (r : TpReq)
  | linkFence (port : BitVec 8) (r : TpReq)
  | linkFenceComplete (port : BitVec 8)
  | flushDone (port : BitVec 8) (r : TpReq)
  | snoopResponse (port : BitVec 8) (r : SnpResp)
  | snoopTimeout (port : BitVec 8) (id : BitVec 10)
  | flushDoneTimeout (name : BitVec 8) (port : BitVec 8)
  | sfUncorrectable (home : BitVec 8) (fset : BitVec 13)
  | dataArrayError (home : BitVec 8) (set : BitVec 11) (way : BitVec 4) (tagError mirrorBad : Bool)
  | reservationExpiry (home : BitVec 8) (origin : BitVec 9)
  -- 02, 07: memory ports
  | memoryRequestIssue (p : BitVec 4)
  | memoryReadReturn (p : BitVec 4) (r : MpReturn)
  | memoryWriteAck (p : BitVec 4) (tag : BitVec 8) (cparOk inGrant : Bool)
  | stripeLockGrant (p : BitVec 4)
  | parityRewrite (group : BitVec 16) (offset : BitVec 15)
  | mpTrainedFall (p : BitVec 4)
  | mpTrainedRise (p : BitVec 4)
  | mpTrainedLost (p : BitVec 4)
  | mpHealthyLost (p : BitVec 4)
  -- 02: port watch
  | portRespTimeout (port : BitVec 9)
  | portStuckReady (port : BitVec 9) (paused : Bool)
  | portStuckValid (port : BitVec 9)
  | portKeepaliveLost (port : BitVec 9)
  | portLeaveReset (port : BitVec 9)
  | portReenable (port : BitVec 9)
  | tagReuseHoldEnd (port : BitVec 9)
  -- 02: host port, kernel boundaries, debug, urgency, test and sideband ports
  | hostRead (r : HostReq)
  | hostWrite (r : HostReq)
  | hostFetchAdd (r : HostReq)
  | hostCompareSwap (r : HostReq)
  | kbStart (k : KbReq)
  | kbEnd (k : KbReq)
  | endComplete (slot : BitVec 7)
  | endTimeout (slot : BitVec 7)
  | kbAbort (k : KbReq)
  | debugSample (lane : BitVec 2) (tile : BitVec 8) (pc : BitVec 48) (stall : BitVec 4) (cpar : Bool) (fclk : BitVec 12)
  | urgencyLevel (n : BitVec 4) (level : BitVec 3)
  | urgencyStarved (n : BitVec 4)
  | factoryTest
  | idcode
  | samplePreload (pins preload : List Bool)
  | extest
  | ijtagAccess (inst : BitVec 16) (write reveals : Bool) (data : Reg)
  | bypass (code : BitVec 8)
  | mctpPacket (p : MctpPkt)
  | getTid
  | getPdr (id : BitVec 16)
  | getSensorReading (id : BitVec 16)
  | getStateSensorReadings (id : BitVec 16)
  | setNumericEffecterValue (id : BitVec 16) (v : BitVec 8)
  | getNumericEffecterValue (id : BitVec 16)
  | setStateEffecterStates (id : BitVec 16) (v : BitVec 8)
  | getStateEffecterStates (id : BitVec 16)
  | pollForPlatformEventMessage
  | spdmGetVersion
  | spdmGetCapabilities
  | spdmNegotiateAlgorithms
  | spdmGetDigests
  | spdmGetCertificate (slot : BitVec 4) (offset len : BitVec 16)
  | spdmChallenge (slot : BitVec 4) (nonce : BitVec 256)
  | spdmGetMeasurements (index : BitVec 8) (signed : Bool) (nonce : BitVec 256)
  | spdmUnsupportedRequest (code : BitVec 8)
  -- 03: ownership, functions, report
  | assign (first : BitVec 20) (count : BitVec 21) (fn : BitVec 12)
  | release (first : BitVec 20) (count : BitVec 21) (fn : BitVec 12)
  | setAccess (first : BitVec 20) (count : BitVec 21) (fn : BitVec 12)
  | setFormat (first : BitVec 20) (count : BitVec 21) (fn : BitVec 12)
  | cleaningPiece (e : BitVec 5)
  | granuleCleaned (g : BitVec 20)
  | fncCreate (f : BitVec 12)
  | fncEnable (f : BitVec 12)
  | fncQuiesce (f : BitVec 12)
  | quiesceDrained (f : BitVec 12)
  | quiesceDeadline (f : BitVec 12)
  | quiesceForcedDone (f : BitVec 12)
  | fncResume (f : BitVec 12)
  | fncReset (f : BitVec 12) (erase : Bool)
  | resetComplete (f : BitVec 12)
  | fncRemove (f : BitVec 12)
  | removeComplete (f : BitVec 12)
  | reportRequest (f : BitVec 12) (tag : BitVec 10)
  | reportCapture (f : BitVec 12)
  | reportReady (f : BitVec 12)
  -- 04: image
  | imgOpen
  | imgData (d : Reg)
  | imgClose
  | imgCheckComplete
  | imgArm
  | imgCancel
  | imgApply
  | drainStart
  | tagWalkPiece (h : BitVec 8)
  | filterWalkPiece (h : BitVec 8)
  | imgCommit
  -- 06: regulation
  | throttleRise (p : BitVec 4) (qlevel : BitVec 4)
  | throttleFall (p : BitVec 4) (qlevel : BitVec 4)
  | holdAgeExpiry (port : BitVec 9) (tag : BitVec 10)
  | targetUnmet (sl : BitVec 7) (t : BitVec 2)
  | feedbackImplausible (p : BitVec 4)
  | restoreFeedback (p : BitVec 4)
  | qosArm
  | qosDiscard
  | qosApply
  -- 07: key retirement
  | keyRetire (k : BitVec 13) (fn : BitVec 12)
  | retireWalkPiece (h : BitVec 8)
  | keyZeroize (k : BitVec 13)
  | keyRetireForced (k : BitVec 13)
  | keyQuarantineEnd (k : BitVec 13)
  -- 08: reduce windows
  | mergeForward (die : BitVec 3) (i : BitVec 8)
  | windowOpened (w : BitVec 11)
  | windowConvert (w : BitVec 11)
  | windowComplete (w : BitVec 11)
  | windowDeadline (w : BitVec 11)
  -- 09: jobs and sequence memory
  | jobDescSubmit (f : BitVec 12) (tag : BitVec 10) (c : BitVec 7) (word7 : Reg)
  | traceEnable (f : BitVec 12) (tag : BitVec 10) (c : BitVec 7) (ctrl : Reg)
  | jobStart (id : Nat)
  | jobPiece (e : BitVec 5) (pick : Nat)
  | copy (id : Nat)
  | transcodeCopy (id : Nat)
  | gather (id : Nat)
  | scatterReduce (id : Nat)
  | embedBag (id : Nat)
  | kvAppend (id : Nat)
  | kvGather (id : Nat)
  | kvAge (id : Nat)
  | kvFork (id : Nat)
  | kvTruncate (id : Nat)
  | rekeyCopy (id : Nat)
  | zero (id : Nat)
  | scrub (id : Nat)
  | dirtyHarvest (id : Nat)
  | jobComplete (id : Nat)
  | pageWaitTimeout (id : Nat)
  | seqOpen (sl : BitVec 7)
  | seqWindowOpened (sl : BitVec 7)
  | seqClose (sl : BitVec 7)
  -- 10: links
  | dataFrameReceive (t : BitVec 6) (f : Frame)
  | ackReceive (t : BitVec 6) (f : Frame)
  | ackSend (n : BitVec 8) (path : BitVec 8)
  | rtoExpiry (n : BitVec 8) (msn : BitVec 32)
  | transferDeadlineExpiry (n : BitVec 8) (msn : BitVec 32)
  | readMessage (i : Nat)
  | writeMessage (i : Nat)
  | evictMessage (i : Nat)
  | atomicMessage (i : Nat)
  | contribMessage (i : Nat)
  | snoopMessage (i : Nat)
  | proxySnoopDeadline (id : Nat)
  | snoopRespMessage (i : Nat)
  | remoteSnoopTimeout (chip : BitVec 3) (id : Nat)
  | responseMessage (i : Nat)
  | performedMessage (i : Nat)
  | flushMessage (i : Nat)
  | flushDoneMessage (i : Nat)
  | remoteFlushTimeout (chip : BitVec 3) (die : BitVec 3)
  | herdChipLost (chip : BitVec 3)
  | linkUpRise (t : BitVec 6) (fast : Bool)
  | discoverySend (t : BitVec 6)
  | discoveryReceive (t : BitVec 6) (d : Discovery)
  | discoveryTimeout (t : BitVec 6)
  | linkDown (t : BitVec 6)
  | tineReturn (t : BitVec 6)
  | saActivate (n : BitVec 8)
  | saRetire (n : BitVec 8)
  | saRelease (n : BitVec 8)
  | saQuarantine (n : BitVec 8)
  | saFree (n : BitVec 8)
  | timeReqSend
  | timeReq (t : BitVec 6) (exch : BitVec 16) (chip : BitVec 3) (stamp : Reg) (rsvd : Bool)
  | timeResp (t : BitVec 6) (exch : BitVec 16) (stamp : Reg) (rsvd : Bool)
  | timeFollowUp (t : BitVec 6) (exch : BitVec 16) (t2 t3 : Reg) (rsvd : Bool)
  | timeExchangeTimeout (exch : BitVec 16)
  | chipJoin (refTick : Reg)
  | joinAlone
  -- 11: contexts, objects, fences
  | ctxCreate (f : BitVec 12) (tag : BitVec 10)
  | ctxLoad (f : BitVec 12) (tag : BitVec 10)
  | ctxUnload (f : BitVec 12) (tag : BitVec 10)
  | ctxAbandon (f : BitVec 12) (tag : BitVec 10)
  | ctxDestroy (f : BitVec 12) (tag : BitVec 10)
  | setKey (f : BitVec 12) (tag : BitVec 10)
  | objCreate (f : BitVec 12) (tag : BitVec 10)
  | objFree (f : BitVec 12) (tag : BitVec 10) (object : BitVec 22) (gen : BitVec 16)
  | objectDrained (object : BitVec 22)
  | objDrainedRead (f : BitVec 12) (tag : BitVec 10)
  | kfenceArm (f : BitVec 12) (tag : BitVec 10) (c : BitVec 7) (fence : BitVec 20)
  | ctxFpageCmd (cmd : Reg)
  | fenceRecordRepair (i : BitVec 20)
  | usageQuery (f : BitVec 12) (tag : BitVec 10) (ctx : BitVec 16)
  -- 12: vault
  | hoofprintReceived
  | rootTry (response : BitVec 3577)
  | rootRetry
  | enroll
  | allocate (k : BitVec 13) (fn : BitVec 12)
  | replace (k : BitVec 13) (fn : BitVec 12)
  | keyLoadSwap (k : BitVec 13) (differs : Option (BitVec 4))
  | loadAgreed (slot : BitVec 8) (peer : BitVec 4) (gen : BitVec 16)
  | loadImported (slot : BitVec 8)
  | loadNone (slot : BitVec 8)
  | offer (peer : BitVec 4)
  | accept (peer : BitVec 4)
  | forget (peer : BitVec 4)
  | slotCheckSweep (engine : BitVec 5) (k : BitVec 13) (checkOk corrected : Bool)
  | entropyHealthFail
  -- 13: faults and recovery
  | faultMessage (die : BitVec 3)
  | alertRelease
  | alertHoldClear
  | firstErrorClear
  | fltCountRead
  | mptErrCountRead (p : BitVec 4)
  | heartbeatMissed (u : BitVec 12)
  | unitCheckFailed (u : BitVec 12) (bridge : Option BridgeCheck)
  | homeSliceRecovery (name : BitVec 8)
  | mirrorCopyPiece (r : BitVec 3) (bad : Option (BitVec 12))
  | standInServe (r : BitVec 3)
  | stackRecovery (p : BitVec 4)
  | tineRecovery (t : BitVec 6)
  | keyEngineHandover (p : BitVec 4)
  | jobEngineRecovery (e : BitVec 5)
  | recoveryOverrun (r : BitVec 3)
  | offline (u : BitVec 12)
  | online (u : BitVec 12)
  | offlineDeadline (u : BitVec 12)
  | injectRaiseKind (u : BitVec 12) (kind : BitVec 8)
  | injectFlipOneBit (u : BitVec 12) (location : BitVec 36)
  | injectFlipTwoBits (u : BitVec 12) (location : BitVec 36)
  | dumpWrite (ok : Bool)
  | fltDumpDataRead
  -- 14: Fawn, start-up and the pair
  | fawnPowerOnReset
  | bootStoreRead (b : BootRead)
  | fabricGood (tp : BitVec 256) (mp : BitVec 16) (lp : BitVec 64)
  | fabricGoodTimeout
  | selfTestComplete (failed : List (BitVec 12))
  | initializationComplete
  | fclkPoint (arg : BitVec 4)
  | fabricRetention
  | fabricNominal
  | fabricOff
  | supplyRemove
  | fwOpen
  | fwData (d : Reg)
  | fwClose
  | fwCheckComplete
  | fwStart
  | fwArm
  | fwCancel
  | fwHandover
  | fawnHeartbeat
  | fwRevert
  | fawnFailed
  | dozeRequest
  | dozeSelfRefreshCheck (acks : BitVec 16)
  | standbyRequest
  | wake (src : WakeSource)
  | wakeComplete (trained : BitVec 16)
  | pairSync
  | pairTakeover
  | mirrorSetSend
  | mirrorFrame (t : BitVec 6) (f : Frame)
  | mirrorSetApply
  | pairMirrorLag
  | pairPartnerLost
  -- 15: observability
  | traceLineWrite (c : BitVec 7)
  | wfgAssemble
  | wfgReady
  | obsWfgDataRead
  | globalStop
  | stopSettled
  | stopResume
  | stopMaxTicks
  | stopDisarm
  | powerRemoval
  | entropyTestsPass
  | enrollComplete (stable cells : BitVec 8192)
  | dumpComplete
  | egressTimestamp (t : BitVec 6) (id : BitVec 8) (stamp : Reg) (phase : BitVec 10)
  | grantAbove8 (p : BitVec 4) (grant : BitVec 4)
  deriving DecidableEq, Repr

end Sys2Proof
end

