-- ==== Sys2Proof/Config.lean ====
section
/-! DEFINITION. What the spec takes from published standards or leaves open, as free functions: nothing in Lean can
evaluate them (log entries 8 and 9). A function applied to `State.freeCount` gives a fresh value at each use. -/

namespace Sys2Proof.Config

/-- SHA-384 of a byte string (04 R130). -/
opaque sha384 : List Byte → Digest
/-- AES-256 of a 16 B block (07 R215, R219), bytes little-endian in key and block: FIPS 197's cipher, which the spec names and
does not restate. -/
opaque aes256 : BitVec 256 → BitVec 128 → BitVec 128
/-- The inverse cipher of `aes256` (07 R215). -/
opaque aes256Inv : BitVec 256 → BitVec 128 → BitVec 128
/-- The DRBG's next 256 bits (12 R360). -/
opaque drbg : Nat → BitVec 256
/-- The word of the BCH code of 12 R362 within 30 errors of a received one, where there is one (12 R363): the narrow-sense primitive
binary code of length 511 and designed distance 61. -/
opaque bchDecode : BitVec 511 → Option (BitVec 511)
/-- The word of that code with given information bits (12 R366). -/
opaque bchEncode : BitVec 259 → BitVec 511
/-- The P-384 public key of a private key's derivation bits, SEC 1 uncompressed (12 R367, R377). -/
opaque publicKey : BitVec 832 → List Byte
/-- A deterministic ECDSA P-384 signature, r then s, big-endian (12 R382): key bits, message. -/
opaque ecdsaSign : BitVec 832 → List Byte → List Byte
/-- Whether a signature verifies under the public key of a certificate (12 R378). -/
opaque ecdsaVerify : List Byte → List Byte → List Byte → Bool
/-- Whether a certificate verifies under a public key (12 R378). -/
opaque certVerify : List Byte → List Byte → Bool
/-- The ECDH x-coordinate (12 R378): private key bits, public key. -/
opaque ecdh : BitVec 384 → List Byte → List Byte
/-- The certificates of 12 R383: identity key bits, subject public key, extra fields. -/
opaque certificate : BitVec 832 → List Byte → List Byte → List Byte
/-- The PKCS#10 request of 12 R366. -/
opaque pkcs10 : BitVec 832 → List Byte
/-- The public key of the last certificate of an identity chain (12 R381). -/
opaque chainKey : List Byte → List Byte
/-- The first certificate of a chain, its root (12 R384). -/
opaque rootCert : List Byte → List Byte
/-- AES-KWP unwrapping (12 R380): wrapping key, wrapped bytes. -/
opaque kwpUnwrap : BitVec 256 → List Byte → Option (List Byte)
/-- The ICV of a frame under a link key and packet number (10 R309, R312). -/
opaque gcmIcv : BitVec 384 → Nat → Frame → BitVec 128
/-- Which of the allowed ways the pseudo-LRU order names (05 R154): the use count and the number of ways. -/
opaque victim : Nat → Nat → Nat
/-- The element format a tile's contribution to another chip travels with, which 10 R315 names and no rule gives. -/
opaque contribFormat : Nat → Nat
/-- A fresh value for bits the spec leaves undefined: the destination of an overlapping COPY (09 R294), the version bits of
log entries 16 and 21. -/
opaque undefinedLine : Nat → Line
/-- The SPDM 1.3 signature input and other fields DSP0274 lays out, as one byte string (12 R385). -/
opaque spdmBody : Nat → List Byte → List Byte

/-- The version of an MCTP message type that the block supports (02 R72), which no rule gives. -/
opaque mctpVersion : Nat → Nat

/-- The fclk within its tick of an event that a unit enters in its ring (15 R470): the tick, the unit, the ring before it. A command
does not say when within a tick it arrives (log entry 191). -/
opaque eventFclk : Nat → Nat → List (BitVec 128) → BitVec 12

/-- The ns since the boundary at which a frame arrives in a global stop (15 R474): the tine, the tick, the frames before it
(log entry 191). -/
opaque arrivalNs : Nat → Nat → Nat → Fin 1000

/-- The PLDM terminus ID (14 R443), which no rule gives. -/
opaque tid : Nat → Nat

end Sys2Proof.Config
end

