-- ==== Sys2Proof/Machine/State.lean ====
section
/-! DEFINITION. The state of the block: every register, table, buffer and counter the spec names, as plain data.
A field's default is its reset value (16 R484, R485; where the spec gives none, log entry 5). INVENTORY.md lists
each with its rule. Tables are sparse: an unlisted key reads as the entry's reset value. -/

namespace Sys2Proof.Machine

/-- The statuses of 00 R15, in the order of their codes. -/
inductive Status where
  | ok | retry | deferred | refused | poison | denied | stale | lost | timeout
  deriving DecidableEq, Repr

/-- Whom a request answers. `internal` is block-internal work (03 R101) with a purpose number and an argument. -/
inductive Origin where
  | tile (port tag : Nat)
  | host (tag fn : Nat)
  | job (id : Nat)
  | remote (sa xid chip : Nat)
  | proxy (id : Nat)
  | window (w : Nat)
  | trace (slot : Nat)
  | internal (what arg : Nat)
  deriving DecidableEq, Repr

/-- Transfers on the output channels, oldest first in `State.out` (log entry 1). -/
inductive Output where
  | tileRsp (port tag : Nat) (st : Status) (granted : Nat) (data : Line)
  | tileSnp (port ty id addr : Nat)
  | hostRsp (tag : Nat) (st : Status) (data : Line)
  | hostIrq (fn vec : Nat)
  | kbAck (seq : Nat) (st : Status)
  | mgRsp (tag : Nat) (st : Status) (data : Reg)
  | mgIrq (vec : Nat)
  | memReq (port : Nat) (write : Bool) (tag addr mask : Nat) (data : Line) (sb : BitVec 128)
  | selfRefresh (port : Nat) (req : Bool)
  | tineTx (tine : Nat) (f : Frame)
  | discovery (tine : Nat) (d : Discovery)
  | timeTx (tine code exch t2 t3 : Nat) (tsId : Option Nat)
  | xoff (tine : Nat) (mask : BitVec 8)
  | powerReq (op arg : Nat)
  | bootCmd (cmd : Nat)
  | sideband (code : Nat) (args : List Nat)
  | testCapture (code : Nat) (value : BitVec 32)
  | testScan (bits : List Bool)
  | testDrive (bits : List Bool)
  | testAccess (inst : Nat) (write : Bool) (data : Reg)
  | tick (offset : BitVec 16) (valid : Bool)
  | bootPins (wpN rstN : Bool)
  | faultPin (alertN : Bool) (cls : Nat)
  deriving DecidableEq, Repr

/-! ### 01: clocks, tick, power -/

/-- BLK_CLOCK, BLK_TICK, BLK_TICK_OFFSET, BLK_POWER (01 R36 to R48). `power`: 0 Standby, 1 Doze, 2 Active, 3 Off. -/
structure Blk where
  fclkPoint : Nat := 8
  fclkLimit : Nat := 0
  timebaseOk : Bool := false
  fclkChange : Option Nat := none
  fclkSince : Nat := 0
  fclkWanted : Option Nat := none
  tick : Nat := 0
  tickRunning : Bool := false
  offsetNs : BitVec 16 := 0
  offsetTick : Option Nat := none
  offsetHighTicks : Nat := 0
  offsetRaised : Bool := false
  power : Nat := 2
  powerRequest : Nat := 2
  requestRefused : Bool := false
  powerPending : Bool := false
  coolTicks : Nat := 0
  hotTicks : Nat := 0
  throttling : Bool := false
  parked : Bool := false
  tripped : Bool := false
  deriving DecidableEq, Repr

/-! ### 02: ports -/

/-- BLK_PORT_STATE and the watch of one port (02 R82 to R88). `state`: 0 reset, 1 up, 2 isolated, 3 absent. -/
structure PortSt where
  state : Nat := 0
  cause : Nat := 0
  reenable : Bool := false
  reenableRefused : Bool := false
  isolateTick : Nat := 0
  errs : Nat := 0
  gap : Bool := false
  heldTags : List Nat := []
  holdEnd : Nat := 0
  deriving DecidableEq, Repr

/-- The first beat of a two-beat opcode (02 R55). -/
structure Beat where
  tag : Nat
  addr : Nat
  tc : Nat
  data : Sector
  bad : Bool
  deriving DecidableEq, Repr

/-- A tile port (02 R54 to R57, 15 R462, 10 R323). `snoopHomes`: the home that last sent a snoop under an identifier (05 R175). -/
structure TileSt where
  tags : List Nat := []
  beat : Option Beat := none
  marker : BitVec 32 := 0
  lastSlice : Nat := 0
  snoopId : Nat := 0
  snoopHomes : Map Nat := []
  deriving DecidableEq, Repr

/-- A binding of a slot to a range of tile ports (02 R68, R69, 11 R342). `ending`: the sequence number and tick of an END. -/
structure Binding where
  first : Nat
  count : Nat
  lost : Bool := false
  ending : Option (Nat × Nat) := none
  deriving DecidableEq, Repr

/-- The test port (02 R80, R81). `boundary`: the boundary register, one bit for each signal of the block in its scan order. -/
structure TestPort where
  ir : BitVec 8 := 0x01
  idcode : BitVec 32 := 0
  factory : Bool := false
  boundary : List Bool := []
  deriving DecidableEq, Repr

/-- What a memory request is for: a fill of a transaction, a write-back of a home's write buffer, the read or write
of an ATOMIC_MEM, a step of a guarded operation, a line of the ownership table for a home (03 R100), an internal rewrite. -/
inductive MPurpose where
  | fill (txn : Nat)
  | flushed (home line : Nat)
  | atomRead (txn : Nat)
  | atomWrite (txn : Nat)
  | guard (id step : Nat)
  | scrub (job line : Nat)
  | own (home tl : Nat)
  | rewrite
  deriving DecidableEq, Repr

/-- A request at a memory port, waiting or outstanding under a tag (02 R60, R62, 06 R207).
`mask` names sectors; `cipher` and `sb` are what a write stores; `slice` 0 with `internal` for block-internal work. -/
structure MemReq where
  tag : Nat := 0
  write : Bool := false
  line : Nat := 0
  mask : Nat := 3
  key : Nat := 0
  slice : Nat := 0
  tc : Nat := 2
  internal : Bool := false
  purpose : MPurpose := .rewrite
  cipher : Line := 0
  sb : BitVec 128 := 0
  since : Nat := 0
  deriving DecidableEq, Repr

/-- A memory port and its regulation (02 R60 to R63, 06 R200 to R209, 07 R238, R247). `grant` is mp_wr_grant as last driven
from 0 to 8, `grantBad` that the cycle just past drove 9 to 15 (02 R61). -/
structure MemPort where
  trained : Bool := false
  trainedFell : Option Nat := none
  healthy : Bool := false
  srReq : Bool := false
  srAck : Bool := false
  grant : Nat := 8
  grantBad : Bool := false
  tags : List MemReq := []
  waiting : List MemReq := []
  qlevel : Nat := 0
  throttle : Nat := 0
  limitStage : Nat := 0
  limitUsed : Nat := 0
  implausible : Bool := false
  restore : Bool := false
  rtt : Nat := 0
  rttSum : Nat := 0
  rttCount : Nat := 0
  qMax : Nat := 0
  qMin : Nat := 0
  outMax : Nat := 0
  rttBadTicks : Nat := 0
  qBadTicks : Nat := 0
  goodTicks : Nat := 0
  corrected : Nat := 0
  uncorrectable : Nat := 0
  tagFailed : Nat := 0
  tagFailTick : Nat := 0
  locks : List (Nat × Nat) := []
  lockWaiters : List Nat := []
  feeder : Option Nat := none
  deriving DecidableEq, Repr

/-- A request held at an origin port's gate (06 R198, R199). `port` is the port index; the request is kept whole. -/
structure HeldReq where
  port : Nat
  tag : Nat
  tc : Nat
  age : Nat := 0
  cmd : Instr
  deriving DecidableEq, Repr

/-- A request of a tile port or the host port that has no final answer yet (06 R190, R208): its slice, the class it is served as,
the tick of its transfer, whether it is a read of R190, whether it has been held, and the tick in which it is served as aged. -/
structure OpenReq where
  port : Nat
  tag : Nat
  slice : Nat
  tc : Nat
  since : Nat := 0
  read : Bool := false
  held : Bool := false
  aged : Option Nat := none
  deriving DecidableEq, Repr

/-! ### 03: ownership, functions, views -/

/-- An ownership entry (03 R98). `gstate`: 0 FREE, 1 ASSIGNED, 2 QUARANTINED, 3 CLEANING. -/
structure OwnEntry where
  slice : Nat := 0
  fn : Nat := 0
  key : Nat := 0
  fmt : Nat := 0
  guarded : Bool := false
  dirtyLog : Bool := false
  rd : Bool := false
  wr : Bool := false
  amo : Bool := false
  host : Bool := false
  sliceWide : Bool := false
  pub : Bool := false
  gstate : Nat := 0
  group : Nat := 0
  deriving DecidableEq, Repr

/-- A share group's masks (03 R104). -/
structure Share where
  members : BitVec 128 := 0
  writers : BitVec 128 := 0
  deriving DecidableEq, Repr

/-- Why a granule is CLEANING: ASSIGN's zeros, RELEASE's discard, the discard before RESET with erase. -/
inductive CleanKind where
  | zeroing | discard | eraseDiscard
  deriving DecidableEq, Repr

/-- A granule in CLEANING, in the order its command was applied (03 R107, 09 R280). -/
structure CleanSt where
  granule : Nat
  kind : CleanKind
  lines : Nat := 0
  done : Bool := false
  forCmd : Bool := false
  deriving DecidableEq, Repr

/-- A pending ownership command (03 R107, R108) with the argument register taken at its write. -/
structure OwnCmd where
  op : Nat
  first : Nat
  count : Nat
  fn : Nat
  arg : Reg
  deriving DecidableEq, Repr

/-- The SLC window (03 R105 to R110). `badLines`: the lines of the ownership table whose last read failed (03 R102). -/
structure SlcWin where
  arg : Reg := 0
  pending : Option OwnCmd := none
  busy : Bool := false
  result : Nat := 0
  applyTick : Nat := 0
  share : Map Share := []
  shareStaged : Map Share := []
  badLines : List Nat := []
  deriving DecidableEq, Repr

/-- Steps of RESET with erase and REMOVE after the contexts are lost (03 R117, R118). -/
inductive TearDown where
  | none | draining | discarding | retiring | cleaning
  deriving DecidableEq, Repr

/-- FNC_CFG, FNC_CMD, FNC_STATUS and JOB_FN_QUEUE of a function (03 R111, R112, 09 R302). -/
structure FncRec where
  slice : Nat := 0
  harvest : Bool := false
  ctxSlots : Nat := 0
  keySlots : Nat := 0
  jobShare : Nat := 0
  deadline : Nat := 0x40
  harvestPending : Option Bool := none
  pending : Option (Nat × Bool) := none
  state : Nat := 0
  busy : Bool := false
  result : Nat := 0
  stateTick : Nat := 0
  quiesceTick : Nat := 0
  forced : Bool := false
  erase : Bool := false
  tear : TearDown := .none
  jobDepth : Nat := 0
  deriving DecidableEq, Repr

/-- The per-function registers of a view window (03 R123 to R127, 09 R283, 11 R357). -/
structure View where
  nonce : BitVec 256 := 0
  reportPending : Bool := false
  ready : Bool := false
  refused : Bool := false
  vec : Nat := 0
  latched : BitVec 256 := 0
  captured : Option (List Byte × Nat) := none
  report : List Byte := []
  jobDesc : Map Reg := []
  ctxArg0 : Reg := 0
  ctxArg1 : Reg := 0
  ctxPending : Option (Nat × Reg × Reg × Nat) := none
  ctxStatus : Reg := 0
  objArg : Reg := 0
  objPending : Option (Nat × Nat × Nat × Reg × Nat) := none
  objStatus : Reg := 0
  drained : List (Nat × Nat) := []
  drainedOverflow : Bool := false
  usageCtx : Nat := 0
  usagePending : Bool := false
  usageReady : Bool := false
  usageRefused : Bool := false
  usage : List Nat := [0, 0, 0, 0, 0, 0]
  deriving DecidableEq, Repr

/-! ### 04: the image -/

/-- BLOCK record (04 R131). -/
structure BlockRec where
  ownBase : Nat := 0
  dirtyBase : Nat := 0
  ctxBase : Nat := 0
  dumpBase : Nat := 0
  dumpMib : Nat := 0
  pairRole : Nat := 0
  tineA : Nat := 0
  tineB : Nat := 0
  herdChip : Nat := 0
  herdMembers : Nat := 0
  crossDie : Bool := false
  alertClasses : Nat := 0
  ethertype : Nat := 0
  herdId : BitVec 64 := 0
  partnerId : BitVec 128 := 0
  deriving DecidableEq, Repr

/-- SLICE record (04 R131). -/
structure SliceRec where
  ctxTotal : Nat := 0
  keyTotal : Nat := 0
  saTotal : Nat := 0
  jobTotal : Nat := 0
  tcAllowed : Nat := 0
  allowPublic : Bool := false
  cryptoReq : Bool := false
  bw : List Nat := [0, 0, 0, 0]
  lat : List Nat := [0, 0, 0, 0]
  weight : Nat := 0
  deriving DecidableEq, Repr

/-- A way entry of a HOME record: slice and 16-bit way mask (04 R131). -/
structure WayEntry where
  slice : Nat
  mask : Nat
  valid : Bool
  deriving DecidableEq, Repr

/-- HOME record (04 R131). -/
structure HomeRec where
  excl : Bool := false
  owner : Nat := 0
  ways : List WayEntry := []
  deriving DecidableEq, Repr

/-- STACK record (04 R131). -/
structure StackRec where
  use : Nat := 2
  owner : Nat := 0
  populated : Nat := 0
  deriving DecidableEq, Repr

/-- TINE record (04 R131). -/
structure TineRec where
  use : Nat := 3
  owner : Nat := 0
  peerKind : Nat := 0
  peerChip : Nat := 0
  peerTine : Nat := 0
  udp : Bool := false
  deriving DecidableEq, Repr

/-- JOB record (04 R131). -/
structure JobRec where
  use : Nat := 2
  owner : Nat := 0
  deriving DecidableEq, Repr

/-- A GRANULE run (04 R131). -/
structure GranRun where
  first : Nat
  count : Nat
  slice : Nat
  guarded : Bool
  deriving DecidableEq, Repr

/-- URGENCY record (04 R131). -/
structure UrgRec where
  slice : Nat := 0
  master : Nat := 0
  tine : Nat := 0
  deriving DecidableEq, Repr

/-- A configuration: what the records of an image define (04 R131 to R135). -/
structure ImgCfg where
  block : BlockRec := {}
  slices : Map SliceRec := []
  homes : Map HomeRec := []
  stackTab : Map StackRec := []
  tines : Map TineRec := []
  jobs : Map JobRec := []
  runs : List GranRun := []
  urgs : Map UrgRec := []
  deriving DecidableEq, Repr

/-- A VALID or ARMED image: its kind, commit tick, drain lead, digests and the configuration it produces (04 R130). -/
structure Staged where
  delta : Bool
  commitTick : Nat
  drainLead : Nat
  base : Digest
  result : Digest
  cfg : ImgCfg
  slicesTouched : List Nat
  deriving DecidableEq, Repr

/-- The drain of a home slice (04 R144): the name it served, ways walked, tag cursor, filter cursor, recalls' end, and the ticks of
the last pieces. -/
structure DrainSt where
  home : Nat
  name : Nat := 0
  ways : Nat := 0
  lostWays : List (Nat × Nat) := []
  tagCur : Nat := 0
  filter : Bool := false
  filterCur : Nat := 0
  recallEnd : Option Nat := none
  tagTick : Option Nat := none
  filterTick : Option Nat := none
  deriving DecidableEq, Repr

/-- What happened to the image in a tick, for the mirror chip (04 R148): 1 ARM, 2 CANCEL, 3 commit, 4 failed commit. -/
structure ImgEvent where
  op : Nat
  result : Nat := 0
  tick : Nat := 0
  digest : Digest
  stream : List Byte := []
  deriving DecidableEq, Repr

/-- The IMG window and the active configuration (04 R137 to R146). `state` as IMG_STATUS codes it. `dueTick`: the last boundary
at which a structural commit was armed (01 R35). `closing`: CANCEL has ended a drain whose marks stand until the next boundary
(04 R146). -/
structure Img where
  staging : List Byte := []
  state : Nat := 0
  result : Nat := 0
  kind : Bool := false
  drainWorst : Nat := 0
  errOffset : Nat := 0
  errType : Nat := 0
  lastCommit : Nat := 0
  activeDigest : Digest := 0
  measure : Digest := 0
  bootDigest : Digest := 0
  stagedDigest : Digest := 0
  staged : Option Staged := none
  applyPending : Bool := false
  applied : Bool := false
  active : ImgCfg := {}
  drain : List DrainSt := []
  movingSlices : List Nat := []
  before : ImgCfg := {}
  touched : List Nat := []
  dueTick : Option Nat := none
  closing : Bool := false
  events : List ImgEvent := []
  deriving DecidableEq, Repr

/-! ### 05: home slices -/

/-- A line of the LLC (05 R152). `poison` bit k is sector k; `dirtySeq` orders the dirty lines of a home by age. -/
structure LlcLine where
  line : Nat
  slice : Nat
  key : Nat
  dirty : Bool := false
  dirtySeq : Nat := 0
  poison : Nat := 0
  data : Line
  deriving DecidableEq, Repr

/-- A snoop-filter entry (05 R152, R157). -/
structure FiltEntry where
  st : Nat := 0
  owner : Nat := 0
  sharers : BitVec 64 := 0
  remotes : BitVec 8 := 0
  remoteOwner : Option Nat := none
  slice : Nat := 0
  age : Nat := 0
  deriving DecidableEq, Repr

/-- A mirror-array entry (05 R152). -/
structure MirrorEnt where
  slice : Nat
  key : Nat
  poison : Nat := 0
  data : Line
  deriving DecidableEq, Repr

/-- A place of the retry queue (05 R168): origin index, tag, and the tick its reservation was made. -/
structure RetryEnt where
  origin : Nat
  tag : Nat
  reserved : Option Nat := none
  deriving DecidableEq, Repr

/-- An entry of the write buffer toward memory (05 R152). -/
structure WbEnt where
  line : Nat
  slice : Nat
  key : Nat
  mask : Nat := 3
  poison : Nat := 0
  data : Line
  issued : Bool := false
  job : Option Nat := none
  deriving DecidableEq, Repr

/-- A home slice (05 R152, R182). `role` as HSL_STATUS codes it; lines are keyed by set * 16 + way. `ownLines`: the table lines
of 16 ownership entries it caches, oldest first (03 R100). `retireCur`: the next piece of the retirement walk, of the keys marked in
tick `retireMark`; `retireRun` of its pieces have run in tick `retireTick` (07 R232). -/
structure HomeSt where
  role : Nat := 0
  standsFor : Nat := 0
  mirrorOk : Bool := true
  epoch : Nat := 0
  lines : Map LlcLine := []
  filter : Map FiltEntry := []
  mirror : Map MirrorEnt := []
  ackLog : List (Origin × BitVec 64) := []
  retryQ : List RetryEnt := []
  wbuf : List WbEnt := []
  disabled : List Nat := []
  tagErrs : List (Nat × Nat) := []
  dirtyClock : Nat := 0
  retireCur : Nat := 0
  retireMark : Nat := 0
  retireTick : Nat := 0
  retireRun : Nat := 0
  heldSets : List Nat := []
  ownLines : List Nat := []
  deriving DecidableEq, Repr

/-- HSL_HOME_TIMEOUT (05 R173). -/
structure HomeTimeout where
  localTicks : Nat := 4
  remoteTicks : Nat := 6
  deriving DecidableEq, Repr

/-- What a home transaction does (05 R162, R166). -/
inductive TOp where
  | rdShared | rdUnique | rdOnce | read | write | atomicHome | atomicMem | evictDirty | evictClean | recall | discard
  deriving DecidableEq, Repr

/-- A snoop that has not been answered: to a tile port, or to a chip of the herd. -/
structure Snoop where
  port : Nat
  chip : Bool := false
  id : Nat
  ty : Nat
  since : Nat
  missed : Bool := false
  deriving DecidableEq, Repr

/-- Where a transaction stands: waiting for its line of the ownership table (03 R100), behind an earlier one of its line, waiting for snoops, for data of memory or of another
chip, for the scale sector of a transcoding read, for the write-back of a line (`waitLine`), for the memory side. -/
inductive Phase where
  | table | behind | snooping | reading | scale | waiting | atMemory
  deriving DecidableEq, Repr

/-- A tracker entry (05 R167): one request in progress at a home. `cls`: 0 general, 1 eviction, 2 retry, 3 remote. `checked`: it
has waited for its line of the ownership table, which `gateFn`, the function it acts for, is then judged with (03 R100). `foreign`:
a proxy's copies of another slice are recalled before the remote home judges the request (02 R90). `lvl`: the level its origin stamped
on it (06 R191); `tine`: the tine it was received on; `aged`: the tick in which it is served as in budget (06 R199). `seq`: a RD_SEQ being translated,
its sequence address, and whether its sequence entry has been read (09 R298). -/
structure Txn where
  id : Nat
  home : Nat
  line : Nat
  op : TOp
  origin : Origin
  slice : Nat := 0
  fn : Nat := 0
  tc : Nat := 2
  cls : Nat := 0
  key : Nat := 0
  fmt : Nat := 0
  be : BitVec 128 := 0
  data : Line := 0
  sector : Nat := 0
  atom : Nat × Bool × BitVec 64 × BitVec 64 := (0, false, 0, 0)
  alloc : Bool := false
  dirtyBit : Bool := false
  phase : Phase := .behind
  snoops : List Snoop := []
  got : Option Line := none
  gotDirty : Bool := false
  poison : Nat := 0
  fwd : Bool := false
  start : Nat := 0
  ctx : Option Nat := none
  hostPort : Bool := false
  internal : Bool := false
  held : Bool := false
  overB : Bool := false
  bypassed : Bool := false
  absorbed : Bool := false
  parBad : Bool := false
  waitLine : Option Nat := none
  scale : Option (Line × Nat) := none
  msn : Option (Nat × Nat) := none
  mark : Bool := false
  gateFn : Option Nat := none
  checked : Bool := false
  foreign : Bool := false
  lvl : Nat := 0
  tine : Option Nat := none
  aged : Option Nat := none
  seq : Option (Nat × Bool) := none
  deriving DecidableEq, Repr

/-- A flush by FLUSH_HOME of a name, or the remote flush of a die (05 R176, R181, 10 R325). -/
structure Flush where
  name : Nat
  home : Nat
  start : Nat
  ports : List Nat := []
  chips : List Nat := []
  set : Option Nat := none
  standIn : Bool := false
  written : List Nat := []
  deriving DecidableEq, Repr

/-! ### 06: regulation -/

/-- QOS_CLASS of a slice and class (06 R211). -/
structure QosClass where
  bw : Nat := 0
  lat : Nat := 0
  deriving DecidableEq, Repr

/-- QOS_SLICE of a slice (06 R211). -/
structure QosSlice where
  weight : Nat := 0
  occCap : Nat := 0
  slotMin : Nat := 0
  slotMax : Nat := 0
  loadRate : Nat := 0
  deriving DecidableEq, Repr

/-- QOS_MEASURE of a slice and class (06 R211, R192). -/
structure QosMeasure where
  latency : Nat := 0
  ramp : Nat := 0
  unmet : Bool := false
  scaled : Bool := false
  served : Nat := 0
  servedNow : Nat := 0
  deriving DecidableEq, Repr

/-- The ramp of one die, slice and class (06 R191, R192). -/
structure Ramp where
  k : Nat := 0
  below : Nat := 0
  high : Nat := 0
  latest : Nat := 0
  deriving DecidableEq, Repr

/-- An urgency input (06 R211). -/
structure Urgency where
  level : Nat := 0
  floating : Bool := false
  at7 : Nat := 0
  raised : Bool := false
  deriving DecidableEq, Repr

/-- The QOS window (06 R211, R212) and the regulators' bookkeeping. Keys: class s*4+t; ramp (die*128+s)*4+t;
used instance*512 + s*4+t with instances 0-15 memory ports, 16-151 home reads, 152-287 home writes, 288-351 tines, 352 jobs;
snapLost: die*128+s of the snapshots of the ended tick that cannot be read (06 R213). `fclk`: fclk_per_tick at the last refill (R185),
`lats`: L of the ended tick by ramp key, `jobUsed`: engine time by function, `tineUse`: the instances that traffic received on a tine
has used (R194), by instance*64 + tine. -/
structure Qos where
  holdRate : Nat := 0xC
  holdAge : Nat := 8
  rampDown : Nat := 4
  rttLimit : Nat := 0x7D0
  armed : Bool := false
  armResult : Nat := 0
  armTick : Nat := 0
  armApplyTick : Nat := 0
  classes : Map QosClass := []
  classesStaged : Map QosClass := []
  slices : Map QosSlice := []
  slicesStaged : Map QosSlice := []
  measure : Map QosMeasure := []
  ramps : Map Ramp := []
  latDone : Map (Nat × Nat) := []
  urgency : Map Urgency := []
  used : Map Nat := []
  usedPrev : Map Nat := []
  overB : List Nat := []
  snapLost : List Nat := []
  ctxLoads : Map Nat := []
  fclk : Nat := 1024
  lats : Map Nat := []
  jobUsed : Map Nat := []
  tineUse : List Nat := []
  tineUsePrev : List Nat := []
  deriving DecidableEq, Repr

/-! ### 07: memory protection -/

/-- A memory key slot (07 R229, 12 R370 to R374, R388). `state`: 0 FREE, 1 ACTIVE, 2 RETIRING, 3 QUARANTINED. `fromFn`: staged or
retired by RESET or REMOVE, `doomed`: held by a function that REMOVE made FREE and not yet marked (03 R118). -/
structure KeySt where
  state : Nat := 0
  usage : Nat := 0
  unusable : Bool := false
  slice : Nat := 0
  staged : Bool := false
  fn : Nat := 0
  loadCount : Nat := 0
  material : BitVec 832 := 0
  staging : BitVec 832 := 0
  stagedTick : Nat := 0
  markTick : Nat := 0
  zeroTick : Nat := 0
  walked : List Nat := []
  fromFn : Bool := false
  doomed : Bool := false
  deriving DecidableEq, Repr

/-- The MPT window (07 R246, R247). -/
structure Mpt where
  keyPending : Option (Nat × Nat × Nat) := none
  keyResult : Nat := 0
  lastZeroized : Nat := 0
  lostMask : BitVec 16 := 0
  suspects : List Nat := []
  rebuilt : Nat := 0
  rebuiltNow : Nat := 0
  deriving DecidableEq, Repr

/-- What a guarded operation does (07 R238 to R243): a write with Δ, a write on the reconstruct path, a rebuild for a
read, a parity rewrite. -/
inductive GKind where
  | delta | reconstruct | rebuild | parityFix | check | full
  deriving DecidableEq, Repr

/-- A guarded operation on stripe `stripe` (group * 32768 + offset) for the sector of data port `port`.
`acc` is the XOR gathered so far: ciphertext, then tag, poison and version as sideband [61:32]. `job`, `since`: the job whose write it
is and the tick in which it came to the stripe (07 R239). -/
structure GuardOp where
  id : Nat
  kind : GKind
  port : Nat
  stripe : Nat
  key : Nat := 0
  slice : Nat := 0
  tc : Nat := 2
  step : Nat := 0
  cipher : Sector := 0
  side : BitVec 32 := 0
  accC : Sector := 0
  accS : BitVec 32 := 0
  waitFor : List Nat := []
  locked : Bool := false
  home : Nat := 0
  cause : Nat := 0
  reader : MPurpose := .rewrite
  failed : Bool := false
  bad : List Nat := []
  job : Option Nat := none
  since : Nat := 0
  deriving DecidableEq, Repr

/-! ### 08: reduce windows -/

/-- A shadow line: 32 values and the two arrival counts (08 R268). -/
structure Shadow where
  vals : List (BitVec 32) := []
  lo : Nat := 0
  hi : Nat := 0
  deriving DecidableEq, Repr

/-- A reduce window (08 R264 to R271). `state`: 0 FREE, 1 OPENING, 2 OPEN, 3 CONVERTING. -/
structure Window where
  state : Nat := 0
  slice : Nat := 0
  fn : Nat := 0
  ctx : Nat := 0
  lastReason : Nat := 0
  inFmt : Nat := 0
  outFmt : Nat := 0
  round : Bool := false
  sat : Bool := false
  count : Nat := 0
  fence : Nat := 0
  fenceValue : Reg := 0
  base : Nat := 0
  outBase : Nat := 0
  blocks : Nat := 0
  deadline : Nat := 0
  openTick : Nat := 0
  origin : Origin := .internal 0 0
  recalls : List Nat := []
  shadows : Map Shadow := []
  converted : Nat := 0
  writes : List Nat := []
  failed : Bool := false
  redo : List (Nat × Line × BitVec 128) := []
  keys : List Nat := []
  deriving DecidableEq, Repr

/-- A merge entry of a die (08 R273). -/
structure Merge where
  addr : Nat
  slice : Nat
  fn : Nat
  int : Bool
  vals : List (BitVec 32)
  count : Nat
  peers : List (Nat × Nat)
  deriving DecidableEq, Repr

/-- The reduce registers and windows (08 R276); windows by ID, merge entries by die. -/
structure RwState where
  shadowWays : Nat := 2
  mergeHold : Nat := 0x40
  seeds : Map Reg := []
  limits : Map Nat := []
  windows : Map Window := []
  merge : Map (List Merge) := []
  deriving DecidableEq, Repr

/-! ### 09: jobs and sequences -/

/-- A job: its descriptor, its context, where it runs and its cursors (09 R278 to R293).
`buf` holds the lines read for the piece in hand, `acc` the accumulators of EMBED_BAG; `unread`: the engine's cursor or
buffer has an uncorrectable error (09 R303). -/
structure Job where
  id : Nat
  desc : List Reg
  ctx : Nat
  fn : Nat
  slice : Nat
  tc : Nat := 2
  port : Nat := 0
  engine : Option Nat := none
  started : Nat := 0
  firstTick : Option Nat := none
  cur : Nat := 0
  sub : Nat := 0
  buf : Map (Line × Nat) := []
  reads : List Nat := []
  writes : List Nat := []
  redo : List (Nat × Line × BitVec 128 × Bool × Bool) := []
  acc : List (BitVec 32) := []
  holds : List Nat := []
  seqPage : Option Nat := none
  waitSince : Option Nat := none
  ended : Option Nat := none
  paused : Bool := false
  age : Nat := 0
  aged : Option Nat := none
  unread : Bool := false
  deriving DecidableEq, Repr

/-- A job engine (09 R302). -/
structure EngineSt where
  offline : Bool := false
  epoch : Nat := 0
  cleanedTick : Option Nat := none
  deriving DecidableEq, Repr

/-- A sequence entry (09 R297). -/
structure SeqEnt where
  valid : Bool := false
  busy : Bool := false
  length : Nat := 0
  dir : Nat := 0
  deriving DecidableEq, Repr

/-- A page-table entry (09 R297). -/
structure PageEnt where
  page : Nat := 0
  half : Bool := false
  fmt : Nat := 0
  valid : Bool := false
  deriving DecidableEq, Repr

/-- A sequence window (09 R296 to R302); page-table entries by sequence * 2048 + logical page, counts by page. `qHead`: the place of
the free queue's head in its table; `tab`: the table lines written since OPEN; `unsaved`: the records changed and not yet written to
the region: 0 a sequence entry, 1 a page-table entry, 2 a count, 3 a place of the free queue. -/
structure SeqWin where
  first : Nat := 0
  granules : Nat := 0
  fmt : Nat := 2
  shift : Nat := 0
  seqFirst : Nat := 0
  seqCount : Nat := 0
  pending : Option Nat := none
  state : Nat := 0
  result : Nat := 0
  entries : Map SeqEnt := []
  pages : Map PageEnt := []
  counts : Map Nat := []
  free : List (Nat × Nat) := []
  halfPage : Option Nat := none
  badMeta : List Nat := []
  qHead : Nat := 0
  tab : Nat := 0
  unsaved : List (Nat × Nat) := []
  deriving DecidableEq, Repr

/-! ### 10: links -/

/-- A tine (10 R335). `state`: 0 down, 1 discovering, 2 up, 3 failed, 4 isolated, 5 unused, 6 absent. -/
structure TineSt where
  state : Nat := 0
  carries : Nat := 0
  seenChip : Nat := 0
  seenTine : Nat := 0
  seenJoined : Bool := false
  seenTick : Nat := 0
  cause : Nat := 0
  discarded : Nat := 0
  localReg : Reg := 0x1000000000000000
  nexthop : Reg := 0
  latency : Reg := 0
  linkUp : Bool := false
  fast : Bool := false
  lastSent : Nat := 0
  goodTicks : Nat := 0
  matching : Bool := false
  raisedTick : Option Nat := none
  replayTick : Option Nat := none
  xoff : BitVec 8 := 0
  xoffBefore : BitVec 8 := 0
  paused : BitVec 8 := 0
  held : List Output := []
  macRel : Option Int := none
  deriving DecidableEq, Repr

/-- A FLUSH being carried out for another chip (10 R325): the chip, the base die, the SA it came under, its tick, and the
pieces of 4,096 filter entries walked. -/
structure RemFlush where
  chip : Nat := 0
  die : Nat := 0
  sa : Nat := 0
  tick : Nat := 0
  cur : Nat := 0
  deriving DecidableEq, Repr

/-- A message sent and not acknowledged (10 R318). -/
structure SentMsg where
  msn : Nat
  msg : LinkMsg
  origin : Origin
  path : Nat := 0
  psn : Nat := 0
  first : Nat := 0
  sent : Bool := true
  tc : Nat := 2
  deriving DecidableEq, Repr

/-- An SA slot (10 R306 to R311, R318, R335). `state`: 0 FREE, 1 LOADED, 2 ACTIVE, 3 RETIRING, 4 QUARANTINED. -/
structure SaSt where
  cfg : Reg := 0x0000200000000000
  tines : Reg := 0
  peer : BitVec 128 := 0
  sci : Reg := 0
  state : Nat := 0
  stateTick : Nat := 0
  pn : Nat := 0
  seen : List Nat := []
  material : BitVec 384 := 0
  staging : BitVec 384 := 0
  staged : Bool := false
  msn : Nat := 0
  msgs : List SentMsg := []
  delivered : List Nat := []
  xid : Nat := 0
  raised72 : Bool := false
  deriving DecidableEq, Repr

/-- A path of a transmit SA, or the receive side of one, keyed by SA * 256 + path (10 R318, R319). -/
structure PathSt where
  nextPsn : Nat := 0
  window : Nat := 0
  retx : Nat := 0
  failed : Bool := false
  ceTick : Option Nat := none
  got : List Nat := []
  sinceAck : Nat := 0
  ceCount : Nat := 0
  deriving DecidableEq, Repr

/-- An admitted message that has not been taken at its destination (10 R318, R322). -/
structure InMsg where
  sa : Nat
  tine : Nat
  chip : Nat
  slice : Nat
  fn : Nat
  herd : Bool
  msg : LinkMsg
  path : Nat := 0
  psn : Nat := 0
  msn : Nat := 0
  tc : Nat := 2
  held : Bool := false
  age : Nat := 0
  aged : Bool := false
  deriving DecidableEq, Repr

/-- A request of this chip waiting for a remote answer, or a posted message not yet performed (10 R315, R323).
`kind`: 0 read, 1 posted write, 2 posted contribution, 3 atomic, 4 eviction. -/
structure RemoteReq where
  sa : Nat
  xid : Nat
  kind : Nat
  origin : Origin
  line : Nat
  port : Option Nat := none
  fn : Nat := 0
  chip : Nat := 0
  sector : Nat := 0
  since : Nat := 0
  done : Option Status := none
  deriving DecidableEq, Repr

/-- A remote snoop being served by a proxy home (05 R177): the admitting SA and xid, the ports awaited. -/
structure ProxySnoop where
  id : Nat
  sa : Nat
  xid : Nat
  home : Nat
  line : Nat
  ty : Nat
  deadline : Nat
  since : Nat
  slice : Nat := 0
  snoops : List Snoop
  data : Option Line := none
  dirty : Bool := false
  bad : Bool := false
  deriving DecidableEq, Repr

/-- A LINK_FENCE that waits (10 R323). -/
structure LinkFence where
  port : Nat
  tag : Nat
  covers : List (Nat × Nat)
  st : Status := .ok
  deriving DecidableEq, Repr

/-- A time exchange of the requester (10 R331, R332). -/
structure Exchange where
  num : Nat
  tine : Nat
  tick : Nat
  t1 : Option Nat := none
  t2 : Option Nat := none
  t3 : Option Nat := none
  t4 : Option Nat := none
  deriving DecidableEq, Repr

/-- The TIN window's shared registers and herd state (10 R335). -/
structure TinState where
  udpPort : Nat := 0xB7A5
  ctlPrio : Nat := 7
  rto : Nat := 8
  retxMax : Nat := 3
  transferDeadline : Nat := 4
  pathWindow : Nat := 0x40
  udpPaths : Nat := 3
  ctrlStaged : Option Reg := none
  rxClass : BitVec 16 := 0x05AE
  txPrio : List Nat := [6, 4, 0, 1]
  prioStaged : Option Reg := none
  ipv6 : BitVec 128 := 0
  saPending : Option (Nat × Nat) := none
  saResult : Nat := 0
  saApplyTick : Nat := 0
  lost : BitVec 8 := 0
  reference : Nat := 0
  joined : Bool := false
  firstUp : Option Nat := none
  absent : Map Nat := []
  targets : Map Reg := []
  exchanges : List Exchange := []
  nextExch : Nat := 0
  lastReq : Nat := 0
  offsets : List Int := []
  answers : List (Nat × Nat × Nat) := []
  remoteFlushes : List RemFlush := []
  noRefRaised : Bool := false
  deriving DecidableEq, Repr

/-! ### 11: contexts, objects, fences -/

/-- A context table entry (11 R338). `state`: 0 FREE, 1 IDLE, 2 RESIDENT, 3 LOST. -/
structure CtxRec where
  state : Nat := 0
  slot : Nat := 0
  fn : Nat := 0
  slice : Nat := 0
  key : Nat := 0
  asid : Nat := 0
  fenceFirst : Nat := 0
  fencePages : Nat := 0
  lostVec : Nat := 0
  lostIrq : Bool := false
  lostCause : Nat := 0
  lostTick : Nat := 0
  bytesRead : Nat := 0
  bytesWritten : Nat := 0
  hslBusy : Nat := 0
  jobFclk : Nat := 0
  deriving DecidableEq, Repr

/-- An object table entry (11 R343). `state`: 0 FREE, 1 LIVE, 2 DRAINING. -/
structure ObjRec where
  state : Nat := 0
  fn : Nat := 0
  gen : Nat := 0
  ctx : Nat := 0
  ctxValid : Bool := false
  first : Nat := 0
  count : Nat := 0
  freedAt : Nat := 0
  discarded : Bool := false
  deriving DecidableEq, Repr

/-- A fence record (11 R347). `state`: 0 IDLE, 1 ARMED, 2 SIGNALLED, 3 ERROR. -/
structure FenceRec where
  value : Reg := 0
  state : Nat := 0
  source : Nat := 0
  detail : Nat := 0
  armer : Nat := 0
  pending : Nat := 0
  deriving DecidableEq, Repr

/-- A fence page table entry (11 R351). -/
structure FPage where
  owner : Nat := 0
  reader : Nat := 0
  peer : Nat := 0
  vec : Nat := 0
  irqEn : Bool := false
  deriving DecidableEq, Repr

/-- Tracing of a slot (15 R465, R478). -/
structure TraceSt where
  base : Nat := 0
  enable : Bool := false
  wrap : Bool := false
  irqEn : Bool := false
  sizeLog2 : Nat := 0x0C
  vec : Nat := 0
  error : Bool := false
  status : Nat := 0
  offset : Nat := 0
  full : Bool := false
  wraps : Nat := 0
  dropped : Nat := 0
  dropSince : Nat := 0
  enabling : Bool := false
  deriving DecidableEq, Repr

/-- A resident context slot (11 R353, R357, R358). -/
structure SlotSt where
  ctx : Option Nat := none
  pins : List Reg := [0, 0, 0, 0]
  kfence : Nat := 0
  armed : Bool := false
  kvalue : Reg := 0
  trace : TraceSt := {}
  deriving DecidableEq, Repr

/-- The CTX window (11 R358), and the context and object entries that cannot be read (11 R359). -/
structure CtxWin where
  badCtxs : List Nat := []
  badObjs : List Nat := []
  pending : Option Reg := none
  result : Nat := 0
  applyTick : Nat := 0
  deriving DecidableEq, Repr

/-! ### 12: vault -/

/-- A command register of the vault and its status (12 R387, R388). -/
structure VltCmd where
  pending : Option (Nat × Nat × Nat × Nat) := none
  result : Nat := 0
  id : Nat := 0
  applyTick : Nat := 0
  deriving DecidableEq, Repr

/-- A peer of the agreement (12 R377, R378). `state`: 0 NONE, 1 OFFERED, 2 AGREED, 3 FAILED. -/
structure PeerSt where
  state : Nat := 0
  ephemeral : Option (BitVec 384) := none
  nonce : BitVec 256 := 0
  ka : Option (BitVec 384) := none
  deriving DecidableEq, Repr

/-- The vault core (12 R360 to R389). `state` as VLT_STATE codes it. -/
structure Vault where
  state : Nat := 0
  rootTries : Nat := 0
  certMatch : Bool := false
  entropyOk : Bool := false
  aliasGen : Nat := 0
  readyTick : Nat := 0
  hoofprint : Option (List Byte) := none
  arrayOn : Bool := false
  tryTick : Option Nat := none
  seed : Option Digest := none
  measure : Digest := 0
  peerIds : Map (BitVec 128) := []
  peers : Map PeerSt := []
  keyCmd : VltCmd := {}
  saCmd : VltCmd := {}
  agreeCmd : VltCmd := {}
  enrolling : Option Nat := none
  importBuf : List Byte := []
  agreeIn : List Byte := []
  agreeOut : List Byte := []
  hoofOut : List Byte := []
  importCert : List Byte := []
  certBuf : List Byte := []
  badCopies : List (Nat × Nat) := []
  deriving DecidableEq, Repr

/-! ### 13: faults -/

/-- A recovery (13 R404, R422). `state`: 1 running, 2 waiting, 3 ended. `kind` as FLT_RECOVERY.recovery. -/
structure Recovery where
  state : Nat := 0
  kind : Nat := 0
  unit : Nat := 0
  name : Nat := 0
  step : Nat := 0
  overrun : Bool := false
  startTick : Nat := 0
  age : Nat := 0
  spare : Option Nat := none
  cur : Nat := 0
  left : List Nat := []
  deriving DecidableEq, Repr

/-- FLT_KIND_CFG of a kind (13 R422). -/
structure KindCfg where
  irq : Bool := false
  noAlert : Bool := false
  ceLimit : Nat := 0
  act : Bool := false
  deriving DecidableEq, Repr

/-- The fault collector and aggregators (13 R391 to R422). -/
structure Flt where
  aggs : Map (List Msg) := []
  hist : List Msg := []
  histTotal : Nat := 0
  first : Option (Msg × Nat) := none
  minClass : Nat := 2
  ce : Nat := 0
  cu : Nat := 0
  ft : Nat := 0
  low : Bool := false
  hold : Bool := false
  cls : Nat := 0
  alertTick : Nat := 0
  fatal : Option Nat := none
  fatalKind : Nat := 0
  dump : Nat := 0
  dumpBytes : List Byte := []
  dumpAddr : Nat := 0
  unitCmd : Option (Nat × Nat) := none
  unitRunning : Bool := false
  unitResult : Nat := 0
  unitId : Nat := 0
  unitTick : Nat := 0
  repairs : List Reg := []
  repairOverflow : Bool := false
  recs : Map Recovery := []
  waiting : List Recovery := []
  kindCfg : Map KindCfg := []
  undeclared : List Msg := []
  handling : List (Msg × Nat) := []
  ceTicks : Map (List Nat) := []
  toOffline : List Nat := []
  dumpOk : Bool := false
  deriving DecidableEq, Repr

/-- A unit's health (13 R395, R414). -/
structure UnitSt where
  failed : Bool := false
  offlineAt : Option Nat := none
  epoch : Nat := 0
  deriving DecidableEq, Repr

/-! ### 14: Fawn and the pair -/

/-- FWN_SENSOR (14 R428, R455); values are two's complement of 12 bits as integers. -/
structure SensorSt where
  filtered : Int := 0
  raw : Int := 0
  valid : Bool := false
  outOfRange : Bool := false
  updateTick : Nat := 0
  last : List Int := []
  streak : Nat := 4
  started : Bool := false
  deriving DecidableEq, Repr

/-- FWN_SUPPLY and its limits (14 R428, R429, R455). -/
structure SupplySt where
  median : Nat := 0
  valid : Bool := false
  outside : Bool := false
  updateTick : Nat := 0
  last : List Nat := []
  streak : Nat := 4
  outStreak : Nat := 0
  stale : Bool := false
  low : Nat := 0
  high : Nat := 0xFFF
  deriving DecidableEq, Repr

/-- Fawn (14 R423 to R444, R455, 16 R482). -/
structure Fawn where
  phase : Nat := 0
  error : Nat := 0
  bootStoreOk : Bool := false
  hoofPresent : Bool := false
  repairValid : Bool := false
  chainPresent : Bool := false
  serviceTick : Nat := 0
  booted : Bool := false
  fwState : Nat := 0
  fwResult : Nat := 0
  area : Bool := false
  fwGen : Nat := 0
  staging : List Byte := []
  fwTick : Nat := 0
  fwDigest : Digest := 0
  stagedDigest : Digest := 0
  prevDigest : Option Digest := none
  running : Bool := false
  beat : Bool := false
  missed : Nat := 0
  revertPending : Bool := false
  action : Nat := 1
  mgWake : Bool := true
  timerWake : Bool := false
  wakeTick : Nat := 0
  sensors : Map SensorSt := []
  supplies : Map SupplySt := []
  boot : BootRead := {}
  events : List (Nat × Nat) := []
  eventsLost : Bool := false
  initLeft : Nat := 0
  dozeAt : Option Nat := none
  standby : Bool := false
  waking : Option Nat := none
  entryPoint : Nat := 8
  pcReg : Nat := 0
  fclkStable : Bool := false
  fabricGood : Bool := false
  eid : Nat := 0
  seen : List Nat := [2, 0, 0]
  deriving DecidableEq, Repr

/-- A set being received (14 R447, R448). -/
structure RxSet where
  tick : Nat
  frames : List (Nat × List MirrorRec)
  lastIndex : Option Nat := none
  ends : Bool := false
  deriving DecidableEq, Repr

/-- The pair logic (14 R445 to R456). `state` as PAIR_STATUS codes it. -/
structure PairSt where
  state : Nat := 0
  stateTick : Nat := 0
  pending : Option Nat := none
  result : Nat := 0
  applyTick : Nat := 0
  lastSet : Nat := 0
  digest : Digest := 0
  rxSets : List RxSet := []
  lastFrameTick : Nat := 0
  lastSetTick : Nat := 0
  lagRaised : Bool := false
  sweeping : Bool := false
  sweepEnded : Bool := false
  partnerState : Nat := 0
  sentTick : Nat := 0
  shadow : Map (List Byte) := []
  changes : Map (List MirrorRec) := []
  sweepSet : Option Nat := none
  rxImage : List Byte := []
  deriving DecidableEq, Repr

/-! ### 15: observability -/

/-- A published counter (15 R461) with its running total. -/
structure Counter where
  value : Nat := 0
  total : Nat := 0
  tainted : Bool := false
  restart : Bool := false
  epoch : Nat := 0
  deriving DecidableEq, Repr

/-- A trace record (15 R466): its four words. -/
structure TraceRec where
  slot : Nat
  w0 : Reg
  w1 : Reg
  w2 : Reg
  w3 : Reg
  deriving DecidableEq, Repr

/-- The OBS window, counters, rings (15 R457 to R477). `stopState`: 0 idle, 1 armed, 2 stopping, 3 stopped.
Counters are keyed by slice * 128 + k; rings by unit ID. -/
structure Obs where
  stopState : Nat := 0
  stopRefused : Bool := false
  unbound : Nat := 0
  taintedCount : Nat := 0
  tickEn : Bool := false
  faultEn : Bool := false
  stopClass : Nat := 2
  markerEn : Bool := false
  wfgOnStop : Bool := true
  resume : Bool := false
  markerSlice : Nat := 0
  maxTicks : Nat := 0
  markerMatch : BitVec 32 := 0
  stopTick : Nat := 0
  fired : Bool := false
  stopAt : Nat := 0
  cntTick : Nat := 0
  wfgPending : Bool := false
  wfgState : Nat := 0
  wfgTick : Nat := 0
  wfgAddr : Nat := 0
  wfg : List Byte := []
  ringSel : Nat := 0
  rings : Map (List Msg) := []
  unitStates : Map Nat := []
  sels : Map Reg := []
  selsStaged : Map Reg := []
  selCnt : Map Counter := []
  selLive : Map Nat := []
  selPrev : Map Nat := []
  cnt : Map Counter := []
  cntLive : Map Nat := []
  cntPrev : Map Nat := []
  taintLive : List Nat := []
  smear : Map (Nat × Nat) := []
  landed : List Instr := []
  deriving DecidableEq, Repr

/-- Why a step stops. The block has no stop of its own: every row's effect is a next state, and this type is kept
for the interface. `absentWindow` is raised by no meaning. -/
inductive Fault where
  /-- Raised by no meaning (safe: a stop proves nothing). -/
  | absentWindow
  deriving DecidableEq, Repr

/-- Why a step is refused. -/
inductive Refusal where
  /-- Raised by `exec` for a command that has no meaning yet (safe: nothing is claimed of it). -/
  | notModelled (mnemonic : String)
  deriving DecidableEq, Repr

end Sys2Proof.Machine

namespace Sys2Proof.Machine

/-- The state of the block. -/
structure State where
  blk : Blk := {}
  ports : Map PortSt := []
  tiles : Map TileSt := []
  bindings : Map Binding := []
  losing : List (Nat × Nat) := []
  hostTags : List (Nat × Nat) := []
  reqs : List OpenReq := []
  test : TestPort := {}
  mem : Map MemPort := []
  held : List HeldReq := []
  own : Map OwnEntry := []
  cleaning : List CleanSt := []
  slc : SlcWin := {}
  fncs : Map FncRec := []
  views : Map View := []
  dirty : Map (BitVec 32) := []
  img : Img := {}
  homes : Map HomeSt := []
  txns : List Txn := []
  flushes : List Flush := []
  homeTimeout : HomeTimeout := {}
  qos : Qos := {}
  keys : Map KeySt := []
  mpt : Mpt := {}
  guardOps : List GuardOp := []
  rw : RwState := {}
  jobs : List Job := []
  engines : Map EngineSt := []
  seqs : Map SeqWin := []
  seqTlb : Map (List Nat) := []
  tin : TinState := {}
  tines : Map TineSt := []
  sas : Map SaSt := []
  paths : Map PathSt := []
  inbox : List InMsg := []
  remotes : List RemoteReq := []
  proxies : List ProxySnoop := []
  linkFences : List LinkFence := []
  ctxs : Map CtxRec := []
  objs : Map ObjRec := []
  fences : Map FenceRec := []
  badFences : List Nat := []
  fpages : Map FPage := []
  ctxWin : CtxWin := {}
  slots : Map SlotSt := []
  fills : List (Nat × Nat × Nat) := []
  vault : Vault := {}
  flt : Flt := {}
  units : Map UnitSt := []
  fawn : Fawn := {}
  pair : PairSt := {}
  obs : Obs := {}
  sink : List TraceRec := []
  out : List Output := []
  freeCount : Nat := 0
  nextId : Nat := 0
  mgTag : Nat := 0
  pending : List Instr := []
  deriving DecidableEq, Repr

/-- The machine right after reset: every field at its default, which is its reset value (INVENTORY.md). -/
def State.reset : State := {}

end Sys2Proof.Machine
end

