-- ==== Sys2Proof/Machine/Ops.lean ====
section
/-! DEFINITION. The named operations over tables, bits and the state: reading and writing entries, output transfers,
fault messages (13 R391 to R393), event rings (15 R470), counters (15 R457, R459), holds (06 R204). -/

namespace Sys2Proof.Machine

/-! ### Tables -/

/-- The entry at a key, if listed. -/
def mget? {α : Type} : Map α → Nat → Option α
  | [], _ => none
  | (a, v) :: m, k => if a = k then some v else mget? m k

/-- List an entry at a key, keeping the keys rising. -/
def mput {α : Type} : Map α → Nat → α → Map α
  | [], k, v => [(k, v)]
  | (a, w) :: m, k, v =>
    if k < a then (k, v) :: (a, w) :: m
    else if k = a then (k, v) :: m
    else (a, w) :: mput m k v

/-- Unlist a key, wherever it stands. -/
def mdel {α : Type} : Map α → Nat → Map α
  | [], _ => []
  | (a, w) :: m, k => if a = k then mdel m k else (a, w) :: mdel m k

/-- Read a key; `d` is what an unlisted key reads as. -/
def tget {α : Type} (d : α) (m : Map α) (k : Nat) : α := (mget? m k).getD d

/-- Write a key, keeping the canonical form: an entry equal to `d` is unlisted. -/
def tset {α : Type} [DecidableEq α] (d : α) (m : Map α) (k : Nat) (v : α) : Map α :=
  if v = d then mdel m k else mput m k v

/-- Whether the keys rise strictly. -/
def mapSorted {α : Type} : Map α → Bool
  | [] => true
  | [_] => true
  | (a, _) :: (b, w) :: m => decide (a < b) && mapSorted ((b, w) :: m)

/-- Repeat a function over the numbers `lo`, `lo+1`, …, `lo+n-1`. -/
def forRange {α : Type} (lo : Nat) (f : Nat → α → α) : Nat → α → α
  | 0, a => a
  | n + 1, a => forRange (lo + 1) f n (f lo a)

/-! ### Bits and bytes -/

/-- Bits [lo+len-1:lo] of a word, as a number. -/
def field {n : Nat} (w : BitVec n) (lo len : Nat) : Nat := (w.toNat >>> lo) % 2 ^ len

/-- Bit `i` of a number as a flag. -/
def bit (w i : Nat) : Bool := Nat.testBit w i

/-- A flag as a number. -/
def flag (b : Bool) : Nat := if b then 1 else 0

/-- Put an element into a list in falling order of a key, behind its equals. -/
def insertDesc {α : Type} (key : α → Nat) (x : α) : List α → List α
  | [] => [x]
  | y :: l => if key x > key y then x :: y :: l else y :: insertDesc key x l
/-- A list in falling order of a key; equals keep their order. -/
def sortDesc {α : Type} (key : α → Nat) (l : List α) : List α := l.foldl (fun a x => insertDesc key x a) []

/-- Place a number of `len` bits at bit `lo`. -/
def place (v lo len : Nat) : Nat := (v % 2 ^ len) <<< lo

/-- The xor of all bits of a number below `n`. -/
def xorBits (w : Nat) : Nat → Bool
  | 0 => false
  | n + 1 => Nat.testBit w n ^^ xorBits w n

/-- How many bits of a number below `n` are 1. -/
def popCount (w : Nat) : Nat → Nat
  | 0 => 0
  | n + 1 => flag (Nat.testBit w n) + popCount w n

/-- The positions below `n` at which a number has a 1, rising. -/
def bitList (w n : Nat) : List Nat := (List.range n).filter (fun i => Nat.testBit w i)

/-- `k` bytes of a number, lowest first (00 R9). -/
def leBytes (v : Nat) : Nat → List Byte
  | 0 => []
  | k + 1 => BitVec.ofNat 8 v :: leBytes (v / 256) k

/-- The number that bytes spell, lowest first (00 R9). -/
def leNat : List Byte → Nat
  | [] => 0
  | b :: bs => b.toNat + 256 * leNat bs

/-- The number that bytes spell, highest first (for fields of published standards). -/
def beBytes (v k : Nat) : List Byte := (leBytes v k).reverse

/-- `k` bytes of a string from offset `o`. -/
def slice (bs : List Byte) (o k : Nat) : List Byte := (bs.drop o).take k

/-- The little-endian number in `k` bytes at offset `o`. -/
def leAt (bs : List Byte) (o k : Nat) : Nat := leNat (slice bs o k)

/-- Bytes padded with zeros, or cut, to `k`. -/
def padTo (bs : List Byte) (k : Nat) : List Byte := bs.take k ++ List.replicate (k - bs.length) 0

/-- Write 8 B of a register into a byte buffer of `k` bytes at offset `o`. -/
def putBytes (buf : List Byte) (k o : Nat) (bs : List Byte) : List Byte :=
  let b := padTo buf k
  b.take o ++ bs ++ b.drop (o + bs.length)

/-- Lines and sectors: sector `k` of a line. -/
def lineSector (l : Line) (k : Nat) : Sector := BitVec.ofNat 512 (l.toNat >>> (512 * k))

/-- Replace sector `k` of a line. -/
def setSector (l : Line) (k : Nat) (d : Sector) : Line :=
  if k = 0 then BitVec.ofNat 1024 ((l.toNat >>> 512 <<< 512) + d.toNat)
  else BitVec.ofNat 1024 ((l.toNat % 2 ^ 512) + d.toNat <<< 512)

/-- The bit mask of byte enables: byte k of `be` becomes bits [8k+7:8k]. -/
def beMask (be : Nat) : Nat → Nat
  | 0 => 0
  | n + 1 => (if Nat.testBit be n then 0xFF <<< (8 * n) else 0) + beMask be n

/-- Merge written bytes into a line under byte enables. -/
def mergeLine (old new : Line) (be : BitVec 128) : Line :=
  let m := beMask be.toNat 128
  BitVec.ofNat 1024 ((new.toNat &&& m) ||| (old.toNat &&& (2 ^ 1024 - 1 - m)))

/-! ### Statuses (00 R15, R16) -/

/-- The code of a status (00 R15). -/
def Status.code : Status → Nat
  | .ok => 0 | .retry => 1 | .deferred => 2 | .refused => 3 | .poison => 4
  | .denied => 5 | .stale => 6 | .lost => 7 | .timeout => 8

/-- The status of a code; the reserved codes 9 to 15 name none (00 R15, R17). -/
def Status.ofCode? (n : Nat) : Option Status :=
  match n with
  | 0 => some .ok | 1 => some .retry | 2 => some .deferred | 3 => some .refused | 4 => some .poison
  | 5 => some .denied | 6 => some .stale | 7 => some .lost | 8 => some .timeout | _ => none
/-- The status of a code that is not reserved. -/
def Status.ofCode (n : Nat) : Status := (Status.ofCode? n).getD .timeout

/-- The rank of a status in the order of 00 R16, lowest first returned. -/
def Status.rank : Status → Nat
  | .lost => 0 | .stale => 1 | .denied => 2 | .poison => 3 | .timeout => 4
  | .refused => 5 | .deferred => 6 | .retry => 7 | .ok => 8

/-- The status the block returns when both apply (00 R16). -/
def Status.both (a b : Status) : Status := if b.rank < a.rank then b else a

/-! ### Entries of the state -/

/-- The port index of a memory port (02 port table). -/
def mpPort (p : Nat) : Nat := 256 + p
/-- The port index of a tine. -/
def lpPort (t : Nat) : Nat := 272 + t
/-- The port index of the host port. -/
def hostPort : Nat := 336
/-- The port index of the management port. -/
def mgPort : Nat := 337
/-- The port index of the debug port. -/
def dbgPort : Nat := 338
/-- The port index of power control. -/
def pcPort : Nat := 339

/-- A port's record. -/
def State.port (s : State) (i : Nat) : PortSt := tget {} s.ports i
/-- Write a port's record. -/
def State.setPort (s : State) (i : Nat) (p : PortSt) : State := { s with ports := tset {} s.ports i p }
/-- A tile port. -/
def State.tile (s : State) (i : Nat) : TileSt := tget {} s.tiles i
/-- Write a tile port. -/
def State.setTile (s : State) (i : Nat) (p : TileSt) : State := { s with tiles := tset {} s.tiles i p }
/-- A memory port. -/
def State.mp (s : State) (i : Nat) : MemPort := tget {} s.mem i
/-- Write a memory port. -/
def State.setMp (s : State) (i : Nat) (p : MemPort) : State := { s with mem := tset {} s.mem i p }
/-- The ownership entry of a granule (03 R97). -/
def State.ownAt (s : State) (g : Nat) : OwnEntry := tget {} s.own g
/-- Write an ownership entry. -/
def State.setOwn (s : State) (g : Nat) (e : OwnEntry) : State := { s with own := tset {} s.own g e }
/-- Every home drops its cached copies of ownership table lines that a change makes stale (03 R100). -/
def State.dropOwn (s : State) (stale : Nat → Bool) : State :=
  { s with homes := s.homes.map fun h => (h.1, { h.2 with ownLines := h.2.ownLines.filter fun tl => !stale tl }) }
/-- A function's record at reset: function 0 is ENABLED (03 R112). -/
def fncInit (f : Nat) : FncRec := if f = 0 then { state := 2 } else {}
/-- A function. -/
def State.fnc (s : State) (f : Nat) : FncRec := tget (fncInit f) s.fncs f
/-- Write a function. -/
def State.setFnc (s : State) (f : Nat) (r : FncRec) : State := { s with fncs := tset (fncInit f) s.fncs f r }
/-- A view window. -/
def State.view (s : State) (f : Nat) : View := tget {} s.views f
/-- Write a view window. -/
def State.setView (s : State) (f : Nat) (v : View) : State := { s with views := tset {} s.views f v }
/-- A home slice at reset: 128 to 135 are idle spares without a mirror (05 R182). -/
def homeInit (h : Nat) : HomeSt := if h < 128 then {} else { role := 1, mirrorOk := false }
/-- A home slice by physical index. -/
def State.home (s : State) (h : Nat) : HomeSt := tget (homeInit h) s.homes h
/-- Write a home slice. -/
def State.setHome (s : State) (h : Nat) (v : HomeSt) : State := { s with homes := tset (homeInit h) s.homes h v }
/-- A memory key slot. -/
def State.key (s : State) (k : Nat) : KeySt := tget {} s.keys k
/-- Write a memory key slot. -/
def State.setKey (s : State) (k : Nat) (v : KeySt) : State := { s with keys := tset {} s.keys k v }
/-- A reduce window. -/
def State.win (s : State) (w : Nat) : Window := tget {} s.rw.windows w
/-- Write a reduce window. -/
def State.setWin (s : State) (w : Nat) (v : Window) : State :=
  { s with rw := { s.rw with windows := tset {} s.rw.windows w v } }
/-- A job engine. -/
def State.engine (s : State) (e : Nat) : EngineSt := tget {} s.engines e
/-- Write a job engine. -/
def State.setEngine (s : State) (e : Nat) (v : EngineSt) : State := { s with engines := tset {} s.engines e v }
/-- A slice's sequence window. -/
def State.seqw (s : State) (i : Nat) : SeqWin := tget {} s.seqs i
/-- Write a sequence window. -/
def State.setSeqw (s : State) (i : Nat) (v : SeqWin) : State := { s with seqs := tset {} s.seqs i v }
/-- A tine at reset: it carries its own link (10 R335). -/
def tineInit (t : Nat) : TineSt := { carries := t }
/-- A tine. -/
def State.tine (s : State) (t : Nat) : TineSt := tget (tineInit t) s.tines t
/-- Write a tine. -/
def State.setTine (s : State) (t : Nat) (v : TineSt) : State := { s with tines := tset (tineInit t) s.tines t v }
/-- An SA slot. -/
def State.sa (s : State) (n : Nat) : SaSt := tget {} s.sas n
/-- Write an SA slot. -/
def State.setSa (s : State) (n : Nat) (v : SaSt) : State := { s with sas := tset {} s.sas n v }
/-- A path of an SA. -/
def State.pathOf (s : State) (n path : Nat) : PathSt := tget {} s.paths (n * 256 + path)
/-- Write a path. -/
def State.setPath (s : State) (n path : Nat) (v : PathSt) : State :=
  { s with paths := tset {} s.paths (n * 256 + path) v }
/-- A context table entry. -/
def State.ctx (s : State) (c : Nat) : CtxRec := tget {} s.ctxs c
/-- Write a context table entry. -/
def State.setCtx (s : State) (c : Nat) (v : CtxRec) : State := { s with ctxs := tset {} s.ctxs c v }
/-- An object table entry. -/
def State.obj (s : State) (o : Nat) : ObjRec := tget {} s.objs o
/-- Write an object table entry. -/
def State.setObj (s : State) (o : Nat) (v : ObjRec) : State := { s with objs := tset {} s.objs o v }
/-- A fence record. -/
def State.fence (s : State) (i : Nat) : FenceRec := tget {} s.fences i
/-- Write a fence record; in the block-fatal state fence records are not changed again (13 R419). -/
def State.setFence (s : State) (i : Nat) (v : FenceRec) : State :=
  if s.flt.fatal.isSome then s else { s with fences := tset {} s.fences i v }
/-- A fence page entry. -/
def State.fpage (s : State) (p : Nat) : FPage := tget {} s.fpages p
/-- Write a fence page entry. -/
def State.setFpage (s : State) (p : Nat) (v : FPage) : State := { s with fpages := tset {} s.fpages p v }
/-- A context slot. -/
def State.slot (s : State) (c : Nat) : SlotSt := tget {} s.slots c
/-- Write a context slot. -/
def State.setSlot (s : State) (c : Nat) (v : SlotSt) : State := { s with slots := tset {} s.slots c v }
/-- A unit's health. -/
def State.unit (s : State) (u : Nat) : UnitSt := tget {} s.units u
/-- Write a unit's health. -/
def State.setUnit (s : State) (u : Nat) (v : UnitSt) : State := { s with units := tset {} s.units u v }
/-- A thermal input. -/
def State.sensor (s : State) (k : Nat) : SensorSt := tget {} s.fawn.sensors k
/-- A supply input. -/
def State.supply (s : State) (m : Nat) : SupplySt := tget {} s.fawn.supplies m

/-- The SLICE record of a slice in force, if defined (04 R131). -/
def State.sliceRec (s : State) (i : Nat) : Option SliceRec := mget? s.img.active.slices i
/-- Whether a slice is defined: slice 0 or one with a SLICE record (03 R91). -/
def State.sliceDefined (s : State) (i : Nat) : Bool := i == 0 || (s.sliceRec i).isSome
/-- The BLOCK record in force. -/
def State.blockRec (s : State) : BlockRec := s.img.active.block
/-- The TINE record of a link. -/
def State.tineRec (s : State) (t : Nat) : TineRec := tget {} s.img.active.tines t
/-- The STACK record of a memory port. -/
def State.stackRec (s : State) (p : Nat) : StackRec := tget {} s.img.active.stackTab p
/-- The JOB record of an engine. -/
def State.jobRec (s : State) (e : Nat) : JobRec := tget {} s.img.active.jobs e

/-- The binding that holds a tile port: slot and binding (02 R57). -/
def State.portBinding (s : State) (port : Nat) : Option (Nat × Binding) :=
  s.bindings.find? (fun b => decide (b.2.first ≤ port) && decide (port < b.2.first + b.2.count))

/-- BLK_VERSION (00 R5). -/
def blkVersion : Nat := 0x0000000055540301
/-- fclk in a tick at a point (01 R33, R36). -/
def perTick (point : Nat) : Nat := 2048 - 128 * point
/-- fclk in a tick now. -/
def State.fclkPerTick (s : State) : Nat := perTick s.blk.fclkPoint
/-- Bits [31:0] of the tick. -/
def State.tick32 (s : State) : Nat := s.blk.tick % 2 ^ 32

/-! ### Outputs and fresh numbers -/

/-- Make a transfer on an output channel (log entry 1). -/
def State.emit (s : State) (o : Output) : State := { s with out := s.out ++ [o] }
/-- Whether a port drives its outputs: one in reset, isolated or absent holds them at their reset values (02 R53). -/
def State.drives (s : State) (i : Nat) : Bool := (s.port i).state == 1
/-- Make a transfer on an output channel of a port that drives its outputs. -/
def State.emitAt (s : State) (i : Nat) (o : Output) : State := if s.drives i then s.emit o else s
/-- Drive a power-control request (02 R78, 16 R482); isolated power control drives nothing (02 R53, R85). -/
def State.power (s : State) (op arg : Nat) : State :=
  if (s.port pcPort).state = 2 then s
  else ({ s with fawn := { s.fawn with pcReg := op + arg * 8 } } : State).emit (.powerReq op arg)
/-- A management interrupt. -/
def State.mgIrq (s : State) (vec : Nat) : State := s.emitAt mgPort (.mgIrq vec)
/-- An MSI-X interrupt of a function. -/
def State.hostIrq (s : State) (fn vec : Nat) : State := s.emitAt hostPort (.hostIrq fn vec)
/-- Count a use of a free value (log entry 9). -/
def State.useFree (s : State) : State := { s with freeCount := s.freeCount + 1 }

/-! ### Units (00 R12, 01 R23) -/

/-- The unit ID of a class and index. -/
def unitId (cls i : Nat) : Nat := cls * 256 + i
/-- The unit ID of a home slice. -/
def hslUnit (h : Nat) : Nat := unitId 1 h
/-- The unit ID of a memory port unit. -/
def mptUnit (p : Nat) : Nat := unitId 2 p
/-- The unit ID of a tine. -/
def tinUnit (t : Nat) : Nat := unitId 3 t
/-- The unit ID of a tile port. -/
def tpUnit (t : Nat) : Nat := unitId 4 t
/-- The unit ID of a job engine. -/
def jobUnit (e : Nat) : Nat := unitId 5 e
/-- The vault core. -/
def vltUnit : Nat := unitId 6 0
/-- The block regulator. -/
def qosUnit : Nat := unitId 7 8
/-- The fault collector. -/
def fltUnit : Nat := unitId 8 0
/-- Fawn. -/
def fwnUnit : Nat := unitId 9 0
/-- The host port unit. -/
def hostUnit : Nat := unitId 10 0
/-- The pair logic. -/
def pairUnit : Nat := unitId 11 0

/-- The base die of a home slice (01 R24). -/
def dieOfHome (h : Nat) : Nat := if h < 128 then h / 16 else (h + 4) % 8
/-- The spare of a base die (01 R24). -/
def spareOf (d : Nat) : Nat := if d < 4 then 132 + d else 124 + d

/-- The base die of a unit (01 R23). -/
def dieOfUnit (u : Nat) : Nat :=
  let i := u % 256
  match u / 256 with
  | 1 => dieOfHome i
  | 2 => i / 2
  | 3 => i / 8
  | 4 => i / 32
  | 5 => i / 4
  | 6 => if i = 0 then 0 else (i - 1) / 2
  | 7 => if i = 8 then 0 else i
  | 8 => if i = 0 then 0 else i - 1
  | _ => 0

/-- The unit that a port belongs to (02 port table, 01 R23). -/
def unitOfPort (i : Nat) : Nat :=
  if i < 256 then tpUnit i else if i < 272 then mptUnit (i - 256) else if i < 336 then tinUnit (i - 272)
  else if i = 336 then hostUnit else if i = 337 then unitId 10 1 else fwnUnit

/-! ### Event rings and counters (15 R470, R457 to R461) -/

/-- Enter an event in a unit's ring of 16, unless a global stop has frozen the rings (15 R470, R472). The fclk within the tick is a
free value (log entry 191). -/
def State.ring (s : State) (u code : Nat) (arg : Nat) : State :=
  if s.obs.stopState ≥ 2 && code != 0x87 then s
  else
    let r := tget [] s.obs.rings u
    let at_ := (Config.eventFclk s.blk.tick u r).toNat
    let e : Msg := BitVec.ofNat 128 (s.tick32 + place at_ 32 12 + place code 44 8 + place u 52 12 + place arg 64 64)
    let r' := (r ++ [e]).drop (r.length + 1 - 16)
    { s with obs := { s.obs with rings := tset [] s.obs.rings u r' } }

/-- Count an event of a slice counter (15 R458). -/
def State.count (s : State) (sl k n : Nat) : State :=
  let i := sl * 128 + k
  { s with obs := { s.obs with cntLive := tset 0 s.obs.cntLive i (tget 0 s.obs.cntLive i + n) } }

/-- Which unit classes count an event (15 R459). -/
def eventClasses (ev : Nat) : List Nat :=
  match ev with
  | 0x01 => [4, 10, 1, 5]
  | 0x02 | 0x03 | 0x04 | 0x05 | 0x08 | 0x09 => [1]
  | 0x06 => [4, 10, 1]
  | 0x07 => [4, 10]
  | 0x0A => [1, 3]
  | 0x10 | 0x11 | 0x12 | 0x13 => [2]
  | 0x18 | 0x19 | 0x1A | 0x1B => [3]
  | 0x20 | 0x21 => [5]
  | 0x28 | 0x29 | 0x2A => [4]
  | _ => []

/-- Whether a selection is in force but counts nothing (15 R459). -/
def selInvalid (sel : Reg) : Bool := !((eventClasses (field sel 12 8)).contains (field sel 0 12 / 256))

/-- Whether a selection counts an event of a unit and slice (15 R459). -/
def selCounts (sel : Reg) (u ev : Nat) (sl : Option Nat) : Bool :=
  let su := field sel 0 12
  field sel 28 1 == 1 && field sel 12 8 == ev && !(selInvalid sel)
    && (su == u || (su % 256 == 0xFF && su / 256 == u / 256))
    && (field sel 27 1 == 0 || sl == some (field sel 20 7))

/-- Count an event in every selection that names it (15 R459). -/
def State.note (s : State) (u ev : Nat) (sl : Option Nat) (n : Nat) : State :=
  let live := s.obs.sels.foldl (fun l x =>
    if selCounts x.2 u ev sl then tset 0 l x.1 (tget 0 l x.1 + n) else l) s.obs.selLive
  { s with obs := { s.obs with selLive := live } }

/-! ### Fault messages (13 R391 to R394) -/

/-- A fault message (13 R392). -/
def mkMsg (u kind cls subType subj sl fn tick : Nat) : Msg :=
  BitVec.ofNat 128 (place u 0 12 + place kind 12 8 + place cls 20 2 + place subj 22 48 + place subType 70 4
    + place sl 74 7 + place fn 81 12 + place tick 93 32)

/-- The unit of a message. -/
def msgUnit (m : Msg) : Nat := field m 0 12
/-- The kind of a message. -/
def msgKind (m : Msg) : Nat := field m 12 8
/-- The class of a message: 1 CE, 2 CU, 3 FT. -/
def msgClass (m : Msg) : Nat := field m 20 2
/-- The subject of a message, type and value. -/
def msgSubject (m : Msg) : Nat := field m 22 52
/-- The slice of a message. -/
def msgSlice (m : Msg) : Nat := field m 74 7
/-- Set the repeat bit (13 R391, R394). -/
def msgRepeat (m : Msg) : Msg := m ||| BitVec.ofNat 128 (1 <<< 125)
/-- Set the escalated bit (13 R403). -/
def msgEscalate (m : Msg) : Msg := m ||| BitVec.ofNat 128 (1 <<< 126)

/-- Count an event of a class in FLT_COUNT, saturating (13 R399, R422). -/
def Flt.countClass (f : Flt) (cls : Nat) : Flt :=
  if cls = 1 then { f with ce := min (f.ce + 1) (2 ^ 32 - 1) }
  else if cls = 2 then { f with cu := min (f.cu + 1) (2 ^ 24 - 1) }
  else if cls = 3 then { f with ft := min (f.ft + 1) 255 }
  else f

/-- Mark the first message that meets a test repeated. -/
def markRepeat (p : Msg → Bool) : List Msg → List Msg
  | [] => []
  | m :: ms => if p m then msgRepeat m :: ms else m :: markRepeat p ms
/-- Mark a queued message repeated: the newest of the same unit and kind, or else the newest (13 R391). -/
def mergeMsg (q : List Msg) (m : Msg) : List Msg :=
  let same := fun (x : Msg) => msgUnit x == msgUnit m && msgKind x == msgKind m
  (markRepeat (if q.any same then same else fun _ => true) q.reverse).reverse

/-- A merged event still counts toward the ce_limit of its kind and unit (13 R391, R401). -/
def Flt.noteLimit (f : Flt) (u kind tick : Nat) : Flt :=
  if (tget {} f.kindCfg kind).ceLimit = 0 then f
  else { f with ceTicks := tset [] f.ceTicks (u * 256 + kind) (tget [] f.ceTicks (u * 256 + kind) ++ [tick]) }

/-- Raise a fault: the message goes to the aggregator of the unit's die (13 R391), its slice counts it (15 R458),
its unit's ring records it (15 R470). Before the collector runs Fawn keeps the kind (14 R439). -/
def State.raise (s : State) (u kind cls subType subj sl fn : Nat) : State :=
  let m := mkMsg u kind cls subType subj sl fn s.tick32
  let d := dieOfUnit u
  let q := tget [] s.flt.aggs d
  let s1 := if q.length < 64 then { s with flt := { s.flt with aggs := tset [] s.flt.aggs d (q ++ [m]) } }
    else { s with flt := { ((s.flt.countClass cls).noteLimit u kind s.blk.tick) with aggs := tset [] s.flt.aggs d (mergeMsg q m) } }
  let s2 := if cls = 1 then s1.count sl 64 1 else if cls = 2 then s1.count sl 65 1 else s1
  let s3 := if s2.fawn.phase < 4 then { s2 with fawn := { s2.fawn with error := kind } } else s2
  s3.ring u 0x80 (m.toNat % 2 ^ 64)

/-! ### What is served (06 R186) -/

/-- The instance numbers of `Qos.used`. -/
def instMp (p : Nat) : Nat := p
/-- A home slice's reads. -/
def instHomeRd (h : Nat) : Nat := 16 + h
/-- A home slice's writes. -/
def instHomeWr (h : Nat) : Nat := 152 + h
/-- A tine. -/
def instTine (t : Nat) : Nat := 288 + t
/-- The shared job engines together. -/
def instJobs : Nat := 352

/-- The key of a slice and class on an instance in `Qos.used`. -/
def usedKey (i sl t : Nat) : Nat := i * 512 + sl * 4 + t

/-- Charge what an instance serves (06 R186). -/
def State.charge (s : State) (i sl t n : Nat) : State :=
  { s with qos := { s.qos with used := tset 0 s.qos.used (usedKey i sl t) (tget 0 s.qos.used (usedKey i sl t) + n) } }

/-! ### Holds and the state of service -/

/-- A global stop is in force (15 R472). -/
def State.stopped (s : State) : Bool := decide (s.obs.stopState ≥ 2)
/-- A full hold is in force: fclk change, global stop, Doze entry, Doze or wake (06 R204, 01 R40, 14 R440, R441). -/
def State.fullHold (s : State) : Bool :=
  s.blk.fclkChange.isSome || s.stopped || s.fawn.dozeAt.isSome || s.fawn.waking.isSome || s.blk.power != 2
/-- The block is block-fatal (13 R419). -/
def State.fatal (s : State) : Bool := s.flt.fatal.isSome
/-- Run block work unless a global stop freezes it (15 R472), the block-fatal state ends it (13 R419), or the fabric has
no clock (01 R46). -/
def State.unlessStopped (s : State) (f : State → State) : State := if s.stopped || s.fatal || s.blk.power != 2 then s else f s
/-- A transfer that lands during a global stop waits unprocessed in its queue (15 R472). -/
def State.land (s : State) (c : Instr) : State := { s with obs := { s.obs with landed := s.obs.landed ++ [c] } }
/-- Take a transfer now, or leave it in its queue during a global stop. -/
def State.orLand (s : State) (c : Instr) (f : State → State) : State := if s.stopped then s.land c else f s
/-- The block is in SERVICE (14 R436). -/
def State.inService (s : State) : Bool := s.fawn.phase == 7
/-- A recovery is in progress (13 R406). -/
def State.recovering (s : State) : Bool := s.flt.recs.any (fun r => r.2.state == 1) || !s.flt.waiting.isEmpty
/-- A spare that a recovery has claimed and that does not serve yet (13 R408). -/
def State.comingUp (s : State) (h : Nat) : Bool :=
  s.flt.recs.any (fun r => r.2.state == 1 && r.2.spare == some h) || s.flt.waiting.any (·.spare == some h)
/-- The chip is the mirror of a pair and has not taken over (14 R449). -/
def State.isMirror (s : State) : Bool := s.blockRec.pairRole == 2 && s.pair.state != 0 && s.pair.state != 6
/-- A port is up, and the fabric has its clock (01 R46). -/
def State.portUp (s : State) (i : Nat) : Bool := (s.port i).state == 1 && s.blk.power == 2
/-- A tenant function is ENABLED, QUIESCING or QUIESCED (01 R37). -/
def State.tenantEnabled (s : State) : Bool :=
  s.fncs.any (fun f => f.1 != 0 && (f.2.state == 2 || f.2.state == 3 || f.2.state == 4))
/-- A delta image is armed or draining (04 R140). -/
def State.deltaArmed (s : State) : Bool := s.img.state == 4 || s.img.state == 5
/-- The chip's own number in the herd. -/
def State.chip (s : State) : Nat := s.blockRec.herdChip

end Sys2Proof.Machine
end

