-- ==== Sys2Proof/Machine/Mgmt.lean ====
section
/-! DEFINITION. The management port's answers (02 R70, 14 R438) for the commands that are writes of a register. -/

namespace Sys2Proof.Machine

/-- Answer the request in service on the management port, under its tag (02 R70). A command that is a register's own row carries
tag 0 (log entry 170). -/
def State.mgRsp (s : State) (st : Status) (d : Reg) : State :=
  if s.portUp mgPort then s.emit (.mgRsp s.mgTag st d) else s

/-- What the management port answers a write in the phase in force: `none` where the window takes it (14 R438). `free`
marks the FWN and FLT windows. -/
def State.mgHeld (s : State) (free : Bool) : Option Status :=
  if s.fawn.phase = 3 || (s.fawn.phase == 6 && !free) then some .retry else none

/-- A write of a register by the management driver: it acts where the port is up and the phase lets it. -/
def State.mgWrite (s : State) (free : Bool) (f : State → State) : State :=
  if !s.portUp mgPort || s.fawn.phase < 3 then s
  else match s.mgHeld free with
    | some st => s.mgRsp st 0
    | none => (f s).mgRsp .ok 0

end Sys2Proof.Machine
end

