-- ==== Sys2Proof/Machine/Arith.lean ====
section
/-! DEFINITION. The arithmetic of 08 (formats, rounding, atomics, transcoding) and the codes of 07 (the correction
code of R218, the tag of R219), over plain numbers. -/

namespace Sys2Proof.Machine

/-! ### Numbers of a float format (08 R252, R253) -/

/-- A value exactly: not a number, an infinity, or ± m · 2^e. -/
inductive Num where
  | nan
  | inf (neg : Bool)
  | fin (neg : Bool) (m : Nat) (e : Int)
  deriving DecidableEq, Repr

/-- What the top exponent of a format holds: IEEE infinities and NaN, one NaN pattern, or values. -/
inductive Top where
  | ieee | oneNan | values
  deriving DecidableEq, Repr

/-- A float format: exponent bits, mantissa bits, bias, top exponent (08 R252). -/
structure FFmt where
  eb : Nat
  mb : Nat
  bias : Nat
  top : Top
  deriving DecidableEq, Repr

/-- The float format of an element code; integer codes read as FP32's (08 R252). -/
def ffmt (code : Nat) : FFmt :=
  match code with
  | 1 => ⟨5, 10, 15, .ieee⟩
  | 2 => ⟨8, 7, 127, .ieee⟩
  | 3 | 7 => ⟨4, 3, 7, .oneNan⟩
  | 4 | 8 => ⟨5, 2, 15, .ieee⟩
  | 9 => ⟨2, 3, 1, .values⟩
  | 10 => ⟨3, 2, 3, .values⟩
  | 11 => ⟨2, 1, 1, .values⟩
  | _ => ⟨8, 23, 127, .ieee⟩

/-- The bits of an element of a code (08 R252). -/
def elemBits (code : Nat) : Nat :=
  match code with
  | 0 | 6 => 32
  | 1 | 2 => 16
  | 9 | 10 => 6
  | 11 => 4
  | _ => 8

/-- Whether a code is an integer format (08 R252). -/
def isInt (code : Nat) : Bool := code == 5 || code == 6
/-- Whether a code is an MX format (08 R252). -/
def isMx (code : Nat) : Bool := decide (7 ≤ code) && decide (code ≤ 12)

/-- The largest code word of a finite magnitude of a format. -/
def FFmt.maxFinite (f : FFmt) : Nat :=
  match f.top with
  | .ieee => (2 ^ f.eb - 1) * 2 ^ f.mb - 1
  | .oneNan => 2 ^ (f.eb + f.mb) - 2
  | .values => 2 ^ (f.eb + f.mb) - 1

/-- The value of a code word of a float format (08 R252). -/
def FFmt.decode (f : FFmt) (w : Nat) : Num :=
  let neg := Nat.testBit w (f.eb + f.mb)
  let e := (w >>> f.mb) % 2 ^ f.eb
  let m := w % 2 ^ f.mb
  let topE := e == 2 ^ f.eb - 1
  if f.top == .ieee && topE then (if m = 0 then .inf neg else .nan)
  else if f.top == .oneNan && topE && m == 2 ^ f.mb - 1 then .nan
  else if e = 0 then .fin neg m (1 - (f.bias : Int) - f.mb)
  else .fin neg (2 ^ f.mb + m) ((e : Int) - f.bias - f.mb)

/-- The quiet NaN the block writes (08 R253). -/
def FFmt.quiet (f : FFmt) : Nat :=
  match f.top with
  | .ieee => (2 ^ f.eb - 1) * 2 ^ f.mb + 2 ^ (f.mb - 1)
  | _ => 2 ^ (f.eb + f.mb) - 1

/-- m · 2^e rounded to an integer: to nearest even, or up when 16 fraction bits and `r` carry (08 R255, R257). -/
def roundNum (m : Nat) (e : Int) (r : Option Nat) : Nat :=
  match e with
  | .ofNat k => m <<< k
  | .negSucc k =>
    let k := k + 1
    let lo := m >>> k
    let rem := m % 2 ^ k
    match r with
    | none =>
      let half := 2 ^ (k - 1)
      if rem > half || (rem == half && lo % 2 == 1) then lo + 1 else lo
    | some r =>
      let q := (rem <<< 16) >>> k
      if q + r ≥ 65536 then lo + 1 else lo

/-- Convert a value to a float format with rounding and saturation; the result is a code word (08 R255).
`r` is `none` for round-to-nearest-even and the 16 random bits otherwise. -/
def FFmt.encode (f : FFmt) (sat : Bool) (r : Option Nat) (v : Num) : Nat :=
  let sgn := fun (neg : Bool) => if neg then 2 ^ (f.eb + f.mb) else 0
  let overB := if sat || f.top != .ieee then f.maxFinite else (2 ^ f.eb - 1) * 2 ^ f.mb
  match v with
  | .nan => f.quiet
  | .inf neg => sgn neg + overB
  | .fin neg m e =>
    if m = 0 then sgn neg
    else
      let emin : Int := 1 - (f.bias : Int)
      let msb : Int := (Nat.log2 m : Int) + e
      let top := if msb < emin then emin else msb
      let k := roundNum m (e - (top - f.mb)) r
      let c := (top - emin).toNat * 2 ^ f.mb + k
      sgn neg + (if c > f.maxFinite then overB else c)

/-- A value as FP32, rounded to nearest even; beyond its range an infinity (08 R254). -/
def toFp32 (v : Num) : BitVec 32 := BitVec.ofNat 32 ((ffmt 0).encode false none v)

/-- The value of an FP32 word. -/
def ofFp32 (w : BitVec 32) : Num := (ffmt 0).decode w.toNat

/-- The scaled value of an element under the E8M0 byte `e` (08 R253). -/
def mxValue (code w e : Nat) : Num :=
  if e = 0xFF then .nan
  else
    let x : Int := (e : Int) - 127
    if code = 12 then
      let q : Int := (BitVec.ofNat 8 w).toInt
      .fin (decide (q < 0)) q.natAbs (x - 6)
    else match (ffmt code).decode w with
      | .fin n m k => .fin n m (k + x)
      | v => v

/-- The value of an element, with its scale byte for MX codes. -/
def elemValue (code w e : Nat) : Num := if isMx code then mxValue code w e else (ffmt code).decode w

/-- FP32 addition, round to nearest even (08 R254). -/
def fpAdd (a b : BitVec 32) : BitVec 32 :=
  match ofFp32 a, ofFp32 b with
  | .nan, _ => 0x7FC00000
  | _, .nan => 0x7FC00000
  | .inf x, .inf y => if x = y then a else 0x7FC00000
  | .inf _, _ => a
  | _, .inf _ => b
  | .fin nx mx ex, .fin ny my ey =>
    let lo := if ex < ey then ex else ey
    let ix : Int := (mx <<< (ex - lo).toNat : Nat)
    let iy : Int := (my <<< (ey - lo).toNat : Nat)
    let t := (if nx then -ix else ix) + (if ny then -iy else iy)
    if t = 0 then (if nx && ny then 0x80000000 else 0)
    else toFp32 (.fin (decide (t < 0)) t.natAbs lo)

/-- The exact product of two values (08 R254): an infinity times zero is not a number. -/
def mulNum (a b : Num) : Num :=
  match a, b with
  | .nan, _ => .nan
  | _, .nan => .nan
  | .inf x, .inf y => .inf (x != y)
  | .inf x, .fin y m _ => if m = 0 then .nan else .inf (x != y)
  | .fin x m _, .inf y => if m = 0 then .nan else .inf (x != y)
  | .fin x m e, .fin y n f => .fin (x != y) (m * n) (e + f)

/-- The exact sum of two values, rounded once to FP32. -/
def addNum (a b : Num) : BitVec 32 :=
  match a, b with
  | .nan, _ => 0x7FC00000
  | _, .nan => 0x7FC00000
  | .inf x, .inf y => if x = y then toFp32 (.inf x) else 0x7FC00000
  | .inf x, _ => toFp32 (.inf x)
  | _, .inf y => toFp32 (.inf y)
  | .fin nx mx ex, .fin ny my ey =>
    let lo := if ex < ey then ex else ey
    let ix : Int := (mx <<< (ex - lo).toNat : Nat)
    let iy : Int := (my <<< (ey - lo).toNat : Nat)
    let t := (if nx then -ix else ix) + (if ny then -iy else iy)
    if t = 0 then (if nx && ny then 0x80000000 else 0)
    else toFp32 (.fin (decide (t < 0)) t.natAbs lo)

/-- Fused multiply-add: x · y + z rounded once (08 R254, 09 R295). -/
def fpFma (x y z : BitVec 32) : BitVec 32 := addNum (mulNum (ofFp32 x) (ofFp32 y)) (ofFp32 z)
/-- FP32 multiplication, rounded to nearest even. -/
def fpMul (x y : BitVec 32) : BitVec 32 := toFp32 (mulNum (ofFp32 x) (ofFp32 y))
/-- The FP32 value of 1/n rounded to nearest even (09 R295). -/
def fpRecip (n : Nat) : BitVec 32 :=
  let q := 2 ^ 60 / n
  toFp32 (.fin false (2 * q + (if 2 ^ 60 % n = 0 then 0 else 1)) (-61))

/-- The order of FP32 values other than NaN, −0 below +0 (08 R250). -/
def fpKey (w : BitVec 32) : Int :=
  if w.toNat ≥ 2 ^ 31 then -1 - ((w.toNat - 2 ^ 31 : Nat) : Int) else (w.toNat : Int)

/-- minimumNumber and maximumNumber (08 R250). -/
def fpMinMax (mx : Bool) (a b : BitVec 32) : BitVec 32 :=
  if ofFp32 a = .nan then (if ofFp32 b = .nan then 0x7FC00000 else b)
  else if ofFp32 b = .nan then a
  else if (fpKey a ≤ fpKey b) != mx then a else b

/-! ### Atomics (08 R250) -/

/-- The new value of an atomic on `w` bits, or `none` where the code or size gives DENIED. -/
def atomicOp {w : Nat} (op : Nat) (old a b : BitVec w) : Option (BitVec w) :=
  let fp := fun (f : BitVec 32 → BitVec 32 → BitVec 32) =>
    if w = 32 then some ((f (old.setWidth 32) (a.setWidth 32)).setWidth w) else none
  match op with
  | 0x0 => some a
  | 0x1 => some (if old = b then a else old)
  | 0x2 => some (old + a)
  | 0x3 => some (if old.toInt ≤ a.toInt then old else a)
  | 0x4 => some (if old.toInt ≤ a.toInt then a else old)
  | 0x5 => some (if old.toNat ≤ a.toNat then old else a)
  | 0x6 => some (if old.toNat ≤ a.toNat then a else old)
  | 0x7 => some (old &&& a)
  | 0x8 => some (old ||| a)
  | 0x9 => some (old ^^^ a)
  | 0xA => fp fpAdd
  | 0xB => fp (fpMinMax false)
  | 0xC => fp (fpMinMax true)
  | _ => none

/-- An atomic on a line at byte offset `o`: the old value and the new line. `size` is true for 64 bits (08 R249). -/
def atomicLine (l : Line) (o op : Nat) (size : Bool) (a b : Reg) : Option (Reg × Line) :=
  let sh := 8 * o
  let put := fun (old new : Nat) => BitVec.ofNat 1024 (l.toNat - old <<< sh + new <<< sh)
  if size then
    let old := BitVec.ofNat 64 (l.toNat >>> sh)
    (atomicOp op old a b).map fun n => (old, put old.toNat n.toNat)
  else
    let old := BitVec.ofNat 32 (l.toNat >>> sh)
    (atomicOp op old (a.setWidth 32) (b.setWidth 32)).map fun n => (old.setWidth 64, put old.toNat n.toNat)

/-! ### Rounding streams and MX output (08 R255 to R257) -/

/-- mix(x) of 08 R257. -/
def mix (x : BitVec 64) : BitVec 64 :=
  let z := (x ^^^ (x >>> 30)) * 0xBF58476D1CE4E5B9
  let z := (z ^^^ (z >>> 27)) * 0x94D049BB133111EB
  z ^^^ (z >>> 31)

/-- The 16 random bits of an element (08 R257); `win` and `tick` as the window or 09 gives them. -/
def srBits (seed : BitVec 64) (win tick block element : Nat) : Nat :=
  let s := seed ^^^ (BitVec.ofNat 64 win * 0x9E3779B97F4A7C15) ^^^ BitVec.ofNat 64 tick
  (mix (s ^^^ ((BitVec.ofNat 64 block <<< 8) ^^^ BitVec.ofNat 64 element))).toNat % 65536

/-- An FP32 value in a non-MX float code. -/
def convFloat (code : Nat) (sat : Bool) (r : Option Nat) (v : BitVec 32) : Nat :=
  (ffmt code).encode sat r (ofFp32 v)

/-- An INT32 value in code 5 or 6 (08 R255). -/
def convInt (code : Nat) (sat : Bool) (v : BitVec 32) : Nat :=
  if code = 6 then v.toNat
  else if sat then
    (BitVec.ofInt 8 (if v.toInt > 127 then 127 else if v.toInt < -128 then -128 else v.toInt)).toNat
  else v.toNat % 256

/-- An MXINT8 element of v / 2^x (08 R256). -/
def convMxInt (r : Option Nat) (v : Num) (x : Int) : Nat :=
  match v with
  | .fin neg m e =>
    let k := roundNum m (e - x + 6) r
    let q : Int := if neg then (if k > 128 then -128 else -(k : Int)) else (if k > 127 then 127 else (k : Int))
    (BitVec.ofInt 8 q).toNat
  | _ => 0

/-- Replace an infinity by the largest finite FP32 value (08 R256). -/
def capInf (v : Num) : Num :=
  match v with
  | .inf n => .fin n (2 ^ 24 - 1) 104
  | v => v

/-- The scale exponent X of an MX block (08 R256). -/
def mxScale (code : Nat) (vs : List Num) : Int :=
  let emax : Int := match code with | 7 => 8 | 8 => 15 | 9 => 2 | 10 => 4 | 11 => 2 | _ => 0
  let logs := vs.filterMap fun v => match v with
    | .fin _ m e => if m = 0 then none else some ((Nat.log2 m : Int) + e)
    | _ => none
  match logs with
  | [] => -127
  | l :: ls =>
    let top := ls.foldl (fun a b => if a < b then b else a) l
    let x := top - emax
    if x < -127 then -127 else if x > 127 then 127 else x

/-- An MX output block: its scale byte and its elements (08 R256). `r k` gives the random bits of element k. -/
def mxBlock (code : Nat) (sat : Bool) (r : Nat → Option Nat) (vals : List (BitVec 32)) : Nat × List Nat :=
  let vs := vals.map ofFp32
  if vs.any (fun v => v == .nan || (!sat && (v == .inf true || v == .inf false))) then
    (0xFF, vals.map fun _ => 0)
  else
    let vs := vs.map capInf
    let x := mxScale code vs
    ((x + 127).toNat, (vs.zip (List.range vs.length)).map fun (v, k) =>
      if code = 12 then convMxInt (r k) v x
      else match v with
        | .fin n m e => (ffmt code).encode true (r k) (.fin n m (e - x))
        | v => (ffmt code).encode true (r k) v)

/-- Elements of `w` bits packed little-endian (08 R253). -/
def packElems (w : Nat) : List Nat → Nat
  | [] => 0
  | x :: xs => x + packElems w xs <<< w

/-- The `n` elements of `w` bits from bit `lo` of a number (08 R253). -/
def unpackElems (v lo w : Nat) : Nat → List Nat
  | 0 => []
  | n + 1 => (v >>> lo) % 2 ^ w :: unpackElems v (lo + w) w n

/-- An element as its accumulator value: INT32 for codes 5 and 6, FP32 otherwise (08 R269). -/
def toAcc (code w : Nat) : BitVec 32 :=
  if code = 5 then (BitVec.ofNat 8 w).signExtend 32
  else if code = 6 then BitVec.ofNat 32 w
  else toFp32 ((ffmt code).decode w)

/-- One accumulation (08 R254). -/
def accAdd (int : Bool) (a b : BitVec 32) : BitVec 32 := if int then a + b else fpAdd a b

/-! ### Storage formats (08 R258 to R262) -/

/-- A storage format: its element code, the code it is delivered as, elements in a stored line (08 R258). -/
def storeFmt (f : Nat) : Nat × Nat × Nat :=
  match f with
  | 1 => (7, 2, 128) | 2 => (8, 2, 128) | 3 => (9, 2, 160) | 4 => (10, 2, 160) | 5 => (11, 2, 256)
  | 6 => (12, 2, 128) | 7 => (3, 2, 128) | 8 => (4, 2, 128) | 9 => (7, 3, 128) | 10 => (9, 3, 160)
  | 11 => (11, 3, 256) | _ => (0, 0, 0)

/-- Whether a storage format keeps its scales in a scale region (08 R259). -/
def hasScaleRegion (f : Nat) : Bool := [1, 2, 5, 6, 9, 11].contains f
/-- Whether a storage format keeps 5 blocks and their scales in a line (08 R259). -/
def scaleInLine (f : Nat) : Bool := [3, 4, 10].contains f
/-- Whether a line of a granule is an element line under a format (08 R259). -/
def isElementLine (f lineInGranule : Nat) : Bool := !hasScaleRegion f || decide (lineInGranule < 15360)

/-- The byte of the scale region that holds the scale of the first block of an element line (08 R259). -/
def scaleByteOf (f lineInGranule : Nat) : Nat := lineInGranule * ((storeFmt f).2.2 / 32)

/-- The delivered lines of an element line (08 R260, R261). `scales` are the scale bytes of its blocks. -/
def expandLine (f : Nat) (l : Line) (scales : List Nat) : List Line :=
  let (code, out, n) := storeFmt f
  let ob := elemBits out
  let xs := unpackElems l.toNat 0 (elemBits code) n
  let ys := (xs.zip (List.range n)).map fun (w, k) =>
    (ffmt out).encode (out == 3) none (elemValue code w (scales.getD (k / 32) 0))
  let total := packElems ob ys
  (List.range ((n * ob + 1023) / 1024)).map fun b => BitVec.ofNat 1024 (total >>> (1024 * b))

/-- The scale bytes a MXFP6 line carries (08 R259). -/
def lineScales (l : Line) : List Nat := (List.range 5).map fun j => (l.toNat >>> (8 * (120 + j))) % 256

/-! ### The correction code (07 R218) -/

/-- Multiplication by α = x in GF(2^8) with 0x11D. -/
def gfDouble (a : Nat) : Nat := if a ≥ 128 then (2 * a) ^^^ 0x11D else 2 * a

/-- Multiplication in GF(2^8), by the low `n` bits of `b`. -/
def gfMulBits (a b : Nat) : Nat → Nat
  | 0 => 0
  | n + 1 => (if Nat.testBit b 0 then a else 0) ^^^ gfMulBits (gfDouble a) (b / 2) n

/-- Multiplication in GF(2^8). -/
def gfMul (a b : Nat) : Nat := gfMulBits a b 8

/-- The check symbols of the information symbols, first symbol of highest degree (log entry 13). -/
def rsCheck : List Nat → Nat × Nat × Nat × Nat → Nat × Nat × Nat × Nat
  | [], r => r
  | b :: bs, (r3, r2, r1, r0) =>
    let f := b ^^^ r3
    rsCheck bs (r2 ^^^ gfMul 15 f, r1 ^^^ gfMul 54 f, r0 ^^^ gfMul 120 f, gfMul 64 f)

/-- The information symbols of a sector: 64 ciphertext bytes, then sideband bits [63:32] (07 R218). -/
def rsInfo (c : Sector) (hi : BitVec 32) : List Nat :=
  ((leBytes c.toNat 64) ++ (leBytes hi.toNat 4)).map (·.toNat)

/-- The code field of a sector (07 R217, R218). -/
def rsCode (c : Sector) (hi : BitVec 32) : Nat :=
  let (r3, r2, r1, r0) := rsCheck (rsInfo c hi) (0, 0, 0, 0)
  r3 + r2 * 2 ^ 8 + r1 * 2 ^ 16 + r0 * 2 ^ 24

/-- The syndrome at a root: Horner over the symbols. -/
def rsSyndrome (root : Nat) : List Nat → Nat → Nat
  | [], a => a
  | b :: bs, a => rsSyndrome root bs (gfMul a root ^^^ b)

/-- The degree below `n` of a single error with syndromes `e` and `s1`, if any. -/
def rsLocate (e s1 : Nat) : Nat → Nat → Option Nat
  | 0, _ => none
  | n + 1, d => if e = s1 then some d else rsLocate (gfDouble e) s1 n (d + 1)

/-- Decode a stored sector: `none` where uncorrectable; else ciphertext, sideband and whether a symbol was
corrected (07 R218, R224 step 2). -/
def rsDecode (c : Sector) (sb : BitVec 64) : Option (Sector × BitVec 64 × Bool) :=
  let syms := rsInfo c (BitVec.ofNat 32 (sb.toNat >>> 32)) ++ (leBytes (sb.toNat % 2 ^ 32) 4).map (·.toNat)
  let s0 := rsSyndrome 1 syms 0
  let s1 := rsSyndrome 2 syms 0
  let s2 := rsSyndrome 4 syms 0
  let s3 := rsSyndrome 8 syms 0
  if s0 = 0 && s1 = 0 && s2 = 0 && s3 = 0 then some (c, sb, false)
  else if s0 = 0 || s1 = 0 || gfMul s1 s1 != gfMul s0 s2 || gfMul s2 s2 != gfMul s1 s3 then none
  else match rsLocate s0 s1 72 0 with
    | none => none
    | some d =>
      let i := 71 - d
      if i < 64 then some (c ^^^ BitVec.ofNat 512 (s0 <<< (8 * i)), sb, true)
      else if i < 68 then some (c, sb ^^^ BitVec.ofNat 64 (s0 <<< (8 * (i - 64) + 32)), true)
      else some (c, sb ^^^ BitVec.ofNat 64 (s0 <<< (8 * (i - 68))), true)

/-! ### The integrity tag (07 R219) -/

/-- Multiplication in GF(2^64) with x^64 + x^4 + x^3 + x + 1, by the low `n` bits of `b`. -/
def hMulBits (a b : Nat) : Nat → Nat
  | 0 => 0
  | n + 1 =>
    let d := if Nat.testBit a 63 then (2 * a) % 2 ^ 64 ^^^ 0x1B else 2 * a
    (if Nat.testBit b 0 then a else 0) ^^^ hMulBits d (b / 2) n

/-- G of 07 R219: Horner in H over c0 to c7 and m, each with one more factor H. -/
def tagHash (h : Nat) : List Nat → Nat → Nat
  | [], g => g
  | c :: cs, g => tagHash h cs (hMulBits (g ^^^ c) h 64)

/-- The tweak of the next cipher block: multiplied by α in GF(2^128), little-endian (07 R215). -/
def xtsNext (t : BitVec 128) : BitVec 128 := (t <<< 1) ^^^ (if t.getLsbD 127 then 0x87 else 0)
/-- The tweak of cipher block j of a sector: AES-256 under Key2 of the sector index as a little-endian block, times α^j (07 R215). -/
def xtsTweak (key : BitVec 512) (ix : Nat) : Nat → BitVec 128
  | 0 => Config.aes256 (key.extractLsb' 256 256) (BitVec.ofNat 128 (ix % 2 ^ 35))
  | j + 1 => xtsNext (xtsTweak key ix j)
/-- Cipher block j of a sector, in address order. -/
def xtsBlock (x : Sector) (j : Nat) : BitVec 128 := x.extractLsb' (128 * j) 128
/-- Four cipher blocks as a sector. -/
def xtsJoin (f : Nat → BitVec 128) : Sector := f 3 ++ f 2 ++ f 1 ++ f 0
/-- XTS-AES-256 of a sector (07 R215): each of its 4 cipher blocks under Key1 between two additions of its tweak. -/
def xtsEncrypt (key : BitVec 512) (ix : Nat) (x : Sector) : Sector :=
  xtsJoin fun j => Config.aes256 (key.setWidth 256) (xtsBlock x j ^^^ xtsTweak key ix j) ^^^ xtsTweak key ix j
/-- The decryption of a sector (07 R215). -/
def xtsDecrypt (key : BitVec 512) (ix : Nat) (x : Sector) : Sector :=
  xtsJoin fun j => Config.aes256Inv (key.setWidth 256) (xtsBlock x j ^^^ xtsTweak key ix j) ^^^ xtsTweak key ix j

/-- The message word m of a sector: its index and version (07 R219). -/
def tagM (sector : Nat) (version : Bool) : Nat := sector % 2 ^ 35 + flag version * 2 ^ 35

/-- The tag of a sector's ciphertext under a slot's material (07 R219): hash key in bits [575:512],
pad key in [831:576]. -/
def sectorTag (material : BitVec 832) (sector : Nat) (version : Bool) (c : Sector) : Nat :=
  let h := (material.toNat >>> 512) % 2 ^ 64
  let m := tagM sector version
  let ws := (List.range 8).map fun i => (c.toNat >>> (64 * i)) % 2 ^ 64
  let g8 := tagHash h ws 0
  let g := hMulBits (g8 ^^^ m) h 64
  let pad := Config.aes256 (BitVec.ofNat 256 (material.toNat >>> 576)) (BitVec.ofNat 128 m)
  (g ^^^ pad.toNat % 2 ^ 64) % 2 ^ 28

end Sys2Proof.Machine
end

