-- ==== Sys2Proof/Machine/Flags.lean ====
section
/-! DEFINITION. The flags of the block: parity of the channels (02 R50, R83) and the access codes of register fields
(00 R18). -/

namespace Sys2Proof.Machine

/-! ### Parity (02 R50): odd, so that the covered bits and the parity bit together hold an odd number of ones -/

/-- Whether a parity bit makes the covered bits odd. -/
def oddOk (covered bits : Nat) (p : Bool) : Bool := xorBits covered bits ^^ p

/-- Whether the data parity bits hold: bit k covers data bits [64k+63:64k]. -/
def dparOk (data par : Nat) : Nat → Bool
  | 0 => true
  | k + 1 => oddOk ((data >>> (64 * k)) % 2 ^ 64) 64 (Nat.testBit par k) && dparOk data par k

/-- Whether tp_req_op holds a reserved value (02 R55). -/
def tpReserved (op : Nat) : Bool :=
  !([0x00, 0x01, 0x02, 0x03, 0x08, 0x09, 0x0A, 0x10, 0x11, 0x18, 0x20, 0x21, 0x22, 0x23].contains op)
/-- The reserved opcode that a transfer carries, if it does. -/
def tpRsvd (r : TpReq) : Option Nat := (r.code.map (·.toNat)).filter tpReserved
/-- The reserved op that a host request carries: 4 to 7 (02 R66). -/
def hostRsvd (r : HostReq) : Option Nat := (r.code.map (·.toNat)).filter fun n => decide (4 ≤ n)

/-- REQ of a tile port: op, tag, address, class, sector and byte enables (02 R54). -/
def tpCparOk (op : Nat) (r : TpReq) : Bool :=
  oddOk (place ((tpRsvd r).getD op) 0 6 + place r.tag.toNat 6 10 + place r.addr.toNat 16 44 + place r.tc.toNat 60 2
    + place (flag r.sector) 62 1 + place r.be.toNat 63 64) 127 r.cpar

/-- The data parity of a REQ transfer. -/
def tpDparOk (r : TpReq) : Bool := dparOk r.wdata.toNat r.dpar.toNat 8

/-- A beat of SRSP: identifier, response, sector (02 R54). -/
def srspCparOk (r : SnpResp) (sector : Bool) : Bool :=
  oddOk (place r.id.toNat 0 10 + place r.resp.toNat 10 4 + place (flag sector) 14 1) 15
    (Nat.testBit r.cpar.toNat (flag sector))

/-- The data parity of both beats of a snoop answer. -/
def srspDparOk (r : SnpResp) : Bool := dparOk r.data.toNat r.dpar.toNat 16

/-- A host request: function, peer, space, op, offset, length, tag and byte enables (02 R66). -/
def hostCparOk (op : Nat) (r : HostReq) : Bool :=
  oddOk (place r.fn.toNat 0 12 + place (flag r.peer) 12 1 + place r.space.toNat 13 2 + place ((hostRsvd r).getD op) 15 3
    + place r.addr.toNat 18 44 + place r.len.toNat 62 8 + place r.tag.toNat 70 10 + place r.be.toNat 80 128) 208 r.cpar

/-- The data parity of a host request. -/
def hostDparOk (r : HostReq) : Bool := dparOk r.wdata.toNat r.dpar.toNat 16

/-- A kernel-boundary request: type, slot, tile range and sequence number (02 R66). -/
def kbCparOk (ty : Nat) (k : KbReq) : Bool :=
  oddOk (place (if k.rsvd then 3 else ty) 0 2 + place k.slot.toNat 2 7 + place k.first.toNat 9 8 + place k.count.toNat 17 9
    + place k.seq.toNat 26 16) 42 k.cpar

/-- A debug lane: tile, program counter and stall code (02 R74). -/
def dbgCparOk (tile pc stall : Nat) (p : Bool) : Bool :=
  oddOk (place tile 0 8 + place pc 8 48 + place stall 56 4) 60 p

/-! ### Parity of the outputs (02 R50, R54, R60, R66, R70): what the block drives beside each transfer -/

/-- The parity bit that makes the covered bits odd. -/
def oddBit (covered bits : Nat) : Bool := !(xorBits covered bits)
/-- The data parity bits of `n` groups of 64 bits. -/
def dparBits (data : Nat) (n : Nat) : Nat :=
  (List.range n).foldl (fun a k => a + place (flag (oddBit ((data >>> (64 * k)) % 2 ^ 64) 64)) k 1) 0

/-- The *_cpar bit the block drives with a transfer; `none` on a channel whose table lists none (02 R50). A memory request stands
on lane 0 of its fclk, the other lanes at 0. -/
def Output.cpar : Output → Option Bool
  | .tileRsp _ tag st granted _ => some (oddBit (place tag 0 10 + place st.code 10 4 + place granted 14 3) 17)
  | .tileSnp _ ty id addr => some (oddBit (place ty 0 4 + place id 4 10 + place addr 14 44) 58)
  | .hostRsp tag st _ => some (oddBit (place tag 0 10 + place st.code 10 4) 14)
  | .kbAck seq st => some (oddBit (place seq 0 16 + place st.code 16 4) 20)
  | .mgRsp tag st _ => some (oddBit (place tag 0 6 + place st.code 6 4) 10)
  | .memReq _ write tag addr mask _ _ =>
    some (oddBit (place (flag write) 0 1 + place tag 1 8 + place addr 9 30 + place mask 39 2) 41)
  | _ => none

/-- The *_dpar bits the block drives with a transfer, bit k for data bits [64k+63:64k]. Memory data carries none (02 R60). -/
def Output.dpar : Output → Option Nat
  | .tileRsp _ _ _ _ d => some (dparBits d.toNat 16)
  | .hostRsp _ _ d => some (dparBits d.toNat 16)
  | .mgRsp _ _ d => some (dparBits d.toNat 1)
  | _ => none

/-- A request of the management port: write, size, address, tag (02 R70). -/
def mgCparOk (r : MgReq) : Bool :=
  oddOk (place (flag r.write) 0 1 + place (flag r.wide) 1 1 + place r.addr.toNat 2 28 + place r.tag.toNat 30 6) 36 r.cpar

/-- The data parity of a management request. -/
def mgDparOk (r : MgReq) : Bool := oddOk r.wdata.toNat 64 r.dpar

/-! ### Register access codes (00 R18) -/

/-- Bits [lo+len-1:lo] of a value written to a register. -/
def wfield (d : Reg) (lo len : Nat) : Nat := field d lo len

/-- RW: the written bits under a mask, the old bits elsewhere. -/
def rwMask (mask old new : Reg) : Reg := (new &&& mask) ||| (old &&& ~~~mask)

/-- W1C of one flag: 1 clears it. -/
def w1c (old : Bool) (d : Reg) (i : Nat) : Bool := old && !(Nat.testBit d.toNat i)

/-- W1S of one flag: 1 sets it. -/
def w1s (old : Bool) (d : Reg) (i : Nat) : Bool := old || Nat.testBit d.toNat i

/-- A number placed in a register at bit `lo`. -/
def rput (v lo len : Nat) : Reg := BitVec.ofNat 64 (place v lo len)

/-- A flag placed in a register. -/
def rflag (b : Bool) (lo : Nat) : Reg := rput (flag b) lo 1

end Sys2Proof.Machine
end

