-- ==== Sys2Proof/Machine/Operands.lean ====
section
/-! DEFINITION. The operand forms of the commands: addresses (00 R13, 05 R149), atomic operands (08 R249), the
control descriptor of a reduce window (08 R266), job descriptors (09 R285 to R287), beats of a tile port (02 R55). -/

namespace Sys2Proof.Machine

/-! ### Addresses -/

/-- The chip an address names (00 R13). -/
def chipOf (a : Nat) : Nat := a / 2 ^ 41 % 8
/-- The local address (00 R13). -/
def localOf (a : Nat) : Nat := a % 2 ^ 41
/-- The granule of a local address (05 R149). -/
def granOf (a : Nat) : Nat := localOf a / 2 ^ 21
/-- A line number: the address in lines, chip bits included. -/
def lineOf (a : Nat) : Nat := a / 128 % 2 ^ 37
/-- The chip of a line number. -/
def lineChip (l : Nat) : Nat := l / 2 ^ 34
/-- The granule of a line number. -/
def lineGran (l : Nat) : Nat := l % 2 ^ 34 / 2 ^ 14
/-- The line within its granule. -/
def lineInGran (l : Nat) : Nat := l % 2 ^ 14
/-- The memory port of a granule (05 R149). -/
def granPort (g : Nat) : Nat := g % 16
/-- The stack granule of a granule (05 R149). -/
def granStack (g : Nat) : Nat := g / 16
/-- The base die of a granule (05 R150). -/
def granDie (g : Nat) : Nat := g % 16 / 2
/-- The line address within the stack (05 R149). -/
def mpAddr (l : Nat) : Nat := granStack (lineGran l) * 16384 + lineInGran l
/-- The first line of a granule. -/
def granLine (g : Nat) : Nat := g * 2 ^ 14

/-- Whether a granule is a parity granule of its stripe group (07 R236). -/
def isParity (g : Nat) : Bool := g % 16 == g / 16 % 16
/-- The first `n` data granules from a granule on (07 R486). -/
def dataFrom : Nat → Nat → Nat → List Nat
  | 0, _, _ => []
  | fuel + 1, g, n => if n = 0 then [] else if isParity g then dataFrom fuel (g + 1) n else g :: dataFrom fuel (g + 1) (n - 1)
/-- The granules of a system region of `n` granules at a base; `none` where the base is not the start of a data granule. -/
def regionAt (base n : Nat) : Option (List Nat) :=
  let g := granOf base
  if n = 0 then some [] else if base % 2 ^ 21 != 0 || isParity g then none else some (dataFrom (2 * n + 2) g n)
/-- The local address of byte offset `o` of a region (07 R486): offset o mod 2 MiB of its data granule number o / 2 MiB. -/
def regionAddr (base o : Nat) : Nat :=
  let n := o / 2 ^ 21
  (dataFrom (2 * n + 4) (base / 2 ^ 21) (n + 1)).getLastD 0 * 2 ^ 21 + o % 2 ^ 21

/-- The set of a line in the data array (05 R152). -/
def setOf (l : Nat) : Nat := (l % 2048) ^^^ (l / 2048 % 2048)
/-- The set of a line in the snoop filter (05 R152). -/
def fsetOf (l : Nat) : Nat := (l % 8192) ^^^ (l / 8192 % 8192)
/-- The 16-bit hash of a line index (05 R150). -/
def lineHash (l : Nat) : Nat :=
  let x := l % 2 ^ 34
  (x % 65536) ^^^ (x / 65536 % 65536) ^^^ (x / 2 ^ 32)

/-! ### Atomic operands (08 R249) -/

/-- The operands of an atomic request: a, b, op, size; `none` where a field that has to be 0 is not, the code is
reserved, or a float op names 64 bits (08 R249, R250). -/
def atomOperands (w : Sector) : Option (Reg × Reg × Nat × Bool) :=
  let a := BitVec.ofNat 64 w.toNat
  let b := BitVec.ofNat 64 (w.toNat >>> 64)
  let op := field w 128 4
  let size := Nat.testBit w.toNat 132
  if field w 133 379 != 0 || (op != 1 && b != 0) || (!size && field a 32 32 != 0)
      || op > 0xC || (size && (op == 0xA || op == 0xB || op == 0xC)) then none
  else some (a, b, op, size)

/-! ### The control descriptor of a reduce window (08 R266) -/

/-- The fields of an OPEN. -/
structure RwCtl where
  op : Nat
  inFmt : Nat
  outFmt : Nat
  round : Bool
  sat : Bool
  count : Nat
  fence : Nat
  value : Reg
  outBase : Nat
  blocks : Nat
  deadline : Nat
  reservedOk : Bool
  deriving DecidableEq, Repr

/-- Read a control descriptor. -/
def rwCtl (w : Sector) : RwCtl :=
  { op := field w 0 4, inFmt := field w 4 4, outFmt := field w 8 4, round := Nat.testBit w.toNat 12,
    sat := Nat.testBit w.toNat 13, count := field w 16 16, fence := field w 32 20,
    value := BitVec.ofNat 64 (w.toNat >>> 64), outBase := field w 128 44, blocks := field w 192 17,
    deadline := field w 224 16,
    reservedOk := field w 14 2 == 0 && field w 52 12 == 0 && field w 172 20 == 0 && field w 209 15 == 0
      && field w 240 272 == 0 }

/-! ### Job descriptors (09 R285 to R287) -/

/-- The eight words of a descriptor carried in a sector. -/
def descWords (w : Sector) : List Reg := (List.range 8).map fun i => BitVec.ofNat 64 (w.toNat >>> (64 * i))

/-- Word k of a descriptor. -/
def dword (d : List Reg) (k : Nat) : Reg := d.getD k 0

/-- The type of a descriptor (09 R286). -/
def dType (d : List Reg) : Nat := field (dword d 0) 0 4
/-- The traffic class field. -/
def dTc (d : List Reg) : Nat := field (dword d 0) 4 2
/-- Stochastic rounding. -/
def dRound (d : List Reg) : Bool := Nat.testBit (dword d 0).toNat 6
/-- Saturation. -/
def dSat (d : List Reg) : Bool := Nat.testBit (dword d 0).toNat 7
/-- The fence index. -/
def dFence (d : List Reg) : Nat := field (dword d 0) 8 20
/-- Whether the job signals its fence. -/
def dFenceEn (d : List Reg) : Bool := Nat.testBit (dword d 0).toNat 28
/-- The tenant's tag. -/
def dTag (d : List Reg) : Nat := field (dword d 0) 32 16
/-- The fence value. -/
def dValue (d : List Reg) : Reg := dword d 1
/-- An address field: bits [43:0] of a word. -/
def dAddr (d : List Reg) (k : Nat) : Nat := field (dword d k) 0 44

/-- Whether the bits of a word outside a list of (low bit, length) fields are 0 (09 R285). -/
def onlyFields (w : Reg) : List (Nat × Nat) → Bool
  | [] => w == 0
  | (lo, len) :: fs => onlyFields (w - rput (field w lo len) lo len) fs

/-- Bytes of an element of a code, 0 where elements are not whole bytes. -/
def elemBytes (code : Nat) : Nat := elemBits code / 8

/-- The static check of 09 R287 apart from its sequence conditions. `chip` is this chip: an address that names
another chip fails (10 R320). -/
def descOk (chip : Nat) (d : List Reg) : Bool :=
  let w := dword d
  let addr := fun k al => onlyFields (w k) [(0, 44)] && dAddr d k % al == 0 && chipOf (dAddr d k) == chip
  let zero := fun ks => (ks : List Nat).all fun k => w k == 0
  onlyFields (w 0) [(0, 29), (32, 16)] &&
  match dType d with
  | 0x1 | 0xA => addr 2 64 && addr 3 64 && onlyFields (w 4) [(0, 38)] && field (w 4) 0 38 % 64 == 0
      && field (w 4) 0 38 ≥ 64 && zero [5, 6, 7]
  | 0x2 =>
    let fi := field (w 4) 32 4
    let fo := field (w 4) 36 4
    addr 2 1 && addr 3 1 && onlyFields (w 4) [(0, 40)] && fi ≤ 12 && fo ≤ 12 && isInt fi == isInt fo
      && (!(isMx fi || isMx fo) || field (w 4) 0 32 % 32 == 0) && zero [5, 6, 7]
  | 0x3 => addr 2 64 && addr 3 4 && addr 4 64 && onlyFields (w 5) [(0, 48)] && field (w 5) 0 32 ≥ 1
      && field (w 5) 32 16 ≥ 1 && zero [6, 7]
  | 0x4 => addr 2 64 && addr 3 4 && addr 4 64 && onlyFields (w 5) [(0, 48)] && field (w 5) 0 32 ≥ 1
      && field (w 5) 32 16 ≥ 1 && zero [6, 7]
  | 0x5 =>
    let dim := field (w 6) 0 13
    let ft := field (w 6) 16 4
    let fo := field (w 6) 20 4
    addr 2 1 && addr 3 1 && addr 4 1 && addr 5 1 && addr 7 1
      && onlyFields (w 6) [(0, 13), (16, 4), (20, 4), (24, 2), (32, 32)]
      && 1 ≤ dim && dim ≤ 4096 && ft ≤ 4 && fo ≤ 2 && dim * elemBytes ft % 64 == 0 && dim * elemBytes fo % 64 == 0
      && field (w 6) 24 2 ≤ 2 && field (w 6) 32 32 ≥ 1
  | 0x6 => onlyFields (w 2) [(0, 18)] && addr 3 128 && onlyFields (w 4) [(0, 32)] && field (w 4) 0 32 ≥ 1
      && zero [5, 6, 7]
  | 0x7 => addr 2 8 && addr 3 128 && onlyFields (w 4) [(0, 32)] && field (w 4) 0 32 ≥ 1 && zero [5, 6, 7]
  | 0x8 => onlyFields (w 2) [(0, 18)] && onlyFields (w 3) [(0, 26), (32, 4)]
      && [3, 4, 7, 8].contains (field (w 3) 32 4) && zero [4, 5, 6, 7]
  | 0x9 => onlyFields (w 2) [(0, 18)] && onlyFields (w 3) [(0, 18)] && onlyFields (w 4) [(0, 26), (32, 2)]
      && field (w 4) 32 2 ≤ 1 && (field (w 4) 32 2 == 1 || field (w 2) 0 18 != field (w 3) 0 18) && zero [5, 6, 7]
  | 0xB => addr 2 64 && onlyFields (w 3) [(0, 38)] && field (w 3) 0 38 % 64 == 0 && zero [4, 5, 6, 7]
  | 0xC => addr 2 128 && onlyFields (w 3) [(0, 38)] && field (w 3) 0 38 % 128 == 0 && zero [4, 5, 6, 7]
  | 0xD => onlyFields (w 2) [(0, 20)] && onlyFields (w 3) [(0, 21)] && field (w 3) 0 21 ≥ 1
      && field (w 2) 0 20 + field (w 3) 0 21 ≤ 1048576 && addr 4 4 && zero [5, 6, 7]
  | _ => false

/-! ### A line of device memory from a host request (02 R66) -/

/-- The bytes of a host request: 0 means 128. -/
def hostLen (r : HostReq) : Nat := if r.len.toNat = 0 then 128 else r.len.toNat

/-- Whether an access stays within a 128 B line (02 R67). -/
def inLine (addr len : Nat) : Bool := addr % 128 + len ≤ 128

/-- The byte enables of `len` bytes from byte `o` of a line. -/
def beRange (o len : Nat) : BitVec 128 := BitVec.ofNat 128 ((2 ^ len - 1) <<< o)

end Sys2Proof.Machine
end

