-- ==== Sys2Proof/Machine/Send.lean ====
section
/-! DEFINITION. Sending over the tines (10 R304 to R306, R311 to R319): which tines traffic may use, the frames and
messages of a transmit SA, its paths and windows. -/

namespace Sys2Proof.Machine

/-! ### SA configuration fields (10 R335) -/

/-- Whether a slot transmits. -/
def SaSt.tx (a : SaSt) : Bool := Nat.testBit a.cfg.toNat 0
/-- The cipher: 0 GCM-AES-XPN-256, 1 none. -/
def SaSt.cipher (a : SaSt) : Nat := field a.cfg 1 1
/-- The association number. -/
def SaSt.an (a : SaSt) : Nat := field a.cfg 2 2
/-- The slice. -/
def SaSt.slice (a : SaSt) : Nat := field a.cfg 4 7
/-- The function checked for network SAs. -/
def SaSt.fn (a : SaSt) : Nat := field a.cfg 12 12
/-- 0 network, 1 herd chip, 2 pair partner. -/
def SaSt.kind (a : SaSt) : Nat := field a.cfg 24 2
/-- The peer chip. -/
def SaSt.chip (a : SaSt) : Nat := field a.cfg 26 3
/-- UDP framing. -/
def SaSt.udp (a : SaSt) : Bool := Nat.testBit a.cfg.toNat 29
/-- Frames of the replay window. -/
def SaSt.replay (a : SaSt) : Nat := field a.cfg 32 32

/-! ### Pause (02 R64, 10 R317) -/

/-- Whether the peer of a tine has paused a transmit priority. -/
def State.txPaused (s : State) (t prio : Nat) : Bool := Nat.testBit (s.tine t).paused.toNat prio
/-- Start a frame of ctl_prio on a tine, or hold it, oldest first, while its priority is paused (10 R317). -/
def State.emitCtl (s : State) (t : Nat) (o : Output) : State :=
  if s.txPaused t s.tin.ctlPrio then s.setTine t { s.tine t with held := (s.tine t).held ++ [o] } else s.emit o
/-- Start the held frames of a tine whose ctl_prio is not paused; a tine that is no longer in use drops them. -/
def State.ctlRelease (s : State) (t : Nat) : State :=
  let x := s.tine t
  if x.held.isEmpty || s.txPaused t s.tin.ctlPrio then s
  else
    let s := s.setTine t { x with held := [] }
    if x.state ≥ 3 then s else x.held.foldl State.emit s
/-- lp_tx_paused as sampled with a frame. -/
def State.pauseSeen (s : State) (t : Nat) (p : BitVec 8) : State :=
  if (s.tine t).paused = p then s else (s.setTine t { s.tine t with paused := p }).ctlRelease t

/-- The record of the link a tine carries (10 R328). -/
def State.linkRec (s : State) (t : Nat) : TineRec := s.tineRec (s.tine t).carries
/-- Whether a slice has a budget on shared tines (10 R305): bw_share of one of its classes is not 0. -/
def State.tineBudget (s : State) (sl : Nat) : Bool :=
  (List.range 4).any fun t => (tget {} s.qos.classes (sl * 4 + t)).bw != 0
/-- Whether a TINE record lets traffic of a slice on its link (10 R305). Slice 0 uses every herd or pair tine. -/
def State.recAllows (s : State) (r : TineRec) (sl : Nat) : Bool :=
  if sl = 0 then r.use != 3 && (r.peerKind != 0 || r.use == 2)
  else (r.use == 1 && r.owner == sl) || (r.use == 0 && s.tineBudget sl)
/-- Whether a tine may carry traffic of a slice; one that changes holder takes none of the old holder's while a delta
drains (04 R145). -/
def State.tineAllows (s : State) (t sl : Nat) : Bool :=
  s.recAllows (s.linkRec t) sl && (s.img.state != 5 || match s.img.staged with
    | some d => s.recAllows (tget {} d.cfg.tines (s.tine t).carries) sl
    | none => true)
/-- Whether a tine is usable for an SA and a slice's traffic (10 R305); SA masks name links. -/
def State.usable (s : State) (n t sl : Nat) : Bool :=
  Nat.testBit (s.sa n).tines.toNat (s.tine t).carries && (s.tine t).state == 2
    && s.tineAllows t sl

/-- The SA that transmits to the same connection (10 R311): slice, peer kind, chip and address agree. -/
def sameConn (a b : SaSt) : Bool :=
  a.slice == b.slice && a.kind == b.kind && a.chip == b.chip && a.peer == b.peer
/-- An ACTIVE transmit slot that meets a test. -/
def State.txSa (s : State) (p : SaSt → Bool) : Option Nat :=
  (s.sas.find? fun x => x.2.tx && x.2.state == 2 && p x.2).map (·.1)
/-- The return SA of a receive slot (10 R311). -/
def State.returnSa (s : State) (n : Nat) : Option Nat := s.txSa (sameConn (s.sa n))
/-- The herd SA toward a chip. -/
def State.herdSa (s : State) (c : Nat) : Option Nat := s.txSa fun a => a.kind == 1 && a.chip == c
/-- The pair SA. -/
def State.pairSa (s : State) : Option Nat := s.txSa fun a => a.kind == 2

/-! ### Paths (10 R318, R319) -/

/-- Bytes of a message on a path. -/
def msgBytes (m : LinkMsg) : Nat := 16 + m.len.toNat + (if m.op = 2 then 8 else 0)
/-- The full window of a path in bytes (10 R319, R335). -/
def State.pathWindow (s : State) : Nat := max s.tin.pathWindow 4 * 4096
/-- The window of a path; a path that has not been used starts at path_window. -/
def State.windowOf (s : State) (n p : Nat) : Nat :=
  let w := (s.pathOf n p).window
  if w = 0 then s.pathWindow else w
/-- The paths an SA may use for a slice's traffic, ascending (10 R318). -/
def State.pathsFor (s : State) (n sl : Nat) : List Nat :=
  let ts := (List.range 64).filter fun t => s.usable n t sl
  let all := if (s.sa n).udp then
      (List.range (s.tin.udpPaths + 1)).flatMap fun k => ts.map fun t => t + 64 * k
    else ts
  all.filter fun p => !(s.pathOf n p).failed
/-- Bytes unacknowledged on a path. -/
def State.inFlight (s : State) (n p : Nat) : Nat :=
  ((s.sa n).msgs.filter fun m => m.sent && m.path == p).foldl (fun a m => a + msgBytes m.msg) 0
/-- The path with the most free window, the lowest number among equals (10 R319), apart from one avoided; none where a
message of so many bytes passes every window. -/
def State.choosePath (s : State) (n sl bytes : Nat) (avoid : Option Nat) : Option Nat :=
  let ps := (s.pathsFor n sl).filter fun p => decide (s.inFlight n p + bytes ≤ s.windowOf n p)
  let ps' := match avoid with
    | some a => (if ps.any (· != a) then ps.filter (· != a) else ps)
    | none => ps
  let free := fun p => s.windowOf n p - s.inFlight n p
  (ps'.foldl (fun (b : Option Nat) p => match b with
    | none => some p
    | some q => if free p > free q then some p else some q) none)

/-! ### Frames (10 R309, R312 to R315) -/

/-- The priority a message travels with (10 R317). -/
def State.msgPrio (s : State) (op tc : Nat) : Nat :=
  if op ≥ 8 then s.tin.ctlPrio else s.tin.txPrio.getD tc 0

/-- What the ICV of a frame covers (10 R312, R313): neither tag nor addresses of the routed headers. -/
def icvBody (f : Frame) : Frame :=
  { f with icv := 0, fcsErr := false, parErr := 0, prio := 0, port := 0, src := if f.udp then 0 else f.src,
           dst := if f.udp then 0 else f.dst, hop := 0, vlan := none, udpOk := true, paused := 0, ce := f.ce && !f.udp }

/-- A frame under a transmit SA: the SecTAG and ICV of cipher 0, the next PN (10 R309, R312). -/
def State.sealFrame (s : State) (n t : Nat) (f : Frame) : State × Option Frame :=
  let a := s.sa n
  let l := (s.tine t).localReg
  let f := { f with src := if a.udp then s.tin.ipv6 else (l.setWidth 48).setWidth 128, udp := a.udp,
                    dst := if a.udp then a.peer else (a.peer.setWidth 48).setWidth 128,
                    hop := if a.udp then (s.tine t).nexthop.setWidth 48 else 0,
                    vlan := if l.getLsbD 60 then some (BitVec.ofNat 12 (field l 48 12)) else none,
                    etype := BitVec.ofNat 16 (if s.blockRec.ethertype = 0 then 0x88B5 else s.blockRec.ethertype),
                    port := BitVec.ofNat 16 s.tin.udpPort, srcChip := BitVec.ofNat 8 s.chip,
                    dstChip := BitVec.ofNat 8 a.chip }
  if a.cipher = 1 then (s, some f)
  else if a.pn ≥ 2 ^ 64 - 1 then (s, none)
  else
    let f := { f with sec := some (a.sci, BitVec.ofNat 2 a.an, BitVec.ofNat 32 a.pn) }
    let f := { f with icv := Config.gcmIcv a.material a.pn (icvBody f) }
    let s := s.setSa n { a with pn := a.pn + 1, raised72 := a.raised72 || a.pn + 1 ≥ 2 ^ 63 }
    let s := if !a.raised72 && a.pn + 1 ≥ 2 ^ 63 then s.raise (tinUnit t) 0x72 1 10 n 0 0 else s
    (s, some f)

/-- Put a message of a connection on a path: the next PSN of the path, one message in a frame (log entry 14). No
frame starts at a paused priority: the message then stands on no path, and the connection sends it later (10 R317). -/
def State.transmit (s : State) (n : Nat) (m : SentMsg) (path tc : Nat) : State :=
  let p := s.pathOf n path
  let t := path % 64
  let f : Frame := { prio := BitVec.ofNat 3 (s.msgPrio m.msg.op.toNat tc), path := BitVec.ofNat 8 path,
                     psn := BitVec.ofNat 32 p.nextPsn, msn := BitVec.ofNat 32 m.msn, msgs := [m.msg] }
  if s.fatal || s.stopped then s
  else if s.txPaused t f.prio.toNat then
    s.setSa n { s.sa n with msgs := (s.sa n).msgs.map fun x => if x.msn == m.msn then { x with path := 256 } else x }
  else match s.sealFrame n t f with
  | (s, none) => s
  | (s, some f) =>
    let s := s.setPath n path { p with nextPsn := (p.nextPsn + 1) % 2 ^ 32, window := s.windowOf n path }
    let s := s.emit (.tineTx t f)
    let a := s.sa n
    let m' := { m with path := path, psn := p.nextPsn, sent := true, first := if m.sent then m.first else s.blk.tick }
    let s := s.setSa n { a with msgs := a.msgs.map fun x => if x.msn == m.msn then m' else x }
    let s := s.charge (instTine t) m.msg.slice.toNat tc (msgBytes m.msg)
    s.note (tinUnit t) 0x18 (some m.msg.slice.toNat) 1

/-- Give a message to a connection (10 R318): `none` where 8192 messages are unacknowledged or the slot is not ACTIVE.
A message that finds no usable path waits in the connection. -/
def State.sendMsg (s : State) (n tc : Nat) (m : LinkMsg) (o : Origin) : Option State :=
  let a := s.sa n
  if a.state != 2 || !a.tx || a.msgs.length ≥ 8192 then none
  else
    let sm : SentMsg := { msn := a.msn, msg := m, origin := o, first := s.blk.tick, sent := false, tc := tc }
    let s := s.setSa n { a with msn := (a.msn + 1) % 2 ^ 32, msgs := a.msgs ++ [sm] }
    some (match s.choosePath n m.slice.toNat (msgBytes m) none with
      | some p => s.transmit n sm p tc
      | none => s)

/-- Send a message where a connection accepts it; otherwise nothing is sent. -/
def State.sendOr (s : State) (n : Option Nat) (tc : Nat) (m : LinkMsg) (o : Origin) : State :=
  match n with
  | some n => (s.sendMsg n tc m o).getD s
  | none => s

/-- The bytes of a line as message data. -/
def lineMsg (op sl : Nat) (xid addr : Nat) (st : Status) (state : Nat) (data : Option Line) (sub : Nat := 0) : LinkMsg :=
  { op := BitVec.ofNat 6 op, slice := BitVec.ofNat 7 sl, status := BitVec.ofNat 4 st.code, xid := BitVec.ofNat 16 xid,
    addr := BitVec.ofNat 44 addr, sub := BitVec.ofNat 4 sub, state := BitVec.ofNat 3 state,
    len := if data.isSome then 128 else 0, data := data.getD 0 }

/-- A fresh transfer identifier of an SA (10 R315). -/
def State.newXid (s : State) (n : Nat) : Nat × State :=
  let a := s.sa n
  (a.xid, s.setSa n { a with xid := (a.xid + 1) % 65536 })

end Sys2Proof.Machine
end

