-- ==== Sys2Proof/Machine/Loss.lean ====
section
/-! DEFINITION. Fences (11 R347 to R351), the end of jobs (09 R289), the error close of reduce windows (08 R271) and the
loss of contexts (11 R341, R342): the shared operations every unit uses when work ends. -/

namespace Sys2Proof.Machine

/-! ### Fences -/

/-- All ones: the value of an errored fence (11 R350). -/
def fenceDead : Reg := 0xFFFFFFFFFFFFFFFF

/-- Whether a fence lies in a context's fence region (11 R348). -/
def CtxRec.holdsFence (c : CtxRec) (i : Nat) : Bool :=
  decide (c.fenceFirst ≤ i / 256) && decide (i / 256 < c.fenceFirst + c.fencePages)

/-- Raise the vector of a fence's page if it asks for it (11 R351). -/
def State.fencePageIrq (s : State) (i : Nat) : State :=
  let p := s.fpage (i / 256)
  if p.irqEn && !s.fatal then s.hostIrq p.owner p.vec else s

/-- Whether arming passes, and the status where it does not (11 R348). -/
def State.armStatus (s : State) (ctx i : Nat) : Status :=
  let f := s.fence i
  if !(s.ctx ctx).holdsFence i then .denied
  else if f.state = 3 then .denied
  else if f.pending != 0 && f.armer != ctx then .denied
  else if f.pending ≥ 255 then .refused
  else .ok

/-- Arm a fence that passes (11 R348). -/
def State.armFence (s : State) (ctx i : Nat) : State :=
  let f := s.fence i
  s.setFence i { f with state := 1, armer := ctx, pending := f.pending + 1 }

/-- A completion with status OK (11 R349). -/
def State.fenceOk (s : State) (i source : Nat) (v : Reg) : State :=
  let f := s.fence i
  if f.state = 3 then s.setFence i { f with pending := f.pending - 1 }
  else
    let f' := { f with value := if v.toNat > f.value.toNat then v else f.value, pending := f.pending - 1 }
    if f'.pending = 0 && f.state == 1 then
      (s.setFence i { f' with state := 2, source := source, detail := 0 }).fencePageIrq i
    else s.setFence i f'

/-- A completion with an error (11 R350). -/
def State.fenceErr (s : State) (i source detail : Nat) : State :=
  let f := s.fence i
  if f.state = 3 then s.setFence i { f with pending := f.pending - 1 }
  else
    (s.setFence i { f with state := 3, value := fenceDead, source := source, detail := detail,
                           pending := f.pending - 1 }).fencePageIrq i

/-! ### Jobs -/

/-- The job of a number. -/
def State.job? (s : State) (id : Nat) : Option Job := s.jobs.find? (·.id == id)
/-- Replace a job. -/
def State.setJob (s : State) (j : Job) : State :=
  { s with jobs := s.jobs.map fun x => if x.id == j.id then j else x }

/-- Release the busy bits a job holds (09 R299). -/
def State.releaseSeqs (s : State) (j : Job) : State :=
  let w := s.seqw j.slice
  let es := j.holds.foldl (fun es q => tset {} es q { tget {} es q with busy := false }) w.entries
  s.setSeqw j.slice { w with entries := es, unsaved := w.unsaved ++ j.holds.map fun q => (0, q) }

/-- End a job whose writes have completed: signal its fence, drop it (09 R289). Detail 0 is success. -/
def State.finishJob (s : State) (j : Job) (detail : Nat) : State :=
  let s := s.releaseSeqs j
  let s := { s with jobs := s.jobs.filter (·.id != j.id) }
  if dFenceEn j.desc then
    if detail = 0 then s.fenceOk (dFence j.desc) 1 (dValue j.desc) else s.fenceErr (dFence j.desc) 1 detail
  else s

/-- A job meets its end: it completes once its writes have (09 R289, R290). The first end is kept. -/
def State.endJob (s : State) (j : Job) (detail : Nat) : State :=
  match j.ended with
  | some _ => s
  | none => if j.writes.isEmpty then s.finishJob j detail else s.setJob { j with ended := some detail }

/-! ### Responses to tiles, hosts and tines -/

/-- Count an outcome of a request (06 R208, 15 R458): entry `e` of class `t`. -/
def State.outcome (s : State) (sl t e : Nat) : State := s.count sl (16 * t + e) 1

/-- The slice a tile port acts for: its binding's context, or the slice last bound (05 R175, 15 R462). -/
def State.tileSlice (s : State) (port : Nat) : Nat :=
  match s.portBinding port with
  | some (c, _) => match (s.slot c).ctx with
    | some x => (s.ctx x).slice
    | none => (s.tile port).lastSlice
  | none => (s.tile port).lastSlice

/-- Add a completed read to the latencies of the tick, in whole ticks (06 R190, log entry 20). -/
def State.latAdd (s : State) (die sl t since : Nat) : State :=
  let k := (die * 128 + sl) * 4 + t
  let (a, n) := tget (0, 0) s.qos.latDone k
  { s with qos := { s.qos with latDone := tset (0, 0) s.qos.latDone k (a + (s.blk.tick - since) * 1000, n + 1) } }

/-- The request of a port and tag that has no final answer yet. -/
def State.openReq (s : State) (port tag : Nat) : Option OpenReq := s.reqs.find? fun q => q.port == port && q.tag == tag
/-- A request that was accepted at its port awaits its final answer. -/
def State.reqOpen (s : State) (q : OpenReq) : State := { s with reqs := s.reqs ++ [q] }
/-- Change the request of a port and tag. -/
def State.onReq (s : State) (port tag : Nat) (f : OpenReq → OpenReq) : State :=
  { s with reqs := s.reqs.map fun q => if q.port == port && q.tag == tag then f q else q }
/-- The base die of an origin port: the host port is on die 0 (01 R23). -/
def portDie (p : Nat) : Nat := if p < 256 then p / 32 else 0
/-- A request gets its final answer. A read's latency is taken; an outcome that its service did not count is counted: refused for a
job, held, or served in budget. RETRY is counted where it is given (06 R190, R208). -/
def State.reqClose (s : State) (port tag : Nat) (st : Status) : State :=
  match s.openReq port tag with
  | none => s
  | some q =>
    let s := { s with reqs := s.reqs.filter fun x => !(x.port == port && x.tag == tag) }
    if st = .retry then s
    else
      let s := if q.read then s.latAdd (portDie port) q.slice q.tc q.since else s
      s.outcome q.slice q.tc (if st = .refused then 6 else if q.held then 2 else 0)

/-- Answer a tag of a tile port with each of the lines it asked for and free it; a tag that is not outstanding is never answered
(02 R56). An isolated or reset port drives nothing (02 R53). -/
def State.tileRsps (s : State) (port tag : Nat) (st : Status) (granted : Nat) (datas : List Line) : State :=
  let t := s.tile port
  if !t.tags.contains tag then s
  else
    let s := (s.setTile port { t with tags := t.tags.filter (· != tag) }).reqClose port tag st
    if s.portUp port then { s with out := s.out ++ datas.map fun d => .tileRsp port tag st granted d } else s
/-- Answer a tag of a tile port with one line. -/
def State.tileRsp (s : State) (port tag : Nat) (st : Status) (granted : Nat) (data : Line) : State :=
  s.tileRsps port tag st granted [data]

/-- Count an answer of RETRY at the unit that gives it (15 R459). -/
def State.retryNote (s : State) (u sl : Nat) (st : Status) : State := if st = .retry then s.note u 0x06 (some sl) 1 else s
/-- Answer a tag of a tile port with RETRY. -/
def State.tileRetry (s : State) (port tag : Nat) : State :=
  (s.retryNote (tpUnit port) (s.tileSlice port) .retry).tileRsp port tag .retry 0 0

/-- Answer a host tag and free it (02 R67). -/
def State.hostRsp (s : State) (tag : Nat) (st : Status) (data : Line) : State :=
  let s := { s with hostTags := s.hostTags.filter (·.1 != tag) }.reqClose hostPort tag st
  if s.portUp hostPort then s.emit (.hostRsp tag st data) else s

/-! ### Reduce windows -/

/-- Close a window with an error: discard its shadows, free its entry, complete its fence with the reason
(08 R271). An OPEN that still waits is answered: LOST with CONTEXT, RETRY with HOME_LOST, else DENIED (log entry 15). -/
def State.closeWindow (s : State) (w reason : Nat) : State :=
  let x := s.win w
  if x.state = 0 then s
  else
    let s := s.setWin w { lastReason := reason }
    let s := match x.state, x.origin with
      | 1, .tile p t =>
        if reason = 4 then s.tileRetry p t else s.tileRsp p t (if reason = 7 then .lost else .denied) 0 0
      | _, _ => s
    let s := s.fenceErr x.fence 2 reason
    let kind := match reason with | 2 => 0x4D | 3 => 0x4C | 8 => 0x4B | 9 => 0x4E | _ => 0
    if kind = 0 then s else s.raise (hslUnit (x.base / 2 ^ 22 % 8 * 16)) kind 2 7 w x.slice x.fn

/-! ### Contexts -/

/-- Acknowledge a kernel-boundary request (02 R68); an isolated host port drives nothing. -/
def State.kbAck (s : State) (seq : Nat) (st : Status) : State :=
  if s.portUp hostPort then s.emit (.kbAck seq st) else s
/-- A context becomes LOST at the next commit step (11 R341); of the causes of one boundary the first in the order of R341 is kept
(11 R354). -/
def State.willLose (s : State) (x cause : Nat) : State :=
  if s.losing.any (·.1 == x) then
    { s with losing := s.losing.map fun (e : Nat × Nat) => if e.1 = x then (x, min e.2 cause) else e }
  else { s with losing := s.losing ++ [(x, cause)] }
/-- Whether a context is LOST, or will be at the next commit step. -/
def State.ctxLost (s : State) (x : Nat) : Bool := (s.ctx x).state == 3 || s.losing.any (·.1 == x)

/-- Clear the trace configuration of a slot (15 R465). -/
def State.clearTrace (s : State) (c : Nat) : State := s.setSlot c { s.slot c with trace := {} }

/-- Remove a binding, as ABORT does (02 R68). -/
def State.unbind (s : State) (c : Nat) : State :=
  match mget? s.bindings c with
  | none => s
  | some b =>
    let sl := match (s.slot c).ctx with | some x => (s.ctx x).slice | none => 0
    let tiles := forRange b.first (fun p ts => tset {} ts p { tget {} ts p with lastSlice := sl }) b.count s.tiles
    { s with bindings := mdel s.bindings c, tiles := tiles }

/-- What a loss does to the binding of the context's slot (11 R342 step 2). -/
def State.loseBinding (s : State) (c cause : Nat) : State :=
  match mget? s.bindings c with
  | none => s
  | some b =>
    if cause = 2 || cause = 5 || cause = 6 || cause = 7 then
      let s := match b.ending with | some (q, _) => s.kbAck q .lost | none => s
      s.unbind c
    else match b.ending with
      | some (q, _) =>
        if cause = 3 then { s with bindings := mput s.bindings c { b with lost := true, ending := none } }
        else (s.kbAck q .lost).unbind c
      | none => { s with bindings := mput s.bindings c { b with lost := true } }

/-- A context becomes LOST (11 R341, R342). The first cause recorded is kept. -/
def State.loseContext (s : State) (x cause : Nat) : State :=
  let r := s.ctx x
  if r.state = 0 || r.state = 3 then s
  else
    let s := s.setCtx x { r with state := 3, lostCause := cause, lostTick := s.blk.tick }
    let s := if r.lostIrq then s.hostIrq r.fn r.lostVec else s
    let s := if r.state = 2 then s.loseBinding r.slot cause else s
    let s := (s.jobs.filter (·.ctx == x)).foldl (fun s j => s.endJob j 3) s
    let s := ((s.rw.windows.filter fun w => w.2.state != 0 && w.2.ctx == x).map (·.1)).foldl
      (fun s w => s.closeWindow w 7) s
    if r.state = 2 then
      let k := s.slot r.slot
      let s := if k.armed then (s.setSlot r.slot { k with armed := false }).fenceErr k.kfence 3 cause else s
      s.clearTrace r.slot
    else s

/-- Unload a slot: the context keeps its record with slot 127 (11 R339). -/
def State.freeSlot (s : State) (c : Nat) : State :=
  match (s.slot c).ctx with
  | none => s
  | some x =>
    let r := s.ctx x
    let s := s.setCtx x { r with state := if r.state = 2 then 1 else r.state, slot := 127 }
    s.setSlot c {}

/-- The contexts of a function that are not FREE. -/
def State.ctxsOf (s : State) (f : Nat) : List Nat := (s.ctxs.filter fun c => c.2.state != 0 && c.2.fn == f).map (·.1)

end Sys2Proof.Machine
end

