-- ==== Sys2Proof/Machine/Regulate.lean ====
section
/-! DEFINITION. The regulator's rules of admission (06 R183 to R204): capacities and budgets of shared instances, modes of
memory ports, the gates that hold requests, and the charge of what is served. -/

namespace Sys2Proof.Machine

/-- The unit an instance belongs to. -/
def instUnit (i : Nat) : Nat :=
  if i < 16 then mptUnit i else if i < 152 then hslUnit (i - 16) else if i < 288 then hslUnit (i - 152)
  else if i < 352 then tinUnit (i - 288) else jobUnit 0

/-- The class parameters in force (06 R211). -/
def State.qcls (s : State) (sl t : Nat) : QosClass := tget {} s.qos.classes (sl * 4 + t)
/-- The slice parameters in force. -/
def State.qsl (s : State) (sl : Nat) : QosSlice := tget {} s.qos.slices sl

/-- An urgency input. -/
def State.urg (s : State) (n : Nat) : Urgency := tget {} s.qos.urgency n
/-- Write an urgency input. -/
def State.setUrg (s : State) (n : Nat) (u : Urgency) : State :=
  { s with qos := { s.qos with urgency := tset {} s.qos.urgency n u } }

/-- The HOME record that applies to a physical home slice: its own name's, or the name it stands for (04 R132). -/
def State.nameOfHome (s : State) (h : Nat) : Nat :=
  if h ≥ 128 && (s.home h).role != 1 then (s.home h).standsFor else h
/-- The HOME record of a name. -/
def State.homeRec (s : State) (n : Nat) : HomeRec := tget {} s.img.active.homes n

/-- Whether an instance is in its class's shared set (03 R92, 06 R188). -/
def State.instShared (s : State) (i : Nat) : Bool :=
  if i < 16 then (s.stackRec i).use == 0
  else if i < 152 then !(s.homeRec (s.nameOfHome (i - 16))).excl
  else if i < 288 then !(s.homeRec (s.nameOfHome (i - 152))).excl
  else if i < 352 then (s.linkRec (i - 288)).use == 0
  else true

/-- The shared job engines (09 R279). -/
def State.sharedEngines (s : State) : List Nat := (List.range 32).filter fun e => (s.jobRec e).use == 0

/-- Capacity of an instance in a tick, from the fclk_per_tick of the last refill (06 R185). -/
def State.capacity (s : State) (i : Nat) : Nat :=
  let f := s.qos.fclk
  if i < 16 then 16 * f
  else if i < 152 then 2 * f
  else if i < 288 then f
  else if i < 352 then min (if (s.tine (i - 288)).fast then 200000 else 100000) (128 * f)
  else f * s.sharedEngines.length

/-- Whether a slice reaches a shared instance (06 R187). -/
def State.reaches (s : State) (sl i : Nat) : Bool :=
  if i < 16 then s.img.active.runs.any fun r =>
    r.slice == sl && decide ((i + 16 - r.first % 16) % 16 < r.count)
  else if i < 288 then
    let h := if i < 152 then i - 16 else i - 152
    (s.homeRec (s.nameOfHome h)).ways.any fun w => w.valid && w.slice == sl
  else true

/-- The sum of bw_share over every slice that reaches an instance and every class (06 R187). -/
def State.bwSum (s : State) (i : Nat) : Nat :=
  (s.img.active.slices.filter fun x => s.reaches x.1 i).foldl
    (fun a x => a + (List.range 4).foldl (fun b t => b + (s.qcls x.1 t).bw) 0) 0

/-- Whether a recovery or planned offline involves a memory port (06 R200): its stack, a home name of its die or the stand-in that
takes a name's traffic to its die, its key engine. -/
def State.recInvolves (s : State) (p : Nat) : Bool :=
  (s.flt.recs.map (·.2) ++ s.flt.waiting).any fun r => (r.state == 1 || r.state == 2) &&
    (match r.unit / 256 with
      | 1 => r.name / 16 == p / 2 || (match r.spare with | some h => h - 128 == p / 2 | none => false)
      | 2 => r.unit % 256 == p
      | 6 => r.unit % 256 == 1 + p
      | _ => false)

/-- Whether a vault unit serves: 0 the core, 1+p the key engine of memory port p (13 R396, R415). -/
def State.engineUp (s : State) (e : Nat) : Bool :=
  let u := s.unit (unitId 6 e)
  !u.failed && u.offlineAt.isNone
/-- Whether a key engine feeds a memory port: its own, or the one it was handed over to (13 R412). -/
def State.keyFed (s : State) (p : Nat) : Bool :=
  s.engineUp (1 + p) || (match (s.mp p).feeder with | some q => s.engineUp (1 + q) | none => false)
/-- Whether a request uses no key: the accesses to stored bits. -/
def MemReq.keyless (r : MemReq) : Bool := match r.purpose with | .guard _ _ | .rewrite => true | _ => false

/-- Hold causes of a memory port in force (06 R200, R211): the lowest code, 0 for none. -/
def State.holdCause (s : State) (p : Nat) : Nat :=
  let m := s.mp p
  if !s.inService then 1
  else if s.test.factory then 2
  else if s.recInvolves p then 3
  else if !m.trained then 4
  else if m.implausible then 5
  else 0

/-- The mode of a memory port: 0 feedback, 1 hold, 2 full hold, 3 isolated (06 R200). Where several hold at once the rule gives no
precedence: isolated, then a full hold of a block in service, then hold. DESIGN CHOICE (log entry 184). The structural commit of
01 R40 is over within the boundary, which is one step here, so that its hold is never seen. -/
def State.mpMode (s : State) (p : Nat) : Nat :=
  if (s.port (mpPort p)).state = 2 then 3
  else if s.inService && s.fullHold then 2
  else if s.holdCause p != 0 then 1
  else 0

/-- The budget of a slice and class on a shared instance (06 R186, R187, R202). -/
def State.budget (s : State) (i sl t : Nat) : Nat :=
  let b := s.capacity i * (s.qcls sl t).bw / 256
  let b := if s.bwSum i > 256 then b * 256 / s.bwSum i else b
  if i < 16 && s.mpMode i == 1 then b * (if s.qos.holdRate = 0 then 12 else s.qos.holdRate) / 16 else b

/-- The urgency levels bound to a slice's TC0 stream or to a tine (06 R193, R194). -/
def State.urgencyOf (s : State) (sl t : Nat) (tine : Option Nat) : Nat :=
  s.img.active.urgs.foldl (fun a u =>
    let l := tget {} s.qos.urgency u.1
    let hit := if u.2.master = 1 then tine == some u.2.tine else u.2.slice == sl && t == 0
    if hit && !l.floating then max a l.level else a) 0

/-- The budget of a function on the shared job engines (06 R186): its slice's portion by job_share_total, divided by job_share. -/
def State.jobBudget (s : State) (f : Nat) : Nat :=
  let sl := (s.fnc f).slice
  let portion := match s.sliceRec sl with | some r => s.capacity instJobs * r.jobTotal / 256 | none => 0
  let all := (s.fncs.filter fun x => x.2.state != 0 && x.2.slice == sl).foldl (fun (a : Nat) x => a + x.2.jobShare) 0
  portion * (s.fnc f).jobShare / max 1 all
/-- Whether a job is over its function's budget on a shared engine; none applies on an exclusive one (06 R186, R188). -/
def State.jobOver (s : State) (j : Job) : Bool :=
  (s.jobRec (j.engine.getD 0)).use == 0 && decide (s.jobBudget j.fn ≤ tget 0 s.qos.jobUsed j.fn)

/-- Whether a slice and class is over budget on an instance (06 R186, R188, R194). -/
def State.overBudget (s : State) (i sl t : Nat) (tine : Option Nat) : Bool :=
  s.instShared i &&
    (let b := s.budget i sl t
     let b := if s.urgencyOf sl t tine ≥ 6 then 2 * b else b
     decide (b ≤ tget 0 s.qos.used (usedKey i sl t)))

/-- Whether a request is over budget on an instance as it is served; one released by its age is in budget for the rest of its tick
(06 R186, R194, R199). -/
def State.txnOver (s : State) (i : Nat) (t : Txn) : Bool :=
  t.aged != some s.blk.tick && s.overBudget i t.slice t.tc t.tine

/-- The class a request is served as (06 R184): its own, or the lowest-priority class allowed. -/
def State.servedClass (s : State) (sl t : Nat) : Nat :=
  match s.sliceRec sl with
  | none => t
  | some r =>
    let a := if r.tcAllowed = 0 then 0xC else r.tcAllowed
    if Nat.testBit a t then t
    else if Nat.testBit a 3 then 3 else if Nat.testBit a 2 then 2 else if Nat.testBit a 1 then 1 else 0

/-- The sectors of a port that over-budget requests already admitted have still to move: those that wait at the port, and two for
each that has not asked it yet (06 R201). -/
def State.limitDue (s : State) (p : Nat) : Nat :=
  let over_ := fun (r : MemReq) => !r.internal && s.overBudget p r.slice r.tc none
  let soon := fun (t : Txn) => !t.internal && t.overB && (t.phase == .table || t.phase == .behind || t.phase == .snooping)
    && lineChip t.line == s.chip && granPort (lineGran t.line) == p
  ((s.mp p).waiting.filter over_).foldl (fun (a : Nat) r => a + popCount r.mask 2) (2 * (s.txns.filter soon).length)

/-- The sectors that over-budget requests may still move at a port whose throttle has fallen (06 R201):
stage 1 allows C/8, 2 C/4, 3 C/2. -/
def State.limitLeft (s : State) (p : Nat) : Option Nat :=
  let m := s.mp p
  if m.limitStage = 0 then none else some (s.capacity p / 2 ^ (4 - m.limitStage) - m.limitUsed - s.limitDue p)

/-- Whether urgency 7 of another slice holds a class on an instance the urgent stream used in the last tick: the bound slice's TC0
requests, or the traffic received on the bound tine (06 R194). -/
def State.urgencyHolds (s : State) (i sl t : Nat) : Bool :=
  t ≥ 2 && s.img.active.urgs.any fun u =>
    let l := tget {} s.qos.urgency u.1
    l.level == 7 && !l.floating && u.2.slice != sl
      && (if u.2.master = 1 then s.qos.tineUsePrev.contains (i * 64 + u.2.tine)
          else tget 0 s.qos.usedPrev (usedKey i u.2.slice 0) != 0)
/-- Note that traffic received on a tine uses an instance. -/
def State.tineUses (s : State) (tine : Option Nat) (i : Nat) : State :=
  match tine with
  | some t => if s.qos.tineUse.contains (i * 64 + t) then s
      else { s with qos := { s.qos with tineUse := s.qos.tineUse ++ [i * 64 + t] } }
  | none => s

/-- Whether the gate of an origin is closed for a request to memory port `p` (06 R197, R201 to R203). -/
def State.gateClosed (s : State) (p sl t : Nat) (tine : Option Nat) : Bool :=
  let overB := s.overBudget p sl t tine
  let m := s.mp p
  (s.blk.parked && t == 3) ||
  match s.mpMode p with
  | 3 => false
  | 1 => overB
  | _ => (m.throttle == 3 && t == 3) || (overB && (m.throttle ≥ 2 || (m.throttle == 1 && t ≥ 2)))
      || (overB && s.urgencyHolds p sl t) || (overB && m.throttle == 0 && s.limitLeft p == some 0)

/-- Whether a fill at a port's homes is bypassed for its class (06 R201). -/
def State.throttleBypass (s : State) (p t : Nat) : Bool :=
  let n := (s.mp p).throttle
  s.mpMode p == 0 && ((n == 2 && t == 3) || (n == 3 && t ≥ 2))

/-! ### Memory queue slots (06 R207) -/

/-- slot_min of a slice, scaled where the sum passes 240 (06 R207). -/
def State.slotMin (s : State) (p sl : Nat) : Nat :=
  let sum := (s.img.active.slices.filter fun x => s.reaches x.1 p).foldl (fun a x => a + (s.qsl x.1).slotMin) 0
  if sum > 240 then (s.qsl sl).slotMin * 240 / sum else (s.qsl sl).slotMin

/-- Whether a request may take a queue slot of its port (06 R207): 8 slots for internal work, 8 for TC0, 240 shared,
of which, on a shared stack, each slice has slot_min and at most slot_max. -/
def State.slotFree (s : State) (p : Nat) (r : MemReq) : Bool :=
  let ts := (s.mp p).tags
  if ts.length ≥ 256 || !(s.keyFed p || r.keyless) then false
  else
    let int := (ts.filter (·.internal)).length
    let tc0 := (ts.filter fun x => !x.internal && x.tc == 0).length
    let ofSl := fun sl => (ts.filter fun x => !x.internal && x.tc != 0 && x.slice == sl).length
    let oth := ts.length - int - tc0
    let shared := (int - 8) + (tc0 - 8) + oth
    if r.internal && int < 8 then true
    else if !r.internal && r.tc == 0 && tc0 < 8 then true
    else if !s.instShared p then shared < 240
    else
      let reserved := (s.img.active.slices.filter fun x => x.1 != r.slice && s.reaches x.1 p).foldl
        (fun a x => a + (s.slotMin p x.1 - ofSl x.1)) 0
      let mx := if (s.qsl r.slice).slotMax = 0 then 240 else (s.qsl r.slice).slotMax
      shared < 240 && (r.internal || r.tc == 0 || ofSl r.slice < mx)
        && (ofSl r.slice < s.slotMin p r.slice || shared + reserved < 240)

end Sys2Proof.Machine
end

