-- ==== Sys2Proof/Machine/Protect.lean ====
section
/-! DEFINITION. The protection of a sector and the requests of a memory port (07 R214 to R227, R234, R236 to R241, 02 R60 to
R62, 06 R189, R207): sealing, judging, issuing, stripe locks and guarded writes. -/

namespace Sys2Proof.Machine

/-! ### A sector (07 R215 to R225) -/

/-- The sector index of sector k of a line: a[40:6] (07 R215). -/
def sectorIx (line k : Nat) : Nat := line % 2 ^ 34 * 2 + k
/-- The material of a key slot (07 R228). -/
def State.material (s : State) (k : Nat) : BitVec 832 := (s.key k).material
/-- The XTS key of a slot's material. -/
def xtsKey (m : BitVec 832) : BitVec 512 := m.setWidth 512
/-- The stored ciphertext of a plaintext sector (07 R215, R216); a poisoned sector stores 0 (07 R225). -/
def State.cipherOf (s : State) (key ix : Nat) (plain : Sector) (poison : Bool) : Sector :=
  if poison then 0 else if key = 8191 then plain else xtsEncrypt (xtsKey (s.material key)) ix plain
/-- The plaintext of a stored sector. -/
def State.plainOf (s : State) (key ix : Nat) (c : Sector) : Sector :=
  if key = 8191 then c else xtsDecrypt (xtsKey (s.material key)) ix c
/-- Sideband bits [63:32]: tag, poison, version (07 R217, R225). -/
def State.sideOf (s : State) (key ix : Nat) (c : Sector) (poison version : Bool) : BitVec 32 :=
  BitVec.ofNat 32 ((if poison then 0 else sectorTag (s.material key) ix version c)
    + place (flag poison) 28 1 + place (flag version) 29 1)
/-- The 64 sideband bits of a sector (07 R217). -/
def sideband (c : Sector) (hi : BitVec 32) : BitVec 64 := BitVec.ofNat 64 (rsCode c hi + hi.toNat <<< 32)

/-- What the judging of a sector gives (07 R224). -/
inductive Judged where
  | good (plain : Sector) (corrected : Bool) (cipher : Sector) (side : BitVec 32)
  | poisoned (corrected : Bool) (cipher : Sector) (side : BitVec 32)
  | failed (kind : Nat) (cipher : Sector) (side : BitVec 32)
  deriving DecidableEq, Repr

/-- Judge a returned sector under a key (07 R224 steps 1 to 5). -/
def State.judge (s : State) (key ix : Nat) (bad : Bool) (c : Sector) (sb : BitVec 64) : Judged :=
  let raw := BitVec.ofNat 32 (sb.toNat >>> 32)
  if bad then .failed 0x02 c raw
  else match rsDecode c sb with
    | none => .failed 0x01 c raw
    | some (c, sb, fixed) =>
      let hi := BitVec.ofNat 32 (sb.toNat >>> 32)
      if Nat.testBit hi.toNat 28 then .poisoned fixed c hi
      else if hi.toNat % 2 ^ 28 != sectorTag (s.material key) ix (Nat.testBit hi.toNat 29) c then .failed 0x20 c hi
      else .good (s.plainOf key ix c) fixed c hi

/-! ### Requests of a port (02 R60 to R62, 06 R189, R207) -/

/-- Whether a tenant key may be used for a request: ACTIVE (07 R234); 0 and 8191 are the block's own. -/
def State.keyUsable (s : State) (k : Nat) : Bool := k == 0 || k == 8191 || (s.key k).state == 1
/-- Whether a stack has been declared lost (07 R241). -/
def State.stackLost (s : State) (p : Nat) : Bool := Nat.testBit s.mpt.lostMask.toNat p
/-- Whether a port can issue now: up, trained, healthy, not in self-refresh, an fclk change or a global stop (01 R34, 02 R63,
15 R472). Under the full hold of a Doze entry it goes on, so that the write buffers empty (14 R440). -/
def State.mpReady (s : State) (p : Nat) : Bool :=
  let m := s.mp p
  s.portUp (mpPort p) && m.trained && m.healthy && !m.srReq
    && !(s.inService && (s.blk.fclkChange.isSome || s.stopped || s.blk.power != 2))

/-- The base die a request's origin stamps its level on (06 R191). -/
def State.originDie (s : State) (o : Origin) : Nat :=
  match o with
  | .tile p _ => p / 32
  | .job id => match s.job? id with
    | some j => (j.engine.getD 0) / 4
    | none => 0
  | _ => 0

/-- The level of a request: base of its class plus the ramp of its origin's die (06 R189, R194). -/
def State.level (s : State) (die sl t : Nat) (tine : Option Nat := none) : Nat :=
  let base := match t with | 0 => 12 | 1 => 8 | 2 => 4 | _ => 0
  let k := (tget {} s.qos.ramps ((die * 128 + sl) * 4 + t)).k
  base + (if s.urgencyOf sl t tine ≥ 4 then 3 else k)

/-- The lowest tag of a port that is not outstanding and not held back after a return (02 R62, R88). -/
def State.freeTag (s : State) (p : Nat) : Option Nat :=
  let used := (s.mp p).tags.map (·.tag)
  let back := (s.port (mpPort p)).heldTags
  (List.range 256).find? fun t => !used.contains t && !back.contains t

/-- What a memory request is for; an access of a guarded operation serves that operation's reader or writer. -/
def State.reqFor (s : State) (r : MemReq) : MPurpose :=
  match r.purpose with
  | .guard id _ => match s.guardOps.find? (·.id == id) with
    | some g => g.reader
    | none => r.purpose
  | pur => pur
/-- The transaction a memory request is for, if it is one's. -/
def State.reqTxn (s : State) (r : MemReq) : Option Txn :=
  match s.reqFor r with
  | .fill id | .atomRead id | .atomWrite id => s.txns.find? (·.id == id)
  | _ => none
/-- Whether a memory request is over budget at its port; a write-back is not (06 R186, R189). -/
def State.reqOver (s : State) (p : Nat) (r : MemReq) : Bool :=
  match s.reqFor r, s.reqTxn r with
  | .flushed _ _, _ => false
  | _, some t => s.txnOver p t
  | _, none => s.overBudget p r.slice r.tc none

/-- Put a request on the wires of a port under a tag: charge it, count it (06 R186, 15 R458, R459). -/
def State.memPut (s : State) (p tag : Nat) (r : MemReq) : State :=
  let n := popCount r.mask 2
  let overB := !r.internal && s.reqOver p r
  let m := s.mp p
  let m := { m with tags := m.tags ++ [{ r with tag := tag, since := s.blk.tick }],
                    limitUsed := if overB && m.limitStage != 0 then m.limitUsed + n else m.limitUsed,
                    outMax := max m.outMax (m.tags.length + 1) }
  let s := s.setMp p m
  let s := if r.internal then s else
    let s := (s.charge p r.slice r.tc n).tineUses ((s.reqTxn r).bind (·.tine)) p
    let q := tget {} s.qos.measure (r.slice * 4 + r.tc)
    let s := { s with qos := { s.qos with
      measure := tset {} s.qos.measure (r.slice * 4 + r.tc) { q with servedNow := q.servedNow + n } } }
    s.count r.slice (16 * r.tc + (if r.write then 11 else 10)) n
  let s := s.note (mptUnit p) (if r.write then 0x11 else 0x10) (some r.slice) n
  s.emit (.memReq p r.write tag (mpAddr r.line) r.mask r.cipher r.sb)

/-- Whether mp_wr_grant lets a request go out in the next fclk: a write needs a lane (02 R61, log entry 171). -/
def State.granted (s : State) (p : Nat) (r : MemReq) : Bool :=
  !r.write || ((s.mp p).grant != 0 && !(s.mp p).grantBad)

/-- Issue a request if its port can take it now, else let it wait (02 R61, 06 R207). -/
def State.memAsk (s : State) (p : Nat) (r : MemReq) : State :=
  match (if s.mpReady p && s.granted p r && s.slotFree p r && (s.mp p).waiting.isEmpty then s.freeTag p else none) with
  | some t => s.memPut p t r
  | none => s.setMp p { s.mp p with waiting := (s.mp p).waiting ++ [r] }

/-- The weight of a slice in the round robin (06 R189, R211). -/
def State.weight (s : State) (sl : Nat) : Nat := max 1 (s.qsl sl).weight

/-- Fields 4 and 5 of the key: how little a slice has been served on an instance in the tick for its weight; among equals the
oldest is taken (06 R189, log entry 17). -/
def State.shareKey (s : State) (i sl : Nat) : Nat :=
  let served := (List.range 4).foldl (fun a t => a + tget 0 s.qos.used (usedKey i sl t)) 0
  2 ^ 32 - 1 - min (2 ^ 32 - 1) (served / s.weight sl)
/-- The key of R189 as one number, larger served first: internal, in budget, level, then the slice least served for its weight. -/
def State.pickKey (s : State) (i sl lvl : Nat) (internal over_ : Bool) : Nat :=
  (flag internal * 2 + flag (!over_)) * 2 ^ 40 + lvl * 2 ^ 32 + s.shareKey i sl
/-- Whether a write-back's buffer holds more than 48 lines, so that it goes ahead of all but internal work and in-budget TC0
(06 R189). -/
def State.flushHurry (s : State) (r : MemReq) : Bool :=
  match s.reqFor r with
  | .flushed h _ => decide (((s.home h).wbuf.filter (·.issued)).length > 48)
  | _ => false
/-- The key of a waiting request of a memory port, with the write buffer's exception (06 R189). -/
def State.orderKey (s : State) (p : Nat) (r : MemReq) : Nat :=
  let lvl := match s.reqTxn r with | some t => t.lvl | none => s.level (p / 2) r.slice r.tc
  let over_ := s.reqOver p r
  let rank := if r.internal then 3 else if !over_ && r.tc = 0 then 2 else flag (s.flushHurry r)
  rank * 2 ^ 44 + s.pickKey p r.slice lvl r.internal over_

/-- The waiting request a port issues next: the first of the largest key among those that find a slot. -/
def State.nextWaiting (s : State) (p : Nat) : Option Nat :=
  let ws := (s.mp p).waiting
  ((ws.zip (List.range ws.length)).foldl (fun (b : Option (Nat × Nat)) (r, i) =>
    if !(s.granted p r && s.slotFree p r) then b
    else match b with
      | none => some (s.orderKey p r, i)
      | some (k, j) => if s.orderKey p r > k then some (s.orderKey p r, i) else some (k, j)) none).map (·.2)

/-! ### Guarded regions (07 R236 to R241) -/

/-- Whether a granule is guarded (03 R98). -/
def State.guarded (s : State) (g : Nat) : Bool := (s.ownAt g).guarded
/-- The stripe of sector k of a line: group * 32768 + sector of the granule (07 R236). -/
def stripeOf (line k : Nat) : Nat := lineGran line / 16 * 32768 + lineInGran line * 2 + k
/-- The parity port of a stripe (07 R236). -/
def parityPort (st : Nat) : Nat := st / 32768 % 16
/-- The line that holds a stripe's sector on a port, and its sector. -/
def stripeLine (st m : Nat) : Nat × Nat := (granLine (16 * (st / 32768) + m) + st % 32768 / 2, st % 2)
/-- The data ports of a stripe apart from one. -/
def stripeOthers (st m : Nat) : List Nat := (List.range 16).filter fun x => x != m && x != parityPort st

/-- Whether a guarded operation is the block's own work: a check, a repair of parity, or one that serves slice 0. Any other is charged
to its slice and class (06 R183, 07 R240). -/
def GuardOp.own (g : GuardOp) : Bool := g.kind == .check || g.kind == .parityFix || g.slice == 0

/-- Read a stripe's stored sector on a port for a guarded operation. -/
def State.guardRead (s : State) (g : GuardOp) (m step : Nat) : State :=
  let (line, k) := stripeLine g.stripe m
  s.memAsk m { line := line, mask := 2 ^ k, slice := g.slice, tc := g.tc, internal := g.own,
               purpose := .guard g.id step }
/-- Write a stripe's stored sector on a port for a guarded operation. -/
def State.guardWrite (s : State) (g : GuardOp) (m step : Nat) (c : Sector) (hi : BitVec 32) : State :=
  let (line, k) := stripeLine g.stripe m
  s.memAsk m { write := true, line := line, mask := 2 ^ k, slice := g.slice, tc := g.tc, internal := g.own,
               purpose := .guard g.id step, cipher := setSector 0 k c,
               sb := BitVec.ofNat 128 ((sideband c hi).toNat <<< (64 * k)) }

/-- The version bit of sector `k` of a line of a guarded granule, written where its old one is not read: on the
reconstruct path (log entry 21), in a full stripe (log entry 43), and alone where its parity stack is lost (log entry 16). A free
value. -/
def State.freeVersion (s : State) (k : Nat) : Bool := Nat.testBit (Config.undefinedLine s.freeCount).toNat k

/-- Replace a guarded operation. -/
def State.setGuard (s : State) (g : GuardOp) : State :=
  { s with guardOps := s.guardOps.map fun x => if x.id == g.id then g else x }

/-- Step number of the read of the other data sector on port m. -/
def otherStep (m : Nat) : Nat := 16 + m

/-- A fresh number of the model. -/
def State.fresh (s : State) : Nat × State := (s.nextId, { s with nextId := s.nextId + 1 })

/-- Give a guarded operation that holds its lock a fresh number, so that what was asked under the old one is not taken for it. -/
def State.rekeyGuard (s : State) (g : GuardOp) : GuardOp × State :=
  let (id, s) := s.fresh
  let q := parityPort g.stripe
  let s := { s with guardOps := s.guardOps.map fun (x : GuardOp) => if x.id == g.id then { x with id := id } else x }
  ({ g with id := id }, s.setMp q { s.mp q with locks := (s.mp q).locks.map fun l => if l.2 == g.id then (l.1, id) else l })

/-- The sector a guarded write writes where its old version bit is not read. -/
def State.sealFree (s : State) (g : GuardOp) : BitVec 32 :=
  let (line, k) := stripeLine g.stripe g.port
  s.sideOf g.key (sectorIx line k) g.cipher (Nat.testBit g.side.toNat 28) (s.freeVersion k)

/-- The reconstruct path of a guarded write: read the 14 other data sectors (07 R238, R241, R242). -/
def State.toReconstruct (s : State) (g : GuardOp) : State :=
  let os := stripeOthers g.stripe g.port
  let (g, s) := s.rekeyGuard g
  let g := { g with kind := .reconstruct, step := 0, accC := 0, accS := 0, waitFor := os, side := s.sealFree g }
  os.foldl (fun s m => s.guardRead g m (otherStep m)) (s.useFree.setGuard g)

/-- The range of bytes a job's descriptor has it write: ZERO, COPY, REKEY_COPY, TRANSCODE_COPY without MX, GATHER, EMBED_BAG
(09 R287). -/
def jobDest (d : List Reg) : Nat × Nat :=
  match dType d with
  | 0xB => (dAddr d 2, field (dword d 3) 0 38)
  | 0x1 | 0xA => (dAddr d 3, field (dword d 4) 0 38)
  | 0x2 => (dAddr d 3, if isMx (field (dword d 4) 36 4) then 0 else field (dword d 4) 0 32 * elemBits (field (dword d 4) 36 4) / 8)
  | 0x3 => (dAddr d 4, field (dword d 5) 0 32 * field (dword d 5) 32 16 * 64)
  | 0x5 => (dAddr d 5, field (dword d 6) 32 32 * field (dword d 6) 0 13 * elemBits (field (dword d 6) 20 4) / 8)
  | _ => (0, 0)
/-- Whether a job's writes cover all 15 data sectors of a stripe (07 R239). -/
def State.jobCovers (s : State) (job stripe : Nat) : Bool :=
  match s.job? job with
  | none => false
  | some j =>
    let (a, n) := jobDest j.desc
    (List.range 16).all fun m =>
      let (line, k) := stripeLine stripe m
      let x := line * 128 + 64 * k
      m == parityPort stripe || (decide (a ≤ x) && decide (x + 64 ≤ a + n))
/-- The writes of a stripe by the job of a guarded write that wait for the stripe's lock. -/
def State.fullParts (s : State) (g : GuardOp) : List GuardOp :=
  if g.kind != .delta || g.job.isNone || s.mpt.lostMask != 0 then []
  else s.guardOps.filter fun x => x.kind == .delta && !x.locked && x.stripe == g.stripe && x.job == g.job
/-- Whether the writes of all 15 data sectors have come. -/
def State.fullReady (s : State) (g : GuardOp) : Bool :=
  let ps := s.fullParts g
  (List.range 16).all fun m => m == parityPort g.stripe || ps.any (·.port == m)
/-- Whether a job's guarded write waits for the others of its stripe. The spec does not say how long the block waits for them.
DESIGN CHOICE: to the end of the tick in which it came (log entry 43). -/
def State.fullHolds (s : State) (g : GuardOp) : Bool :=
  g.kind == .delta && g.since == s.blk.tick && s.mpt.lostMask == 0 && !s.fullReady g
    && match g.job with | some id => s.jobCovers id g.stripe | none => false

/-- A full stripe (07 R239): under the lock of `g`, parity is formed from the 15 new sectors and nothing is read. -/
def State.fullStart (s : State) (g : GuardOp) : State :=
  let parts := (s.fullParts g).map fun x => { x with kind := .reconstruct, locked := true, step := 4, side := s.sealFree x }
  let q := parityPort g.stripe
  let (id, s) := s.fresh
  let f : GuardOp := { id := id, kind := .full, port := q, stripe := g.stripe, key := g.key, slice := g.slice, tc := g.tc,
                       locked := true, waitFor := List.range 16,
                       accC := parts.foldl (fun a x => a ^^^ x.cipher) 0, accS := parts.foldl (fun a x => a ^^^ x.side) 0 }
  let m := s.mp q
  let s := s.setMp q { m with locks := m.locks.map fun l => if l.2 == g.id then (l.1, id) else l,
                              lockWaiters := m.lockWaiters.filter fun w => !(parts.any (·.id == w)) }
  let s := parts.foldl (fun (s : State) x => s.setGuard x) { s.useFree with guardOps := s.guardOps ++ [f] }
  parts.foldl (fun (s : State) x => s.guardWrite x x.port 4 x.cipher x.side) (s.guardWrite f q 3 f.accC f.accS)

/-- The first step of a guarded operation that holds its lock (07 R238 to R241). -/
def State.guardStart (s : State) (g : GuardOp) : State :=
  if g.job.isSome && s.fullReady g then s.fullStart g else
  let g := { g with locked := true }
  match g.kind with
  | .delta =>
    if s.stackLost g.port then (s.setGuard g).toReconstruct g
    else (s.setGuard { g with step := 1 }).guardRead g g.port 1
  | .check =>
    let g := { g with waitFor := List.range 16 }
    (List.range 16).foldl (fun s m => s.guardRead g m (otherStep m)) (s.setGuard g)
  | .parityFix =>
    let os := (List.range 16).filter (· != parityPort g.stripe)
    let g := { g with waitFor := os }
    os.foldl (fun s m => s.guardRead g m (otherStep m)) (s.setGuard g)
  | _ =>
    let os := stripeOthers g.stripe g.port
    let g := { g with waitFor := os }
    os.foldl (fun s m => s.guardRead g m (otherStep m)) (s.setGuard g)

/-- Grant the oldest waiters of a parity port while an entry is free, their stripe is not locked and no other write of it is awaited. -/
def State.grantLocksN : Nat → State → Nat → State
  | 0, s, _ => s
  | n + 1, s, q =>
    let m := s.mp q
    let pick := m.lockWaiters.find? fun id => match s.guardOps.find? (·.id == id) with
      | some g => !(m.locks.any (·.1 == g.stripe)) && !s.fullHolds g
      | none => true
    if m.locks.length ≥ 256 then s
    else match pick with
      | none => s
      | some id =>
        let s := s.setMp q { m with lockWaiters := m.lockWaiters.filter (· != id) }
        match s.guardOps.find? (·.id == id) with
        | some g =>
          let s := s.setMp q { s.mp q with locks := (s.mp q).locks ++ [(g.stripe, g.id)] }
          State.grantLocksN n (s.guardStart g) q
        | none => State.grantLocksN n s q
/-- Grant what can be granted at a parity port. -/
def State.grantLocks (s : State) (q : Nat) : State := s.grantLocksN ((s.mp q).lockWaiters.length) q

/-- Take a stripe's lock or wait for it (07 R238): 256 entries at the parity port's unit, in arrival order. -/
def State.guardBegin (s : State) (g : GuardOp) : State :=
  let q := parityPort g.stripe
  let s := { s with guardOps := s.guardOps ++ [{ g with since := s.blk.tick }] }
  (s.setMp q { s.mp q with lockWaiters := (s.mp q).lockWaiters ++ [g.id] }).grantLocks q

/-- Drop a guarded operation and its lock. -/
def State.guardEnd (s : State) (g : GuardOp) : State :=
  let q := parityPort g.stripe
  let m := s.mp q
  let s := { s with guardOps := s.guardOps.filter (·.id != g.id) }
  s.setMp q { m with locks := m.locks.filter (·.2 != g.id), lockWaiters := m.lockWaiters.filter (· != g.id) }

/-! ### Reads and writes of a line -/

/-- Whether a key's slot refuses a line: unusable, or its permitted slice is not the slice of the line's granule; slot
8191 is exempt from the second (12 R371, R372). -/
def State.slotRefuses (s : State) (k line : Nat) : Bool :=
  (s.key k).unusable || (k != 8191 && (s.key k).slice != (s.ownAt (lineGran line)).slice)

/-- Whether a request may name a key for a line (07 R234, 12 R371). -/
def State.keyPasses (s : State) (k line : Nat) : Bool := s.keyUsable k && !s.slotRefuses k line

/-- Refuse a key: kind 0x21 against slice 0 where it is not usable (07 R234), else kind 0xA6 against the permitted slice of
its slot (12 R371). -/
def State.raiseRetired (s : State) (p key : Nat) : State :=
  if s.keyUsable key then s.raise (unitId 6 (1 + p)) 0xA6 2 6 key (s.key key).slice 0
  else s.raise (mptUnit p) 0x21 2 6 key 0 0

/-- Ask memory for sectors of a line. `none` where they cannot come: an unusable key or the lost stack of an unguarded
granule; the request then completes with POISON (07 R234, R241). -/
def State.memRead (s : State) (line mask key sl tc : Nat) (internal : Bool) (pur : MPurpose) : State × Bool :=
  let p := granPort (lineGran line)
  if !s.keyPasses key line then (s.raiseRetired p key, false)
  else if s.stackLost p then
    if s.guarded (lineGran line) && popCount s.mpt.lostMask.toNat 16 = 1 then
      ((bitList mask 2).foldl (fun s k =>
        let (id, s) := s.fresh
        s.guardBegin { id := id, kind := .rebuild, port := p, stripe := stripeOf line k, key := key, slice := sl, tc := tc,
                       reader := pur }) s, true)
    else (s, false)
  else if (s.port (mpPort p)).state ≥ 2 then (s, false)
  else (s.memAsk p { line := line, mask := mask, key := key, slice := sl, tc := tc, internal := internal,
                     purpose := pur }, true)

/-- Write sectors of a line to memory. The second value is false where nothing is left to wait for: an unusable key, or
a stack that is gone (07 R234, R241). -/
def State.memWrite (s : State) (line mask key sl tc : Nat) (internal : Bool) (plain : Line) (poison : Nat)
    (pur : MPurpose) (job : Option Nat := none) : State × Bool :=
  let g := lineGran line
  let p := granPort g
  let ix := sectorIx line
  if !s.keyPasses key line then (s.raiseRetired p key, false)
  else
    let cs := fun k => s.cipherOf key (ix k) (lineSector plain k) (Nat.testBit poison k)
    let q := parityPort (stripeOf line 0)
    if s.guarded g && !s.stackLost q && p != q && !(s.stackLost p && popCount s.mpt.lostMask.toNat 16 ≥ 2) then
      ((bitList mask 2).foldl (fun s k =>
        let (id, s) := s.fresh
        s.guardBegin { id := id, kind := .delta, port := p, stripe := stripeOf line k, key := key, slice := sl,
                       tc := tc, cipher := cs k, side := BitVec.ofNat 32 (place (flag (Nat.testBit poison k)) 28 1),
                       reader := pur, job := job }) s, true)
    else if s.stackLost p || (s.port (mpPort p)).state ≥ 2 then (s, false)
    else
      let side := fun k => s.sideOf key (ix k) (cs k) (Nat.testBit poison k) (s.guarded g && s.freeVersion k)
      let data := (bitList mask 2).foldl (fun l k => setSector l k (cs k)) 0
      let sb := (bitList mask 2).foldl (fun a k => a + (sideband (cs k) (side k)).toNat <<< (64 * k)) 0
      let s := if s.guarded g then s.useFree else s
      (s.memAsk p { write := true, line := line, mask := mask, key := key, slice := sl, tc := tc,
                    internal := internal, purpose := pur, cipher := data, sb := BitVec.ofNat 128 sb }, true)

end Sys2Proof.Machine
end

