-- ==== Sys2Proof/Machine/Homes.lean ====
section
/-! DEFINITION. The home slices (05): where a line lives, the gate of 03 R102, ways and dirty lines, snoops, and the life of
a request at its home. A transaction moves when what it waits for has come; `settle` runs every one that can move. -/

namespace Sys2Proof.Machine

/-! ### Where a line lives (05 R150, R151, R178) -/

/-- Whether a name is in a slice's home set (04 R132); slice 0's is every name (05 R151). -/
def State.inHomeSet (s : State) (sl n : Nat) : Bool :=
  sl == 0 || (let r := s.homeRec n
              if r.excl then r.owner == sl else r.ways.any fun w => w.valid && w.slice == sl)
/-- H of 05 R150: a slice's names on a die, ascending. -/
def State.homeSet (s : State) (sl die : Nat) : List Nat :=
  ((List.range 16).map (· + 16 * die)).filter (s.inHomeSet sl)
/-- The name of a line's home; of a remote line, its proxy home (05 R150, R177). -/
def State.homeName (s : State) (line : Nat) : Option Nat :=
  let g := lineGran line
  let hs := if lineChip line != s.chip then (List.range 16).map (· + 16 * granDie g)
    else s.homeSet (s.ownAt g).slice (granDie g)
  hs[(lineHash line * hs.length) / 65536]?
/-- The physical home slice that serves a name: itself while active, or the spare that stands in (05 R150). -/
def State.physOf (s : State) (n : Nat) : Option Nat :=
  if (s.home n).role = 0 then some n
  else ((List.range 8).map (· + 128)).find? fun h => (s.home h).role == 2 && (s.home h).standsFor == n && !s.comingUp h
/-- The buddy's physical index (05 R178): of the name it serves, bit 0 inverted. -/
def State.buddy (s : State) (h : Nat) : Option Nat := s.physOf (s.nameOfHome h ^^^ 1)
/-- Whether dirty lines of a home are mirrored (05 R178, R182). -/
def State.mirrored (s : State) (h : Nat) : Bool := (s.home h).mirrorOk && (s.buddy h).isSome

/-! ### The gate (03 R101 to R104) -/

/-- What a request needs (03 R102 step 4): nothing for evictions and internal work. -/
inductive Need where
  | none | rd | wr | amo
  deriving DecidableEq, Repr

/-- Whether a slice is a member, and a writer, of a share group (03 R104). -/
def State.member (s : State) (gp sl : Nat) : Bool :=
  gp != 0 && Nat.testBit (tget {} s.slc.share gp).members.toNat sl
/-- The writer bit of a member. -/
def State.writer (s : State) (gp sl : Nat) : Bool :=
  s.member gp sl && Nat.testBit (tget {} s.slc.share gp).writers.toNat sl

/-- The gate of 03 R102 on a granule: `none` passes, `some 0` is a denial, `some k` a denial with fault kind k.
`fn` is `none` for a request that carries no function (10 R322). -/
def State.gate (s : State) (g sl : Nat) (fn : Option Nat) (need : Need) (host internal : Bool) : Option Nat :=
  let e := s.ownAt g
  let owner := e.slice == sl && (e.sliceWide || fn == some e.fn)
  let mem := s.member e.group sl
  let right := match need with
    | .none => true | .rd => e.rd | .wr => e.wr | .amo => e.wr && e.amo
  let writes := need == .wr || need == .amo
  if s.slc.badLines.contains (g / 16) then some 0x89
  else if !internal && e.gstate != 1 then some 0
  else if !internal && !(owner || mem) then some 0
  else if !internal && !(right && (!host || e.host) && (!writes || owner || s.writer e.group sl)) then some 0
  else if e.key == 8191 && !e.pub then some 0x88
  else none

/-- Count or raise what a denial of the gate asks for (03 R102). -/
def State.denied (s : State) (h g sl k : Nat) : State :=
  if k = 0 then s.count sl 66 1
  else s.raise (hslUnit h) k 2 8 g (if k = 0x89 then 0 else (s.ownAt g).slice) 0

/-- Set the dirty bit of a line's unit where its granule logs (03 R121): for the block's own output writes of windows and trace
writes as well, which R121 does not name (DESIGN CHOICE, log entry 177). -/
def State.logDirty (s : State) (line : Nat) : State :=
  let g := lineGran line
  if lineChip line == s.chip && (s.ownAt g).dirtyLog then
    { s with dirty := tset 0 s.dirty g (tget 0 s.dirty g ||| BitVec.ofNat 32 (1 <<< (lineInGran line / 512))) }
  else s

/-! ### Ways (05 R152 to R156, 06 R205, R206) -/

/-- The way of a line in a home's data array. -/
def HomeSt.way? (x : HomeSt) (line : Nat) : Option (Nat × LlcLine) := x.lines.find? fun l => l.2.line == line
/-- The newest write-buffer entry of a line. -/
def HomeSt.buffered? (x : HomeSt) (line : Nat) : Option WbEnt := x.wbuf.reverse.find? fun w => w.line == line
/-- The way mask of a slice in a home (05 R154): all ways where it holds the home exclusively; none for slice 0. -/
def State.wayMask (s : State) (h sl : Nat) : Nat :=
  let r := s.homeRec (s.nameOfHome h)
  if sl = 0 then 0
  else if r.excl then (if r.owner = sl then 0xFFFF else 0)
  else r.ways.foldl (fun a w => if w.valid && w.slice == sl then a ||| w.mask else a) 0
/-- The slice of a line of this chip. -/
def State.lineSlice (s : State) (line : Nat) : Nat := (s.ownAt (lineGran line)).slice
/-- Whether addresses of a slice are moving under a draining delta (04 R143, R145). -/
def State.moving (s : State) (sl : Nat) : Bool := s.img.movingSlices.contains sl
/-- Whether a draining delta takes a way from a slice, or has walked the place (04 R145); the walk of a stand-in is complete
(04 R147). -/
def State.wayBarred (s : State) (h set way sl : Nat) : Bool :=
  s.img.drain.any fun d =>
    if d.home == h then d.lostWays.contains (way, sl) || (Nat.testBit d.ways way && decide (set * 16 + way < d.tagCur))
    else decide (h ≥ 128) && d.name == s.nameOfHome h && (s.home h).role != 1 && Nat.testBit d.ways way
/-- The shadows of a slice's windows in a set of a home (08 R268): set of the input line plus the shadow's number. -/
def State.shadowsIn (s : State) (h set sl : Nat) : Nat :=
  s.rw.windows.foldl (fun a w =>
    if w.2.state = 0 || w.2.slice != sl then a
    else
      let eb := elemBytes w.2.inFmt
      w.2.shadows.foldl (fun a b =>
        let line := (w.2.base + b.1 * 32 * eb) / 128
        let k := b.1 - ((line * 128 - w.2.base) + 32 * eb - 1) / (32 * eb)
        if (setOf line + k) % 2048 == set && (s.homeName line).bind s.physOf == some h then a + 1 else a) a) 0
/-- The ways a slice may allocate in now, ascending; the highest are given to its shadows (log entry 19). -/
def State.waysFor (s : State) (h set sl : Nat) : List Nat :=
  let ws := (bitList (s.wayMask h sl) 16).filter fun w =>
    !(s.home h).disabled.contains (set * 16 + w) && !s.wayBarred h set w sl
  if s.rw.windows.isEmpty then ws else ws.take (ws.length - s.shadowsIn h set sl)
/-- Where the shadows of a window live: home and set of each (08 R268). -/
def State.shadowSpots (s : State) (x : Window) : List (Nat × Nat) :=
  let eb := elemBytes x.inFmt
  x.shadows.filterMap fun b =>
    let line := (x.base + b.1 * 32 * eb) / 128
    let k := b.1 - ((line * 128 - x.base) + 32 * eb - 1) / (32 * eb)
    ((s.homeName line).bind s.physOf).map fun h => (h, (setOf line + k) % 2048)
/-- The ways that a slice's shadows take in a set of a home (log entry 19). -/
def State.shadowWays (s : State) (h set sl : Nat) : List Nat :=
  let ws := (bitList (s.wayMask h sl) 16).filter fun w =>
    !(s.home h).disabled.contains (set * 16 + w) && !s.wayBarred h set w sl
  ws.drop (ws.length - s.shadowsIn h set sl)
/-- The window whose shadow stands at a place of a home (08 R271): the shadows of a slice in a set take its ways in the
order of their windows (log entry 19). -/
def State.shadowAt (s : State) (h k : Nat) : Option Nat :=
  let set := k / 16
  let here := fun (w : Nat × Window) => if w.2.state = 0 then [] else ((s.shadowSpots w.2).filter (· == (h, set))).map fun _ => w.1
  (0 :: s.img.active.slices.map (·.1)).findSome? fun sl =>
    let ids := (s.rw.windows.filter fun w => w.2.slice == sl).flatMap here
    (((s.shadowWays h set sl).zip ids).find? (·.1 == k % 16)).map (·.2)
/-- Lines and shadows a slice holds in a home (06 R206). -/
def State.occupancy (s : State) (h sl : Nat) : Nat :=
  let n := ((s.home h).lines.filter fun l => l.2.slice == sl).length
  if s.rw.windows.isEmpty then n
  else n + s.rw.windows.foldl (fun a w =>
    if w.2.state = 0 || w.2.slice != sl then a
    else a + (w.2.shadows.filter fun b =>
      (s.homeName ((w.2.base + b.1 * 32 * elemBytes w.2.inFmt) / 128)).bind s.physOf == some h).length) 0
/-- The cap of a slice in a shared home, 0 for none (06 R205). -/
def State.occCap (s : State) (h sl : Nat) : Nat :=
  if (s.homeRec (s.nameOfHome h)).excl then 0
  else (s.qsl sl).occCap * (popCount (s.wayMask h sl) 16 * 2048) / 256

/-- The way a new line of a slice takes (05 R154, 06 R206): an invalid way, the lowest; else the victim that the
pseudo-LRU order names, a free value (log entry 9). At its cap a slice displaces only its own lines; an ATOMIC_HOME, which allocates
regardless of bypass, any line where the slice has none in the set (`force`, 05 R166). -/
def State.pickWay (s : State) (h set sl : Nat) (force : Bool := false) : Option Nat :=
  let ws := s.waysFor h set sl
  let at_ := fun w => mget? (s.home h).lines (set * 16 + w)
  let cap := s.occCap h sl
  let pick := fun (l : List Nat) => l[Config.victim s.freeCount l.length % (max 1 l.length)]?
  let mine := ws.filter fun w => match at_ w with | some l => l.slice == sl | none => false
  if (s.qsl sl).occCap != 0 && !(s.homeRec (s.nameOfHome h)).excl && s.occupancy h sl ≥ cap && !(force && mine.isEmpty) then
    pick mine
  else match ws.find? fun w => (at_ w).isNone with
    | some w => some w
    | none => pick ws

/-! ### Write-backs, the mirror and dirty lines (05 R154, R155, R178, R179) -/

/-- Write a dirty line's copy into the buddy's mirror array (05 R178), charged to the line's slice as TC2 (06 R183). -/
def State.mirrorPut (s : State) (h line sl key poison : Nat) (data : Line) : State :=
  match s.buddy h with
  | some b =>
    let s := if sl = 0 then s else s.charge (instHomeWr b) sl 2 1
    let x := s.home b
    s.setHome b { x with mirror := mput x.mirror line { slice := sl, key := key, poison := poison, data := data } }
  | none => s
/-- Drop a line's mirror copy. -/
def State.mirrorDrop (s : State) (h line : Nat) : State :=
  match s.buddy h with
  | some b => s.setHome b { s.home b with mirror := mdel (s.home b).mirror line }
  | none => s

/-- Put sectors of a line in a home's write buffer of 64 lines and toward memory (05 R152). An older entry of the line goes first;
what finds the buffer full waits for a place. -/
def State.wbPush (s : State) (h line sl key mask poison : Nat) (data : Line) (job : Option Nat := none) : State :=
  let x := s.home h
  let e : WbEnt := { line := line, slice := sl, key := key, mask := mask, poison := poison, data := data, job := job }
  if (x.wbuf.any fun w => w.line == line) || (x.wbuf.filter (·.issued)).length ≥ 64 then s.setHome h { x with wbuf := x.wbuf ++ [e] }
  else
    let s := s.setHome h { x with wbuf := x.wbuf ++ [{ e with issued := true }] }
    let s := s.note (hslUnit h) 0x08 (some sl) 1
    let (s, sent) := s.memWrite line mask key sl 2 (sl == 0) data poison (.flushed h line) job
    if sent then s
    else
      let x := s.home h
      (s.setHome h { x with wbuf := x.wbuf.filter fun w => w.line != line }).mirrorDrop h line

/-- Write back a dirty line of the data array; it stays there clean, its mirror copy until the acknowledgement. -/
def State.cleanLine (s : State) (h k : Nat) : State :=
  match mget? (s.home h).lines k with
  | some l =>
    let s := s.setHome h { s.home h with lines := mput (s.home h).lines k { l with dirty := false } }
    if l.dirty then s.wbPush h l.line l.slice l.key 3 l.poison l.data else s
  | none => s

/-- Take a line out of the data array, writing it back if dirty (05 R154). -/
def State.evictWay (s : State) (h k : Nat) : State :=
  let s := s.cleanLine h k
  s.setHome h { s.home h with lines := mdel (s.home h).lines k }

/-- The longest-dirty line of a home, or of a slice in it (05 R155, 06 R205). -/
def HomeSt.oldestDirty (x : HomeSt) (sl : Option Nat) : Option (Nat × LlcLine) :=
  (x.lines.filter fun l => l.2.dirty && (sl.isNone || sl == some l.2.slice)).foldl
    (fun b l => match b with
      | none => some l
      | some c => if l.2.dirtySeq < c.2.dirtySeq then some l else some c) none

/-- Whether the limits of a home and of a slice in it leave room for one more dirty line (05 R155, 06 R205). -/
def State.dirtyRoom (s : State) (h line sl : Nat) : Bool :=
  let x := s.home h
  let already := match x.way? line with | some (_, l) => l.dirty | none => false
  let mirrorFull : Bool := match s.buddy h with | some b => decide ((s.home b).mirror.length ≥ 2048) | none => false
  let mine := (x.lines.filter fun l => l.2.dirty && l.2.slice == sl).length
  let capped := (s.qsl sl).occCap != 0 && !(s.homeRec (s.nameOfHome h)).excl && decide (mine ≥ (s.qsl sl).occCap * 2048 / 256)
  already || !(mirrorFull || capped)
/-- Make room for one more dirty line (05 R155, 06 R205): where a limit is reached, the longest-dirty line is written
back and its number answered, to be waited for until the write-back is acknowledged. -/
def State.roomFor (s : State) (h line sl : Nat) : State × Option Nat :=
  let x := s.home h
  let mirrorFull : Bool := match s.buddy h with | some b => decide ((s.home b).mirror.length ≥ 2048) | none => false
  if s.dirtyRoom h line sl || !s.mirrored h then (s, none)
  else if mirrorFull then
    match x.wbuf.head?, x.oldestDirty none with
    | some w, _ => (s, some w.line)
    | none, some (k, l) =>
      let s := s.cleanLine h k
      (s, if (s.home h).wbuf.any fun w => w.line == l.line then some l.line else none)
    | none, none => (s, none)
  else
    match x.oldestDirty (some sl) with
    | some (k, l) =>
      let s := s.cleanLine h k
      (s, if (s.home h).wbuf.any fun w => w.line == l.line then some l.line else none)
    | none => (s, none)

/-- Make a line of the data array dirty with new contents and mirror it; without a mirror it is written through
(05 R178, R179). -/
def State.dirtyLine (s : State) (h k : Nat) (l : LlcLine) : State :=
  if s.mirrored h then
    let x := s.home h
    let seq := match mget? x.lines k with | some o => if o.dirty then o.dirtySeq else x.dirtyClock | none => x.dirtyClock
    let s := s.setHome h { x with dirtyClock := x.dirtyClock + 1,
                                  lines := mput x.lines k { l with dirty := true, dirtySeq := seq } }
    s.mirrorPut h l.line l.slice l.key l.poison l.data
  else
    let s := s.setHome h { s.home h with lines := mput (s.home h).lines k { l with dirty := false } }
    s.wbPush h l.line l.slice l.key 3 l.poison l.data

/-- Whether a line under a key may be kept in the data array: not while the key retires (07 R234). -/
def State.keyLive (s : State) (k : Nat) : Bool := k == 0 || k == 8191 || (s.key k).state == 1

/-- Allocate a clean line (05 R154); `none` where the fill is bypassed. -/
def State.allocate (s : State) (h line sl key poison : Nat) (data : Line) (force : Bool := false) : Option (State × Nat) :=
  if !s.keyLive key then none
  else match s.pickWay h (setOf line) sl force with
    | none => none
    | some w =>
      let k := setOf line * 16 + w
      let s := (s.evictWay h k).useFree
      let x := s.home h
      let l : LlcLine := { line := line, slice := sl, key := key, poison := poison, data := data }
      some (s.setHome h { x with lines := mput x.lines k l }, k)

/-- Give a home a dirty line from a tile (05 R162): into the data array, or the write buffer where it is bypassed: at a moving
address (04 R145), or where a limit on dirty lines leaves no room (05 R155, 06 R205). Under a retiring key nothing is changed
(07 R234). -/
def State.takeDirty (s : State) (h line sl key : Nat) (data : Line) : State :=
  if !s.keyLive key then s else
  let out := s.moving (s.lineSlice line) || !s.dirtyRoom h line sl
  match (s.home h).way? line with
  | some (k, l) =>
    if out && !l.dirty then
      (s.setHome h { s.home h with lines := mdel (s.home h).lines k }).wbPush h line sl key 3 0 data
    else s.dirtyLine h k { l with data := data, poison := 0 }
  | none =>
    match (if out || !s.mirrored h then none else s.allocate h line sl key 0 data) with
    | some (s, k) => match mget? (s.home h).lines k with
      | some l => s.dirtyLine h k l
      | none => s
    | none => s.wbPush h line sl key 3 0 data

/-- What the home itself holds of a line: data, poison of its sectors, and which sectors (05 R162). -/
def State.homeData (s : State) (h line : Nat) : Option (Line × Nat × Nat) :=
  match (s.home h).way? line with
  | some (_, l) => some (l.data, l.poison, 3)
  | none => match (s.home h).buffered? line with
    | some w => some (w.data, w.poison, w.mask)
    | none => none

/-! ### Poison (05 R174) -/


/-- Poison a line without raising a kind: its LLC copy is marked, both sectors go to memory with the poison bit set. -/
def State.poisonQuiet (s : State) (h line : Nat) : State :=
  let sl := (s.ownAt (lineGran line)).slice
  let key := (s.ownAt (lineGran line)).key
  let s := match (s.home h).way? line with
    | some (k, l) => s.setHome h { s.home h with lines := mput (s.home h).lines k { l with poison := 3, dirty := false } }
    | none => s
  if lineChip line == s.chip then s.wbPush h line sl key 3 3 0 else s

/-- Poison a line and raise the kind of the cause against the slice that owns it (05 R174): of another chip's line, the slice that
the proxy's filter lists. -/
def State.poisonLine (s : State) (h line kind : Nat) : State :=
  let sl := if lineChip line == s.chip then (s.ownAt (lineGran line)).slice else (tget {} (s.home h).filter line).slice
  (s.poisonQuiet h line).raise (hslUnit h) kind 2 1 (line * 128) sl 0

/-- A write-back that reaches a stand-in before it serves (05 R180, R181): it replaces the copy made from the mirror; a
second one of a line poisons it. -/
def State.lateWriteback (s : State) (h line : Nat) (data : Line) : State :=
  let recs := s.flt.recs.map fun (r : Nat × Recovery) =>
    if r.2.spare == some h then (r.1, { r.2 with left := r.2.left.filter (· != line) }) else r
  let s := { s with flt := { s.flt with recs := recs } }
  let mine := fun (f : Flush) => f.standIn && f.home == h
  if s.flushes.any fun f => mine f && f.written.contains line then s.poisonLine h line 0x4A
  else
    let note := fun (f : Flush) => if mine f then { f with written := f.written ++ [line] } else f
    let g := s.ownAt (lineGran line)
    { s with flushes := s.flushes.map note }.takeDirty h line g.slice g.key data

/-! ### The snoop filter (05 R152, R157, R162) -/

/-- The filter entry of a line at a home. -/
def State.filt (s : State) (h line : Nat) : FiltEntry := tget {} (s.home h).filter line
/-- Write a filter entry; state I is unlisted. -/
def State.setFilt (s : State) (h line : Nat) (e : FiltEntry) : State :=
  let e := if e.st = 0 then {} else e
  s.setHome h { s.home h with filter := tset {} (s.home h).filter line e }
/-- Add a tile port to the sharers: one bit for each group of 4 (05 R152). -/
def FiltEntry.addTile (e : FiltEntry) (p : Nat) : FiltEntry :=
  { e with sharers := e.sharers ||| BitVec.ofNat 64 (1 <<< (p / 4)) }
/-- Add a chip to the sharers. -/
def FiltEntry.addChip (e : FiltEntry) (c : Nat) : FiltEntry :=
  { e with remotes := e.remotes ||| BitVec.ofNat 8 (1 <<< c) }
/-- Remove a chip from an entry: as owner, the line falls to S or I. -/
def FiltEntry.dropChip (e : FiltEntry) (c : Nat) : FiltEntry :=
  let e := { e with remotes := e.remotes &&& ~~~(BitVec.ofNat 8 (1 <<< c)) }
  if e.remoteOwner = some c then
    { e with remoteOwner := none, st := if e.sharers = 0 && e.remotes = 0 then 0 else 1 }
  else if e.st = 1 && e.sharers = 0 && e.remotes = 0 then { e with st := 0 } else e
/-- Remove a tile owner from an entry: the line falls to S or I. -/
def FiltEntry.dropOwner (e : FiltEntry) : FiltEntry :=
  { e with st := if e.st = 2 && (e.sharers != 0 || e.remotes != 0) then 1 else 0, owner := 0,
           remoteOwner := none }
/-- The owner an entry lists in R, E and D. -/
def FiltEntry.ownerAgent (e : FiltEntry) : Option (Bool × Nat) :=
  if e.st < 2 then none else match e.remoteOwner with
    | some c => some (true, c)
    | none => some (false, e.owner)
/-- The owner has given up its right to answer and keeps the line as a sharer. -/
def FiltEntry.shareOwner (e : FiltEntry) : FiltEntry :=
  match e.ownerAgent with
  | some (true, c) => { e with st := 1, remoteOwner := none, remotes := e.remotes ||| BitVec.ofNat 8 (1 <<< c) }
  | some (false, p) => { e with st := 1, owner := 0, sharers := e.sharers ||| BitVec.ofNat 64 (1 <<< (p / 4)) }
  | none => e
/-- What is left of an entry when an RD_UNIQUE ends without its grant: the requester's own copy (04 R145). -/
def FiltEntry.onlyAgent (e : FiltEntry) (a : Option (Bool × Nat)) : FiltEntry :=
  if a.isSome && e.ownerAgent == a then { e with sharers := 0, remotes := 0 }
  else match a with
    | some (true, c) => if e.st = 1 && Nat.testBit e.remotes.toNat c then { e with sharers := 0, remotes := BitVec.ofNat 8 (1 <<< c) } else {}
    | some (false, p) => if e.st = 1 && Nat.testBit e.sharers.toNat (p / 4) then
        { e with remotes := 0, sharers := BitVec.ofNat 64 (1 <<< (p / 4)) } else {}
    | none => {}
/-- The aggregate state without its owner but with its sharers. -/
def FiltEntry.settleS (e : FiltEntry) : FiltEntry :=
  { e with st := if e.sharers = 0 && e.remotes = 0 then 0 else 1, remoteOwner := none, owner := 0 }

/-- The agent a request comes from: a tile port or a chip. -/
def agentOf (o : Origin) : Option (Bool × Nat) :=
  match o with
  | .tile p _ => some (false, p)
  | .remote _ _ c => some (true, c)
  | _ => none
/-- The agents listed as sharers, apart from some: the 4 ports of each marked group that have a tile, then chips. -/
def State.sharerAgents (s : State) (e : FiltEntry) (not : List (Bool × Nat)) : List (Bool × Nat) :=
  let ts := (bitList e.sharers.toNat 64).flatMap fun g => (List.range 4).map (· + 4 * g)
  let ts := ts.filter fun p => (s.port p).state == 1 || (s.port p).state == 2
  let cs := bitList e.remotes.toNat 8
  ((ts.map fun p => (false, p)) ++ (cs.map fun c => (true, c))).filter fun a => !not.contains a

/-- The snoops a request needs (05 R159, R162): agent and type. The refetch of a clean line needs none (05 R156). -/
def State.plan (s : State) (t : Txn) (e : FiltEntry) : List ((Bool × Nat) × Nat) :=
  let a := (agentOf t.origin).toList
  let own := e.ownerAgent
  let inv := fun not => (s.sharerAgents e not).map fun x => (x, 3)
  let toOwner := fun ty => (own.map fun x => (x, ty)).toList
  match t.op with
  | .rdShared => toOwner 0
  | .rdUnique =>
    if e.st = 1 then inv a
    else if e.st = 2 then
      if own == a.head? then inv a else toOwner 1 ++ inv (a ++ own.toList)
    else toOwner 1
  | .rdOnce | .read => if t.origin == .internal 2 0 then [] else toOwner 2
  | .write | .atomicHome =>
    if e.st ≥ 3 then toOwner 4 else toOwner 3 ++ inv own.toList
  | .atomicMem | .recall | .discard => toOwner 4 ++ (inv own.toList).map fun x => (x.1, 4)
  | .evictDirty | .evictClean => []

/-- A snoop identifier of a port that is not outstanding, nor held back after a return (02 R56, R88). -/
def State.nextSnoopId (s : State) (p : Nat) : Nat :=
  let out := s.txns.flatMap fun t => (t.snoops.filter fun n => !n.chip && n.port == p).map (·.id)
  let out := out ++ (s.proxies.flatMap fun x => (x.snoops.filter fun n => n.port == p).map (·.id))
  let used := out ++ (s.port p).heldTags
  let c := ((List.range 1024).map fun k => ((s.tile p).snoopId + k) % 1024).find? fun i => !used.contains i
  c.getD (s.tile p).snoopId

/-- Send one snoop (05 R159, R177): to a tile port, or to a chip as a SNOOP message with its deadline tick. -/
def State.sendSnoop (s : State) (h line : Nat) (a : Bool × Nat) (ty : Nat) : State × Snoop :=
  let s := s.note (hslUnit h) 0x05 (some (s.lineSlice line)) 1
  if a.1 then
    let (id, s) := s.fresh
    let m := lineMsg 0x08 (s.lineSlice line) id (line * 128) .ok 0 none ty
    let m := { m with count := BitVec.ofNat 16 (s.blk.tick + s.homeTimeout.remoteTicks) }
    (s.sendOr (s.herdSa a.2) 0 m (.internal 0 0),
      { port := a.2, chip := true, id := id % 65536, ty := ty, since := s.blk.tick })
  else
    let t := s.tile a.2
    let id := s.nextSnoopId a.2
    let s := s.setTile a.2 { t with snoopId := (id + 1) % 1024, snoopHomes := mput t.snoopHomes id h }
    let s := if s.portUp a.2 then s.emit (.tileSnp a.2 ty id (line * 128)) else s
    (s, { port := a.2, id := id, ty := ty, since := s.blk.tick })

/-! ### Answers to origins (00 R15, 05 R166, 06 R208, 11 R355) -/

/-- Add to the usage of a context (11 R355). -/
def State.use (s : State) (x : Option Nat) (rd wr hsl job : Nat) : State :=
  match x with
  | some x =>
    let r := s.ctx x
    s.setCtx x { r with bytesRead := r.bytesRead + rd, bytesWritten := r.bytesWritten + wr,
                        hslBusy := r.hslBusy + hsl, jobFclk := r.jobFclk + job }
  | none => s

/-- Whether an operation is a read of R190. -/
def TOp.isRead : TOp → Bool
  | .rdShared | .rdUnique | .rdOnce | .read => true
  | _ => false

/-- The error detail of a status for a job (09 R289). -/
def statusDetail (st : Status) : Nat :=
  match st with | .denied => 1 | .poison => 2 | .lost => 3 | .timeout => 4 | _ => 0

/-- Give a job the outcome of one of its accesses: a line read, or a write that completed (09 R289, R290). -/
def State.jobGets (s : State) (id : Nat) (t : Txn) (st : Status) (data : Line) (poison : Nat) : State :=
  match s.job? id with
  | none => s
  | some j =>
    let j := { j with reads := j.reads.filter (· != t.id), writes := j.writes.filter (· != t.id) }
    if st = .ok || (st = .poison && t.op.isRead) then
      s.setJob (if t.op.isRead then { j with buf := mput j.buf t.line (data, poison) } else j)
    else if st = .retry then
      s.setJob (if t.op.isRead then j else { j with redo := j.redo ++ [(t.line, t.data, t.be, t.mark, t.internal)] })
    else match j.ended with
      | some _ => s.setJob j
      | none => s.setJob { j with ended := some (statusDetail st) }

/-- Answer a chip's message (10 R315): RESPONSE, or PERFORMED for a posted write. -/
def State.remoteRsp (s : State) (sa xid : Nat) (t : Txn) (st : Status) (granted : Nat) (data : Line) : State :=
  let full := t.op.isRead && (st == .ok)
  let m := if t.op = .write then lineMsg 0x0B t.slice xid (t.line * 128) st 0 none 0
    else if t.op = .atomicHome || t.op = .atomicMem then
      { lineMsg 0x0A t.slice xid (t.line * 128) st 0 (some data) with len := 8 }
    else lineMsg 0x0A t.slice xid (t.line * 128) st granted (if full then some data else none)
  s.sendOr (s.returnSa sa) t.tc m (.internal 0 0)

/-- Count the outcome of a completed request of an origin (06 R208): bypassed, held, or served in or over budget. A read's latency is
taken with it: a job's from its issue (06 R190). -/
def State.countDone (s : State) (t : Txn) (st : Status) : State :=
  let lat := fun (s : State) (port tag : Nat) => match s.openReq port tag with
    | some q =>
      let s := if q.read && st != Status.retry then s.latAdd (portDie port) q.slice q.tc q.since else s
      { s with reqs := s.reqs.filter fun x => !(x.port == port && x.tag == tag) }
    | none => s
  let s := match t.origin with
    | .tile p tag => lat s p tag
    | .host tag _ => lat s hostPort tag
    | .job _ => if t.op.isRead && !t.internal && st != Status.retry then s.latAdd (s.originDie t.origin) t.slice t.tc t.start else s
    | _ => s
  let e := if st = .retry then 4 else if t.bypassed then 8 else if t.held then 2 else if t.overB then 1 else 0
  s.outcome t.slice t.tc e

/-- The final answer of a request to its origin. -/
def State.answer (s : State) (t : Txn) (st : Status) (granted : Nat) (datas : List Line) (poison : Nat) : State :=
  let d := datas.headD 0
  let s := s.retryNote (hslUnit t.home) t.slice st
  match t.origin with
  | .tile p tag =>
    let s := s.countDone t st
    let s := s.retryNote (tpUnit p) t.slice st
    let s := if st = .ok then s.use t.ctx (if t.op.isRead then 128 * datas.length else 0)
      (if t.op.isRead || t.op = .evictDirty || t.op = .evictClean then 0 else popCount t.be.toNat 128) 0 0 else s
    s.tileRsps p tag st granted (if datas.isEmpty then [0] else datas)
  | .host tag _ =>
    let s := s.countDone t st
    let s := s.retryNote hostUnit t.slice st
    s.hostRsp tag st (if st != .ok then 0 else if t.op.isRead then d >>> (8 * t.sector) else d)
  | .job id =>
    let s := s.countDone t st
    let s := if st = .ok then s.use t.ctx (if t.op.isRead then 128 else 0)
      (if t.op.isRead then 0 else popCount t.be.toNat 128) 0 0 else s
    s.jobGets id t st d poison
  | .remote sa xid _ => (s.countDone t st).remoteRsp sa xid t st granted d
  | .window w =>
    let x := s.win w
    let s := s.setWin w { x with writes := x.writes.filter (· != t.id) }
    if st = .retry then s.setWin w { s.win w with redo := (s.win w).redo ++ [(t.line, t.data, t.be)] }
    else if st != .ok && x.state == 3 then s.closeWindow w 9 else s
  | .trace c =>
    if st = .ok then s
    else s.setSlot c { s.slot c with trace := { (s.slot c).trace with enable := false, error := true, status := st.code } }
  | .internal 1 id =>
    let p := if st = .ok then poison else if st = .retry then 4 else 3
    { s with txns := s.txns.map fun x => if x.id == id then { x with scale := some (d, p) } else x }
  | _ => s

/-! ### The life of a transaction -/

/-- The transaction of a number. -/
def State.txn? (s : State) (id : Nat) : Option Txn := s.txns.find? (·.id == id)
/-- Replace a transaction. -/
def State.setTxn (s : State) (t : Txn) : State :=
  { s with txns := s.txns.map fun x => if x.id == t.id then t else x }

/-- Reserve a freed entry for the oldest of the retry queue without a reservation (05 R168). -/
def State.reserve (s : State) (h : Nat) : State :=
  let x := s.home h
  match x.retryQ.find? (·.reserved.isNone) with
  | some e => s.setHome h { x with retryQ := x.retryQ.map fun r =>
      if r.origin == e.origin then { r with reserved := some s.blk.tick } else r }
  | none => s

/-- End a transaction: answer, free its tracker entry, let what waits for its line go on. -/
def State.finish (s : State) (t : Txn) (st : Status) (granted : Nat) (datas : List Line) (poison : Nat) : State :=
  let go := fun (x : Txn) =>
    if x.waitLine == some t.line && x.home == t.home && (t.op == .recall || t.op == .discard)
    then { x with waitLine := none } else x
  let s := { s with txns := (s.txns.filter fun (x : Txn) => x.id != t.id).map go }
  let s := match s.buddy t.home with
    | some b => s.setHome b { s.home b with ackLog := (s.home b).ackLog.filter fun (a : Origin × BitVec 64) => a.1 != t.origin }
    | none => s
  let s := if t.cls = 0 || t.cls = 2 then s.reserve t.home else s
  s.answer t st granted datas poison

/-- The sectors a request reads or writes, as a mask: whole lines for tiles and chips; else those its byte enables
touch (07 R225). -/
def Txn.touched (t : Txn) : Nat :=
  flag (t.be.toNat % 2 ^ 64 != 0) + 2 * flag (t.be.toNat / 2 ^ 64 != 0)
/-- The sectors a request covers in part. -/
def Txn.partly (t : Txn) : Nat :=
  let part := fun x => flag (x != 0 && x != 2 ^ 64 - 1)
  part (t.be.toNat % 2 ^ 64) + 2 * part (t.be.toNat / 2 ^ 64)

/-- Whether a request is transcoded (08 R260): a tile RD_ONCE or RD_SEQ of an element line of a format 1 to 11. -/
def Txn.transcodes (t : Txn) : Bool :=
  t.op == .rdOnce && (match t.origin with | .tile _ _ => true | _ => false)
    && decide (1 ≤ t.fmt) && decide (t.fmt ≤ 11) && isElementLine t.fmt (lineInGran t.line)

/-- The line of the scale region that holds a line's scales (08 R259). -/
def scaleLine (t : Txn) : Nat := t.line - lineInGran t.line + 15360 + scaleByteOf t.fmt (lineInGran t.line) / 128

/-- Enter a request in a home's tracker (05 R167, R171): it takes its place behind earlier ones of its line. One that waited for
the ownership table keeps its number. -/
def State.enter (s : State) (t : Txn) : State :=
  if t.checked then { s with txns := s.txns ++ [t] }
  else
    let (id, s) := s.fresh
    { s with txns := s.txns ++ [{ t with id := id }] }

/-- The filter entry after a read is granted (05 R162). `fwd` is the state forwarded data grants, 0 from the home. -/
def grantOf (t : Txn) (e : FiltEntry) (fwd : Nat) : Nat × FiltEntry :=
  match agentOf t.origin with
  | none => (0, e)
  | some (ch, a) =>
    let own := fun (e : FiltEntry) (st : Nat) =>
      { e with st := st, owner := if ch then 0 else a, remoteOwner := if ch then some a else none }
    let keep := match e.ownerAgent with
      | some (true, c) => e.addChip c
      | some (false, p) => e.addTile p
      | none => e
    match t.op with
    | .rdShared =>
      if fwd != 0 then (2, own keep 2)
      else if e.st = 0 then (3, own {} 3) else (2, own e 2)
    | .rdUnique => (if fwd = 4 then (4, own {} 4) else (3, own {} 3))
    | _ => (0, e)

/-- Note a fill of a slice for the usage estimate of 11 R355. -/
def State.noteFill (s : State) (t : Txn) : State :=
  { s with fills := s.fills ++ [(s.blk.tick, t.slice, match t.ctx with | some x => x + 1 | none => 0)] }

/-- Complete a read with its line (05 R162, 07 R225, 08 R260): grant, fill, transcode, answer. `mem` marks data that came
from memory, `fwd` the state forwarded data grants. -/
def State.readDone (s : State) (t : Txn) (data : Line) (poison fwd : Nat) (mem : Bool) : State :=
  let remote := lineChip t.line != s.chip
  let need := match t.origin with | .host _ _ => t.touched | .job _ => 3 | _ => 3
  let bad := poison &&& need != 0
  let moving := !remote && s.moving (s.lineSlice t.line)
  let fill := mem && !remote && t.alloc && !moving && t.slice != 0
  let bypass := fill && s.throttleBypass (granPort (lineGran t.line)) t.tc
  let filled := if fill && !bypass && poison == 0 then
      s.allocate t.home t.line (s.lineSlice t.line) t.key poison data else none
  let (s, t) := match filled with
    | some (s, _) => (s.noteFill t, t)
    | none => (s, if fill && poison == 0 then { t with bypassed := true } else t)
  let s := if t.bypassed then s.note (hslUnit t.home) 0x04 (some t.slice) 1 else s
  let s := s.use t.ctx 0 0 (if fwd = 0 then 1 else 0) 0
  if bad then s.finish t .poison 0 [data] poison
  else if t.transcodes then
    if hasScaleRegion t.fmt then
      let s := s.setTxn { t with phase := .scale, got := some data }
      match (s.homeName (scaleLine t)).bind s.physOf with
      | some h => s.enter { id := 0, home := h, line := scaleLine t, op := .read, origin := .internal 1 t.id,
                            internal := true, be := BitVec.allOnes 128, start := s.blk.tick,
                            key := (s.ownAt (lineGran t.line)).key }
      | none => s.finish t .retry 0 [] 0
    else
      let s := s.note (hslUnit t.home) 0x09 (some t.slice) 1
      s.finish t .ok 0 (expandLine t.fmt data (if scaleInLine t.fmt then lineScales data else [])) 0
  else
    let e := s.filt t.home t.line
    let (g, e') := if moving then (0, if t.op == .rdShared && fwd != 0 then e.shareOwner else e) else grantOf t e fwd
    let s := if g = 0 && e' == e then s else s.setFilt t.home t.line { e' with slice := t.slice, age := t.id }
    let s := if g ≥ 3 then s.logDirty t.line else s
    s.finish t .ok g [data] poison

/-- Complete a transcoding read with its scales (08 R262). -/
def State.scaleDone (s : State) (t : Txn) : State :=
  match t.got, t.scale with
  | some d, some (sc, p) =>
    let b := scaleByteOf t.fmt (lineInGran t.line) % 128
    if p = 4 then s.finish t .retry 0 [] 0
    else if p &&& (1 <<< (b / 64)) != 0 then s.finish t .poison 0 [] 0
    else
      let n := (storeFmt t.fmt).2.2 / 32
      let scales := (List.range n).map fun j => (sc.toNat >>> (8 * (b + j))) % 256
      (s.note (hslUnit t.home) 0x09 (some t.slice) 1).finish t .ok 0 (expandLine t.fmt d scales) 0
  | _, _ => s

/-- Hand the old line to the memory side of ATOMIC_MEM (05 R166). -/
def State.toMemory (s : State) (t : Txn) : State :=
  match s.memRead t.line 3 t.key t.slice t.tc t.internal (.atomRead t.id) with
  | (s, true) => s.setTxn { t with phase := .atMemory, waitLine := none }
  | (s, false) => s.finish t .poison 0 [] 0

/-- A change is made and mirrored: complete it, or first wait for its write-through (05 R178, R179). -/
def State.changeDone (s : State) (t : Txn) (old : Line) : State :=
  let s := match s.buddy t.home with
    | some b =>
      let x := s.home b
      s.setHome b { x with ackLog := (x.ackLog.filter fun (a : Origin × BitVec 64) => a.1 != t.origin) ++ [(t.origin, old.setWidth 64)] }
    | none => s
  let s := s.use t.ctx 0 0 1 0
  if !s.mirrored t.home && (s.home t.home).wbuf.any (fun w => w.line == t.line) then
    s.setTxn { t with phase := .atMemory, waitLine := some t.line, got := some old }
  else s.finish t .ok 0 [old] 0

/-- Perform a write or atomic on the line the home now has (05 R162, R166, R174, 07 R226). `old` holds the sectors of
`have_`; `poison` marks those poisoned. -/
def State.writeDone (s : State) (t : Txn) (old : Line) (poison : Nat) : State :=
  let key := match (s.home t.home).way? t.line with | some (_, l) => l.key | none => t.key
  let atom := t.op == .atomicHome
  let need := if atom then 1 <<< (t.sector / 64) else t.partly
  if poison &&& need != 0 then s.finish t .poison 0 [] 0
  else if !s.keyLive key then s.finish t .poison 0 [] 0
  else
    let (op, size, a, b) := t.atom
    let res := if atom then atomicLine old t.sector op size a b
      else some (0, mergeLine old t.data t.be)
    match res with
    | none => s.finish t .denied 0 [] 0
    | some (oldv, new) =>
      let full := t.touched &&& (3 - t.partly)
      let p' := if atom then poison else (poison &&& (3 - full)) ||| (if t.mark then full else 0)
      match s.roomFor t.home t.line (s.lineSlice t.line) with
      | (s, some w) => s.setTxn { t with phase := .waiting, waitLine := some w, got := some old, poison := poison }
      | (s, none) =>
        let moving := s.moving (s.lineSlice t.line)
        let inLlc := (s.home t.home).way? t.line
        let alloc := (atom || t.alloc) && !moving
        let placed := match inLlc with
          | some (k, l) => if moving then none else some (s, k, l)
          | none => if alloc && (atom || t.touched == 3) then
              (match s.allocate t.home t.line (s.lineSlice t.line) key p' old atom with
                | some (s, k) => (mget? (s.home t.home).lines k).map fun l => (s, k, l)
                | none => none)
            else none
        match placed with
        | some (s, k, l) => (s.dirtyLine t.home k { l with data := new, poison := p' }).changeDone t (BitVec.ofNat 1024 oldv.toNat)
        | none =>
          let m := if atom || inLlc.isSome then 3 else t.touched
          let s := match inLlc with
            | some (k, _) => s.setHome t.home { s.home t.home with lines := mdel (s.home t.home).lines k }
            | none => s
          let job := match t.origin with | .job id => some id | _ => none
          (s.wbPush t.home t.line (s.lineSlice t.line) key m (p' &&& m) new job).changeDone t (BitVec.ofNat 1024 oldv.toNat)

/-- Get the data a read or write still needs: from the home, else from memory, else from the remote home (05 R162). -/
def State.fetch (s : State) (t : Txn) (mask : Nat) : State :=
  let s := s.note (hslUnit t.home) 0x03 (some t.slice) 1
  match s.memRead t.line mask t.key t.slice t.tc t.internal (.fill t.id) with
  | (s, true) => s.setTxn { t with phase := .reading, got := none }
  | (s, false) => s.finish { t with poison := 3 } .poison 0 [] 3

/-- Send a proxy's request to the remote home (10 R321, R323). -/
def State.toRemote (s : State) (t : Txn) : State :=
  let a := t.line * 128
  let (op, sub, len) : Nat × Nat × Nat := match t.op with
    | .rdShared => (1, 0, 0) | .rdUnique => (1, 1, 0) | .rdOnce | .read => (1, 2, 0)
    | .evictDirty => (3, 1, 128) | .evictClean => (3, 0, 0) | .write => (2, 0, 64) | _ => (4, 0, 24)
  match s.herdSa (lineChip t.line) with
  | none => s.finish t .timeout 0 [] 0
  | some n =>
    let (xid, s) := s.newXid n
    let half := flag (t.be.toNat % 2 ^ 64 == 0)
    let base := lineMsg op t.slice xid (a + (if op = 2 then 64 * half else if op = 4 then t.sector else 0)) .ok 0 none sub
    let (aop, size, x, y) := t.atom
    let data : Line := if op = 4 then BitVec.ofNat 1024 (x.toNat + y.toNat <<< 64 + (aop + flag size * 16) <<< 128)
      else if op = 2 then BitVec.ofNat 1024 (t.data.toNat >>> (512 * half)) else t.data
    let m := { base with len := BitVec.ofNat 8 len, data := data,
                         be := BitVec.ofNat 64 (t.be.toNat >>> (64 * half)) }
    match s.sendMsg n t.tc m (.proxy t.id) with
    | none => s.finish t .retry 0 [] 0
    | some s =>
      let kind := match t.op with | .write => 1 | .evictDirty | .evictClean => 4 | .atomicHome | .atomicMem => 3 | _ => 0
      let port := match t.origin with | .tile p _ => some p | _ => none
      let r : RemoteReq := { sa := n, xid := xid, kind := kind, origin := .proxy t.id, line := t.line, port := port,
                             fn := t.fn, chip := lineChip t.line, since := s.blk.tick }
      let s := { s with remotes := s.remotes ++ [r] }
      let msn := (s.sa n).msn
      let t := { t with phase := .reading, msn := some (n, (msn + 2 ^ 32 - 1) % 2 ^ 32) }
      if kind = 1 then (s.setTxn { t with phase := .atMemory, origin := .internal 0 0 }).answer t .ok 0 [] 0
      else s.setTxn t

/-- A request that will need a new filter entry in a full set first recalls the oldest line of the set (05 R152, log entry 34): a
proxy's line, whose ways are 14 and 15, the oldest remote line of them (10 R321). -/
def State.filterRoom (s : State) (t : Txn) : Option (State × Nat) :=
  let x := s.home t.home
  let remote := lineChip t.line != s.chip
  let set := x.filter.filter fun e => fsetOf e.1 == fsetOf t.line && e.1 != t.line
  let far := set.filter fun e => lineChip e.1 != s.chip
  let tight := remote && decide (far.length ≥ 2)
  let mine := if tight then far else set.filter fun e => lineChip e.1 == s.chip
  let grants := (t.op == .rdShared || t.op == .rdUnique) && (agentOf t.origin).isSome && (s.filt t.home t.line).st == 0
  if !grants || !(tight || decide (set.length ≥ 16)) then none
  else (mine.foldl (fun (b : Option (Nat × FiltEntry)) e => match b with
      | none => some e
      | some c => if e.2.age < c.2.age then some e else some c) none).map fun e =>
    (s.enter { id := 0, home := t.home, line := e.1, op := .recall, origin := .internal 0 0, internal := true,
               slice := e.2.slice, key := if lineChip e.1 == s.chip then (s.ownAt (lineGran e.1)).key else 0,
               start := s.blk.tick }, e.1)

/-- The old line for a write that the home needs: sectors it covers in part, both for an atomic (07 R226). -/
def State.writeNeeds (t : Txn) : Nat := if t.op == .atomicHome then 3 else t.partly

/-- Dirty data that a snoop brought to the home (05 R162); a stand-in that is coming up takes it as a write-back (05 R180). -/
def State.snoopDirty (s : State) (t : Txn) (d : Line) : State :=
  if s.comingUp t.home then s.lateWriteback t.home t.line d else s.takeDirty t.home t.line (s.lineSlice t.line) t.key d
/-- Room for the dirty line that a request's snoops brought (05 R155): the line whose write-back it waits for. -/
def State.dirtyWait (s : State) (t : Txn) : State × Option Nat :=
  if t.got.isSome && t.gotDirty && t.op != .atomicMem && t.op != .discard && lineChip t.line == s.chip && !s.comingUp t.home
      && !(t.op == .rdUnique && !s.moving (s.lineSlice t.line)) then
    s.roomFor t.home t.line (s.lineSlice t.line)
  else (s, none)
/-- Send another chip's line that was recalled dirty to its home (10 R321). -/
def State.evictFar (s : State) (t : Txn) (d : Line) : State :=
  match s.herdSa (lineChip t.line) with
  | some n =>
    let (xid, s) := s.newXid n
    s.sendOr (some n) 2 (lineMsg 3 t.slice xid (t.line * 128) .ok 0 (some d) 1) (.internal 0 0)
  | none => s

/-- Go on with a request whose snoops have all been answered (05 R162, R166). -/
def State.snooped (s : State) (t : Txn) : State :=
  let e := s.filt t.home t.line
  let remote := lineChip t.line != s.chip
  match s.dirtyWait t with
  | (s, some w) => s.setTxn { t with waitLine := some w }
  | (s, none) =>
  if t.poison != 0 && t.op != .recall && t.op != .discard then s.finish t .poison 0 [] 3
  else if t.op.isRead && t.got.isNone && (s.comingUp t.home || (s.home t.home).role == 3) then s.finish t .retry 0 [] 0
  else match t.op with
  | .rdShared | .rdUnique | .rdOnce | .read =>
    if t.foreign then
      let s := match t.got with | some d => if t.gotDirty then s.evictFar t d else s | none => s
      (s.setFilt t.home t.line {}).toRemote { t with got := none, gotDirty := false, foreign := false, snoops := [] }
    else if !remote && t.op == .rdUnique && s.moving (s.lineSlice t.line) then
      let s := match t.got with | some d => if t.gotDirty then s.snoopDirty t d else s | none => s
      (s.setFilt t.home t.line ((s.filt t.home t.line).onlyAgent (agentOf t.origin))).finish t .retry 0 [] 0
    else match t.got with
    | some d =>
      let fwd := if t.op = .rdUnique && t.gotDirty then 4 else if t.op = .rdShared then 2 else 3
      if t.gotDirty && t.op = .rdShared && !remote && !s.keyLive t.key then
        (s.setFilt t.home t.line e.shareOwner).finish t .poison 0 [] 0
      else
      let s := if t.gotDirty && t.op = .rdShared then s.snoopDirty t d else s
      s.readDone t d 0 fwd false
    | none =>
      if remote then s.toRemote t
      else match s.homeData t.home t.line with
        | some (d, p, 3) =>
          (s.note (hslUnit t.home) 0x02 (some t.slice) 1).readDone t d p 0 ((s.home t.home).way? t.line).isNone
        | some (_, _, _) => s.setTxn { t with phase := .waiting, waitLine := some t.line }
        | none => s.fetch t 3
  | .write | .atomicHome =>
    if remote then s.toRemote t
    else
      let s := s.setFilt t.home t.line {}
      let s := match t.got with
        | some d => if t.gotDirty then s.snoopDirty t d else s
        | none => s
      let t := { t with got := none, gotDirty := false }
      let need := State.writeNeeds t
      match s.homeData t.home t.line with
      | some (d, p, m) =>
        if need &&& (3 - m) != 0 then s.setTxn { t with phase := .waiting, waitLine := some t.line, snoops := [] }
        else s.writeDone t d p
      | none => if need = 0 then s.writeDone t 0 0 else s.fetch t need
  | .atomicMem =>
    if remote then s.toRemote t
    else
      let s := s.setFilt t.home t.line {}
      let s := match t.got with
        | some d => if t.gotDirty then s.snoopDirty t d else s
        | none => s
      let t := { t with got := none, gotDirty := false }
      let s := match (s.home t.home).way? t.line with
        | some (k, _) => s.evictWay t.home k
        | none => s
      if (s.home t.home).wbuf.any fun w => w.line == t.line then
        s.setTxn { t with phase := .waiting, waitLine := some t.line }
      else s.toMemory t
  | .recall =>
    let s := match t.got with
      | some d => if t.gotDirty then
          (if remote then s.evictFar t d else s.snoopDirty t d) else s
      | none => s
    (s.setFilt t.home t.line { e with st := 0 }).finish t .ok 0 [] 0
  | .discard =>
    let s := s.setFilt t.home t.line { e with st := 0 }
    let s := match (s.home t.home).way? t.line with
      | some (k, _) => s.setHome t.home { s.home t.home with lines := mdel (s.home t.home).lines k }
      | none => s
    let s := s.setHome t.home { s.home t.home with wbuf := (s.home t.home).wbuf.filter fun w => w.line != t.line || w.issued }
    let s := if t.gotDirty && remote then s.count t.slice 70 1 else s
    (s.mirrorDrop t.home t.line).finish t .ok 0 [] 0
  | .evictDirty | .evictClean => s

/-- Whether the filter lists an agent as the owner of a line. -/
def State.ownsLine (s : State) (h line : Nat) (a : Option (Bool × Nat)) : Bool :=
  a.isSome && (s.filt h line).ownerAgent == a

/-- Apply an eviction (05 R162, R164). `standIn` is the exception of R164: write-backs applied before a stand-in serves. -/
def State.evict (s : State) (t : Txn) : State :=
  let e := s.filt t.home t.line
  let remote := lineChip t.line != s.chip
  let owns := s.ownsLine t.home t.line (agentOf t.origin)
  if t.op = .evictDirty then
    if owns && e.st ≥ 3 then
      let s := s.setFilt t.home t.line {}
      if remote then s else s.takeDirty t.home t.line (s.lineSlice t.line) t.key t.data
    else
      match t.origin with
      | .tile p _ => s.raise (hslUnit t.home) 0x44 1 2 p (s.tileSlice p) 0
      | .remote _ _ c => s.raise (hslUnit t.home) 0x44 1 11 c t.slice 0
      | _ => s.raise (hslUnit t.home) 0x44 1 0 0 t.slice 0
  else if owns then
    s.setFilt t.home t.line (if e.st = 2 then { e with st := 1, owner := 0, remoteOwner := none } else {})
  else s

/-- An eviction that a proxied snoop of the line waits for (05 R172, R177): its data answers the snoop, which is then closed; the
eviction goes on to the remote home only beside an answer that keeps the line. -/
def State.proxyTakes (s : State) (t : Txn) : State × Bool :=
  match t.origin with
  | .tile p _ =>
    let mine := fun (n : Snoop) => !n.chip && n.port == p && n.missed
    let hit := fun (x : ProxySnoop) => x.home == t.home && x.line == t.line && x.snoops.any mine
    let take := fun (x : ProxySnoop) => if hit x then
        { x with snoops := x.snoops.filter fun n => !mine n, data := if t.op == .evictDirty then some t.data else x.data,
                 dirty := x.dirty || t.op == .evictDirty } else x
    ({ s with proxies := s.proxies.map take }, s.proxies.any fun x => hit x && x.ty != 2)
  | _ => (s, false)

/-- Start a request whose turn on its line has come (05 R162). -/
def State.start (s : State) (t : Txn) : State :=
  match t.op with
  | .evictDirty | .evictClean =>
    if t.absorbed then (if t.op = .evictDirty then s.changeDone t 0 else s.finish t .ok 0 [] 0)
    else if lineChip t.line != s.chip then
      let owns := s.ownsLine t.home t.line (agentOf t.origin)
      let (s, taken) := s.proxyTakes t
      let s := s.evict t
      let e := s.filt t.home t.line
      if owns && !taken && (t.op == .evictDirty || e.st == 0) then s.toRemote t else s.finish t .ok 0 [] 0
    else
      let gives := t.op == .evictDirty && s.ownsLine t.home t.line (agentOf t.origin) && decide ((s.filt t.home t.line).st ≥ 3)
      match (if gives then s.roomFor t.home t.line (s.lineSlice t.line) else (s, none)) with
      | (s, some w) => s.setTxn { t with waitLine := some w }
      | (s, none) =>
        let s := s.evict t
        if gives && !s.keyLive t.key then s.finish t .poison 0 [] 0
        else if t.op = .evictDirty then s.changeDone t 0 else s.finish t .ok 0 [] 0
  | _ =>
    match s.filterRoom t with
    | some (s, l) => s.setTxn { t with phase := .behind, waitLine := some l, snoops := [], got := none }
    | none =>
      let e := s.filt t.home t.line
      let foreign := lineChip t.line != s.chip && t.op.isRead && e.st != 0 && e.slice != t.slice
      let ps := if foreign then (e.ownerAgent.toList ++ s.sharerAgents e e.ownerAgent.toList).map fun x => (x, 4)
        else if lineChip t.line != s.chip then
          (match t.op with
            | .rdShared => if e.st ≥ 3 then (e.ownerAgent.map fun x => (x, 1)).toList else s.plan t e
            | .rdUnique => if e.st ≥ 3 then s.plan t e else (s.sharerAgents e ((agentOf t.origin).toList ++ e.ownerAgent.toList)).map
                (fun x => (x, 3)) ++ ((e.ownerAgent.toList.filter fun x => some x != agentOf t.origin).map fun x => (x, 3))
            | .write | .atomicHome | .atomicMem => []
            | _ => s.plan t e)
        else s.plan t e
      let (s, sn) := ps.foldl (fun (x : State × List Snoop) p =>
        let (s, n) := x.1.sendSnoop t.home t.line p.1 p.2
        (s, x.2 ++ [n])) (s, [])
      let uniq := lineChip t.line != s.chip && t.op == .rdShared && decide (e.st ≥ 3) && !foreign
      s.setTxn { t with phase := .snooping, snoops := sn, foreign := foreign, op := if uniq then .rdUnique else t.op }

/-- Whether a transaction is an eviction. -/
def Txn.evicts (t : Txn) : Bool := t.op == .evictDirty || t.op == .evictClean
/-- What holds an eviction back: 64 others that have the entries of its class (05 R167), or a proxied snoop of the line to its port
that is not answered (05 R171). -/
def State.evictWaits (s : State) (t : Txn) : Bool :=
  t.evicts && (decide ((s.txns.filter fun x => x.home == t.home && x.cls == 1 && x.phase != .table && decide (x.id < t.id)).length ≥ 64)
    || match t.origin with
      | .tile p _ => s.proxies.any fun x => x.home == t.home && x.line == t.line
          && x.snoops.any fun n => !n.chip && n.port == p && !n.missed
      | _ => false)

/-- Whether a transaction can move now: the flush of a filter set holds its requests, but not the write-backs it asks for
(05 R176). -/
def State.ready (s : State) (t : Txn) : Bool :=
  match t.phase with
  | .table => false
  | .behind => t.waitLine.isNone && (t.evicts || !(s.home t.home).heldSets.contains (fsetOf t.line)) && !s.evictWaits t &&
      s.txns.all fun x => x.phase == .table || x.home != t.home || x.line != t.line || decide (t.id ≤ x.id)
  | .snooping => t.snoops.isEmpty && t.waitLine.isNone
  | .waiting => t.waitLine.isNone
  | .reading => t.got.isSome
  | .scale => t.scale.isSome
  | .atMemory => t.got.isSome && t.waitLine.isNone

/-- Move a transaction that can move. -/
def State.move (s : State) (t : Txn) : State :=
  match t.phase with
  | .table => s
  | .behind => s.start t
  | .snooping => s.snooped t
  | .waiting => if t.op.isRead || t.snoops.isEmpty && t.got.isNone then
      (if lineChip t.line != s.chip then s.start t else s.snooped { t with snoops := [] })
    else match t.got with
      | some d => if t.op = .atomicMem then s.toMemory { t with got := none } else s.writeDone { t with got := none } d t.poison
      | none => s.snooped t
  | .reading => match t.got with
    | some d => if t.op.isRead then s.readDone t d t.poison 0 true else s.writeDone { t with got := none, poison := 0 } d t.poison
    | none => s
  | .scale => s.scaleDone t
  | .atMemory => s.finish t .ok 0 [t.got.getD 0] 0

/-- The key of R189 of a transaction at its home, larger served first. -/
def State.homeKey (s : State) (t : Txn) : Nat :=
  let i := if t.op.isRead then instHomeRd t.home else instHomeWr t.home
  s.pickKey i t.slice t.lvl t.internal (s.txnOver i t)
/-- The transaction a home picks next: of those that can move the first of the largest key (06 R189). -/
def State.pickTxn (s : State) : Option Txn :=
  (s.txns.filter s.ready).foldl (fun (b : Option Txn) t => match b with
    | none => some t
    | some c => if s.homeKey t > s.homeKey c then some t else some c) none

/-- Run every transaction that can move, in the order of R189, at most `n` moves. -/
def State.settleN : Nat → State → State
  | 0, s => s
  | n + 1, s => match s.pickTxn with
    | some t => State.settleN n (s.move t)
    | none => s

/-- Run every transaction that can move. -/
def State.settle (s : State) : State := s.settleN (4 * s.txns.length + 16)

/-! ### Acceptance at the home (05 R167, R168, 04 R145, 08 R268) -/

/-- The origin's index in the retry queue (05 R168). -/
def retryIndex (o : Origin) (s : State) : Nat :=
  match o with
  | .tile p _ => p
  | .host _ _ => 256
  | .job id => 257 + (match s.job? id with | some j => j.engine.getD 0 | none => 0)
  | _ => 289
/-- The tag of an origin in the retry queue. -/
def retryTag (o : Origin) : Nat :=
  match o with | .tile _ t => t | .host t _ => t | .job id => id | .remote _ x _ => x | _ => 0

/-- Whether a line lies in the input range of an open window (08 R268). -/
def State.inWindow (s : State) (line : Nat) : Option Nat :=
  (s.rw.windows.find? fun w => w.2.state != 0 && decide (w.2.base / 128 ≤ line)
    && decide (line * 128 < w.2.base + 32 * w.2.blocks * elemBytes w.2.inFmt)).map (·.1)

/-- The right an operation needs (03 R102, R103). -/
def TOp.need : TOp → Need
  | .rdShared | .rdUnique | .rdOnce | .read => .rd
  | .write => .wr
  | .atomicHome | .atomicMem => .amo
  | _ => .none

/-- What the gate of a line's home says of a request (03 R102): the lines of another chip are checked there. An eviction that is
not a tile's carries no function of its own. -/
def State.gateOf (s : State) (t : Txn) (fn : Option Nat) : Option Nat :=
  let g := lineGran t.line
  let tile := match t.origin with | .tile _ _ => true | _ => false
  if lineChip t.line != s.chip then none
  else s.gate g t.slice (if t.evicts && !tile then some (s.ownAt g).fn else fn) t.op.need t.hostPort t.internal

/-- What a request that passes the gate is answered all the same, ahead of TIMEOUT, REFUSED, DEFERRED and RETRY (00 R16): DENIED
in the input range of an open window (08 R268), POISON where its data failed parity (02 R83) or its unguarded stack is lost
(07 R241). -/
def State.barredAt (s : State) (t : Txn) : Option Status :=
  let g := lineGran t.line
  if !t.evicts && !t.internal && (s.inWindow t.line).isSome then some .denied
  else if t.parBad then some .poison
  else if lineChip t.line == s.chip && !t.evicts && s.stackLost (granPort g) && !s.guarded g then some .poison
  else none

/-- Whether a recovery of a name is running or waits (05 R180). -/
def State.nameRecovers (s : State) (n : Nat) : Bool :=
  (s.flt.recs.map (·.2) ++ s.flt.waiting).any fun r => (r.state == 1 || r.state == 2) && r.unit / 256 == 1 && r.name == n

/-- Take a request at its home, or answer it at once: the name being replaced, the gate, an open window, a moving
address, parity of its data, the tracker classes. `fn` is `none` where it carries no function. -/
def State.admitTxn (s : State) (t : Txn) (fn : Option Nat) : State :=
  let remote := lineChip t.line != s.chip
  let g := lineGran t.line
  match s.homeName t.line with
  | none => s.answer t .denied 0 [] 0
  | some n =>
    let evict := t.evicts
    let h0 := (s.physOf n).getD n
    match s.gateOf t fn with
    | some k => (s.denied h0 g t.slice k).answer t .denied 0 [] 0
    | none => match s.barredAt t with
      | some st => s.answer t st 0 [] 3
      | none => match s.physOf n with
        | none => match (if evict then s.flushes.find? fun f => f.standIn && f.name == n else none) with
          | some f =>
            let s := if t.op == .evictDirty then s.lateWriteback f.home t.line t.data else s
            s.answer t .ok 0 [] 0
          | none => s.answer t (if (s.home n).role = 3 && !s.nameRecovers n then .poison else .retry) 0 [] 3
        | some h =>
          if !remote && s.moving (s.lineSlice t.line) && t.op == .rdUnique then s.answer t .retry 0 [] 0
          else
            let op := if !remote && s.moving (s.lineSlice t.line) && t.op == .atomicHome then TOp.atomicMem else t.op
            let e : OwnEntry := if remote then {} else s.ownAt g
            let t := { t with home := h, op := op, key := e.key, fmt := if t.fmt = 0 then e.fmt else t.fmt }
            let cnt := fun c => (s.txns.filter fun x => x.phase != .table && x.home == h && x.cls == c).length
            let isRemote := match t.origin with | .remote _ _ _ => true | _ => false
            let q := (s.home h).retryQ
            let oi := retryIndex t.origin s
            let held := q.find? fun r => r.origin == oi && r.tag == retryTag t.origin && r.reserved.isSome
            let unclaimed := q.any (·.reserved.isSome)
            let cls := if evict then 1 else if isRemote then (if t.cls = 2 then 2 else 3) else if held.isSome && cnt 0 ≥ 416 then 2 else 0
            let early := q.any fun r => r.origin == oi && r.tag == retryTag t.origin && r.reserved.isNone
            let full := !t.internal && !evict && !isRemote &&
              (if held.isSome then decide (cnt 0 ≥ 416) && decide (cnt 2 ≥ 16) else decide (cnt 0 ≥ 416) || unclaimed || early)
            if full then
              let q' := if q.any (·.origin == oi) then q
                else q ++ [{ origin := oi, tag := retryTag t.origin }]
              (s.setHome h { s.home h with retryQ := q' }).answer t .retry 0 [] 0
            else
              let s := if held.isSome then
                  s.setHome h { s.home h with retryQ := q.filter (·.origin != oi) } else s
              let inst := if t.op.isRead then instHomeRd h else instHomeWr h
              let overB := s.txnOver inst t || s.txnOver (granPort g) t
              let s := if t.internal then s else (s.charge inst t.slice t.tc 1).tineUses t.tine inst
              let s := s.note (hslUnit h) 0x01 (some t.slice) 1
              let s := s.use t.ctx 0 0 1 0
              let s := if t.op == .write || t.op == .atomicHome || t.op == .atomicMem then s.logDirty t.line else s
              let t := { t with cls := cls, overB := overB && !t.held }
              let busy := s.txns.any fun x => x.phase != .table && x.home == h && x.line == t.line
              let owns := s.ownsLine h t.line (agentOf t.origin)
              let absorb := evict && busy && !remote && owns
              let s := if absorb then s.evict t else s
              let s := if absorb then { s with txns := s.txns.map fun x =>
                  if x.home == h && x.line == t.line then { x with snoops := x.snoops.filter fun n =>
                    !(n.missed && agentOf t.origin == some (n.chip, n.port)) } else x } else s
              (s.enter { t with absorbed := absorb, phase := .behind }).settle

/-! ### The cached ownership entries of a home (03 R100) -/

/-- The table line of a granule's ownership entry: 16 entries of 64 bits. -/
def tableLine (g : Nat) : Nat := g / 16
/-- The memory line that holds a line of the ownership table (03 R97, 07 R486). -/
def State.tableAddr (s : State) (tl : Nat) : Nat := lineOf (regionAddr s.blockRec.ownBase (128 * tl)) + s.chip * 2 ^ 34

/-- The home that lacks a request's ownership entry in its cache: a line of this chip whose table line it does not hold. -/
def State.tableMiss (s : State) (t : Txn) : Option Nat :=
  if lineChip t.line != s.chip then none
  else match (s.homeName t.line).bind s.physOf with
    | some h => if (s.home h).ownLines.contains (tableLine (lineGran t.line)) then none else some h
    | none => none

/-- Cache a table line: the oldest of 256 gives way (log entry 174). -/
def State.tableCache (s : State) (h tl : Nat) : State :=
  let l := (s.home h).ownLines ++ [tl]
  s.setHome h { s.home h with ownLines := l.drop (l.length - 256) }

/-- A table line has come, or cannot: what waited for it is judged, in its order (03 R100, R102). -/
def State.tableBack (s : State) (h tl : Nat) : State :=
  let wait := fun (t : Txn) => t.phase == .table && t.home == h && tableLine (lineGran t.line) == tl
  let ts := s.txns.filter wait
  let s := if s.slc.badLines.contains tl then s else s.tableCache h tl
  let s := { s with txns := s.txns.filter fun t => !wait t }
  ts.foldl (fun (s : State) t => s.admitTxn t t.gateFn) s

/-- Read a table line for a request, with one 128 B read of memory (03 R100); requests of its 16 granules wait together. -/
def State.tableAsk (s : State) (h : Nat) (t : Txn) (fn : Option Nat) : State :=
  let tl := tableLine (lineGran t.line)
  let asked := s.txns.any fun x => x.phase == .table && x.home == h && tableLine (lineGran x.line) == tl
  let t := { t with home := h, phase := .table, gateFn := fn }
  let (id, s) := s.fresh
  let s := { s with txns := s.txns ++ [{ t with id := id, checked := true }] }
  if asked then s
  else
    let bad := s.slc.badLines.filter (· != tl)
    let s := { s with slc := { s.slc with badLines := bad } }
    match s.memRead (s.tableAddr tl) 3 0 0 2 true (.own h tl) with
    | (s, true) => s
    | (s, false) => { s with slc := { s.slc with badLines := bad ++ [tl] } }.tableBack h tl

/-- The tick in which a request is served as in budget after its release by age (06 R199). -/
def State.agedOf (s : State) (o : Origin) : Option Nat :=
  match o with
  | .tile p tag => (s.openReq p tag).bind (·.aged)
  | .host tag _ => (s.openReq hostPort tag).bind (·.aged)
  | .job id => (s.job? id).bind (·.aged)
  | _ => none
/-- What an origin stamps on a request it admits: the level under the ramp of its own die (06 R191), and its age's release. -/
def State.stamp (s : State) (t : Txn) : Txn :=
  if t.internal then t
  else
    let die := match t.tine with | some x => x / 8 | none => s.originDie t.origin
    { t with lvl := s.level die t.slice t.tc t.tine, aged := if t.aged.isSome then t.aged else s.agedOf t.origin }

/-- Take a request at its home: first its ownership entry, then the gate and the tracker. -/
def State.accept (s : State) (t : Txn) (fn : Option Nat) : State :=
  let t := s.stamp t
  match s.tableMiss t with
  | some h => s.tableAsk h t fn
  | none => s.admitTxn t fn

/-! ### Sequence addresses (09 R297, R298) -/

/-- Pages of 32 KiB that hold `n` bytes. -/
def pagesOf (n : Nat) : Nat := (n + 32767) / 32768
/-- Whether `n` data pages fit in a region of `t` pages with `q` sequences. -/
def seqFits (t q n : Nat) : Bool := pagesOf (16 * q) + pagesOf (2 * n) + pagesOf (8 * n) + n ≤ t
/-- Raise `n` while it fits, at most `k` times. -/
def seqGrow (t q : Nat) : Nat → Nat → Nat
  | 0, n => n
  | k + 1, n => if seqFits t q (n + 1) then seqGrow t q k (n + 1) else n
/-- The largest number of data pages of a region (09 R297). -/
def seqPages (t q : Nat) : Nat :=
  let n0 := t - pagesOf (16 * q)
  seqGrow t q 64 (n0 - (pagesOf (2 * n0) + pagesOf (8 * n0)))

/-- The data pages of a window. -/
def SeqWin.dataPages (w : SeqWin) : Nat := seqPages (w.granules * 64) w.seqCount
/-- The pages of the region at which its four parts begin: sequence table, reference counts, free queue, data. -/
def SeqWin.parts (w : SeqWin) : Nat × Nat × Nat × Nat :=
  let a := w.first * 64
  let b := a + pagesOf (16 * w.seqCount)
  let c := b + pagesOf (2 * w.dataPages)
  (a, b, c, c + pagesOf (8 * w.dataPages))
/-- The byte address of a page of this chip. -/
def State.pageAddr (s : State) (p : Nat) : Nat := s.chip * 2 ^ 41 + p * 32768
/-- A sequence entry. -/
def SeqWin.seqEnt (w : SeqWin) (q : Nat) : SeqEnt := tget {} w.entries q
/-- A page-table entry. -/
def SeqWin.pageEnt (w : SeqWin) (q p : Nat) : PageEnt := tget {} w.pages (q * 2048 + p)
/-- The address of a sequence's entry. -/
def State.seqEntAddr (s : State) (w : SeqWin) (q : Nat) : Nat := s.pageAddr w.parts.1 + 16 * (q - w.seqFirst)
/-- The address of a sequence's page-table entry. -/
def State.pageEntAddr (s : State) (w : SeqWin) (q p : Nat) : Nat := s.pageAddr (w.seqEnt q).dir + 8 * p

/-- Translate a sequence address (09 R298): the line and the storage format it is delivered from, or a status. -/
def State.seqLine (s : State) (sl a : Nat) : Except Status (Nat × Nat) :=
  let w := s.seqw sl
  let q := a / 2 ^ 26 % 2 ^ 18
  let o := a % 2 ^ 26
  let tb := 128 * 2 ^ w.shift
  let p := o / 32768
  if w.state != 2 || q < w.seqFirst || q ≥ w.seqFirst + w.seqCount then .error .denied
  else if w.badMeta.contains q then .error .poison
  else
    let e := w.seqEnt q
    let g := w.pageEnt q p
    let l := o % 32768 / 128
    let n := if g.fmt = 7 || g.fmt = 8 then 128 else 160
    let pos := if g.fmt = 0 then o / tb else p * (32768 / tb) + l * n / (tb / 2)
    if !e.valid || !g.valid || pos ≥ e.length then .error .denied
    else if g.fmt != 0 && (l * n ≥ 16384 || o % 32768 ≥ 16384) then .error .denied
    else .ok (lineOf (s.pageAddr g.page + (if g.fmt != 0 && g.half then 16384 else 0) + o % 32768), g.fmt)

/-- The number of a page-table entry in the translation caches: slice, sequence, logical page. -/
def tlbKey (sl q p : Nat) : Nat := (sl * 2 ^ 18 + q) * 2 ^ 11 + p
/-- Put an entry into the translation cache of a die: the oldest of 4,096 gives way (09 R298; the order is DESIGN CHOICE, log entry 187). -/
def State.tlbPut (s : State) (die k : Nat) : State :=
  let l := tget [] s.seqTlb die ++ [k]
  { s with seqTlb := tset [] s.seqTlb die (l.drop (l.length - 4096)) }
/-- Drop entries from every die's translation cache (09 R300). -/
def State.tlbDrop (s : State) (gone : Nat → Bool) : State :=
  { s with seqTlb := (s.seqTlb.map fun x => (x.1, x.2.filter fun k => !gone k)).filter fun x => !x.2.isEmpty }

/-- A translated RD_SEQ goes to its home, or ends with the status of the step that fails (09 R298). -/
def State.seqGo (s : State) (t : Txn) (a : Nat) : State :=
  let t := { t with seq := none, scale := none, phase := .behind }
  match s.seqLine t.slice a with
  | .error st =>
    let s := if st = .poison then s.raise (jobUnit 0) 0x51 2 9 (a / 2 ^ 26 % 2 ^ 18) t.slice t.fn else s
    s.answer t st 0 [] 0
  | .ok (line, f) => s.accept { t with line := line, fmt := f } (some t.fn)

/-- A block-internal read of a record of the tables, for a RD_SEQ that waits for it (09 R298). -/
def State.seqRead (s : State) (t : Txn) (a key : Nat) (second : Bool) : State :=
  let (id, s) := s.fresh
  let t := { t with id := id, home := 255, phase := .table, scale := none, seq := some ((t.seq.getD (0, false)).1, second) }
  match (s.homeName (lineOf a)).bind s.physOf with
  | some h =>
    let r : Txn := { id := 0, home := h, line := lineOf a, op := .read, origin := .internal 1 id, slice := 0, internal := true,
                     be := BitVec.allOnes 128, start := s.blk.tick, key := key }
    ({ s with txns := s.txns ++ [t] }.enter r).settle
  | none => s.answer t .retry 0 [] 0

/-- The address of the record a RD_SEQ being translated has read last. -/
def State.seqAddr (s : State) (t : Txn) : Nat :=
  let (a, second) := t.seq.getD (0, false)
  let w := s.seqw t.slice
  let q := a / 2 ^ 26 % 2 ^ 18
  if second then s.pageEntAddr w q (a % 2 ^ 26 / 32768) else s.seqEntAddr w q

/-- A record of the tables has come for a RD_SEQ: unreadable it is POISON with kind 0x51; a sequence that is not valid is DENIED; else
the page-table entry is read, and then the address is translated (09 R298). -/
def State.seqStep (s : State) (t : Txn) : State :=
  let (a, second) := t.seq.getD (0, false)
  let w := s.seqw t.slice
  let q := a / 2 ^ 26 % 2 ^ 18
  let p := (t.scale.getD (0, 0)).2
  let s := { s with txns := s.txns.filter fun x => x.id != t.id }
  if p = 4 then s.answer t .retry 0 [] 0
  else if Nat.testBit p (s.seqAddr t % 128 / 64) then
    (s.raise (jobUnit 0) 0x51 2 9 q t.slice t.fn).answer t .poison 0 [] 0
  else if w.state != 2 || !(w.seqEnt q).valid then s.answer t .denied 0 [] 0
  else if second then
    let die := match t.origin with | .tile port _ => port / 32 | _ => 0
    (s.tlbPut die (tlbKey t.slice q (a % 2 ^ 26 / 32768))).seqGo t a
  else s.seqRead t (s.pageEntAddr w q (a % 2 ^ 26 / 32768)) (s.ownAt w.first).key true

/-- Let every RD_SEQ whose record has come go on, at most `n` steps. -/
def State.seqPumpN : Nat → State → State
  | 0, s => s
  | n + 1, s => match s.txns.find? fun t => t.seq.isSome && t.scale.isSome with
    | some t => State.seqPumpN n (s.seqStep t)
    | none => s
/-- Let every RD_SEQ whose record has come go on. -/
def State.seqPump (s : State) : State := s.seqPumpN (2 * s.txns.length + 4)

/-- Translate a RD_SEQ (09 R298): in the cache of the tile's die, else by reads of the sequence entry and the page-table entry. -/
def State.seqAsk (s : State) (t : Txn) (a : Nat) : State :=
  let w := s.seqw t.slice
  let q := a / 2 ^ 26 % 2 ^ 18
  let die := match t.origin with | .tile port _ => port / 32 | _ => 0
  if w.state != 2 || q < w.seqFirst || q ≥ w.seqFirst + w.seqCount || w.badMeta.contains q
      || (tget [] s.seqTlb die).contains (tlbKey t.slice q (a % 2 ^ 26 / 32768)) then s.seqGo t a
  else (s.seqRead { t with seq := some (a, false) } (s.seqEntAddr w q) (s.ownAt w.first).key false).seqPump

end Sys2Proof.Machine
end

