-- ==== Sys2Proof/Machine/Ports.lean ====
section
/-! DEFINITION. The watch of the ports (02 R82 to R88): what a misbehaving neighbour raises, isolation, and the return to
service. -/

namespace Sys2Proof.Machine

/-- The slices that lose their way when a tine goes: those of ACTIVE transmit SAs with no other usable tine
(02 R85, 10 R329). -/
def State.strandedSlices (s : State) (t : Nat) : List Nat :=
  let link := (s.tine t).carries
  let hit := s.sas.filter fun a => a.2.tx && a.2.state == 2 && Nat.testBit a.2.tines.toNat link
    && !((List.range 64).any fun u => u != t && s.usable a.1 u a.2.slice)
  (hit.map fun a => a.2.slice).eraseDups

/-- Raise a port's kind with the class of 02 R85, subject the port. -/
def State.portRaise (s : State) (i kind : Nat) (isolating : Bool) : State :=
  let one := fun (s : State) cls sl fn => s.raise (unitOfPort i) kind cls 2 i sl fn
  if i < 256 then
    let fn := match s.portBinding i with
      | some (c, _) => match (s.slot c).ctx with | some x => (s.ctx x).fn | none => 0
      | none => 0
    one s 2 (s.tileSlice i) fn
  else if i < 272 then
    let r := s.stackRec (i - 256)
    one s 2 (if r.use = 1 then r.owner else 0) 0
  else if i < 336 then
    match (if isolating then s.strandedSlices (i - 272) else []) with
    | [] => one s 1 0 0
    | ls => ls.foldl (fun s sl => one s 2 sl 0) s
  else if i = hostPort then
    match (s.hostTags.map (·.2)).eraseDups with
    | [] => one s 2 0 0
    | fs => fs.foldl (fun s f => one s 2 (s.fnc f).slice f) s
  else if i = dbgPort then one s 1 0 0
  else if 340 ≤ i && i < 356 then one s 2 (tget {} s.img.active.urgs (i - 340)).slice 0
  else one s 2 0 0

/-- Take a request from its origin: it completes without a grant or an answer (02 R85). -/
def State.orphan (s : State) (p : Origin → Bool) : State :=
  { s with txns := s.txns.map fun t => if p t.origin then { t with origin := .internal 0 0 } else t }

/-- Isolate a port that is up (02 R84 to R86). What it had outstanding completes, and the port drives nothing. -/
def State.isolateOnly (s : State) (i kind : Nat) : State :=
  let p := s.port i
  let snp := fun (l : List Snoop) => (l.filter fun n => !n.chip && n.port == i).map (·.id)
  let out := if i < 256 then (s.txns.flatMap fun t => snp t.snoops) ++ (s.proxies.flatMap fun x => snp x.snoops)
    else if i < 272 then (s.mp (i - 256)).tags.map (·.tag) else []
  let s := s.setPort i { p with state := 2, cause := kind, isolateTick := s.tick32, reenable := false, gap := true,
                                errs := 0, heldTags := out }
  let s := { s with held := s.held.filter (·.port != i), reqs := s.reqs.filter (·.port != i) }
  if i < 256 then
    let s := s.orphan fun o => match o with | .tile q _ => q == i | _ => false
    let mine := fun (o : Origin) => match o with | .tile q _ => q == i | _ => false
    let s : State := { s with remotes := s.remotes.map fun r => if mine r.origin then { r with origin := .internal 0 0 } else r }
    let s := s.setTile i { s.tile i with tags := [], beat := none }
    let s := { s with linkFences := s.linkFences.filter (·.port != i) }
    match s.portBinding i with
    | some (c, _) => match (s.slot c).ctx with | some x => s.willLose x 4 | none => s
    | none => s
  else if i < 272 then s
  else if i < 336 then s.setTine (i - 272) { s.tine (i - 272) with state := 4, cause := kind }
  else if i = hostPort then
    let s := s.orphan fun o => match o with | .host _ _ => true | _ => false
    { s with hostTags := [] }
  else if 340 ≤ i && i < 356 then
    s.setUrg (i - 340) { s.urg (i - 340) with floating := true }
  else s

/-- A condition that isolates a port (02 R84): one fault, then the isolation. -/
def State.isolate (s : State) (i kind : Nat) : State :=
  if (s.port i).state = 1 then (s.portRaise i kind true).isolateOnly i kind else s

/-- An event of kind 0x63 to 0x66, or one that counts as such: recorded, and the fourth within a tick isolates
(02 R83, R84). `loud` false where the kind raised is another. -/
def State.portEvent (s : State) (i kind : Nat) (loud : Bool := true) : State :=
  let p := s.port i
  if p.state != 1 then s
  else
    let s := s.setPort i { p with errs := p.errs + 1 }
    if p.errs + 1 ≥ 4 then s.isolate i kind
    else if loud then s.portRaise i kind false else s

/-- A context's table entry or slot state is uncorrectable: kind 0x58 (11 R359). -/
def State.ctxStateLost (s : State) (x : Nat) : State :=
  ((s.raise hostUnit 0x58 2 4 x (s.ctx x).slice (s.ctx x).fn)).willLose x 9

/-! ### The return to service (02 R53, R88) -/

/-- A port leaves reset once its keep-alive has toggled for 16 fclk (02 R53), with fabric reset released. -/
def State.leaveReset (s : State) (i : Nat) : State :=
  let p := s.port i
  if p.state = 0 && s.fawn.fabricGood then
    let s := s.setPort i { p with state := 1 }
    if 340 ≤ i && i < 356 then
      s.setUrg (i - 340) { s.urg (i - 340) with floating := false }
    else s
  else s

/-- Examine a pending reenable at a boundary (02 R88). -/
def State.reenablePort (s : State) (i : Nat) : State :=
  let p := s.port i
  if !p.reenable then s
  else
    let m := s.mp (i - 256)
    let memOk := !(256 ≤ i && i < 272) || (m.trained && m.healthy && m.trainedFell.isNone)
    if p.state = 2 && !p.gap && memOk then
      let s := s.setPort i { p with state := 1, reenable := false, holdEnd := s.blk.tick + 16 }
      if 272 ≤ i && i < 336 then s.setTine (i - 272) { s.tine (i - 272) with state := 0, linkUp := false }
      else if 340 ≤ i && i < 356 then
        s.setUrg (i - 340) { s.urg (i - 340) with floating := false }
      else s
    else s.setPort i { p with reenable := false, reenableRefused := true }

/-- The tags held back after a return are free again (02 R88). -/
def State.tagHoldEnd (s : State) (i : Nat) : State :=
  let p := s.port i
  if p.state = 1 && !p.heldTags.isEmpty && s.blk.tick ≥ p.holdEnd then s.setPort i { p with heldTags := [] } else s

/-- Whether something sent on a port has met its deadline (02 R82 kind 0x65): a memory request of 4 ticks,
FLUSH_HOME of 4 ticks, a snoop of local_ticks. -/
def State.respOverdue (s : State) (i : Nat) : Bool :=
  if i < 256 then
    s.flushes.any (fun f => f.ports.contains i && decide (f.start + 4 ≤ s.blk.tick)) ||
    s.txns.any (fun t => t.snoops.any fun n => !n.chip && n.port == i
      && decide (n.since + s.homeTimeout.localTicks ≤ s.blk.tick))
  else if i < 272 then (s.mp (i - 256)).tags.any fun r => decide (r.since + 4 ≤ s.blk.tick)
  else false

/-! ### The commands -/

/-- PORT_RESP_TIMEOUT (02 R82). -/
def execPortRespTimeout (port : BitVec 9) (s : State) : Host.Outcome State Fault Refusal :=
  .next (if s.respOverdue port.toNat then s.portEvent port.toNat 0x65 else s)

/-- PORT_STUCK_READY (02 R82, R84): the surroundings' ready has been 0 through two ticks. On a tine, ticks in which a bit of
lp_tx_paused is 1 do not count: `paused` where one of the two ticks is such, or the tine's own pause stands. -/
def execPortStuckReady (port : BitVec 9) (paused : Bool) (s : State) : Host.Outcome State Fault Refusal :=
  let i := port.toNat
  let tine := decide (272 ≤ i) && decide (i < 336)
  .next (if tine && (paused || (s.tine (i - 272)).paused != 0) then s else s.isolate i 0x60)

/-- PORT_STUCK_VALID (02 R82, R84). -/
def execPortStuckValid (port : BitVec 9) (s : State) : Host.Outcome State Fault Refusal :=
  .next (s.isolate port.toNat 0x61)

/-- PORT_KEEPALIVE_LOST (02 R51, R75, R84): a port that is up is isolated; on an isolated one a gap is noted for R88. -/
def execPortKeepaliveLost (port : BitVec 9) (s : State) : Host.Outcome State Fault Refusal :=
  let p := s.port port.toNat
  .next (if p.state = 2 then s.setPort port.toNat { p with gap := true } else s.isolate port.toNat 0x62)

/-- PORT_LEAVE_RESET (02 R53). -/
def execPortLeaveReset (port : BitVec 9) (s : State) : Host.Outcome State Fault Refusal :=
  .next (s.leaveReset port.toNat)

/-- PORT_REENABLE (02 R88): a pending reenable is examined. -/
def execPortReenable (port : BitVec 9) (s : State) : Host.Outcome State Fault Refusal :=
  .next (s.reenablePort port.toNat)

/-- TAG_REUSE_HOLD_END (02 R88). -/
def execTagReuseHoldEnd (port : BitVec 9) (s : State) : Host.Outcome State Fault Refusal :=
  .next (s.tagHoldEnd port.toNat)

/-! ### The test port (02 R80, R81) -/

/-- Load an instruction: the value that its register captures is shifted out. -/
def State.testIr (s : State) (code : Nat) (value : BitVec 32) : State :=
  { (s.emit (.testCapture code value)) with test := { s.test with ir := BitVec.ofNat 8 code } }

/-- FACTORY_TEST: takes effect only while fabric reset is asserted; latched until power is removed (02 R81). -/
def execFactoryTest (s : State) : Host.Outcome State Fault Refusal :=
  let s := s.testIr 0xA5 0
  .next (if s.fawn.fabricGood then s else { s with test := { s.test with factory := true } })

/-- IDCODE: selects the register loaded from idcode_in (02 R80). -/
def execIdcode (s : State) : Host.Outcome State Fault Refusal := .next (s.testIr 0x01 s.test.idcode)

/-- SAMPLE/PRELOAD selects the boundary register: it captures the block's signals as they stand, `pins`, which are shifted out
while `preload` is shifted in (02 R80). -/
def State.samplePins (s : State) (pins preload : List Bool) : State :=
  let s := (s.testIr 0x02 0).emit (.testScan pins)
  { s with test := { s.test with boundary := preload } }

/-- SAMPLE_PRELOAD (02 R80). -/
def execSamplePreload (pins preload : List Bool) (s : State) : Host.Outcome State Fault Refusal :=
  .next (s.samplePins pins preload)

/-- EXTEST drives the block's outputs from the boundary register; outside factory test mode it is refused, and the instruction
register captures 0x00 (02 R80, R81). -/
def State.driveBoundary (s : State) : State :=
  if s.test.factory then (s.testIr 0x03 0).emit (.testDrive s.test.boundary)
  else { (s.emit (.testCapture 0x03 0)) with test := { s.test with ir := 0x00 } }

/-- EXTEST (02 R80, R81). -/
def execExtest (s : State) : Host.Outcome State Fault Refusal := .next s.driveBoundary

/-- IJTAG_ACCESS selects the IEEE 1687 network and reaches an instrument through it (02 R80). Outside factory test mode only a
read of an instrument that reveals no tenant data and no key material goes through; key material is reached in no mode, so an
instrument that reveals it is one that the block does not have (02 R81, R90). -/
def State.instrument (s : State) (inst : Nat) (write reveals : Bool) (data : Reg) : State :=
  let s := s.testIr 0x10 0
  if s.test.factory || (!write && !reveals) then s.emit (.testAccess inst write data) else s

/-- IJTAG_ACCESS (02 R80, R81). -/
def execIjtagAccess (inst : BitVec 16) (write reveals : Bool) (data : Reg) (s : State) : Host.Outcome State Fault Refusal :=
  .next (s.instrument inst.toNat write reveals data)

/-- The codes that select something other than the bypass register (02 R80). -/
def testCodes : List Nat := [0x01, 0x02, 0x03, 0x10, 0xA5]

/-- BYPASS: 0xFF and every code that is no other instruction's select the bypass register (02 R80). -/
def execBypass (code : BitVec 8) (s : State) : Host.Outcome State Fault Refusal :=
  .next (s.testIr (if testCodes.contains code.toNat then 0xFF else code.toNat) 0)

end Sys2Proof.Machine
end

