-- ==== Sys2Proof/Machine/MemPort.lean ====
section
/-! DEFINITION. The memory ports (02 R60 to R63, 07 R224 to R227, R236 to R244): issuing, returns and their judging,
acknowledgements, the steps of guarded operations, the loss of a stack (07 R241, R242, 13 R410). -/

namespace Sys2Proof.Machine

/-! ### Faults of sectors (07 R224, R227, R245, R247) -/

/-- The byte address of sector k of a line. -/
def sectorAddr (line k : Nat) : Nat := line * 128 + 64 * k

/-- Count a sector's failure or correction at its port. -/
def State.memCount (s : State) (p kind : Nat) : State :=
  let m := s.mp p
  if kind = 0 then s.setMp p { m with corrected := min (m.corrected + 1) (2 ^ 32 - 1) }
  else if kind = 1 || kind = 2 then s.setMp p { m with uncorrectable := min (m.uncorrectable + 1) 65535 }
  else
    let s := s.setMp p { m with tagFailed := min (m.tagFailed + 1) 65535, tagFailTick := m.tagFailTick + 1 }
    if m.tagFailTick = 16 then s.raise (mptUnit p) 0x23 2 2 (mpPort p) 0 0 else s

/-- Raise a memory kind for a sector, with its owner as slice. -/
def State.memRaise (s : State) (line k kind cls : Nat) : State :=
  let g := lineGran line
  s.raise (mptUnit (granPort g)) kind cls 1 (sectorAddr line k) (s.ownAt g).slice 0

/-- What a correction alone raises (07 R224 step 2). -/
def State.noteFixed (s : State) (line k : Nat) (fixed : Bool) : State :=
  if fixed then (s.memCount (granPort (lineGran line)) 0).memRaise line k 0x00 1 else s

/-! ### Data for whoever reads (05 R162, 07 R225) -/

/-- A sector for a reader, with its poison: gathered in the transaction until every sector has come. -/
def State.gather (s : State) (pur : MPurpose) (k : Nat) (d : Sector) (bad : Bool) : State :=
  let put := fun (id : Nat) (s : State) => match s.txn? id with
    | some t =>
      let (l, p) := t.scale.getD (0, 0)
      s.setTxn { t with scale := some (setSector l k d, p ||| (flag bad <<< k)) }
    | none => s
  match pur with
  | .fill id => put id s
  | .atomRead id => put id s
  | .own _ tl => if bad then { s with slc := { s.slc with badLines := s.slc.badLines ++ [tl] } } else s
  | _ => s

/-- Perform the memory side of ATOMIC_MEM on the line read (05 R166, 08 R250): write the sector back, hold the old
value for the answer. -/
def State.atomAtMemory (s : State) (t : Txn) (l : Line) (poison : Nat) : State :=
  let k := t.sector / 64
  if Nat.testBit poison k then s.finish t .poison 0 [] 0
  else
    let (op, size, a, b) := t.atom
    match atomicLine l t.sector op size a b with
    | none => s.finish t .denied 0 [] 0
    | some (old, new) =>
      let s := s.setTxn { t with scale := some (old.setWidth 1024, 0) }
      match s.memWrite t.line (1 <<< k) t.key t.slice t.tc t.internal new 0 (.atomWrite t.id) with
      | (s, true) => s
      | (s, false) => s.finish t .poison 0 [] 0

/-- Every sector of a read has been judged: hand it on, unless a rebuild of one is still running. -/
def State.gathered (s : State) (pur : MPurpose) : State :=
  if s.guardOps.any (·.reader == pur) then s
  else match pur with
    | .fill id => match s.txn? id with
      | some t => match t.scale with
        | some (l, p) => (s.setTxn { t with got := some l, poison := p, scale := none }).settle
        | none => s
      | none => s
    | .atomRead id => match s.txn? id with
      | some t => match t.scale with
        | some (l, p) => (s.atomAtMemory { t with scale := none } l p).settle
        | none => s
      | none => s
    | .scrub id line => match s.job? id with
      | some j => s.setJob { j with reads := j.reads.filter (· != line) }
      | none => s
    | .own h tl => (s.tableBack h tl).settle
    | _ => s

/-! ### Writes that are acknowledged (05 R154, R178) -/

/-- Nothing of a line is left to write: what waited for it at its home goes on. -/
def State.lineWritten (s : State) (h line : Nat) : State :=
  let go := fun (t : Txn) => if t.home == h && t.waitLine == some line then { t with waitLine := none } else t
  { s with txns := s.txns.map go }

/-- A write-back of a home has been written: drop its entry and, with the line's last, unless the line is dirty again, its mirror
copy; let what waited for the line go on; the oldest entry that waits takes the place in the buffer. -/
def State.flushedAck (s : State) (h line : Nat) : State :=
  let x := s.home h
  let s := match x.wbuf.find? (·.line == line) with
    | some e => s.setHome h { x with wbuf := x.wbuf.erase e }
    | none => s
  let x := s.home h
  let dirty := match x.way? line with | some (_, l) => l.dirty | none => false
  let s := if x.wbuf.any (fun w => w.line == line) then s else (if dirty then s else s.mirrorDrop h line).lineWritten h line
  let x := s.home h
  match x.wbuf.find? fun e => !e.issued && !(x.wbuf.any fun w => w.issued && w.line == e.line) with
  | some e =>
    let s := s.setHome h { x with wbuf := x.wbuf.map fun w => if w == e then { w with issued := true } else w }
    let s := s.note (hslUnit h) 0x08 (some e.slice) 1
    let (s, sent) := s.memWrite e.line e.mask e.key e.slice 2 (e.slice == 0) e.data e.poison (.flushed h e.line) e.job
    if sent then s
    else
      let x := s.home h
      (s.setHome h { x with wbuf := x.wbuf.filter fun w => w.line != e.line }).lineWritten h e.line
  | none => s

/-- A write has been acknowledged, or nothing is left to wait for. -/
def State.written (s : State) (pur : MPurpose) : State :=
  match pur with
  | .flushed h line => (s.flushedAck h line).settle
  | .atomWrite id => match s.txn? id with
    | some t => (s.setTxn { t with got := t.scale.map (·.1), scale := none }).settle
    | none => s
  | _ => s

/-! ### Guarded operations (07 R236 to R243) -/

/-- A member of a full stripe has been written, or is dropped: with the last the lock goes (07 R239). -/
def State.fullPart (s : State) (stripe m : Nat) : State :=
  match s.guardOps.find? fun f => f.kind == .full && f.stripe == stripe with
  | none => s
  | some f =>
    let f := { f with waitFor := f.waitFor.filter (· != m) }
    if f.waitFor.isEmpty then s.guardEnd f else s.setGuard f

/-- A guarded operation has ended: its lock goes, its reader or writer goes on, a write-back with its last sector. -/
def State.guardDone (s : State) (g : GuardOp) : State :=
  let s := (s.guardEnd g).fullPart g.stripe g.port
  let s := s.grantLocks (parityPort g.stripe)
  match g.kind with
  | .delta | .reconstruct => if s.guardOps.any (·.reader == g.reader) then s else s.written g.reader
  | .rebuild => s.gathered g.reader
  | _ => s

/-- Poison sectors of a line whose memory contents failed, through the home's write buffer (05 R174, 07 R224). -/
def State.memPoison (s : State) (line mask : Nat) : State :=
  let e := s.ownAt (lineGran line)
  match (s.homeName line).bind s.physOf with
  | some h =>
    if (s.home h).wbuf.any fun w => w.line == line && w.mask &&& mask == mask then s else s.wbPush h line e.slice e.key mask mask 0
  | none => s

/-- Write the new data sector of a guarded write, the last step (07 R238 step 4). -/
def State.guardData (s : State) (g : GuardOp) : State :=
  if s.stackLost g.port then s.guardDone g
  else (s.setGuard { g with step := 4 }).guardWrite g g.port 4 g.cipher g.side

/-- Write the new data sector of a guarded write alone, where parity is dropped or cannot be formed (07 R238, R241, R242). -/
def State.guardAlone (s : State) (g : GuardOp) : State :=
  let (g, s) := s.rekeyGuard g
  let q := parityPort g.stripe
  let s := s.setMp q { s.mp q with lockWaiters := (s.mp q).lockWaiters.filter (· != g.id) }
  let side := if g.step ≥ 2 then g.side else s.sealFree g
  s.useFree.guardData { g with kind := .reconstruct, locked := true, side := side }

/-- The reconstruct path where the 14 other stacks are there, else the data alone. -/
def State.reconstructOr (s : State) (g : GuardOp) : State :=
  if (stripeOthers g.stripe g.port).any s.stackLost then s.guardAlone g else s.toReconstruct g

/-- A stored sector of a stripe without its code, or `none` where it fails to decode. -/
def rawSector (bad : Bool) (c : Sector) (sb : BitVec 64) : Option (Sector × BitVec 32) :=
  if bad then none else (rsDecode c sb).map fun x => (x.1, BitVec.ofNat 32 (x.2.1.toNat >>> 32 % 2 ^ 30))
/-- Whether a stored sector decodes with one symbol corrected (07 R218). -/
def rawFixed (bad : Bool) (c : Sector) (sb : BitVec 64) : Bool :=
  !bad && match rsDecode c sb with | some x => x.2.2 | none => false

/-- Whether a key's slot still holds its material: not after its zeroize (07 R233). -/
def State.keyHeldBack (s : State) (k : Nat) : Bool :=
  k == 0 || k == 8191 || (s.key k).state == 1 || (s.key k).state == 2

/-- Judge a rebuilt sector and deliver it (07 R224, R240). A rebuilt sector under a key that is zeroized by then is discarded
(07 R233), lost data is poisoned with no kind of its own (07 R241); one that is rebuilt poisoned has failed step 3, and the kind of the failed read is raised with class CU (07 R224). -/
def State.rebuiltJudge (s : State) (g : GuardOp) (c : Sector) (hi : BitVec 32) : State :=
  let (line, k) := stripeLine g.stripe g.port
  let s := { s with mpt := { s.mpt with rebuiltNow := s.mpt.rebuiltNow + 1 } }
  let s := s.note (mptUnit g.port) 0x12 (some g.slice) 1
  let tagOk := hi.toNat % 2 ^ 28 == sectorTag (s.material g.key) (sectorIx line k) (Nat.testBit hi.toNat 29) c
  let lostData := s.stackLost g.port && popCount s.mpt.lostMask.toNat 16 ≥ 2 && g.cause == 0
  if !s.keyHeldBack g.key || lostData then (s.gather g.reader k 0 true).guardDone g
  else if g.failed || !tagOk && !Nat.testBit hi.toNat 28 then
    let kind := if g.cause != 0 then g.cause else if g.failed then 0x01 else 0x20
    let s := (s.memRaise line k kind 2).gather g.reader k 0 true
    (s.guardDone g).memPoison line (2 ^ k)
  else if Nat.testBit hi.toNat 28 then
    let s := ((s.memRaise line k 0x03 1).gather g.reader k 0 true).guardDone g
    if g.cause = 0 then s else (s.memRaise line k g.cause 2).memPoison line (2 ^ k)
  else
    let s := s.gather g.reader k (s.plainOf g.key (sectorIx line k) c) false
    let s := if g.cause != 0 then s.memRaise line k g.cause 1 else s
    let s := if g.cause != 0 && !s.stackLost g.port then
        s.memAsk g.port { write := true, line := line, mask := 2 ^ k, slice := 0, internal := true, purpose := .rewrite,
                          cipher := setSector 0 k c, sb := BitVec.ofNat 128 ((sideband c hi).toNat <<< (64 * k)) }
      else s
    s.guardDone g

/-- A read of a guarded operation has returned a stored sector. A write whose parity sector fails to decode in step 3, or comes with
mp_rd_bad, takes the reconstruct path; one that fails to read another sector there writes its data alone, and leaves parity as it is,
not suspect: 07 R238 names the old data sector only. DESIGN CHOICE (log entry 185). -/
def State.guardGot (s : State) (g : GuardOp) (step : Nat) (raw : Option (Sector × BitVec 32)) (kind : Nat := 1) : State :=
  let (line, k) := stripeLine g.stripe g.port
  match g.kind, step with
  | .full, _ => s
  | .delta, 1 => if !s.keyHeldBack g.key then s.guardDone g else match raw with
    | none => s.reconstructOr g
    | some (c, hi) =>
      let side := s.sideOf g.key (sectorIx line k) g.cipher (Nat.testBit g.side.toNat 28) (!Nat.testBit hi.toNat 29)
      let g := { g with step := 2, side := side, accC := c ^^^ g.cipher, accS := hi ^^^ side }
      (s.setGuard g).guardRead g (parityPort g.stripe) 2
  | .delta, _ => match raw with
    | none => s.reconstructOr g
    | some (c, hi) => (s.setGuard { g with step := 3 }).guardWrite g (parityPort g.stripe) 3 (c ^^^ g.accC) (hi ^^^ g.accS)
  | .rebuild, 2 =>
    let (c, hi) := raw.getD (0, 0)
    let g := { g with failed := g.failed || raw.isNone }
    s.rebuiltJudge g (g.accC ^^^ c) (g.accS ^^^ hi)
  | .check, _ =>
    let m := step - 16
    let (l, j) := stripeLine g.stripe m
    let key := (s.ownAt (lineGran l)).key
    let par := m == parityPort g.stripe
    let fails := match raw with
      | none => kind
      | some (c, hi) => if par || Nat.testBit hi.toNat 28
          || hi.toNat % 2 ^ 28 == sectorTag (s.material key) (sectorIx l j) (Nat.testBit hi.toNat 29) c then 0 else 0x20
    let s := if fails = 0x20 then s.memCount m 0x20 else s
    let (c, hi) := raw.getD (0, 0)
    let g := { g with waitFor := g.waitFor.filter (· != m) }
    let g := if fails != 0 then { g with bad := g.bad ++ [m + 16 * fails] }
      else if par then { g with cipher := c, side := hi }
      else { g with accC := g.accC ^^^ c, accS := g.accS ^^^ hi }
    let s := s.setGuard g
    if !g.waitFor.isEmpty then s
    else match g.bad with
      | [] => if g.accC == g.cipher && g.accS == g.side then s.guardDone g
          else (s.setGuard { g with step := 3 }).guardWrite g (parityPort g.stripe) 3 g.accC g.accS
      | [b] =>
        let s := s.guardDone g
        let (id, s) := s.fresh
        let p := b % 16
        let (lb, _) := stripeLine g.stripe p
        if p = parityPort g.stripe then s.guardBegin { id := id, kind := .parityFix, port := p, stripe := g.stripe }
        else s.guardBegin { id := id, kind := .rebuild, port := p, stripe := g.stripe, key := (s.ownAt (lineGran lb)).key,
                            cause := b / 16 }
      | bs => (bs.filter (· % 16 != parityPort g.stripe)).foldl (fun s b =>
          let (lb, kb) := stripeLine g.stripe (b % 16)
          (s.memRaise lb kb (b / 16) 2).memPoison lb (2 ^ kb)) (s.guardDone g)
  | _, _ =>
    let (c, hi) := raw.getD (0, 0)
    let g := { g with waitFor := g.waitFor.filter (· != step - 16), accC := g.accC ^^^ c, accS := g.accS ^^^ hi,
                      failed := g.failed || raw.isNone }
    let s := s.setGuard g
    if !g.waitFor.isEmpty then s
    else match g.kind with
      | .rebuild => (s.setGuard { g with step := 2 }).guardRead g (parityPort g.stripe) 2
      | .parityFix => if g.failed then s.guardDone g else
          (s.setGuard { g with step := 3 }).guardWrite g (parityPort g.stripe) 3 g.accC g.accS
      | _ => if g.failed then s.guardData g else
          (s.setGuard { g with step := 3 }).guardWrite g (parityPort g.stripe) 3 (g.accC ^^^ g.cipher) (g.accS ^^^ g.side)

/-- A write of a guarded operation has been acknowledged. -/
def State.guardAck (s : State) (g : GuardOp) (step : Nat) : State :=
  if step = 4 then s.guardDone g
  else if g.kind = .full then (s.fullPart g.stripe (parityPort g.stripe)).grantLocks (parityPort g.stripe)
  else if g.kind = .parityFix || g.kind = .check then
    let (line, k) := stripeLine g.stripe (parityPort g.stripe)
    let s := { s with mpt := { s.mpt with suspects := s.mpt.suspects.filter (· != g.stripe) } }
    (s.memRaise line k 0x04 1).guardDone g
  else s.guardData g

/-! ### Returns -/

/-- Judge one returned sector of a read and pass it on (07 R224, R225, R233). -/
def State.sectorBack (s : State) (r : MemReq) (k : Nat) (bad : Bool) (c : Sector) (sb : BitVec 64) : State :=
  let g := lineGran r.line
  let p := granPort g
  if !s.keyHeldBack r.key then s.gather r.purpose k 0 true
  else match s.judge r.key (sectorIx r.line k) bad c sb with
    | .good d fixed c hi =>
      let s := (s.noteFixed r.line k fixed).gather r.purpose k d false
      match r.purpose with
      | .scrub _ line =>
        let held := match (s.homeName line).bind s.physOf with
          | some h => ((s.home h).way? line).isSome || (s.home h).wbuf.any (fun w => w.line == line)
          | none => true
        if fixed && !held then
          s.memAsk p { write := true, line := line, mask := 2 ^ k, key := r.key, internal := true, purpose := .rewrite,
                       cipher := setSector 0 k c, sb := BitVec.ofNat 128 ((sideband c hi).toNat <<< (64 * k)) }
        else s
      | _ => s
    | .poisoned fixed _ _ => ((s.noteFixed r.line k fixed).memRaise r.line k 0x03 1).gather r.purpose k 0 true
    | .failed kind _ _ =>
      let s := s.memCount p kind
      if s.guarded g && s.mpt.lostMask == 0 then
        let (id, s) := s.fresh
        s.guardBegin { id := id, kind := .rebuild, port := p, stripe := stripeOf r.line k, key := r.key, slice := r.slice,
                       tc := r.tc, cause := kind, reader := r.purpose }
      else ((s.memRaise r.line k kind 2).gather r.purpose k 0 true).memPoison r.line (2 ^ k)

/-- A read has been answered with its sectors. -/
def State.readBack (s : State) (r : MemReq) (x : MpReturn) : State :=
  let sec := fun k => (Nat.testBit x.bad.toNat k, lineSector x.data k, BitVec.ofNat 64 (x.sb.toNat >>> (64 * k)))
  match r.purpose with
  | .guard id step => match s.guardOps.find? (·.id == id) with
    | some g =>
      let k := (bitList r.mask 2).headD 0
      let (b, c, sb) := sec k
      let raw := rawSector b c sb
      let kind := if b then 2 else 1
      let s := if raw.isNone then s.memCount (granPort (lineGran r.line)) kind else s
      (s.noteFixed r.line k (rawFixed b c sb)).guardGot g step raw kind
    | none => s
  | _ =>
    let s := (bitList r.mask 2).foldl (fun s k => let (b, c, sb) := sec k; s.sectorBack r k b c sb) s
    s.gathered r.purpose

/-- A write has been acknowledged. -/
def State.ackBack (s : State) (r : MemReq) : State :=
  match r.purpose with
  | .guard id step => match s.guardOps.find? (·.id == id) with
    | some g => s.guardAck g step
    | none => s
  | pur => s.written pur

/-- A waiting request whose key may no longer be named is not sent; it completes with POISON (07 R234, 12 R371). -/
def State.refuseReq (s : State) (p : Nat) (r : MemReq) : State :=
  let s := s.raiseRetired p r.key
  (match r.purpose with
    | .guard _ _ => s
    | .fill _ | .atomRead _ | .own _ _ => ((bitList r.mask 2).foldl (fun (s : State) k => s.gather r.purpose k 0 true) s).gathered r.purpose
    | .atomWrite id => match s.txn? id with
      | some t => s.finish t .poison 0 [] 0
      | none => s
    | pur => s.written pur).settle

/-- Whether a waiting request's key lets it be sent; the accesses to stored bits name none. -/
def State.reqPasses (s : State) (r : MemReq) : Bool :=
  match r.purpose with
  | .guard _ _ | .rewrite => true
  | _ => s.keyPasses r.key r.line

/-- Issue the next waiting request of a port (06 R189, R207); the fclk that follows a grant above 8 is over (02 R61). -/
def State.issueNext (s : State) (p : Nat) : State :=
  if !s.mpReady p then s
  else
    let past := fun (s : State) => s.setMp p { s.mp p with grantBad := false }
    match s.nextWaiting p, s.freeTag p with
    | some i, some t => match (s.mp p).waiting[i]? with
      | some r =>
        let drop := past (s.setMp p { s.mp p with waiting := (s.mp p).waiting.eraseIdx i })
        if !s.reqPasses r then drop.refuseReq p r else drop.memPut p t r
      | none => past s
    | _, _ => past s

/-- Find and free the tag of an answer (02 R62): the request, if it is outstanding. -/
def State.takeTag (s : State) (p tag : Nat) (write : Bool) : State × Option MemReq :=
  let m := s.mp p
  match m.tags.find? fun r => r.tag == tag && r.write == write with
  | some r => (s.setMp p { m with tags := m.tags.filter fun x => x.tag != tag, grantBad := false }, some r)
  | none => (s, none)

/-! ### The loss of a stack (07 R241, R242, 13 R410) -/

/-- Whether a granule that is used lies unguarded on a port. -/
def State.unguardedOn (s : State) (p : Nat) : List Nat :=
  ((s.own.filter fun e => granPort e.1 == p && e.2.gstate != 0 && !e.2.guarded).map fun e => e.2.slice).eraseDups
/-- The stripe groups and owners of guarded data granules on a port. -/
def State.guardedOn (s : State) (p : Nat) : List (Nat × Nat) :=
  ((s.own.filter fun e => granPort e.1 == p && e.1 % 16 != e.1 / 16 % 16 && e.2.gstate != 0 && e.2.guarded).map fun e =>
    (e.1 / 16, e.2.slice)).eraseDups

/-- What a guarded operation does when a stack goes (07 R241, R242); `p` is in the mask of lost stacks already. -/
def State.guardOnLoss (s : State) (p : Nat) (g : GuardOp) : State :=
  let q := parityPort g.stripe
  match g.kind with
  | .full => if p = q then (s.fullPart g.stripe q).grantLocks q else s
  | .delta | .reconstruct =>
    if g.step = 4 then (if p = g.port then s.guardDone g else s)
    else if s.stackLost q then s.guardAlone g
    else if !g.locked then (if s.stackLost g.port && popCount s.mpt.lostMask.toNat 16 ≥ 2 then s.guardDone g else s)
    else if p = g.port then (if g.kind = .delta then s.reconstructOr g else s)
    else if g.waitFor.contains p then s.guardGot g (otherStep p) none
    else s
  | .rebuild =>
    if p = g.port then s
    else if !g.locked || p = q then
      let (g, s) := s.rekeyGuard g
      s.rebuiltJudge { g with failed := true } 0 0
    else if g.waitFor.contains p then s.guardGot g (otherStep p) none
    else s
  | _ => s.guardDone g

/-- Resolve one request that was on a lost stack (13 R410 step 2, 02 R85). -/
def State.resolveLost (s : State) (p : Nat) (r : MemReq) : State :=
  match r.purpose with
  | .guard _ _ => s
  | .fill _ | .atomRead _ | .own _ _ =>
    let again := s.guarded (lineGran r.line) && popCount s.mpt.lostMask.toNat 16 = 1
    if again then
      (bitList r.mask 2).foldl (fun s k =>
        let (id, s) := s.fresh
        s.guardBegin { id := id, kind := .rebuild, port := p, stripe := stripeOf r.line k, key := r.key,
                       slice := r.slice, tc := r.tc, reader := r.purpose }) s
    else ((bitList r.mask 2).foldl (fun s k => s.gather r.purpose k 0 true) s).gathered r.purpose
  | .atomWrite id => match s.txn? id with
    | some t => s.finish t .timeout 0 [] 0
    | none => s
  | pur => s.written pur

/-- Declare a stack lost and resolve what was outstanding on it (13 R410 steps 1 and 2, 07 R241). -/
def State.loseStack (s : State) (p : Nat) (say : Bool := true) : State :=
  if s.stackLost p then s
  else
    let s := s.isolateOnly (mpPort p) (if (s.port (mpPort p)).state = 2 then (s.port (mpPort p)).cause else 0x07)
    let m := s.mp p
    let susp := (m.locks.map (·.1)).filter fun x => !s.mpt.suspects.contains x
    let s := { s with mpt := { s.mpt with lostMask := s.mpt.lostMask ||| BitVec.ofNat 16 (1 <<< p),
                                          suspects := s.mpt.suspects ++ susp } }
    let s := if say then s.raise (mptUnit p) 0x07 2 3 (mptUnit p) 0 0 else s
    let s := if s.own.any fun e => e.2.guarded then s.raise (mptUnit p) 0x05 1 3 (mptUnit p) 0 0 else s
    let s := if popCount s.mpt.lostMask.toNat 16 ≥ 2 then
        (((bitList s.mpt.lostMask.toNat 16).flatMap s.guardedOn).eraseDups).foldl
          (fun s g => s.raise (mptUnit p) 0x06 2 8 (16 * g.1) g.2 0) s
      else s
    let s := (s.unguardedOn p).foldl (fun s sl => s.raise (mptUnit p) 0x08 2 3 (mptUnit p) sl 0) s
    let reqs := m.tags ++ m.waiting
    let s := s.setMp p { s.mp p with tags := [], waiting := [] }
    let s := (s.guardOps.map (·.id)).foldl (fun s id => match s.guardOps.find? (·.id == id) with
      | some g => s.guardOnLoss p g
      | none => s) s
    (reqs.foldl (fun s r => s.resolveLost p r) s).settle

/-! ### The commands -/

/-- MEMORY_REQUEST_ISSUE (02 R60, 06 R189): the port takes its next waiting request. -/
def execMemoryRequestIssue (p : BitVec 4) (s : State) : Host.Outcome State Fault Refusal :=
  .next (s.issueNext p.toNat)

/-- Sample the queue level and the round trip that come with a return (06 R200, R209). -/
def State.sampleReturn (s : State) (p q rtt : Nat) (read : Bool) : State :=
  let m := s.mp p
  s.setMp p { m with qlevel := q, qMax := max m.qMax q, qMin := min m.qMin q,
                     rttSum := if read then m.rttSum + rtt else m.rttSum,
                     rttCount := if read then m.rttCount + 1 else m.rttCount }

/-- A read return (02 R60 to R62, R83, 07 R224): beyond the grant or with bad parity it is discarded; else its
sectors are judged and passed on. -/
def State.memReturn (s : State) (p : Nat) (r : MpReturn) : State :=
  let i := mpPort p
  if !s.portUp i then s
  else if !r.cparOk then s.portEvent i 0x63
  else if !r.inGrant then s.portEvent i 0x66
  else match s.takeTag p r.tag.toNat false with
    | (s, some q) => ((s.sampleReturn p r.qlevel.toNat r.rttNs.toNat true).readBack q r).seqPump
    | (s, none) => s

/-- A write acknowledgement (02 R61, R62): beyond the grant or with bad parity it is discarded. -/
def State.memAckd (s : State) (p tag : Nat) (cparOk inGrant : Bool) : State :=
  let i := mpPort p
  if !s.portUp i then s
  else if !cparOk then s.portEvent i 0x63
  else if !inGrant then s.portEvent i 0x66
  else match s.takeTag p tag true with
    | (s, some q) => s.ackBack q
    | (s, none) => s

/-- MEMORY_READ_RETURN (02 R60 to R62, R83, 07 R224). -/
def execMemoryReadReturn (p : BitVec 4) (r : MpReturn) (s : State) : Host.Outcome State Fault Refusal :=
  .next (s.orLand (.memoryReadReturn p r) fun s => s.memReturn p.toNat r)

/-- MEMORY_WRITE_ACK (02 R61, R62). -/
def execMemoryWriteAck (p : BitVec 4) (tag : BitVec 8) (cparOk inGrant : Bool) (s : State) : Host.Outcome State Fault Refusal :=
  .next (s.orLand (.memoryWriteAck p tag cparOk inGrant) fun s => s.memAckd p.toNat tag.toNat cparOk inGrant)

/-- STRIPE_LOCK_GRANT (07 R238): the oldest waiter whose stripe is free takes an entry. -/
def execStripeLockGrant (p : BitVec 4) (s : State) : Host.Outcome State Fault Refusal :=
  .next (s.unlessStopped fun s => s.grantLocks p.toNat)

/-- PARITY_REWRITE (07 R243): rewrite the parity of a suspect stripe from its data sectors. -/
def execParityRewrite (group : BitVec 16) (offset : BitVec 15) (s : State) : Host.Outcome State Fault Refusal :=
  let st := group.toNat * 32768 + offset.toNat
  .next (
    if !s.stopped && s.mpt.suspects.contains st && s.mpt.lostMask == 0 && !(s.guardOps.any fun g => g.stripe == st && g.kind == .parityFix) then
      let (id, s) := s.fresh
      s.guardBegin { id := id, kind := .parityFix, port := parityPort st, stripe := st }
    else s)

/-- Note on a memory port that mp_trained or mp_healthy was not 1 throughout the tick (02 R88). -/
def State.mpGap (s : State) (p : Nat) : State := s.setPort (mpPort p) { s.port (mpPort p) with gap := true }

/-- mp_trained falls (02 R63): new requests are held. -/
def State.trainedFall (s : State) (p : Nat) : State :=
  let m := s.mp p
  (s.mpGap p).setMp p { m with trained := false, trainedFell := if m.trained then some s.blk.tick else m.trainedFell }

/-- MP_TRAINED_FALL (02 R63). -/
def execMpTrainedFall (p : BitVec 4) (s : State) : Host.Outcome State Fault Refusal := .next (s.trainedFall p.toNat)

/-- mp_trained rises, with mp_healthy high (02 R63; log entry 22). -/
def execMpTrainedRise (p : BitVec 4) (s : State) : Host.Outcome State Fault Refusal :=
  .next (s.setMp p.toNat { s.mp p.toNat with trained := true, healthy := true, trainedFell := none })

/-- MP_TRAINED_LOST (02 R63, R82): mp_trained has been low for more than 4 ticks while mp_healthy stays high. -/
def execMpTrainedLost (p : BitVec 4) (s : State) : Host.Outcome State Fault Refusal :=
  let m := s.mp p.toNat
  .next (match m.trainedFell with
    | some t => if m.healthy && s.blk.tick > t + 4 then s.isolate (mpPort p.toNat) 0x67 else s
    | none => s)

/-- MP_HEALTHY_LOST (02 R63, R82). -/
def execMpHealthyLost (p : BitVec 4) (s : State) : Host.Outcome State Fault Refusal :=
  let s := (s.mpGap p.toNat).setMp p.toNat { s.mp p.toNat with healthy := false }
  .next (s.isolate (mpPort p.toNat) 0x68)

/-- The controller drives mp_wr_grant (02 R61): 0 to 8 is the number of write lanes of the next fclk; 9 to 15 is recorded as kind
0x66, and the next fclk has no write lane. -/
def State.driveGrant (s : State) (p g : Nat) : State :=
  if !s.portUp (mpPort p) then s
  else if g ≤ 8 then s.setMp p { s.mp p with grant := g, grantBad := false }
  else (s.setMp p { s.mp p with grantBad := true }).portEvent (mpPort p) 0x66

/-- GRANT_ABOVE_8 (02 R61, R82): a grant of 0 to 8 is taken as driven (log entry 171). -/
def execGrantAbove8 (p grant : BitVec 4) (s : State) : Host.Outcome State Fault Refusal :=
  .next (s.driveGrant p.toNat grant.toNat)

end Sys2Proof.Machine
end

