-- ==== Sys2Proof/Machine/Snoops.lean ====
section
/-! DEFINITION. Snoop answers and their races (05 R160, R161, R172), the home timeout (05 R173, R174), flushes by FLUSH_HOME
(02 R58, 05 R176), errors of the arrays (05 R156) and the retry queue's reservations (05 R168). -/

namespace Sys2Proof.Machine

/-! ### Judging an answer -/

/-- Whether an answer is expected from an agent: `st` is the listed state where the agent is the owner, 1 for a sharer
(05 R161). The combined answer of a chip may be ACK_S to SNP_FWD_SHARED (log entry 23). -/
def answerOk (st ty resp : Nat) (chip : Bool) : Bool :=
  resp == 0 || resp == 9 ||
  (match ty with
    | 0 => (st == 2 && resp == 4) || (st ≥ 3 && (resp == 4 || resp == 6)) || (chip && resp == 2)
    | 1 => (st == 2 && resp == 3) || (st ≥ 3 && (resp == 3 || resp == 5))
    | 2 => st ≥ 2 && resp == 8
    | 3 => resp == 1
    | _ => resp == 1 || (st ≥ 3 && resp == 7))

/-- Whether an answer carries data (05 R160). -/
def answerData (resp : Nat) : Bool := 3 ≤ resp && resp ≤ 8
/-- Whether an answer carries dirty data that the home takes. -/
def answerDirty (resp : Nat) : Bool := resp == 5 || resp == 6 || resp == 7

/-- Drop a snoop from a transaction. -/
def Txn.closeSnoop (t : Txn) (n : Snoop) : Txn := { t with snoops := t.snoops.filter (· != n) }

/-- Remove an agent from a filter entry: as owner, as chip, or as a sharer, whose bit stands for the 4 ports of its group and stays
while another of them may hold the line (`others`). -/
def FiltEntry.dropAgent (e : FiltEntry) (a : Bool × Nat) (others : Bool) : FiltEntry :=
  if a.1 then e.dropChip a.2
  else if e.ownerAgent == some a then e.dropOwner
  else if others then e
  else
    let e := { e with sharers := e.sharers &&& ~~~(BitVec.ofNat 64 (1 <<< (a.2 / 4))) }
    if e.st = 1 && e.sharers = 0 && e.remotes = 0 then { e with st := 0 } else e
/-- Whether another port of a port's group of 4 has a tile. -/
def State.groupOthers (s : State) (p : Nat) : Bool :=
  ((List.range 4).map (· + p / 4 * 4)).any fun q => q != p && ((s.port q).state == 1 || (s.port q).state == 2)

/-- Poison the line of a transaction: the agent leaves the filter, the request will complete with POISON (05 R174). -/
def State.poisonTxn (s : State) (t : Txn) (n : Snoop) (kind : Option Nat) : State :=
  let e := s.filt t.home t.line
  let kept := match t.origin with | .tile p _ => decide (p / 4 = n.port / 4) | _ => false
  let waits := t.snoops.any fun x => x != n && !x.chip && x.port / 4 == n.port / 4
  let s := s.setFilt t.home t.line (e.dropAgent (n.chip, n.port) (kept || waits))
  let s := match kind with
    | some k => s.poisonLine t.home t.line k
    | none => s.poisonQuiet t.home t.line
  let s := match s.txn? t.id with
    | some t => s.setTxn { t.closeSnoop n with poison := 3 }
    | none => s
  s.settle

/-- Take the answer to a snoop of a transaction (05 R161, R162, R172). -/
def State.takeAnswer (s : State) (t : Txn) (n : Snoop) (resp : Nat) (data : Line) : State :=
  let e := s.filt t.home t.line
  let a := (n.chip, n.port)
  let owner := e.ownerAgent == some a
  let st := if owner then e.st else 1
  if !answerOk st n.ty resp n.chip then
    let s := s.poisonTxn t n (some 0x43)
    if n.chip then s else s.portEvent n.port 0x66 (resp ≥ 10)
  else if resp = 9 then s.poisonTxn t n (some 0x45)
  else if resp = 0 && owner && e.st ≥ 3 then
    (s.setTxn { t with snoops := t.snoops.map fun x => if x == n then { x with missed := true } else x }).settle
  else
    let s := if resp = 0 && owner then s.setFilt t.home t.line e.dropOwner
      else if resp = 2 then s.setFilt t.home t.line (e.settleS.addChip n.port)
      else s
    let t := t.closeSnoop n
    let t := if answerData resp then { t with got := some data, gotDirty := answerDirty resp } else t
    let t := { t with fwd := t.fwd || answerData resp }
    (s.setTxn t).settle

/-! ### Remote snoops served by a proxy (05 R177) -/

/-- Replace a proxy's snoop. -/
def State.setProxy (s : State) (x : ProxySnoop) : State :=
  { s with proxies := s.proxies.map fun y => if y.id == x.id then x else y }

/-- The combined response code of a chip (05 R160, R177). -/
def proxyResp (x : ProxySnoop) (copies : Bool) : Nat :=
  if x.bad then 9
  else match x.ty, x.data with
    | 0, some _ => if x.dirty then 6 else 4
    | 0, none => if copies then 2 else 0
    | 1, some _ => if x.dirty then 5 else 3
    | 1, none => 0
    | 2, some _ => 8
    | 2, none => 0
    | 3, _ => 1
    | _, some _ => if x.dirty then 7 else 1
    | _, none => 1

/-- Answer a remote snoop whose tiles have all answered: SNOOP_RESP to the remote home, the local filter follows. -/
def State.proxyDone (s : State) (x : ProxySnoop) : State :=
  let e := s.filt x.home x.line
  let e' := match x.ty with
    | 0 => (match e.ownerAgent with
      | some (false, p) => ({ e with st := 1, owner := 0 }.addTile p)
      | _ => e)
    | 2 => e
    | _ => {}
  let s := s.setFilt x.home x.line e'
  let r := proxyResp x (e'.st != 0)
  let s := { s with proxies := s.proxies.filter (·.id != x.id) }
  s.sendOr (s.returnSa x.sa) 0 (lineMsg 0x09 0 x.xid (x.line * 128) .ok 0 (if answerData r then x.data else none) r)
    (.internal 0 0)

/-- Take a tile's answer for a proxy's snoop. A MISS from the owner in E or D waits for its eviction (05 R172). -/
def State.proxyAnswer (s : State) (x : ProxySnoop) (n : Snoop) (resp : Nat) (data : Line) (bad : Bool) : State :=
  let e := s.filt x.home x.line
  let owner := e.ownerAgent == some (false, n.port)
  let st := if owner then e.st else 1
  let ok := answerOk st n.ty resp false
  let s := if ok then s else
    let s := s.raise (hslUnit x.home) 0x43 2 1 (x.line * 128) x.slice 0
    if bad then s else s.portEvent n.port 0x66 (resp ≥ 10)
  let s := if resp = 9 then s.raise (hslUnit x.home) 0x45 2 1 (x.line * 128) x.slice 0 else s
  if ok && resp = 0 && owner && e.st ≥ 3 && !bad then
    s.setProxy { x with snoops := x.snoops.map fun y => if y == n then { y with missed := true } else y }
  else
  let s := if ok && resp = 0 && owner then s.setFilt x.home x.line e.dropOwner else s
  let x := { x with snoops := x.snoops.filter (· != n), bad := x.bad || bad || !ok || resp == 9 }
  let x := if ok && !bad && answerData resp then { x with data := some data, dirty := answerDirty resp } else x
  let s := s.setProxy x
  if x.snoops.isEmpty then s.proxyDone x else s

/-! ### Answers and timeouts -/

/-- The home slice that reports an answer to a snoop that is not outstanding: the one that last used the identifier at the port; of
an identifier that none has used, the first of the port's die (05 R175, log entry 172). -/
def State.snoopHome (s : State) (port id : Nat) : Nat := tget (port / 32 * 16) (s.tile port).snoopHomes id

/-- Take an answer on SRSP (02 R54, R83, R84, 05 R160, R172). -/
def State.srsp (s : State) (port : Nat) (r : SnpResp) : State :=
  let id := r.id.toNat
  let resp := r.resp.toNat
  let has := answerData resp
  if !s.portUp port then s
  else if !srspCparOk r false || (has && !srspCparOk r true) then s.portEvent port 0x63
  else
    let badData := has && !srspDparOk r
    let s := if badData then s.portEvent port 0x64 else s
    let mine := fun (n : Snoop) => !n.chip && n.port == port && n.id == id
    match s.txns.find? fun t => t.snoops.any fun n => mine n && !n.missed with
    | some t => match t.snoops.find? fun n => mine n && !n.missed with
      | some n => (if badData then s.poisonTxn t n none else s.takeAnswer t n resp r.data).seqPump
      | none => s
    | none => match s.proxies.find? fun x => x.snoops.any fun n => mine n && !n.missed with
      | some x => match x.snoops.find? fun n => mine n && !n.missed with
        | some n => s.proxyAnswer x n resp r.data badData
        | none => s
      | none =>
        if s.blk.tick < (s.port port).holdEnd then s
        else
          let s := s.raise (hslUnit (s.snoopHome port id)) 0x42 1 2 port (s.tileSlice port) 0
          if badData then s else s.portEvent port 0x66 (resp ≥ 10)

/-- A tile has not answered a proxy's snoop: kinds 0x40 and 0x65, and it leaves the filter (05 R174, R175, R177). -/
def State.proxySilent (s : State) (x : ProxySnoop) (n : Snoop) : State :=
  let s := s.setFilt x.home x.line ((s.filt x.home x.line).dropAgent (false, n.port) (s.groupOthers n.port))
  (s.raise (hslUnit x.home) 0x40 2 1 (x.line * 128) x.slice 0).portEvent n.port 0x65

/-- A snoop of a tile port has met the home timeout (05 R173 to R175). -/
def State.snoopLate (s : State) (port id : Nat) : State :=
  let mine := fun (n : Snoop) => !n.chip && n.port == port && n.id == id
    && decide (n.since + s.homeTimeout.localTicks ≤ s.blk.tick)
  match s.txns.find? fun t => t.snoops.any mine with
  | some t => match t.snoops.find? mine with
    | some n => (s.poisonTxn t n (some 0x40)).portEvent port 0x65
    | none => s
  | none => match s.proxies.find? fun x => x.snoops.any mine with
    | some x => match x.snoops.find? mine with
      | some n =>
        let s := s.proxySilent x n
        let x := { x with snoops := x.snoops.filter (· != n), bad := true }
        let s := s.setProxy x
        if x.snoops.isEmpty then s.proxyDone x else s
      | none => s
    | none => s

/-! ### Flushes (02 R58, 05 R176, 10 R325) -/

/-- The other members of the herd. -/
def State.herdChips (s : State) : List Nat := (bitList s.blockRec.herdMembers 8).filter (· != s.chip)

/-- Start a flush of a name: FLUSH_HOME to every tile port, FLUSH to every chip of the herd. -/
def State.flushStart (s : State) (name h : Nat) (set : Option Nat) (standIn : Bool) : State :=
  let ps := (List.range 256).filter fun p => (s.port p).state == 1 || (s.port p).state == 2
  let cs := s.herdChips
  let f : Flush := { name := name, home := h, start := s.blk.tick, ports := ps, chips := cs, set := set,
                     standIn := standIn }
  let s := { s with flushes := s.flushes ++ [f] }
  let s := ps.foldl (fun s p =>
    if s.portUp p then
      let id := s.nextSnoopId p
      (s.setTile p { s.tile p with snoopId := (id + 1) % 1024 }).emit (.tileSnp p 0xF id name)
    else s) s
  cs.foldl (fun s c => s.sendOr (s.herdSa c) 0 (lineMsg 0x0C 0 0 0 .ok 0 none (name / 16)) (.internal 0 0)) s

/-- Replace a flush of a name. -/
def State.setFlush (s : State) (f : Flush) : State :=
  { s with flushes := s.flushes.map fun x => if x.name == f.name && x.set == f.set then f else x }

/-- Whether a filter line is one a flush covers. -/
def Flush.covers (f : Flush) (line : Nat) : Bool := match f.set with | some x => fsetOf line == x | none => true

/-- When every port and chip has answered, a filter set is cleared and its requests go on (05 R176); the flush of a
stand-in waits for the recovery's next step. -/
def State.flushEnd (s : State) (f : Flush) : State :=
  if !f.ports.isEmpty || !f.chips.isEmpty then s
  else match f.set with
    | some set =>
      let x := s.home f.home
      let s := s.setHome f.home { x with filter := x.filter.filter fun e => fsetOf e.1 != set,
                                         heldSets := x.heldSets.filter (· != set) }
      { s with flushes := s.flushes.filter (· != f) }.settle
    | none => s

/-- A port's FLUSH_DONE has come for a name. -/
def State.flushPort (s : State) (name port : Nat) : State :=
  (s.flushes.filter fun f => f.name == name).foldl (fun s f =>
    let f := { f with ports := f.ports.filter (· != port) }
    (s.setFlush f).flushEnd f) s

/-- Remove an agent from the entries a flush covers; poison those it held in E or D (05 R176, 10 R325). -/
def State.flushDrop (s : State) (f : Flush) (a : Bool × Nat) (kind : Nat) : State :=
  ((s.home f.home).filter.filter fun e => f.covers e.1 && lineChip e.1 == s.chip).foldl (fun s e =>
    let held := e.2.ownerAgent == some a && e.2.st ≥ 3
    let s := s.setFilt f.home e.1 (e.2.dropAgent a (!a.1 && s.groupOthers a.2))
    if held then s.poisonLine f.home e.1 kind else s) s

/-- A port has not answered FLUSH_HOME within 4 ticks (05 R176). -/
def State.flushLate (s : State) (name port : Nat) : State :=
  match s.flushes.find? fun f => f.name == name && f.ports.contains port && decide (f.start + 4 ≤ s.blk.tick) with
  | some f => ((s.flushDrop f (false, port) 0x40).flushPort name port).portEvent port 0x65
  | none => s

/-! ### Errors of the arrays (05 R156, R176, 13 R417) -/

/-- Place a repair candidate (13 R417). -/
def State.addRepair (s : State) (u op array element spare : Nat) : State :=
  let e : Reg := rput u 0 12 ||| rput op 12 4 ||| rput array 16 8 ||| rput element 24 20 ||| rput spare 44 8
  if s.flt.repairs.contains e then s
  else if s.flt.repairs.length ≥ 64 then { s with flt := { s.flt with repairOverflow := true } }
  else { s with flt := { s.flt with repairs := s.flt.repairs ++ [e] } }

/-- A snoop-filter entry is uncorrectable (05 R176). -/
def State.filterLost (s : State) (h set : Nat) : State :=
  let x := s.home h
  if x.heldSets.contains set || !(x.role == 0 || x.role == 2) then s
  else
    let s := s.setHome h { x with heldSets := x.heldSets ++ [set] }
    let s := s.raise (hslUnit h) 0x46 1 3 (hslUnit h) 0 0
    s.flushStart (s.nameOfHome h) h (some set) false

/-- An array error recurred within 1024 ticks at a way: it is disabled until cold start, a repair candidate. -/
def State.wayErr (s : State) (h k : Nat) : State :=
  let x := s.home h
  let again := x.tagErrs.any fun e => e.1 == k && decide (s.blk.tick ≤ e.2 + 1024)
  let errs := (x.tagErrs.filter fun e => e.1 != k) ++ [(k, s.blk.tick)]
  let s := s.setHome h { x with tagErrs := errs }
  if again && !x.disabled.contains k then
    let s := s.evictWay h k
    let x := s.home h
    (s.setHome h { x with disabled := x.disabled ++ [k] }).addRepair (hslUnit h) 2 0 (k / 16) (k % 16)
  else s

/-- An uncorrectable error in a data or tag entry (05 R156); where a shadow stands there, its window closes (08 R271). -/
def State.arrayError (s : State) (h k : Nat) (tag mirrorBad : Bool) : State :=
  let x := s.home h
  let found := fun (s : State) (sl : Nat) => s.raise (hslUnit h) 0x47 1 3 (hslUnit h) sl 0
  let s := match mget? x.lines k with
    | none => match s.shadowAt h k with
      | some w => s.closeWindow w 8
      | none => if tag then found s 0 else s
    | some l =>
      let copy := (s.buddy h).bind fun b => mget? (s.home b).mirror l.line
      if l.dirty then
        match copy with
        | some c => if mirrorBad then s.poisonLine h l.line 0x48
            else found (s.setHome h { x with lines := mput x.lines k { l with data := c.data, poison := c.poison } }) l.slice
        | none => if tag then found (s.setHome h { x with lines := mdel x.lines k }) l.slice
            else s.poisonLine h l.line 0x48
      else
        let s := found (s.setHome h { x with lines := mdel x.lines k }) l.slice
        if tag then s
        else (s.enter { id := 0, home := h, line := l.line, op := .read, origin := .internal 2 0, slice := l.slice,
                        key := l.key, internal := true, alloc := true, be := BitVec.allOnes 128,
                        start := s.blk.tick }).settle
  s.wayErr h k

/-- A reservation that was not claimed within 1 tick is passed on (05 R168). -/
def State.reservationExpire (s : State) (h origin : Nat) : State :=
  let x := s.home h
  match x.retryQ.find? fun r => r.origin == origin && (match r.reserved with
      | some t => decide (t + 1 ≤ s.blk.tick) | none => false) with
  | some r =>
    let q := (x.retryQ.filter fun e => e.origin != origin) ++ [{ r with reserved := none }]
    (s.setHome h { x with retryQ := q }).reserve h
  | none => s

/-! ### The commands -/

/-- SNOOP_RESPONSE (05 R160, R161). -/
def execSnoopResponse (port : BitVec 8) (r : SnpResp) (s : State) : Host.Outcome State Fault Refusal :=
  .next (s.orLand (.snoopResponse port r) fun s => s.srsp port.toNat r)

/-- SNOOP_TIMEOUT (05 R173, R174). -/
def execSnoopTimeout (port : BitVec 8) (id : BitVec 10) (s : State) : Host.Outcome State Fault Refusal :=
  .next (s.snoopLate port.toNat id.toNat)

/-- FLUSH_DONE_TIMEOUT (05 R176). -/
def execFlushDoneTimeout (name port : BitVec 8) (s : State) : Host.Outcome State Fault Refusal :=
  .next (s.flushLate name.toNat port.toNat)

/-- SF_UNCORRECTABLE (05 R176). -/
def execSfUncorrectable (home : BitVec 8) (fset : BitVec 13) (s : State) : Host.Outcome State Fault Refusal :=
  .next (s.filterLost home.toNat fset.toNat)

/-- DATA_ARRAY_ERROR (05 R156). -/
def execDataArrayError (home : BitVec 8) (set : BitVec 11) (way : BitVec 4) (tagError mirrorBad : Bool) (s : State) :
    Host.Outcome State Fault Refusal :=
  .next (s.arrayError home.toNat (set.toNat * 16 + way.toNat) tagError mirrorBad)

/-- RESERVATION_EXPIRY (05 R168). -/
def execReservationExpiry (home : BitVec 8) (origin : BitVec 9) (s : State) : Host.Outcome State Fault Refusal :=
  .next (s.reservationExpire home.toNat origin.toNat)

end Sys2Proof.Machine
end

