-- ==== Sys2Proof/Machine/Tiles.lean ====
section
/-! DEFINITION. The REQ channel of a tile port (02 R54 to R59, R83, R89), the holds of its gates (06 R197 to R199), and the
requests that go to a home: reads, write-through, atomics, evictions, FLUSH_DONE. -/

namespace Sys2Proof.Machine

/-! ### Who asks -/

/-- The context bound to a tile port, with its function and slice; `none` without a binding (02 R57). -/
structure Bound where
  slot : Nat
  ctx : Nat
  fn : Nat
  slice : Nat
  lost : Bool
  deriving DecidableEq, Repr

/-- The binding of a port. A binding of a slot without a context counts as lost. -/
def State.bound (s : State) (port : Nat) : Option Bound :=
  (s.portBinding port).map fun (c, b) =>
    match (s.slot c).ctx with
    | some x => { slot := c, ctx := x, fn := (s.ctx x).fn, slice := (s.ctx x).slice, lost := b.lost || s.ctxLost x }
    | none => { slot := c, ctx := 0, fn := 0, slice := 0, lost := true }

/-- Answer a transfer under its tag without touching what is outstanding. -/
def State.tileSay (s : State) (port tag : Nat) (st : Status) : State :=
  if s.portUp port then s.emit (.tileRsp port tag st 0 0) else s

/-! ### The front of REQ (02 R55 to R57, R83, 11 R342, 06 R204, 13 R419) -/

/-- Whether an opcode is exempt from bindings and holds: EVICT_DIRTY, EVICT_CLEAN, FLUSH_DONE (02 R57, 06 R204). -/
def tileExempt (op : Nat) : Bool := op == 0x08 || op == 0x09 || op == 0x23

/-- A first beat that another transfer follows is answered DENIED and its data discarded (02 R55). -/
def State.brokenBeat (s : State) (port : Nat) : State :=
  match (s.tile port).beat with
  | none => s
  | some b => (s.setTile port { s.tile port with beat := none }).tileRsp port b.tag .denied 0 0

/-- The fault of a transfer on REQ, one for all the conditions it meets, with the lowest kind (02 R82 to R84): data parity, else a
breach of the protocol. -/
def State.reqFault (s : State) (port : Nat) (r : TpReq) (proto : Bool) : State :=
  if !tpDparOk r then s.portEvent port 0x64 else if proto then s.portEvent port 0x66 else s

/-- Whether a transfer completes the first beat that is waiting. -/
def State.secondBeat (s : State) (port op : Nat) (r : TpReq) : Bool :=
  op == 0x08 && r.sector && (match (s.tile port).beat with | some b => b.tag == r.tag.toNat | none => false)

/-- A request of a tile port is accepted: its outcome and, of a read, its latency are still to be taken (06 R190, R208). -/
def State.tileOpen (s : State) (port tag tc : Nat) (read : Bool) : State :=
  let sl := s.tileSlice port
  s.reqOpen { port := port, tag := tag, slice := sl, tc := s.servedClass sl tc, since := s.blk.tick, read := read }

/-- Judge a one-beat request: parity, a reserved opcode, the tag, the binding, holds that answer at once. `true` where it goes on,
its tag taken. -/
def State.tileEnter (s : State) (port op : Nat) (r : TpReq) : State × Bool :=
  let tag := r.tag.toNat
  if !s.portUp port then (s, false)
  else if !tpCparOk op r then (s.portEvent port 0x63, false)
  else
    let broken := (s.tile port).beat.isSome
    let s := s.brokenBeat port
    let t := s.tile port
    let wrong := t.tags.contains tag || (tpRsvd r).isSome
    let s := (if wrong then (s.outcome (s.tileSlice port) (s.servedClass (s.tileSlice port) r.tc.toNat) 0).tileSay port tag .denied
      else s).reqFault port r (wrong || broken)
    if wrong || !s.portUp port then (s, false)
    else
      let s := (s.setTile port { s.tile port with tags := (s.tile port).tags ++ [tag] }).tileOpen port tag r.tc.toNat (op ≤ 3)
      let s := s.note (tpUnit port) 0x01 (some (s.tileSlice port)) 1
      if s.fatal then (s.tileRsp port tag (if op = 0x08 || op = 0x09 then .ok else .timeout) 0 0, false)
      else if tileExempt op then (s, true)
      else match s.bound port with
        | none => (s.tileRsp port tag .denied 0 0, false)
        | some b =>
          if b.lost then (s.tileRsp port tag .lost 0 0, false)
          else if s.fullHold then
            let s := s.outcome b.slice (s.servedClass b.slice r.tc.toNat) 3
            (s.tileRetry port tag, false)
          else (s, true)

/-! ### The gates (06 R184, R197 to R199) -/

/-- The queue index of an origin's hold queue is its port; 16 entries for each class on a tile port, 64 on the host port. -/
def holdRoom (port : Nat) : Nat := if port = hostPort then 64 else 16

/-- Hold a request at its port: DEFERRED under its tag, or RETRY where the class's entries are taken (06 R198). -/
def State.holdReq (s : State) (port tag tc sl : Nat) (cmd : Instr) (say : State → Status → Bool → State) : State :=
  if (s.held.filter fun h => h.port == port && h.tc == tc).length < holdRoom port then
    let h : HeldReq := { port := port, tag := tag, tc := tc, cmd := cmd }
    let s := { s with held := s.held ++ [h] }.onReq port tag fun q => { q with held := true }
    let s := s.note (unitOfPort port) 0x07 (some sl) 1
    say s .deferred false
  else say ((s.outcome sl tc 3).retryNote (unitOfPort port) sl .retry) .retry true

/-- The ACTIVE network transmit slot a slice's target for a chip names (10 R320). -/
def State.target (s : State) (sl c : Nat) : Option Nat :=
  let v := tget 0 s.tin.targets (sl * 8 + c)
  let n := field v 1 8
  let a := s.sa n
  if field v 0 1 = 1 && a.tx && a.state == 2 && a.kind == 0 && a.slice == sl then some n else none

/-- Whether an address's chip is a member of the herd. -/
def State.inHerd (s : State) (c : Nat) : Bool := Nat.testBit s.blockRec.herdMembers c

/-- The tines a slice's traffic to another chip may go out on: by the herd SA of a member, else by its target (10 R305, R320). -/
def State.tinesTo (s : State) (sl c : Nat) : List Nat :=
  let n := if s.inHerd c then s.herdSa c else s.target sl c
  match n with
  | some n => (s.pathsFor n sl).map (· % 64)
  | none => []

/-- Whether the gate of an origin is closed for a class and, where one is known, a line: a class hold, the rules of the line's memory
port, or urgency 7 on its home, or on every tine to its chip, where the class is over budget (06 R194, R197, R203). -/
def State.gateShut (s : State) (line : Option Nat) (sl t : Nat) (tine : Option Nat) : Bool :=
  let held := fun i => s.overBudget i sl t tine && s.urgencyHolds i sl t
  (s.blk.parked && t == 3) || match line with
  | none => false
  | some l =>
    if lineChip l = s.chip then
      s.gateClosed (granPort (lineGran l)) sl t tine
        || (match (s.homeName l).bind s.physOf with | some h => held (instHomeRd h) || held (instHomeWr h) | none => false)
    else
      let ts := s.tinesTo sl (lineChip l)
      !ts.isEmpty && ts.all fun x => held (instTine x)

/-- Count a demotion and pass the gate for a request to a line, or hold it. `true` where it goes on. -/
def State.tileGate (s : State) (port : Nat) (r : TpReq) (cmd : Instr) (b : Bound) (line : Option Nat) : State × Bool :=
  let tc := s.servedClass b.slice r.tc.toNat
  let s := if tc = r.tc.toNat then s else s.outcome b.slice r.tc.toNat 9
  if s.gateShut line b.slice tc none then
    (s.holdReq port r.tag.toNat tc b.slice cmd fun s st free =>
      if free then s.tileRsp port r.tag.toNat st 0 0 else s.tileSay port r.tag.toNat st, false)
  else (s, true)

/-! ### Requests beyond the herd (10 R320, R323) -/

/-- Posted messages of a port that have not been performed (10 R323). -/
def State.postedOf (s : State) (port : Nat) : Nat :=
  (s.remotes.filter fun r => r.port == some port && (r.kind == 1 || r.kind == 2) && r.done.isNone).length

/-- Send a request of a tile beyond the herd: a get waits for its answer, a put is posted (10 R323). `bad`: its data failed parity
(02 R83, 00 R16). -/
def State.beyond (s : State) (port tag : Nat) (bad : Bool) (b : Bound) (tc a op sub kind count : Nat) (len : Nat) (data : Line)
    (be : BitVec 64) : State :=
  match s.target b.slice (chipOf a) with
  | none => s.tileRsp port tag .denied 0 0
  | some n =>
    if bad then s.tileRsp port tag .poison 0 0
    else if kind != 0 && s.postedOf port ≥ 256 then s.tileRetry port tag
    else
      let (xid, s) := s.newXid n
      let m := { lineMsg op b.slice xid a .ok 0 none sub with
        count := BitVec.ofNat 16 count, len := BitVec.ofNat 8 len, data := data, be := be }
      match s.sendMsg n tc m (if kind = 0 then .tile port tag else .internal 0 0) with
      | none => s.tileRetry port tag
      | some s =>
        let r : RemoteReq := { sa := n, xid := xid, kind := kind, origin := .tile port tag, line := lineOf a,
                               port := some port, fn := b.fn, chip := chipOf a,
                               sector := a / 64 % 2, since := s.blk.tick }
        let s := { s with remotes := s.remotes ++ [r] }
        if kind = 0 then s else s.tileRsp port tag .ok 0 0

/-! ### Serving (05 R162, R166; used again when a held request is released) -/

/-- The transaction of a tile request. -/
def State.tileTxn (s : State) (port : Nat) (r : TpReq) (b : Bound) (held overB : Bool) (a : Nat) (op : TOp) : Txn :=
  { id := 0, home := 0, line := lineOf a, op := op, origin := .tile port r.tag.toNat, slice := b.slice, fn := b.fn,
    tc := s.servedClass b.slice r.tc.toNat, be := BitVec.allOnes 128, alloc := true, start := s.blk.tick,
    ctx := some b.ctx, held := held, overB := overB, parBad := !tpDparOk r }

/-- Serve RD_SHARED, RD_UNIQUE and RD_ONCE (05 R162, 10 R320). -/
def State.serveRead (s : State) (port : Nat) (op : TOp) (r : TpReq) (b : Bound) (held : Bool) : State :=
  let a := r.addr.toNat
  let c := chipOf a
  if c = s.chip || s.inHerd c then
    s.accept (s.tileTxn port r b held false a op) (some b.fn)
  else if op = .rdOnce then
    s.beyond port r.tag.toNat (!tpDparOk r) b (s.servedClass b.slice r.tc.toNat) (a / 128 * 128) 0x01 2 0 0 0 0 0
  else s.tileRsp port r.tag.toNat .denied 0 0

/-- Serve RD_SEQ: translate, then as RD_ONCE (05 R165, 09 R298). -/
def State.serveSeq (s : State) (port : Nat) (r : TpReq) (b : Bound) (held : Bool) : State :=
  s.seqAsk (s.tileTxn port r b held false 0 .rdOnce) r.addr.toNat

/-- Serve WR_SECTOR (05 R162, 10 R320, R323). -/
def State.serveWrite (s : State) (port : Nat) (r : TpReq) (b : Bound) (held : Bool) : State :=
  let a := r.addr.toNat
  let c := chipOf a
  let k := flag r.sector
  if c = s.chip || s.inHerd c then
    if c != s.chip && tpDparOk r && s.postedOf port ≥ 256 then s.tileRetry port r.tag.toNat
    else
      let t := s.tileTxn port r b held false a .write
      s.accept { t with be := BitVec.ofNat 128 (r.be.toNat <<< (64 * k)), sector := 64 * k, alloc := false,
                        data := setSector 0 k r.wdata } (some b.fn)
  else s.beyond port r.tag.toNat (!tpDparOk r) b (s.servedClass b.slice r.tc.toNat) (a / 128 * 128 + 64 * k) 0x02 0 1 0 64
    (r.wdata.setWidth 1024) r.be

/-- Serve ATOMIC_HOME and ATOMIC_MEM (05 R166, 08 R249, 10 R320). -/
def State.serveAtomic (s : State) (port : Nat) (op : TOp) (r : TpReq) (b : Bound) (held : Bool) : State :=
  let a := r.addr.toNat
  let c := chipOf a
  match atomOperands r.wdata with
  | none => s.tileRsp port r.tag.toNat .denied 0 0
  | some (x, y, o, size) =>
    let n := if size then 8 else 4
    if a % n != 0 || !(c == s.chip || s.inHerd c) then s.tileRsp port r.tag.toNat .denied 0 0
    else
      let t := s.tileTxn port r b held false a op
      s.accept { t with be := beRange (a % 128) n, sector := a % 128, atom := (o, size, x, y) } (some b.fn)

/-- A request that needs a binding: the front, the gate, then its service. -/
def State.tileReq (s : State) (port op : Nat) (r : TpReq) (cmd : Instr)
    (line : State → Bound → Option Nat) (serve : State → Bound → State) : State :=
  match s.tileEnter port op r with
  | (s, false) => s
  | (s, true) =>
    match s.bound port with
    | none => s
    | some b => match s.tileGate port r cmd b (line s b) with
      | (s, true) => serve s b
      | (s, false) => s

/-- The line a sequence address stands for, if it is translated. -/
def State.seqTarget (s : State) (r : TpReq) (b : Bound) : Option Nat :=
  match s.seqLine b.slice r.addr.toNat with
  | .ok (l, _) => some l
  | .error _ => none

/-! ### Evictions and FLUSH_DONE (02 R57, R58, 05 R162, R164) -/

/-- Whom an eviction is checked as (02 R57, 03 R101): the context bound to the port; on a port without a binding the slice and
function that own the line as the eviction arrives (log entry 24). -/
def State.evictAs (s : State) (port line : Nat) : Nat × Nat :=
  let e := s.ownAt (lineGran line)
  match s.bound port with
  | some b => (b.slice, b.fn)
  | none => if lineChip line = s.chip then (e.slice, e.fn) else (s.tileSlice port, 0)

/-- The transaction of an eviction. -/
def State.evictTxn (s : State) (port : Nat) (r : TpReq) (op : TOp) (data : Line) (bad : Bool) : Txn :=
  let (sl, fn) := s.evictAs port (lineOf r.addr.toNat)
  { id := 0, home := 0, line := lineOf r.addr.toNat, op := op, origin := .tile port r.tag.toNat, slice := sl, fn := fn,
    tc := s.servedClass sl r.tc.toNat, be := BitVec.allOnes 128, data := data, parBad := bad, start := s.blk.tick,
    ctx := (s.bound port).map (·.ctx) }

/-- Count a demotion of an eviction's class and take it at its home (06 R184). -/
def State.evictGo (s : State) (t : Txn) (asked : Nat) : State :=
  (if t.tc = asked then s else s.outcome t.slice asked 9).accept t (some t.fn)

/-- EVICT_DIRTY: two beats under one tag (02 R55). -/
def State.evictDirtyBeat (s : State) (port : Nat) (r : TpReq) : State :=
  if !s.portUp port then s
  else if !tpCparOk 0x08 r then s.portEvent port 0x63
  else if s.secondBeat port 0x08 r then
    match (s.tile port).beat with
    | none => s
    | some b =>
      let s := (s.setTile port { s.tile port with beat := none }).reqFault port r false
      if s.fatal then s.tileRsp port b.tag .ok 0 0
      else
        let l := setSector (setSector 0 0 b.data) 1 r.wdata
        s.evictGo (s.evictTxn port { r with addr := BitVec.ofNat 44 b.addr, tc := BitVec.ofNat 2 b.tc } .evictDirty l
          (b.bad || !tpDparOk r)) b.tc
  else
    let broken := (s.tile port).beat.isSome
    let s := s.brokenBeat port
    let t := s.tile port
    let wrong := t.tags.contains r.tag.toNat || (tpRsvd r).isSome || r.sector
    let s := (if wrong then s.tileSay port r.tag.toNat .denied else s).reqFault port r (wrong || broken)
    if wrong || !s.portUp port then s
    else
      let t := s.tile port
      let s := s.note (tpUnit port) 0x01 (some (s.tileSlice port)) 1
      let bt : Beat := { tag := r.tag.toNat, addr := r.addr.toNat, tc := r.tc.toNat, data := r.wdata, bad := !tpDparOk r }
      (s.setTile port { t with tags := t.tags ++ [r.tag.toNat], beat := some bt }).tileOpen port r.tag.toNat r.tc.toNat false

/-! ### The commands -/

/-- RD_SHARED. -/
def execRdShared (port : BitVec 8) (r : TpReq) (s : State) : Host.Outcome State Fault Refusal :=
  .next (s.tileReq port.toNat 0x00 r (.rdShared port r) (fun _ _ => some (lineOf r.addr.toNat))
    fun s b => s.serveRead port.toNat .rdShared r b false)

/-- RD_UNIQUE. -/
def execRdUnique (port : BitVec 8) (r : TpReq) (s : State) : Host.Outcome State Fault Refusal :=
  .next (s.tileReq port.toNat 0x01 r (.rdUnique port r) (fun _ _ => some (lineOf r.addr.toNat))
    fun s b => s.serveRead port.toNat .rdUnique r b false)

/-- RD_ONCE. -/
def execRdOnce (port : BitVec 8) (r : TpReq) (s : State) : Host.Outcome State Fault Refusal :=
  .next (s.tileReq port.toNat 0x02 r (.rdOnce port r) (fun _ _ => some (lineOf r.addr.toNat))
    fun s b => s.serveRead port.toNat .rdOnce r b false)

/-- RD_SEQ (09 R298). -/
def execRdSeq (port : BitVec 8) (r : TpReq) (s : State) : Host.Outcome State Fault Refusal :=
  .next (s.tileReq port.toNat 0x03 r (.rdSeq port r) (fun s b => s.seqTarget r b)
    fun s b => s.serveSeq port.toNat r b false)

/-- EVICT_DIRTY, one beat of two. -/
def execEvictDirty (port : BitVec 8) (r : TpReq) (s : State) : Host.Outcome State Fault Refusal :=
  .next (s.orLand (.evictDirty port r) fun s => s.evictDirtyBeat port.toNat r)

/-- A clean eviction. -/
def State.evictCleanReq (s : State) (port : Nat) (r : TpReq) : State :=
  match s.tileEnter port 0x09 r with
  | (s, false) => s
  | (s, true) => s.evictGo (s.evictTxn port r .evictClean 0 false) r.tc.toNat

/-- EVICT_CLEAN. -/
def execEvictClean (port : BitVec 8) (r : TpReq) (s : State) : Host.Outcome State Fault Refusal :=
  .next (s.orLand (.evictClean port r) fun s => s.evictCleanReq port.toNat r)

/-- WR_SECTOR. -/
def execWrSector (port : BitVec 8) (r : TpReq) (s : State) : Host.Outcome State Fault Refusal :=
  .next (s.tileReq port.toNat 0x0A r (.wrSector port r) (fun _ _ => some (lineOf r.addr.toNat))
    fun s b => s.serveWrite port.toNat r b false)

/-- ATOMIC_HOME. -/
def execAtomicHome (port : BitVec 8) (r : TpReq) (s : State) : Host.Outcome State Fault Refusal :=
  .next (s.tileReq port.toNat 0x10 r (.atomicHome port r) (fun _ _ => some (lineOf r.addr.toNat))
    fun s b => s.serveAtomic port.toNat .atomicHome r b false)

/-- ATOMIC_MEM. -/
def execAtomicMem (port : BitVec 8) (r : TpReq) (s : State) : Host.Outcome State Fault Refusal :=
  .next (s.tileReq port.toNat 0x11 r (.atomicMem port r) (fun _ _ => some (lineOf r.addr.toNat))
    fun s b => s.serveAtomic port.toNat .atomicMem r b false)

/-- A FLUSH_DONE transfer: it answers FLUSH_HOME of the name in the address (02 R58). It names a home slice and no line, so that
02 R57 leaves no line's owner to check it against; a write-back it closes was checked as an eviction. -/
def State.flushDoneReq (s : State) (port : Nat) (r : TpReq) : State :=
  match s.tileEnter port 0x23 r with
  | (s, false) => s
  | (s, true) => (s.flushPort (r.addr.toNat % 256) port).tileRsp port r.tag.toNat .ok 0 0

/-- FLUSH_DONE (02 R58). -/
def execFlushDone (port : BitVec 8) (r : TpReq) (s : State) : Host.Outcome State Fault Refusal :=
  .next (s.orLand (.flushDone port r) fun s => s.flushDoneReq port.toNat r)

end Sys2Proof.Machine
end

