-- ==== Sys2Proof/Machine/Windows.lean ====
section
/-! DEFINITION. Reduce windows (08 R263 to R274): opening, contributions, conversion, closing, the merge buffers. -/

namespace Sys2Proof.Machine

/-! ### Geometry (08 R263, R267, R268) -/

/-- Bytes of the input range. -/
def Window.inLen (x : Window) : Nat := 32 * x.blocks * elemBytes x.inFmt
/-- Bytes of a non-MX output range. -/
def Window.outLen (x : Window) : Nat := 32 * x.blocks * elemBits x.outFmt / 8
/-- The lines of the input range. -/
def Window.inLines (x : Window) : List Nat :=
  (List.range ((x.inLen + 127) / 128)).map (· + x.base / 128)
/-- Elements in a stored line of the output granule. -/
def lineElems (f : Nat) : Nat := (storeFmt f).2.2

/-- The lines an output block of an MX window and its scale lie in, with byte offsets (08 R259, R267): line, byte of the
elements, line of the scale, byte of the scale. -/
def mxPlace (f outBase i : Nat) : Nat × Nat × Nat × Nat :=
  let bytes := 32 * elemBits (storeFmt f).1 / 8
  if scaleInLine f then
    let l := outBase / 128 + i / 5
    (l, i % 5 * bytes, l, 120 + i % 5)
  else
    let first := granLine (granOf outBase) + outBase / 2 ^ 41 * 2 ^ 34
    let b := lineInGran (lineOf outBase) * (lineElems f / 32) + i
    let per := lineElems f / 32
    (first + b / per, b % per * bytes, first + 15360 + b / 128, b % 128)

/-- The last output line an MX window writes elements to. -/
def Window.mxLast (x : Window) (f : Nat) : Nat := (mxPlace f x.outBase (x.blocks - 1)).1

/-- The end of a window's output range; an MX output ends with its last element line. -/
def Window.outEnd (x : Window) (f : Nat) : Nat := if isMx x.outFmt then x.mxLast f * 128 + 128 else x.outBase + x.outLen
/-- The byte ranges of a window: input, output and, of an MX output with a scale region, the scale bytes it writes (08 R259, R263). -/
def Window.spans (x : Window) (f : Nat) : List (Nat × Nat) :=
  let (_, _, l0, b0) := mxPlace f x.outBase 0
  let (_, _, l1, b1) := mxPlace f x.outBase (x.blocks - 1)
  [(x.base, x.base + x.inLen), (x.outBase, x.outEnd f)]
    ++ if isMx x.outFmt && hasScaleRegion f then [(l0 * 128 + b0, l1 * 128 + b1 + 1)] else []

/-- Whether the ranges of an OPEN keep 08 R263. `fOut` is the output granule's storage format. -/
def State.rangesOk (s : State) (x : Window) (fOut : Nat) : Bool :=
  let gi := granOf x.base
  let go := granOf x.outBase
  let same := x.base == x.outBase && elemBits x.inFmt == elemBits x.outFmt && !isMx x.outFmt
  let outEnd := x.outEnd fOut
  let apart := (x.spans fOut).tail.all fun r => decide (x.base + x.inLen ≤ r.1) || decide (r.2 ≤ x.base)
  x.base % 128 == 0 && x.inLen % 64 == 0 && chipOf x.base == s.chip && chipOf x.outBase == s.chip
    && granOf (x.base + x.inLen - 1) == gi && granOf (outEnd - 1) == go
    && (s.ownAt gi).slice == (s.ownAt go).slice && granDie gi == granDie go && (same || apart)
    && (!isMx x.outFmt || (x.outBase % 128 == 0 && isElementLine fOut (lineInGran (lineOf x.outBase))
        && isElementLine fOut (lineInGran (x.mxLast fOut))))

/-- Whether a range of a window meets a range of an open one, input or output (08 R267, R272). -/
def State.meetsWindow (s : State) (x : Window) (fOut : Nat) : Bool :=
  s.rw.windows.any fun w => w.2.state != 0 && ((w.2.spans (s.ownAt (granOf w.2.outBase)).fmt).any fun o =>
    (x.spans fOut).any fun r => decide (r.1 < o.2) && decide (o.1 < r.2))

/-- Where a window's shadows live: home and set of each block (08 R268). -/
def State.shadowPlaces (s : State) (x : Window) : List (Nat × Nat) :=
  let eb := 32 * elemBytes x.inFmt
  (List.range x.blocks).filterMap fun i =>
    let line := (x.base + i * eb) / 128
    let k := i - (line * 128 - x.base + eb - 1) / eb
    ((s.homeName line).bind s.physOf).map fun h => (h, (setOf line + k) % 2048)

/-- Whether every set has room for a window's shadows: `others` counts those of other windows too. -/
def State.shadowsFit (s : State) (x : Window) (places : List (Nat × Nat)) (others : Bool) : Bool :=
  places.eraseDups.all fun p =>
    let n := (places.filter (· == p)).length
    let lim := min s.rw.shadowWays (popCount (s.wayMask p.1 x.slice) 16)
    n + (if others then s.shadowsIn p.1 p.2 x.slice else 0) ≤ lim

/-- A shadow line cleared. -/
def clearShadow : Shadow := { vals := List.replicate 32 0 }

/-! ### OPEN and CLOSE (08 R265 to R268, R271) -/

/-- The free entry of a die with the lowest number (08 R264). -/
def State.freeWindow (s : State) (die : Nat) : Option Nat :=
  ((List.range 256).map (· + 256 * die)).find? fun w => (s.win w).state == 0

/-- Write back the lines that stand in ways the shadows now take (08 R268). -/
def State.makeShadowRoom (s : State) (x : Window) (places : List (Nat × Nat)) : State :=
  places.eraseDups.foldl (fun s p =>
    let keep := s.waysFor p.1 p.2 x.slice
    ((bitList (s.wayMask p.1 x.slice) 16).filter fun w => !keep.contains w).foldl (fun s w =>
      match mget? (s.home p.1).lines (p.2 * 16 + w) with
      | some l => if l.slice = x.slice then s.evictWay p.1 (p.2 * 16 + w) else s
      | none => s) s) s

/-- The lines of a range that some agent, the LLC or a request holds (08 R268 step 2). -/
def State.heldLines (s : State) (h lo hi : Nat) : List Nat :=
  let x := s.home h
  let ls := (x.filter.map (·.1)) ++ (x.lines.map fun l => l.2.line) ++ ((s.txns.filter (·.home == h)).map (·.line))
  (ls.filter fun l => decide (lo ≤ l) && decide (l < hi)).eraseDups

/-- Recall every copy of a line range through the homes: the transactions started. -/
def State.recallRange (s : State) (lo hi sl : Nat) : State × List Nat :=
  (List.range 136).foldl (fun (x : State × List Nat) h =>
    (x.1.heldLines h lo hi).foldl (fun (x : State × List Nat) l =>
      let id := x.1.nextId
      (x.1.enter { id := 0, home := h, line := l, op := .recall, origin := .internal 0 0, slice := sl, internal := true,
                   key := (x.1.ownAt (lineGran l)).key, start := x.1.blk.tick }, x.2 ++ [id])) x) (s, [])

/-- The key IDs a window's shadow lines stand under: those of the granules of its input range (07 R231). -/
def State.windowKeys (s : State) (a : Nat) (c : RwCtl) : List Nat :=
  let n := ({ inFmt := c.inFmt, blocks := c.blocks } : Window).inLen
  ((List.range (granOf (a + n - 1) + 1 - granOf a)).map fun i => (s.ownAt (granOf a + i)).key).eraseDups

/-- OPEN of a window from a bound tile port (08 R266 to R268). -/
def State.windowOpen (s : State) (port : Nat) (r : TpReq) (b : Bound) (c : RwCtl) : State :=
  let a := r.addr.toNat
  let tag := r.tag.toNat
  let say := fun (s : State) st => s.tileRsp port tag st 0 0
  let gi := granOf a
  let go := granOf c.outBase
  let die := granDie gi
  let x : Window := { state := 1, slice := b.slice, fn := b.fn, ctx := b.ctx, inFmt := c.inFmt, outFmt := c.outFmt,
                      round := c.round, sat := c.sat, count := c.count, fence := c.fence, fenceValue := c.value,
                      base := a, outBase := c.outBase, blocks := c.blocks, deadline := c.deadline,
                      openTick := s.blk.tick, origin := .tile port tag, keys := s.windowKeys a c,
                      shadows := (List.range c.blocks).map fun i => (i, clearShadow) }
  let fOut := (s.ownAt go).fmt
  match s.gate gi b.slice (some b.fn) .amo false false with
  | some k => say (s.denied (16 * die) gi b.slice k) .denied
  | none => match s.gate go b.slice (some b.fn) .wr false false with
    | some k => say (s.denied (16 * die) go b.slice k) .denied
    | none =>
      if !c.reservedOk || c.count = 0 || c.blocks = 0 || c.blocks > 65536 || c.inFmt > 6 || c.outFmt > 12
          || isInt c.inFmt != isInt c.outFmt then say s .denied
      else if !s.rangesOk x fOut || s.meetsWindow x fOut then say s .denied
      else if s.armStatus b.ctx c.fence != .ok then say s (s.armStatus b.ctx c.fence)
      else if isMx c.outFmt && (storeFmt fOut).1 != c.outFmt then say s .denied
      else
        let places := s.shadowPlaces x
        if !s.shadowsFit x places false then say s .denied
        else
          let mine := (s.rw.windows.filter fun w => w.2.state != 0 && w.2.slice == b.slice).length
          match s.freeWindow die with
          | none => s.tileRetry port tag
          | some w =>
            if mine ≥ tget 16 s.rw.limits b.slice || !s.shadowsFit x places true then s.tileRetry port tag
            else
              let s := (s.armFence b.ctx c.fence).setWin w { x with lastReason := (s.win w).lastReason }
              let s := s.makeShadowRoom x places
              let (s, ids) := s.recallRange (a / 128) (a / 128 + (x.inLen + 127) / 128) b.slice
              (s.setWin w { s.win w with recalls := ids }).settle

/-- The window whose input range a sector lies in. -/
def State.windowAt (s : State) (a : Nat) : Option (Nat × Window) :=
  s.rw.windows.find? fun w => w.2.state != 0 && decide (w.2.base ≤ a) && decide (a < w.2.base + w.2.inLen)

/-- CLOSE (08 R266, R271). -/
def State.windowClose (s : State) (port : Nat) (r : TpReq) (b : Bound) : State :=
  let a := r.addr.toNat
  let g := granOf a
  let say := fun (s : State) st => s.tileRsp port r.tag.toNat st 0 0
  match s.gate g b.slice (some b.fn) .amo false false with
  | some k => say (s.denied (16 * granDie g) g b.slice k) .denied
  | none => match s.rw.windows.find? fun w => w.2.state != 0 && w.2.base == a with
    | some (w, x) => if x.fn = b.fn then say (s.closeWindow w 1) .ok else say s .denied
    | none => say s .denied

/-! ### Contributions (08 R269) -/

/-- Add values to the shadows of a window from element `first` on, with their count: `none` where a half block would pass
the window's count. -/
def Window.add (x : Window) (first : Nat) (vals : List (BitVec 32)) (cnt : Nat) : Option Window :=
  let int := isInt x.inFmt
  let halves := (List.range ((vals.length + 15) / 16)).map (· + first / 16)
  let arrived := fun (x : Window) (h : Nat) =>
    let d := tget clearShadow x.shadows (h / 2)
    if h % 2 = 0 then d.lo else d.hi
  if halves.any fun h => arrived x h + cnt > x.count then none
  else
    let put := fun (x : Window) (v : Nat × BitVec 32) =>
      let d := tget clearShadow x.shadows (v.1 / 32)
      let d := { d with vals := d.vals.set (v.1 % 32) (accAdd int (d.vals.getD (v.1 % 32) 0) v.2) }
      { x with shadows := mput x.shadows (v.1 / 32) d }
    let x := (((List.range vals.length).map (· + first)).zip vals).foldl put x
    some (halves.foldl (fun x h =>
      let d := tget clearShadow x.shadows (h / 2)
      let d := if h % 2 = 0 then { d with lo := d.lo + cnt } else { d with hi := d.hi + cnt }
      { x with shadows := mput x.shadows (h / 2) d }) x)

/-- Blocks whose both halves reached count. -/
def Window.blocksDone (x : Window) : Nat := (x.shadows.filter fun d => d.2.lo == x.count && d.2.hi == x.count).length
/-- Whether every half block has reached count. -/
def Window.full (x : Window) : Bool := x.blocksDone == x.blocks

/-- The accumulator values of a sector in an input format (08 R269). -/
def sectorVals (fmt : Nat) (d : Sector) : List (BitVec 32) :=
  (unpackElems d.toNat 0 (elemBits fmt) (512 / elemBits fmt)).map (toAcc fmt)

/-- A contribution at its home: a sector in the window's format, or merged values in an accumulator type, which cover the elements
from the target on as far as the window goes (08 R269, R273); `bad`: a sector whose data failed parity (02 R83). -/
def State.contribute (s : State) (a sl : Nat) (fn : Option Nat) (merged : Option (Bool × List (BitVec 32)))
    (sec : Sector) (cnt : Nat) (bad : Bool := false) : State × Status :=
  let g := granOf a
  let h := ((s.homeName (lineOf a)).bind s.physOf)
  match s.gate g sl fn .amo false false with
  | some k => (s.denied (h.getD (16 * granDie g)) g sl k, .denied)
  | none => match s.windowAt a with
    | none => (s, .denied)
    | some (w, x) =>
      if bad then (s, .poison)
      else if x.state = 1 || h.isNone then (s.retryNote (hslUnit (h.getD 0)) sl .retry, .retry)
      else
        let vals := match merged with
          | some (int, vs) => if int == isInt x.inFmt && decide ((a - x.base) / elemBytes x.inFmt + vs.length ≤ 32 * x.blocks) then some vs else none
          | none => some (sectorVals x.inFmt sec)
        match vals with
        | none => (s, .denied)
        | some vs => match x.add ((a - x.base) / elemBytes x.inFmt) vs cnt with
          | some x => (((s.setWin w x).logDirty (lineOf a)).note (hslUnit (h.getD 0)) 0x0A (some sl) 1, .ok)
          | none => (s.closeWindow w 3, .denied)

/-- A contribution of a tile (08 R265, R269, R273, 10 R320, R323). -/
def State.tileContrib (s : State) (port : Nat) (r : TpReq) (b : Bound) : State :=
  let tc := s.servedClass b.slice r.tc.toNat
  let a := r.addr.toNat / 128 * 128 + 64 * flag r.sector
  let c := chipOf a
  if c = s.chip then
    let (s, st) := s.contribute a b.slice (some b.fn) none r.wdata 1 (!tpDparOk r)
    let s := if st = .ok then s.use (some b.ctx) 0 64 1 0 else s
    ((if st = .retry then s.outcome b.slice tc 4 else s).retryNote (tpUnit port) b.slice st).tileRsp port r.tag.toNat st 0 0
  else if s.inHerd c && !tpDparOk r then s.tileRsp port r.tag.toNat .poison 0 0
  else
    let f := Config.contribFormat s.freeCount % 7
    if s.inHerd c then
      match s.herdSa c with
      | none => s.tileRsp port r.tag.toNat .timeout 0 0
      | some n =>
        if s.postedOf port ≥ 256 then s.tileRetry port r.tag.toNat
        else
          let (xid, s) := s.useFree.newXid n
          let m := { lineMsg 0x05 b.slice xid a .ok 0 none f with count := 1, len := 64, data := r.wdata.setWidth 1024 }
          match s.sendMsg n tc m (.internal 0 0) with
          | none => s.tileRetry port r.tag.toNat
          | some s =>
            let q : RemoteReq := { sa := n, xid := xid, kind := 2, origin := .tile port r.tag.toNat, line := lineOf a,
                                   port := some port, fn := b.fn, chip := c, sector := flag r.sector,
                                   since := s.blk.tick }
            { s with remotes := s.remotes ++ [q] }.tileRsp port r.tag.toNat .ok 0 0
    else s.useFree.beyond port r.tag.toNat (!tpDparOk r) b tc a 0x05 f 2 1 64 (r.wdata.setWidth 1024) 0

/-- Serve a REDUCE_WR: every byte enable at 1 is a contribution, every one at 0 a control request (08 R265). -/
def State.serveReduce (s : State) (port : Nat) (r : TpReq) (b : Bound) : State :=
  let say := fun (s : State) st => s.tileRsp port r.tag.toNat st 0 0
  if r.be = BitVec.allOnes 64 then s.tileContrib port r b
  else if r.be != 0 then say s .denied
  else if chipOf r.addr.toNat != s.chip then say s .denied
  else if !tpDparOk r then say s .poison
  else
    let c := rwCtl r.wdata
    if c.op = 1 then s.windowOpen port r b c else if c.op = 2 then s.windowClose port r b else say s .denied

/-! ### Conversion and completion (08 R270) -/

/-- Merge bytes into a table of lines to write: data and byte enables. -/
def putPiece (m : Map (Nat × Nat)) (line o n v : Nat) : Map (Nat × Nat) :=
  let (d, be) := tget (0, 0) m line
  let m1 := 2 ^ (8 * n) - 1
  let clr := d - ((d >>> (8 * o)) &&& m1) <<< (8 * o)
  mput m line (clr + (v &&& m1) <<< (8 * o), be ||| (2 ^ n - 1) <<< o)

/-- Merge bytes at an address, over line boundaries. -/
def putSpan (m : Map (Nat × Nat)) (a n v : Nat) : Map (Nat × Nat) :=
  (List.range ((a % 128 + n + 127) / 128)).foldl (fun m k =>
    let lo := if k = 0 then a % 128 else 0
    let done := if k = 0 then 0 else 128 * k - a % 128
    let len := min (128 - lo) (n - done)
    putPiece m (a / 128 + k) lo len (v >>> (8 * done))) m

/-- The output lines of a window (08 R255, R256, R267, R270). -/
def State.windowOut (s : State) (w : Nat) (x : Window) : Map (Nat × Nat) :=
  let f := (s.ownAt (granOf x.outBase)).fmt
  let seed := tget 0 s.rw.seeds x.slice
  x.shadows.foldl (fun m d =>
    let rnd := fun k => if x.round then some (srBits seed w x.openTick d.1 k) else none
    let bits := elemBits x.outFmt
    if isMx x.outFmt then
      let (e, es) := mxBlock x.outFmt x.sat rnd d.2.vals
      let (l, o, sl, so) := mxPlace f x.outBase d.1
      putPiece (putPiece m l o (32 * bits / 8) (packElems bits es)) sl so 1 e
    else
      let es := (d.2.vals.zip (List.range 32)).map fun (v, k) =>
        if isInt x.outFmt then convInt x.outFmt x.sat v else convFloat x.outFmt x.sat (rnd k) v
      putSpan m (x.outBase + d.1 * 32 * bits / 8) (32 * bits / 8) (packElems bits es)) []

/-- A block-internal write of bytes of a line through its home; the number of its transaction where one was started. -/
def State.internalWrite (s : State) (line d be : Nat) (o : Origin) : State × Option Nat :=
  let id := s.nextId
  let t : Txn := { id := 0, home := 0, line := line, op := .write, origin := o, internal := true,
                   slice := 0, be := BitVec.ofNat 128 be, data := BitVec.ofNat 1024 d, start := s.blk.tick }
  let s := s.accept t none
  (s, if s.txns.any (·.id == id) then some id else none)

/-- Convert a window whose every half block has reached count: write its outputs through their homes (08 R270). -/
def State.windowConvert (s : State) (w : Nat) : State :=
  let x := s.win w
  if x.state != 2 || !x.full then s
  else
    let outs := s.windowOut w x
    let s := s.setWin w { x with state := 3, writes := [], converted := x.blocks }
    outs.foldl (fun s o =>
      if (s.win w).state = 3 then
        let id := s.nextId
        let s := s.setWin w { s.win w with writes := (s.win w).writes ++ [id] }
        match s.internalWrite o.1 o.2.1 o.2.2 (.window w) with
        | (s, some _) => s
        | (s, none) => s.setWin w { s.win w with writes := (s.win w).writes.filter (· != id) }
      else s) s

/-- Write again the outputs of a window that were answered RETRY. -/
def State.windowRedo (s : State) (w : Nat) : State :=
  let x := s.win w
  let s := s.setWin w { x with redo := [] }
  x.redo.foldl (fun (s : State) o =>
    if (s.win w).state = 3 then
      let id := s.nextId
      let s := s.setWin w { s.win w with writes := (s.win w).writes ++ [id] }
      match s.internalWrite o.1 o.2.1.toNat o.2.2.toNat (.window w) with
      | (s, some _) => s
      | (s, none) => s.setWin w { s.win w with writes := (s.win w).writes.filter (· != id) }
    else s) s

/-- Complete a window whose outputs have all been written (08 R270). -/
def State.windowComplete (s : State) (w : Nat) : State :=
  let s := if (s.win w).redo.isEmpty then s else s.windowRedo w
  let x := s.win w
  if x.state != 3 || !x.writes.isEmpty || !x.redo.isEmpty then s
  else (s.setWin w { lastReason := x.lastReason }).fenceOk x.fence 2 x.fenceValue

/-- A window in OPENING whose recalls are done becomes OPEN and its OPEN completes (08 R268). -/
def State.windowOpened (s : State) (w : Nat) : State :=
  let x := s.win w
  if x.state != 1 || (s.txns.any fun t => x.recalls.contains t.id) then s
  else
    let lo := x.base / 128
    let hi := lo + (x.inLen + 127) / 128
    let s := (List.range 136).foldl (fun s h =>
      ((s.home h).lines.filter fun l => decide (lo ≤ l.2.line) && decide (l.2.line < hi)).foldl
        (fun s l => s.evictWay h l.1) s) s
    let s := s.setWin w { x with state := 2, recalls := [] }
    match x.origin with
    | .tile p t => s.tileRsp p t .ok 0 0
    | _ => s

/-- Whether a window's deadline has passed (08 R271, R272). -/
def State.windowLate (s : State) (x : Window) : Bool :=
  (x.state == 1 || x.state == 2) && x.deadline != 0 && decide (x.openTick + x.deadline ≤ s.blk.tick) && !x.full

/-- Forward a merge entry to its home as one contribution; every contributing peer is answered (08 R273, 10 R322). -/
def State.mergeForward (s : State) (die i : Nat) : State :=
  let q := tget [] s.rw.merge die
  match q[i]? with
  | none => s
  | some m =>
    let s := { s with rw := { s.rw with merge := tset [] s.rw.merge die (q.eraseIdx i) } }
    let (s, st) := s.contribute m.addr m.slice (if m.fn < 4096 then some m.fn else none) (some (m.int, m.vals)) 0 m.count
    m.peers.foldl (fun s p =>
      s.sendOr (s.returnSa p.1) 2 (lineMsg 0x0B m.slice p.2 m.addr st 0 none 1) (.internal 0 0)) s

/-! ### The commands -/

/-- A REDUCE_WR transfer: the front, the gates, its service. -/
def State.reduceWr (s : State) (port : Nat) (r : TpReq) (cmd : Instr) : State :=
  s.tileReq port 0x18 r cmd (fun _ _ => none) fun s b => s.serveReduce port r b

/-- REDUCE_WR OPEN (08 R266). -/
def execReduceOpen (port : BitVec 8) (r : TpReq) (s : State) : Host.Outcome State Fault Refusal :=
  .next (s.reduceWr port.toNat r (.reduceOpen port r))

/-- REDUCE_WR CLOSE (08 R266, R271). -/
def execReduceClose (port : BitVec 8) (r : TpReq) (s : State) : Host.Outcome State Fault Refusal :=
  .next (s.reduceWr port.toNat r (.reduceClose port r))

/-- A REDUCE_WR contribution (08 R265, R269). -/
def execReduceContribution (port : BitVec 8) (r : TpReq) (s : State) : Host.Outcome State Fault Refusal :=
  .next (s.reduceWr port.toNat r (.reduceContribution port r))

/-- MERGE_FORWARD (08 R273). -/
def execMergeForward (die : BitVec 3) (i : BitVec 8) (s : State) : Host.Outcome State Fault Refusal :=
  .next (s.unlessStopped fun s => s.mergeForward die.toNat i.toNat)

/-- WINDOW_OPENED (08 R268). -/
def execWindowOpened (w : BitVec 11) (s : State) : Host.Outcome State Fault Refusal := .next (s.unlessStopped fun s => s.windowOpened w.toNat)

/-- WINDOW_CONVERT (08 R270). -/
def execWindowConvert (w : BitVec 11) (s : State) : Host.Outcome State Fault Refusal := .next (s.unlessStopped fun s => s.windowConvert w.toNat)

/-- WINDOW_COMPLETE (08 R270). -/
def execWindowComplete (w : BitVec 11) (s : State) : Host.Outcome State Fault Refusal :=
  .next (s.unlessStopped fun s => s.windowComplete w.toNat)

/-- WINDOW_DEADLINE (08 R271, R272). -/
def execWindowDeadline (w : BitVec 11) (s : State) : Host.Outcome State Fault Refusal :=
  .next (if s.windowLate (s.win w.toNat) then s.closeWindow w.toNat 2 else s)

end Sys2Proof.Machine
end

