-- ==== Sys2Proof/Machine/Jobs.lean ====
section
/-! DEFINITION. Fabric jobs (09 R278 to R295): submission, starting, and the pieces of each type. A piece of the model is a
job's smallest unit: it runs once the lines it reads have come (log entry 28). -/

namespace Sys2Proof.Machine

/-! ### Submission (09 R282 to R287) -/

/-- Whether a sequence is in the OPEN window of a slice. -/
def State.seqOk (s : State) (sl q : Nat) : Bool :=
  let w := s.seqw sl
  w.state == 2 && decide (w.seqFirst ≤ q) && decide (q < w.seqFirst + w.seqCount)

/-- The sequence conditions of the static check (09 R287). -/
def State.descSeqOk (s : State) (sl : Nat) (d : List Reg) : Bool :=
  let q2 := field (dword d 2) 0 18
  let q3 := field (dword d 3) 0 18
  match dType d with
  | 0x6 => s.seqOk sl q2
  | 0x8 => s.seqOk sl q2 && (s.seqw sl).fmt == 2
  | 0x9 => s.seqOk sl q2 && (field (dword d 4) 32 2 == 1 || s.seqOk sl q3)
  | _ => true

/-- Jobs a function holds, queued and started. -/
def State.jobsOf (s : State) (f : Nat) : Nat := (s.jobs.filter (·.fn == f)).length

/-- The answer to a submission (09 R284). -/
def State.submitStatus (s : State) (x : Nat) (d : List Reg) : Status :=
  let r := s.ctx x
  let f := s.fnc r.fn
  if s.ctxLost x || f.state == 5 || f.state == 6 then .lost
  else if f.state ≤ 1 || !descOk s.chip d || !s.descSeqOk r.slice d then .denied
  else if dFenceEn d && s.armStatus x (dFence d) == .denied then .denied
  else if dType d == 0xD && !f.harvest then .denied
  else if f.state != 2 || s.jobsOf r.fn ≥ f.jobDepth then .refused
  else if (s.jobs.filter (·.engine.isNone)).length ≥ 4096 then .refused
  else if dFenceEn d && s.armStatus x (dFence d) == .refused then .refused
  else .ok

/-- Submit a descriptor of a context (09 R284). -/
def State.submitJob (s : State) (x port : Nat) (d : List Reg) : State × Status :=
  let st := s.submitStatus x d
  let r := s.ctx x
  let tc := s.servedClass r.slice (dTc d)
  if st = .ok then
    let s := if dFenceEn d then s.armFence x (dFence d) else s
    let (id, s) := s.fresh
    let j : Job := { id := id, desc := d, ctx := x, fn := r.fn, slice := r.slice, tc := tc, port := port }
    let s := if tc = dTc d then s else s.outcome r.slice (dTc d) 9
    ({ s with jobs := s.jobs ++ [j] }, st)
  else (s, st)

/-! ### Starting (09 R279) -/

/-- Whether an engine may take jobs of a slice. -/
def State.eligible (s : State) (e sl : Nat) : Bool :=
  let r := s.jobRec e
  let share := match s.sliceRec sl with | some x => x.jobTotal != 0 | none => false
  let holds := fun (r : JobRec) => (r.use == 1 && r.owner == sl) || (r.use == 0 && share)
  !(s.engine e).offline && holds r && (s.img.state != 5 || match s.img.staged with
    | some d => holds (tget {} d.cfg.jobs e)
    | none => true)
/-- Started jobs of an engine. -/
def State.startedOn (s : State) (e : Nat) : List Job := s.jobs.filter fun j => j.engine == some e
/-- The engine a waiting job starts on: fewest started jobs, then the submitting port's die, then the lowest index. -/
def State.pickEngine (s : State) (j : Job) : Option Nat :=
  let es := (List.range 32).filter fun e => s.eligible e j.slice && decide ((s.startedOn e).length < 16)
  let key := fun e => (s.startedOn e).length * 2 + flag (e / 4 != portDie j.port)
  es.foldl (fun (b : Option Nat) e => match b with
    | none => some e
    | some c => if key e < key c then some e else some c) none

/-- Start a waiting job. -/
def State.jobStart (s : State) (id : Nat) : State :=
  match s.job? id with
  | none => s
  | some j =>
    if j.engine.isSome || j.ended.isSome then s
    else match s.pickEngine j with
      | some e => (s.setJob { j with engine := some e, started := s.blk.tick }).note (jobUnit e) 0x01 (some j.slice) 1
      | none => s

/-! ### Accesses of a piece (09 R288, R290) -/

/-- End a job with a detail; it completes when its writes have. -/
def State.jobStop (s : State) (id detail : Nat) : State :=
  match s.job? id with
  | some j => if j.ended.isSome then s else s.setJob { j with ended := some detail, buf := [] }
  | none => s

/-- The lines of a byte range. -/
def linesOf (a n : Nat) : List Nat := (List.range ((a % 128 + n + 127) / 128)).map (· + a / 128)

/-- The bytes of a range from the lines a job has read, and whether a sector it touches is poisoned. -/
def Job.bytes (j : Job) (a n : Nat) : Nat × Bool :=
  (linesOf a n).foldl (fun (x : Nat × Bool) l =>
    let (d, p) := tget (0, 0) j.buf l
    let lo := max a (l * 128)
    let hi := min (a + n) (l * 128 + 128)
    let v := (d.toNat >>> (8 * (lo % 128))) % 2 ^ (8 * (hi - lo))
    let s0 := lo % 128 / 64
    let s1 := (hi - 1) % 128 / 64
    (x.1 + v <<< (8 * (lo - a)), x.2 || Nat.testBit p s0 || Nat.testBit p s1)) (0, false)

/-- Read the lines of a piece that have not come yet. -/
def State.jobReads (s : State) (j : Job) (lines : List Nat) (alloc : Bool) : State :=
  lines.eraseDups.foldl (fun s l =>
    match s.job? j.id with
    | none => s
    | some j =>
      let busy := s.txns.any fun t => t.origin == .job j.id && t.line == l && t.op.isRead
      if j.ended.isSome || busy || (mget? j.buf l).isSome then s
      else
        let id := s.nextId
        let s := s.setJob { j with reads := j.reads ++ [id], paused := false, age := 0 }
        s.accept { id := 0, home := 0, line := l, op := .read, origin := .job j.id, slice := j.slice, fn := j.fn,
                   tc := j.tc, be := BitVec.allOnes 128, alloc := alloc, start := s.blk.tick, ctx := some j.ctx,
                   held := j.paused } (some j.fn)) s

/-- Whether a gate holds a job for lines its piece has not read: not in the tick in which its age releases it (06 R197, R199). -/
def State.jobShut (s : State) (j : Job) (lines : List Nat) : Bool :=
  j.aged != some s.blk.tick && lines.any fun l => (mget? j.buf l).isNone && s.gateShut (some l) j.slice j.tc none
/-- A job pauses at the end of its piece (06 R198). -/
def State.jobPause (s : State) (j : Job) : State :=
  match s.job? j.id with
  | some j => s.setJob { j with paused := true }
  | none => s

/-- Run a piece once its lines have been read. An address that names another chip ends the job (10 R320). -/
def State.withReads (s : State) (j : Job) (lines : List Nat) (alloc : Bool) (k : State → Job → State) : State :=
  if lines.any fun l => lineChip l != s.chip then s.jobStop j.id 1
  else if lines.all fun l => (mget? j.buf l).isSome then k s { j with buf := j.buf }
  else if s.jobShut j lines then s.jobPause j
  else s.jobReads j lines alloc

/-- Write bytes of a line for a job: as a request of its context, or block-internal under the line's key. -/
def State.jobWrite (s : State) (id line : Nat) (d : Line) (be : BitVec 128) (alloc internal mark : Bool) : State :=
  match s.job? id with
  | none => s
  | some j =>
    if lineChip line != s.chip then s.jobStop id 1
    else
      let tid := s.nextId
      let s := s.setJob { j with writes := j.writes ++ [tid] }
      let s := s.accept { id := 0, home := 0, line := line, op := .write, origin := .job id,
                          slice := if internal then 0 else j.slice, fn := j.fn, tc := j.tc, be := be, data := d,
                          alloc := alloc, start := s.blk.tick, ctx := some j.ctx, internal := internal,
                          mark := mark } (some j.fn)
      if s.txns.any (·.id == tid) then s
      else match s.job? id with
        | some j => s.setJob { j with writes := j.writes.filter (· != tid) }
        | none => s

/-- Write a byte range for a job. -/
def State.jobPut (s : State) (id a n v : Nat) (alloc internal mark : Bool) : State :=
  (putSpan [] a n v).foldl (fun s o =>
    s.jobWrite id o.1 (BitVec.ofNat 1024 o.2.1) (BitVec.ofNat 128 o.2.2) alloc internal mark) s

/-- Move a job's cursors after a piece; the lines it read are dropped. -/
def State.jobNext (s : State) (id : Nat) (f : Job → Job) : State :=
  match s.job? id with
  | some j => s.setJob { f j with buf := [] }
  | none => s

/-- The random bits of an output element (09 R291). -/
def State.jobRnd (s : State) (j : Job) (block k : Nat) : Option Nat :=
  if dRound j.desc then
    some (srBits (tget 0 s.rw.seeds j.slice) (65536 + dTag j.desc) (j.firstTick.getD 0) block k)
  else none

/-! ### COPY, REKEY_COPY, ZERO, GATHER, SCATTER_REDUCE, DIRTY_HARVEST (09 R292, R294) -/

/-- Whether a REKEY_COPY may touch a pair of granules (09 R294). -/
def State.rekeyOk (s : State) (j : Job) (a b : Nat) : Bool :=
  let x := s.ownAt (granOf a)
  let y := s.ownAt (granOf b)
  x.slice == j.slice && x.fn == j.fn && y.slice == j.slice && y.fn == j.fn && x.key != y.key && x.fmt == y.fmt

/-- Whether the ranges of a COPY or REKEY_COPY overlap (09 R294). -/
def Job.overlaps (j : Job) : Bool :=
  let n := field (dword j.desc 4) 0 38
  decide (dAddr j.desc 2 < dAddr j.desc 3 + n) && decide (dAddr j.desc 3 < dAddr j.desc 2 + n)

/-- One sector of COPY or REKEY_COPY. Of ranges that overlap the destination gets free values (09 R294, log entry 168). -/
def State.pieceCopy (s : State) (j : Job) : State :=
  let rekey := dType j.desc == 0xA
  let n := field (dword j.desc 4) 0 38 / 64
  let src := dAddr j.desc 2 + 64 * j.cur
  let dst := dAddr j.desc 3 + 64 * j.cur
  if j.cur ≥ n then s.jobStop j.id 0
  else if rekey && !s.rekeyOk j src dst then s.jobStop j.id 1
  else s.withReads j (linesOf src 64) false fun s j =>
    let (v, bad) := j.bytes src 64
    if bad && !rekey then s.jobStop j.id 2
    else
      let v := if j.overlaps then (Config.undefinedLine s.freeCount).toNat % 2 ^ 512 else v
      let s := if j.overlaps then s.useFree else s
      (s.jobPut j.id dst 64 v false false bad).jobNext j.id fun j => { j with cur := j.cur + 1 }

/-- One sector of ZERO. -/
def State.pieceZero (s : State) (j : Job) : State :=
  if j.cur ≥ field (dword j.desc 3) 0 38 / 64 then s.jobStop j.id 0
  else (s.jobPut j.id (dAddr j.desc 2 + 64 * j.cur) 64 0 false false false).jobNext j.id fun j =>
    { j with cur := j.cur + 1 }

/-- One sector of GATHER: row i of the index list, sector k of the row. -/
def State.pieceGather (s : State) (j : Job) : State :=
  let cnt := field (dword j.desc 5) 0 32
  let rs := field (dword j.desc 5) 32 16
  let i := j.cur / rs
  let k := j.cur % rs
  let ix := dAddr j.desc 3 + 4 * i
  if i ≥ cnt then s.jobStop j.id 0
  else s.withReads j (linesOf ix 4) true fun s j =>
    let (x, bad) := j.bytes ix 4
    let src := dAddr j.desc 2 + x * 64 * rs + 64 * k
    let dst := dAddr j.desc 4 + 64 * j.cur
    if bad then s.jobStop j.id 2
    else if src ≥ 2 ^ 44 || dst ≥ 2 ^ 44 then s.jobStop j.id 5
    else s.withReads j (linesOf src 64) true fun s j =>
      let (v, bad) := j.bytes src 64
      if bad then s.jobStop j.id 2
      else (s.jobPut j.id dst 64 v false false false).jobNext j.id fun j => { j with cur := j.cur + 1 }

/-- One sector of SCATTER_REDUCE: a contribution of count 1. -/
def State.pieceScatter (s : State) (j : Job) : State :=
  let cnt := field (dword j.desc 5) 0 32
  let rs := field (dword j.desc 5) 32 16
  let i := j.cur / rs
  let ix := dAddr j.desc 3 + 4 * i
  let src := dAddr j.desc 2 + 64 * j.cur
  if i ≥ cnt then s.jobStop j.id 0
  else s.withReads j (linesOf ix 4 ++ linesOf src 64) false fun s j =>
    let (x, bad1) := j.bytes ix 4
    let (v, bad2) := j.bytes src 64
    let dst := dAddr j.desc 4 + x * 64 * rs + 64 * (j.cur % rs)
    if bad1 || bad2 then s.jobStop j.id 2
    else if dst ≥ 2 ^ 44 then s.jobStop j.id 5
    else if chipOf dst != s.chip then s.jobStop j.id 1
    else if s.jobShut { j with buf := [] } [lineOf dst] then s.jobPause j
    else match s.contribute dst j.slice (some j.fn) none (BitVec.ofNat 512 v) 1 with
      | (s, .ok) => s.jobNext j.id fun j => { j with cur := j.cur + 1 }
      | (s, .retry) => s
      | (s, st) => s.jobStop j.id (statusDetail st)

/-- One granule of DIRTY_HARVEST. -/
def State.pieceHarvest (s : State) (j : Job) : State :=
  let first := field (dword j.desc 2) 0 20
  let cnt := field (dword j.desc 3) 0 21
  let g := first + j.cur
  let own := fun g => let e := s.ownAt g; e.gstate == 1 && e.fn == j.fn && e.slice == j.slice
  if j.cur ≥ cnt then s.jobStop j.id 0
  else if j.cur = 0 && !((List.range cnt).all fun k => own (first + k)) then s.jobStop j.id 1
  else
    let w := tget 0 s.dirty g
    let s := { s with dirty := tset 0 s.dirty g 0 }
    (s.jobPut j.id (dAddr j.desc 4 + 4 * j.cur) 4 w.toNat false false false).jobNext j.id fun j =>
      { j with cur := j.cur + 1 }

/-- One line of SCRUB: read past the LLC and judged; in a guarded group its stripes are checked (07 R244, 09 R294). -/
def State.pieceScrub (s : State) (j : Job) : State :=
  let line := lineOf (dAddr j.desc 2) + j.cur
  let g := lineGran line
  if j.cur ≥ field (dword j.desc 3) 0 38 / 128 then s.jobStop j.id 0
  else match s.gate g j.slice (some j.fn) .rd false false with
    | some k => (s.denied (16 * granDie g) g j.slice k).jobStop j.id 1
    | none =>
      let key := (s.ownAt g).key
      let s := s.jobNext j.id fun j => { j with cur := j.cur + 1, reads := j.reads ++ [line] }
      let (s, sent) := s.memRead line 3 key j.slice j.tc false (.scrub j.id line)
      let s := if sent then s else s.jobNext j.id fun j => { j with reads := j.reads.filter (· != line) }
      if s.guarded g && (s.mpt.lostMask == 0) then
        [0, 1].foldl (fun (s : State) k =>
          let (id, s) := s.fresh
          s.guardBegin { id := id, kind := .check, port := granPort g, stripe := stripeOf line k, slice := j.slice }) s
      else s

/-! ### TRANSCODE_COPY (09 R294, 08 R254 to R256, R259) -/

/-- Where element `i` of an MX run that starts at an element line lies: line, bit, scale line, scale byte (08 R259). -/
def mxElem (f base i : Nat) : Nat × Nat × Nat × Nat :=
  let n := lineElems f
  let per := (if hasScaleRegion f then 15360 else 16384) * n
  let e := lineInGran (lineOf base) * n + i
  let first := (base / 2 ^ 21 + e / per) * 2 ^ 14
  let l := e % per / n
  let bits := elemBits (storeFmt f).1
  if scaleInLine f then (first + l, e % n * bits, first + l, 120 + e % n / 32)
  else (first + l, e % n * bits, first + 15360 + e % per / 32 / 128, e % per / 32 % 128)

/-- Whether an address is the start of an element line of a granule that stores an MX format. -/
def State.mxAt (s : State) (a code : Nat) : Bool :=
  let f := (s.ownAt (granOf a)).fmt
  (storeFmt f).1 == code && f != 0 && a % 128 == 0 && isElementLine f (lineInGran (lineOf a))

/-- 32 output elements of TRANSCODE_COPY. -/
def State.pieceTranscode (s : State) (j : Job) : State :=
  let total := field (dword j.desc 4) 0 32
  let fi := field (dword j.desc 4) 32 4
  let fo := field (dword j.desc 4) 36 4
  let src := dAddr j.desc 2
  let dst := dAddr j.desc 3
  let at_ := 32 * j.cur
  let n := min 32 (total - at_)
  let bi := elemBits fi
  let bo := elemBits fo
  if at_ ≥ total then s.jobStop j.id 0
  else if (isMx fi && !s.mxAt src fi) || (isMx fo && !s.mxAt dst fo) then s.jobStop j.id 1
  else
    let sf := (s.ownAt (granOf src)).fmt
    let (l, b, sl, sb) := mxElem sf src at_
    let lines := if isMx fi then [l, sl].eraseDups else linesOf (src + at_ * bi / 8) (n * bi / 8)
    let df := (s.ownAt (granOf dst)).fmt
    if (isMx fi && (s.ownAt (lineGran l)).fmt != sf) || (isMx fo && (s.ownAt (lineGran (mxElem df dst at_).1)).fmt != df) then
      s.jobStop j.id 1
    else s.withReads j lines false fun s j =>
      let (v, bad) := if isMx fi then j.bytes (l * 128 + b / 8) (32 * bi / 8) else j.bytes (src + at_ * bi / 8) (n * bi / 8)
      let (e, bad2) := if isMx fi then j.bytes (sl * 128 + sb) 1 else (0, false)
      if bad || bad2 then s.jobStop j.id 2
      else
        let xs := unpackElems v 0 bi n
        let vs := xs.map fun w => if isInt fi then toAcc fi w else toFp32 (elemValue fi w e)
        let s := if isMx fo then
            let (sc, es) := mxBlock fo (dSat j.desc) (s.jobRnd j j.cur) vs
            let (l, b, sl, sb) := mxElem (s.ownAt (granOf dst)).fmt dst at_
            (s.jobPut j.id (l * 128 + b / 8) (32 * bo / 8) (packElems bo es) false false false).jobPut
              j.id (sl * 128 + sb) 1 sc false false false
          else
            let es := (vs.zip (List.range n)).map fun (v, k) =>
              if isInt fo then convInt fo (dSat j.desc) v else convFloat fo (dSat j.desc) (s.jobRnd j j.cur k) v
            s.jobPut j.id (dst + at_ * bo / 8) (n * bo / 8) (packElems bo es) false false false
        s.jobNext j.id fun j => { j with cur := j.cur + 1 }

/-! ### EMBED_BAG (09 R295) -/

/-- One row of a bag, or the output of a bag. `cur` is the bag, `sub` the rows done, `acc` the sums. -/
def State.pieceEmbed (s : State) (j : Job) : State :=
  let w6 := dword j.desc 6
  let dim := field w6 0 13
  let ft := field w6 16 4
  let fo := field w6 20 4
  let mode := field w6 24 2
  let bags := field w6 32 32
  let oa := dAddr j.desc 4 + 4 * j.cur
  if j.cur ≥ bags then s.jobStop j.id 0
  else s.withReads j (linesOf oa 8) true fun s j =>
    let (o, bad) := j.bytes oa 8
    let lo := o % 2 ^ 32
    let hi := o / 2 ^ 32
    if bad then s.jobStop j.id 2
    else if hi < lo then s.jobStop j.id 5
    else
      let acc := if j.sub = 0 then List.replicate dim 0 else j.acc
      if j.sub ≥ hi - lo then
        let acc := if mode = 1 && hi > lo then acc.map (fpMul (fpRecip (hi - lo))) else acc
        let bo := elemBits fo
        let es := (acc.zip (List.range dim)).map fun (v, k) =>
          convFloat fo (dSat j.desc) (s.jobRnd j ((j.cur * dim + k) / 32) ((j.cur * dim + k) % 32)) v
        (s.jobPut j.id (dAddr j.desc 5 + j.cur * dim * bo / 8) (dim * bo / 8) (packElems bo es) false false false).jobNext
          j.id fun j => { j with cur := j.cur + 1, sub := 0, acc := [] }
      else
        let i := lo + j.sub
        let ix := dAddr j.desc 3 + 4 * i
        let wa := dAddr j.desc 7 + 4 * i
        s.withReads j (linesOf ix 4 ++ (if mode = 2 then linesOf wa 4 else [])) true fun s j =>
          let (x, bad) := j.bytes ix 4
          let (wt, bad2) := if mode = 2 then j.bytes wa 4 else (0, false)
          let row := dAddr j.desc 2 + x * dim * elemBytes ft
          let len := dim * elemBytes ft
          if bad || bad2 then s.jobStop j.id 2
          else if row + len > 2 ^ 44 then s.jobStop j.id 5
          else s.withReads j (linesOf row len) true fun s j =>
            let (v, bad) := j.bytes row len
            if bad then s.jobStop j.id 2
            else
              let vs := (unpackElems v 0 (elemBits ft) dim).map (toAcc ft)
              let acc := (acc.zip vs).map fun (a, v) =>
                if mode = 2 then fpFma v (BitVec.ofNat 32 wt) a else fpAdd a v
              s.jobNext j.id fun j => { j with sub := j.sub + 1, acc := acc }

end Sys2Proof.Machine
end

