-- ==== Sys2Proof/Machine/Seqs.lean ====
section
/-! DEFINITION. Sequence windows and sequence jobs (09 R296 to R301), the running of a job's piece and its end (09 R278,
R281, R289, R300), and the commands of the jobs. -/

namespace Sys2Proof.Machine

/-! ### Pages (09 R297, R300) -/

/-- Take the head of the free queue if 16 ticks have passed since it was freed. -/
def State.allocPage (s : State) (sl : Nat) : Option (State × Nat) :=
  let w := s.seqw sl
  match w.free with
  | (p, t) :: rest =>
    if t + 16 ≤ s.blk.tick then
      some (s.setSeqw sl { w with free := rest, counts := tset 0 w.counts p 1, qHead := (w.qHead + 1) % max 1 w.dataPages,
                                  unsaved := w.unsaved ++ [(2, p)] }, p)
    else none
  | [] => none

/-- Decrement a page's count; at 0 it goes to the tail of the free queue. False below 0 (09 R301). -/
def State.dropPage (s : State) (sl p : Nat) : State × Bool :=
  let w := s.seqw sl
  let c := tget 0 w.counts p
  if c = 0 then (s, false)
  else if c = 1 then
    (s.setSeqw sl { w with counts := tset 0 w.counts p 0, free := w.free ++ [(p, s.blk.tick)],
                           unsaved := w.unsaved ++ [(2, p), (3, (w.qHead + w.free.length) % max 1 w.dataPages)],
                           halfPage := if w.halfPage = some p then none else w.halfPage }, true)
  else (s.setSeqw sl { w with counts := tset 0 w.counts p (c - 1), unsaved := w.unsaved ++ [(2, p)] }, true)
/-- Increment a page's count. -/
def State.sharePage (s : State) (sl p : Nat) : State :=
  let w := s.seqw sl
  s.setSeqw sl { w with counts := tset 0 w.counts p (tget 0 w.counts p + 1), unsaved := w.unsaved ++ [(2, p)] }

/-- Bytes of a token. -/
def SeqWin.tokenBytes (w : SeqWin) : Nat := 128 * 2 ^ w.shift
/-- Tokens of a page. -/
def SeqWin.perPage (w : SeqWin) : Nat := 32768 / w.tokenBytes
/-- Write a sequence entry. -/
def State.setSeqEnt (s : State) (sl q : Nat) (e : SeqEnt) : State :=
  let w := s.seqw sl
  s.setSeqw sl { w with entries := tset {} w.entries q e, unsaved := w.unsaved ++ [(0, q)] }
/-- Write a page-table entry; it leaves the translation caches (09 R300). -/
def State.setPageEnt (s : State) (sl q p : Nat) (e : PageEnt) : State :=
  let w := s.seqw sl
  (s.setSeqw sl { w with pages := tset {} w.pages (q * 2048 + p) e, unsaved := w.unsaved ++ [(1, q * 2048 + p)] }).tlbDrop
    fun k => k == tlbKey sl q p

/-- Where a record of the tables lies, its length in bytes and its contents (09 R297). A directory that is free holds none. The place
of the free queue's head is DESIGN CHOICE: it goes round the table, one place an allocation (log entry 188). -/
def State.seqRecord (s : State) (w : SeqWin) (x : Nat × Nat) : Option (Nat × Nat × Nat) :=
  let (_, b, c, d) := w.parts
  match x.1 with
  | 0 =>
    let e := w.seqEnt x.2
    some (s.seqEntAddr w x.2, 16, flag e.valid + 2 * flag e.busy + 4 * e.length + e.dir * 2 ^ 64)
  | 1 =>
    let g := w.pageEnt (x.2 / 2048) (x.2 % 2048)
    if (w.seqEnt (x.2 / 2048)).valid then
      some (s.pageEntAddr w (x.2 / 2048) (x.2 % 2048), 8, g.page + flag g.half * 2 ^ 26 + g.fmt * 2 ^ 27 + flag g.valid * 2 ^ 31)
    else none
  | 2 => some (s.pageAddr b + 2 * (x.2 - d), 2, tget 0 w.counts x.2)
  | _ =>
    let n := max 1 w.dataPages
    match w.free[(x.2 + n - w.qHead % n) % n]? with
    | some (p, t) => some (s.pageAddr c + 8 * x.2, 8, p + t % 2 ^ 32 * 2 ^ 32)
    | none => none

/-- Write the changed records of a window to its region: for a job as its block-internal writes, else by the block (09 R297). -/
def State.seqSaveFor (s : State) (sl : Nat) (job : Option Nat) : State :=
  let w := s.seqw sl
  let s := if w.unsaved.isEmpty then s else s.setSeqw sl { w with unsaved := [] }
  (w.unsaved.eraseDups.filterMap (s.seqRecord w)).foldl (fun (s : State) r => match job with
    | some id => s.jobPut id r.1 r.2.1 r.2.2 false true false
    | none => (putSpan [] r.1 r.2.1 r.2.2).foldl (fun (s : State) o => (s.internalWrite o.1 o.2.1 o.2.2 (.internal 0 0)).1) s) s
/-- Write the records of a window that no job writes, such as a busy bit that is given back. -/
def State.seqSave (s : State) (sl : Nat) : State :=
  if (s.seqw sl).state = 2 then s.seqSaveFor sl none else s

/-- The lines of the tables of a window that OPEN writes: of each part the lines its records take. -/
def SeqWin.tableLines (w : SeqWin) : Nat × Nat × Nat :=
  let n := w.dataPages
  ((16 * w.seqCount + 127) / 128, (2 * n + 127) / 128, (8 * n + 127) / 128)
/-- A piece of 448 lines of the tables of a window in OPENING, one a tick (09 R296, 01 R41): no sequence, counts of 0, every data page
in the free queue. -/
def State.tablePiece (s : State) (sl : Nat) : State :=
  let w := s.seqw sl
  let (x, y, z) := w.tableLines
  let (a, b, c, _) := w.parts
  if w.state != 1 || w.tab ≥ x + y + z then s
  else
    let s := s.setSeqw sl { w with tab := min (x + y + z) (w.tab + 448) }
    ((List.range 448).map (· + w.tab)).foldl (fun (s : State) k =>
      if k ≥ x + y + z then s
      else
        let i := k - (x + y)
        let line := if k < x then lineOf (s.pageAddr a) + k else if k < x + y then lineOf (s.pageAddr b) + (k - x) else lineOf (s.pageAddr c) + i
        let word := fun (m : Nat) => match w.free[16 * i + m]? with | some (p, t) => p + t % 2 ^ 32 * 2 ^ 32 | none => 0
        let d := if k < x + y then 0 else (List.range 16).foldl (fun v m => v + word m * 2 ^ (64 * m)) 0
        (s.internalWrite line d (2 ^ 128 - 1) (.internal 0 0)).1) s

/-- Take the busy bit of a sequence for a job; `none` where another job holds it (09 R299). -/
def State.takeSeq (s : State) (j : Job) (q : Nat) : Option State :=
  if j.holds.contains q then some s
  else
    let e := (s.seqw j.slice).seqEnt q
    if e.busy then none
    else some ((s.setSeqEnt j.slice q { e with busy := true }).setJob { j with holds := j.holds ++ [q] })

/-- A job waits for a page. -/
def State.jobWait (s : State) (j : Job) : State :=
  s.setJob { j with waitSince := some (j.waitSince.getD s.blk.tick) }

/-- End a sequence job, giving back a page it has in hand. -/
def State.seqStop (s : State) (j : Job) (detail : Nat) : State :=
  let s := match j.seqPage with
    | some p => (s.dropPage j.slice (p / 2)).1
    | none => s
  let s := s.setJob { j with seqPage := none }
  s.jobStop j.id detail

/-- A count fell below 0 (09 R301, R303). -/
def State.countMismatch (s : State) (j : Job) : State :=
  (s.raise (jobUnit (j.engine.getD 0)) 0x52 2 9 (field (dword j.desc 2) 0 18) j.slice j.fn).seqStop j 2

/-- A job meets a sequence whose tables cannot be read: kind 0x51, and the job ends with POISON (09 R289, R303). -/
def State.seqUnread (s : State) (j : Job) (q : Nat) : State :=
  (s.raise (jobUnit (j.engine.getD 0)) 0x51 2 9 q j.slice j.fn).seqStop j 2

/-! ### KV_APPEND (09 R299) -/

/-- The elements of `n` tokens read from an aged page, in the window's format: `cnt` lines from `line`, the tokens' elements
from `skip` on (09 R299). -/
def State.kvValues (s : State) (j : Job) (fmt line cnt skip n : Nat) : Nat :=
  let w := s.seqw j.slice
  let per := lineElems fmt
  let el := (storeFmt fmt).1
  let vals := (List.range cnt).flatMap fun i =>
    let d := (tget (0, 0) j.buf (line + i)).1
    let sc := lineScales d
    ((unpackElems d.toNat 0 (elemBits el) per).zip (List.range per)).map fun (x, m) =>
      (ffmt w.fmt).encode (w.fmt == 3) none (elemValue el x (sc.getD (m / 32) 0))
  packElems (if w.fmt = 2 then 16 else 8) ((vals.drop skip).take (n * (w.tokenBytes / 2)))

/-- One page of tokens. A last page that is aged and not full, as a TRUNCATE leaves it, is expanded into the page that replaces it: the
spec states no append to it (DESIGN CHOICE, log entry 189). `cur` counts tokens appended, `sub` the step: take the page, write the tokens, commit. -/
def State.pieceAppend (s : State) (j : Job) : State :=
  let q := field (dword j.desc 2) 0 18
  let total := field (dword j.desc 4) 0 32
  if (s.seqw j.slice).badMeta.contains q then s.seqUnread j q
  else match s.takeSeq j q with
  | none => s
  | some s => match s.job? j.id with
    | none => s
    | some j =>
      let w := s.seqw j.slice
      let e := w.seqEnt q
      let tb := w.tokenBytes
      let per := w.perPage
      let p := e.length / per
      let t0 := e.length % per
      let n := min (per - t0) (total - j.cur)
      let g := w.pageEnt q p
      let shared := t0 != 0 && (tget 0 w.counts g.page > 1 || g.fmt != 0)
      if j.cur ≥ total then s.seqStop j 0
      else if p ≥ 2048 then s.seqStop j 8
      else if !e.valid then
        match s.allocPage j.slice with
        | none => s.jobWait j
        | some (s, d) =>
          (s.setSeqEnt j.slice q { valid := true, busy := true, length := 0, dir := d }).setJob { j with waitSince := none }
      else if j.sub = 0 then
        if t0 != 0 && !shared then s.setJob { j with sub := 1 }
        else match s.allocPage j.slice with
          | none => s.jobWait j
          | some (s, d) => s.setJob { j with seqPage := some (2 * d), sub := 1, waitSince := none }
      else
        let page := match j.seqPage with | some d => d / 2 | none => g.page
        if j.sub = 1 then
          let src := dAddr j.desc 3 + j.cur * tb
          let old := s.pageAddr g.page + (if g.fmt != 0 && g.half then 16384 else 0)
          let cnt := (t0 * (tb / 2) + lineElems g.fmt - 1) / lineElems g.fmt
          let len := if g.fmt = 0 then t0 * tb else 128 * cnt
          s.withReads j (linesOf src (n * tb) ++ (if shared then linesOf old len else [])) false fun s j =>
            let (v, bad) := j.bytes src (n * tb)
            let (ov, bad2) := if !shared then (0, false) else if g.fmt = 0 then j.bytes old len
              else (s.kvValues j g.fmt (lineOf old) cnt 0 t0, (j.bytes old len).2)
            if bad || bad2 then s.seqStop j 2
            else
              let s := if shared then s.jobPut j.id (s.pageAddr page) (t0 * tb) ov true true false else s
              (s.jobPut j.id (s.pageAddr page + t0 * tb) (n * tb) v true true false).jobNext j.id fun j => { j with sub := 2 }
        else if !j.writes.isEmpty then s
        else
          let (s, ok) := if shared then s.dropPage j.slice g.page else (s, true)
          let s := s.setPageEnt j.slice q p { page := page, valid := true }
          let s := s.setSeqEnt j.slice q { e with length := e.length + n }
          let j := { j with cur := j.cur + n, sub := 0, seqPage := none }
          if ok then s.setJob j else s.countMismatch j

/-! ### KV_FORK (09 R299, R301) -/

/-- FORK or TRUNCATE, in one step. -/
def State.pieceFork (s : State) (j : Job) : State :=
  let a := field (dword j.desc 2) 0 18
  let b := field (dword j.desc 3) 0 18
  let tokens := field (dword j.desc 4) 0 26
  let trunc := field (dword j.desc 4) 32 2 == 1
  let go := if trunc then s.takeSeq j a
    else (s.takeSeq j (min a b)).bind fun s => match s.job? j.id with
      | some j => s.takeSeq j (max a b)
      | none => none
  if (s.seqw j.slice).badMeta.contains a then s.seqUnread j a
  else if !trunc && (s.seqw j.slice).badMeta.contains b then s.seqUnread j b
  else match go with
  | none => s
  | some s => match s.job? j.id with
    | none => s
    | some j =>
      let w := s.seqw j.slice
      let e := w.seqEnt a
      let n := (tokens + w.perPage - 1) / w.perPage
      if !e.valid then s.seqStop j 6
      else if !trunc && (w.seqEnt b).valid then s.seqStop j 7
      else if tokens > e.length then s.seqStop j 5
      else if trunc then
        let last := (e.length + w.perPage - 1) / w.perPage
        let (s, ok) := ((List.range last).drop n).foldl (fun (x : State × Bool) p =>
          let g := (x.1.seqw j.slice).pageEnt a p
          let (s, ok) := x.1.dropPage j.slice g.page
          (s.setPageEnt j.slice a p {}, x.2 && ok)) (s, true)
        let (s, ok) := if tokens = 0 then
            let (s, freed) := s.dropPage j.slice e.dir
            (s.setSeqEnt j.slice a { busy := true }, ok && freed)
          else (s.setSeqEnt j.slice a { e with length := tokens }, ok)
        if ok then s.seqStop j 0 else s.countMismatch j
      else if (List.range n).any fun p => tget 0 w.counts (w.pageEnt a p).page ≥ 65535 then s.seqStop j 0xA
      else match s.allocPage j.slice with
        | none => s.jobWait j
        | some (s, d) =>
          let s := (List.range n).foldl (fun (s : State) p =>
            let g := (s.seqw j.slice).pageEnt a p
            (s.sharePage j.slice g.page).setPageEnt j.slice b p g) s
          (s.setSeqEnt j.slice b { valid := true, busy := true, length := tokens, dir := d }).seqStop j 0

/-! ### KV_AGE and KV_GATHER (09 R299, 08 R255, R256, R259, R261) -/

/-- The stored lines of an aged page from its BF16 values (09 R299). `blk` numbers the job's first output block. -/
def State.agedLines (s : State) (j : Job) (code blk : Nat) (vals : List (BitVec 32)) : List Nat :=
  let el := (storeFmt code).1
  let per := lineElems code
  let bits := elemBits el
  (List.range ((vals.length + per - 1) / per)).map fun l =>
    let vs := (vals.drop (l * per)).take per
    if isMx el then
      (List.range ((vs.length + 31) / 32)).foldl (fun a b =>
        let (e, es) := mxBlock el (dSat j.desc) (s.jobRnd j (blk + l * per / 32 + b)) ((vs.drop (32 * b)).take 32)
        a + packElems bits es <<< (b * 32 * bits) + e <<< (8 * (120 + b))) 0
    else packElems bits ((vs.zip (List.range vs.length)).map fun (v, k) =>
      convFloat el (dSat j.desc) (s.jobRnd j (blk + (l * per + k) / 32) (k % 32)) v)

/-- A page read whole is written again at `dst` in the aged format (09 R299). -/
def State.agePage (s : State) (j : Job) (code page dst : Nat) : State :=
  let b := j.bytes (s.pageAddr page) 32768
  if b.2 then s.seqStop j 2
  else
    let blk := (j.acc.headD 0).toNat
    let ls := s.agedLines j code blk ((unpackElems b.1 0 16 16384).map (toAcc 2))
    let s := (ls.zip (List.range ls.length)).foldl (fun (s : State) x =>
      s.jobPut j.id (dst + 128 * x.2) 128 x.1 false true false) s
    s.jobNext j.id fun j => { j with sub := 2, acc := [BitVec.ofNat 32 (blk + 512)] }

/-- One page of KV_AGE: skip it, or re-encode it into a free half, write its entry, free the old page. -/
def State.pieceAge (s : State) (j : Job) : State :=
  let q := field (dword j.desc 2) 0 18
  let keep := field (dword j.desc 3) 0 26
  let code := field (dword j.desc 3) 32 4
  if (s.seqw j.slice).badMeta.contains q then s.seqUnread j q
  else match s.takeSeq j q with
  | none => s
  | some s => match s.job? j.id with
    | none => s
    | some j =>
      let w := s.seqw j.slice
      let e := w.seqEnt q
      let g := w.pageEnt q j.cur
      if !e.valid then s.seqStop j 6
      else if (j.cur + 1) * w.perPage > e.length - keep then s.seqStop j 0
      else if j.sub = 0 then
        if !g.valid || g.fmt != 0 || tget 0 w.counts g.page != 1 then s.setJob { j with cur := j.cur + 1 }
        else match w.halfPage with
          | some h =>
            let s := (s.setSeqw j.slice { w with halfPage := none }).sharePage j.slice h
            s.setJob { j with seqPage := some (2 * h + 1), sub := 1 }
          | none => match s.allocPage j.slice with
            | none => s.jobWait j
            | some (s, h) =>
              (s.setSeqw j.slice { s.seqw j.slice with halfPage := some h }).setJob
                { j with seqPage := some (2 * h), sub := 1, waitSince := none }
      else
        let hp := j.seqPage.getD 0
        let dst := s.pageAddr (hp / 2) + 16384 * (hp % 2)
        if j.sub = 1 then
          s.withReads j (linesOf (s.pageAddr g.page) 32768) false fun s j => s.agePage j code g.page dst
        else if !j.writes.isEmpty then s
        else
          let s := s.setPageEnt j.slice q j.cur { page := hp / 2, half := hp % 2 == 1, fmt := code, valid := true }
          let (s, ok) := s.dropPage j.slice g.page
          let j := { j with cur := j.cur + 1, sub := 0, seqPage := none }
          if ok then s.setJob j else s.countMismatch j

/-- A gathered token is written at its place in the destination, and the piece counts it (09 R299). -/
def State.kvPut (s : State) (j : Job) (v : Nat) : State :=
  let done := (j.acc.headD 0).toNat
  let tb := (s.seqw j.slice).tokenBytes
  (s.jobPut j.id (dAddr j.desc 3 + done * tb) tb v false false false).jobNext j.id fun j =>
    { j with sub := j.sub + 1, acc := [BitVec.ofNat 32 (done + 1)] }

/-- Token t of a sequence is read and written: from a page as it was appended, or from an aged one (09 R299). -/
def State.kvToken (s : State) (j : Job) (g : PageEnt) (t : Nat) : State :=
  let w := s.seqw j.slice
  let tb := w.tokenBytes
  let base := s.pageAddr g.page + (if g.fmt != 0 && g.half then 16384 else 0)
  let a := base + t % w.perPage * tb
  let e0 := t % w.perPage * (tb / 2)
  let per := lineElems g.fmt
  let l0 := e0 / per
  let cnt := (e0 + tb / 2 - 1) / per + 1 - l0
  if g.fmt = 0 then
    s.withReads j (linesOf a tb) true fun s j =>
      if (j.bytes a tb).2 then s.jobStop j.id 2 else s.kvPut j (j.bytes a tb).1
  else
    s.withReads j (linesOf (base + 128 * l0) (128 * cnt)) true fun s j =>
      if (j.bytes (base + 128 * l0) (128 * cnt)).2 then s.jobStop j.id 2
      else s.kvPut j (s.kvValues j g.fmt (base / 128 + l0) cnt (e0 - l0 * per) 1)

/-- One token of KV_GATHER. `cur` is the entry, `sub` the token in it, `acc` holds the tokens written so far. -/
def State.pieceKvGather (s : State) (j : Job) : State :=
  let ea := dAddr j.desc 2 + 8 * j.cur
  if j.cur ≥ field (dword j.desc 4) 0 32 then s.jobStop j.id 0
  else s.withReads j (linesOf ea 8) true fun s j =>
    let v := (j.bytes ea 8).1
    let q := v % 2 ^ 18
    let first := v / 2 ^ 20 % 2 ^ 26
    let n := v / 2 ^ 46
    let w := s.seqw j.slice
    let e := w.seqEnt q
    let t := first + j.sub
    if (j.bytes ea 8).2 then s.jobStop j.id 2
    else if w.badMeta.contains q then s.seqUnread j q
    else if !s.seqOk j.slice q || first + n > e.length && e.valid then s.jobStop j.id 5
    else if !e.valid then s.jobStop j.id 6
    else if j.sub ≥ n then s.jobNext j.id fun j => { j with cur := j.cur + 1, sub := 0 }
    else s.kvToken j (w.pageEnt q (t / w.perPage)) t

/-! ### Running pieces (09 R278, R281, R293) -/

/-- The lines the next unit of a job touches, as far as its descriptor and cursor tell them: what its gates are judged by. Lines
that depend on data it reads are judged as it comes to them; writes of the block's own are held by none (06 R197). -/
def State.jobLines (s : State) (j : Job) : List Nat :=
  let d := dAddr j.desc
  let w := dword j.desc
  let rows := field (w 5) 32 16
  match dType j.desc with
  | 0x1 | 0xA => linesOf (d 2 + 64 * j.cur) 64 ++ linesOf (d 3 + 64 * j.cur) 64
  | 0x2 =>
    let fi := field (w 4) 32 4
    let fo := field (w 4) 36 4
    let n := min 32 (field (w 4) 0 32 - 32 * j.cur)
    let span := fun (a f : Nat) =>
      if isMx f then
        let x := mxElem (s.ownAt (granOf a)).fmt a (32 * j.cur)
        [x.1, x.2.2.1]
      else linesOf (a + 32 * j.cur * elemBits f / 8) (n * elemBits f / 8)
    span (d 2) fi ++ span (d 3) fo
  | 0x3 => linesOf (d 3 + 4 * (j.cur / max 1 rows)) 4 ++ linesOf (d 4 + 64 * j.cur) 64
  | 0x4 => linesOf (d 3 + 4 * (j.cur / max 1 rows)) 4 ++ linesOf (d 2 + 64 * j.cur) 64
  | 0x5 =>
    let n := field (w 6) 0 13 * elemBits (field (w 6) 20 4) / 8
    linesOf (d 4 + 4 * j.cur) 8 ++ linesOf (d 5 + j.cur * n) n
  | 0x7 => linesOf (d 2 + 8 * j.cur) 8 ++ linesOf (d 3 + (j.acc.headD 0).toNat * (s.seqw j.slice).tokenBytes) 1
  | 0xB => linesOf (d 2 + 64 * j.cur) 64
  | 0xC => [lineOf (d 2) + j.cur]
  | 0xD => linesOf (d 4 + 4 * j.cur) 4
  | _ => []

/-- Run the smallest unit of a started job by its type (09 R294, R299). -/
def State.jobStep (s : State) (j : Job) : State :=
  match dType j.desc with
  | 0x1 | 0xA => s.pieceCopy j
  | 0x2 => s.pieceTranscode j
  | 0x3 => s.pieceGather j
  | 0x4 => s.pieceScatter j
  | 0x5 => s.pieceEmbed j
  | 0x6 => s.pieceAppend j
  | 0x7 => s.pieceKvGather j
  | 0x8 => s.pieceAge j
  | 0x9 => s.pieceFork j
  | 0xB => s.pieceZero j
  | 0xC => s.pieceScrub j
  | 0xD => s.pieceHarvest j
  | _ => s

/-- Charge engine time to a function (06 R186). -/
def State.chargeJob (s : State) (f : Nat) : State :=
  { s with qos := { s.qos with jobUsed := tset 0 s.qos.jobUsed f (tget 0 s.qos.jobUsed f + 1) } }

/-- Run a piece of a job: it ends with POISON and kind 0x50 where its cursor or buffer is lost (09 R303), pauses under a
hold, reissues a write that was answered RETRY, or does its next unit. -/
def State.jobRun (s : State) (id : Nat) : State :=
  match s.job? id with
  | none => s
  | some j =>
    if j.engine.isNone || j.ended.isSome || s.fatal || s.stopped || (s.engine (j.engine.getD 0)).offline then s
    else if j.unread then (s.raise (jobUnit (j.engine.getD 0)) 0x50 2 0 0 j.slice j.fn).seqStop j 2
    else if s.fullHold || (s.blk.parked && j.tc == 3 && j.aged != some s.blk.tick) || s.jobShut j (s.jobLines j) then s.jobPause j
    else
      let s := if j.firstTick.isSome then s else s.setJob { j with firstTick := some s.blk.tick }
      let e := j.engine.getD 0
      let s := ((s.note (jobUnit e) 0x20 (some j.slice) 1).note (jobUnit e) 0x21 (some j.slice) 1).use (some j.ctx) 0 0 0 1
      let s := if (s.jobRec e).use = 0 then s.chargeJob j.fn else s
      match s.job? id with
      | none => s
      | some j => match j.redo with
        | (l, d, be, mark, own) :: rest =>
          (s.setJob { j with redo := rest }).jobWrite id l d be false own mark
        | [] => (s.jobStep j).seqSaveFor j.slice (some id)

/-- The key of R189 of a started job, larger first: budget, level, then the slice whose functions had the least engine time in the
tick for its weight; of one slice the oldest goes first. -/
def State.jobKey (s : State) (j : Job) : Nat :=
  let over_ := j.aged != some s.blk.tick && s.jobOver j
  let served := (s.fncs.filter fun x => x.2.slice == j.slice).foldl (fun (a : Nat) x => a + tget 0 s.qos.jobUsed x.1) 0
  flag (!over_) * 2 ^ 40 + s.level (j.engine.getD 0 / 4) j.slice j.tc * 2 ^ 32
    + (2 ^ 32 - 1 - min (2 ^ 32 - 1) (served / s.weight j.slice))

/-- The job an engine runs next: of those with the largest key each slice's oldest, and of these the `pick`-th (09 R278). -/
def State.jobNextOf (s : State) (e pick : Nat) : Option Job :=
  let js := (s.startedOn e).filter fun j => j.ended.isNone
  let top := js.foldl (fun a j => max a (s.jobKey j)) 0
  let best := (js.filter fun j => s.jobKey j == top).foldl (fun (l : List Job) j =>
    if l.any (·.slice == j.slice) then l else l ++ [j]) []
  best[pick % max 1 best.length]?

/-- A job that has met its end completes once its accesses have (09 R289). -/
def State.jobComplete (s : State) (id : Nat) : State :=
  match s.job? id with
  | some j => match j.ended with
    | some d => if j.writes.isEmpty && j.redo.isEmpty && (j.reads.isEmpty || d != 0) then s.finishJob j d else s
    | none => s
  | none => s

/-- A job that has waited 16 ticks for a page ends with NO_PAGES (09 R300). -/
def State.pageTimeout (s : State) (id : Nat) : State :=
  match s.job? id with
  | some j => match j.waitSince with
    | some t => if j.ended.isNone && t + 16 ≤ s.blk.tick then s.seqStop j 9 else s
    | none => s
  | none => s

/-! ### Windows (09 R296, R297) -/

/-- The result of an OPEN: 0 where it succeeds (09 R296). -/
def State.seqOpenResult (s : State) (sl : Nat) : Nat :=
  let w := s.seqw sl
  let gs := (List.range w.granules).map (· + w.first)
  let total := s.seqs.foldl (fun a x => if x.1 != sl && x.2.state != 0 then a + x.2.seqCount else a) w.seqCount
  let overB := s.seqs.any fun x => x.1 != sl && x.2.state != 0
    && decide (w.seqFirst < x.2.seqFirst + x.2.seqCount) && decide (x.2.seqFirst < w.seqFirst + w.seqCount)
  let key := (s.ownAt w.first).key
  if w.state != 0 || !s.sliceDefined sl then 1
  else if !(w.fmt == 2 || w.fmt == 3) || w.shift > 8 || w.seqCount = 0 || w.seqFirst + w.seqCount > 262144 || overB
      || total > 262144 || w.first + w.granules > 1048576
      || !seqFits (w.granules * 64) w.seqCount 1 then 5
  else if gs.all fun g =>
      let e := s.ownAt g
      e.gstate == 1 && e.slice == sl && e.rd && !e.wr && !e.amo && !e.host && e.sliceWide && e.fmt == 0 && e.key == key
    then 0 else 3

/-- Lay out the window's tables (09 R297): every data page is free. -/
def State.seqLayout (s : State) (sl : Nat) : State :=
  let w := s.seqw sl
  let (_, _, _, base) := w.parts
  (s.setSeqw sl { w with state := 1, result := 0, pending := none, entries := [], pages := [], counts := [],
                         free := (List.range w.dataPages).map fun k => (base + k, s.blk.tick), halfPage := none, badMeta := [],
                         qHead := 0, tab := 0, unsaved := [] }).tlbDrop fun k => k / 2 ^ 29 == sl

/-- End every sequence job of a slice with WINDOW_CLOSED (09 R296). -/
def State.seqJobsEnd (s : State) (sl : Nat) : State :=
  (s.jobs.filter fun j => j.slice == sl && decide (6 ≤ dType j.desc) && decide (dType j.desc ≤ 9)).foldl
    (fun s j => if j.engine.isNone then s.finishJob j 0xB else s.jobStop j.id 0xB) s

/-- Close a window (09 R296). -/
def State.seqCloseNow (s : State) (sl : Nat) : State :=
  let s := s.seqJobsEnd sl
  s.setSeqw sl { s.seqw sl with state := 3, result := 0, pending := none }

/-- A command's check at its boundary (09 R296). -/
def State.seqApply (s : State) (sl : Nat) : State :=
  let w := s.seqw sl
  match w.pending with
  | none => if w.state = 3 then (s.setSeqw sl { w with state := 0 }).mgIrq 0x09 else s
  | some op =>
    let refuse := fun (r : Nat) => (s.setSeqw sl { w with pending := none, result := r }).mgIrq 0x09
    if op = 1 then
      let r := s.seqOpenResult sl
      if r = 0 then s.seqLayout sl else refuse r
    else if op = 2 then
      let enabled := s.fncs.any fun f => f.2.slice == sl && f.2.state == 2
      if w.state != 2 || enabled then refuse 1 else s.seqCloseNow sl
    else refuse 5

/-- A write of JOB_SEQ_CMD (09 R296, R302). -/
def State.seqCmd (s : State) (sl op : Nat) : State :=
  let w := s.seqw sl
  if sl = 0 then s
  else if w.pending.isSome || w.state == 1 || w.state == 3 then s.setSeqw sl { w with result := 6 }
  else s.setSeqw sl { w with pending := some op }

/-- An OPENING window's tables are written: it is OPEN (09 R296). -/
def State.seqOpened (s : State) (sl : Nat) : State :=
  let w := s.seqw sl
  let (x, y, z) := w.tableLines
  if w.state = 1 && w.tab ≥ x + y + z then (s.setSeqw sl { w with state := 2 }).mgIrq 0x09 else s

/-! ### The commands -/

/-- JOB_SUBMIT from a tile port (09 R282, R284). -/
def State.tileSubmit (s : State) (port : Nat) (r : TpReq) (b : Bound) : State :=
  let say := fun (s : State) st => s.tileRsp port r.tag.toNat st 0 0
  if r.be != BitVec.allOnes 64 then say s .denied
  else if !tpDparOk r then say s .poison
  else
    let (s, st) := s.submitJob b.ctx port (descWords r.wdata)
    say s st

/-- JOB_SUBMIT. -/
def execJobSubmit (port : BitVec 8) (r : TpReq) (s : State) : Host.Outcome State Fault Refusal :=
  .next (s.tileReq port.toNat 0x21 r (.jobSubmit port r) (fun _ _ => none)
    fun s b => s.tileSubmit port.toNat r b)

/-- JOB_START (09 R279). -/
def execJobStart (id : Nat) (s : State) : Host.Outcome State Fault Refusal := .next (s.unlessStopped fun s => s.jobStart id)

/-- JOB_PIECE: an engine runs a piece of the job it chooses (09 R278). -/
def execJobPiece (e : BitVec 5) (pick : Nat) (s : State) : Host.Outcome State Fault Refusal :=
  .next (match s.jobNextOf e.toNat pick with
    | some j => s.jobRun j.id
    | none => s)

/-- Run a piece of a job if it is of a type. -/
def State.jobOfType (s : State) (id ty : Nat) : State :=
  match s.job? id with
  | some j => if dType j.desc = ty then s.jobRun id else s
  | none => s

/-- COPY (09 R294). -/
def execCopy (id : Nat) (s : State) : Host.Outcome State Fault Refusal := .next (s.jobOfType id 0x1)
/-- TRANSCODE_COPY (09 R294). -/
def execTranscodeCopy (id : Nat) (s : State) : Host.Outcome State Fault Refusal := .next (s.jobOfType id 0x2)
/-- GATHER (09 R294). -/
def execGather (id : Nat) (s : State) : Host.Outcome State Fault Refusal := .next (s.jobOfType id 0x3)
/-- SCATTER_REDUCE (09 R294). -/
def execScatterReduce (id : Nat) (s : State) : Host.Outcome State Fault Refusal := .next (s.jobOfType id 0x4)
/-- EMBED_BAG (09 R295). -/
def execEmbedBag (id : Nat) (s : State) : Host.Outcome State Fault Refusal := .next (s.jobOfType id 0x5)
/-- KV_APPEND (09 R299). -/
def execKvAppend (id : Nat) (s : State) : Host.Outcome State Fault Refusal := .next (s.jobOfType id 0x6)
/-- KV_GATHER (09 R299). -/
def execKvGather (id : Nat) (s : State) : Host.Outcome State Fault Refusal := .next (s.jobOfType id 0x7)
/-- KV_AGE (09 R299). -/
def execKvAge (id : Nat) (s : State) : Host.Outcome State Fault Refusal := .next (s.jobOfType id 0x8)
/-- KV_FORK, mode FORK (09 R299). -/
def execKvFork (id : Nat) (s : State) : Host.Outcome State Fault Refusal :=
  .next (match s.job? id with
    | some j => if field (dword j.desc 4) 32 2 = 0 then s.jobOfType id 0x9 else s
    | none => s)
/-- KV_FORK, mode TRUNCATE (09 R299). -/
def execKvTruncate (id : Nat) (s : State) : Host.Outcome State Fault Refusal :=
  .next (match s.job? id with
    | some j => if field (dword j.desc 4) 32 2 = 1 then s.jobOfType id 0x9 else s
    | none => s)
/-- REKEY_COPY (09 R292, R294). -/
def execRekeyCopy (id : Nat) (s : State) : Host.Outcome State Fault Refusal := .next (s.jobOfType id 0xA)
/-- ZERO (09 R294). -/
def execZero (id : Nat) (s : State) : Host.Outcome State Fault Refusal := .next (s.jobOfType id 0xB)
/-- SCRUB (07 R244, 09 R294). -/
def execScrub (id : Nat) (s : State) : Host.Outcome State Fault Refusal := .next (s.jobOfType id 0xC)
/-- DIRTY_HARVEST (03 R122, 09 R294). -/
def execDirtyHarvest (id : Nat) (s : State) : Host.Outcome State Fault Refusal := .next (s.jobOfType id 0xD)

/-- JOB_COMPLETE (09 R289). -/
def execJobComplete (id : Nat) (s : State) : Host.Outcome State Fault Refusal := .next (s.unlessStopped fun s => s.jobComplete id)

/-- PAGE_WAIT_TIMEOUT (09 R300). -/
def execPageWaitTimeout (id : Nat) (s : State) : Host.Outcome State Fault Refusal := .next (s.pageTimeout id)

/-- SEQ_OPEN: a write of OPEN to JOB_SEQ_CMD of a slice (09 R296). -/
def execSeqOpen (sl : BitVec 7) (s : State) : Host.Outcome State Fault Refusal :=
  .next (s.mgWrite false fun s => s.seqCmd sl.toNat 1)

/-- SEQ_WINDOW_OPENED (09 R296). -/
def execSeqWindowOpened (sl : BitVec 7) (s : State) : Host.Outcome State Fault Refusal :=
  .next (s.unlessStopped fun s => s.seqOpened sl.toNat)

/-- SEQ_CLOSE: a write of CLOSE to JOB_SEQ_CMD of a slice (09 R296). -/
def execSeqClose (sl : BitVec 7) (s : State) : Host.Outcome State Fault Refusal :=
  .next (s.mgWrite false fun s => s.seqCmd sl.toNat 2)

end Sys2Proof.Machine
end

