-- ==== Sys2Proof/Machine/Ctx.lean ====
section
/-! DEFINITION. Contexts, objects and fences (11 R337 to R359): the commands of a function driver, what each boundary
applies, the kernel-boundary handshake (02 R68, R69), usage queries. -/

namespace Sys2Proof.Machine

/-! ### The front of the host port (02 R67, 06 R204, 13 R419) -/

/-- Answer a host tag without touching what is outstanding. -/
def State.hostSay (s : State) (tag : Nat) (st : Status) : State :=
  if s.portUp hostPort then s.emit (.hostRsp tag st 0) else s

/-- A host request arrives whose control parity holds: its tag is taken. `bad`: its data parity fails; `rsvd`: it holds a reserved
value. Both, or one and a tag in use, are one fault of the lower kind (02 R84). `true` where it goes on. -/
def State.hostArrive (s : State) (fn tag : Nat) (bad rsvd : Bool := false) (read : Bool := false) : State × Bool :=
  let dup := s.hostTags.any (·.1 == tag)
  let sl := (s.fnc fn).slice
  let tc := s.servedClass sl 1
  let said := if dup then (s.outcome sl tc 0).hostSay tag .denied
    else { s with hostTags := s.hostTags ++ [(tag, fn)] }.reqOpen
      { port := hostPort, tag := tag, slice := sl, tc := tc, since := s.blk.tick, read := read }
  let s' := if bad then said.portEvent hostPort 0x64 else if dup || rsvd then said.portEvent hostPort 0x66 else said
  if !s.portUp hostPort then (s, false)
  else if dup || !s'.portUp hostPort then (s', false)
  else
    let s := s'.note hostUnit 0x01 (some sl) 1
    let s := if tc = 1 then s else s.outcome sl 1 9
    if s.fatal then (s.hostRsp tag .timeout 0, false)
    else if s.fullHold then
      (((s.outcome sl tc 3).retryNote hostUnit sl .retry).hostRsp tag .retry 0, false)
    else (s, true)

/-- What a function's state answers a command of its driver (11 R339, 03 R114). `soft` marks those also accepted in
CREATED, QUIESCING and QUIESCED. -/
def State.fnGate (s : State) (f : Nat) (soft : Bool) : Status :=
  match (s.fnc f).state with
  | 0 => .denied
  | 1 => if soft then .ok else .denied
  | 2 => .ok
  | 3 | 4 => if soft then .ok else .refused
  | _ => .lost

/-! ### Context commands (11 R339, R340) -/

/-- Whether a memory key is ACTIVE and held by a function. -/
def State.keyHeld (s : State) (k f : Nat) : Bool := (s.key k).state == 1 && (s.key k).fn == f && !(s.key k).doomed
/-- The lowest free context slot of 96. -/
def State.freeSlotNo (s : State) : Option Nat := (List.range 96).find? fun c => (s.slot c).ctx.isNone
/-- The lowest number below `n` that a rising list of keys does not hold. -/
def lowestFree (n : Nat) : List Nat → Nat → Option Nat
  | [], k => if k < n then some k else none
  | a :: as, k => if k < a then (if k < n then some k else none) else lowestFree n as (max k (a + 1))
/-- The lowest-numbered FREE context. -/
def State.freeCtx (s : State) : Option Nat :=
  lowestFree 65536 ((s.ctxs.filter fun c => c.2.state != 0).map (·.1)) 0
/-- Resident contexts of a function. -/
def State.residentOf (s : State) (f : Nat) : Nat := (s.ctxs.filter fun c => c.2.state == 2 && c.2.fn == f).length

/-- Whether a slot is busy (11 R339 UNLOAD): bound, a job, an open reduce window, an armed kernel fence. -/
def State.slotBusy (s : State) (c x : Nat) : Bool :=
  (mget? s.bindings c).isSome || s.jobs.any (·.ctx == x)
    || s.rw.windows.any (fun w => w.2.state != 0 && w.2.ctx == x) || (s.slot c).armed

/-- CREATE (11 R339). -/
def State.ctxCreate (s : State) (f a0 : Nat) (arg1 : Reg) : State × Status × Nat :=
  let key := a0 / 2 ^ 32 % 2 ^ 13
  let first := field arg1 0 12
  let pages := field arg1 12 13
  let named := a0 % 65536
  let denied := !s.keyHeld key f || pages == 0 || decide (first + pages > 4096)
    || (List.range pages).any fun p => (s.fpage (first + p)).owner != f
  if (s.ctx named).state = 3 then (s, .lost, named)
  else if denied then (s, .denied, named)
  else match s.freeCtx with
    | none => (s, .refused, named)
    | some x =>
      (s.setCtx x { state := 1, slot := 127, fn := f, slice := (s.fnc f).slice, key := key, asid := a0 / 2 ^ 16 % 65536,
                    fenceFirst := first, fencePages := pages, lostVec := field arg1 25 11, lostIrq := bit arg1.toNat 36 },
        .ok, x)

/-- LOAD (11 R339): REFUSED beyond ctx_slots, without a free slot, or beyond ctx_load_rate in the tick (06 R208). -/
def State.ctxLoad (s : State) (f x : Nat) : State × Status :=
  let r := s.ctx x
  let rate := (s.qsl r.slice).loadRate
  let n := tget 0 s.qos.ctxLoads r.slice
  if s.ctxLost x then (s, .lost)
  else if r.state != 1 then (s, .denied)
  else if rate != 0 && n ≥ rate then (s.outcome r.slice (s.servedClass r.slice 1) 7, .refused)
  else if s.residentOf f ≥ (s.fnc f).ctxSlots then (s, .refused)
  else match s.freeSlotNo with
    | none => (s, .refused)
    | some c =>
      let s := { s with qos := { s.qos with ctxLoads := tset 0 s.qos.ctxLoads r.slice (n + 1) } }
      ((s.setCtx x { r with state := 2, slot := c }).setSlot c { ctx := some x }, .ok)

/-- A context command on one of the function's own contexts (11 R339). -/
def State.ctxOp (s : State) (op x key f : Nat) : State × Status :=
  let r := s.ctx x
  match op with
  | 2 => s.ctxLoad f x
  | 3 =>
    if r.slot ≥ 96 then (s, if r.state = 3 then .lost else .denied)
    else if s.slotBusy r.slot x then (s, .retry) else (s.freeSlot r.slot, .ok)
  | 4 => if r.state = 3 then (s, .lost) else (s.loseContext x 1, .ok)
  | 5 => if r.slot < 96 then (s, .retry) else (s.setCtx x {}, .ok)
  | 6 =>
    if r.state = 3 then (s, .lost)
    else if !s.keyHeld key f then (s, .denied)
    else
      let s := s.setCtx x { r with key := key }
      (if r.state = 2 then s.clearTrace r.slot else s, .ok)
  | _ => (s, .denied)

/-- Apply a function's pending context command at a boundary, and answer its write (11 R339). A command that the function's state
turns away has no effect; it returns the first in the order of 00 R16 of that status and its own. -/
def State.ctxApply (s : State) (f : Nat) : State :=
  let v := s.view f
  match v.ctxPending with
  | none => s
  | some (op, a0, a1, tag) =>
    let x := field a0 0 16
    let g := s.fnGate f (op != 2)
    let own := (s.ctx x).state != 0 && (s.ctx x).fn == f
    let (s1, st1, x1) := if op = 1 then s.ctxCreate f a0.toNat a1
      else if !own then (s, .denied, x)
      else
        let (s, st) := s.ctxOp op x (field a0 32 13) f
        (s, st, x)
    let (s, st, x) := if g = .ok then (s1, st1, x1) else (s, g.both st1, x)
    let slot := if (s.ctx x).state != 0 && (s.ctx x).fn == f then (s.ctx x).slot else 127
    let v := s.view f
    let s := s.setView f { v with
      ctxPending := none
      ctxStatus := rput x 0 16 ||| rput slot 16 7 ||| rput st.code 24 4 ||| rput s.tick32 32 32 }
    s.hostRsp tag st 0

/-- The write of VIEW_CTX_CMD (11 R339): RETRY while one is pending; the arguments are taken now. -/
def State.ctxCmd (s : State) (f tag op : Nat) : State :=
  let v := s.view f
  if v.ctxPending.isSome then (s.retryNote hostUnit (s.fnc f).slice .retry).hostRsp tag .retry 0
  else if op = 0 || op = 7 || s.isMirror then s.hostRsp tag .denied 0
  else s.setView f { v with ctxPending := some (op, v.ctxArg0, v.ctxArg1, tag) }

/-! ### Objects (11 R343 to R346) -/

/-- Whether an object's map holds a granule. -/
def ObjRec.holds (o : ObjRec) (g : Nat) : Bool := o.state != 0 && decide (o.first ≤ g) && decide (g < o.first + o.count)
/-- Whether a granule lies in the map of an object. -/
def State.mapped (s : State) (g : Nat) : Bool := s.objs.any fun o => o.2.holds g
/-- The lines of a granule range that a home holds or lists anywhere. -/
def State.linesIn (s : State) (h first count : Nat) : List Nat :=
  let x := s.home h
  let hit := fun l => lineChip l == s.chip && decide (first ≤ lineGran l) && decide (lineGran l < first + count)
  (((x.lines.map fun l => l.2.line) ++ x.filter.map (·.1) ++ (x.wbuf.filter fun w => !w.issued).map (·.line)).filter hit).eraseDups
/-- Discard every copy of the lines of a granule range without writing anything back (03 R107, 11 R345). -/
def State.discardRange (s : State) (first count : Nat) : State :=
  let s := (List.range 136).foldl (fun (s : State) h => (s.linesIn h first count).foldl (fun (s : State) l =>
    s.enter { id := 0, home := h, line := l, op := .discard, origin := .internal 0 0, internal := true,
              start := s.blk.tick }) s) s
  let hit := fun l => lineChip l == s.chip && decide (first ≤ lineGran l) && decide (lineGran l < first + count)
  let s := (List.range 136).foldl (fun (s : State) h =>
    if (s.buddy h).isSome || (s.home h).mirror.isEmpty then s
    else s.setHome h { s.home h with mirror := (s.home h).mirror.filter fun e => !hit e.1 }) s
  s.settle
/-- Whether nothing is left of a granule range in any home, and no request that passed the gate for it before a tick runs. -/
def State.rangeQuiet (s : State) (first count before : Nat) : Bool :=
  (List.range 136).all (fun h => (s.linesIn h first count).isEmpty) &&
  s.txns.all fun t => !(lineChip t.line == s.chip && decide (first ≤ lineGran t.line)
    && decide (lineGran t.line < first + count)) || (!(t.op == .discard) && decide (before ≤ t.start))

/-- Whether an object's entry or map cannot be read (11 R359). -/
def State.objUnread (s : State) (o : Nat) : Bool := s.ctxWin.badObjs.contains o
/-- Whether a run of granules meets the map of an object that cannot be read (11 R359). -/
def State.runUnread (s : State) (first count : Nat) : Bool :=
  s.ctxWin.badObjs.any fun o => decide ((s.obj o).first < first + count) && decide (first < (s.obj o).first + (s.obj o).count)
/-- A command of a function names an object or a granule whose entry cannot be read: kind 0x5A (11 R359). -/
def State.objLost (s : State) (f : Nat) (ty sub : Nat) : State := s.raise hostUnit 0x5A 2 ty sub (s.fnc f).slice f

/-- CREATE of an object (11 R344). -/
def State.objCreate (s : State) (f : Nat) (arg : Reg) : State × Status × Nat :=
  let first := field arg 0 20
  let count := field arg 20 21
  let x := field arg 41 16
  let hasCtx := bit arg.toNat 57
  let held := (s.own.filter fun e => decide (first ≤ e.1) && decide (e.1 < first + count) && e.2.gstate == 1
    && e.2.fn == f && e.2.slice == (s.fnc f).slice).length
  let clash := s.objs.any fun o => o.2.state != 0 && !s.objUnread o.1 && decide (o.2.first < first + count)
    && decide (first < o.2.first + o.2.count)
  if count = 0 || first + count > 1048576 || held != count || clash
      || (hasCtx && ((s.ctx x).state == 0 || (s.ctx x).fn != f)) then (s, .denied, 0)
  else if s.runUnread first count then (s.objLost f 8 first, .poison, 0)
  else match lowestFree 4194304 ((s.objs.filter fun o => o.2.state != 0).map (·.1)) 0 with
    | none => (s, .refused, 0)
    | some o => (s.setObj o { s.obj o with state := 1, fn := f, ctx := x, ctxValid := hasCtx, first := first, count := count },
        .ok, o)

/-- Set the gstate of an object's granules. -/
def State.objGstate (s : State) (o : ObjRec) (old dst : Nat) : State :=
  let go := fun (e : Nat × OwnEntry) => if o.holds e.1 && e.2.gstate == old then (e.1, { e.2 with gstate := dst }) else e
  { s with own := s.own.map go }.dropOwn fun tl => decide (o.first / 16 ≤ tl) && decide (16 * tl < o.first + o.count)

/-- Free a LIVE object at boundary F (11 R345): its generation goes up, its granules are QUARANTINED, its lines discarded. -/
def State.freeObj (s : State) (o : Nat) : State :=
  let r := s.obj o
  let r' := { r with state := 2, gen := (r.gen + 1) % 65536, freedAt := s.blk.tick }
  let s := { s with ctxWin := { s.ctxWin with badObjs := s.ctxWin.badObjs.filter (· != o) } }
  let s := (s.setObj o r').objGstate r 1 2
  s.discardRange r.first r.count

/-- FREE of an object by handle (11 R344, R345). -/
def State.objFree (s : State) (f o gen : Nat) : State × Status :=
  let r := s.obj o
  if s.objUnread o then (s.objLost f 0 0, .poison)
  else if r.state != 1 || r.gen != gen then (s, .stale)
  else if r.fn != f then (s, .denied)
  else (s.freeObj o, .ok)

/-- Apply a function's pending object command (11 R344), with its status chosen as `ctxApply` does. -/
def State.objApply (s : State) (f : Nat) : State :=
  match (s.view f).objPending with
  | none => s
  | some (op, o, gen, arg, tag) =>
    let g := s.fnGate f true
    let (s1, st1, o1) := if op = 1 then s.objCreate f arg
      else
        let (s, st) := s.objFree f o gen
        (s, st, o)
    let (s, st, o) := if g = .ok then (s1, st1, o1) else (s, g.both st1, o)
    let gen := if st = .ok then (s.obj o).gen else gen
    let s := s.setView f { s.view f with
      objPending := none
      objStatus := rput o 0 22 ||| rput gen 22 16 ||| rput st.code 38 4 }
    s.hostRsp tag st 0

/-- The write of VIEW_OBJ_CMD (11 R344). -/
def State.objCmd (s : State) (f tag op o gen : Nat) : State :=
  let v := s.view f
  if v.objPending.isSome then (s.retryNote hostUnit (s.fnc f).slice .retry).hostRsp tag .retry 0
  else if (op != 1 && op != 2) || s.isMirror then s.hostRsp tag .denied 0
  else s.setView f { v with objPending := some (op, o, gen, v.objArg, tag) }

/-- Append a drain report; at most 64 wait, the oldest dropped (11 R357). -/
def View.drain (v : View) (r : Nat × Nat) : View :=
  { v with drained := (v.drained ++ [r]).drop (v.drained.length + 1 - 64)
           drainedOverflow := v.drainedOverflow || decide (v.drained.length ≥ 64) }

/-- A freed object has drained at a boundary after F: its granules return, it becomes FREE and is reported (11 R345). -/
def State.objDrained (s : State) (o : Nat) : State :=
  let r := s.obj o
  if r.state = 2 && r.freedAt < s.blk.tick && s.rangeQuiet r.first r.count r.freedAt then
    let s := (s.objGstate r 2 1).setObj o { gen := r.gen }
    s.setView r.fn ((s.view r.fn).drain (o, r.gen))
  else s

/-- Read VIEW_OBJ_DRAINED: the oldest report and the flags, taken by the read (11 R357). -/
def State.drainedRead (s : State) (f : Nat) : Reg × State :=
  let v := s.view f
  let (o, g) := v.drained.headD (0, 0)
  (rput o 0 22 ||| rput g 22 16 ||| rflag (!v.drained.isEmpty) 38 ||| rflag v.drainedOverflow 39,
    s.setView f { v with drained := v.drained.tail, drainedOverflow := false })

/-! ### Fence pages and records (11 R351 to R354) -/

/-- The write of CTX_FPAGE_CMD (11 R351). -/
def State.fpageCmd (s : State) (cmd : Reg) : State :=
  match s.ctxWin.pending with
  | some _ => { s with ctxWin := { s.ctxWin with result := 6 } }
  | none => { s with ctxWin := { s.ctxWin with pending := some cmd } }

/-- The result of a fence page command (11 R351, 03 R109). -/
def State.fpageResult (s : State) (cmd : Reg) : Nat :=
  let first := field cmd 0 12
  let count := field cmd 12 13
  let owner := field cmd 25 12
  let reader := field cmd 37 12
  let free := fun f => f != 0 && (s.fnc f).state == 0
  if count = 0 || first + count > 4096 || free owner || free reader || field cmd 49 2 = 3 then 5
  else
    let moves := fun p => decide (first ≤ p) && decide (p < first + count) && (s.fpage p).owner != owner
    let pend := s.fences.any fun x => x.2.pending != 0 && moves (x.1 / 256)
    let inRegion := s.ctxs.any fun c => c.2.state != 0 && (List.range c.2.fencePages).any fun k => moves (c.2.fenceFirst + k)
    if s.isMirror || pend || inRegion then 1 else 0

/-- Apply a pending fence page command at a boundary (11 R351). -/
def State.fpageApply (s : State) : State :=
  match s.ctxWin.pending with
  | none => s
  | some cmd =>
    let res := s.fpageResult cmd
    let first := field cmd 0 12
    let e : FPage := { owner := field cmd 25 12, reader := field cmd 37 12, peer := field cmd 49 2, vec := field cmd 51 11,
                       irqEn := bit cmd.toNat 62 }
    let s := if res != 0 then s else
      let reset := fun i => decide (first ≤ i / 256) && decide (i / 256 < first + field cmd 12 13)
        && (s.fpage (i / 256)).owner != e.owner
      let s := { s with fences := s.fences.filter fun x => !reset x.1 }
      forRange first (fun p (s : State) => s.setFpage p e) (field cmd 12 13) s
    ({ s with ctxWin := { pending := none, result := res, applyTick := s.tick32 } }).mgIrq 0x0B

/-- Rewrite an unreadable fence record (11 R354): ERROR, value all ones, source block, FENCE_LOST, pending 0; kind 0x59. -/
def State.fenceRepair (s : State) (i : Nat) : State :=
  let f := s.fence i
  let s := s.setFence i { f with value := fenceDead, state := 3, source := 4, detail := 0x10, pending := 0 }
  let s := { s with badFences := s.badFences.filter (· != i) }
  let o := (s.fpage (i / 256)).owner
  (s.raise hostUnit 0x59 2 5 i (s.fnc o).slice o).fencePageIrq i

/-- The write of VIEW_SLOT_KFENCE[c] with arm (11 R353); the response carries the arming status. -/
def State.kfenceArm (s : State) (f tag c fence : Nat) : State :=
  match (s.slot c).ctx with
  | none => s.hostRsp tag .denied 0
  | some x =>
    if (s.ctx x).fn != f || (s.slot c).armed || s.isMirror then s.hostRsp tag .denied 0
    else if s.ctxLost x then s.hostRsp tag .lost 0
    else
      let st := s.armStatus x fence
      let s := s.setSlot c { s.slot c with kfence := fence, armed := st == .ok }
      (if st = .ok then s.armFence x fence else s).hostRsp tag st 0

/-! ### Usage (11 R355) -/

/-- A write of VIEW_USAGE_QUERY that sets request. -/
def State.usageAsk (s : State) (f x : Nat) : State :=
  let v := s.view f
  s.setView f { v with usageCtx := x, usagePending := true, usageReady := false }

/-- The estimate of a context's share of its slice's LLC lines (11 R355). -/
def State.llcShare (s : State) (sl x : Nat) : Nat :=
  let fs := s.fills.filter fun e => e.2.1 == sl
  let mine := (fs.filter fun e => e.2.2 == x + 1).length
  let held := (List.range 136).foldl (fun a h => a + s.occupancy h sl) 0
  if fs.isEmpty then 0 else held * mine / fs.length

/-- Capture a pending usage query at a boundary. -/
def State.usageCapture (s : State) (f : Nat) : State :=
  let v := s.view f
  if !v.usagePending then s
  else
    let r := s.ctx v.usageCtx
    if r.state = 0 || r.fn != f then s.setView f { v with usagePending := false, usageReady := false, usageRefused := true }
    else
      let gr := (s.objs.filter fun o => o.2.state == 1 && o.2.ctxValid && o.2.ctx == v.usageCtx).foldl
        (fun a o => a + o.2.count) 0
      s.setView f { v with usagePending := false, usageReady := true,
                           usage := [r.bytesRead, r.bytesWritten, r.hslBusy, r.jobFclk, gr, s.llcShare r.slice v.usageCtx] }

/-! ### The kernel boundary (02 R66, R68, R69) -/

/-- The front of the handshake: parity, block-fatal, a full hold. `true` where the request goes on. -/
def State.kbEnter (s : State) (ty : Nat) (k : KbReq) : State × Bool :=
  if !s.portUp hostPort then (s, false)
  else if !kbCparOk ty k then (s.portEvent hostPort 0x63, false)
  else if k.rsvd then ((s.kbAck k.seq.toNat .denied).portEvent hostPort 0x66, false)
  else if s.fatal then (s.kbAck k.seq.toNat .timeout, false)
  else if s.fullHold then ((s.note hostUnit 0x06 none 1).kbAck k.seq.toNat .retry, false)
  else (s, true)

/-- The status of a START (02 R68, 03 R114), chosen by 00 R16. -/
def State.startStatus (s : State) (c first count : Nat) : Status :=
  let x := if c < 96 then (s.slot c).ctx else none
  let range := count == 0 || decide (first + count > 256) || (mget? s.bindings c).isSome
    || s.bindings.any fun b => decide (b.2.first < first + count) && decide (first < b.2.first + b.2.count)
  match x with
  | none => .denied
  | some x =>
    let a := s.fnGate (s.ctx x).fn false
    let b := if range then Status.denied else .ok
    (a.both b).both (if s.ctxLost x then .lost else .ok)

/-- START (02 R68): bind the slot; the current marker of each port is 0 (15 R462). -/
def State.kbStart (s : State) (k : KbReq) : State :=
  let c := k.slot.toNat
  let st := s.startStatus c k.first.toNat k.count.toNat
  if st = .ok then
    let s := { s with bindings := mput s.bindings c { first := k.first.toNat, count := k.count.toNat } }
    let s := forRange k.first.toNat (fun p (s : State) => s.setTile p { s.tile p with marker := 0 }) k.count.toNat s
    s.kbAck k.seq.toNat .ok
  else s.kbAck k.seq.toNat st

/-- END (02 R68, 11 R342): a lost binding is answered LOST and removed; else END waits for the writes. -/
def State.kbEnd (s : State) (k : KbReq) : State :=
  let c := k.slot.toNat
  match mget? s.bindings c with
  | none => s.kbAck k.seq.toNat .denied
  | some b =>
    let lost := b.lost || (match (s.slot c).ctx with | some x => s.ctxLost x | none => true)
    if lost then (s.kbAck k.seq.toNat .lost).unbind c
    else if b.ending.isSome then s.kbAck k.seq.toNat .denied
    else { s with bindings := mput s.bindings c { b with ending := some (k.seq.toNat, s.blk.tick) } }

/-- Whether every write accepted on a binding's ports has reached its home (02 R68, 10 R323): none is held, none posted or
written back to another chip waits to be performed. -/
def State.writesHome (s : State) (b : Binding) : Bool :=
  let mine := fun p => decide (b.first ≤ p) && decide (p < b.first + b.count)
  s.held.all (fun h => !mine h.port || (match h.cmd with
    | .rdShared _ _ | .rdUnique _ _ | .rdOnce _ _ | .rdSeq _ _ => true | _ => false)) &&
  s.remotes.all fun r => !((match r.port with | some p => mine p | none => false) && r.kind != 0 && r.done.isNone)

/-- END is acknowledged OK: the kernel fence completes, the binding goes (02 R68, 11 R353). -/
def State.endComplete (s : State) (c : Nat) : State :=
  match mget? s.bindings c with
  | none => s
  | some b => match b.ending with
    | none => s
    | some (q, _) =>
      if b.lost || !s.writesHome b then s
      else
        let k := s.slot c
        let s := if k.armed then (s.setSlot c { k with armed := false }).fenceOk k.kfence 3 k.kvalue else s
        (s.kbAck q .ok).unbind c

/-- The writes of an END have not reached their homes within 8 ticks (02 R69): TIMEOUT, and the context is lost. -/
def State.endTimeout (s : State) (c : Nat) : State :=
  match mget? s.bindings c with
  | none => s
  | some b => match b.ending with
    | none => s
    | some (q, t) =>
      if s.blk.tick < t + 8 || s.writesHome b then s
      else
        let s := { s with bindings := mput s.bindings c { b with lost := true, ending := none } }
        let s := s.kbAck q .timeout
        match (s.slot c).ctx with | some x => s.willLose x 3 | none => s

/-- ABORT (02 R68): the binding is removed without a wait and the context is lost; an END that waits is answered LOST. -/
def State.kbAbort (s : State) (k : KbReq) : State :=
  let c := k.slot.toNat
  match mget? s.bindings c with
  | none => s.kbAck k.seq.toNat .denied
  | some b =>
    let x := (s.slot c).ctx
    let lost := b.lost || (match x with | some x => s.ctxLost x | none => true)
    if lost then (s.kbAck k.seq.toNat .lost).unbind c
    else
      let s := match b.ending with | some (q, _) => s.kbAck q .lost | none => s
      let s := (s.kbAck k.seq.toNat .ok).unbind c
      match x with | some x => s.willLose x 2 | none => s

/-! ### The commands -/

/-- Pass the class hold of a park at the host port, or hold the request there (06 R197, R198, R203). -/
def State.hostGate (s : State) (fn tag : Nat) (cmd : Instr) (go : State → State) : State :=
  let sl := (s.fnc fn).slice
  let tc := s.servedClass sl 1
  if s.blk.parked && tc == 3 then
    s.holdReq hostPort tag tc sl cmd fun s st free => if free then s.hostRsp tag st 0 else s.hostSay tag st
  else go s

/-- A host command of a function driver, once its tag is taken. -/
def State.hostCmd (s : State) (f tag : Nat) (cmd : Instr) (act : State → State) : State :=
  match s.hostArrive f tag with
  | (s, true) => s.hostGate f tag cmd act
  | (s, false) => s

/-- A 64-bit read of VIEW_OBJ_DRAINED (11 R357). -/
def State.drainedRsp (s : State) (f tag : Nat) : State :=
  if (s.fnc f).state = 0 then s.hostRsp tag .ok 0
  else
    let (d, s) := s.drainedRead f
    s.hostRsp tag .ok (d.setWidth 1024)
/-- A write that asks for the usage of a context (11 R355). -/
def State.usageReq (s : State) (f tag ctx : Nat) : State :=
  (if (s.fnc f).state = 0 then s else s.usageAsk f ctx).hostRsp tag .ok 0

/-- CTX_CREATE (11 R339). -/
def execCtxCreate (f : BitVec 12) (tag : BitVec 10) (s : State) : Host.Outcome State Fault Refusal :=
  .next (s.hostCmd f.toNat tag.toNat (.ctxCreate f tag) fun s => s.ctxCmd f.toNat tag.toNat 1)
/-- CTX_LOAD (11 R339). -/
def execCtxLoad (f : BitVec 12) (tag : BitVec 10) (s : State) : Host.Outcome State Fault Refusal :=
  .next (s.hostCmd f.toNat tag.toNat (.ctxLoad f tag) fun s => s.ctxCmd f.toNat tag.toNat 2)
/-- CTX_UNLOAD (11 R339). -/
def execCtxUnload (f : BitVec 12) (tag : BitVec 10) (s : State) : Host.Outcome State Fault Refusal :=
  .next (s.hostCmd f.toNat tag.toNat (.ctxUnload f tag) fun s => s.ctxCmd f.toNat tag.toNat 3)
/-- CTX_ABANDON (11 R339, R341, R342). -/
def execCtxAbandon (f : BitVec 12) (tag : BitVec 10) (s : State) : Host.Outcome State Fault Refusal :=
  .next (s.hostCmd f.toNat tag.toNat (.ctxAbandon f tag) fun s => s.ctxCmd f.toNat tag.toNat 4)
/-- CTX_DESTROY (11 R339). -/
def execCtxDestroy (f : BitVec 12) (tag : BitVec 10) (s : State) : Host.Outcome State Fault Refusal :=
  .next (s.hostCmd f.toNat tag.toNat (.ctxDestroy f tag) fun s => s.ctxCmd f.toNat tag.toNat 5)
/-- SET_KEY (11 R340). -/
def execSetKey (f : BitVec 12) (tag : BitVec 10) (s : State) : Host.Outcome State Fault Refusal :=
  .next (s.hostCmd f.toNat tag.toNat (.setKey f tag) fun s => s.ctxCmd f.toNat tag.toNat 6)
/-- OBJ_CREATE (11 R344). -/
def execObjCreate (f : BitVec 12) (tag : BitVec 10) (s : State) : Host.Outcome State Fault Refusal :=
  .next (s.hostCmd f.toNat tag.toNat (.objCreate f tag) fun s => s.objCmd f.toNat tag.toNat 1 0 0)
/-- OBJ_FREE (11 R344, R345). -/
def execObjFree (f : BitVec 12) (tag : BitVec 10) (object : BitVec 22) (gen : BitVec 16) (s : State) :
    Host.Outcome State Fault Refusal :=
  .next (s.hostCmd f.toNat tag.toNat (.objFree f tag object gen) fun s =>
    s.objCmd f.toNat tag.toNat 2 object.toNat gen.toNat)
/-- OBJECT_DRAINED (11 R345). -/
def execObjectDrained (object : BitVec 22) (s : State) : Host.Outcome State Fault Refusal :=
  .next (s.objDrained object.toNat)
/-- OBJ_DRAINED_READ (11 R357): a 64-bit read of VIEW_OBJ_DRAINED. -/
def execObjDrainedRead (f : BitVec 12) (tag : BitVec 10) (s : State) : Host.Outcome State Fault Refusal :=
  .next (s.hostCmd f.toNat tag.toNat (.objDrainedRead f tag) fun s => s.drainedRsp f.toNat tag.toNat)
/-- KFENCE_ARM (11 R353). -/
def execKfenceArm (f : BitVec 12) (tag : BitVec 10) (c : BitVec 7) (fence : BitVec 20) (s : State) :
    Host.Outcome State Fault Refusal :=
  .next (s.hostCmd f.toNat tag.toNat (.kfenceArm f tag c fence) fun s =>
    s.kfenceArm f.toNat tag.toNat c.toNat fence.toNat)
/-- CTX_FPAGE_CMD (11 R351). -/
def execCtxFpageCmd (cmd : Reg) (s : State) : Host.Outcome State Fault Refusal :=
  .next (s.mgWrite false fun s => s.fpageCmd cmd)
/-- FENCE_RECORD_REPAIR (11 R354): record i was found unreadable and is rewritten. -/
def execFenceRecordRepair (i : BitVec 20) (s : State) : Host.Outcome State Fault Refusal :=
  .next (s.fenceRepair i.toNat)
/-- USAGE_QUERY (11 R355). -/
def execUsageQuery (f : BitVec 12) (tag : BitVec 10) (ctx : BitVec 16) (s : State) : Host.Outcome State Fault Refusal :=
  .next (s.hostCmd f.toNat tag.toNat (.usageQuery f tag ctx) fun s => s.usageReq f.toNat tag.toNat ctx.toNat)
/-- KB_START (02 R68). -/
def execKbStart (k : KbReq) (s : State) : Host.Outcome State Fault Refusal :=
  .next (match s.kbEnter 0 k with | (s, true) => s.kbStart k | (s, false) => s)
/-- KB_END (02 R68). -/
def execKbEnd (k : KbReq) (s : State) : Host.Outcome State Fault Refusal :=
  .next (match s.kbEnter 1 k with | (s, true) => s.kbEnd k | (s, false) => s)
/-- END_COMPLETE (02 R68). -/
def execEndComplete (slot : BitVec 7) (s : State) : Host.Outcome State Fault Refusal := .next (s.unlessStopped fun s => s.endComplete slot.toNat)
/-- END_TIMEOUT (02 R69). -/
def execEndTimeout (slot : BitVec 7) (s : State) : Host.Outcome State Fault Refusal := .next (s.endTimeout slot.toNat)
/-- KB_ABORT (02 R68). -/
def execKbAbort (k : KbReq) (s : State) : Host.Outcome State Fault Refusal :=
  .next (match s.kbEnter 2 k with | (s, true) => s.kbAbort k | (s, false) => s)

end Sys2Proof.Machine
end

