-- ==== Sys2Proof/Machine/Vault.lean ====
section
/-! DEFINITION. The vault (12): the root, derivations, key slots and their loads, link keys, agreements, certificates.
What the published algorithms compute is free (`Config`, log entry 8). -/

namespace Sys2Proof.Machine

/-! ### Bytes of the derivations -/

/-- The 48 B of a digest. -/
def digestBytes (d : Digest) : List Byte := leBytes d.toNat 48
/-- The bytes of an ASCII string. -/
def ascii (t : String) : List Byte := t.toList.map fun c => BitVec.ofNat 8 c.toNat
/-- HMAC-SHA-384 under a key of at most 128 B (12 R367). -/
def hmac (key m : List Byte) : List Byte :=
  let k := padTo key 128
  digestBytes (Config.sha384 (k.map (· ^^^ 0x5C) ++ digestBytes (Config.sha384 (k.map (· ^^^ 0x36) ++ m))))
/-- The counter-mode KDF of 12 R367: the first `len` bits, in bytes. -/
def kdfBytes (key : List Byte) (label : String) (ctx : List Byte) (len : Nat) : List Byte :=
  let block := fun i => hmac key (beBytes (i + 1) 4 ++ ascii label ++ [0] ++ ctx ++ beBytes len 4)
  ((List.range ((len + 383) / 384)).flatMap block).take (len / 8)
/-- The same, its first byte in the low bits. -/
def kdf (key : List Byte) (label : String) (ctx : List Byte) (len : Nat) : BitVec 832 :=
  BitVec.ofNat 832 (leNat (kdfBytes key label ctx len))

/-- The next 256 bits of the DRBG. -/
def State.draw (s : State) : BitVec 256 × State := (Config.drbg s.freeCount, s.useFree)

/-- S as bytes; empty without a root. -/
def State.seedBytes (s : State) : List Byte := match s.vault.seed with | some d => digestBytes d | none => []
/-- CDI_alias (12 R368). -/
def State.cdiAlias (s : State) : List Byte := kdfBytes s.seedBytes "ALIAS" (digestBytes s.vault.measure) 384
/-- The identity key pair's derivation. -/
def State.idKey (s : State) : BitVec 832 := kdf s.seedBytes "ID" [] 448
/-- The alias key pair's derivation. -/
def State.aliasKey (s : State) : BitVec 832 := kdf s.cdiAlias "KEY" [] 448
/-- The import key pair's derivation. -/
def State.importKey (s : State) : BitVec 832 := kdf s.cdiAlias "IMPORT" [] 448
/-- K_mem. -/
def State.memKey (s : State) : List Byte := kdfBytes s.seedBytes "MEM" (digestBytes s.vault.measure) 384

/-- M (12 R368): firmware digest, IMG_BOOT_DIGEST, BLK_VERSION. -/
def State.measureOf (s : State) : Digest :=
  Config.sha384 (digestBytes s.fawn.fwDigest ++ digestBytes s.img.bootDigest ++ leBytes blkVersion 8)

/-- The material of a memory slot (12 R368): drawn again with the next count while H is 0. -/
def State.slotMaterialN : Nat → State → Nat → Nat → BitVec 832 × Nat × State
  | 0, s, _, n => (0, n, s)
  | fuel + 1, s, k, n =>
    let (r, s) := s.draw
    let m := kdf s.memKey "SLOT" (leBytes k 2 ++ leBytes n 2 ++ leBytes r.toNat 32) 832
    if field m 512 64 = 0 then State.slotMaterialN fuel s k ((n + 1) % 65536) else (m, n, s)

/-- The material of a slot at its present count. -/
def State.slotMaterial (s : State) (k : Nat) : BitVec 832 × Nat × State := s.slotMaterialN 65536 k (s.key k).loadCount

/-- The vault serves keys and signs (12 R364): READY. -/
def State.vaultReady (s : State) : Bool := s.vault.state == 2
/-- The vault signs: READY, outside factory test, not block-fatal (03 R127, 13 R419). -/
def State.vaultSigns (s : State) : Bool := s.vaultReady && !s.test.factory && !s.fatal

/-! ### The root (12 R362, R363) -/

/-- Whether a hoofprint passes step 1 of R363. -/
def hoofOk (h : List Byte) : Bool :=
  decide (h.length ≥ 1552) && leAt h 0 4 == 0x464F4F48 && leAt h 4 2 == 1 && decide (leAt h 6 2 ≥ 3577)
    && leNat (slice h 0x5E0 48) == (Config.sha384 (h.take 0x5E0)).toNat

/-- Raise a kind of the vault against slice 0, or another. -/
def State.vltRaise (s : State) (kind cls : Nat) (sl : Nat := 0) (sub : Nat := 0) (v : Nat := 0) : State :=
  s.raise vltUnit kind cls sub v sl 0

/-- The hoofprint arrives (12 R363 step 1): regeneration starts, or NO_ROOT with kind 0xA2. -/
def State.hoofprint (s : State) : State :=
  if s.vault.state = 0 && s.fawn.fabricGood then
    match s.vault.hoofprint with
    | some h =>
      if hoofOk h then { s with vault := { s.vault with state := 1, rootTries := 0, arrayOn := true, tryTick := some s.blk.tick } }
      else { (s.vltRaise 0xA2 2) with vault := { s.vault with state := 3 } }
    | none => { (s.vltRaise 0xA2 2) with vault := { s.vault with state := 3 } }
  else s

/-- S from a response (12 R362). -/
def seedOf (r : BitVec 3577) : Digest := Config.sha384 (ascii "EVASTUND UTRUN ROOT" ++ leBytes r.toNat 448)
/-- The check of a hoofprint under S. -/
def hoofCheck (d : Digest) : List Byte := kdfBytes (digestBytes d) "HOOFCHECK" [] 128

/-- The root is regenerated: keys are derived and the identity chain compared (12 R381). -/
def State.rootFound (s : State) (d : Digest) (tries : Nat) : State :=
  let s := { s with vault := { s.vault with seed := some d, rootTries := tries, tryTick := none } }
  let s := if tries > 1 then s.vltRaise 0xA0 1 else s
  let ok := match s.fawn.boot.chain with
    | some c => Config.chainKey c == Config.publicKey s.idKey
    | none => false
  let s := { s with vault := { s.vault with certMatch := ok } }
  if ok then s else s.vltRaise 0xA4 1

/-- The majority of each group of 7 bits (12 R363). -/
def majority7 (x : BitVec 3577) : BitVec 511 :=
  BitVec.ofNat 511 ((List.range 511).foldl (fun a i =>
    if popCount ((x.toNat >>> (7 * i)) % 128) 7 ≥ 4 then a + 1 <<< i else a) 0)
/-- Each bit of a code word 7 times (12 R362). -/
def repeat7 (c : BitVec 511) : BitVec 3577 :=
  BitVec.ofNat 3577 ((List.range 511).foldl (fun a i => if Nat.testBit c.toNat i then a + 127 <<< (7 * i) else a) 0)
/-- The array's enrolled response from one read and the helper (12 R363 step 3). -/
def rootDecode (resp w : BitVec 3577) : Option (BitVec 3577) :=
  (Config.bchDecode (majority7 (resp ^^^ w))).map fun c => repeat7 c ^^^ w

/-- A try of R363 with the array's response: success, another try, or FAILED. -/
def State.rootTry (s : State) (resp : BitVec 3577) : State :=
  let v := s.vault
  if v.state = 1 && v.seed.isNone && v.arrayOn then
    let h := v.hoofprint.getD []
    let n := v.rootTries + 1
    let w : BitVec 3577 := BitVec.ofNat 3577 (leNat (slice h 0x410 448))
    let found := match rootDecode resp w with
      | some r => if hoofCheck (seedOf r) == slice h 0x5D0 16 then some (seedOf r) else none
      | none => none
    match found with
    | some d => s.rootFound d n
    | none =>
      if n ≥ 3 then { (s.vltRaise 0xA1 2) with vault := { v with state := 4, rootTries := n, arrayOn := false, tryTick := none } }
      else { s with vault := { v with rootTries := n, arrayOn := false, tryTick := some s.blk.tick } }
  else s

/-- The array's supply has been removed for 16 ticks: the next try begins (12 R363 step 5). -/
def State.rootRetry (s : State) : State :=
  let v := s.vault
  match v.tryTick with
  | some t => if v.state = 1 && !v.arrayOn && s.blk.tick ≥ t + 16 then
      { s with vault := { v with arrayOn := true, tryTick := some s.blk.tick } } else s
  | none => s

/-! ### Certificates and the measured derivation (12 R365, R368, R369, R383, R384) -/

/-- The fields that enter both certificates (12 R383). -/
def State.certFields (s : State) : List Byte :=
  leBytes blkVersion 8 ++ digestBytes s.fawn.fwDigest ++ digestBytes s.img.bootDigest
/-- The alias certificate. -/
def State.aliasCert (s : State) : List Byte := Config.certificate s.idKey (Config.publicKey s.aliasKey) s.certFields
/-- The import certificate. -/
def State.importCertOf (s : State) : List Byte := Config.certificate s.idKey (Config.publicKey s.importKey) s.certFields
/-- The identity chain in use: the boot store's, or a self-signed certificate (12 R381). -/
def State.idChain (s : State) : List Byte :=
  if s.vault.certMatch then s.fawn.boot.chain.getD [] else Config.certificate s.idKey (Config.publicKey s.idKey) []
/-- The chain of VLT_CERT_BUF (12 R384). -/
def State.certChain (s : State) : List Byte :=
  let ders := s.idChain ++ s.aliasCert
  leBytes (52 + ders.length) 2 ++ [0, 0] ++ digestBytes (Config.sha384 (Config.rootCert s.idChain)) ++ ders

/-- Derive what depends on M and issue the certificates (12 R368, R369, R383). -/
def State.deriveMeasured (s : State) : State :=
  let s := { s with vault := { s.vault with measure := s.measureOf, aliasGen := (s.vault.aliasGen + 1) % 65536 } }
  { s with vault := { s.vault with certBuf := s.certChain, importCert := s.importCertOf } }

/-- Load slot 0 or 8191 with material: ACTIVE, usage of 12 R370. -/
def State.loadSystem (s : State) (k : Nat) (m : BitVec 832) (n : Nat := 0) : State :=
  s.setKey k { s.key k with state := 1, usage := if k = 8191 then 2 else 3, material := m, loadCount := (n + 1) % 65536 }

/-- 832 bits of the DRBG. -/
def State.draw832 (s : State) : BitVec 832 × State :=
  let (a, s) := s.draw
  let (b, s) := s.draw
  let (c, s) := s.draw
  let (d, s) := s.draw
  (BitVec.ofNat 832 (a.toNat + b.toNat <<< 256 + c.toNat <<< 512 + d.toNat <<< 768), s)

/-- Material of the DRBG for slot 0 or 8191, drawn again while H is 0 (07 R219, 12 R365). -/
def State.drawKeyN : Nat → State → BitVec 832 × State
  | 0, s => s.draw832
  | n + 1, s =>
    let (m, s) := s.draw832
    if field m 512 64 = 0 then State.drawKeyN n s else (m, s)

/-- The core has failed its own checks (12 R364): FATAL, the root zeroized. -/
def State.vaultFatal (s : State) : State :=
  { s with vault := { s.vault with state := 7, seed := none, certMatch := false, arrayOn := false, tryTick := none, enrolling := none } }

/-- The vault's part of APPLY (12 R364, R365, R368): READY with measured keys where the root is held, else slots 0 and 8191
from the DRBG. -/
def State.vaultApply (s : State) : State :=
  if s.vault.state = 1 && s.vault.seed.isSome then
    let s := s.deriveMeasured
    let s := { s with vault := { s.vault with state := 2, readyTick := s.tick32 } }
    let (m, n, s) := s.slotMaterial 0
    let s := s.loadSystem 0 m n
    let (m, n, s) := s.slotMaterial 8191
    s.loadSystem 8191 m n
  else
    let (m, s) := s.drawKeyN 65536
    let s := s.loadSystem 0 m
    let (m, s) := s.drawKeyN 65536
    s.loadSystem 8191 m

/-! ### Memory keys: ALLOCATE, REPLACE, the swap (12 R373 to R376) -/

/-- Key IDs charged to a function (07 R229). -/
def State.keysOf (s : State) (f : Nat) : List Nat :=
  (s.keys.filter fun k => k.1 != 0 && k.1 != 8191 && k.2.fn == f && !k.2.doomed && (k.2.state != 0 || k.2.staged)).map (·.1)
/-- The lowest FREE tenant key ID. -/
def State.freeKey (s : State) : Option Nat :=
  lowestFree 8191 ((s.keys.filter fun k => k.1 != 0 && (k.2.state != 0 || k.2.staged)).map (·.1)) 1
/-- Whether an ownership entry in some gstates names a key (07 R230, 12 R375). -/
def State.keyNamed (s : State) (k : Nat) (gs : List Nat) : Bool := s.own.any fun e => e.2.key == k && gs.contains e.2.gstate

/-- Complete the key command with a result (12 R387). -/
def State.keyCmdDone (s : State) (res id : Nat) : State :=
  ({ s with vault := { s.vault with keyCmd := { pending := none, result := res, id := id, applyTick := s.tick32 } } }).mgIrq 0x0C

/-- The write of VLT_KEY_CMD (12 R387). -/
def State.keyCmdWrite (s : State) (op k fn : Nat) : State :=
  match s.vault.keyCmd.pending with
  | some _ => { s with vault := { s.vault with keyCmd := { s.vault.keyCmd with result := 6 } } }
  | none => { s with vault := { s.vault with keyCmd := { s.vault.keyCmd with pending := some (op, k, fn, 0) } } }

/-- Derive a slot's material into its staging half (12 R374 step 1). -/
def State.stageKey (s : State) (k fn : Nat) : State :=
  let (m, n, s) := s.slotMaterial k
  s.setKey k { s.key k with staged := true, staging := m, stagedTick := s.blk.tick, fn := fn, slice := (s.fnc fn).slice,
                            loadCount := n, usage := 3 }

/-- The result that refuses an ALLOCATE, 0 where it passes, and the key ID it takes (12 R373). -/
def State.allocateResult (s : State) (k f : Nat) : Nat × Nat :=
  let id := if k = 0 then s.freeKey.getD 0 else k
  let st := (s.fnc f).state
  let res := if f = 0 || k = 8191 then 1
    else if s.isMirror || st == 0 || st == 5 || st == 6 || id == 0 || (s.key id).state != 0 || (s.key id).staged then 2
    else if (s.keysOf f).length ≥ (s.fnc f).keySlots then 3
    else if !s.vaultReady then 9
    else if !s.vault.entropyOk then 10 else 0
  (res, id)

/-- The result that refuses a REPLACE, 0 where it passes (12 R375). -/
def State.replaceResult (s : State) (k f : Nat) : Nat :=
  if k = 0 || k = 8191 || f = 0 then 1
  else if s.isMirror || (s.key k).state != 1 then 2
  else if (s.key k).fn != f then 4
  else if s.keyNamed k [1, 2, 3] then 5
  else if !s.vaultReady then 9
  else if !s.vault.entropyOk then 10 else 0

/-- Check a pending key command at a boundary and stage its load (12 R373, R375). -/
def State.keyCmdApply (s : State) : State :=
  match s.vault.keyCmd.pending with
  | some (op, k, f, 0) =>
    let (res, id) := if op = 1 then s.allocateResult k f else if op = 2 then (s.replaceResult k f, k) else (1, k)
    if res != 0 then s.keyCmdDone res id
    else
      let s := s.stageKey id f
      { s with vault := { s.vault with keyCmd := { s.vault.keyCmd with pending := some (op, id, f, 1) } } }
  | _ => s

/-- Report a load's outcome where the key command staged it. -/
def State.loadReport (s : State) (k res : Nat) : State :=
  match s.vault.keyCmd.pending with
  | some (_, k', _, 1) => if k' = k then s.keyCmdDone res k else s
  | _ => s

/-- The swap of a staged memory key (12 R374, R376): `differs` is the engine whose comparison failed. -/
def State.keySwap (s : State) (k : Nat) (differs : Option Nat) : State :=
  let r := s.key k
  if !r.staged then s
  else
    let drop := { r with staged := false, staging := 0, fn := if r.state = 0 then 0 else r.fn }
    match differs with
    | some e => ((s.setKey k drop).raise (unitId 6 (1 + e)) 0xA7 1 6 k 0 0).loadReport k 7
    | none =>
      if r.state ≥ 2 then (s.setKey k drop).loadReport k 2
      else
        (s.setKey k { r with staged := false, staging := 0, material := r.staging, state := 1, unusable := false,
                             loadCount := (r.loadCount + 1) % 65536 }).loadReport k 0

/-- Zeroize a slot, both halves (07 R231 step 4). -/
def State.zeroizeKey (s : State) (k : Nat) : State :=
  s.setKey k { s.key k with material := 0, staging := 0, staged := false }

/-! ### Link slots (12 R379, R380) -/

/-- Slots of a slice that are not FREE. -/
def State.sasOf (s : State) (sl : Nat) : Nat := (s.sas.filter fun a => a.2.state != 0 && a.2.slice == sl).length
/-- The link slots a slice may hold (10 R307): link_sa_total; for slice 0, what the tenants leave over. -/
def State.saTotal (s : State) (sl : Nat) : Nat :=
  if sl = 0 then 256 - s.img.active.slices.foldl (fun a r => a + r.2.saTotal) 0
  else match s.sliceRec sl with | some r => r.saTotal | none => 0

/-- A peer of the agreement. -/
def State.peer (s : State) (p : Nat) : PeerSt := tget {} s.vault.peers p
/-- Write a peer. -/
def State.setPeer (s : State) (p : Nat) (x : PeerSt) : State :=
  { s with vault := { s.vault with peers := tset {} s.vault.peers p x } }
/-- This chip's party code toward a peer index (12 R377). -/
def State.ownCode (s : State) (p : Nat) : Nat := if p < 8 then s.chip else 8 + s.blockRec.pairRole
/-- The party code of a peer index: the partner holds the other pair role. -/
def State.peerCode (s : State) (p : Nat) : Nat := if p < 8 then p else 8 + (3 - s.blockRec.pairRole)

/-- Complete the link-slot command (12 R387). -/
def State.saLoadDone (s : State) (res id : Nat) : State :=
  ({ s with vault := { s.vault with saCmd := { pending := none, result := res, id := id, applyTick := s.tick32 } } }).mgIrq 0x0C

/-- The write of VLT_SA_CMD. -/
def State.saLoadWrite (s : State) (op n p g : Nat) : State :=
  match s.vault.saCmd.pending with
  | some _ => { s with vault := { s.vault with saCmd := { s.vault.saCmd with result := 6 } } }
  | none => { s with vault := { s.vault with saCmd := { s.vault.saCmd with pending := some (op, n, p, g) } } }

/-- The result of LOAD_AGREED, and the material (12 R379). -/
def State.loadAgreed (s : State) (n p g : Nat) : Nat × BitVec 384 :=
  let a := s.sa n
  if p > 8 || a.slice != 0 || a.cipher != 0 || (a.kind != 1 && a.kind != 2) then (1, 0)
  else if !s.vaultReady then (9, 0)
  else match (s.peer p).ka with
    | none => (2, 0)
    | some ka =>
      if a.state != 0 then (2, 0)
      else if s.sasOf a.slice ≥ s.saTotal a.slice then (3, 0)
      else
        let (tx, rx) := if a.tx then (s.ownCode p, s.peerCode p) else (s.peerCode p, s.ownCode p)
        let k := kdf (leBytes ka.toNat 48) "SAK" (leBytes tx 1 ++ leBytes rx 1 ++ leBytes a.an 1 ++ leBytes g 2) 352
        (0, BitVec.ofNat 384 (k.toNat % 2 ^ 352 + (tx + 1) <<< 352))

/-- The result of LOAD_IMPORTED, and the material (12 R380). -/
def State.loadImported (s : State) (n : Nat) : Nat × BitVec 384 :=
  let a := s.sa n
  let b := padTo s.vault.importBuf 256
  if leAt b 4 1 != n || leAt b 5 1 != a.slice || leAt b 6 2 != a.fn || a.state != 0 || a.cipher = 1 then (1, 0)
  else if !s.vaultReady then (9, 0)
  else if s.sasOf a.slice ≥ s.saTotal a.slice then (3, 0)
  else if leAt b 0 2 != 3 || leAt b 2 2 != 1 || leAt b 8 2 != s.vault.aliasGen then (8, 0)
  else
    let z := Config.ecdh (s.importKey.setWidth 384) (slice b 0x10 104)
    let k := kdf z "WRAP" (b.take 16) 256
    match Config.kwpUnwrap (k.setWidth 256) (slice b 0x78 56) with
    | some m => (0, BitVec.ofNat 384 (leNat m))
    | none => (8, 0)

/-- Check a pending link-slot command at a boundary; a key is staged, LOAD_NONE acts at once. A staged key becomes active
at the next boundary (12 R374). -/
def State.saLoadApply (s : State) : State :=
  match s.vault.saCmd.pending with
  | none => s
  | some (op, n, p, g) =>
    let a := s.sa n
    if a.staged then
      (s.setSa n { a with staged := false, staging := 0, material := a.staging, state := 1, stateTick := s.blk.tick }).saLoadDone 0 n
    else if op = 3 then
      let res := if !s.vaultReady then 9 else if a.state != 0 then 2 else if a.cipher != 1 then 1
        else if s.sasOf a.slice ≥ s.saTotal a.slice then 3 else 0
      (if res = 0 then s.setSa n { a with state := 1, stateTick := s.blk.tick } else s).saLoadDone res n
    else if op = 1 || op = 2 then
      let (res, m) := if op = 1 then s.loadAgreed n p g else s.loadImported n
      if res = 0 then s.setSa n { a with staged := true, staging := m }
      else
        let s := if res = 8 then s.vltRaise 0xA9 1 a.slice 10 n else s
        s.saLoadDone res n
    else s.saLoadDone 1 n

/-! ### Agreements (12 R377, R378) -/

/-- Complete an agreement or root command (12 R387, R388). -/
def State.agreeDone (s : State) (res : Nat) : State :=
  ({ s with vault := { s.vault with agreeCmd := { pending := none, result := res, applyTick := s.tick32 } } }).mgIrq 0x0C

/-- The write of VLT_AGREE_CMD. -/
def State.agreeWrite (s : State) (op p : Nat) : State :=
  match s.vault.agreeCmd.pending with
  | some _ => { s with vault := { s.vault with agreeCmd := { s.vault.agreeCmd with result := 6 } } }
  | none => { s with vault := { s.vault with agreeCmd := { s.vault.agreeCmd with pending := some (op, p, 0, 0) } } }

/-- A key in SEC 1 form, padded to 104 B. -/
def sec1 (k : List Byte) : List Byte := padTo (k.take 97) 104

/-- OFFER (12 R377). -/
def State.offer (s : State) (p : Nat) : State :=
  let (a, s) := s.draw
  let (b, s) := s.draw
  let (nonce, s) := s.draw
  let eph : BitVec 384 := BitVec.ofNat 384 (a.toNat + b.toNat <<< 256)
  let cert := s.aliasCert
  let body := leBytes 0x00010002 4 ++ leBytes 0x800 4 ++ leBytes s.blockRec.herdId.toNat 8 ++ leBytes (s.ownCode p) 1
    ++ leBytes (s.peerCode p) 1 ++ [0, 0] ++ leBytes (blkVersion % 2 ^ 32) 4 ++ leBytes nonce.toNat 32
    ++ sec1 (Config.publicKey s.idKey) ++ sec1 (Config.publicKey (eph.setWidth 832)) ++ leBytes cert.length 2
    ++ List.replicate 6 0 ++ padTo cert 1680
  let s := s.setPeer p { state := 1, ephemeral := some eph, nonce := nonce }
  { s with vault := { s.vault with agreeOut := body ++ padTo (Config.ecdsaSign s.aliasKey body) 96 } }

/-- The identity digest expected of a peer (12 R378, R387). -/
def State.peerId (s : State) (p : Nat) : BitVec 128 := if p = 8 then s.blockRec.partnerId else tget 0 s.vault.peerIds p

/-- Whether a peer's message passes R378. -/
def State.agreeOk (s : State) (p : Nat) (m : List Byte) : Bool :=
  let idKey := slice m 0x038 97
  let cert := slice m 0x110 (leAt m 0x108 2)
  leAt m 0 4 == 0x00010002 && leAt m 4 4 == 0x800 && leAt m 0x11 1 == s.ownCode p && leAt m 0x10 1 == s.peerCode p
    && (p == 8 || leAt m 8 8 == s.blockRec.herdId.toNat)
    && (Config.sha384 idKey).setWidth 128 == s.peerId p
    && Config.certVerify idKey cert && Config.ecdsaVerify cert (m.take 0x7A0) (slice m 0x7A0 96)
    && leAt m 0x14 4 / 256 % 256 == blkVersion / 256 % 256

/-- The tines whose discovery names a peer (12 R378): herd tines to its chip, pair tines for the partner. -/
def State.tinesOfPeer (s : State) (p : Nat) : List Nat :=
  (List.range 64).filter fun t =>
    let r := s.linkRec t
    (s.tine t).matching && (if p = 8 then r.use == 2 else r.peerKind == 1 && r.use != 2 && r.use != 3 && (s.tine t).seenChip == p)

/-- ACCEPT (12 R378). -/
def State.acceptPeer (s : State) (p : Nat) : State × Nat :=
  let x := s.peer p
  match x.ephemeral with
  | none => (s, 2)
  | some eph =>
    let m := padTo s.vault.agreeIn 2048
    if s.agreeOk p m then
      let z := Config.ecdh eph (slice m 0x0A0 97)
      let mine := (s.ownCode p, leBytes x.nonce.toNat 32)
      let its := (s.peerCode p, slice m 0x018 32)
      let (a, b) := if mine.1 ≤ its.1 then (mine, its) else (its, mine)
      let ka := kdf z "AGREE" (a.2 ++ b.2 ++ leBytes a.1 1 ++ leBytes b.1 1) 384
      (s.setPeer p { state := 2, ka := some (ka.setWidth 384) }, 0)
    else
      let s := (s.setPeer p { state := 3 }).vltRaise 0xA8 1 0 (if p < 8 then 11 else 0) (p % 8)
      ((s.tinesOfPeer p).foldl (fun (s : State) t => s.isolate (lpPort t) 0x6B) s, 8)

/-- Apply a pending agreement command at a boundary (12 R377, R378, R387 to R389). -/
def State.agreeApply (s : State) : State :=
  match s.vault.agreeCmd.pending with
  | none => s
  | some (op, p, _, _) =>
    if p > 8 || op = 0 || op > 3 then s.agreeDone 1
    else if op = 3 then (s.setPeer p {}).agreeDone 0
    else if !s.vaultReady then s.agreeDone (if 3 ≤ s.vault.state && s.vault.state ≤ 6 then 9 else 2)
    else if op = 1 then (if s.vault.entropyOk then (s.offer p).agreeDone 0 else s.agreeDone 10)
    else
      let (s, res) := s.acceptPeer p
      s.agreeDone res

/-! ### Enrollment (12 R366) -/

/-- The write of VLT_ROOT_CMD with ENROLL. `enrolling` is `some 0` while it waits for its boundary, then its start tick
plus 1. -/
def State.enrollWrite (s : State) (op : Nat) : State :=
  if s.vault.enrolling.isSome || s.vault.agreeCmd.pending.isSome then
    { s with vault := { s.vault with agreeCmd := { s.vault.agreeCmd with result := 6 } } }
  else if op != 1 then s.agreeDone 1
  else { s with vault := { s.vault with enrolling := some 0 } }

/-- Examine a pending ENROLL at a boundary. -/
def State.enrollApply (s : State) : State :=
  if s.vault.enrolling = some 0 then
    if s.vault.state != 3 && s.vault.state != 4 then ({ s with vault := { s.vault with enrolling := none } }).agreeDone 2
    else if !s.vault.entropyOk then ({ s with vault := { s.vault with enrolling := none } }).agreeDone 10
    else { s with vault := { s.vault with enrolling := some (s.blk.tick + 1) } }
  else s

/-- The values of the first `n` cells that a mask marks. -/
def maskedCells (mask cells : Nat) : Nat → Nat → Nat → Nat
  | 0, _, _ => 0
  | fuel + 1, c, n =>
    if n = 0 then 0
    else if Nat.testBit mask c then flag (Nat.testBit cells c) + 2 * maskedCells mask cells fuel (c + 1) (n - 1)
    else maskedCells mask cells fuel (c + 1) n

/-- Enrollment ends (12 R366): too few stable cells raise 0xA3; else the hoofprint and request are written. -/
def State.enrollDone (s : State) (stable cells : BitVec 8192) : State :=
  match s.vault.enrolling with
  | some (_ + 1) =>
    let s := { s with vault := { s.vault with enrolling := none } }
    let n := popCount stable.toNat 8192
    if n < 3577 then (s.vltRaise 0xA3 1).agreeDone 0
    else
      let (i0, s) := s.draw
      let (i1, s) := s.draw
      let info : BitVec 259 := BitVec.ofNat 259 (i0.toNat + i1.toNat <<< 256)
      let r : BitVec 3577 := BitVec.ofNat 3577 (maskedCells stable.toNat cells.toNat 8192 0 3577)
      let w := r ^^^ repeat7 (Config.bchEncode info)
      let d := seedOf r
      let body := leBytes 0x464F4F48 4 ++ leBytes 1 2 ++ leBytes n 2 ++ List.replicate 8 0 ++ leBytes stable.toNat 1024
        ++ leBytes w.toNat 448 ++ hoofCheck d
      let id := kdf (digestBytes d) "ID" [] 448
      ({ s with vault := { s.vault with state := 5, hoofOut := body ++ digestBytes (Config.sha384 body),
                                        certBuf := Config.pkcs10 id } }).agreeDone 0
  | _ => s

/-! ### Checks of the slots (12 R372, R376) -/

/-- A sweep verifies a copy of a slot: an engine reloads its copy, the core's failure makes the slot unusable. -/
def State.slotSweep (s : State) (e k : Nat) (ok corrected : Bool) : State :=
  let s := if corrected then s.vltRaise 0xA5 1 0 6 k else s
  if ok then s
  else if e = 0 then (s.setKey k { s.key k with unusable := true }).vltRaise 0xA6 2 (s.key k).slice 6 k
  else { s with vault := { s.vault with badCopies := s.vault.badCopies.filter (· != (e, k)) } }

/-! ### The commands -/

/-- HOOFPRINT_RECEIVED (12 R363). -/
def execHoofprintReceived (s : State) : Host.Outcome State Fault Refusal := .next s.hoofprint
/-- ROOT_TRY (12 R363). -/
def execRootTry (response : BitVec 3577) (s : State) : Host.Outcome State Fault Refusal := .next (s.rootTry response)
/-- ROOT_RETRY (12 R363). -/
def execRootRetry (s : State) : Host.Outcome State Fault Refusal := .next s.rootRetry
/-- ENROLL (12 R366). -/
def execEnroll (s : State) : Host.Outcome State Fault Refusal := .next (s.mgWrite false fun s => s.enrollWrite 1)
/-- ENROLL_COMPLETE (12 R366). -/
def execEnrollComplete (stable cells : BitVec 8192) (s : State) : Host.Outcome State Fault Refusal :=
  .next (s.enrollDone stable cells)
/-- ALLOCATE (12 R373). -/
def execAllocate (k : BitVec 13) (fn : BitVec 12) (s : State) : Host.Outcome State Fault Refusal :=
  .next (s.mgWrite false fun s => s.keyCmdWrite 1 k.toNat fn.toNat)
/-- REPLACE (12 R375). -/
def execReplace (k : BitVec 13) (fn : BitVec 12) (s : State) : Host.Outcome State Fault Refusal :=
  .next (s.mgWrite false fun s => s.keyCmdWrite 2 k.toNat fn.toNat)
/-- KEY_LOAD_SWAP (12 R374). -/
def execKeyLoadSwap (k : BitVec 13) (differs : Option (BitVec 4)) (s : State) : Host.Outcome State Fault Refusal :=
  .next (s.keySwap k.toNat (differs.map (·.toNat)))
/-- LOAD_AGREED (12 R379). -/
def execLoadAgreed (slot : BitVec 8) (peer : BitVec 4) (gen : BitVec 16) (s : State) : Host.Outcome State Fault Refusal :=
  .next (s.mgWrite false fun s => s.saLoadWrite 1 slot.toNat peer.toNat gen.toNat)
/-- LOAD_IMPORTED (12 R380). -/
def execLoadImported (slot : BitVec 8) (s : State) : Host.Outcome State Fault Refusal :=
  .next (s.mgWrite false fun s => s.saLoadWrite 2 slot.toNat 0 0)
/-- LOAD_NONE (12 R380). -/
def execLoadNone (slot : BitVec 8) (s : State) : Host.Outcome State Fault Refusal :=
  .next (s.mgWrite false fun s => s.saLoadWrite 3 slot.toNat 0 0)
/-- OFFER (12 R377). -/
def execOffer (peer : BitVec 4) (s : State) : Host.Outcome State Fault Refusal :=
  .next (s.mgWrite false fun s => s.agreeWrite 1 peer.toNat)
/-- ACCEPT (12 R378). -/
def execAccept (peer : BitVec 4) (s : State) : Host.Outcome State Fault Refusal :=
  .next (s.mgWrite false fun s => s.agreeWrite 2 peer.toNat)
/-- FORGET (12 R388). -/
def execForget (peer : BitVec 4) (s : State) : Host.Outcome State Fault Refusal :=
  .next (s.mgWrite false fun s => s.agreeWrite 3 peer.toNat)
/-- SLOT_CHECK_SWEEP (12 R372): engine 0 is the core, 1 + p the key engine of port p. -/
def execSlotCheckSweep (engine : BitVec 5) (k : BitVec 13) (checkOk corrected : Bool) (s : State) :
    Host.Outcome State Fault Refusal := .next (s.slotSweep engine.toNat k.toNat checkOk corrected)
/-- ENTROPY_HEALTH_FAIL (12 R376). -/
def execEntropyHealthFail (s : State) : Host.Outcome State Fault Refusal :=
  .next ({ s with vault := { s.vault with entropyOk := false } }.vltRaise 0xAB 2)
/-- ENTROPY_TESTS_PASS (12 R376). -/
def execEntropyTestsPass (s : State) : Host.Outcome State Fault Refusal :=
  .next { s with vault := { s.vault with entropyOk := true } }

end Sys2Proof.Machine
end

