-- ==== Sys2Proof/Machine/Keys.lean ====
section
/-! DEFINITION. The retirement of memory keys (07 R229 to R234, R246, R247): command, mark, walk, zeroize, forced zeroize,
quarantine. -/

namespace Sys2Proof.Machine

/-- The key IDs that are RETIRING. -/
def State.retiring (s : State) : List Nat := (s.keys.filter fun k => k.2.state == 2).map (·.1)

/-- The write of MPT_KEY_CMD (07 R247). -/
def State.retireWrite (s : State) (op k fn : Nat) : State :=
  match s.mpt.keyPending with
  | some _ => ({ s with mpt := { s.mpt with keyResult := 4 } }).mgIrq 0x08
  | none => { s with mpt := { s.mpt with keyPending := some (op, k, fn) } }

/-- The result that refuses a retirement, 0 where it passes (07 R247). -/
def State.retireResult (s : State) (op k fn : Nat) : Nat :=
  if k = 0 || k = 8191 || op != 1 || fn = 0 then 1
  else if s.isMirror || !s.keyHeld k fn then 2
  else if s.keyNamed k [1, 2] then 3
  else if s.retiring.length ≥ 16 then 4 else 0

/-- The mark (07 R231 step 1, 11 R340, R341): RETIRING; contexts that still name the key become LOST. A staged load of the
key is not performed (12 R376). -/
def State.markKey (s : State) (k : Nat) (ofFn : Bool) : State :=
  let s := s.setKey k { s.key k with state := 2, markTick := s.blk.tick, walked := [], fromFn := ofFn }
  ((s.ctxs.filter fun c => (c.2.state == 1 || c.2.state == 2) && c.2.key == k).map (·.1)).foldl
    (fun (s : State) x => s.loseContext x 8) s

/-- Examine a pending retirement command at a boundary. -/
def State.retireApply (s : State) : State :=
  match s.mpt.keyPending with
  | none => s
  | some (op, k, fn) =>
    let r := s.retireResult op k fn
    let s := { s with mpt := { s.mpt with keyPending := none } }
    if r = 0 then s.markKey k false else ({ s with mpt := { s.mpt with keyResult := r } }).mgIrq 0x08

/-- The keys a home slice walks next: those of the oldest mark that it has not walked. -/
def State.walkKeys (s : State) (h : Nat) : List Nat :=
  let ks := s.keys.filter fun k => k.2.state == 2 && !k.2.walked.contains h
  let t := ks.foldl (fun a k => min a k.2.markTick) (2 ^ 64)
  (ks.filter fun k => k.2.markTick == t).map (·.1)

/-- The pieces of a retirement walk that fit in a tick at a home slice: 6, and 1 beside the pieces of a delta drain or of the copy
into it (07 R232). -/
def State.walkLimit (s : State) (h : Nat) : Nat :=
  let draining := s.img.state == 5 && s.img.drain.any fun (d : DrainSt) => d.home == h
  let copying := s.flt.recs.any fun (r : Nat × Recovery) => r.2.spare == some h && r.2.state == 1 && r.2.step == 3
  if draining || copying then 1 else 6

/-- A piece of a retirement walk (07 R232): pieces 0 to 15 take 128 sets each, piece 16 the mirror array. Entries tagged
with a key are invalidated without a write-back; windows with shadows under it close. The walk of another mark starts at piece 0. -/
def State.retirePiece (s : State) (h : Nat) : State :=
  let ks := s.walkKeys h
  let x := s.home h
  let run := if x.retireTick = s.blk.tick then x.retireRun else 0
  if ks.isEmpty || s.stopped || !(x.role == 0 || x.role == 2) || run ≥ s.walkLimit h then s
  else
    let mark := (s.key (ks.headD 0)).markTick
    let c := if x.retireMark = mark then x.retireCur else 0
    let s := s.setHome h { x with retireMark := mark, retireTick := s.blk.tick, retireRun := run + 1 }
    let s := s.ring (hslUnit h) 0x84 (3 + c * 256)
    let x := s.home h
    let x := if c < 16 then
        { x with lines := x.lines.filter fun l => !(decide (c * 2048 ≤ l.1) && decide (l.1 < (c + 1) * 2048) && ks.contains l.2.key) }
      else { x with mirror := x.mirror.filter fun l => !ks.contains l.2.key }
    let s := s.setHome h { x with retireCur := if c < 16 then c + 1 else 0 }
    let ws := (s.rw.windows.filter fun w => w.2.state != 0 && w.2.keys.any ks.contains).map (·.1)
    let s := ws.foldl (fun (s : State) w => s.closeWindow w 5) s
    if c < 16 then s else ks.foldl (fun (s : State) k => s.setKey k { s.key k with walked := (s.key k).walked ++ [h] }) s

/-- Whether walk and drain of a key are complete (07 R231 steps 2 and 3). -/
def State.retireDone (s : State) (k : Nat) : Bool :=
  (List.range 136).all (fun h => !((s.home h).role == 0 || (s.home h).role == 2) || (s.key k).walked.contains h)
    && (s.mem.all fun m => m.2.tags.all fun r => r.key != k)
    && s.guardOps.all fun g => g.key != k

/-- Zeroize a retiring key (07 R231 step 4): QUARANTINED, vector 0x08, result DONE or FORCED. -/
def State.zeroizeNow (s : State) (k res : Nat) : State :=
  let s := s.zeroizeKey k
  let s := s.setKey k { s.key k with state := 3, zeroTick := s.blk.tick }
  let r := s.key k
  let s := { s with mpt := { s.mpt with lastZeroized := k, keyResult := if r.fromFn && res = 0 then s.mpt.keyResult else res } }
  s.mgIrq 0x08

/-- Step 4 at a boundary after the mark. -/
def State.keyZeroize (s : State) (k : Nat) : State :=
  let r := s.key k
  if r.state = 2 && r.markTick < s.blk.tick && s.retireDone k then s.zeroizeNow k 0 else s

/-- The forced zeroize (07 R233): 32 ticks after the mark; kind 0x22. -/
def State.keyForced (s : State) (k : Nat) : State :=
  let r := s.key k
  if r.state = 2 && r.markTick + 32 ≤ s.blk.tick then
    (s.zeroizeNow k 5).raise vltUnit 0x22 2 6 k 0 0
  else s

/-- The end of quarantine (07 R231 step 5): FREE 16 ticks after zeroize. -/
def State.keyRelease (s : State) (k : Nat) : State :=
  let r := s.key k
  if r.state = 3 && r.zeroTick + 16 ≤ s.blk.tick then s.setKey k { loadCount := r.loadCount } else s

/-! ### The commands -/

/-- KEY_RETIRE (07 R231, R247). -/
def execKeyRetire (k : BitVec 13) (fn : BitVec 12) (s : State) : Host.Outcome State Fault Refusal :=
  .next (s.mgWrite false fun s => s.retireWrite 1 k.toNat fn.toNat)
/-- RETIRE_WALK_PIECE (07 R232). -/
def execRetireWalkPiece (h : BitVec 8) (s : State) : Host.Outcome State Fault Refusal := .next (s.retirePiece h.toNat)
/-- KEY_ZEROIZE (07 R231). -/
def execKeyZeroize (k : BitVec 13) (s : State) : Host.Outcome State Fault Refusal := .next (s.keyZeroize k.toNat)
/-- KEY_RETIRE_FORCED (07 R233). -/
def execKeyRetireForced (k : BitVec 13) (s : State) : Host.Outcome State Fault Refusal := .next (s.keyForced k.toNat)
/-- KEY_QUARANTINE_END (07 R231). -/
def execKeyQuarantineEnd (k : BitVec 13) (s : State) : Host.Outcome State Fault Refusal := .next (s.keyRelease k.toNat)

end Sys2Proof.Machine
end

