-- ==== Sys2Proof/Machine/Slices.lean ====
section
/-! DEFINITION. Ownership commands and cleaning (03 R97 to R110, 09 R280), the life of a function (03 R111 to R119) and the
geometry report of the tenant view (03 R123 to R128). -/

namespace Sys2Proof.Machine

/-! ### Ownership commands (03 R106 to R110) -/

/-- The slice and guarded bit a configuration gives a granule (04 R133). -/
def ImgCfg.granule (c : ImgCfg) (g : Nat) : Nat × Bool :=
  match c.runs.find? fun r => decide (r.first ≤ g) && decide (g < r.first + r.count) with
  | some r => (r.slice, r.guarded)
  | none => (0, false)
/-- Whether a granule lies in populated memory (04 R131). -/
def State.populated (s : State) (g : Nat) : Bool := decide (granStack g < (s.stackRec (granPort g)).populated)
/-- The granules of a range. -/
def granules (first count : Nat) : List Nat := (List.range count).map (· + first)
/-- Whether an armed or draining delta changes a granule's slice or guarded bit (04 R147). -/
def State.deltaMoves (s : State) (g : Nat) : Bool :=
  s.deltaArmed && match s.img.staged with
    | some d => d.delta && d.cfg.granule g != s.img.active.granule g
    | none => false
/-- Whether a delta that committed at this boundary changed a granule (03 R108). -/
def State.justMoved (s : State) (g : Nat) : Bool :=
  s.img.lastCommit == s.blk.tick && s.img.before.granule g != s.img.active.granule g
/-- Whether a granule belongs to a sequence window that is open or opening (09 R296). -/
def State.inSeqWindow (s : State) (g : Nat) : Bool :=
  s.seqs.any fun w => (w.2.state == 1 || w.2.state == 2) && decide (w.2.first ≤ g) && decide (g < w.2.first + w.2.granules)

/-- The write of SLC_OWN_CMD (03 R108): the argument register is taken now. An ignored write sets result BUSY, which stands until
the next command is applied (DESIGN CHOICE, log entry 175). -/
def State.ownWrite (s : State) (op first count fn : Nat) : State :=
  if s.slc.busy then { s with slc := { s.slc with result := 6 } }
  else
    let c : OwnCmd := { op := op, first := first, count := count, fn := fn, arg := s.slc.arg }
    { s with slc := { s.slc with pending := some c, busy := true } }

/-- Whether a granule is as an operation requires (03 R107, 09 R296, 11 R346). -/
def State.ownHeld (s : State) (op g fn : Nat) : Bool :=
  let e := s.ownAt g
  let sl := (s.fnc fn).slice
  if op = 1 then e.gstate == 0 && e.slice == sl
  else e.gstate == 1 && e.slice == sl && e.fn == fn && !s.inSeqWindow g && (op == 3 || !s.mapped g)

/-- The result that refuses an ownership command, 0 where it passes (03 R107 to R109). -/
def State.ownResult (s : State) (c : OwnCmd) : Nat :=
  let gs := granules c.first c.count
  let r := s.fnc c.fn
  let k := field c.arg 0 13
  if gs.any fun g => s.justMoved g || (c.op == 1 && s.deltaMoves g) then 7
  else if c.op = 0 || c.op > 4 || c.count = 0 || c.first + c.count > 1048576 || c.fn = 0
      || !(gs.all s.populated) || !s.sliceDefined r.slice
      || ((c.op == 1 || c.op == 4) && decide (field c.arg 13 4 > 11)) then 5
  else if s.isMirror || r.state = 0 || (c.op != 3 && r.state != 1 && r.state != 4 && !(c.op == 2 && r.state == 6)) then 1
  else if !(gs.all fun g => s.ownHeld c.op g c.fn) then 3
  else if c.op = 1 && !(if k = 8191 then bit c.arg.toNat 23 && (match s.sliceRec r.slice with
        | some x => x.allowPublic | none => false)
      else s.keyHeld k c.fn && (s.key k).slice == r.slice) then 4
  else 0

/-- The rights and marks of SLC_OWN_CMD_ARG in an entry (03 R106). -/
def OwnEntry.withRights (e : OwnEntry) (a : Reg) : OwnEntry :=
  let b := fun i => bit a.toNat i
  { e with rd := b 17, wr := b 18, amo := b 19, host := b 20, sliceWide := b 21, dirtyLog := b 22, group := field a 24 8 }

/-- The entry an operation leaves (03 R107). -/
def OwnEntry.apply (e : OwnEntry) (c : OwnCmd) : OwnEntry :=
  match c.op with
  | 1 => { e with fn := c.fn, key := field c.arg 0 13, fmt := field c.arg 13 4, pub := bit c.arg.toNat 23, gstate := 3 }.withRights c.arg
  | 2 => { e with gstate := 3 }
  | 3 => e.withRights c.arg
  | _ => { e with fmt := field c.arg 13 4 }

/-- An ownership command completes (03 R108). Its result was written when it was applied; a BUSY that an ignored write set since
stays (DESIGN CHOICE, log entry 175). -/
def State.ownDone (s : State) : State := { s with slc := { s.slc with busy := false } }.mgIrq 0x05

/-- Put granules in CLEANING's queue. -/
def State.queueClean (s : State) (gs : List Nat) (kind : CleanKind) (cmd : Bool) : State :=
  { s with cleaning := s.cleaning ++ gs.map fun g => { granule := g, kind := kind, forCmd := cmd } }

/-- Check and apply the pending ownership command at a boundary (03 R108). apply_tick takes the tick of a refused command as well
(DESIGN CHOICE, log entry 175). -/
def State.ownApply (s : State) : State :=
  match s.slc.pending with
  | none => s
  | some c =>
    let r := s.ownResult c
    let s := { s with slc := { s.slc with pending := none, result := r, applyTick := s.tick32 } }
    if r != 0 then s.ownDone
    else
      let s := (granules c.first c.count).foldl (fun (s : State) g => s.setOwn g ((s.ownAt g).apply c)) s
      let s := s.dropOwn fun tl => decide (c.first / 16 ≤ tl) && decide (16 * tl < c.first + c.count)
      if c.op = 1 then s.queueClean (granules c.first c.count) .zeroing true
      else if c.op = 2 then (s.queueClean (granules c.first c.count) .discard true).discardRange c.first c.count
      else s.ownDone

/-! ### Cleaning (03 R107, 09 R280) -/

/-- Whether an engine cleans granules of a slice. -/
def State.cleansFor (s : State) (e sl : Nat) : Bool :=
  let r := s.jobRec e
  !(s.engine e).offline && (r.use == 0 || (r.use == 1 && r.owner == sl))

/-- The oldest granule that waits for zeros and that an engine may clean. -/
def State.cleanNext (s : State) (e : Nat) : Option CleanSt :=
  s.cleaning.find? fun c => c.kind == .zeroing && decide (c.lines < 16384) && s.cleansFor e (s.ownAt c.granule).slice

/-- A cleaning piece of an engine: 448 lines of zeros under the granule's key, block-internal; one piece in a tick. -/
def State.cleanPiece (s : State) (e : Nat) : State :=
  match s.cleanNext e with
  | none => s
  | some c =>
    let n := min 448 (16384 - c.lines)
    let ls := (List.range n).map (· + granLine c.granule + c.lines + s.chip * 2 ^ 34)
    let key := (s.ownAt c.granule).key
    if (s.engine e).cleanedTick = some s.blk.tick || s.stopped
        || !(ls.all fun l => ((s.homeName l).bind s.physOf).isSome) then s
    else
      let s := s.setEngine e { s.engine e with cleanedTick := some s.blk.tick }
      let s := { s with cleaning := s.cleaning.map fun x => if x.granule == c.granule then { x with lines := x.lines + n } else x }
      ls.foldl (fun (s : State) l => match (s.homeName l).bind s.physOf with
        | some h => s.wbPush h l 0 key 3 0 0
        | none => s) s

/-- Whether every write of zeros to a granule has been acknowledged. -/
def State.zerosLanded (s : State) (g : Nat) : Bool :=
  (List.range 136).all fun h => (s.home h).wbuf.all fun w => lineGran w.line != g

/-- A granule leaves CLEANING at a boundary after its work is done (03 R107): to ASSIGNED after zeros, to FREE after the
discard. The command that put it there completes with its last granule. -/
def State.granuleCleaned (s : State) (g : Nat) : State :=
  match s.cleaning.find? fun c => c.granule == g with
  | none => s
  | some c =>
    let e := s.ownAt g
    let ok := match c.kind with
      | .zeroing => decide (c.lines ≥ 16384) && s.zerosLanded g
      | .discard => s.rangeQuiet g 1 (2 ^ 64)
      | _ => false
    if !ok then s
    else
      let e' := if c.kind = .zeroing then { e with gstate := 1 } else { slice := e.slice, guarded := e.guarded }
      let s := { (s.setOwn g e') with cleaning := s.cleaning.filter fun x => x.granule != g }.dropOwn fun tl => tl == g / 16
      if s.slc.busy && s.slc.pending.isNone && !(s.cleaning.any (·.forCmd)) then s.ownDone else s

/-! ### Functions (03 R111 to R119) -/

/-- The granules a function holds. -/
def State.granulesOf (s : State) (f : Nat) : List Nat :=
  (s.own.filter fun e => e.2.gstate != 0 && e.2.fn == f && e.2.slice == (s.fnc f).slice).map (·.1)

/-- The write of FNC_CMD (03 R112, R113). -/
def State.fncCmd (s : State) (f op : Nat) (erase : Bool) : State :=
  let r := s.fnc f
  if r.busy && !((op == 5 || op == 6) && r.state == 3 && r.pending.isNone) then s.setFnc f { r with result := 6 }
  else s.setFnc f { r with pending := some (op, erase), busy := true }

/-- Whether the pools of a function's slice hold with this function counted (03 R95). -/
def State.poolHolds (s : State) (f : Nat) : Bool :=
  let r := s.fnc f
  let fs := s.fncs.filter fun x => x.1 != f && x.2.state != 0 && x.2.slice == r.slice
  let sum := fun (p : FncRec → Nat) => fs.foldl (fun a x => a + p x.2) (p r)
  match s.sliceRec r.slice with
  | some x => decide (sum (·.ctxSlots) ≤ x.ctxTotal) && decide (sum (·.keySlots) ≤ x.keyTotal)
      && decide (sum (·.jobShare) ≤ x.jobTotal)
  | none => false

/-- Whether an armed or draining delta undefines a slice (04 R147). -/
def State.deltaUndefines (s : State) (sl : Nat) : Bool :=
  s.deltaArmed && match s.img.staged with
    | some d => d.delta && sl != 0 && (mget? d.cfg.slices sl).isNone
    | none => false

/-- Whether a state permits an operation (03 R113). -/
def fncPermits (st op : Nat) : Bool :=
  match op with
  | 1 => st == 0
  | 2 => st == 1
  | 3 => st == 2
  | 4 => st == 4
  | 5 => st == 2 || st == 3 || st == 4
  | _ => 1 ≤ st && st ≤ 4

/-- The result that refuses a function command, 0 where it passes (03 R109, R113, R119, 04 R147). -/
def State.fncResult (s : State) (f op : Nat) : Nat :=
  let r := s.fnc f
  if f = 0 || op = 0 || op > 6 then 5
  else if s.img.lastCommit = s.blk.tick && (mget? s.img.before.slices r.slice).isSome && !s.sliceDefined r.slice then 7
  else if s.isMirror || !fncPermits r.state op || (op == 1 && s.deltaUndefines r.slice) then 1
  else if op = 1 && (r.slice == 0 || !s.sliceDefined r.slice) then 5
  else if (op = 1 || op = 4) && !s.poolHolds f then 2
  else 0

/-- Change a function's state and note the tick. -/
def State.fncGo (s : State) (f st : Nat) : State := s.setFnc f { s.fnc f with state := st, stateTick := s.tick32 }
/-- Complete a function's command with a result: vector 0x04. -/
def State.fncDone (s : State) (f res : Nat) : State :=
  (s.setFnc f { s.fnc f with busy := false, result := res }).mgIrq 0x04

/-- Whether a function has retired its work (03 R115). A lost binding counts as retired; a window that converts awaits no
contributions. -/
def State.fncQuiet (s : State) (f : Nat) : Bool :=
  s.bindings.all (fun b => b.2.lost || (match (s.slot b.1).ctx with | some x => (s.ctx x).fn != f | none => true))
    && s.jobs.all (·.fn != f) && s.hostTags.all (·.2 != f)
    && s.remotes.all (fun r => r.fn != f || r.done.isSome)
    && s.rw.windows.all fun w => w.2.state == 0 || w.2.state == 3 || w.2.fn != f

/-- Whether a context still has work (03 R116). -/
def State.ctxBusy (s : State) (x : Nat) : Bool :=
  s.bindings.any (fun b => (s.slot b.1).ctx == some x) || s.jobs.any (·.ctx == x)
    || s.rw.windows.any fun w => w.2.state != 0 && w.2.ctx == x

/-- Steps 1 and 2 of R117, and what RESET with erase and REMOVE close first (09 R296, 11 R346). -/
def State.tearStart (s : State) (f : Nat) (remove erase : Bool) : State :=
  let cause := if remove then 7 else 6
  let s := (s.ctxsOf f).foldl (fun (s : State) x =>
    let s := s.loseContext x cause
    if (s.ctx x).slot < 96 then (s.loseBinding (s.ctx x).slot cause).freeSlot (s.ctx x).slot else s) s
  let s := ((s.objs.filter fun o => o.2.state == 1 && o.2.fn == f).map (·.1)).foldl (fun (s : State) o => s.freeObj o) s
  let sl := (s.fnc f).slice
  let s := if (remove || erase) && ((s.seqw sl).state == 1 || (s.seqw sl).state == 2) then s.seqCloseNow sl else s
  (s.setFnc f { s.fnc f with erase := erase, tear := .draining, forced := false }).fncGo f (if remove then 6 else 5)

/-- Carry out a function's pending command at a boundary (03 R113). -/
def State.fncApply (s : State) (f : Nat) : State :=
  match (s.fnc f).pending with
  | none => s
  | some (op, erase) =>
    let res := s.fncResult f op
    let s := s.setFnc f { s.fnc f with pending := none }
    if res != 0 then s.fncDone f res
    else match op with
      | 1 => (s.fncGo f 1).fncDone f 0
      | 2 => (s.fncGo f 2).fncDone f 0
      | 3 => (s.setFnc f { s.fnc f with quiesceTick := s.blk.tick, forced := false }).fncGo f 3
      | 4 => (s.fncGo f 2).fncDone f 0
      | 5 => s.tearStart f false erase
      | _ => s.tearStart f true false

/-- QUIESCING ends because the function has drained (03 R115). -/
def State.quiesceDrained (s : State) (f : Nat) : State :=
  let r := s.fnc f
  if r.state = 3 && !r.forced && s.fncQuiet f then (s.fncGo f 4).fncDone f 0 else s

/-- The quiesce deadline (03 R116): contexts with work are lost. -/
def State.quiesceForce (s : State) (f : Nat) : State :=
  let r := s.fnc f
  let d := if r.deadline = 0 then 64 else r.deadline
  if r.state = 3 && !r.forced && r.quiesceTick + d ≤ s.blk.tick && !s.fncQuiet f then
    let s := s.setFnc f { r with forced := true }
    ((s.ctxsOf f).filter s.ctxBusy).foldl (fun (s : State) x => s.loseContext x 5) s
  else s

/-- A forced quiesce ends once everything has retired (03 R116). -/
def State.quiesceForced (s : State) (f : Nat) : State :=
  let r := s.fnc f
  if r.state = 3 && r.forced && s.fncQuiet f then (s.fncGo f 4).fncDone f 8 else s

/-- The view registers that RESET and REMOVE reset (16 R484): every RW and W1S field. -/
def View.clear (v : View) : View :=
  { v with nonce := 0, reportPending := false, vec := 0, captured := none, jobDesc := [], ctxArg0 := 0, ctxArg1 := 0,
           objArg := 0, usageCtx := 0, usagePending := false }

/-- The teardown of a function ends in CREATED or FREE. -/
def State.tearEnd (s : State) (f st : Nat) : State :=
  let s := ((s.keysOf f).filter fun k => (s.key k).state == 1).foldl
    (fun (s : State) k => s.setKey k { s.key k with fromFn := false }) s
  let s := s.setView f (s.view f).clear
  ((s.setFnc f { s.fnc f with tear := .none, erase := false }).fncGo f st).fncDone f 0

/-- Whether a freed object of a function still drains. -/
def State.objsDraining (s : State) (f : Nat) : Bool := s.objs.any fun o => o.2.state == 2 && o.2.fn == f

/-- Put every granule a function holds in CLEANING and discard its copies. One that an ASSIGN is zeroing turns to the discard in
its place; one being released goes on. -/
def State.discardAll (s : State) (f : Nat) (kind : CleanKind) : State :=
  let gs := s.granulesOf f
  let turn := fun (c : CleanSt) => if gs.contains c.granule && c.kind == .zeroing then { c with kind := kind, lines := 0 } else c
  let fresh := gs.filter fun g => !(s.cleaning.any fun c => c.granule == g)
  let s := { s with cleaning := s.cleaning.map turn }
  let s := (gs.foldl (fun (s : State) g => s.setOwn g { s.ownAt g with gstate := 3 }) s).queueClean fresh kind false
  let s := s.dropOwn fun tl => gs.any fun g => g / 16 == tl
  gs.foldl (fun (s : State) g => s.discardRange g 1) s

/-- The ACTIVE keys of a function that RESET with erase has yet to replace. -/
def State.oldKeys (s : State) (f : Nat) : List Nat :=
  (s.keys.filter fun k => k.1 != 0 && k.1 != 8191 && k.2.fn == f && k.2.state == 1 && !k.2.fromFn).map (·.1)

/-- Load a fresh key for a function in place of one of its own (03 R117, 12 R373). -/
def State.stageFresh (s : State) (k f : Nat) : State :=
  let s := s.stageKey k f
  s.setKey k { s.key k with fromFn := true }

/-- Replace one old key: its granules take a fresh key ID where one is FREE, and the old key is retired. -/
def State.replaceKey (s : State) (f k : Nat) : State :=
  if s.retiring.length ≥ 16 || !s.vaultReady || !s.vault.entropyOk then s
  else match s.freeKey with
    | some n =>
      let s := s.stageFresh n f
      let mine := fun (e : OwnEntry) => e.key == k && e.fn == f && e.gstate == 3
      let stale := (s.own.filter fun e => mine e.2).map (·.1 / 16)
      let s := { s with own := s.own.map fun (e : Nat × OwnEntry) => if mine e.2 then (e.1, { e.2 with key := n }) else e }
      (s.dropOwn fun tl => stale.contains tl).markKey k true
    | none => s.markKey k true

/-- Keys that granules of a function name and that are FREE again: they are loaded afresh. -/
def State.restageKeys (s : State) (f : Nat) : State :=
  let ks := ((s.own.filter fun e => e.2.fn == f && e.2.gstate == 3 && e.2.key != 8191).map (·.2.key)).eraseDups
  (ks.filter fun k => (s.key k).state == 0 && !(s.key k).staged).foldl (fun (s : State) k =>
    if s.vaultReady && s.vault.entropyOk then s.stageFresh k f else s) s

/-- The next step of RESET with erase (03 R117 step 4): drains, discard, retirement, rewriting. -/
def State.eraseStep (s : State) (f : Nat) : State :=
  let r := s.fnc f
  match r.tear with
  | .draining =>
    if s.objsDraining f then s else (s.discardAll f .eraseDiscard).setFnc f { r with tear := .discarding }
  | .discarding =>
    if (s.granulesOf f).all fun g => s.rangeQuiet g 1 (2 ^ 64) then s.setFnc f { r with tear := .retiring } else s
  | .retiring =>
    let s := ((s.oldKeys f).foldl (fun (s : State) k => s.replaceKey f k) s).restageKeys f
    let named := (s.granulesOf f).all fun g => let k := (s.ownAt g).key; k == 8191 || (s.key k).state == 1
    if (s.oldKeys f).isEmpty && named then
      let gs := s.granulesOf f
      let go := fun (c : CleanSt) =>
        if gs.contains c.granule && c.kind == .eraseDiscard then { c with kind := .zeroing, lines := 0 } else c
      let s := { s with cleaning := s.cleaning.map go }
      s.setFnc f { s.fnc f with tear := .cleaning }
    else s
  | _ =>
    if (s.granulesOf f).all (fun g => (s.ownAt g).gstate == 1)
        && s.keys.all fun k => k.2.fn != f || (k.2.state != 2 && !k.2.staged) then s.tearEnd f 1 else s

/-- Retire a key of a function that has been removed: its mark, as soon as fewer than 16 keys are RETIRING (07 R247). -/
def State.doomStep (s : State) (k : Nat) : State :=
  let r := s.key k
  if r.doomed && r.state = 1 && s.retiring.length < 16 then (s.setKey k { r with doomed := false }).markKey k true else s

/-- The next step of REMOVE (03 R118): drains, release of every granule, and with the last of them FREE; its keys retire from
then on. -/
def State.removeStep (s : State) (f : Nat) : State :=
  let r := s.fnc f
  match r.tear with
  | .draining =>
    if s.objsDraining f then s else (s.discardAll f .discard).setFnc f { r with tear := .discarding }
  | _ =>
    if !(s.granulesOf f).isEmpty then s
    else
      let ks := (s.keysOf f).filter fun k => (s.key k).state < 2
      let s := s.tearEnd f 0
      ks.foldl (fun (s : State) k => (s.setKey k { s.key k with doomed := true }).doomStep k) s

/-- The teardown of RESET and REMOVE goes on at a boundary (03 R117, R118). -/
def State.tearStep (s : State) (f : Nat) : State :=
  let r := s.fnc f
  if !s.fncQuiet f then s
  else if r.state = 5 then (if r.erase then s.eraseStep f else s.tearEnd f 1)
  else if r.state = 6 then s.removeStep f
  else s

/-! ### The view (03 R123, R124) -/

/-- A mask of numbers below `n` that meet a test. -/
def maskOf (n : Nat) (p : Nat → Bool) : Nat := (List.range n).foldl (fun a i => a + (flag (p i)) <<< i) 0
/-- The physical home slices that serve names meeting a test, as a 256-bit mask. -/
def State.homeMask (s : State) (p : HomeRec → Bool) : Nat :=
  (List.range 128).foldl (fun a n => if p (s.homeRec n) then (match s.physOf n with
    | some h => a ||| 1 <<< h | none => a) else a) 0
/-- VIEW_HOME_EXCL of a slice. -/
def State.viewHomeExcl (s : State) (sl : Nat) : Nat := s.homeMask fun r => r.excl && r.owner == sl
/-- VIEW_HOME_SHARED of a slice. -/
def State.viewHomeShared (s : State) (sl : Nat) : Nat :=
  s.homeMask fun r => !r.excl && r.ways.any fun w => w.valid && w.slice == sl && w.mask != 0
/-- VIEW_STACKS: exclusive, then shared stacks that hold granules of the slice, whichever function holds them and FREE ones
included (DESIGN CHOICE, log entry 178). -/
def State.viewStacks (s : State) (sl : Nat) : Nat × Nat :=
  (maskOf 16 fun p => (s.stackRec p).use == 1 && (s.stackRec p).owner == sl,
   maskOf 16 fun p => (s.stackRec p).use == 0 && s.own.any fun e => e.2.slice == sl && granPort e.1 == p)
/-- VIEW_TINES_EXCL. -/
def State.viewTinesExcl (s : State) (sl : Nat) : Nat := maskOf 64 fun t => (s.tineRec t).use == 1 && (s.tineRec t).owner == sl
/-- VIEW_TINES_SHARED. -/
def State.viewTinesShared (s : State) (sl : Nat) : Nat :=
  if s.tineBudget sl then maskOf 64 fun t => (s.tineRec t).use == 0 else 0
/-- VIEW_JOBS. -/
def State.viewJobs (s : State) (sl : Nat) : Nat := maskOf 32 fun e => (s.jobRec e).use == 1 && (s.jobRec e).owner == sl
/-- VIEW_POOL of a function. -/
def State.viewPool (s : State) (f : Nat) : Nat :=
  let r := s.fnc f
  place r.ctxSlots 0 8 + place r.jobShare 8 8 + place r.keySlots 16 14 + place (s.granulesOf f).length 32 32
/-- VIEW_ID of a function. -/
def State.viewId (s : State) (f : Nat) : Reg :=
  rput f 0 12 ||| rput (s.fnc f).slice 16 7 ||| rput (s.fnc f).state 24 3

/-! ### The geometry report (03 R126 to R128) -/

/-- The signed part of the report (03 R128). -/
def State.reportBody (s : State) (f : Nat) : List Byte :=
  let sl := (s.fnc f).slice
  let g := (s.granulesOf f).any s.guarded
  leBytes 0x00010001 4 ++ leBytes 0x130 4 ++ leBytes s.blk.tick 8 ++ leBytes f 2 ++ leBytes sl 1
    ++ leBytes (flag (s.blockRec.pairRole != 0) + 2 * flag g) 1 ++ leBytes 0 4 ++ leBytes blkVersion 8
    ++ digestBytes s.img.activeDigest ++ leBytes (s.view f).latched.toNat 32
    ++ leBytes (s.viewHomeExcl sl) 32 ++ leBytes (s.viewHomeShared sl) 32
    ++ leBytes (s.viewStacks sl).1 2 ++ leBytes (s.viewStacks sl).2 2 ++ leBytes (s.viewJobs sl) 4
    ++ leBytes (s.viewTinesExcl sl) 8 ++ leBytes (s.viewPool f) 8 ++ leBytes (s.viewTinesShared sl) 8

/-- Setting VIEW_REPORT_CTRL.request (03 R127). -/
def State.reportAsk (s : State) (f : Nat) : State :=
  let v := s.view f
  if v.reportPending then s
  else s.setView f { v with latched := v.nonce, ready := false, reportPending := true }

/-- The report cannot be signed: refused, with its vector (03 R127). -/
def State.reportRefuse (s : State) (f : Nat) : State :=
  let v := s.view f
  (s.setView f { v with refused := true, reportPending := false, captured := none }).hostIrq f v.vec

/-- Capture a requested report at the end of the commit step (03 R127). -/
def State.reportCapture (s : State) (f : Nat) : State :=
  let v := s.view f
  let st := (s.fnc f).state
  if !v.reportPending || v.captured.isSome then s
  else if !(st == 2 || st == 3 || st == 4) || !s.vaultSigns then s.reportRefuse f
  else
    let b := s.reportBody f
    s.setView f { v with captured := some (b ++ padTo (Config.ecdsaSign s.aliasKey b) 96, s.blk.tick) }

/-- The vault has signed the captured report: it replaces the last one as a whole (03 R127). -/
def State.reportReady (s : State) (f : Nat) : State :=
  let v := s.view f
  match v.captured with
  | none => s
  | some (b, _) =>
    if !s.vaultSigns then s.reportRefuse f
    else (s.setView f { v with captured := none, reportPending := false, ready := true, report := b }).hostIrq f v.vec

/-! ### The commands -/

/-- ASSIGN (03 R107). -/
def execAssign (first : BitVec 20) (count : BitVec 21) (fn : BitVec 12) (s : State) : Host.Outcome State Fault Refusal :=
  .next (s.mgWrite false fun s => s.ownWrite 1 first.toNat count.toNat fn.toNat)
/-- RELEASE (03 R107). -/
def execRelease (first : BitVec 20) (count : BitVec 21) (fn : BitVec 12) (s : State) : Host.Outcome State Fault Refusal :=
  .next (s.mgWrite false fun s => s.ownWrite 2 first.toNat count.toNat fn.toNat)
/-- SET_ACCESS (03 R107). -/
def execSetAccess (first : BitVec 20) (count : BitVec 21) (fn : BitVec 12) (s : State) : Host.Outcome State Fault Refusal :=
  .next (s.mgWrite false fun s => s.ownWrite 3 first.toNat count.toNat fn.toNat)
/-- SET_FORMAT (03 R107). -/
def execSetFormat (first : BitVec 20) (count : BitVec 21) (fn : BitVec 12) (s : State) : Host.Outcome State Fault Refusal :=
  .next (s.mgWrite false fun s => s.ownWrite 4 first.toNat count.toNat fn.toNat)
/-- CLEANING_PIECE (09 R280). -/
def execCleaningPiece (e : BitVec 5) (s : State) : Host.Outcome State Fault Refusal := .next (s.cleanPiece e.toNat)
/-- GRANULE_CLEANED (03 R107). -/
def execGranuleCleaned (g : BitVec 20) (s : State) : Host.Outcome State Fault Refusal := .next (s.unlessStopped fun s => s.granuleCleaned g.toNat)
/-- FNC_CREATE (03 R113). -/
def execFncCreate (f : BitVec 12) (s : State) : Host.Outcome State Fault Refusal :=
  .next (s.mgWrite false fun s => s.fncCmd f.toNat 1 false)
/-- FNC_ENABLE (03 R113). -/
def execFncEnable (f : BitVec 12) (s : State) : Host.Outcome State Fault Refusal :=
  .next (s.mgWrite false fun s => s.fncCmd f.toNat 2 false)
/-- FNC_QUIESCE (03 R113). -/
def execFncQuiesce (f : BitVec 12) (s : State) : Host.Outcome State Fault Refusal :=
  .next (s.mgWrite false fun s => s.fncCmd f.toNat 3 false)
/-- QUIESCE_DRAINED (03 R115). -/
def execQuiesceDrained (f : BitVec 12) (s : State) : Host.Outcome State Fault Refusal := .next (s.quiesceDrained f.toNat)
/-- QUIESCE_DEADLINE (03 R116). -/
def execQuiesceDeadline (f : BitVec 12) (s : State) : Host.Outcome State Fault Refusal := .next (s.quiesceForce f.toNat)
/-- QUIESCE_FORCED_DONE (03 R116). -/
def execQuiesceForcedDone (f : BitVec 12) (s : State) : Host.Outcome State Fault Refusal :=
  .next (s.quiesceForced f.toNat)
/-- FNC_RESUME (03 R113). -/
def execFncResume (f : BitVec 12) (s : State) : Host.Outcome State Fault Refusal :=
  .next (s.mgWrite false fun s => s.fncCmd f.toNat 4 false)
/-- FNC_RESET (03 R113, R117). -/
def execFncReset (f : BitVec 12) (erase : Bool) (s : State) : Host.Outcome State Fault Refusal :=
  .next (s.mgWrite false fun s => s.fncCmd f.toNat 5 erase)
/-- RESET_COMPLETE (03 R117): the teardown of a function in RESETTING goes on, to CREATED. -/
def execResetComplete (f : BitVec 12) (s : State) : Host.Outcome State Fault Refusal :=
  .next (if (s.fnc f.toNat).state = 5 then s.tearStep f.toNat else s)
/-- FNC_REMOVE (03 R113, R118). -/
def execFncRemove (f : BitVec 12) (s : State) : Host.Outcome State Fault Refusal :=
  .next (s.mgWrite false fun s => s.fncCmd f.toNat 6 false)
/-- REMOVE_COMPLETE (03 R118): the teardown of a function in REMOVING goes on, to FREE. -/
def execRemoveComplete (f : BitVec 12) (s : State) : Host.Outcome State Fault Refusal :=
  .next (if (s.fnc f.toNat).state = 6 then s.tearStep f.toNat else s)
/-- A write of VIEW_REPORT_CTRL that sets request (03 R126, R127). -/
def State.reportReq (s : State) (f tag : Nat) : State :=
  (if (s.fnc f).state = 0 then s else s.reportAsk f).hostRsp tag .ok 0
/-- REPORT_REQUEST (03 R126, R127): a write of VIEW_REPORT_CTRL that sets request. -/
def execReportRequest (f : BitVec 12) (tag : BitVec 10) (s : State) : Host.Outcome State Fault Refusal :=
  .next (s.hostCmd f.toNat tag.toNat (.reportRequest f tag) fun s => s.reportReq f.toNat tag.toNat)
/-- REPORT_CAPTURE (03 R127). -/
def execReportCapture (f : BitVec 12) (s : State) : Host.Outcome State Fault Refusal := .next (s.reportCapture f.toNat)
/-- REPORT_READY (03 R127). -/
def execReportReady (f : BitVec 12) (s : State) : Host.Outcome State Fault Refusal := .next (s.reportReady f.toNat)

end Sys2Proof.Machine
end

