-- ==== Sys2Proof/Machine/Host.lean ====
section
/-! DEFINITION. The host port (02 R66, R67): view windows (03 R123, 11 R357, 15 R478, 16 R481), device memory (03 R114, 05 R162,
08 R251), fence pages (11 R352), and the submission of descriptors by a function driver (09 R283, 11 R346). -/

namespace Sys2Proof.Machine

/-! ### Registers as a window answers them (00 R10, R11) -/

/-- What lies at an offset of a window: nothing, a register, or a status register, which permits 32-bit access. -/
inductive RegKind where
  | none | plain | status
  deriving DecidableEq, Repr

/-- Whether an access of `n` bytes at an offset is permitted (00 R10, R11). -/
def accessOk (k : RegKind) (off n : Nat) : Bool :=
  match n with
  | 8 => off % 8 == 0
  | 4 => off % 4 == 0 && k != .plain
  | _ => false

/-- The bytes an access sees of a 64-bit value. -/
def regPart (v : Reg) (off n : Nat) : Nat := if n = 4 then (v.toNat >>> (8 * (off % 8))) % 2 ^ 32 else v.toNat

/-! ### Submission by a function driver (09 R283, 11 R346) -/

/-- Whether a slot holds a context of a function (11 R357). -/
def State.slotOf (s : State) (f c : Nat) : Option Nat :=
  if c < 96 then (s.slot c).ctx.filter fun x => (s.ctx x).fn == f && (s.ctx x).state != 0 else none

/-- Whether a valid pin of a slot names an object whose entry cannot be read (11 R359). -/
def State.pinsUnread (s : State) (c : Nat) : Bool :=
  (s.slot c).pins.any fun p => bit p.toNat 38 && s.ctxWin.badObjs.contains (field p 0 22)
/-- What a slot's valid pins answer (11 R357, R359, 00 R16): STALE where one names an object that can be read and is not LIVE with
the pinned generation, else POISON where one's object cannot be read. -/
def State.pinsStatus (s : State) (c : Nat) : Status :=
  if (s.slot c).pins.any fun p => bit p.toNat 38 && !(s.ctxWin.badObjs.contains (field p 0 22))
      && !((s.obj (field p 0 22)).state == 1 && (s.obj (field p 0 22)).gen == field p 22 16) then .stale
  else if s.pinsUnread c then .poison else .ok

/-- The write of word 7 of VIEW_JOB_DESC: submit the slot's eight words. -/
def State.submitDesc (s : State) (f tag c : Nat) (w7 : Reg) : State :=
  match s.slotOf f c with
  | none => s.hostRsp tag .denied 0
  | some x =>
    let v := s.view f
    let s := s.setView f { v with jobDesc := tset 0 v.jobDesc (8 * c + 7) w7 }
    let d := (List.range 8).map fun k => tget 0 (s.view f).jobDesc (8 * c + k)
    let ps := s.pinsStatus c
    if (s.submitStatus x d).both ps = s.submitStatus x d then
      let (s, st) := s.submitJob x hostPort d
      s.hostRsp tag st 0
    else (if ps = .poison then s.raise hostUnit 0x5A 2 0 0 (s.fnc f).slice f else s).hostRsp tag ps 0

/-! ### Traces: the registers of a slot (15 R465, R478) -/

/-- The write of VIEW_TRACE_CTRL: an enable takes effect at the next boundary; clearing enable stops at once. -/
def State.traceCtrl (s : State) (c : Nat) (d : Reg) : State :=
  let k := s.slot c
  let t := k.trace
  let en := bit d.toNat 0
  let t' := { t with enable := en, wrap := bit d.toNat 1, irqEn := bit d.toNat 2, sizeLog2 := field d 3 5, vec := field d 8 11 }
  s.setSlot c { k with trace := { t' with enabling := en } }

/-- VIEW_TRACE_CTRL as it reads. -/
def TraceSt.ctrl (t : TraceSt) : Reg :=
  rflag t.enable 0 ||| rflag t.wrap 1 ||| rflag t.irqEn 2 ||| rput t.sizeLog2 3 5 ||| rput t.vec 8 11 ||| rflag t.error 19
    ||| rput t.status 20 4
/-- VIEW_TRACE_PTR. -/
def TraceSt.ptr (t : TraceSt) : Reg :=
  rput t.offset 0 30 ||| rflag t.full 30 ||| rput (min t.wraps 65535) 32 16 ||| rput (min t.dropped 65535) 48 16

/-! ### The view window -/

/-- A published counter as a register (15 R461). -/
def Counter.reg (c : Counter) : Reg := rput (if c.tainted then 0 else c.value) 0 48 ||| rflag c.tainted 48 ||| rput c.epoch 49 4

/-- What lies at an offset of a view window (16 R481 index). -/
def viewKind (off : Nat) : RegKind :=
  let o := off / 8 * 8
  let inRange := fun lo n => decide (lo ≤ o) && decide (o < lo + 8 * n)
  let per := fun base stride n k => decide (base ≤ o) && decide (o < base + stride * n) && decide ((o - base) % stride < 8 * k)
  if o = 0 || o = 0x3818 || o = 0x3830 then .status
  else if per 0x6000 0x20 96 3 then (if (o - 0x6000) % 0x20 = 0x10 then .status else .plain)
  else if o = 0x8 || inRange 0x100 12 || inRange 0x200 5 || inRange 0x1000 38 || inRange 0x2000 768
      || o = 0x3800 || o = 0x3808 || o = 0x3810 || o = 0x3820 || o = 0x3828 || o = 0x3838 || o = 0x3840 || inRange 0x3848 6
      || per 0x4000 0x20 96 4 || inRange 0x4C00 192 || inRange 0x5200 128 || o = 0x5600 then .plain
  else .none

/-- Read a register of a view window (03 R123, R126, 11 R357, 15 R478). -/
def State.viewRead (s : State) (f off : Nat) : Reg × State :=
  let o := off / 8 * 8
  let v := s.view f
  let sl := (s.fnc f).slice
  let w := fun (n k : Nat) => BitVec.ofNat 64 (n >>> (64 * k))
  if o = 0 then (s.viewId f, s)
  else if (s.fnc f).state = 0 then (0, s)
  else if o = 0x3838 then s.drainedRead f
  else
    let r : Reg :=
      if o = 0x8 then BitVec.ofNat 64 (s.viewPool f)
      else if 0x100 ≤ o && o < 0x120 then w (s.viewHomeExcl sl) ((o - 0x100) / 8)
      else if 0x120 ≤ o && o < 0x140 then w (s.viewHomeShared sl) ((o - 0x120) / 8)
      else if o = 0x140 then rput (s.viewStacks sl).1 0 16 ||| rput (s.viewStacks sl).2 16 16
      else if o = 0x148 then BitVec.ofNat 64 (s.viewTinesExcl sl)
      else if o = 0x150 then BitVec.ofNat 64 (s.viewTinesShared sl)
      else if o = 0x158 then BitVec.ofNat 64 (s.viewJobs sl)
      else if 0x200 ≤ o && o < 0x220 then w v.nonce.toNat ((o - 0x200) / 8)
      else if o = 0x220 then rflag v.reportPending 0 ||| rflag v.ready 1 ||| rflag v.refused 2 ||| rput v.vec 8 11
      else if 0x1000 ≤ o && o < 0x1130 then BitVec.ofNat 64 (leAt v.report (o - 0x1000) 8)
      else if o = 0x3800 then v.ctxArg0
      else if o = 0x3808 then v.ctxArg1
      else if o = 0x3818 then v.ctxStatus
      else if o = 0x3820 then v.objArg
      else if o = 0x3830 then v.objStatus
      else if o = 0x3840 then rput v.usageCtx 0 16 ||| rflag v.usagePending 16 ||| rflag v.usageReady 17 ||| rflag v.usageRefused 18
      else if 0x3848 ≤ o && o < 0x3878 then BitVec.ofNat 64 (v.usage.getD ((o - 0x3848) / 8) 0)
      else if 0x4000 ≤ o && o < 0x4C00 then
        let c := (o - 0x4000) / 0x20
        if (s.slotOf f c).isSome then (s.slot c).pins.getD ((o - 0x4000) % 0x20 / 8) 0 else 0
      else if 0x4C00 ≤ o && o < 0x5200 then
        let c := (o - 0x4C00) / 0x10
        if (s.slotOf f c).isSome then
          (if o % 0x10 = 0 then rput (s.slot c).kfence 0 20 ||| rflag (s.slot c).armed 20 else (s.slot c).kvalue) else 0
      else if 0x5200 ≤ o && o < 0x5600 then (tget {} s.obs.cnt (sl * 128 + (o - 0x5200) / 8)).reg
      else if o = 0x5600 then BitVec.ofNat 64 s.obs.cntTick
      else if 0x6000 ≤ o && o < 0x6C00 then
        let c := (o - 0x6000) / 0x20
        let t := (s.slot c).trace
        if (s.slotOf f c).isSome then
          (match (o - 0x6000) % 0x20 / 8 with | 0 => rput t.base 0 44 | 1 => t.ctrl | 2 => t.ptr | _ => 0) else 0
      else 0
    (r, s)

/-- Replace one of four words of a list. -/
def setWord (l : List Reg) (k : Nat) (d : Reg) : List Reg := l.set k d

/-- Write a register of a view window and answer it (03 R126, 09 R283, 11 R339, R344, R353, R357, 15 R478). -/
def State.viewWrite (s : State) (f tag off : Nat) (d : Reg) : State :=
  let o := off / 8 * 8
  let v := s.view f
  let ok := fun (s : State) => s.hostRsp tag .ok 0
  let slotReg := fun (c : Nat) (act : State → State) => if (s.slotOf f c).isSome then ok (act s) else s.hostRsp tag .denied 0
  if o = 0x3810 then s.ctxCmd f tag (field d 0 3)
  else if o = 0x3828 then s.objCmd f tag (field d 0 2) (field d 2 22) (field d 24 16)
  else if (s.fnc f).state = 0 then ok s
  else if 0x200 ≤ o && o < 0x220 then
    let k := (o - 0x200) / 8
    let old := (v.nonce.toNat >>> (64 * k)) % 2 ^ 64
    ok (s.setView f { v with nonce := BitVec.ofNat 256 (v.nonce.toNat - old <<< (64 * k) + d.toNat <<< (64 * k)) })
  else if o = 0x220 then
    let s := s.setView f { v with refused := w1c v.refused d 2, vec := field d 8 11 }
    ok (if bit d.toNat 0 then s.reportAsk f else s)
  else if 0x2000 ≤ o && o < 0x3800 then
    let c := (o - 0x2000) / 0x40
    let k := (o - 0x2000) % 0x40 / 8
    if k = 7 then s.submitDesc f tag c d
    else slotReg c fun s => s.setView f { v with jobDesc := tset 0 v.jobDesc (8 * c + k) d }
  else if o = 0x3800 then ok (s.setView f { v with ctxArg0 := d &&& rput (2 ^ 45 - 1) 0 45 })
  else if o = 0x3808 then ok (s.setView f { v with ctxArg1 := d &&& rput (2 ^ 37 - 1) 0 37 })
  else if o = 0x3820 then ok (s.setView f { v with objArg := d &&& rput (2 ^ 58 - 1) 0 58 })
  else if o = 0x3840 then
    let s := s.setView f { v with usageCtx := field d 0 16, usageRefused := w1c v.usageRefused d 18 }
    ok (if bit d.toNat 16 then s.usageAsk f (field d 0 16) else s)
  else if 0x4000 ≤ o && o < 0x4C00 then
    let c := (o - 0x4000) / 0x20
    slotReg c fun s => s.setSlot c { s.slot c with
      pins := setWord (s.slot c).pins ((o - 0x4000) % 0x20 / 8) (d &&& rput (2 ^ 39 - 1) 0 39) }
  else if 0x4C00 ≤ o && o < 0x5200 then
    let c := (o - 0x4C00) / 0x10
    if o % 0x10 = 0 && bit d.toNat 20 then s.kfenceArm f tag c (field d 0 20)
    else slotReg c fun s =>
      if o % 0x10 = 0 then s.setSlot c { s.slot c with kfence := if (s.slot c).armed then (s.slot c).kfence else field d 0 20 }
      else s.setSlot c { s.slot c with kvalue := d }
  else if 0x6000 ≤ o && o < 0x6C00 then
    let c := (o - 0x6000) / 0x20
    let k := (o - 0x6000) % 0x20 / 8
    if k = 0 then slotReg c fun s => s.setSlot c { s.slot c with trace := { (s.slot c).trace with base := field d 0 44 } }
    else if k = 1 then slotReg c fun s => s.traceCtrl c d
    else if k = 2 then slotReg c id
    else ok s
  else ok s

/-- What a write of a view register whose data failed parity is answered (02 R83, 00 R16): DENIED for a register of a slot the
function does not hold, LOST for a descriptor of a lost context, else POISON; nothing is written. -/
def State.viewBad (s : State) (f off : Nat) : Status :=
  let o := off / 8 * 8
  let slot? : Option Nat :=
    if 0x2000 ≤ o && o < 0x3800 then some ((o - 0x2000) / 0x40)
    else if 0x4000 ≤ o && o < 0x4C00 then some ((o - 0x4000) / 0x20)
    else if 0x4C00 ≤ o && o < 0x5200 then some ((o - 0x4C00) / 0x10)
    else if 0x6000 ≤ o && o < 0x6C00 && (o - 0x6000) % 0x20 != 0x18 then some ((o - 0x6000) / 0x20)
    else none
  match slot? with
  | none => .poison
  | some c => match s.slotOf f c with
    | none => if (s.fnc f).state = 0 then .poison else .denied
    | some x => if o < 0x3800 && o % 0x40 = 0x38 && s.ctxLost x then .lost else .poison

/-- An access to the function's own view window (16 R481, 00 R10, R11, R16). -/
def State.viewAccess (s : State) (op : Nat) (r : HostReq) : State :=
  let f := r.fn.toNat
  let tag := r.tag.toNat
  let a := r.addr.toNat
  let n := hostLen r
  if a ≥ 0x10000 || op ≥ 2 || !accessOk (viewKind a) a n || (op == 1 && field r.be 0 n != 2 ^ n - 1) then s.hostRsp tag .denied 0
  else if !hostDparOk r then s.hostRsp tag (if op = 1 && n = 8 then s.viewBad f a else .poison) 0
  else if op = 0 then
    let (v, s) := s.viewRead f a
    s.hostRsp tag .ok (BitVec.ofNat 1024 (regPart v a n))
  else if n = 4 then s.hostRsp tag .ok 0
  else s.viewWrite f tag a (BitVec.ofNat 64 r.wdata.toNat)

/-! ### Device memory (03 R102, R114, 05 R162, 08 R251, 10 R320) -/

/-- Serve an access to device memory: a function in QUIESCING or QUIESCED is answered RETRY (03 R114) unless a status ahead of it
applies (00 R16). -/
def State.serveHost (s : State) (op : Nat) (r : HostReq) (held : Bool) : State :=
  let f := r.fn.toNat
  let tag := r.tag.toNat
  let a := r.addr.toNat
  let n := hostLen r
  let sl := (s.fnc f).slice
  let st := (s.fnc f).state
  if !(st = 2 || st = 3 || st = 4) || chipOf a != s.chip then s.hostRsp tag .denied 0
  else
    let w := r.wdata.toNat
    let o := a % 128
    let en := if op = 1 then BitVec.ofNat 128 (field r.be 0 n <<< o) else beRange o n
    let atom := (if op = 2 then 2 else 1, true, BitVec.ofNat 64 w, if op = 3 then BitVec.ofNat 64 (w >>> 64) else 0)
    let t : Txn := { id := 0, home := 0, line := lineOf a, op := if op = 0 then .read else if op = 1 then .write else .atomicHome,
                     origin := .host tag f, slice := sl, fn := f, tc := s.servedClass sl 1, be := en,
                     data := BitVec.ofNat 1024 (w <<< (8 * o)), sector := o, alloc := op == 0, start := s.blk.tick,
                     hostPort := true, held := held, parBad := !hostDparOk r, atom := atom }
    if st = 2 || (s.gateOf t (some f)).isSome || (s.barredAt t).isSome then s.accept t (some f)
    else (s.retryNote hostUnit sl .retry).hostRsp tag .retry 0

/-- The gate of the host port, then the service (06 R184, R197, R198). -/
def State.hostMemory (s : State) (op : Nat) (r : HostReq) (cmd : Instr) : State :=
  let sl := (s.fnc r.fn.toNat).slice
  let tc := s.servedClass sl 1
  if chipOf r.addr.toNat = s.chip && s.gateShut (some (lineOf r.addr.toNat)) sl tc none && (s.fnc r.fn.toNat).state == 2 then
    s.holdReq hostPort r.tag.toNat tc sl cmd fun s st free =>
      if free then s.hostRsp r.tag.toNat st 0 else s.hostSay r.tag.toNat st
  else s.serveHost op r false

/-! ### Fence pages (11 R347, R352) -/

/-- Bytes 8 to 15 of a fence record. -/
def FenceRec.word1 (r : FenceRec) : Reg :=
  rput r.state 0 2 ||| rput r.source 8 4 ||| rput r.detail 16 8 ||| rput r.armer 32 16 ||| rput r.pending 48 8

/-- The status of an access to a fence record, before its effect (11 R352, 03 R114). -/
def State.fenceStatus (s : State) (op : Nat) (r : HostReq) : Status :=
  let a := r.addr.toNat
  let n := hostLen r
  let f := r.fn.toNat
  let p := s.fpage (a / 16 / 256)
  let x := s.fence (a / 16)
  let owner := f != 0 && p.owner == f
  let reader := f != 0 && p.reader == f
  let idle := x.state == 0 || x.state == 2
  let st := (s.fnc f).state
  let ok := match op, a % 16 with
    | 0, _ => (owner || reader) && (!r.peer || p.peer == 1 || p.peer == 2)
    | 1, 0 => n == 8 && field r.be 0 8 == 255 && idle && (if r.peer then (owner || reader) && p.peer == 2 else owner)
    | 1, 8 => n == 8 && field r.be 0 8 == 255 && owner && !r.peer && x.pending == 0
    | 2, 0 => idle && (if r.peer then (owner || reader) && p.peer == 2 else owner)
    | 3, 0 => idle && (if r.peer then (owner || reader) && p.peer == 2 else owner)
    | _, _ => false
  if a ≥ 16 * 2 ^ 20 || a % 16 + n > 16 || !ok || !(st = 2 || st = 3 || st = 4) then .denied
  else if s.badFences.contains (a / 16) || !hostDparOk r then .poison
  else if st != 2 then .retry
  else .ok

/-- A host signal: the new value, SIGNALLED, source host (11 R352). -/
def State.fenceSignal (s : State) (i : Nat) (v : Reg) : State :=
  (s.setFence i { s.fence i with value := v, state := 2, source := 0 }).fencePageIrq i

/-- An access to a fence record (11 R352). -/
def State.fenceAccess (s : State) (op : Nat) (r : HostReq) : State :=
  let a := r.addr.toNat
  let i := a / 16
  let tag := r.tag.toNat
  let x := s.fence i
  let d : Reg := BitVec.ofNat 64 r.wdata.toNat
  let st := s.fenceStatus op r
  let sl := (s.fnc r.fn.toNat).slice
  if st != .ok then (s.retryNote hostUnit sl st).hostRsp tag st 0
  else match op with
    | 0 =>
      let rec16 := x.value.toNat + x.word1.toNat <<< 64
      s.hostRsp tag .ok (BitVec.ofNat 1024 ((rec16 >>> (8 * (a % 16))) % 2 ^ (8 * hostLen r)))
    | 1 =>
      if a % 16 = 0 then (s.fenceSignal i d).hostRsp tag .ok 0
      else (s.setFence i {}).hostRsp tag .ok 0
    | 2 => (s.fenceSignal i (x.value + d)).hostRsp tag .ok (x.value.setWidth 1024)
    | _ =>
      let b : Reg := BitVec.ofNat 64 (r.wdata.toNat >>> 64)
      (s.fenceSignal i (if x.value = b then d else x.value)).hostRsp tag .ok (x.value.setWidth 1024)

/-! ### Requests -/

/-- Serve a request by its space. -/
def State.hostServe (s : State) (op : Nat) (r : HostReq) (held : Bool) : State :=
  if r.space = 2 then s.fenceAccess op r else if r.space = 1 then s.serveHost op r held else s.viewAccess op r

/-- A request at the host port (02 R67, R83). -/
def State.hostReq (s : State) (op : Nat) (r : HostReq) (cmd : Instr) : State :=
  let a := r.addr.toNat
  let n := hostLen r
  if !s.portUp hostPort then s
  else if !hostCparOk op r then s.portEvent hostPort 0x63
  else
    let rsvd := r.space == 3 || (hostRsvd r).isSome
    match s.hostArrive r.fn.toNat r.tag.toNat (!hostDparOk r) rsvd (op == 0 && r.space == 1) with
    | (s, false) => s
    | (s, true) =>
      if !inLine a n || (op ≥ 2 && (n != 8 || a % 8 != 0)) || rsvd || (r.peer && r.space != 2) then
        s.hostRsp r.tag.toNat .denied 0
      else if r.space = 1 then s.hostMemory op r cmd
      else s.hostGate r.fn.toNat r.tag.toNat cmd fun s => s.hostServe op r false

/-! ### The commands -/

/-- HOST_READ (02 R66, R67). -/
def execHostRead (r : HostReq) (s : State) : Host.Outcome State Fault Refusal := .next (s.hostReq 0 r (.hostRead r))
/-- HOST_WRITE (02 R66, R67). -/
def execHostWrite (r : HostReq) (s : State) : Host.Outcome State Fault Refusal := .next (s.hostReq 1 r (.hostWrite r))
/-- HOST_FETCH_ADD (08 R251). -/
def execHostFetchAdd (r : HostReq) (s : State) : Host.Outcome State Fault Refusal := .next (s.hostReq 2 r (.hostFetchAdd r))
/-- HOST_COMPARE_SWAP (08 R251). -/
def execHostCompareSwap (r : HostReq) (s : State) : Host.Outcome State Fault Refusal :=
  .next (s.hostReq 3 r (.hostCompareSwap r))
/-- JOB_DESC_SUBMIT (09 R283): the write of word 7 of VIEW_JOB_DESC of a slot. -/
def execJobDescSubmit (f : BitVec 12) (tag : BitVec 10) (c : BitVec 7) (word7 : Reg) (s : State) :
    Host.Outcome State Fault Refusal :=
  .next (s.hostCmd f.toNat tag.toNat (.jobDescSubmit f tag c word7) fun s =>
    s.submitDesc f.toNat tag.toNat c.toNat word7)
/-- A write of VIEW_TRACE_CTRL of a slot (15 R465, R478). -/
def State.traceReq (s : State) (f tag c : Nat) (ctrl : Reg) : State :=
  if (s.slotOf f c).isSome then (s.traceCtrl c ctrl).hostRsp tag .ok 0 else s.hostRsp tag .denied 0
/-- TRACE_ENABLE (15 R465, R478): the write of VIEW_TRACE_CTRL of a slot. -/
def execTraceEnable (f : BitVec 12) (tag : BitVec 10) (c : BitVec 7) (ctrl : Reg) (s : State) :
    Host.Outcome State Fault Refusal :=
  .next (s.hostCmd f.toNat tag.toNat (.traceEnable f tag c ctrl) fun s => s.traceReq f.toNat tag.toNat c.toNat ctrl)

end Sys2Proof.Machine
end

