-- ==== Sys2Proof/Machine/Qos.lean ====
section
/-! DEFINITION. The regulator's loops (06 R184 to R213): the release of held requests, throttles, measured latency and ramps,
urgency, the plausibility of feedback, and the QOS window's staged values. -/

namespace Sys2Proof.Machine

/-! ### Held requests (06 R197 to R199) -/

/-- The slice of a held request. -/
def State.heldSlice (s : State) (h : HeldReq) : Nat :=
  match s.openReq h.port h.tag with
  | some q => q.slice
  | none => s.tileSlice h.port

/-- The line whose gates hold a request; none for a request held by a class hold only. -/
def State.heldLine (s : State) (h : HeldReq) : Option Nat :=
  match h.cmd with
  | .rdShared _ r | .rdUnique _ r | .rdOnce _ r | .wrSector _ r | .atomicHome _ r | .atomicMem _ r => some (lineOf r.addr.toNat)
  | .rdSeq p r => (s.bound p.toNat).bind fun b => s.seqTarget r b
  | .hostRead r | .hostWrite r | .hostFetchAdd r | .hostCompareSwap r =>
    if r.space = 1 && chipOf r.addr.toNat == s.chip then some (lineOf r.addr.toNat) else none
  | _ => none

/-- Whether the gate of a held request is closed. -/
def State.heldClosed (s : State) (h : HeldReq) : Bool := s.gateShut (s.heldLine h) (s.heldSlice h) h.tc none

/-- Serve a held tile request under the binding its port has now: DENIED without one, LOST where it is lost (11 R342). -/
def State.heldTile (s : State) (port : Nat) (r : TpReq) (serve : State → Bound → State) : State :=
  match s.bound port with
  | none => s.tileRsp port r.tag.toNat .denied 0 0
  | some b => if b.lost then s.tileRsp port r.tag.toNat .lost 0 0 else serve s b

/-- Serve a request that has been held. -/
def State.serveHeld (s : State) (h : HeldReq) : State :=
  match h.cmd with
  | .rdShared p r => s.heldTile p.toNat r fun s b => s.serveRead p.toNat .rdShared r b true
  | .rdUnique p r => s.heldTile p.toNat r fun s b => s.serveRead p.toNat .rdUnique r b true
  | .rdOnce p r => s.heldTile p.toNat r fun s b => s.serveRead p.toNat .rdOnce r b true
  | .rdSeq p r => s.heldTile p.toNat r fun s b => s.serveSeq p.toNat r b true
  | .wrSector p r => s.heldTile p.toNat r fun s b => s.serveWrite p.toNat r b true
  | .atomicHome p r => s.heldTile p.toNat r fun s b => s.serveAtomic p.toNat .atomicHome r b true
  | .atomicMem p r => s.heldTile p.toNat r fun s b => s.serveAtomic p.toNat .atomicMem r b true
  | .reduceOpen p r | .reduceClose p r | .reduceContribution p r =>
    s.heldTile p.toNat r fun s b => s.serveReduce p.toNat r b
  | .jobSubmit p r => s.heldTile p.toNat r fun s b => s.tileSubmit p.toNat r b
  | .hostRead r => s.hostServe 0 r true
  | .hostWrite r => s.hostServe 1 r true
  | .hostFetchAdd r => s.hostServe 2 r true
  | .hostCompareSwap r => s.hostServe 3 r true
  | .ctxCreate f tag => s.ctxCmd f.toNat tag.toNat 1
  | .ctxLoad f tag => s.ctxCmd f.toNat tag.toNat 2
  | .ctxUnload f tag => s.ctxCmd f.toNat tag.toNat 3
  | .ctxAbandon f tag => s.ctxCmd f.toNat tag.toNat 4
  | .ctxDestroy f tag => s.ctxCmd f.toNat tag.toNat 5
  | .setKey f tag => s.ctxCmd f.toNat tag.toNat 6
  | .objCreate f tag => s.objCmd f.toNat tag.toNat 1 0 0
  | .objFree f tag object gen => s.objCmd f.toNat tag.toNat 2 object.toNat gen.toNat
  | .objDrainedRead f tag => s.drainedRsp f.toNat tag.toNat
  | .kfenceArm f tag c fence => s.kfenceArm f.toNat tag.toNat c.toNat fence.toNat
  | .usageQuery f tag ctx => s.usageReq f.toNat tag.toNat ctx.toNat
  | .jobDescSubmit f tag c w => s.submitDesc f.toNat tag.toNat c.toNat w
  | .traceEnable f tag c ctrl => s.traceReq f.toNat tag.toNat c.toNat ctrl
  | .reportRequest f tag => s.reportReq f.toNat tag.toNat
  | _ => s

/-- Take a held request out of its queue and serve it. -/
def State.letGo (s : State) (h : HeldReq) : State :=
  let drop := fun (x : HeldReq) => !(x.port == h.port && x.tag == h.tag)
  { s with held := s.held.filter drop }.serveHeld h

/-- The key of R189 of a held request, by its memory port where one is known. -/
def State.heldKey (s : State) (h : HeldReq) : Nat :=
  let sl := s.heldSlice h
  let p := match s.heldLine h with | some l => granPort (lineGran l) | none => 0
  s.pickKey p sl (s.level (portDie h.port) sl h.tc) false (s.overBudget p sl h.tc none)
/-- Open the gates whose condition has ended: their held requests go in the order of R189, of one slice and class the oldest first
(06 R197). -/
def State.openGates (s : State) : State :=
  if s.fullHold || s.fatal then s
  else (sortDesc s.heldKey s.held).foldl (fun (s : State) h => if s.heldClosed h then s else s.letGo h) s

/-- hold_age in ticks (06 R211). -/
def State.holdAge (s : State) : Nat := if s.qos.holdAge = 0 then 8 else s.qos.holdAge

/-- Whether the age of a held request stands still: under a class hold or a full hold (06 R199). -/
def State.ageStops (s : State) (h : HeldReq) : Bool := s.fullHold || (s.blk.parked && h.tc == 3)

/-- Release a request that has been held for hold_age ticks (06 R199). -/
def State.heldLate (s : State) (h : HeldReq) : State :=
  if s.fullHold || s.fatal || h.age < s.holdAge then s
  else ((s.outcome (s.heldSlice h) h.tc 5).onReq h.port h.tag fun q => { q with aged := some s.blk.tick }).letGo h

/-- Release a job that has been paused for hold_age ticks (06 R199). -/
def State.jobLate (s : State) (j : Job) : State :=
  if s.fatal || j.age < s.holdAge then s
  else (s.outcome j.slice j.tc 5).setJob { j with age := 0, paused := false, aged := some s.blk.tick }
/-- The ages of paused jobs after a tick, and the releases they bring (06 R198, R199). -/
def State.jobAges (s : State) : State :=
  if s.fullHold then s
  else
    let older := fun (j : Job) => if j.paused && !(s.blk.parked && j.tc == 3) then { j with age := j.age + 1 } else j
    let s := { s with jobs := s.jobs.map older }
    s.jobs.foldl State.jobLate s

/-- The ages of held requests after a tick, and the releases they bring (06 R199). -/
def State.holdAges (s : State) : State :=
  let older := fun (h : HeldReq) => if s.ageStops h then h else { h with age := h.age + 1 }
  let s := { s with held := s.held.map older }
  (s.held.foldl (fun (s : State) h => s.heldLate h) s).jobAges

/-! ### Throttles (06 R201) -/

/-- entry(n) of a throttle level. -/
def throttleEntry (n : Nat) : Nat := match n with | 0 => 0 | 1 => 8 | 2 => 11 | _ => 14
/-- The highest level a queue level enters. -/
def throttleOf (q : Nat) : Nat := if q ≥ 14 then 3 else if q ≥ 11 then 2 else if q ≥ 8 then 1 else 0

/-- Note a sampled queue level of a port. -/
def State.sampleQ (s : State) (p q : Nat) : State :=
  let m := s.mp p
  s.setMp p { m with qlevel := q, qMax := max m.qMax q, qMin := min m.qMin q }

/-- mp_qlevel has stayed at or above an entry for 16 fclk: the throttle rises, over levels if need be. -/
def State.throttleRise (s : State) (p q : Nat) : State :=
  let s := s.sampleQ p q
  let m := s.mp p
  if s.mpMode p != 0 || throttleOf q ≤ m.throttle then s
  else
    (s.setMp p { m with throttle := throttleOf q, limitStage := 0, limitUsed := 0 }).openGates

/-- mp_qlevel has stayed at or below entry − 3 for 256 fclk: the throttle falls one level. -/
def State.throttleFall (s : State) (p q : Nat) : State :=
  let s := s.sampleQ p q
  let m := s.mp p
  if s.mpMode p != 0 || m.throttle = 0 || q + 3 > throttleEntry m.throttle then s
  else
    let n := m.throttle - 1
    (s.setMp p { m with throttle := n, limitStage := if n = 0 then 1 else 0, limitUsed := 0 }).openGates

/-! ### Latency and ramps (06 R190 to R192) -/

/-- A ramp's key. -/
def rampKey (die sl t : Nat) : Nat := (die * 128 + sl) * 4 + t

/-- The oldest outstanding read of a slice and class on a die, in ticks: of its tile ports and the host port from the transfer, of
its job engines from the issue (06 R190). -/
def State.oldestRead (s : State) (die sl t : Nat) : Nat :=
  let a := s.reqs.foldl (fun (a : Nat) q =>
    if q.read && q.slice == sl && q.tc == t && portDie q.port == die then max a (s.blk.tick - q.since) else a) 0
  s.txns.foldl (fun (a : Nat) x => match x.origin with
    | .job _ => if x.op.isRead && !x.internal && x.slice == sl && x.tc == t && s.originDie x.origin == die
        then max a (s.blk.tick - x.start) else a
    | _ => a) a

/-- L of a slice and class on a die for the ended tick, in ns (06 R190, log entry 20); 0 where the snapshot cannot be read (R213). -/
def State.measured (s : State) (die sl t : Nat) : Nat :=
  let (sum, n) := tget (0, 0) s.qos.latDone (rampKey die sl t)
  if s.qos.snapLost.contains (die * 128 + sl) then 0
  else max (if n = 0 then 0 else sum / n) (s.oldestRead die sl t * 1000)

/-- The slices a regulator knows: 0 and every defined one. -/
def State.allSlices (s : State) : List Nat := 0 :: s.img.active.slices.map (·.1)

/-- The snapshot of the measured latencies of the ended tick (06 R190). -/
def State.measureAll (s : State) : State :=
  let one := fun (m : Map Nat) (sl : Nat) => (List.range 32).foldl (fun (m : Map Nat) x =>
    tset 0 m (rampKey (x / 4) sl (x % 4)) (s.measured (x / 4) sl (x % 4))) m
  { s with qos := { s.qos with lats := s.allSlices.foldl one [], latDone := [] } }

/-- The desired ramp (06 R191). -/
def desired (l t : Nat) : Nat :=
  if 2 * l < t then 0 else if 4 * l < 3 * t then 1 else if 8 * l < 7 * t then 2 else 3

/-- ramp_down in snapshots (06 R211). -/
def Qos.rampDownOf (q : Qos) : Nat := if q.rampDown = 0 then 4 else q.rampDown

/-- A ramp after a snapshot (06 R191, R192, R194). `urgent` is a stream whose urgency makes it 3. -/
def Ramp.next (r : Ramp) (l t down : Nat) (urgent : Bool) : Ramp :=
  let high := if r.k = 3 && l ≥ t then r.high + 1 else 0
  if t = 0 then { k := if urgent then 3 else 0, latest := l }
  else
    let d := desired l t
    if urgent then { r with k := 3, below := 0, high := high, latest := l }
    else if d > r.k then { r with k := r.k + 1, below := 0, high := high, latest := l }
    else if d < r.k then
      (if r.below + 1 ≥ down then { r with k := r.k - 1, below := 0, high := high, latest := l }
       else { r with below := r.below + 1, high := high, latest := l })
    else { r with below := 0, high := high, latest := l }

/-- target_unmet of a slice and class: set where a die's ramp was 3 with L at or above T for 16 ticks (06 R192). -/
def State.targetUnmet (s : State) (sl t : Nat) : State :=
  let m := tget {} s.qos.measure (sl * 4 + t)
  let hit := (List.range 8).any fun d => decide ((tget {} s.qos.ramps (rampKey d sl t)).high ≥ 16)
  if hit && !m.unmet then
    { s with qos := { s.qos with measure := tset {} s.qos.measure (sl * 4 + t) { m with unmet := true } } }.raise
      qosUnit 0xC0 1 0 0 sl 0
  else s

/-- Move the ramps of a slice and class at the refill and publish their measure (06 R190 to R192, R211). A die whose snapshot
could not be read has L = 0 and keeps its ramp (06 R213). -/
def State.rampClass (s : State) (sl t : Nat) : State :=
  let tt := (s.qcls sl t).lat
  let urgent := decide (s.urgencyOf sl t none ≥ 4)
  let ls := (List.range 8).map fun d => tget 0 s.qos.lats (rampKey d sl t)
  let ramps := ((List.range 8).zip ls).foldl (fun (m : Map Ramp) x =>
    let r := tget {} m (rampKey x.1 sl t)
    tset {} m (rampKey x.1 sl t) (if s.qos.snapLost.contains (x.1 * 128 + sl) then { r with high := 0, latest := 0 }
      else r.next x.2 tt s.qos.rampDownOf urgent)) s.qos.ramps
  let top := ls.foldl max 0
  let k := (List.range 8).foldl (fun a d => max a (tget {} ramps (rampKey d sl t)).k) 0
  let m := tget {} s.qos.measure (sl * 4 + t)
  let m := { m with latency := min top 0xFFFF, ramp := k, unmet := m.unmet && decide (top ≥ tt) && tt != 0,
                    served := m.servedNow, servedNow := 0, scaled := false }
  { s with qos := { s.qos with ramps := ramps, measure := tset {} s.qos.measure (sl * 4 + t) m } }.targetUnmet sl t

/-- The ramps of every slice and class; kind 0xC3 for the snapshots that could not be read (06 R191, R213). -/
def State.rampUpdate (s : State) : State :=
  let s := s.allSlices.foldl (fun (s : State) sl => (List.range 4).foldl (fun (s : State) t => s.rampClass sl t) s) s
  s.qos.snapLost.foldl (fun (s : State) k => s.raise qosUnit 0xC3 1 0 0 (k % 128) 0)
    { s with qos := { s.qos with snapLost := [] } }

/-! ### Oversubscription (06 R187, R207) -/

/-- The shared instances that budgets are kept for; a home slice stands for its reads and its writes. -/
def regulated : List Nat := (List.range 152) ++ (List.range 64).map instTine

/-- Whether slot_min sums to more than 240 at a memory port (06 R207). -/
def State.slotsOver (s : State) (i : Nat) : Bool :=
  decide (i < 16) && decide
    ((s.img.active.slices.filter fun x => s.reaches x.1 i).foldl (fun (a : Nat) x => a + (s.qsl x.1).slotMin) 0 > 240)
/-- Whether an instance is oversubscribed: by bw_share, or by slot_min at a memory port. -/
def State.oversubscribed (s : State) (i : Nat) : Bool := s.instShared i && (decide (s.bwSum i > 256) || s.slotsOver i)

/-- Mark the slices whose budgets an instance scales, or whose slot_min a memory port does (06 R187, R207). -/
def State.markScaled (s : State) (i : Nat) : State :=
  let over_ := decide (s.bwSum i > 256)
  (s.img.active.slices.filter fun x => s.reaches x.1 i).foldl (fun (s : State) x =>
    (List.range 4).foldl (fun (s : State) t =>
      if (over_ && (s.qcls x.1 t).bw != 0) || (s.slotsOver i && (s.qsl x.1).slotMin != 0) then
        let m := tget {} s.qos.measure (x.1 * 4 + t)
        { s with qos := { s.qos with measure := tset {} s.qos.measure (x.1 * 4 + t) { m with scaled := true } } }
      else s) s) s

/-- The refill (06 R185 to R187, R191): the ramps move, what is used is forgotten, the capacities follow fclk_per_tick, scaling is
marked and kind 0xC1 raised for an instance that becomes oversubscribed. -/
def State.refill (s : State) : State :=
  let s := s.rampUpdate
  let now := regulated.filter s.oversubscribed
  let fresh := now.filter fun i => !s.qos.overB.contains i
  let s := { s with qos := { s.qos with usedPrev := s.qos.used, used := [], ctxLoads := [], overB := now, jobUsed := [],
                                        tineUsePrev := s.qos.tineUse, tineUse := [], fclk := s.fclkPerTick } }
  let s := now.foldl (fun (s : State) i => s.markScaled i) s
  fresh.foldl (fun (s : State) i => s.raise qosUnit 0xC1 1 3 (instUnit i) 0 0) s

/-! ### Urgency (06 R193 to R195) -/

/-- The URGENCY record of an input, if it is bound. -/
def State.urgRec (s : State) (n : Nat) : Option UrgRec := mget? s.img.active.urgs n

/-- Set the ramps of a bound stream to 3: what R191 goes on from when the level falls below 4 (06 R194). -/
def State.urgRamps (s : State) (n : Nat) : State :=
  match s.urgRec n with
  | some u =>
    let ks := if u.master = 1 then (List.range 4).map (rampKey (u.tine / 8) u.slice) else (List.range 8).map fun d => rampKey d u.slice 0
    let ramps := ks.foldl (fun (m : Map Ramp) k => tset {} m k { tget {} m k with k := 3, below := 0 }) s.qos.ramps
    { s with qos := { s.qos with ramps := ramps } }
  | none => s

/-- An urgency input changes its level. -/
def State.urgLevel (s : State) (n l : Nat) : State :=
  let u := s.urg n
  let s := if u.level ≥ 4 && l < 4 && !u.floating then s.urgRamps n else s
  let s := s.setUrg n { u with level := l, at7 := if l = 7 then u.at7 else 0, raised := u.raised && l == 7 }
  s.openGates

/-- An input that has stayed at 7 for 8 ticks (06 R195). -/
def State.urgStarved (s : State) (n : Nat) : State :=
  let u := s.urg n
  match s.urgRec n with
  | some r =>
    if u.at7 ≥ 8 && u.level == 7 && !u.floating && !u.raised then
      (s.setUrg n { u with raised := true }).raise qosUnit 0xC4 2 2 (340 + n) r.slice 0
    else s
  | none => s

/-- The ticks at level 7 after a boundary. -/
def State.urgTicks (s : State) : State :=
  (List.range 16).foldl (fun (s : State) n =>
    let u := s.urg n
    let s := s.setUrg n { u with at7 := if u.level = 7 && !u.floating then min (u.at7 + 1) (2 ^ 32 - 1) else 0 }
    s.urgStarved n) s

/-! ### Feedback (06 R200, R209) -/

/-- Put a port whose feedback is implausible in hold mode (06 R209). -/
def State.implausible (s : State) (p : Nat) : State :=
  let m := s.mp p
  if !m.implausible && (m.rttBadTicks ≥ 16 || m.qBadTicks ≥ 16) then
    (s.setMp p { m with implausible := true }).raise qosUnit 0xC2 1 2 (mpPort p) 0 0
  else s

/-- Examine a pending restore_feedback (06 R209). -/
def State.restoreFb (s : State) (p : Nat) : State :=
  let m := s.mp p
  if !m.restore then s
  else s.setMp p { m with restore := false, implausible := m.implausible && m.goodTicks < 16 }

/-- What a port has shown in the ended tick (06 R209), and the sequence of the limit after a fall (06 R201). -/
def State.mpTick (s : State) (p : Nat) : State :=
  let m := s.mp p
  let mean := if m.rttCount = 0 then 0 else m.rttSum / m.rttCount
  let rb := if mean > s.qos.rttLimit && m.qMax ≤ 7 then m.rttBadTicks + 1 else 0
  let qb := if m.qMin ≥ 14 && m.outMax ≤ 16 then m.qBadTicks + 1 else 0
  let good := if rb ≥ 16 || qb ≥ 16 then 0 else m.goodTicks + 1
  let m := { m with rtt := min mean (2 ^ 32 - 1), rttSum := 0, rttCount := 0, qMax := m.qlevel, qMin := m.qlevel,
                    outMax := m.tags.length, rttBadTicks := rb, qBadTicks := qb, goodTicks := good, limitUsed := 0,
                    limitStage := if m.limitStage = 0 || m.limitStage = 3 then 0 else m.limitStage + 1, tagFailTick := 0 }
  (s.setMp p m).implausible p

/-! ### Staged values (06 R212) -/

/-- Drop the staged values of the slices for which a test holds. -/
def State.unstage (s : State) (p : Nat → Bool) : State :=
  let q := s.qos
  { s with qos := { q with classesStaged := q.classesStaged.filter fun x => !p (x.1 / 4),
                           slicesStaged := q.slicesStaged.filter fun x => !p x.1 } }

/-- Apply the staged values at the boundary they are due (06 R212). -/
def State.qosApply (s : State) : State :=
  if !s.qos.armed || s.blk.tick < s.qos.armTick then s
  else
    let changed := fun (sl : Nat) => s.img.lastCommit == s.blk.tick && s.img.touched.contains sl
    let superseded := (s.qos.classesStaged.any fun x => changed (x.1 / 4)) || s.qos.slicesStaged.any fun x => changed x.1
    let s := s.unstage changed
    let q := s.qos
    let cls := q.classesStaged.foldl (fun (m : Map QosClass) x => tset {} m x.1 x.2) q.classes
    let sls := q.slicesStaged.foldl (fun (m : Map QosSlice) x => tset {} m x.1 x.2) q.slices
    let s := { s with qos := { q with classes := cls, slices := sls, classesStaged := [], slicesStaged := [], armed := false,
                                      armApplyTick := s.tick32 } }
    let r := if superseded then 2 else if regulated.any s.oversubscribed then 3 else 1
    { s with qos := { s.qos with armResult := r } }.mgIrq 0x07

/-- Set arm. -/
def State.qosArm (s : State) : State := if s.isMirror then s else { s with qos := { s.qos with armed := true } }
/-- Drop the staged values and disarm. -/
def State.qosDiscard (s : State) : State :=
  { s with qos := { s.qos with armed := false, classesStaged := [], slicesStaged := [] } }

/-- Stage the parameters of a class; ignored while armed. -/
def State.stageClass (s : State) (sl t : Nat) (c : QosClass) : State :=
  if s.qos.armed then { s with qos := { s.qos with armResult := 4 } }
  else { s with qos := { s.qos with classesStaged := mput s.qos.classesStaged (sl * 4 + t) c } }
/-- Stage the parameters of a slice; ignored while armed. -/
def State.stageSlice (s : State) (sl : Nat) (c : QosSlice) : State :=
  if s.qos.armed then { s with qos := { s.qos with armResult := 4 } }
  else { s with qos := { s.qos with slicesStaged := mput s.qos.slicesStaged sl c } }

/-! ### The commands -/

/-- THROTTLE_RISE (06 R201). -/
def execThrottleRise (p qlevel : BitVec 4) (s : State) : Host.Outcome State Fault Refusal :=
  .next (s.throttleRise p.toNat qlevel.toNat)

/-- THROTTLE_FALL (06 R201). -/
def execThrottleFall (p qlevel : BitVec 4) (s : State) : Host.Outcome State Fault Refusal :=
  .next (s.throttleFall p.toNat qlevel.toNat)

/-- HOLD_AGE_EXPIRY (06 R199). -/
def execHoldAgeExpiry (port : BitVec 9) (tag : BitVec 10) (s : State) : Host.Outcome State Fault Refusal :=
  .next (match s.held.find? fun h => h.port == port.toNat && h.tag == tag.toNat with
    | some h => s.heldLate h
    | none => s)

/-- TARGET_UNMET (06 R192). -/
def execTargetUnmet (sl : BitVec 7) (t : BitVec 2) (s : State) : Host.Outcome State Fault Refusal :=
  .next (s.targetUnmet sl.toNat t.toNat)

/-- FEEDBACK_IMPLAUSIBLE (06 R209). -/
def execFeedbackImplausible (p : BitVec 4) (s : State) : Host.Outcome State Fault Refusal := .next (s.implausible p.toNat)

/-- RESTORE_FEEDBACK (06 R209): a pending restore is examined. -/
def execRestoreFeedback (p : BitVec 4) (s : State) : Host.Outcome State Fault Refusal := .next (s.restoreFb p.toNat)

/-- URGENCY_LEVEL (06 R193, R194). -/
def execUrgencyLevel (n : BitVec 4) (level : BitVec 3) (s : State) : Host.Outcome State Fault Refusal :=
  .next (s.urgLevel n.toNat level.toNat)

/-- URGENCY_STARVED (06 R195). -/
def execUrgencyStarved (n : BitVec 4) (s : State) : Host.Outcome State Fault Refusal := .next (s.urgStarved n.toNat)

/-- QOS_ARM: the write of arm to QOS_ARM (06 R212). -/
def execQosArm (s : State) : Host.Outcome State Fault Refusal := .next (s.mgWrite false fun s => s.qosArm)

/-- QOS_DISCARD: the write of discard to QOS_ARM (06 R212). -/
def execQosDiscard (s : State) : Host.Outcome State Fault Refusal := .next (s.mgWrite false fun s => s.qosDiscard)

/-- QOS_APPLY (06 R212). -/
def execQosApply (s : State) : Host.Outcome State Fault Refusal := .next s.qosApply

end Sys2Proof.Machine
end

