-- ==== Sys2Proof/Machine/Tines.lean ====
section
/-! DEFINITION. The transport of the tines (10 R305 to R323): admission, acknowledgement, resending, the slot commands, and
what the messages of other chips do. -/

namespace Sys2Proof.Machine

/-! ### Sequence numbers -/

/-- Whether a 32-bit number comes before another. -/
def seqLt (a b : Nat) : Bool := a != b && decide ((b + 2 ^ 32 - a) % 2 ^ 32 < 2 ^ 31)
/-- Whether a 32-bit number comes before another or is it. -/
def seqLe (a b : Nat) : Bool := a == b || seqLt a b

/-! ### The ends of remote requests (10 R318, R322, R323, R326) -/

/-- Grant a proxy's request what the remote home answered (10 R321): the local filter follows. -/
def State.proxyGrant (s : State) (t : Txn) (st : Status) (state : Nat) (data : Line) : State :=
  if st != .ok then (s.finish t st 0 [] 3).settle
  else
    let e := s.filt t.home t.line
    let p := match t.origin with | .tile p _ => p | _ => 0
    let e' : FiltEntry := if state ≥ 3 then { st := state, owner := p } else if state = 2 then { e with st := 2, owner := p }
      else { e with st := 1 }.addTile p
    let grants := (t.op == .rdShared || t.op == .rdUnique) && state != 0
    let s := if grants then s.setFilt t.home t.line { e' with slice := t.slice, age := t.id } else s
    (s.finish t .ok (if grants then state else 0) [data] 0).settle

/-- Whether two records are of one request. -/
def RemoteReq.same (a b : RemoteReq) : Bool := a.sa == b.sa && a.xid == b.xid && a.kind == b.kind
/-- Whether a request is posted. -/
def RemoteReq.posted (r : RemoteReq) : Bool := r.kind == 1 || r.kind == 2

/-- End a request of this chip. A posted one that failed is kept for the port's next LINK_FENCE (10 R323). -/
def State.remoteEnd (s : State) (r : RemoteReq) (st : Status) (state : Nat) (data : Line) : State :=
  let mark := fun (x : RemoteReq) => if x.same r then { x with done := some st } else x
  let s := if r.posted && r.port.isSome && st != .ok then { s with remotes := s.remotes.map mark }
    else { s with remotes := s.remotes.filter fun x => !x.same r }
  match r.origin with
  | .tile p tag =>
    if r.posted then s
    else
      let s := if st = .ok then s.use ((s.bound p).map (·.ctx)) 128 0 0 0 else s
      s.tileRsp p tag st 0 data
  | .proxy id => match s.txn? id with
    | some t => if r.posted then (s.setTxn { t with got := some 0 }).settle else s.proxyGrant t st state data
    | none => s
  | _ => s

/-- Abandon a message of a connection: the request it carries completes with TIMEOUT (10 R318, R326). -/
def State.abandon (s : State) (n : Nat) (m : SentMsg) : State :=
  let a := s.sa n
  let s := s.setSa n { a with msgs := a.msgs.filter (·.msn != m.msn) }
  let op := m.msg.op.toNat
  if op = 0 || op > 5 then s
  else match s.remotes.find? fun r => r.sa == n && r.xid == m.msg.xid.toNat && r.done.isNone with
    | some r => s.remoteEnd r .timeout 0 0
    | none => s

/-! ### Sending again (10 R310, R318, R319, R329) -/

/-- Send a message again on another path, or leave it to its deadline where there is none. -/
def State.resend (s : State) (n : Nat) (m : SentMsg) (avoid : Option Nat) : State :=
  if (s.sa n).state != 2 then s
  else match s.choosePath n m.msg.slice.toNat (msgBytes m.msg) avoid with
    | some p =>
      let s := s.transmit n m p m.tc
      s.note (tinUnit (p % 64)) 0x1A (some m.msg.slice.toNat) 1
    | none => s

/-- Whether a connection still has to send a message: it has not been sent, or it stands on a path it may no longer use. -/
def State.unsent (s : State) (n : Nat) (m : SentMsg) : Bool := !(m.sent && (s.pathsFor n m.msg.slice.toNat).contains m.path)
/-- The key of R189 of a message at the transmit scheduler of the tine it would take. -/
def State.sendKey (s : State) (n : Nat) (m : SentMsg) : Nat :=
  let sl := m.msg.slice.toNat
  match s.choosePath n sl (msgBytes m.msg) none with
  | some p => s.pickKey (instTine (p % 64)) sl (s.level (p % 64 / 8) sl m.tc) (sl == 0) (s.overBudget (instTine (p % 64)) sl m.tc none)
  | none => 0
/-- Send what some connections have still to send, in the order of R189. -/
def State.pumpAll (s : State) (ns : List Nat) : State :=
  let ready := ns.filter fun n => (s.sa n).state == 2 && (s.sa n).tx
  let ms := ready.flatMap fun n => ((s.sa n).msgs.filter (s.unsent n)).map fun m => (n, m)
  (sortDesc (fun (x : Nat × SentMsg) => s.sendKey x.1 x.2) ms).foldl (fun (s : State) x =>
    match s.choosePath x.1 x.2.msg.slice.toNat (msgBytes x.2.msg) none with
    | some p => s.transmit x.1 x.2 p x.2.tc
    | none => s) s
/-- Send what a connection has still to send. -/
def State.pump (s : State) (n : Nat) : State := s.pumpAll [n]

/-- Send again what is unacknowledged on a tine (10 R329). -/
def State.respray (s : State) (t : Nat) : State :=
  s.sas.foldl (fun (s : State) a =>
    (a.2.msgs.filter fun m => m.sent && m.path % 64 == t).foldl (fun (s : State) m => s.resend a.1 m (some m.path)) s) s

/-- A tine fails: its messages go to other tines (10 R329). -/
def State.tineFails (s : State) (t cause : Nat) : State :=
  (s.setTine t { s.tine t with state := 3, cause := cause, goodTicks := 0 }).respray t

/-- A tine fails for want of its link or its paths: kind 0xC8 in the class of 02 R85, then the failure. -/
def State.tineDown (s : State) (t : Nat) : State :=
  let s := match s.strandedSlices t with
    | [] => s.raise (tinUnit t) 0xC8 1 13 t 0 0
    | ls => ls.foldl (fun (s : State) sl => s.raise (tinUnit t) 0xC8 2 13 t sl 0) s
  s.tineFails t 0xC8

/-- retx_max (10 R335). -/
def State.retxMax (s : State) : Nat := if s.tin.retxMax = 0 then 3 else s.tin.retxMax
/-- transfer_deadline (10 R335). -/
def State.transferDeadline (s : State) : Nat := if s.tin.transferDeadline = 0 then 4 else s.tin.transferDeadline

/-- Whether every path of a tine has failed, over the connections that use it. -/
def State.allPathsFailed (s : State) (t : Nat) : Bool :=
  let mine := s.paths.filter fun p => p.1 % 64 == t && (s.sa (p.1 / 256)).tx && (s.sa (p.1 / 256)).state == 2
  let link := (s.tine t).carries
  let left := s.sas.any fun a => a.2.tx && a.2.state == 2 && Nat.testBit a.2.tines.toNat link
    && ((List.range (if a.2.udp then s.tin.udpPaths + 1 else 1)).any fun k => !(s.pathOf a.1 (t + 64 * k)).failed)
  !mine.isEmpty && !left

/-- The retransmit timeout of a message has passed (10 R318, R319). -/
def State.rto (s : State) (n msn : Nat) : State :=
  match (s.sa n).msgs.find? fun m => m.msn == msn && m.sent with
  | none => s
  | some m =>
    if s.stopped || s.fatal || (s.sa n).state != 2 || m.path ≥ 256 then s
    else
      let p := s.pathOf n m.path
      let dead := p.retx + 1 ≥ s.retxMax && !p.failed
      let s := s.setPath n m.path { p with retx := p.retx + 1, failed := p.failed || dead,
                                           window := max (s.windowOf n m.path / 2) 16384 }
      let t := m.path % 64
      let s := if dead then s.raise (tinUnit t) 0x6C 1 13 t 0 0 else s
      let s := s.resend n m (some m.path)
      if dead && (s.tine t).state == 2 && s.allPathsFailed t then s.tineDown t else s

/-- A message has not been acknowledged within transfer_deadline ticks of its first transmission (10 R318). -/
def State.transferLate (s : State) (n msn : Nat) : State :=
  match (s.sa n).msgs.find? fun m => m.msn == msn && decide (m.first + s.transferDeadline ≤ s.blk.tick) with
  | none => s
  | some m =>
    if s.stopped then s
    else
      let t := m.path % 64
      (s.raise (tinUnit t) 0x6D 2 10 n m.msg.slice.toNat 0).abandon n m

/-! ### Acknowledgement (10 R318, R319) -/

/-- The receive slots of one connection. -/
def State.rxSlots (s : State) (n : Nat) : List Nat :=
  (s.sas.filter fun a => !a.2.tx && (a.2.state == 2 || a.2.state == 3) && sameConn a.2 (s.sa n)).map (·.1)

/-- Advance the next number in order over those that came early. -/
def advance : Nat → Nat → List Nat → Nat × List Nat
  | 0, k, l => (k, l)
  | n + 1, k, l => if l.contains k then advance n ((k + 1) % 2 ^ 32) (l.filter (· != k)) else (k, l)

/-- The lowest tine a slot may use now. -/
def State.ackTine (s : State) (n : Nat) : Option Nat := (List.range 64).find? fun t => s.usable n t (s.sa n).slice

/-- Acknowledge a path of a receive slot under its return SA. -/
def State.ackSend (s : State) (n path : Nat) : State :=
  let p := s.pathOf n path
  if p.sinceAck = 0 || s.stopped || s.fatal || (s.sa n).tx then s
  else match s.returnSa n with
    | none => s
    | some r => match s.ackTine r with
      | none => s
      | some t =>
        let sack := p.got.foldl (fun a k =>
          let d := (k + 2 ^ 32 - p.nextPsn) % 2 ^ 32
          if d < 64 then a ||| (1 <<< d) else a) 0
        let f : Frame := { prio := BitVec.ofNat 3 s.tin.ctlPrio, path := BitVec.ofNat 8 path,
                           psn := BitVec.ofNat 32 (p.nextPsn + 2 ^ 32 - 1), msn := BitVec.ofNat 32 ((s.sa n).msn + 2 ^ 32 - 1),
                           sack := BitVec.ofNat 64 sack, ceCount := BitVec.ofNat 32 p.ceCount }
        let s := s.setPath n path { p with sinceAck := 0, ceCount := 0 }
        match s.sealFrame r t f with
        | (s, some f) => s.emitCtl t (.tineTx t f)
        | (s, none) => s

/-- A frame of a receive path has been taken whole: it will be acknowledged, at once where it is the eighth (10 R318). -/
def State.psnTaken (s : State) (n path psn : Nat) : State :=
  if psn ≥ 2 ^ 32 || s.inbox.any (fun m => m.sa == n && m.path == path && m.psn == psn) then s
  else
    let p := s.pathOf n path
    let l := if seqLt psn p.nextPsn || p.got.contains psn then p.got else p.got ++ [psn]
    let (k, l) := advance l.length p.nextPsn l
    let s := s.setPath n path { p with nextPsn := k, got := l, sinceAck := p.sinceAck + 1 }
    if p.sinceAck + 1 ≥ 8 then s.ackSend n path else s

/-- A message of a connection has been taken: every receive slot of the connection notes its MSN. -/
def State.msnTaken (s : State) (n msn : Nat) : State :=
  (s.rxSlots n).foldl (fun (s : State) k =>
    let a := s.sa k
    let (c, l) := advance (a.delivered.length + 1) a.msn (a.delivered ++ [msn])
    s.setSa k { a with msn := c, delivered := l }) s

/-- Whether an MSN has been delivered or waits. -/
def State.msnSeen (s : State) (n msn : Nat) : Bool :=
  let a := s.sa n
  seqLt msn a.msn || a.delivered.contains msn
    || s.inbox.any fun m => m.msn == msn && sameConn (s.sa m.sa) a

/-- Whether a PSN is acknowledged by an ACK frame. -/
def ackCovers (f : Frame) (psn : Nat) : Bool :=
  let d := (psn + 2 ^ 32 - f.psn.toNat) % 2 ^ 32
  seqLe psn f.psn.toNat || (d ≥ 1 && d ≤ 64 && Nat.testBit f.sack.toNat (d - 1))

/-- How many PSNs later than one an ACK frame's bitmap shows as received. -/
def laterSacks (f : Frame) (psn : Nat) : Nat :=
  ((List.range 64).filter fun k => Nat.testBit f.sack.toNat k && seqLt psn ((f.psn.toNat + 1 + k) % 2 ^ 32)).length

/-- Take an ACK frame of a receive slot (10 R318, R319). -/
def State.ackTaken (s : State) (rs : Nat) (f : Frame) : State :=
  match s.returnSa rs with
  | none => s
  | some n =>
    let path := f.path.toNat
    let a := s.sa n
    let gone := fun (m : SentMsg) => m.sent && ((m.path == path && ackCovers f m.psn) || seqLe m.msn f.msn.toNat)
    let some_ := a.msgs.any gone
    let s := s.setSa n { a with msgs := a.msgs.filter fun m => !gone m }
    let p := s.pathOf n path
    let p := if some_ then { p with retx := 0 } else p
    let p := if f.ceCount != 0 && p.ceTick != some s.blk.tick then
        { p with ceTick := some s.blk.tick, window := max (s.windowOf n path * 7 / 8) 16384 } else p
    let s := s.setPath n path p
    let lost := (s.sa n).msgs.filter fun m => m.sent && m.path == path && decide (laterSacks f m.psn ≥ 3)
    (lost.foldl (fun (s : State) m => s.resend n m (some path)) s).pump n

/-- The windows after a tick (10 R319): 4 KiB more on a path without CE in the tick, up to path_window. -/
def State.windowsGrow (s : State) : State :=
  s.paths.foldl (fun (s : State) p =>
    let n := p.1 / 256
    let path := p.1 % 256
    let w := s.windowOf n path
    if (s.sa n).tx && p.2.window != 0 && p.2.ceTick != some (s.blk.tick - 1) then
      s.setPath n path { p.2 with window := min (w + 4096) (max w s.pathWindow) } else s) s

/-! ### Pausing peers (10 R317, 06 R198, R204) -/

/-- The priorities a tine pauses: all under a full hold, else those of the classes whose messages wait. -/
def State.xoffMask (s : State) (t : Nat) : BitVec 8 :=
  if s.fullHold then 0xFF
  else
    let cls := (s.inbox.filter fun m => m.tine == t && m.held).map (·.tc)
    BitVec.ofNat 8 ((List.range 8).foldl (fun a p =>
      if p != s.tin.ctlPrio && cls.contains (field s.tin.rxClass (2 * p) 2) then a ||| (1 <<< p) else a) 0)

/-- Drive lp_rx_xoff of a tine. -/
def State.xoffDrive (s : State) (t : Nat) : State :=
  let x := s.tine t
  let m := s.xoffMask t
  if x.xoff = m || !s.portUp (lpPort t) then s
  else (s.setTine t { x with xoff := m }).emit (.xoff t m)

/-- Drive lp_rx_xoff of every tine. -/
def State.xoffAll (s : State) : State := (List.range 64).foldl (fun (s : State) t => s.xoffDrive t) s

/-! ### Admission (10 R309, R311, R315, R316) -/

/-- Count a frame that is not admitted. -/
def State.frameDrop (s : State) (t : Nat) : State :=
  let x := s.tine t
  s.setTine t { x with discarded := min (x.discarded + 1) (2 ^ 24 - 1) }

/-- The packet number that the low 32 bits of a frame stand for (10 R309): near the highest accepted. -/
def fullPn (highest low : Nat) : Nat :=
  let base := highest + 1 - 2 ^ 31
  base + (low + 2 ^ 32 - base % 2 ^ 32) % 2 ^ 32

/-- Whether the length and the class of a message are its op's (10 R315). -/
def msgOk (kind : Nat) (m : LinkMsg) : Bool :=
  let len := m.len.toNat
  let sub := m.sub.toNat
  let beyond := kind == 0
  kind != 2 && match m.op.toNat with
  | 1 => len == 0 && (if beyond then sub == 2 else sub ≤ 2)
  | 2 => len == 64
  | 3 => !beyond && ((sub == 0 && len == 0) || (sub == 1 && len == 128))
  | 4 => !beyond && len == 24
  | 5 => len == 64
  | 8 => !beyond && len == 0
  | 9 => !beyond && len == (if answerData sub then 128 else 0)
  | 0xA => len == 0 || len == 128 || (len == 8 && !beyond)
  | 0xB => len == 0
  | 0xC | 0xD => !beyond && len == 0
  | _ => false

/-- Raise a kind of R316 at most once for a tine in a tick. -/
def State.admitRaise (s : State) (t kind : Nat) : State :=
  let x := s.tine t
  if kind = 0x6E then
    if x.raisedTick = some s.blk.tick then s
    else (s.setTine t { x with raisedTick := some s.blk.tick }).raise (tinUnit t) kind 1 13 t 0 0
  else if x.replayTick = some s.blk.tick then s
  else (s.setTine t { x with replayTick := some s.blk.tick }).raise (tinUnit t) kind 1 13 t 0 0

/-- Judge a DATA or ACK frame by the steps of R316: the receive slot that admits it. -/
def State.judgeFrame (s : State) (t : Nat) (f : Frame) : State × Option Nat :=
  let x := s.tine t
  if !s.portUp (lpPort t) || x.state ≥ 4 then (s, none)
  else
  let s := s.pauseSeen t f.paused
  let x := s.tine t
  if Nat.testBit f.parErr.toNat 0 then (s.portEvent (lpPort t) 0x63, none)
  else if Nat.testBit f.parErr.toNat 1 then ((s.portEvent (lpPort t) 0x64).frameDrop t, none)
  else
    let etype := if s.blockRec.ethertype = 0 then 0x88B5 else s.blockRec.ethertype
    let ours := !f.fcsErr && f.version == 1 && f.etype.toNat == etype && (!f.udp || (f.udpOk && f.port.toNat == s.tin.udpPort))
    let rx := fun (a : SaSt) => !a.tx && (a.state == 2 || a.state == 3)
    let onTine := fun (a : SaSt) => Nat.testBit a.tines.toNat x.carries
    if !ours then (s.frameDrop t, none)
    else match f.sec with
      | none => match s.sas.find? fun a => rx a.2 && a.2.cipher == 1 && a.2.peer == f.src && onTine a.2 with
        | none => (s.frameDrop t, none)
        | some (n, a) => if (s.returnSa n).isNone then ((s.frameDrop t).count a.slice 71 1, none) else (s, some n)
      | some (sci, an, low) =>
        match s.sas.find? fun a => rx a.2 && a.2.cipher == 0 && a.2.sci == sci && a.2.an == an.toNat
            && (f.udp || onTine a.2) with
        | none => (s.frameDrop t, none)
        | some (n, a) =>
          let pn := fullPn a.pn low.toNat
          if Config.gcmIcv a.material pn (icvBody f) != f.icv then ((s.frameDrop t).admitRaise t 0x6E, none)
          else if pn + a.replay ≤ a.pn || a.seen.contains pn then ((s.frameDrop t).admitRaise t 0x70, none)
          else
            let hi := max a.pn pn
            let s := s.setSa n { a with pn := hi, seen := (a.seen ++ [pn]).filter fun k => decide (hi < k + a.replay) }
            if (s.returnSa n).isNone then ((s.frameDrop t).count a.slice 71 1, none) else (s, some n)

/-- The class a message's request is served as. -/
def State.inClass (s : State) (m : InMsg) : Nat := s.servedClass m.slice m.tc
/-- Whether a message is a request that the regulator orders. -/
def InMsg.asks (m : InMsg) : Bool := decide (0 < m.msg.op.toNat) && decide (m.msg.op.toNat < 6)

/-- Put one message of a DATA frame in the tine's ingress buffer; `false` for one that is discarded (10 R315, R318). -/
def State.msgIn (s : State) (t n tc path psn msn : Nat) (m : LinkMsg) : State × Bool :=
  let a := s.sa n
  if s.msnSeen n msn then (s, true)
  else if (msn + 2 ^ 32 - a.msn) % 2 ^ 32 ≥ 8192 then (s, false)
  else if !msgOk a.kind m then
    ((s.raise (tinUnit t) 0x75 1 13 t 0 0).portEvent (lpPort t) 0x75 false, false)
  else
    let herd := a.kind == 1
    let x : InMsg := { sa := n, tine := t, chip := if herd then a.chip else 255,
                       slice := if herd then m.slice.toNat else a.slice, fn := if herd then 0 else a.fn, herd := herd,
                       msg := m, path := path, psn := psn, msn := msn, tc := tc }
    let s := if x.asks && s.inClass x != tc then s.outcome x.slice tc 9 else s
    ({ s with inbox := s.inbox ++ [x] }, true)

/-- Take a DATA frame (10 R316 to R319). -/
def State.dataIn (s : State) (t : Nat) (f : Frame) : State :=
  match s.judgeFrame t f with
  | (s, none) => s
  | (s, some n) =>
    let a := s.sa n
    let x := s.tine t
    let path := f.path.toNat
    let ce := f.ce || Nat.testBit (x.xoff ||| x.xoffBefore).toNat f.prio.toNat
    let s := s.note (tinUnit t) 0x19 (some a.slice) 1
    let s := if ce then s.note (tinUnit t) 0x1B (some a.slice) 1 else s
    let p := s.pathOf n path
    let s := if ce then s.setPath n path { p with ceCount := p.ceCount + 1 } else s
    if f.msgs.isEmpty || f.msgs.length > 64 then s.frameDrop t
    else
      let ms := f.msgs.zip (List.range 64)
      let go := fun (x : State × Bool) (m : LinkMsg × Nat) =>
        let (s, ok) := x.1.msgIn t n (field x.1.tin.rxClass (2 * f.prio.toNat) 2) path f.psn.toNat
          ((f.msn.toNat + m.2) % 2 ^ 32) m.1
        (s, x.2 && ok)
      let (s, ok) := ms.foldl go (s, true)
      if ok then s.psnTaken n path f.psn.toNat
      else
        let never := fun (m : InMsg) =>
          if m.sa == n && m.path == path && m.psn == f.psn.toNat then { m with psn := 2 ^ 32 } else m
        { s with inbox := s.inbox.map never }

/-- Take an ACK frame (10 R316, R318). -/
def State.ackIn (s : State) (t : Nat) (f : Frame) : State :=
  match s.judgeFrame t f with
  | (s, none) => s
  | (s, some n) => (s.note (tinUnit t) 0x19 (some (s.sa n).slice) 1).ackTaken n f

/-! ### Messages at their destination (10 R318, R321 to R325) -/

/-- A message leaves the ingress buffer: its MSN is delivered, its frame acknowledged once nothing of it waits. -/
def State.taken (s : State) (m : InMsg) : State :=
  let s := { s with inbox := s.inbox.filter (· != m) }
  ((s.msnTaken m.sa m.msn).psnTaken m.sa m.path m.psn).xoffDrive m.tine

/-- Whether the gate of a tine holds a message (06 R197, R198, R204): write-backs and control messages never. -/
def State.msgHeld (s : State) (m : InMsg) : Bool :=
  let op := m.msg.op.toNat
  let tc := s.inClass m
  if op ≥ 8 || op = 3 then false
  else if s.fullHold then true
  else if m.aged then false
  else s.gateShut (if op = 5 || chipOf m.msg.addr.toNat != s.chip then none else some (lineOf m.msg.addr.toNat)) m.slice tc (some m.tine)

/-- Run a message of the ingress buffer at its place, if it is of an op. -/
def State.onMsg (s : State) (i op : Nat) (f : State → InMsg → State) : State :=
  match s.inbox[i]? with
  | none => s
  | some m =>
    if m.msg.op.toNat != op || s.stopped || s.fatal then s
    else if s.msgHeld m then
      let s := if m.held then s else s.note (tinUnit m.tine) 0x07 (some m.slice) 1
      let hold := fun (x : InMsg) => if x == m then { x with held := true } else x
      { s with inbox := s.inbox.map hold }.xoffDrive m.tine
    else f s m

/-- The transaction of a message. -/
def State.msgTxn (s : State) (m : InMsg) (op : TOp) : Txn :=
  { id := 0, home := 0, line := lineOf m.msg.addr.toNat, op := op, origin := .remote m.sa m.msg.xid.toNat m.chip,
    slice := m.slice, fn := m.fn, tc := s.inClass m, be := BitVec.allOnes 128, alloc := true, start := s.blk.tick,
    held := m.held, tine := some m.tine, aged := if m.aged then some s.blk.tick else none }

/-- Give a message's request to its home. Where the home has no entry its tine takes a place in the retry queue (05 R167, R168): a
request is answered RETRY, a posted write, which its tile no longer waits for, stays in the ingress buffer; a reservation goes to the
next request of the tine, since a reissue has a new xid (log entry 183). An address of another chip is refused. -/
def State.msgAccept (s : State) (m : InMsg) (t : Txn) : State :=
  let fn := if m.herd then none else some m.fn
  if lineChip t.line != s.chip then (s.taken m).answer t .denied 0 [] 0
  else
    let evict := t.op == .evictDirty || t.op == .evictClean
    match (s.homeName t.line).bind s.physOf with
    | none => (s.taken m).accept t fn
    | some h =>
      let full := (s.txns.filter fun x => x.home == h && x.cls == 3).length ≥ 16
      let x := s.home h
      let oi := 289 + m.tine
      let mine := fun (r : RetryEnt) => r.origin == oi && r.reserved.isSome
      let spare := decide ((s.txns.filter fun x => x.home == h && x.cls == 2 && x.phase != .table).length < 16)
      if evict || !full then (s.taken m).accept t fn
      else if x.retryQ.any mine && spare then
        ((s.setHome h { x with retryQ := x.retryQ.filter (·.origin != oi) }).taken m).accept { t with cls := 2 } fn
      else
        let q := if x.retryQ.any (·.origin == oi) then x.retryQ else x.retryQ ++ [{ origin := oi, tag := m.msg.xid.toNat }]
        let s := s.setHome h { x with retryQ := q }
        if t.op == .write then s else (s.taken m).answer t .retry 0 [] 0

/-- READ (10 R315, R321). -/
def State.msgRead (s : State) (m : InMsg) : State :=
  s.msgAccept m (s.msgTxn m (match m.msg.sub.toNat with | 0 => .rdShared | 1 => .rdUnique | _ => .rdOnce))

/-- WRITE (10 R315, R323). -/
def State.msgWrite (s : State) (m : InMsg) : State :=
  let k := m.msg.addr.toNat / 64 % 2
  s.msgAccept m { s.msgTxn m .write with
    be := BitVec.ofNat 128 (m.msg.be.toNat <<< (64 * k)), sector := 64 * k, alloc := false,
    data := setSector 0 k (m.msg.data.setWidth 512) }

/-- EVICT (10 R321). -/
def State.msgEvict (s : State) (m : InMsg) : State :=
  s.msgAccept m { s.msgTxn m (if m.msg.sub = 1 then .evictDirty else .evictClean) with data := m.msg.data }

/-- ATOMIC (10 R315). -/
def State.msgAtomic (s : State) (m : InMsg) : State :=
  let a := m.msg.addr.toNat
  let t := s.msgTxn m .atomicHome
  match atomOperands (m.msg.data.setWidth 512) with
  | none => (s.taken m).answer t .denied 0 [] 0
  | some (x, y, o, size) =>
    let n := if size then 8 else 4
    if a % n != 0 then (s.taken m).answer t .denied 0 [] 0
    else s.msgAccept m { t with be := beRange (a % 128) n, sector := a % 128, atom := (o, size, x, y) }

/-- CONTRIB: merged into an entry of the die's merge buffer (08 R273). -/
def State.msgContrib (s : State) (m : InMsg) : State :=
  let fmt := m.msg.sub.toNat
  let a := m.msg.addr.toNat / 64 * 64
  let cnt := m.msg.count.toNat
  let die := m.tine / 8
  let fn := if m.herd then 4096 else m.fn
  let t := { s.msgTxn m .write with line := lineOf a }
  if fmt > 6 || chipOf a != s.chip || cnt = 0 then
    (s.taken m).sendOr (s.returnSa m.sa) 2
      (lineMsg 0x0B m.slice m.msg.xid.toNat a (if chipOf a != s.chip || fmt > 6 then .denied else .ok) 0 none 1)
      t.origin
  else
    let vals := sectorVals fmt (m.msg.data.setWidth 512)
    let int := isInt fmt
    let same := fun (e : Merge) => e.addr == a && e.slice == m.slice && e.fn == fn && e.int == int
      && e.vals.length == vals.length
    let s := (s.taken m).note (tinUnit m.tine) 0x0A (some m.slice) 1
    let q := tget [] s.rw.merge die
    let s := match q.findIdx? same with
      | some i => if (q.getD i { addr := 0, slice := 0, fn := 0, int := false, vals := [], count := 0, peers := [] }).count
            + cnt > 65535 then s.mergeForward die i else s
      | none => if q.length ≥ 256 then s.mergeForward die 0 else s
    let q := tget [] s.rw.merge die
    let x := m.msg.xid.toNat
    let peer := (m.sa, x)
    let high := fun (l : List (Nat × Nat)) => match l.find? (·.1 == m.sa) with
      | some (_, y) => if (x + 65536 - y) % 65536 < 32768 then peer else (m.sa, y)
      | none => peer
    let join := fun (e : Merge) =>
      if same e then
        { e with vals := (e.vals.zip vals).map fun v => accAdd int v.1 v.2, count := e.count + cnt,
                 peers := (e.peers.filter (·.1 != m.sa)) ++ [high e.peers] }
      else e
    let q := if q.any same then q.map join
      else q ++ [{ addr := a, slice := m.slice, fn := fn, int := int, vals := vals, count := cnt, peers := [peer] }]
    { s with rw := { s.rw with merge := tset [] s.rw.merge die q } }

/-- The deadline tick that 16 bits name, near the tick now (05 R177). -/
def State.deadline16 (s : State) (c : Nat) : Nat :=
  let d := (c + 65536 - s.blk.tick % 65536) % 65536
  if d < 32768 then s.blk.tick + d else s.blk.tick + d - 65536

/-- Whether a snoop of a line is outstanding to a tile port at a home (05 R171). -/
def State.snoopOut (s : State) (h line : Nat) : Bool :=
  let open_ := fun (n : Snoop) => !n.chip && !n.missed
  (s.txns.any fun t => t.home == h && t.line == line && t.snoops.any open_)
    || s.proxies.any fun x => x.home == h && x.line == line && x.snoops.any open_

/-- SNOOP: the proxy snoops its tiles (05 R177). It waits in its queue while a snoop of the line is out (05 R171). A line that the
sending chip does not home is answered MISS, and nothing is snooped (02 R89, R90, log entry 182). -/
def State.msgSnoop (s : State) (m : InMsg) : State :=
  let line := lineOf m.msg.addr.toNat
  let ty := m.msg.sub.toNat
  let miss := fun (s : State) (r : Nat) =>
    s.sendOr (s.returnSa m.sa) 0 (lineMsg 0x09 0 m.msg.xid.toNat (line * 128) .ok 0 none r) (.internal 0 0)
  if lineChip line != m.chip then miss (s.taken m) 0
  else if (match (s.homeName line).bind s.physOf with | some h => s.snoopOut h line | none => false) then s
  else
  let s := s.taken m
  match (s.homeName line).bind s.physOf with
  | none =>
    s.sendOr (s.returnSa m.sa) 0 (lineMsg 0x09 0 m.msg.xid.toNat (line * 128) .ok 0 none 9) (.internal 0 0)
  | some h =>
    let e := s.filt h line
    let own := e.ownerAgent.toList
    let inv := (s.sharerAgents e own).filter fun x => !x.1
    let plan : List ((Bool × Nat) × Nat) := match ty with
      | 0 => own.map fun x => (x, 0)
      | 2 => own.map fun x => (x, 2)
      | 1 => (own.map fun x => (x, 1)) ++ inv.map fun x => (x, 3)
      | 3 => (own ++ inv).map fun x => (x, 3)
      | _ => (own ++ inv).map fun x => (x, 4)
    let (s, sn) := plan.foldl (fun (x : State × List Snoop) p =>
      let (s, n) := x.1.sendSnoop h line p.1 p.2
      (s, x.2 ++ [n])) (s, [])
    let (id, s) := s.fresh
    let x : ProxySnoop := { id := id, sa := m.sa, xid := m.msg.xid.toNat, home := h, line := line, ty := ty,
                            deadline := s.deadline16 m.msg.count.toNat, since := s.blk.tick, slice := m.slice, snoops := sn }
    let s := { s with proxies := s.proxies ++ [x] }
    if sn.isEmpty then s.proxyDone x else s

/-- The answer deadline of a proxy has come: tiles that have not answered are treated as timed out (05 R177, R175). -/
def State.proxyLate (s : State) (id : Nat) : State :=
  match s.proxies.find? (·.id == id) with
  | none => s
  | some x =>
    if s.stopped || !(decide (x.deadline ≤ s.blk.tick + 1) || decide (x.since + s.homeTimeout.localTicks ≤ s.blk.tick)) then s
    else
      let s := x.snoops.foldl (fun (s : State) n => s.proxySilent x n) s
      s.proxyDone { x with snoops := [], bad := true }

/-- SNOOP_RESP: a chip's combined answer reaches the home (05 R177, R172). -/
def State.msgSnoopResp (s : State) (m : InMsg) : State :=
  let line := lineOf m.msg.addr.toNat
  let mine := fun (n : Snoop) => n.chip && n.port == m.chip && n.id == m.msg.xid.toNat && !n.missed
  let s := s.taken m
  match s.txns.find? fun t => t.line == line && t.snoops.any mine with
  | some t => match t.snoops.find? mine with
    | some n => s.takeAnswer t n m.msg.sub.toNat m.msg.data
    | none => s
  | none =>
    let h := ((s.homeName line).bind s.physOf).getD 0
    s.raise (hslUnit h) 0x42 1 11 m.chip (s.lineSlice line) 0

/-- A chip has not answered a snoop within remote_ticks: the line is poisoned (05 R174, R175). -/
def State.remoteSnoopLate (s : State) (chip id : Nat) : State :=
  let mine := fun (n : Snoop) => n.chip && n.port == chip && n.id == id % 65536
    && decide (n.since + s.homeTimeout.remoteTicks ≤ s.blk.tick)
  if s.stopped then s
  else match s.txns.find? fun t => t.snoops.any mine with
    | some t => match t.snoops.find? mine with
      | some n => s.poisonTxn t n (some 0x41)
      | none => s
    | none => s

/-- Whether a request of this chip belongs to the connection of an admitted message. -/
def State.remoteOf (s : State) (m : InMsg) (r : RemoteReq) : Bool :=
  r.done.isNone && sameConn (s.sa r.sa) (s.sa m.sa)

/-- RESPONSE (10 R315); one with a reserved status is discarded, kind 0x66 of its path (02 R82). -/
def State.msgResponse (s : State) (m : InMsg) : State :=
  let s := s.taken m
  match Status.ofCode? m.msg.status.toNat with
  | none => s.portEvent (lpPort m.tine) 0x66
  | some st =>
    match s.remotes.find? fun r => s.remoteOf m r && !r.posted && r.xid == m.msg.xid.toNat with
    | some r => s.remoteEnd r st m.msg.state.toNat m.msg.data
    | none => s

/-- PERFORMED (10 R322, R323): one write, or every contribution to a sector up to an xid. -/
def State.msgPerformed (s : State) (m : InMsg) : State :=
  let a := m.msg.addr.toNat
  let x := m.msg.xid.toNat
  let s := s.taken m
  let hit := fun (r : RemoteReq) => s.remoteOf m r && (if m.msg.sub = 0 then r.kind == 1 && r.xid == x
    else r.kind == 2 && r.line == lineOf a && r.sector == a / 64 % 2 && decide ((x + 65536 - r.xid) % 65536 < 32768))
  match Status.ofCode? m.msg.status.toNat with
  | none => s.portEvent (lpPort m.tine) 0x66
  | some st => (s.remotes.filter hit).foldl (fun (s : State) r => s.remoteEnd r st 0 0) s

/-- The proxies' lines of a chip on a base die (10 R325). -/
def State.chipLines (s : State) (chip : Nat) (die : Option Nat) : List (Nat × Nat) :=
  (List.range 136).flatMap fun h => ((s.home h).filter.filter fun e =>
    lineChip e.1 == chip && e.2.st != 0 && (match die with
      | some d => granDie (lineGran e.1) == d
      | none => true)).map fun e => (h, e.1)

/-- Start a transaction of the block on a line at a home, once. -/
def State.walkLine (s : State) (h line : Nat) (op : TOp) : State :=
  if s.txns.any fun t => t.home == h && t.line == line && (t.op == .recall || t.op == .discard) then s
  else s.enter { id := 0, home := h, line := line, op := op, origin := .internal 0 0, internal := true,
                 slice := (s.filt h line).slice, start := s.blk.tick }

/-- Answer the remote flushes whose recalls are done (10 R325). -/
def State.flushAnswer (s : State) : State :=
  s.tin.remoteFlushes.foldl (fun (s : State) (f : RemFlush) =>
    let busy := s.txns.any fun t => t.op == .recall && lineChip t.line == f.chip && granDie (lineGran t.line) == f.die
    if busy || f.cur < 4 || s.stopped then s
    else
      let s := { s with tin := { s.tin with remoteFlushes := s.tin.remoteFlushes.filter (· != f) } }
      s.sendOr (s.returnSa f.sa) 0 (lineMsg 0x0D 0 0 0 .ok 0 none f.die) (.internal 0 0)) s

/-- Walk the next pieces of a remote flush, at most 3 in a tick: a piece is 4,096 of the 16,384 entries in ways 14 and 15,
2,048 sets (10 R325, 01 R41, R42). A stop leaves the cursor where it is. -/
def State.flushPieces (s : State) (f : RemFlush) : State :=
  if s.stopped || f.cur ≥ 4 then s
  else
    let upTo := min 4 (f.cur + 3)
    let go := fun (g : RemFlush) => if g == f then { g with cur := upTo } else g
    let s := { s with tin := { s.tin with remoteFlushes := s.tin.remoteFlushes.map go } }
    let hit := fun (l : Nat × Nat) => decide (f.cur * 2048 ≤ fsetOf l.2) && decide (fsetOf l.2 < upTo * 2048)
    ((s.chipLines f.chip (some f.die)).filter hit).foldl (fun (s : State) l => s.walkLine l.1 l.2 .recall) s

/-- The remote flushes at a boundary: their next pieces, then the answers that are due. -/
def State.flushTick (s : State) : State := (s.tin.remoteFlushes.foldl State.flushPieces s).settle.flushAnswer

/-- FLUSH: recall every local copy of the sender's lines on a base die (10 R325). -/
def State.msgFlush (s : State) (m : InMsg) : State :=
  let die := m.msg.sub.toNat % 8
  let s := s.taken m
  let f : RemFlush := { chip := m.chip, die := die, sa := m.sa, tick := s.blk.tick }
  let s := { s with tin := { s.tin with remoteFlushes := s.tin.remoteFlushes ++ [f] } }
  (s.flushPieces f).settle.flushAnswer

/-- A chip is done with a flush of a name, in its answer or by R325. -/
def State.flushChip (s : State) (f : Flush) (chip : Nat) : State :=
  let f' := { f with chips := f.chips.filter (· != chip) }
  { s with flushes := s.flushes.map fun x => if x == f then f' else x }.flushEnd f'

/-- FLUSH_DONE (10 R325): it answers the oldest flush of that die that waits for the chip. -/
def State.msgFlushDone (s : State) (m : InMsg) : State :=
  let s := s.taken m
  match s.flushes.find? fun f => f.name / 16 == m.msg.sub.toNat % 8 && f.chips.contains m.chip with
  | some f => s.flushChip f m.chip
  | none => s

/-- A member has not answered FLUSH within 8 ticks (10 R325). -/
def State.remoteFlushLate (s : State) (chip die : Nat) : State :=
  match s.flushes.find? fun f => f.name / 16 == die && f.chips.contains chip && decide (f.start + 8 ≤ s.blk.tick) with
  | some f => if s.stopped then s else (s.flushDrop f (true, chip) 0x74).flushChip f chip
  | none => s

/-- Serve a message that may be held, whatever its op. -/
def State.msgServe (s : State) (m : InMsg) : State :=
  match m.msg.op.toNat with
  | 1 => s.msgRead m
  | 2 => s.msgWrite m
  | 4 => s.msgAtomic m
  | 5 => s.msgContrib m
  | _ => s

/-- The ages of held messages after a tick, and the releases they bring (06 R199). -/
def State.inboxAges (s : State) : State :=
  if s.fullHold || s.fatal then s
  else
    let older := fun (m : InMsg) => if m.held && !(s.blk.parked && s.inClass m == 3) then { m with age := m.age + 1 } else m
    let s := { s with inbox := s.inbox.map older }
    let late := fun (m : InMsg) => m.held && !m.aged && decide (s.holdAge ≤ m.age)
    let mark := fun (m : InMsg) => if late m then { m with aged := true } else m
    let ms := (s.inbox.filter late).map mark
    ms.foldl (fun (s : State) m => (s.outcome m.slice (s.inClass m) 5).msgServe m) { s with inbox := s.inbox.map mark }

/-! ### LINK_FENCE (10 R323) -/

/-- LINK_FENCE of a tile port: it covers every posted message of the port. -/
def State.fenceOn (s : State) (port : Nat) (r : TpReq) : State :=
  match s.tileEnter port 0x22 r with
  | (s, false) => s
  | (s, true) =>
    let cs := (s.remotes.filter fun x => x.port == some port && x.posted).map fun x => (x.sa, x.xid)
    { s with linkFences := s.linkFences ++ [{ port := port, tag := r.tag.toNat, covers := cs }] }

/-- The oldest LINK_FENCE of a port completes once everything it covers has been performed. -/
def State.fenceOff (s : State) (port : Nat) : State :=
  match s.linkFences.find? (·.port == port) with
  | none => s
  | some f =>
    let mine := fun (x : RemoteReq) => x.port == some port && x.posted && f.covers.contains (x.sa, x.xid)
    if s.remotes.any fun x => mine x && x.done.isNone then s
    else
      let st := (s.remotes.filter mine).foldl (fun a x => Status.both a (x.done.getD .ok)) f.st
      let s := { s with linkFences := s.linkFences.filter (· != f), remotes := s.remotes.filter fun x => !mine x }
      s.tileRsp port f.tag st 0 0

/-! ### Slot commands (10 R307, R308, R310) -/

/-- Write a command of TIN_SA_CMD: while one is pending it is ignored with BUSY. -/
def State.saCommand (s : State) (n op : Nat) : State :=
  if s.tin.saPending.isSome then { s with tin := { s.tin with saResult := 6 } }
  else { s with tin := { s.tin with saPending := some (n, op) } }

/-- Whether a slot's configuration breaks R307. -/
def State.saBad (s : State) (a : SaSt) : Bool :=
  (a.kind != 0 && (a.slice != 0 || a.cipher != 0))
    || (a.cipher != 0 && (match s.sliceRec a.slice with | some r => r.cryptoReq | none => false))

/-- Forget the paths of a slot. -/
def State.dropPaths (s : State) (n : Nat) : State := { s with paths := s.paths.filter fun p => p.1 / 256 != n }

/-- A transmit slot becomes ACTIVE and takes over the connection of the one it replaces (10 R308, R310). -/
def State.txActivate (s : State) (n : Nat) : State :=
  let a := s.sa n
  let s := s.dropPaths n
  match s.sas.find? fun x => x.1 != n && x.2.tx && x.2.state == 2 && sameConn x.2 a with
  | none => s.setSa n { a with state := 2, stateTick := s.blk.tick, pn := 1, msgs := [], msn := 0, xid := 0, raised72 := false }
  | some (o, b) =>
    let moved := b.msgs.map fun (m : SentMsg) => { m with path := 256 }
    let s := s.setSa o { b with state := 3, stateTick := s.blk.tick, msgs := [] }
    let s := s.setSa n { a with state := 2, stateTick := s.blk.tick, pn := 1, msgs := moved, msn := b.msn, xid := b.xid,
                                raised72 := false }
    let re := fun (r : RemoteReq) => if r.sa = o then { r with sa := n } else r
    let fe := fun (f : LinkFence) => { f with covers := f.covers.map fun c => if c.1 = o then (n, c.2) else c }
    { s with remotes := s.remotes.map re, linkFences := s.linkFences.map fe }.pump n

/-- A receive slot becomes ACTIVE; it shares the MSNs of its connection's other receive slots (10 R310). -/
def State.rxActivate (s : State) (n : Nat) : State :=
  let a := s.sa n
  let s := s.dropPaths n
  let old := s.sas.find? fun x => x.1 != n && !x.2.tx && (x.2.state == 2 || x.2.state == 3) && sameConn x.2 a
  let (m, d) := match old with | some (_, b) => (b.msn, b.delivered) | none => (0, [])
  s.setSa n { a with state := 2, stateTick := s.blk.tick, pn := 0, seen := [], msn := m, delivered := d }

/-- Apply the pending slot command at a commit step (10 R308). -/
def State.saApply (s : State) : State :=
  match s.tin.saPending with
  | none => s
  | some (n, op) =>
    let a := s.sa n
    let (s, res) : State × Nat := match op with
      | 1 =>
        if a.state != 1 then (s, 1)
        else if s.saBad a then (s, 5)
        else if a.kind != 0 && !s.tin.joined then (s, 1)
        else (if a.tx then s.txActivate n else s.rxActivate n, 0)
      | 2 => if a.state != 2 then (s, 1) else (s.setSa n { a with state := 3, stateTick := s.blk.tick }, 0)
      | 3 => if a.state != 1 then (s, 1)
        else (s.setSa n { a with state := 0, stateTick := s.blk.tick, material := 0 }, 0)
      | _ => (s, 5)
    { s with tin := { s.tin with saPending := none, saResult := res, saApplyTick := s.blk.tick } }.mgIrq 0x0A

/-- Sixteen ticks after retiring a slot is QUARANTINED, its key zeroized (10 R308). -/
def State.saQuarantine (s : State) (n : Nat) : State :=
  let a := s.sa n
  if a.state = 3 && a.stateTick + 16 ≤ s.blk.tick then
    let gone := (s.inbox.filter fun m => m.sa != n)
    { s with inbox := gone }.setSa n { a with state := 4, stateTick := s.blk.tick, material := 0 }
  else s

/-- Sixteen ticks after quarantine a slot is FREE (10 R308). -/
def State.saFree (s : State) (n : Nat) : State :=
  let a := s.sa n
  if a.state = 4 && a.stateTick + 16 ≤ s.blk.tick then
    (s.dropPaths n).setSa n { cfg := a.cfg, tines := a.tines, peer := a.peer, sci := a.sci, stateTick := s.blk.tick,
                              staging := a.staging, staged := a.staged }
  else s

/-! ### The commands -/

/-- Note a DATA frame that lands during a global stop (15 R474): its phase within the tick is a free value (log entry 191). -/
def State.smear (s : State) (t : Nat) : State :=
  if s.stopped then
    let x := tget (0, 0) s.obs.smear t
    let ns := (s.blk.tick - s.obs.stopAt) * 1000 + (Config.arrivalNs t s.blk.tick x.1).val
    { s with obs := { s.obs with smear := tset (0, 0) s.obs.smear t (x.1 + 1, ns) } }
  else s

/-- DATA_FRAME_RECEIVE (10 R316). -/
def execDataFrameReceive (t : BitVec 6) (f : Frame) (s : State) : Host.Outcome State Fault Refusal :=
  .next (if s.portUp (lpPort t.toNat) then (s.smear t.toNat).orLand (.dataFrameReceive t f) fun s => s.dataIn t.toNat f else s)

/-- ACK_RECEIVE (10 R318, R319). -/
def execAckReceive (t : BitVec 6) (f : Frame) (s : State) : Host.Outcome State Fault Refusal :=
  .next (if s.portUp (lpPort t.toNat) then s.orLand (.ackReceive t f) fun s => s.ackIn t.toNat f else s)

/-- ACK_SEND (10 R318). -/
def execAckSend (n : BitVec 8) (path : BitVec 8) (s : State) : Host.Outcome State Fault Refusal :=
  .next (s.ackSend n.toNat path.toNat)

/-- RTO_EXPIRY (10 R318, R319). -/
def execRtoExpiry (n : BitVec 8) (msn : BitVec 32) (s : State) : Host.Outcome State Fault Refusal :=
  .next (s.rto n.toNat msn.toNat)

/-- TRANSFER_DEADLINE_EXPIRY (10 R318). -/
def execTransferDeadlineExpiry (n : BitVec 8) (msn : BitVec 32) (s : State) : Host.Outcome State Fault Refusal :=
  .next (s.transferLate n.toNat msn.toNat)

/-- READ_MESSAGE (10 R321). -/
def execReadMessage (i : Nat) (s : State) : Host.Outcome State Fault Refusal := .next (s.onMsg i 0x01 State.msgRead)

/-- WRITE_MESSAGE (10 R323). -/
def execWriteMessage (i : Nat) (s : State) : Host.Outcome State Fault Refusal := .next (s.onMsg i 0x02 State.msgWrite)

/-- EVICT_MESSAGE (10 R321). -/
def execEvictMessage (i : Nat) (s : State) : Host.Outcome State Fault Refusal := .next (s.onMsg i 0x03 State.msgEvict)

/-- ATOMIC_MESSAGE (10 R315). -/
def execAtomicMessage (i : Nat) (s : State) : Host.Outcome State Fault Refusal := .next (s.onMsg i 0x04 State.msgAtomic)

/-- CONTRIB_MESSAGE (08 R273). -/
def execContribMessage (i : Nat) (s : State) : Host.Outcome State Fault Refusal := .next (s.onMsg i 0x05 State.msgContrib)

/-- SNOOP_MESSAGE (05 R177). -/
def execSnoopMessage (i : Nat) (s : State) : Host.Outcome State Fault Refusal := .next (s.onMsg i 0x08 State.msgSnoop)

/-- PROXY_SNOOP_DEADLINE (05 R177). -/
def execProxySnoopDeadline (id : Nat) (s : State) : Host.Outcome State Fault Refusal := .next (s.proxyLate id)

/-- SNOOP_RESP_MESSAGE (05 R177). -/
def execSnoopRespMessage (i : Nat) (s : State) : Host.Outcome State Fault Refusal := .next (s.onMsg i 0x09 State.msgSnoopResp)

/-- REMOTE_SNOOP_TIMEOUT (05 R175). -/
def execRemoteSnoopTimeout (chip : BitVec 3) (id : Nat) (s : State) : Host.Outcome State Fault Refusal :=
  .next (s.remoteSnoopLate chip.toNat id)

/-- RESPONSE_MESSAGE (10 R315). -/
def execResponseMessage (i : Nat) (s : State) : Host.Outcome State Fault Refusal := .next (s.onMsg i 0x0A State.msgResponse)

/-- PERFORMED_MESSAGE (10 R322). -/
def execPerformedMessage (i : Nat) (s : State) : Host.Outcome State Fault Refusal := .next (s.onMsg i 0x0B State.msgPerformed)

/-- FLUSH_MESSAGE (10 R325). -/
def execFlushMessage (i : Nat) (s : State) : Host.Outcome State Fault Refusal := .next (s.onMsg i 0x0C State.msgFlush)

/-- FLUSH_DONE_MESSAGE (10 R325). -/
def execFlushDoneMessage (i : Nat) (s : State) : Host.Outcome State Fault Refusal := .next (s.onMsg i 0x0D State.msgFlushDone)

/-- REMOTE_FLUSH_TIMEOUT (10 R325). -/
def execRemoteFlushTimeout (chip : BitVec 3) (die : BitVec 3) (s : State) : Host.Outcome State Fault Refusal :=
  .next (s.remoteFlushLate chip.toNat die.toNat)

/-- LINK_FENCE (10 R323). -/
def execLinkFence (port : BitVec 8) (r : TpReq) (s : State) : Host.Outcome State Fault Refusal :=
  .next (s.fenceOn port.toNat r)

/-- LINK_FENCE_COMPLETE (10 R323). -/
def execLinkFenceComplete (port : BitVec 8) (s : State) : Host.Outcome State Fault Refusal :=
  .next (s.unlessStopped fun s => s.fenceOff port.toNat)

/-- SA_ACTIVATE (10 R308). -/
def execSaActivate (n : BitVec 8) (s : State) : Host.Outcome State Fault Refusal :=
  .next (s.mgWrite false fun s => s.saCommand n.toNat 1)

/-- SA_RETIRE (10 R310). -/
def execSaRetire (n : BitVec 8) (s : State) : Host.Outcome State Fault Refusal :=
  .next (s.mgWrite false fun s => s.saCommand n.toNat 2)

/-- SA_RELEASE (10 R308). -/
def execSaRelease (n : BitVec 8) (s : State) : Host.Outcome State Fault Refusal :=
  .next (s.mgWrite false fun s => s.saCommand n.toNat 3)

/-- SA_QUARANTINE (10 R308). -/
def execSaQuarantine (n : BitVec 8) (s : State) : Host.Outcome State Fault Refusal := .next (s.saQuarantine n.toNat)

/-- SA_FREE (10 R308). -/
def execSaFree (n : BitVec 8) (s : State) : Host.Outcome State Fault Refusal := .next (s.saFree n.toNat)

end Sys2Proof.Machine
end

