-- ==== Sys2Proof/Machine/Image.lean ====
section
/-! DEFINITION. The Gixon image (04): the stream and its records, the canonical form and its digest, the static and live checks,
the drain of a delta, the commit, and APPLY (14 R437). -/

namespace Sys2Proof.Machine

/-! ### Records (04 R130, R131) -/

/-- A record as it stands in a stream: where it begins, its type, length and index, its bytes. -/
structure ImgRec where
  off : Nat
  type : Nat
  len : Nat
  index : Nat
  body : List Byte
  deriving DecidableEq, Repr

/-- The records from an offset to an end, and the offset at which the walk cannot go on. -/
def imgWalk (bs : List Byte) (fin : Nat) : Nat → Nat → List ImgRec × Option Nat
  | 0, off => ([], if off = fin then none else some off)
  | fuel + 1, off =>
    if off = fin then ([], none)
    else
      let w := leAt bs off 8
      let len := w / 2 ^ 16 % 2 ^ 16
      if len < 8 || len % 8 != 0 || off + len > fin then ([{ off := off, type := w % 2 ^ 16, len := len, index := 0, body := [] }], some off)
      else
        let (rs, bad) := imgWalk bs fin fuel (off + len)
        ({ off := off, type := w % 2 ^ 16, len := len, index := w / 2 ^ 32, body := slice bs off len } :: rs, bad)

/-- Word k of a record. -/
def ImgRec.word (r : ImgRec) (k : Nat) : Nat := leAt r.body (8 * k) 8
/-- Bits of word k. -/
def ImgRec.bits (r : ImgRec) (k lo len : Nat) : Nat := (r.word k >>> lo) % 2 ^ len

/-- Whether a record keeps R131; a delete only in a delta. -/
def ImgRec.ok (r : ImgRec) (delta : Bool) : Bool :=
  let low := fun k n => decide (r.word k < 2 ^ n)
  match r.type with
  | 0x0001 => r.len == 0x48 && r.index == 0 && low 1 44 && low 2 44 && low 3 44 && low 5 45 && r.bits 5 0 2 ≤ 2
  | 0x0002 => r.len == 0x28 && 1 ≤ r.index && r.index ≤ 127 && low 1 45 && r.bits 1 30 9 ≤ 256 && low 4 8
      && (List.range 4).all fun t => r.bits (2 + t / 2) (32 * (t % 2) + 24) 8 == 0
  | 0x0003 => r.len == 0x30 && r.index ≤ 127 && low 1 9 && r.bits 1 0 2 ≤ 1
      && (List.range 8).all fun e => r.bits (2 + e / 2) (32 * (e % 2) + 24) 8 == 0
  | 0x0004 => r.len == 0x10 && r.index ≤ 15 && low 1 32 && r.bits 1 0 2 ≤ 2 && r.bits 1 9 7 == 0 && r.bits 1 16 16 ≤ 45776
      && (r.bits 1 0 2 != 2 || r.bits 1 16 16 == 0)
  | 0x0005 => r.len == 0x10 && r.index ≤ 63 && low 1 21 && r.bits 1 9 2 ≤ 2
  | 0x0006 => r.len == 0x10 && r.index ≤ 31 && low 1 9 && r.bits 1 0 2 ≤ 2
  | 0x0007 => r.len == 0x10 && low 1 29 && 1 ≤ r.bits 1 0 21 && r.index + r.bits 1 0 21 ≤ 1048576
  | 0x0008 => r.len == 0x10 && r.index ≤ 15 && low 1 15 && r.bits 1 7 2 ≤ 2
  | 0x8002 => delta && r.len == 8 && 1 ≤ r.index && r.index ≤ 127
  | 0x8008 => delta && r.len == 8 && r.index ≤ 15
  | _ => false

/-! ### Runs of granules (04 R133, R134) -/

/-- Cut a range out of a list of runs. -/
def cutRuns (rs : List GranRun) (first count : Nat) : List GranRun :=
  rs.flatMap fun r =>
    let lo := { r with count := min r.count (first - r.first) }
    let hi := { r with first := max r.first (first + count), count := r.first + r.count - max r.first (first + count) }
    (if r.first < first then [lo] else []) ++ (if r.first + r.count > first + count then [hi] else [])
/-- Insert a run in rising order. -/
def addRun : List GranRun → GranRun → List GranRun
  | [], r => [r]
  | a :: as, r => if r.first < a.first then r :: a :: as else a :: addRun as r
/-- Join neighbours of equal slice and guarded. -/
def joinRuns : List GranRun → List GranRun
  | [] => []
  | r :: rs => match joinRuns rs with
    | [] => [r]
    | q :: qs => if r.first + r.count = q.first && r.slice == q.slice && r.guarded == q.guarded
        then { r with count := r.count + q.count } :: qs else r :: q :: qs
/-- Rewrite a run of granules, in the canonical form: no run of slice 0 unguarded, neighbours joined. -/
def setRun (rs : List GranRun) (r : GranRun) : List GranRun :=
  joinRuns ((addRun (cutRuns rs r.first r.count) r).filter fun x => x.slice != 0 || x.guarded)

/-! ### From records to a configuration and back (04 R131 to R135) -/

/-- Apply a record to a configuration. -/
def ImgCfg.put (c : ImgCfg) (r : ImgRec) : ImgCfg :=
  let b := r.bits
  match r.type with
  | 0x0001 => { c with block := {
      ownBase := b 1 0 44, dirtyBase := b 2 0 44, ctxBase := b 3 0 44, dumpBase := b 4 0 44, dumpMib := b 4 44 20,
      pairRole := b 5 0 2, tineA := b 5 2 6, tineB := b 5 8 6, herdChip := b 5 14 3, herdMembers := b 5 17 8,
      crossDie := b 5 25 1 == 1, alertClasses := b 5 26 3, ethertype := b 5 29 16, herdId := BitVec.ofNat 64 (r.word 6),
      partnerId := BitVec.ofNat 128 (leAt r.body 0x38 16) } }
  | 0x0002 =>
    let cls := fun lo len => (List.range 4).map fun t => b (2 + t / 2) (32 * (t % 2) + lo) len
    { c with slices := mput c.slices r.index {
      ctxTotal := b 1 0 7, keyTotal := b 1 8 13, saTotal := b 1 21 9, jobTotal := b 1 30 9, tcAllowed := b 1 39 4,
      allowPublic := b 1 43 1 == 1, cryptoReq := b 1 44 1 == 1, bw := cls 0 8, lat := cls 8 16, weight := b 4 0 8 } }
  | 0x0003 =>
    let ent := fun (e : Nat) => let k := 2 + e / 2; let o := 32 * (e % 2)
      ({ slice := b k o 7, valid := b k (o + 7) 1 == 1, mask := b k (o + 8) 16 } : WayEntry)
    { c with homes := mput c.homes r.index { excl := b 1 0 2 == 1, owner := b 1 2 7, ways := (List.range 8).map ent } }
  | 0x0004 => { c with stackTab := mput c.stackTab r.index { use := b 1 0 2, owner := b 1 2 7, populated := b 1 16 16 } }
  | 0x0005 => { c with tines := mput c.tines r.index {
      use := b 1 0 2, owner := b 1 2 7, peerKind := b 1 9 2, peerChip := b 1 11 3, peerTine := b 1 14 6, udp := b 1 20 1 == 1 } }
  | 0x0006 => { c with jobs := mput c.jobs r.index { use := b 1 0 2, owner := b 1 2 7 } }
  | 0x0007 => { c with runs := setRun c.runs { first := r.index, count := b 1 0 21, slice := b 1 21 7, guarded := b 1 28 1 == 1 } }
  | 0x0008 => { c with urgs := mput c.urgs r.index { slice := b 1 0 7, master := b 1 7 2, tine := b 1 9 6 } }
  | 0x8002 => { c with slices := mdel c.slices r.index }
  | 0x8008 => { c with urgs := mdel c.urgs r.index }
  | _ => c

/-- A record's bytes: the leading word and the body words. -/
def recBytes (type index : Nat) (ws : List Nat) : List Byte :=
  leBytes (type + (8 * (ws.length + 1)) <<< 16 + index <<< 32) 8 ++ ws.flatMap fun w => leBytes w 8

/-- Join 32-bit halves into words. -/
def pairWords : List Nat → List Nat
  | a :: b :: r => (a + b <<< 32) :: pairWords r
  | [a] => [a]
  | [] => []

/-- The records of a configuration in canonical order (04 R133). -/
def ImgCfg.records (c : ImgCfg) : List (List Byte) :=
  let k := c.block
  let part := k.partnerId.toNat
  [recBytes 1 0 [k.ownBase, k.dirtyBase, k.ctxBase, k.dumpBase + k.dumpMib <<< 44,
     k.pairRole + k.tineA <<< 2 + k.tineB <<< 8 + k.herdChip <<< 14 + k.herdMembers <<< 17 + (flag k.crossDie) <<< 25
       + k.alertClasses <<< 26 + k.ethertype <<< 29, k.herdId.toNat, part % 2 ^ 64, part / 2 ^ 64]]
  ++ c.slices.map (fun (i, r) => recBytes 2 i (
      [r.ctxTotal + r.keyTotal <<< 8 + r.saTotal <<< 21 + r.jobTotal <<< 30 + r.tcAllowed <<< 39
        + (flag r.allowPublic) <<< 43 + (flag r.cryptoReq) <<< 44]
      ++ pairWords ((List.range 4).map fun t => r.bw.getD t 0 + (r.lat.getD t 0) <<< 8) ++ [r.weight]))
  ++ c.homes.map (fun (i, r) => recBytes 3 i (
      [flag r.excl + r.owner <<< 2]
      ++ pairWords (r.ways.map fun w => w.slice + (flag w.valid) <<< 7 + w.mask <<< 8)))
  ++ c.stackTab.map (fun (i, r) => recBytes 4 i [r.use + r.owner <<< 2 + r.populated <<< 16])
  ++ c.tines.map (fun (i, r) => recBytes 5 i [r.use + r.owner <<< 2 + r.peerKind <<< 9 + r.peerChip <<< 11
      + r.peerTine <<< 14 + (flag r.udp) <<< 20])
  ++ c.jobs.map (fun (i, r) => recBytes 6 i [r.use + r.owner <<< 2])
  ++ c.runs.map (fun r => recBytes 7 r.first [r.count + r.slice <<< 21 + (flag r.guarded) <<< 28])
  ++ c.urgs.map (fun (i, r) => recBytes 8 i [r.slice + r.master <<< 7 + r.tine <<< 9])

/-- The canonical full image of a configuration without its trailer (04 R133). -/
def ImgCfg.canonical (c : ImgCfg) : List Byte :=
  let rs := c.records
  let n := rs.foldl (fun a r => a + r.length) 0
  leBytes 0x4E584947 4 ++ leBytes 1 2 ++ [0, 0] ++ leBytes (136 + n + 48) 4 ++ leBytes rs.length 4 ++ leBytes 0x0301 8
    ++ List.replicate 112 0 ++ rs.flatten
/-- The active digest of a configuration (04 R135). -/
def ImgCfg.digest (c : ImgCfg) : Digest := Config.sha384 c.canonical

/-! ### Questions about a configuration -/

/-- Whether a slice is a defined tenant slice. -/
def ImgCfg.has (c : ImgCfg) (sl : Nat) : Bool := (mget? c.slices sl).isSome
/-- Whether a name is in a tenant slice's home set (04 R132). -/
def ImgCfg.inSet (c : ImgCfg) (sl n : Nat) : Bool :=
  let r := tget {} c.homes n
  if r.excl then r.owner == sl else r.ways.any fun w => w.valid && w.slice == sl
/-- Whether a slice may use a way of a name. -/
def ImgCfg.hasWay (c : ImgCfg) (n sl w : Nat) : Bool :=
  let r := tget {} c.homes n
  if r.excl then r.owner == sl else r.ways.any fun x => x.valid && x.slice == sl && Nat.testBit x.mask w
/-- The last granule of a run on a port, if the run has one there. -/
def GranRun.lastOn (r : GranRun) (p : Nat) : Option Nat :=
  let last := r.first + r.count - 1
  let g := last - (last % 16 + 16 - p) % 16
  if last ≥ (last % 16 + 16 - p) % 16 && g ≥ r.first then some g else none
/-- The ports a run has granules on. -/
def GranRun.ports (r : GranRun) : List Nat := (List.range 16).filter fun p => (r.lastOn p).isSome
/-- The four system regions (07 R486). -/
def BlockRec.regions (b : BlockRec) : List (Option (List Nat)) :=
  [regionAt b.ownBase 4, regionAt b.dirtyBase 2, regionAt b.ctxBase 45, regionAt b.dumpBase ((b.dumpMib + 1) / 2)]

/-! ### Static checks (04 R142) -/

/-- A failed check: code, then the record it names by type, index and, for a run of granules, count; type 0 names a header field
by its offset. -/
abbrev ImgFail := Nat × Nat × Nat × Nat

/-- The first failure of a list. -/
def firstFail (l : List (Bool × ImgFail)) : Option ImgFail := (l.find? (·.1)).map (·.2)

/-- PLACEMENT (04 R142, 07 R237, R486). -/
def State.placement (s : State) (c : ImgCfg) : Option ImgFail :=
  let st := fun p => tget ({} : StackRec) c.stackTab p
  let excl := fun sl => (List.range 16).any fun p => (st p).use == 1 && (st p).owner == sl
  let one := fun (r : GranRun) =>
    let beyond := (List.range 16).any fun p => match r.lastOn p with
      | some g => granStack g ≥ (st p).populated
      | none => false
    let off := excl r.slice && r.ports.any fun p => !((st p).use == 1 && (st p).owner == r.slice)
    let owners := (List.range 16).filter fun p => (st p).use == 1
    let stripes := r.guarded && (r.first % 16 != 0 || r.count % 16 != 0
      || ((List.range 16).any fun p => (s.port (mpPort p)).state == 3)
      || (!owners.isEmpty && !(owners.length == 16 && owners.all fun p => (st p).owner == (st 0).owner)))
    (beyond || off || stripes, ((7, 7, r.first, r.count) : ImgFail))
  let regs := c.block.regions
  let gs := regs.flatMap fun r => r.getD []
  let bad := regs.any Option.isNone || gs.any (fun g => c.granule g != (0, true)) || gs.length != gs.eraseDups.length
  firstFail (c.runs.map one ++ [(bad, (7, 1, 0, 1))])

/-- WAYS (04 R142, 05 R151). -/
def ImgCfg.waysFail (c : ImgCfg) : Option ImgFail :=
  let home := fun (x : Nat × HomeRec) =>
    let vs := x.2.ways.filter (·.valid)
    let bad := if x.2.excl then !vs.isEmpty
      else vs.any (fun w => w.mask == 0 || !c.has w.slice) || (vs.map (·.slice)).length != ((vs.map (·.slice)).eraseDups).length
    (bad, ((8, 3, x.1, 1) : ImgFail))
  let empty := c.slices.map fun x => (!((List.range 128).any (c.inSet x.1)), ((8, 2, x.1, 1) : ImgFail))
  let far := c.runs.map fun r => (r.slice != 0 && r.ports.any fun p =>
    !((List.range 16).any fun k => c.inSet r.slice (p / 2 * 16 + k)), ((8, 7, r.first, r.count) : ImgFail))
  firstFail (c.homes.map home ++ empty ++ far)

/-- HOLDER (04 R142). -/
def ImgCfg.holderFail (c : ImgCfg) : Option ImgFail :=
  let b := c.block
  firstFail (
    c.homes.map (fun x => (x.2.excl && !c.has x.2.owner, ((9, 3, x.1, 1) : ImgFail)))
    ++ c.stackTab.map (fun x => (x.2.use == 1 && !c.has x.2.owner, ((9, 4, x.1, 1) : ImgFail)))
    ++ c.tines.map (fun x => ((x.2.use == 1 && !c.has x.2.owner)
        || (x.2.use == 2 && x.1 != b.tineA && x.1 != b.tineB), ((9, 5, x.1, 1) : ImgFail)))
    ++ c.jobs.map (fun x => (x.2.use == 1 && !c.has x.2.owner, ((9, 6, x.1, 1) : ImgFail)))
    ++ c.urgs.map (fun x => (!c.has x.2.slice, ((9, 8, x.1, 1) : ImgFail))))

/-- POOL (04 R142): the sums, and each slice's total against what its functions hold. -/
def State.poolFail (s : State) (c : ImgCfg) : Option ImgFail :=
  let sum := fun (p : SliceRec → Nat) => c.slices.foldl (fun a x => a + p x.2) 0
  let held := fun sl (p : FncRec → Nat) =>
    (s.fncs.filter fun f => f.2.state != 0 && f.1 != 0 && f.2.slice == sl).foldl (fun a f => a + p f.2) 0
  firstFail (((sum (·.ctxTotal) > 96 || sum (·.keyTotal) > 8190 || sum (·.saTotal) > 256 || sum (·.jobTotal) > 256),
      ((0xA, 2, (c.slices.headD (0, {})).1, 1) : ImgFail))
    :: c.slices.map fun x => (decide (x.2.ctxTotal < held x.1 (·.ctxSlots)) || decide (x.2.keyTotal < held x.1 (·.keySlots))
        || decide (x.2.jobTotal < held x.1 (·.jobShare)), ((0xA, 2, x.1, 1) : ImgFail)))

/-- FIXED_FIELD (04 R142): what a delta may not change of the BLOCK record. -/
def blockFixed (a b : BlockRec) : Bool :=
  { a with alertClasses := 0, crossDie := false, ethertype := 0 } == { b with alertClasses := 0, crossDie := false, ethertype := 0 }

/-- The ports a record names (02 R52): its own, the tine of a URGENCY bound to tine ingress, the mirror tines of a paired BLOCK. -/
def ImgRec.ports (r : ImgRec) : List Nat :=
  match r.type with
  | 1 => if r.bits 5 0 2 = 0 then [] else [lpPort (r.bits 5 2 6), lpPort (r.bits 5 8 6)]
  | 4 => [mpPort r.index]
  | 5 => [lpPort r.index]
  | 8 => (340 + r.index) :: (if r.bits 1 7 2 = 1 then [lpPort (r.bits 1 9 6)] else [])
  | _ => []
/-- ABSENT_PORT (04 R142). -/
def State.absentFail (s : State) (rs : List ImgRec) : Option ImgFail :=
  firstFail (rs.map fun r => (r.ports.any fun p => (s.port p).state == 3, ((6, r.type, r.index, 1) : ImgFail)))

/-- Where two byte strings first differ. -/
def diffAt : List Byte → List Byte → Nat → Option Nat
  | [], [], _ => none
  | a :: as, b :: bs, n => if a = b then diffAt as bs (n + 1) else some n
  | _, _, n => some n

/-- Whether every record a full image must hold is there (04 R133). -/
def State.fullComplete (s : State) (c : ImgCfg) (rs : List ImgRec) : Bool :=
  rs.any (·.type == 1) && (List.range 128).all (fun n => (mget? c.homes n).isSome)
    && (List.range 16).all (fun p => (s.port (mpPort p)).state == 3 || (mget? c.stackTab p).isSome)
    && (List.range 64).all (fun t => (s.port (lpPort t)).state == 3 || (mget? c.tines t).isSome)
    && (List.range 32).all fun e => (mget? c.jobs e).isSome

/-- The header's failing offset, `none` where it is good (04 R130, R142). -/
def headerFail (bs : List Byte) (walked : Option Nat) : Option Nat :=
  if leAt bs 0 4 != 0x4E584947 then some 0
  else if leAt bs 4 2 != 1 then some 4
  else if leAt bs 6 1 > 1 then some 6
  else if leAt bs 7 1 != 0 then some 7
  else if bs.length < 184 || leAt bs 8 4 != bs.length || bs.length % 8 != 0 then some 8
  else if leAt bs 0x12 6 != 0 then some 0x10
  else if leAt bs 0x22 6 != 0 then some 0x22
  else match walked with
    | some n => if n != leAt bs 0xC 4 then some 0xC else none
    | none => none

/-- The offset of the header field that holds a byte (04 R130). -/
def fieldAt (o : Nat) : Nat :=
  [0x58, 0x28, 0x22, 0x20, 0x18, 0x10, 0xC, 8, 7, 6, 4].find? (· ≤ o) |>.getD 0
/-- The records of a stream. -/
def imgRecsOf (bs : List Byte) : List ImgRec × Option Nat := imgWalk bs (bs.length - 48) (bs.length / 8) 136
/-- Where a check failed, as IMG_ERROR says it (04 R139, R141): code, offset and type. A run of granules is looked for in the first
GRANULE record that meets it; where no record of a delta names what failed the offset is 0 (DESIGN CHOICE, log entry 180). -/
def imgWhere (rs : List ImgRec) (f : ImgFail) : Nat × Nat × Nat :=
  let (code, ty, ix, n) := f
  if ty = 0 then (code, ix, 0)
  else
    let hit := fun (r : ImgRec) => if ty = 7 then r.type == 7 && decide (r.index < ix + n) && decide (ix < r.index + r.bits 1 0 21)
      else r.type % 2 ^ 15 == ty && r.index == ix
    match rs.find? hit with
    | some r => (code, r.off, r.type)
    | none => (code, 0, ty)

/-- The static checks of a stream (04 R141, R142): the failing code with the offset and type, or the staged image. A full image that
differs in no byte from its rebuild but lacks a record fails at offset 0xC, the number of records (DESIGN CHOICE, log entry 180). -/
def State.imgCheck (s : State) : Except (Nat × Nat × Nat) Staged :=
  let bs := s.img.staging
  let fin := bs.length - 48
  let (rs, bad) := imgRecsOf bs
  let delta := leAt bs 6 1 == 1
  let digest := fun o => (BitVec.ofNat 384 (leAt bs o 48) : Digest)
  match headerFail bs (if bad.isNone then some rs.length else none) with
  | some o => .error (1, o, 0)
  | none =>
    if Config.sha384 (bs.take fin) != digest fin then .error (2, fin, 0)
    else if leAt bs 0x11 1 != 3 || leAt bs 0x10 1 > 1 then .error (3, 0x10, 0)
    else match rs.find? fun r => some r.off == bad || !r.ok delta with
      | some r => .error (4, r.off, r.type)
      | none =>
        let c := rs.foldl (fun (c : ImgCfg) r => c.put r) (if delta then s.img.active else {})
        let canon := if delta then none else
          match diffAt (bs.take fin) c.canonical 0 with
          | some o => some o
          | none => if s.fullComplete c rs then none else some 0xC
        match canon with
        | some o => match rs.find? fun r => decide (r.off ≤ o) && decide (o < r.off + r.len) with
          | some r => .error (5, r.off, r.type)
          | none => .error (5, fieldAt o, 0)
        | none =>
          let fs := [s.absentFail rs, s.placement c, c.waysFail, c.holderFail, s.poolFail c,
            (if delta && !blockFixed s.img.active.block c.block then some ((0xB, 1, 0, 1) : ImgFail) else none)]
          match fs.find? Option.isSome with
          | some (some f) => .error (imgWhere rs f)
          | _ =>
            if delta && digest 0x28 != s.img.activeDigest then .error (0xC, 0x28, 0)
            else if delta && digest 0x58 != c.digest then .error (0xD, 0x58, 0)
            else .ok { delta := delta, commitTick := leAt bs 0x18 8, drainLead := leAt bs 0x20 2, base := digest 0x28,
                       result := c.digest, cfg := c,
                       slicesTouched := (rs.filter fun r => r.type % 2 ^ 15 == 2).map (·.index) }

/-! ### The drain (04 R143 to R145) -/

/-- Slices whose home set a delta changes. -/
def State.movedSlices (s : State) (c : ImgCfg) : List Nat :=
  (s.img.active.slices.map (·.1)).filter fun sl => (List.range 128).any fun n => s.img.active.inSet sl n != c.inSet sl n
/-- The ways of a name that some slice loses, with the slice. -/
def State.lostWays (s : State) (c : ImgCfg) (n : Nat) : List (Nat × Nat) :=
  (s.img.active.slices.map (·.1)).flatMap fun sl =>
    ((List.range 16).filter fun w => s.img.active.hasWay n sl w && !c.hasWay n sl w).map fun w => (w, sl)
/-- The walked ways of a name, as a mask. -/
def State.walkedWays (s : State) (c : ImgCfg) (n : Nat) : Nat :=
  let lost := s.lostWays c n
  let mv := s.movedSlices c
  maskOf 16 fun w => lost.any (·.1 == w) || mv.any fun sl => s.img.active.hasWay n sl w
/-- Whether a name homes an address that moves. -/
def State.homesMoving (s : State) (c : ImgCfg) (n : Nat) : Bool := (s.movedSlices c).any fun sl => s.img.active.inSet sl n
/-- drain_worst (04 R144). -/
def State.drainWorst (s : State) (c : ImgCfg) : Nat :=
  (List.range 128).foldl (fun a n =>
    let w := popCount (s.walkedWays c n) 16
    max a (max ((2048 * w + 447) / 448) (if s.homesMoving c n then 40 else 0))) 0

/-- CHECKING ends (04 R140): VALID with its digests, or REJECTED with where it failed; vector 0x06. -/
def State.imgCheckDone (s : State) : State :=
  if s.img.state != 2 then s
  else match s.imgCheck with
    | .ok d => ({ s with img := { s.img with state := 3, result := 0, kind := d.delta, staged := some d, stagedDigest := d.result,
                                             drainWorst := if d.delta then s.drainWorst d.cfg else 0 } }).mgIrq 0x06
    | .error (code, off, ty) => ({ s with img := { s.img with state := 6, result := code, errOffset := off, errType := ty,
                                                              kind := leAt s.img.staging 6 1 == 1 } }).mgIrq 0x06

/-! ### Live checks (04 R141, R142) -/

/-- NOT_FREE: a granule the delta changes, or one of the old holder on a stack that changes holder. -/
def State.notFree (s : State) (c : ImgCfg) : Option ImgFail :=
  let old := s.img.active
  firstFail ((s.own.filter fun e => e.2.gstate != 0).map fun e =>
    let p := granPort e.1
    let a := tget ({} : StackRec) old.stackTab p
    let b := tget ({} : StackRec) c.stackTab p
    let run := c.granule e.1 != old.granule e.1
    (run || (a.use == 1 && e.2.slice == a.owner && !(b.use == 1 && b.owner == a.owner)),
      (if run then (0xE, 7, e.1, 1) else (0xE, 4, p, 1) : ImgFail)))
/-- FUNCTIONS_LIVE. -/
def State.functionsLive (s : State) (c : ImgCfg) : Option ImgFail :=
  firstFail (s.fncs.map fun f => (f.1 != 0 && f.2.state != 0 && !c.has f.2.slice, ((0xF, 2, f.2.slice, 1) : ImgFail)))
/-- PUBLIC. -/
def State.publicLost (s : State) (c : ImgCfg) : Option ImgFail :=
  firstFail (s.img.active.slices.map fun x =>
    (x.2.allowPublic && (match mget? c.slices x.1 with | some y => !y.allowPublic | none => true)
      && s.own.any (fun e => e.2.slice == x.1 && e.2.key == 8191 && e.2.gstate != 0), ((0x10, 2, x.1, 1) : ImgFail)))
/-- STRANDED: the JOB record that the slice loses, or its SLICE record. -/
def State.stranded (s : State) (c : ImgCfg) : Option ImgFail :=
  let lost := fun sl => s.img.active.jobs.find? fun j => j.2.use == 1 && j.2.owner == sl
  firstFail (s.fncs.map fun f =>
    (f.1 != 0 && (f.2.state == 2 || f.2.state == 3 || f.2.state == 4)
      && !(c.jobs.any fun j => j.2.use == 1 && j.2.owner == f.2.slice)
      && (match mget? c.slices f.2.slice with | some x => x.jobTotal == 0 | none => true),
      (match lost f.2.slice with | some j => (0x11, 6, j.1, 1) | none => (0x11, 2, f.2.slice, 1) : ImgFail)))
/-- The live check that fails first, apart from TICK, MISSED and RECOVERY. -/
def State.liveCheck (s : State) (d : Staged) : Option ImgFail :=
  let base := if d.base != s.img.activeDigest then some ((0xC, 0, 0x28, 1) : ImgFail) else none
  ([s.poolFail d.cfg, base, s.notFree d.cfg, s.functionsLive d.cfg, s.publicLost d.cfg, s.stranded d.cfg].find? Option.isSome).getD none
/-- TICK (04 R142). -/
def State.tickFail (s : State) (d : Staged) : Option ImgFail :=
  firstFail [(decide (d.drainLead < s.img.drainWorst), (0x12, 0, 0x20, 1)),
    (decide (d.commitTick < s.blk.tick + s.img.drainWorst + 2) || decide (d.commitTick > s.blk.tick + 2 ^ 32), (0x12, 0, 0x18, 1))]

/-! ### Operations (04 R138, R140) -/

/-- Set the result of an operation. -/
def State.imgResult (s : State) (r : Nat) : State := { s with img := { s.img with result := r } }
/-- Set the result of a check that failed, and IMG_ERROR to where (04 R141). -/
def State.imgFailAt (s : State) (f : ImgFail) : State :=
  let (code, off, ty) := imgWhere (imgRecsOf s.img.staging).1 f
  { s with img := { s.img with result := code, errOffset := off, errType := ty } }
/-- Leave the staged image: EMPTY, the drain's marks gone. IMG_STATUS.kind keeps the kind of the last image, since none is staged
(DESIGN CHOICE, log entry 181). -/
def State.imgEmpty (s : State) (r : Nat) : State :=
  { s with img := { s.img with state := 0, result := r, staged := none, drain := [], movingSlices := [], drainWorst := 0,
                               stagedDigest := 0, staging := [], applyPending := false, closing := false } }
/-- CANCEL: EMPTY; ways and addresses return to normal service at the next boundary (04 R146). -/
def State.imgCancel (s : State) : State :=
  let e := s.imgEmpty 0x15
  { e with img := { e.img with drain := s.img.drain, movingSlices := s.img.movingSlices, closing := s.img.state == 5 } }
/-- Normal service returns at the boundary after a CANCEL. -/
def State.imgClose (s : State) : State :=
  if s.img.closing then ({ s with img := { s.img with drain := [], movingSlices := [], closing := false } } : State).settle else s

/-- The primary's links carry sets in SYNCING and MIRRORING. -/
def State.mirroring (s : State) : Bool :=
  s.blockRec.pairRole == 1 && (s.pair.state == 2 || s.pair.state == 3) && !s.fatal
/-- Note what happened to the image for the mirror (04 R148). -/
def State.imgEvent (s : State) (e : ImgEvent) : State :=
  if s.mirroring then { s with img := { s.img with events := s.img.events ++ [e] } } else s

/-- An operation of IMG_CTRL. Between an accepted APPLY and its boundary every operation answers STATE. -/
def State.imgOp (s : State) (op : Nat) : State :=
  let i := s.img
  if i.applyPending then s.imgResult 0x17
  else match op, i.state, i.staged with
    | 1, 0, _ | 1, 3, _ | 1, 6, _ => { (s.imgEmpty 0) with img := { (s.imgEmpty 0).img with state := 1 } }
    | 2, 1, _ => { s with img := { i with state := 2 } }
    | 3, 3, some d =>
      if !d.delta || s.isMirror then s.imgResult 0x17
      else
        match s.liveCheck d, s.tickFail d with
        | some f, _ | none, some f => s.imgFailAt f
        | none, none => ({ s with img := { i with state := 4, result := 0 } } : State).imgEvent
            { op := 1, tick := d.commitTick, digest := d.result, stream := i.staging }
    | 4, 4, _ | 4, 5, _ => s.imgCancel.imgEvent { op := 2, result := 0x15, digest := i.activeDigest }
    | 5, 3, some d =>
      if d.delta || s.fawn.phase != 5 || i.applied then s.imgResult 0x17
      else { s with img := { i with applyPending := true } }
    | _, _, _ => s.imgResult 0x17

/-- A write of IMG_DATA (04 R140). -/
def State.imgData (s : State) (d : Reg) : State :=
  let i := s.img
  if i.state != 1 then s.imgResult 0x17
  else if i.staging.length + 8 > 2 ^ 20 then { s with img := { i with state := 6, result := 0x16 } }
  else { s with img := { i with staging := i.staging ++ leBytes d.toNat 8 } }

/-! ### Draining (04 R144, R145) -/

/-- Whether an input line of a window lies in a walked way or at a moving address of a delta (04 R145, 08 R271). -/
def State.windowWalked (s : State) (c : ImgCfg) (x : Window) : Bool :=
  x.state != 0 && ((s.movedSlices c).contains x.slice || (s.shadowSpots x).any fun p =>
    (s.shadowWays p.1 p.2 x.slice).any fun w => Nat.testBit (s.walkedWays c (s.nameOfHome p.1)) w)
/-- The drain starts (04 R140, R145): the walks of every home, jobs leave engines that change holder, reduce windows whose
input lines are walked or move close with GEOMETRY (08 R271). -/
def State.drainStart (s : State) : State :=
  match s.img.staged with
  | some d =>
    if s.img.state = 4 && !s.isMirror && d.commitTick ≤ s.blk.tick + d.drainLead then
      let one := fun (n : Nat) => match s.physOf n with
        | some h =>
          let w := s.walkedWays d.cfg n
          let f := s.homesMoving d.cfg n
          if w != 0 || f then some ({ home := h, name := n, ways := w, lostWays := s.lostWays d.cfg n, filter := f } : DrainSt) else none
        | none => none
      let ws := (s.rw.windows.filter fun (w : Nat × Window) => s.windowWalked d.cfg w.2).map (·.1)
      let s := ws.foldl (fun (s : State) w => s.closeWindow w 6) s
      let s := { s with img := { s.img with state := 5, drain := (List.range 128).filterMap one,
                                            movingSlices := s.movedSlices d.cfg, closing := false } }
      let stay := fun (j : Job) => match j.engine with | some e => s.eligible e j.slice | none => true
      { s with jobs := s.jobs.map fun j => if stay j then j else { j with engine := none } }
    else s
  | none => s

/-- The place a walk reaches after `n` more lines of its ways, in set * 16 + way. -/
def DrainSt.tagNext (d : DrainSt) (n : Nat) : Nat :=
  let ws := bitList d.ways 16
  let k := ws.length
  if k = 0 then 32768
  else
    let m := d.tagCur / 16 * k + (ws.filter (· < d.tagCur % 16)).length + n
    if m ≥ 2048 * k then 32768 else m / k * 16 + ws.getD (m % k) 0

/-- Replace the drain of a home. -/
def State.setDrain (s : State) (d : DrainSt) : State :=
  { s with img := { s.img with drain := s.img.drain.map fun x => if x.home == d.home then d else x } }

/-- A tag-walk piece (04 R144, R145): 448 lines of the walked ways are passed; one piece in a tick. -/
def State.tagWalk (s : State) (h : Nat) : State :=
  match s.img.drain.find? fun d => d.home == h with
  | none => s
  | some d =>
    if s.stopped || s.img.state != 5 || d.tagTick = some s.blk.tick || d.tagCur ≥ 32768 || d.ways = 0 then s
    else
      let s := s.ring (hslUnit h) 0x84 (0 + d.tagCur * 256)
      let fin := d.tagNext 448
      let go := fun (l : Nat × LlcLine) => decide (d.tagCur ≤ l.1) && decide (l.1 < fin) && Nat.testBit d.ways (l.1 % 16)
        && (d.lostWays.contains (l.1 % 16, l.2.slice) || s.img.movingSlices.contains l.2.slice)
      let s := ((s.home h).lines.filter go).foldl (fun (s : State) l => (s.evictWay h l.1).mirrorDrop h l.2.line) s
      (s.setDrain { d with tagCur := fin, tagTick := some s.blk.tick }).settle

/-- A filter-walk piece (04 R144, R145): 4096 entries; every tile copy of a moving address is recalled; one piece in a tick. -/
def State.filterWalk (s : State) (h : Nat) : State :=
  match s.img.drain.find? fun d => d.home == h with
  | none => s
  | some d =>
    if s.stopped || s.img.state != 5 || d.filterTick = some s.blk.tick || !d.filter || d.filterCur ≥ 32 then s
    else
      let s := s.ring (hslUnit h) 0x84 (1 + d.filterCur * 256)
      let hit := fun (e : Nat × FiltEntry) => lineChip e.1 == s.chip && fsetOf e.1 / 256 == d.filterCur
        && s.img.movingSlices.contains (s.lineSlice e.1)
      let s := (((s.home h).filter.filter hit).map (·.1)).foldl (fun (s : State) l =>
        s.enter { id := 0, home := h, line := l, op := .recall, origin := .internal 0 0, slice := s.lineSlice l, internal := true,
                  key := (s.ownAt (lineGran l)).key, start := s.blk.tick }) s
      (s.setDrain { d with filterCur := d.filterCur + 1, filterTick := some s.blk.tick,
                           recallEnd := if d.filterCur = 31 then some (s.blk.tick + 8) else d.recallEnd }).settle

/-- Whether a home has drained: its walks done and its recalls answered; a home that failed has (04 R147). -/
def State.drained (s : State) (d : DrainSt) : Bool :=
  !((s.home d.home).role == 0 || (s.home d.home).role == 2) ||
  ((d.ways == 0 || d.tagCur ≥ 32768) && (!d.filter || (d.filterCur ≥ 32 &&
    !(s.txns.any fun t => t.home == d.home && t.op == .recall && s.img.movingSlices.contains (s.lineSlice t.line)))))

/-! ### The commit (04 R136, R145, R146) -/

/-- Whether a recovery is in progress on an instance that a delta moves or walks (04 R142), and the record that names it. -/
def State.recoveryMeets (s : State) (d : Staged) : Option ImgFail :=
  firstFail ((s.flt.recs.filter fun r => r.2.state == 1 || r.2.state == 2).map fun r =>
    let i := r.2.unit % 256
    match r.2.unit / 256 with
    | 1 => (s.walkedWays d.cfg r.2.name != 0 || s.homesMoving d.cfg r.2.name, ((0x14, 3, r.2.name, 1) : ImgFail))
    | 2 => (s.stackRec i != tget ({} : StackRec) d.cfg.stackTab i, (0x14, 4, i, 1))
    | 3 => (s.tineRec i != tget ({} : TineRec) d.cfg.tines i, (0x14, 5, i, 1))
    | 5 => (s.jobRec i != tget ({} : JobRec) d.cfg.jobs i, (0x14, 6, i, 1))
    | _ => (false, (0, 0, 0, 1)))

/-- The classes and weight a SLICE record sets (04 R131, 06 R212); a slice newly defined takes reset values elsewhere. -/
def State.qosFromRec (s : State) (sl : Nat) (r : SliceRec) (fresh : Bool) : State :=
  let q := s.qos
  let cls := (List.range 4).foldl (fun m t => tset {} m (sl * 4 + t) { bw := r.bw.getD t 0, lat := r.lat.getD t 0 }) q.classes
  let old := if fresh then {} else tget ({} : QosSlice) q.slices sl
  { s with qos := { q with classes := cls, slices := tset {} q.slices sl { old with weight := r.weight } } }
/-- Remove a slice's regulation. -/
def State.qosDrop (s : State) (sl : Nat) : State :=
  let q := s.qos
  { s with qos := { q with classes := q.classes.filter fun x => x.1 / 4 != sl, slices := q.slices.filter fun x => x.1 != sl } }

/-- Write the ownership entries a commit gives parity granules of newly guarded groups and granules that change (07 R237). -/
def State.ownCommit (s : State) (old new : ImgCfg) : State :=
  let rs := (old.runs ++ new.runs).filter fun r => !(old.runs.contains r && new.runs.contains r)
  rs.foldl (fun (s : State) r => forRange r.first (fun g (s : State) =>
    let (sl, gd) := new.granule g
    if (sl, gd) = old.granule g then s
    else if gd && isParity g then s.setOwn g { gstate := 1, guarded := true }
    else s.setOwn g { slice := sl, guarded := gd }) r.count s) (s.dropOwn fun tl =>
      (List.range 16).any fun i => old.granule (16 * tl + i) != new.granule (16 * tl + i))

/-- A delta takes links from their old holders (04 R145): a slot gives up the links its slice may no longer use, and one left without
any is retired (log entry 29). -/
def State.retireStranded (s : State) (old : ImgCfg) : State :=
  let keep := fun (sl t : Nat) => !(s.recAllows (tget {} old.tines t) sl) || s.recAllows (s.tineRec t) sl
  let mask := fun (a : SaSt) => BitVec.ofNat 64 ((bitList a.tines.toNat 64).foldl (fun m t => if keep a.slice t then m + 2 ^ t else m) 0)
  { s with sas := s.sas.map fun (x : Nat × SaSt) =>
      if x.2.slice = 0 || !(x.2.state == 1 || x.2.state == 2) || mask x.2 = x.2.tines then x
      else if mask x.2 = 0 then (x.1, { x.2 with tines := 0, state := 3, stateTick := s.blk.tick })
      else (x.1, { x.2 with tines := mask x.2 }) }

/-- Unacknowledged transfers of a slice that a delta leaves without a link of their slot complete with TIMEOUT (04 R145). -/
def State.strandTransfers (s : State) (old : ImgCfg) : State :=
  let allows := fun (c : ImgCfg) (a : SaSt) (sl : Nat) => (List.range 64).any fun t =>
    Nat.testBit a.tines.toNat t && s.recAllows (tget {} c.tines t) sl
  s.sas.foldl (fun (s : State) x =>
    (x.2.msgs.filter fun m => allows old x.2 m.msg.slice.toNat && !allows s.img.active x.2 m.msg.slice.toNat).foldl
      (fun (s : State) m => s.abandon x.1 m) s) s

/-- Put a configuration in force: digests, measurement, classes (04 R135, R136). -/
def State.putCfg (s : State) (d : Staged) : State :=
  let old := s.img.active
  let m := Config.sha384 (digestBytes s.img.measure ++ digestBytes d.result ++ leBytes s.blk.tick 8)
  let s := { s with img := { s.img with active := d.cfg, before := old, activeDigest := d.result, measure := m,
                                        lastCommit := s.blk.tick,
                                        touched := if d.delta then d.slicesTouched
                                          else old.slices.map (·.1) ++ d.cfg.slices.map (·.1) } }
  let s := (old.slices.filter fun x => !d.cfg.has x.1).foldl (fun (s : State) x => s.qosDrop x.1) s
  d.cfg.slices.foldl (fun (s : State) x =>
    if d.slicesTouched.contains x.1 || !d.delta then s.qosFromRec x.1 x.2 (!old.has x.1) else s) s

/-- Why a delta is not performed at its boundary: the live checks, MISSED, RECOVERY (04 R142, R146). -/
def State.commitFail (s : State) (d : Staged) : Option ImgFail :=
  match s.liveCheck d with
  | some f => some f
  | none =>
    if s.stopped || s.img.state = 4 || !(s.img.drain.all s.drained) then some (0x13, 0, 0x18, 1) else s.recoveryMeets d

/-- The commit of a delta at its boundary (04 R146). -/
def State.imgCommit (s : State) : State :=
  match s.img.staged with
  | none => s
  | some d =>
    if !(s.img.state == 4 || s.img.state == 5) || !d.delta || s.isMirror || s.blk.tick < d.commitTick then s
    else
      let s := { s with img := { s.img with dueTick := some s.blk.tick } }
      match s.commitFail d with
      | some f =>
        let s := s.imgFailAt f
        (((s.imgEmpty s.img.result).imgEvent { op := 4, result := f.1, digest := s.img.activeDigest }).raise
          fltUnit 0x80 1 0 0 0 0).mgIrq 0x06 |>.settle
      | none =>
        let old := s.img.active
        let s := ((s.putCfg d).imgEmpty 0).ownCommit old d.cfg
        let s := s.imgEvent { op := 3, tick := s.img.lastCommit, digest := s.img.activeDigest }
        (((s.strandTransfers old).retireStranded old).mgIrq 0x06).settle

/-! ### APPLY (04 R140, 14 R437) -/

/-- The ownership table the full image writes (14 R437). -/
def State.ownFull (s : State) (c : ImgCfg) : State :=
  let sys := c.block.regions.flatMap fun r => r.getD []
  { s with own := [] }.dropOwn (fun _ => true) |> c.runs.foldl (fun (s : State) r => forRange r.first (fun g (s : State) =>
    if sys.contains g || (r.guarded && isParity g) then s.setOwn g { gstate := 1, guarded := true }
    else s.setOwn g { slice := r.slice, guarded := r.guarded }) r.count s)

/-- The guarded data granules of a configuration. -/
def ImgCfg.guardedData (c : ImgCfg) : Nat := c.runs.foldl (fun a r => if r.guarded then a + r.count / 16 * 15 else a) 0

/-- APPLY at its boundary: the image is in force, the vault derives, INITIALIZING begins (14 R437). -/
def State.imgApply (s : State) : State :=
  match s.img.staged with
  | none => s
  | some d =>
    if !s.img.applyPending then s
    else
      let s := s.putCfg d
      let s := { s with img := { s.img with bootDigest := d.result, applied := true } }
      let s := (s.imgEmpty 0).ownFull d.cfg
      let s := { s with dirty := [], ctxs := [], objs := [], fences := [], fpages := [] }
      let s := s.vaultApply
      { s with fawn := { s.fawn with phase := 6, initLeft := (d.cfg.guardedData * 16384 + 28671) / 28672 } }

/-! ### The commands -/

/-- IMG_OPEN (04 R140). -/
def execImgOpen (s : State) : Host.Outcome State Fault Refusal := .next (s.mgWrite false fun s => s.imgOp 1)
/-- IMG_DATA (04 R140). -/
def execImgData (d : Reg) (s : State) : Host.Outcome State Fault Refusal := .next (s.mgWrite false fun s => s.imgData d)
/-- IMG_CLOSE (04 R140). -/
def execImgClose (s : State) : Host.Outcome State Fault Refusal := .next (s.mgWrite false fun s => s.imgOp 2)
/-- IMG_CHECK_COMPLETE (04 R140, R142). -/
def execImgCheckComplete (s : State) : Host.Outcome State Fault Refusal := .next s.imgCheckDone
/-- IMG_ARM (04 R140, R142). -/
def execImgArm (s : State) : Host.Outcome State Fault Refusal := .next (s.mgWrite false fun s => s.imgOp 3)
/-- IMG_CANCEL (04 R140, R146). -/
def execImgCancel (s : State) : Host.Outcome State Fault Refusal := .next (s.mgWrite false fun s => s.imgOp 4)
/-- IMG_APPLY (04 R140, 14 R437): the write of APPLY to IMG_CTRL. -/
def execImgApply (s : State) : Host.Outcome State Fault Refusal := .next (s.mgWrite false fun s => s.imgOp 5)
/-- DRAIN_START (04 R140, R145). -/
def execDrainStart (s : State) : Host.Outcome State Fault Refusal := .next s.drainStart
/-- TAG_WALK_PIECE (04 R144, R145). -/
def execTagWalkPiece (h : BitVec 8) (s : State) : Host.Outcome State Fault Refusal := .next (s.tagWalk h.toNat)
/-- FILTER_WALK_PIECE (04 R144, R145). -/
def execFilterWalkPiece (h : BitVec 8) (s : State) : Host.Outcome State Fault Refusal := .next (s.filterWalk h.toNat)
/-- IMG_COMMIT (04 R146). -/
def execImgCommit (s : State) : Host.Outcome State Fault Refusal := .next s.imgCommit

end Sys2Proof.Machine
end

