-- ==== Sys2Proof/Machine/Herd.lean ====
section
/-! DEFINITION. The tines' discovery, failure and return (10 R327 to R329), the loss of a herd chip (10 R326), and tick
alignment (10 R330 to R334). -/

namespace Sys2Proof.Machine

/-! ### Kinds of tines (10 R304) -/

/-- A herd tine's record. -/
def TineRec.herd (r : TineRec) : Bool := r.use != 3 && r.use != 2 && r.peerKind == 1
/-- A pair tine's record. -/
def TineRec.pair (r : TineRec) : Bool := r.use == 2
/-- Whether a tine speaks DISCOVERY and TIME. -/
def TineRec.speaks (r : TineRec) : Bool := r.herd || r.pair

/-- Whether a pair stands outside one herd: tick alignment then runs over its pair tines (10 R334). -/
def State.pairClock (s : State) : Bool := s.blockRec.pairRole != 0 && s.herdChips.isEmpty
/-- Whether a tine may carry the TIME exchange. -/
def State.timeTine (s : State) (t : Nat) : Bool :=
  let r := s.linkRec t
  if s.pairClock then r.pair else r.herd

/-! ### Timers -/

/-- Move the stamps of timers that a full stop of the clocks freezes: home timeouts, port deadlines, latency,
transfer deadlines, the offline deadline (06 R204, 15 R473). -/
def State.shiftWork (s : State) (f : Nat → Nat) : State :=
  let sn := fun (n : Snoop) => { n with since := f n.since }
  let tx := fun (t : Txn) => { t with start := f t.start, snoops := t.snoops.map sn }
  let pr := fun (x : ProxySnoop) => { x with since := f x.since, snoops := x.snoops.map sn }
  let rq := fun (r : MemReq) => { r with since := f r.since }
  let oq := fun (q : OpenReq) => { q with since := f q.since }
  let mp := fun (m : Nat × MemPort) => (m.1, { m.2 with tags := m.2.tags.map rq, waiting := m.2.waiting.map rq })
  { s with txns := s.txns.map tx, reqs := s.reqs.map oq, proxies := s.proxies.map pr, mem := s.mem.map mp,
           flushes := s.flushes.map fun x => { x with start := f x.start } }

/-- Move the stamps of the transport's timers and of R414 (15 R473). -/
def State.shiftLinks (s : State) (f : Nat → Nat) : State :=
  let sm := fun (m : SentMsg) => { m with first := f m.first }
  let sa := fun (a : Nat × SaSt) => (a.1, { a.2 with msgs := a.2.msgs.map sm })
  let un := fun (u : Nat × UnitSt) => (u.1, { u.2 with offlineAt := u.2.offlineAt.map f })
  { s with sas := s.sas.map sa, units := s.units.map un }

/-- Move the stamps of timers that run on, where the tick number itself moves (10 R334). -/
def State.shiftRest (s : State) (f : Nat → Nat) : State :=
  let ti := fun (t : Nat × TineSt) => (t.1, { t.2 with seenTick := f t.2.seenTick, lastSent := f t.2.lastSent })
  let sa := fun (a : Nat × SaSt) => (a.1, { a.2 with stateTick := f a.2.stateTick })
  let ke := fun (k : Nat × KeySt) =>
    (k.1, { k.2 with markTick := f k.2.markTick, zeroTick := f k.2.zeroTick, stagedTick := f k.2.stagedTick })
  let po := fun (p : Nat × PortSt) => (p.1, { p.2 with holdEnd := f p.2.holdEnd })
  let se := fun (x : Nat × SensorSt) => (x.1, { x.2 with updateTick := f x.2.updateTick })
  let su := fun (x : Nat × SupplySt) => (x.1, { x.2 with updateTick := f x.2.updateTick })
  let fi := fun (x : Nat × Nat × Nat) => (f x.1, x.2)
  { s with tines := s.tines.map ti, sas := s.sas.map sa, keys := s.keys.map ke, ports := s.ports.map po,
           tin := { s.tin with lastReq := f s.tin.lastReq, firstUp := s.tin.firstUp.map f },
           fills := s.fills.map fi,
           flt := { s.flt with alertTick := f s.flt.alertTick },
           fawn := { s.fawn with sensors := s.fawn.sensors.map se, supplies := s.fawn.supplies.map su,
                                 serviceTick := f s.fawn.serviceTick } }

/-! ### Discovery (10 R327, R328) -/

/-- The first 16 B of the digest of the identity public key (10 R327). -/
def State.idDigest (s : State) : BitVec 128 := (Config.sha384 (Config.publicKey s.idKey)).setWidth 128

/-- The DISCOVERY frame of a tine. -/
def State.discovery (s : State) (t : Nat) : Discovery :=
  let b := s.blockRec
  { herdId := b.herdId, chip := BitVec.ofNat 8 b.herdChip, tine := BitVec.ofNat 8 t,
    pairRole := BitVec.ofNat 8 b.pairRole, joined := s.tin.joined, version := BitVec.ofNat 32 blkVersion,
    digest := s.idDigest, mac := (s.tine t).localReg.setWidth 48 }

/-- Send a DISCOVERY frame. -/
def State.discover (s : State) (t : Nat) : State :=
  (s.setTine t { s.tine t with lastSent := s.blk.tick }).emitCtl t (.discovery t (s.discovery t))

/-- The tine state of a link that has come up, by its record (10 R304, R327). -/
def State.linkUp (s : State) (t : Nat) (fast : Bool) : State :=
  let x := s.tine t
  let r := s.tineRec t
  if !s.portUp (lpPort t) || x.state ≥ 4 then s
  else
    let st := if x.state = 3 then 3 else if r.use = 3 then 5 else if r.speaks then 1 else 2
    let s := s.setTine t { x with linkUp := true, fast := fast, state := st, seenTick := s.blk.tick, matching := false,
                                  goodTicks := 0 }
    if r.speaks then s.discover t else s

/-- A tine's link is good: up at once, or counted toward its return (10 R328, R329). -/
def State.tineGood (s : State) (t carries : Nat) (joined : Bool) : State :=
  let x := s.tine t
  let moved := carries != t && x.carries != carries
  let st := if x.state = 1 then 2 else x.state
  let s := s.setTine t { x with matching := true, carries := carries, state := st, seenJoined := joined && st == 2 }
  let s := if moved then s.raise (tinUnit t) 0x69 1 13 t 0 0 else s
  if x.state = 1 && s.timeTine t && s.tin.firstUp.isNone then
    { s with tin := { s.tin with firstUp := some s.blk.tick } }
  else s

/-- Isolate a tine for what it is cabled to (10 R328). -/
def State.tineIsolate (s : State) (t kind : Nat) : State :=
  ((s.setTine t { s.tine t with matching := false }).isolate (lpPort t) kind).respray t

/-- Another local herd or pair tine with equal use and owner whose record a peer matches, and whose own peer does not
match it (10 R328). -/
def State.otherRecord (s : State) (t chip tine : Nat) : Option Nat :=
  let r := s.tineRec t
  (List.range 64).find? fun u =>
    let q := s.tineRec u
    u != t && q.speaks && q.use == r.use && q.owner == r.owner && q.peerTine == tine
      && (q.pair || q.peerChip == chip) && !((s.tine u).matching && (s.tine u).carries == u)

/-- Judge a DISCOVERY frame (10 R328). -/
def State.discovered (s : State) (t : Nat) (d : Discovery) : State :=
  let x := s.tine t
  let r := s.tineRec t
  if !r.speaks || !s.portUp (lpPort t) || !x.linkUp || x.state = 0 || x.state ≥ 4 then s
  else
    let b := s.blockRec
    let c := d.chip.toNat
    let tine := d.tine.toNat
    let s := s.setTine t { x with seenChip := c % 8, seenTine := tine % 64, seenJoined := false, seenTick := s.blk.tick }
    let stranger := if r.pair then d.digest != b.partnerId
      else d.herdId != b.herdId || c ≥ 8 || !s.inHerd c || c == s.chip
    if stranger then s.tineIsolate t 0x6B
    else if tine = r.peerTine && (r.pair || c = r.peerChip) then s.tineGood t t d.joined
    else match s.otherRecord t c tine with
      | some u => s.tineGood t u d.joined
      | none => s.tineIsolate t 0x6A

/-- No DISCOVERY frame for 192 ticks while the link is up: the tine fails (10 R328). -/
def State.discoveryLate (s : State) (t : Nat) : State :=
  let x := s.tine t
  if x.linkUp && (x.state == 1 || x.state == 2) && (s.tineRec t).speaks && x.seenTick + 192 ≤ s.blk.tick then
    ((s.setTine t { x with matching := false }).raise (tinUnit t) 0x6C 1 13 t 0 0).tineFails t 0x6C
  else s

/-- lp_link_up falls: the tine fails (10 R329). -/
def State.linkFell (s : State) (t : Nat) : State :=
  let x := s.tine t
  if !x.linkUp then s
  else
    let s := s.setTine t { x with linkUp := false, matching := false, goodTicks := 0 }
    if x.state = 1 || x.state = 2 then s.tineDown t else s

/-- A failed tine that has been good for 16 ticks returns to up and reopens its paths (10 R329). -/
def State.tineBack (s : State) (t : Nat) : State :=
  let x := s.tine t
  if x.state = 3 && x.goodTicks ≥ 16 && !(s.unit (tinUnit t)).failed && (s.unit (tinUnit t)).offlineAt.isNone then
    let s := s.setTine t { x with state := 2, goodTicks := 0 }
    let s := { s with paths := s.paths.filter fun p => p.1 % 64 != t || !(s.sa (p.1 / 256)).tx }
    s.sas.foldl (fun (s : State) a => s.pump a.1) s
  else s

/-- A tine after a tick: how long it has been good, what it paused in the tick before. -/
def State.tineTick (s : State) (t : Nat) : State :=
  let x := s.tine t
  let good := x.linkUp && (x.matching || !(s.tineRec t).speaks)
  (s.setTine t { x with goodTicks := if x.state = 3 && good then x.goodTicks + 1 else 0, xoffBefore := x.xoff }).tineBack t

/-! ### The loss of a herd chip (10 R326) -/

/-- Whether an up herd tine reaches a member. -/
def State.memberUp (s : State) (c : Nat) : Bool :=
  (List.range 64).any fun t => (s.tine t).state == 2 && (s.linkRec t).herd && (s.linkRec t).peerChip == c

/-- The snoops that wait for a lost chip end: what it owned in E or D is poisoned. -/
def State.dropChipSnoops (s : State) (c : Nat) : State :=
  let mine := fun (n : Snoop) => n.chip && n.port == c
  (s.txns.filter fun t => t.snoops.any mine).foldl (fun (s : State) t =>
    match s.txn? t.id with
    | none => s
    | some t => match t.snoops.find? mine with
      | none => s
      | some n =>
        let e := s.filt t.home t.line
        if e.remoteOwner = some c && e.st ≥ 3 then s.poisonTxn t n (some 0x41)
        else ((s.setFilt t.home t.line (e.dropAgent (true, c) false)).setTxn (t.closeSnoop n)).settle) s

/-- The local lines a lost chip held: poisoned where it owned them in E or D, else it leaves the filter. -/
def State.dropChipLines (s : State) (c : Nat) : State :=
  (List.range 136).foldl (fun (s : State) h =>
    ((s.home h).filter.filter fun e => lineChip e.1 == s.chip).foldl (fun (s : State) e =>
      let held := e.2.remoteOwner == some c && decide (e.2.st ≥ 3)
      let s := s.setFilt h e.1 (e.2.dropChip c)
      if held then s.poisonLine h e.1 0x41 else s) s) s

/-- A member of the herd is lost. -/
def State.chipLost (s : State) (c : Nat) : State :=
  let t := ((List.range 64).find? fun t => (s.tineRec t).herd && (s.tineRec t).peerChip == c).getD 0
  let s := s.raise (tinUnit t) 0x71 2 11 c 0 0
  let s := { s with tin := { s.tin with lost := s.tin.lost ||| BitVec.ofNat 8 (1 <<< c) } }
  let s := (s.dropChipSnoops c).dropChipLines c
  let s := (s.chipLines c none).foldl (fun (s : State) l => s.walkLine l.1 l.2 .discard) s
  let s := s.settle
  let s := (s.remotes.filter fun r => r.chip == c && r.done.isNone).foldl
    (fun (s : State) r => s.remoteEnd r .timeout 0 0) s
  let clear := fun (a : Nat × SaSt) =>
    if a.2.tx && a.2.kind == 1 && a.2.chip == c then (a.1, { a.2 with msgs := [] }) else a
  let s := { s with sas := s.sas.map clear }
  (s.flushes.filter fun f => f.chips.contains c).foldl (fun (s : State) f => s.flushChip f c) s

/-- A member whose herd tines have all been away for 4 ticks is lost (10 R326). -/
def State.chipCheck (s : State) (c : Nat) : State :=
  if s.inHerd c && c != s.chip && tget 0 s.tin.absent c ≥ 4 && !(Nat.testBit s.tin.lost.toNat c) then s.chipLost c else s

/-- Count the absence of every member at a boundary. -/
def State.membersTick (s : State) : State :=
  if !s.inService then s
  else s.herdChips.foldl (fun (s : State) c =>
    if s.memberUp c then
      { s with tin := { s.tin with absent := mdel s.tin.absent c,
                                   lost := s.tin.lost &&& ~~~(BitVec.ofNat 8 (1 <<< c)) } }
    else
      let n := min (tget 0 s.tin.absent c + 1) 4
      let s : State := { s with tin := { s.tin with absent := mput s.tin.absent c n } }
      s.chipCheck c) s

/-! ### Tick alignment (10 R330 to R334) -/

/-- The tines on which, being up, a DISCOVERY frame of a joined member has arrived within 16 ticks. -/
def State.joinedTines (s : State) : List Nat :=
  (List.range 64).filter fun t =>
    let x := s.tine t
    s.timeTine t && x.seenJoined && decide (s.blk.tick ≤ x.seenTick + 16)

/-- The reference: its chip, and whether it is this chip (10 R333, R334). -/
def State.refOf (s : State) : Option (Nat × Bool) :=
  let others := (s.joinedTines.map fun t => (s.tine t).seenChip)
  let lowest := others.foldl (fun (b : Option Nat) c => match b with | none => some c | some d => some (min c d)) none
  let me := s.tin.joined && (match lowest with
    | none => true
    | some c => if s.pairClock then s.blockRec.pairRole == 1 else decide (s.chip < c))
  if me then some (s.chip, true) else lowest.map fun c => (c, false)

/-- The up tine with the lowest index that reaches the reference. -/
def State.timeTo (s : State) (c : Nat) : Option Nat :=
  (List.range 64).find? fun t => (s.tine t).state == 2 && s.timeTine t && (s.tine t).seenChip == c

/-- Follow the reference at a boundary (10 R333): this chip's own offset is 0; without an up tine to the reference kind
0x6F is raised once and there is no valid offset. -/
def State.refTick (s : State) : State :=
  match s.refOf with
  | some (c, true) =>
    { s with tin := { s.tin with reference := c, noRefRaised := false },
             blk := { s.blk with offsetNs := 0, offsetTick := some s.blk.tick } }
  | some (c, false) =>
    let s := { s with tin := { s.tin with reference := c } }
    if (s.timeTo c).isSome then { s with tin := { s.tin with noRefRaised := false } }
    else
      let s := { s with blk := { s.blk with offsetTick := none } }
      if s.tin.noRefRaised then s
      else
        let s := { s with tin := { s.tin with noRefRaised := true } }
        s.raise (tinUnit 0) 0x6F 1 11 c 0 0
  | none => s

/-- Send TIME_REQ every 4 ticks toward the reference (10 R331). -/
def State.timeAsk (s : State) : State :=
  match s.refOf with
  | some (c, false) => match s.timeTo c with
    | some t =>
      if s.tin.lastReq + 4 ≤ s.blk.tick then
        let n := s.tin.nextExch
        let e : Exchange := { num := n, tine := t, tick := s.blk.tick }
        let s := { s with tin := { s.tin with nextExch := (n + 1) % 65536, lastReq := s.blk.tick,
                                              exchanges := s.tin.exchanges ++ [e] } }
        s.emitCtl t (.timeTx t 1 n 0 0 (some (n % 256)))
      else s
    | none => s
  | _ => s

/-- An ingress stamp in this chip's tick phase (10 R330). -/
def State.phaseOf (s : State) (t : Nat) (stamp : Nat) : Option Int := (s.tine t).macRel.map fun k => (stamp : Int) - k

/-- The reference takes a TIME_REQ and answers with TIME_RESP (10 R331, R332). -/
def State.timeAsked (s : State) (t num stamp : Nat) : State :=
  let me := match s.refOf with | some (_, b) => b | none => false
  if !me then s
  else { s with tin := { s.tin with answers := s.tin.answers ++ [(num, t, stamp)] } }.emitCtl t (.timeTx t 2 num 0 0 (some (num % 256)))

/-- Change an exchange of a number and tine. -/
def State.onExchange (s : State) (t num : Nat) (f : Exchange → Exchange) : State :=
  let go := fun (e : Exchange) => if e.num = num && e.tine = t then f e else e
  { s with tin := { s.tin with exchanges := s.tin.exchanges.map go } }

/-- The mean of the last offsets, in ns. -/
def meanOffset (l : List Int) : Int := l.foldl (· + ·) 0 / max 1 (l.length : Int)

/-- Close an exchange that has its four stamps: its offset enters the mean (10 R331). -/
def State.exchangeDone (s : State) (t num : Nat) : State :=
  match s.tin.exchanges.find? fun e => e.num == num && e.tine == t with
  | some e => match e.t1, e.t2, e.t3, e.t4 with
    | some t1, some t2, some t3, some t4 =>
      let o : Int := (((t2 : Int) - t1) + ((t3 : Int) - t4)) / 2
      let l := (s.tin.offsets ++ [o]).drop (s.tin.offsets.length + 1 - 4)
      { s with tin := { s.tin with exchanges := s.tin.exchanges.filter (· != e), offsets := l },
               blk := { s.blk with offsetNs := BitVec.ofInt 16 (meanOffset l), offsetTick := some s.blk.tick } }
    | _, _, _, _ => s
  | none => s

/-- An egress stamp comes back (10 R330): it relates the tine's MAC time to tick phase, and it is t1 of a TIME_REQ, or t3
of a TIME_RESP, which lets the reference send the follow-up. -/
def State.egress (s : State) (t id stamp phase : Nat) : State :=
  let sop := s.blk.tick * 1000 + phase
  let out := sop + field (s.tine t).latency 0 16
  let s := s.setTine t { s.tine t with macRel := some ((stamp : Int) - out) }
  match s.tin.answers.find? fun a => a.2.1 == t && a.1 % 256 == id with
  | some a =>
    let t2 := ((s.phaseOf t a.2.2).getD 0).toNat
    { s with tin := { s.tin with answers := s.tin.answers.filter (· != a) } }.emitCtl t (.timeTx t 3 a.1 t2 out none)
  | none => match s.tin.exchanges.find? fun e => e.tine == t && e.num % 256 == id && e.t1.isNone with
    | some e => (s.onExchange t e.num fun x => { x with t1 := some out }).exchangeDone t e.num
    | none => s

/-- The requester takes TIME_RESP: t4 (10 R331). -/
def State.timeAnswered (s : State) (t num stamp : Nat) : State :=
  match s.phaseOf t stamp with
  | some p => (s.onExchange t num fun x => { x with t4 := some p.toNat }).exchangeDone t num
  | none => s

/-- An exchange that is not complete 2 ticks after t1 is discarded (10 R332). -/
def State.exchangeLate (s : State) (num : Nat) : State :=
  { s with tin := { s.tin with exchanges := s.tin.exchanges.filter fun e => !(e.num == num && decide (e.tick + 2 ≤ s.blk.tick)) } }

/-- Step to the reference once (10 R334). -/
def State.chipJoin (s : State) (refTick : Nat) : State :=
  let follows := match s.refOf with | some (_, b) => !b | none => false
  if s.tin.joined || !follows || s.blk.offsetTick.isNone || s.tenantEnabled then s
  else
    let f := fun n => n + refTick - s.blk.tick
    let s := ((s.shiftWork f).shiftLinks f).shiftRest f
    { s with blk := { s.blk with tick := refTick, fclkSince := f s.blk.fclkSince, offsetNs := 0, offsetTick := some refTick },
             tin := { s.tin with joined := true, exchanges := [], offsets := [], answers := [] } }

/-- Whether this chip is the lowest-numbered member, or the primary of a pair outside one herd. -/
def State.lowestMember (s : State) : Bool :=
  if s.pairClock then s.blockRec.pairRole == 1
  else !s.herdChips.isEmpty && s.herdChips.all fun c => decide (s.chip < c)

/-- Join alone: no joined member within 256 ticks of the first tine coming up (10 R334). -/
def State.joinAlone (s : State) : State :=
  match s.tin.firstUp with
  | some u =>
    if !s.tin.joined && s.lowestMember && s.refOf.isNone && u + 256 ≤ s.blk.tick then
      { s with tin := { s.tin with joined := true } }
    else s
  | none => s

/-! ### The commands -/

/-- HERD_CHIP_LOST (10 R326). -/
def execHerdChipLost (chip : BitVec 3) (s : State) : Host.Outcome State Fault Refusal := .next (s.chipCheck chip.toNat)

/-- LINK_UP_RISE (10 R327). -/
def execLinkUpRise (t : BitVec 6) (fast : Bool) (s : State) : Host.Outcome State Fault Refusal :=
  .next (s.linkUp t.toNat fast)

/-- DISCOVERY_SEND (10 R327). -/
def execDiscoverySend (t : BitVec 6) (s : State) : Host.Outcome State Fault Refusal :=
  let x := s.tine t.toNat
  .next (if x.linkUp && x.state != 4 && (s.tineRec t.toNat).speaks && x.lastSent + 64 ≤ s.blk.tick then s.discover t.toNat else s)

/-- DISCOVERY_RECEIVE (10 R328). -/
def execDiscoveryReceive (t : BitVec 6) (d : Discovery) (s : State) : Host.Outcome State Fault Refusal :=
  .next (s.discovered t.toNat d)

/-- DISCOVERY_TIMEOUT (10 R328). -/
def execDiscoveryTimeout (t : BitVec 6) (s : State) : Host.Outcome State Fault Refusal := .next (s.discoveryLate t.toNat)

/-- LINK_DOWN (10 R329). -/
def execLinkDown (t : BitVec 6) (s : State) : Host.Outcome State Fault Refusal := .next (s.linkFell t.toNat)

/-- TINE_RETURN (10 R329). -/
def execTineReturn (t : BitVec 6) (s : State) : Host.Outcome State Fault Refusal := .next (s.tineBack t.toNat)

/-- TIME_REQ_SEND (10 R331). -/
def execTimeReqSend (s : State) : Host.Outcome State Fault Refusal := .next s.timeAsk

/-- Whether a tine takes a TIME frame (10 R316, R332): one with a non-zero reserved field is discarded. -/
def State.takesTime (s : State) (t : Nat) (rsvd : Bool) : Bool :=
  !rsvd && s.timeTine t && s.portUp (lpPort t) && (s.tine t).state == 2

/-- TIME_REQ (10 R332). -/
def execTimeReq (t : BitVec 6) (exch : BitVec 16) (_chip : BitVec 3) (stamp : Reg) (rsvd : Bool) (s : State) :
    Host.Outcome State Fault Refusal :=
  .next (if s.takesTime t.toNat rsvd then s.timeAsked t.toNat exch.toNat stamp.toNat else s)

/-- TIME_RESP (10 R331). -/
def execTimeResp (t : BitVec 6) (exch : BitVec 16) (stamp : Reg) (rsvd : Bool) (s : State) :
    Host.Outcome State Fault Refusal :=
  .next (if s.takesTime t.toNat rsvd then s.timeAnswered t.toNat exch.toNat stamp.toNat else s)

/-- TIME_FOLLOW_UP (10 R331). -/
def execTimeFollowUp (t : BitVec 6) (exch : BitVec 16) (t2 t3 : Reg) (rsvd : Bool) (s : State) :
    Host.Outcome State Fault Refusal :=
  .next (if s.takesTime t.toNat rsvd then
    (s.onExchange t.toNat exch.toNat fun x => { x with t2 := some t2.toNat, t3 := some t3.toNat }).exchangeDone t.toNat exch.toNat
  else s)

/-- TIME_EXCHANGE_TIMEOUT (10 R332). -/
def execTimeExchangeTimeout (exch : BitVec 16) (s : State) : Host.Outcome State Fault Refusal :=
  .next (s.exchangeLate exch.toNat)

/-- CHIP_JOIN (10 R334). -/
def execChipJoin (refTick : Reg) (s : State) : Host.Outcome State Fault Refusal := .next (s.chipJoin refTick.toNat)

/-- JOIN_ALONE (10 R334). -/
def execJoinAlone (s : State) : Host.Outcome State Fault Refusal := .next s.joinAlone

/-- EGRESS_TIMESTAMP (10 R330). -/
def execEgressTimestamp (t : BitVec 6) (id : BitVec 8) (stamp : Reg) (phase : BitVec 10) (s : State) :
    Host.Outcome State Fault Refusal := .next (s.egress t.toNat id.toNat stamp.toNat phase.toNat)

end Sys2Proof.Machine
end

