-- ==== Sys2Proof/Machine/Faults.lean ====
section
/-! DEFINITION. The fault collector (13 R391 to R405, R417 to R419, R487): the arrival of messages, records, limits,
escalation, the alert, entry into the block-fatal state. -/

namespace Sys2Proof.Machine

/-! ### Configuration of kinds (13 R397, R422) -/

/-- The kinds that can only be CE (13 R397). -/
def ceOnly : List Nat :=
  [0x00, 0x03, 0x04, 0x05, 0x42, 0x44, 0x46, 0x47, 0x49, 0x4F, 0x53, 0x54, 0x69, 0x6C, 0x6E, 0x6F, 0x70, 0x72, 0x75,
   0x76, 0x80, 0x82, 0x90, 0xA0, 0xA3, 0xA4, 0xA5, 0xA7, 0xA8, 0xA9, 0xAC, 0xC0, 0xC1, 0xC2, 0xC3, 0xCA, 0xE1, 0xE3,
   0xE4, 0xE9]
/-- The kinds that can be CU or FT (13 R397). -/
def cuKinds : List Nat :=
  [0x01, 0x02, 0x06, 0x07, 0x08, 0x20, 0x21, 0x22, 0x23, 0x40, 0x41, 0x43, 0x45, 0x48, 0x4A, 0x4B, 0x4C, 0x4D, 0x4E,
   0x50, 0x51, 0x52, 0x55, 0x58, 0x59, 0x5A, 0x60, 0x61, 0x62, 0x63, 0x64, 0x65, 0x66, 0x67, 0x68, 0x6A, 0x6B, 0x6D,
   0x71, 0x74, 0x77, 0x81, 0x88, 0x89, 0x91, 0xA1, 0xA2, 0xA6, 0xAA, 0xAB, 0xC4, 0xC8, 0xC9, 0xE0, 0xE2, 0xE5, 0xE6,
   0xE7, 0xE8, 0xEA]
/-- FLT_KIND_CFG at reset: irq is 1 for the kinds that can be CU or FT (13 R422). -/
def kindInit (k : Nat) : KindCfg := { irq := cuKinds.contains k }
/-- FLT_KIND_CFG of a kind. -/
def State.kindCfg (s : State) (k : Nat) : KindCfg := tget (kindInit k) s.flt.kindCfg k

/-! ### Fault domains (13 R402, R403) -/

/-- The name a home unit serves or is to serve. -/
def State.homeNameOf (s : State) (h : Nat) : Nat :=
  match s.flt.recs.find? fun r => r.2.state == 1 && r.2.spare == some h with
  | some r => r.2.name
  | none => s.nameOfHome h

/-- The links whose tines belong to the domain of a tine: every tine in the mask of an SA whose mask holds it. -/
def State.tineDomain (s : State) (t : Nat) : Nat :=
  s.sas.foldl (fun a x => if x.2.state != 0 && Nat.testBit x.2.tines.toNat (s.tine t).carries then a ||| x.2.tines.toNat else a) 0

/-- Whether the domains of two units meet. -/
def State.domainsMeet (s : State) (u v : Nat) : Bool :=
  let i := u % 256
  let j := v % 256
  let side := fun (u : Nat) => if u / 256 = 2 then some (u % 256 / 2) else if u / 256 = 6 && u % 256 ≥ 1 then some ((u % 256 - 1) / 2) else none
  match u / 256, v / 256 with
  | 1, 1 => s.homeNameOf i / 2 == s.homeNameOf j / 2
  | 3, 3 => s.tineDomain i &&& s.tineDomain j != 0
  | 5, 5 => true
  | 4, 4 => (match s.bound i, s.bound j with | some a, some b => a.ctx == b.ctx | _, _ => false)
  | _, _ => (side u).isSome && side u == side v

/-- Whether a message starts a recovery (13 R396, R397). -/
def State.recovers (s : State) (m : Msg) : Bool :=
  let u := msgUnit m
  match msgKind m with
  | 0x4F | 0x07 | 0x54 | 0xAC | 0x6A | 0x6B => true
  | 0xC8 => u / 256 == 3
  | 0x6C => (s.tine (u % 256)).state == 3
  | _ => false

/-- Whether a message meets a handled one of equal or lower class in its domain (13 R403). -/
def State.escalates (s : State) (m : Msg) : Bool :=
  s.flt.handling.any fun h => decide (msgClass h.1 ≤ msgClass m) &&
    (msgClass m == 3 || msgClass h.1 == 3 || s.domainsMeet (msgUnit h.1) (msgUnit m))

/-! ### The alert (13 R405, 02 R77) -/

/-- Drive the alert for a message. -/
def State.alert (s : State) (m : Msg) : State :=
  let c := msgClass m
  let k := msgKind m
  let must := c == 3 || k == 0xE5 || k == 0xE6
  let chosen := must || (Nat.testBit s.blockRec.alertClasses (c - 1) && !(s.kindCfg k).noAlert)
  if !chosen then s
  else if !s.flt.low then
    { s with flt := { s.flt with low := true, hold := true, cls := c, alertTick := s.blk.tick } }.emit (.faultPin false c)
  else if c > s.flt.cls then { s with flt := { s.flt with cls := c } }.emit (.faultPin false c)
  else s

/-- fault_alert_n rises at the first boundary at which it has been low for 2 whole ticks and hold is 0 (02 R77, 13 R405). -/
def State.alertRelease (s : State) : State :=
  if s.flt.low && !s.flt.hold && s.flt.alertTick + 3 ≤ s.blk.tick then
    { s with flt := { s.flt with low := false, cls := 0 } }.emit (.faultPin true 0)
  else s

/-! ### Fawn's event queue (14 R444) -/

/-- Queue a PLDM event: of a fault message (type 0) or of a state sensor. At 32 the oldest is dropped. -/
def State.event (s : State) (type arg : Nat) : State :=
  let q := s.fawn.events
  let full := q.length ≥ 32
  let s := { s with fawn := { s.fawn with events := (if full then q.drop 1 else q) ++ [(type, arg)],
                                          eventsLost := s.fawn.eventsLost || full } }
  if q.isEmpty then s.emit (.sideband 0 [0]) else s

/-! ### Arrival (13 R394, R398 to R401, R487) -/

/-- Keep a message in the history of 32. -/
def Flt.keep (f : Flt) (m : Msg) : Flt :=
  { f with hist := (f.hist ++ [m]).drop (f.hist.length + 1 - 32), histTotal := min (f.histTotal + 1) (2 ^ 32 - 1) }

/-- Count an event of a kind and unit toward its ce_limit (13 R401); `true` where the limit is reached. -/
def State.limit (s : State) (m : Msg) : State × Bool :=
  let k := msgUnit m * 256 + msgKind m
  let lim := (s.kindCfg (msgKind m)).ceLimit
  if lim = 0 then (s, false)
  else
    let ts := ((tget [] s.flt.ceTicks k).filter fun t => decide (s.blk.tick < t + 1024)) ++ [s.blk.tick]
    let hit := decide (ts.length ≥ lim)
    ({ s with flt := { s.flt with ceTicks := tset [] s.flt.ceTicks k (if hit then [] else ts) } }, hit)

/-- What reaching a limit does: kind 0x82, a repair candidate for an array error, the unit offline where asked. -/
def State.limitHit (s : State) (m : Msg) : State :=
  let u := msgUnit m
  let s := s.raise fltUnit 0x82 1 3 u 0 0
  let array := msgKind m == 0x46 || msgKind m == 0x47 || msgKind m == 0x48
  let s := if array then s.addRepair u 0 0 0 0 else s
  let may := u / 256 == 1 || u / 256 == 3 || u / 256 == 5
  if (s.kindCfg (msgKind m)).act && may then { s with flt := { s.flt with toOffline := s.flt.toOffline ++ [u] } } else s

/-- Fire the fault trigger of a global stop (15 R471). -/
def State.stopOnFault (s : State) (cls : Nat) : State :=
  if s.obs.stopState == 1 && s.obs.faultEn && s.obs.stopClass ≤ cls then { s with obs := { s.obs with fired := true } } else s

/-- A message arrives at the collector. -/
def State.arrive (s : State) (m : Msg) : State :=
  let s := { s with flt := s.flt.countClass (msgClass m) }
  let (s, hit) := s.limit m
  let s := if hit then s.limitHit m else s
  let same := fun (x : Msg) => msgUnit x == msgUnit m && msgKind x == msgKind m && msgSubject x == msgSubject m
    && field x 93 32 == field m 93 32
  if s.flt.hist.any same then
    let go := fun (x : Msg) => if same x then msgRepeat x else x
    { s with flt := { s.flt with hist := s.flt.hist.map go } }
  else
    let m' := if s.escalates m then msgEscalate m else m
    let low := max 1 s.flt.minClass
    let full := s.blk.tick - (s.tick32 + 2 ^ 32 - field m 93 32) % 2 ^ 32
    let first := match s.flt.first with
      | some f => some f
      | none => if low ≤ msgClass m then some (m', full) else none
    let ends := if s.recovers m then [(m', 0)] else if msgClass m = 2 then [(m', s.blk.tick + 9)] else []
    let s := { s with flt := { s.flt.keep m' with first := first, handling := s.flt.handling ++ ends,
                                                  undeclared := s.flt.undeclared ++ [m'] } }
    let s := if (s.kindCfg (msgKind m)).irq then s.mgIrq 0x01 else s
    let s := (s.alert m').stopOnFault (msgClass m)
    if msgClass m ≥ 2 then s.event 0 m'.toNat else s

/-- The oldest message of an aggregator reaches the collector (13 R391). -/
def State.deliver (s : State) (d : Nat) : State :=
  match tget [] s.flt.aggs d with
  | [] => s
  | m :: q => { s with flt := { s.flt with aggs := tset [] s.flt.aggs d q } }.arrive m

/-- Deliver everything that waits at the aggregators. -/
def State.deliverAll (s : State) : State :=
  (List.range 8).foldl (fun (s : State) d =>
    (List.range (tget [] s.flt.aggs d).length).foldl (fun (s : State) _ => s.deliver d) s) s

/-- Handlings that have lasted their time end (13 R402). -/
def State.handlingEnds (s : State) : State :=
  { s with flt := { s.flt with handling := s.flt.handling.filter fun h => h.2 == 0 || decide (s.blk.tick < h.2) } }

/-! ### The block-fatal state (13 R419) -/

/-- Every outstanding request of the tile and host ports completes with TIMEOUT. -/
def State.failAll (s : State) : State :=
  let s : State := { s with held := [], txns := s.txns.filter fun t => t.op == .atomicMem && t.phase == .atMemory, linkFences := [] }
  let s := s.tiles.foldl (fun (s : State) t =>
    t.2.tags.foldl (fun (s : State) g => s.tileRsp t.1 g .timeout 0 0)
      (s.setTile t.1 { s.tile t.1 with beat := none })) s
  let s := s.hostTags.foldl (fun (s : State) t => s.hostRsp t.1 .timeout 0) s
  s.bindings.foldl (fun (s : State) b => match b.2.ending with
    | some (q, _) => { s with bindings := mput s.bindings b.1 { b.2 with ending := none } }.kbAck q .timeout
    | none => s) s

/-- Enter the block-fatal state: a global stop ends, the dump begins, or under kind 0xE6 supply removal is requested. -/
def State.fatalEnter (s : State) (kind : Nat) : State :=
  if s.fatal then s
  else
    let s := if s.stopped then { s with obs := { s.obs with stopState := 0, fired := false } } else s
    let s := s.failAll
    let s := { s with flt := { s.flt with fatal := some s.blk.tick, fatalKind := kind, dump := if kind = 0xE6 then 0 else 1 } }
    let s := if kind = 0xE6 && !s.blk.tripped then s.power 4 0 else s
    s.mgIrq 0x03

/-! ### Injection (13 R418) -/

/-- The class a raised kind has. -/
def kindClass (k : Nat) : Nat :=
  if [0x77, 0xAA, 0xE0, 0xE2, 0xE6, 0xEA].contains k then 3 else if cuKinds.contains k then 2 else 1

/-- Whether injection acts. -/
def State.injectOn (s : State) : Bool := s.test.factory

/-- An entry of another array than a home slice's can no longer be read: a snapshot (06 R213), a job's cursor or a sequence's tables
(09 R303), a fence record (11 R354), a context or an object (11 R359). -/
def State.entryLost (s : State) (cls u array element : Nat) : State :=
  if cls = 7 && u < 8 && array = 0 && element < 128 then
    { s with qos := { s.qos with snapLost := s.qos.snapLost ++ [u * 128 + element] } }
  else if cls = 5 && u < 32 && array = 0 then
    match (s.startedOn u)[element]? with
    | some j => s.setJob { j with unread := true }
    | none => s
  else if cls = 5 && u < 32 && array < 128 && element < 2 ^ 18 then
    let w := s.seqw array
    s.setSeqw array { w with badMeta := w.badMeta ++ [element] }
  else if cls = 10 && u = 0 && array = 0 then { s with badFences := s.badFences ++ [element] }
  else if cls = 10 && u = 0 && array = 1 && element < 65536 then
    { s with ctxWin := { s.ctxWin with badCtxs := s.ctxWin.badCtxs ++ [element] } }
  else if cls = 10 && u = 0 && array = 2 then { s with ctxWin := { s.ctxWin with badObjs := s.ctxWin.badObjs ++ [element] } }
  else s

/-- Flip bits of a word of an array (13 R418). The spec numbers no array: here those of a home slice are 0 data and 1 tags, element
set * 16 + way, and 2 the snoop filter, element the set; of a die regulator 0 its snapshots, element the slice; of a job engine 0 the
cursors, element the place among its started jobs, and a slice's number its sequence tables, element the sequence; of the host port 0
fence records, 1 contexts, 2 objects. DESIGN CHOICE (log entry 186). One flipped bit is corrected by the array's own code; two are an
uncorrectable error of the entry. -/
def State.injectFlip (s : State) (u loc : Nat) (two : Bool) : State :=
  let array := loc % 256
  let element := loc / 256 % 2 ^ 20
  let h := u % 256
  if u / 256 = 1 && h < 136 && array = 0 && two && element < 32768 then s.arrayError h element false false
  else if u / 256 = 1 && h < 136 && array = 1 && two && element < 32768 then s.arrayError h element true false
  else if u / 256 = 1 && h < 136 && array = 2 && two && element < 8192 then s.filterLost h element
  else if two then s.entryLost (u / 256) h array element
  else s

/-! ### The commands -/

/-- FAULT_MESSAGE (13 R391, R487): until the collector runs, messages wait (14 R439). -/
def execFaultMessage (die : BitVec 3) (s : State) : Host.Outcome State Fault Refusal :=
  .next (if s.fawn.phase < 4 then s else s.deliver die.toNat)

/-- ALERT_RELEASE (13 R405). -/
def execAlertRelease (s : State) : Host.Outcome State Fault Refusal := .next s.alertRelease

/-- ALERT_HOLD_CLEAR (13 R405): ignored while fault_class is 3. -/
def execAlertHoldClear (s : State) : Host.Outcome State Fault Refusal :=
  .next (s.mgWrite true fun s =>
    if s.flt.cls = 3 then s else { s with flt := { s.flt with hold := false } })

/-- FIRST_ERROR_CLEAR (13 R399). -/
def execFirstErrorClear (s : State) : Host.Outcome State Fault Refusal :=
  .next (s.mgWrite true fun s => { s with flt := { s.flt with first := none } })

/-- FLT_COUNT (13 R422). -/
def Flt.countReg (f : Flt) : Reg := rput f.ce 0 32 ||| rput f.cu 32 24 ||| rput f.ft 56 8

/-- A read on the management port of a register whose reads have an effect: SELF_TEST answers it RETRY (14 R438). -/
def State.mgRead (s : State) (v : State → Reg) (after : State → State) : State :=
  if !s.portUp mgPort || s.fawn.phase < 3 then s
  else if s.fawn.phase = 3 then s.mgRsp .retry 0
  else (after s).mgRsp .ok (v s)
/-- The read of FLT_COUNT clears the counts (13 R399). -/
def State.fltCountClear (s : State) : State := { s with flt := { s.flt with ce := 0, cu := 0, ft := 0 } }
/-- The read of MPT_ERR_COUNT clears a port's error counts (07 R246). -/
def State.mptErrClear (s : State) (p : Nat) : State :=
  s.setMp p { s.mp p with corrected := 0, uncorrectable := 0, tagFailed := 0 }

/-- FLT_COUNT_READ (13 R399): the counts are returned and cleared. -/
def execFltCountRead (s : State) : Host.Outcome State Fault Refusal :=
  .next (s.mgRead (fun s => s.flt.countReg) State.fltCountClear)

/-- MPT_ERR_COUNT (07 R247). -/
def MemPort.errReg (m : MemPort) : Reg := rput m.corrected 0 32 ||| rput m.uncorrectable 32 16 ||| rput m.tagFailed 48 16

/-- MPT_ERR_COUNT_READ (07 R246): a port's error counts are returned and cleared. -/
def execMptErrCountRead (p : BitVec 4) (s : State) : Host.Outcome State Fault Refusal :=
  .next (s.mgRead (fun s => (s.mp p.toNat).errReg) fun s => s.mptErrClear p.toNat)

/-- INJECT_RAISE_KIND (13 R418). -/
def execInjectRaiseKind (u : BitVec 12) (kind : BitVec 8) (s : State) : Host.Outcome State Fault Refusal :=
  .next (s.mgWrite true fun s =>
    if s.injectOn && (ceOnly.contains kind.toNat || cuKinds.contains kind.toNat) then
      s.raise u.toNat kind.toNat (kindClass kind.toNat) 3 u.toNat 0 0
    else s)

/-- INJECT_FLIP_ONE_BIT (13 R418). -/
def execInjectFlipOneBit (u : BitVec 12) (location : BitVec 36) (s : State) : Host.Outcome State Fault Refusal :=
  .next (s.mgWrite true fun s => if s.injectOn then s.injectFlip u.toNat location.toNat false else s)

/-- INJECT_FLIP_TWO_BITS (13 R418). -/
def execInjectFlipTwoBits (u : BitVec 12) (location : BitVec 36) (s : State) : Host.Outcome State Fault Refusal :=
  .next (s.mgWrite true fun s => if s.injectOn then s.injectFlip u.toNat location.toNat true else s)

end Sys2Proof.Machine
end

