-- ==== Sys2Proof/Machine/Recover.lean ====
section
/-! DEFINITION. Unit failures and recoveries (13 R395, R396, R403, R404, R406 to R415): declaration, the stand-in of a home
slice, handovers, planned offline. -/

namespace Sys2Proof.Machine

/-! ### Failures (13 R395, R396) -/

/-- Whether a unit ID names a unit of the block (01 R23). -/
def unitExists (u : Nat) : Bool :=
  let n := match u / 256 with
    | 1 => 136 | 2 => 16 | 3 => 64 | 4 => 256 | 5 => 32 | 6 => 17 | 7 => 9 | 8 => 9 | 9 => 1 | 10 => 2 | 11 => 1 | _ => 0
  decide (u % 256 < n)

/-- A unit has failed: its kind is raised. A memory port's loss and its kind are declared at the next commit step. -/
def State.unitFails (s : State) (u : Nat) : State :=
  let x := s.unit u
  if !unitExists u || x.failed then s
  else
    let s := s.setUnit u { x with failed := true }
    let say := fun (kind cls : Nat) => s.raise u kind cls 3 u 0 0
    match u / 256 with
    | 1 => say 0x4F 1
    | 2 => s
    | 3 => s.tineDown (u % 256)
    | 4 =>
      let fn := match s.portBinding (u % 256) with
        | some (c, _) => (match (s.slot c).ctx with | some x => (s.ctx x).fn | none => 0)
        | none => 0
      s.raise u 0xC8 2 3 u (s.tileSlice (u % 256)) fn
    | 5 => say 0x54 1
    | 6 => if u % 256 = 0 then (say 0xAA 3).vaultFatal else say 0xAC 1
    | 9 => say 0xEA 3
    | _ => say 0xC8 3

/-! ### Records (13 R404, R422) -/

/-- A record of FLT_RECOVERY. -/
def State.recAt (s : State) (r : Nat) : Recovery := tget {} s.flt.recs r
/-- Write a record. -/
def State.setRec (s : State) (r : Nat) (x : Recovery) : State := { s with flt := { s.flt with recs := tset {} s.flt.recs r x } }
/-- Every recovery that has not ended, those that hold a record first. -/
def State.openRecs (s : State) : List Recovery :=
  ((s.flt.recs.map (·.2)).filter fun r => r.state == 1 || r.state == 2) ++ s.flt.waiting
/-- Whether a recovery of a unit has not ended. -/
def State.inRecovery (s : State) (u : Nat) : Bool := s.openRecs.any fun r => r.unit == u

/-- A free or ended record. -/
def State.freeRec (s : State) : Option Nat := (List.range 8).find? fun r => (s.recAt r).state == 0 || (s.recAt r).state == 3

/-- Open a recovery: in a record with vector 0x02, or waiting for one. -/
def State.recOpen (s : State) (x : Recovery) : State :=
  let x := { x with startTick := s.tick32, state := if x.state = 2 then 2 else 1 }
  match s.freeRec with
  | some r => (s.setRec r x).mgIrq 0x02
  | none => { s with flt := { s.flt with waiting := s.flt.waiting ++ [{ x with state := 2 }] } }

/-- End a recovery: vector 0x02; the messages of its unit are no longer handled (13 R402). -/
def State.recEnd (s : State) (r : Nat) : State :=
  let x := s.recAt r
  let mine := fun (m : Msg) => msgUnit m == x.unit
  let s := (s.setRec r { x with state := 3, left := [], spare := none }).mgIrq 0x02
  let flt := { s.flt with handling := s.flt.handling.filter fun h => !(h.2 == 0 && mine h.1),
                          unitRunning := s.flt.unitRunning && s.flt.unitId != x.unit }
  { s with flt := flt }

/-- The budget of a recovery in ticks from D (13 R407); a planned offline has the 8 ticks of R414 before it. -/
def Recovery.budget (x : Recovery) : Nat :=
  (if x.kind = 6 then 8 else 0) +
  (match x.unit / 256 with | 1 => 14 | 2 => 9 | 3 => 1 | 6 => 3 | _ => 2)

/-- The budget has ended and the recovery has not: kind 0xC9, once. -/
def State.recLate (s : State) (r : Nat) : State :=
  let x := s.recAt r
  if (x.state = 1 || x.state = 2) && !x.overrun && x.age ≥ x.budget then
    (s.setRec r { x with overrun := true }).raise fltUnit 0xC9 2 3 x.unit 0 0
  else s

/-! ### The stand-in (13 R408, R409, 05 R178 to R181) -/

/-- Bridge hops between two base dies (01 R27). -/
def hops (a b : Nat) : Nat := (if a / 4 = b / 4 then 0 else 1) + (max (a % 4) (b % 4) - min (a % 4) (b % 4))
/-- The dies whose spares may stand in for a name of die d, in order (13 R409). -/
def standInDies (d : Nat) (cross : Bool) : List Nat :=
  d :: (if cross then (List.range 5).flatMap fun k => (List.range 8).filter fun e => e != d && hops d e == k else [])
/-- The stand-in for a name (13 R409). -/
def State.findSpare (s : State) (n : Nat) : Option Nat :=
  ((standInDies (n / 16) s.blockRec.crossDie).map spareOf).find? fun h =>
    (s.home h).role == 1 && !s.comingUp h && !(s.unit (hslUnit h)).failed

/-- The home slice a die's counter aggregator lives in: the lowest-numbered that is active or stands in (15 R457). -/
def State.aggregatorOf (s : State) (d : Nat) : Option Nat :=
  ((List.range 16).map (· + 16 * d) ++ [spareOf d]).find? fun h => (s.home h).role == 0 || (s.home h).role == 2
/-- A home slice that leaves takes with it the deltas its die's aggregator holds: they are tainted (15 R460). Which die a
delta came from is not kept, so every counter with a delta is. Selections are keyed from 16384. -/
def State.taintAt (s : State) (h : Nat) : State :=
  if s.aggregatorOf (dieOfHome h) != some h then s
  else
    let b := s.obs
    let ks := b.cntLive.map (·.1) ++ b.cntPrev.map (·.1) ++ (b.selLive.map (·.1) ++ b.selPrev.map (·.1)).map (· + 16384)
    { s with obs := { b with taintLive := (b.taintLive ++ ks).eraseDups } }

/-- A home slice leaves service (13 R414): role 4, a new epoch; its buddy has no mirror any more (05 R178). -/
def State.homeLeaves (s : State) (h : Nat) : State :=
  let s := s.taintAt h
  let x := s.home h
  let n := s.nameOfHome h
  let s := s.setHome h { x with role := 4, epoch := (x.epoch + 1) % 256 }
  let s := s.ring (hslUnit h) 0x81 ((x.epoch + 1) % 256)
  match s.physOf (n ^^^ 1) with
  | some b =>
    let s := s.setHome b { s.home b with mirrorOk := false }
    let s := s.raise (hslUnit b) 0x49 1 3 (hslUnit b) 0 0
    (((s.home b).lines.filter fun l => l.2.dirty).map (·.1)).foldl (fun (s : State) k => s.cleanLine b k) s
  | none => s

/-- Whether a snoop's answer may carry the line to the requester (05 R180). -/
def Snoop.forwards (n : Snoop) : Bool := decide (n.ty ≤ 2)

/-- The physical home slice that a planned recovery of a name takes out of service. -/
def State.leaving (s : State) (n : Nat) : Nat :=
  ((List.range 8).map (· + 128)).find? (fun h => (s.home h).role == 4 && (s.home h).standsFor == n) |>.getD n

/-- The physical home slice that a recovery replaces. -/
def State.recHome (s : State) (x : Recovery) : Nat := if x.kind = 6 then s.leaving x.name else x.unit % 256

/-- What a dropped request of a failed home leaves: its snoops, awaited at the stand-in, whose dirty data is written back. -/
def Txn.leftover (t : Txn) (h : Nat) : Txn :=
  { id := t.id, home := h, line := t.line, op := .recall, origin := .internal 0 0, slice := t.slice, key := t.key,
    internal := true, phase := .snooping, snoops := t.snoops, start := t.start }

/-- Resolve one request that a failed home slice had accepted (05 R180); `st` is what answers the rest: RETRY, or the
TIMEOUT of 13 R414. -/
def State.resolveHome (s : State) (h dst : Nat) (log : List (Origin × BitVec 64)) (st : Status) (t : Txn) : State :=
  match s.txn? t.id with
  | none => s
  | some t =>
    let waits := t.phase == .snooping && !t.snoops.isEmpty
    let e := s.filt h t.line
    let move := fun (s : State) (u : Txn) => (s.setTxn u).setFilt dst t.line e
    let drop := fun (s : State) => { s with txns := s.txns.filter fun (x : Txn) => x.id != t.id }
    if t.op == .atomicMem && t.phase == .atMemory then s
    else match (if t.op.isRead then none else log.find? fun a => a.1 == t.origin) with
      | some a => (drop s).answer t .ok 0 [a.2.setWidth 1024] 0
      | none =>
        if waits && (t.op == .recall || (t.op.isRead && t.snoops.any Snoop.forwards && st == .retry)) then
          move s { t with home := dst }
        else
          let s := if waits then move s (t.leftover dst) else drop s
          if t.op == .recall || t.op == .discard then s else s.answer t st 0 [] 0

/-- Empty a failed home slice: its requests are resolved, its windows close, its arrays are lost (05 R180, 08 R271). -/
def State.homeEmpty (s : State) (h dst : Nat) (st : Status) : State :=
  let n := s.nameOfHome h
  let log := match s.physOf (n ^^^ 1) with | some b => (s.home b).ackLog | none => []
  let lost := (s.rw.windows.filter fun (w : Nat × Window) => w.2.state != 0 && w.2.shadows.any fun b =>
    s.homeName ((w.2.base + b.1 * 32 * elemBytes w.2.inFmt) / 128) == some n).map (·.1)
  let s := lost.foldl (fun (s : State) w => s.closeWindow w 4) s
  let s := (s.txns.filter fun (t : Txn) => t.home == h).foldl (fun (s : State) t => s.resolveHome h dst log st t) s
  let s := { s with flushes := s.flushes.filter fun (f : Flush) => f.home != h }
  let x := s.home h
  let keep := if h = dst then x.filter.filter fun e => s.txns.any fun (t : Txn) => t.home == h && t.line == e.1 else []
  s.setHome h { x with lines := [], filter := keep, mirror := [], wbuf := [], retryQ := [], ackLog := [], heldSets := [],
                       mirrorOk := false, ownLines := [] }

/-- The lines of a name that its buddy mirrors. -/
def State.mirroredLines (s : State) (n : Nat) : List Nat :=
  match s.physOf (n ^^^ 1) with
  | some b => (s.home b).mirror.map (·.1)
  | none => []

/-- No spare can stand in (13 R409): the name is unserved; kind 0x55 for every slice whose home set holds it. -/
def State.unserved (s : State) (h n : Nat) : State :=
  let s := s.setHome h { s.home h with role := 3 }
  ((0 :: s.img.active.slices.map (·.1)).filter fun sl => s.inHomeSet sl n).foldl
    (fun (s : State) sl => s.raise (hslUnit h) 0x55 2 3 (hslUnit h) sl 0) s

/-- Claim a stand-in for a name (13 R408 steps 1 and 2): the record goes on with it, or ends where there is none. -/
def State.claim (s : State) (x : Recovery) (h : Nat) (st : Status) : State × Option Recovery :=
  match s.findSpare x.name with
  | some sp =>
    let left := s.mirroredLines x.name
    (s.homeEmpty h sp st, some { x with spare := some sp, step := 2, cur := x.age, left := left })
  | none => ((s.homeEmpty h h st).unserved h x.name, none)

/-- The mirror entries of a recovering name that are not copied yet are lost (13 R403): their lines are poisoned. -/
def State.mirrorLost (s : State) (r : Nat) : State :=
  let x := s.recAt r
  match x.spare with
  | none => s
  | some sp =>
    let s := s.setRec r { x with left := [] }
    x.left.foldl (fun (s : State) l => s.poisonLine sp l 0x48) s

/-- The stand-in of a recovery fails before it serves (13 R403): the next spare is claimed. -/
def State.spareFails (s : State) (r h : Nat) : State :=
  let x := s.recAt r
  let s := s.ring (hslUnit h) 0x81 (((s.home h).epoch + 1) % 256)
  let s := s.setHome h { s.home h with role := 3, epoch := ((s.home h).epoch + 1) % 256, standsFor := x.name }
  let (s, y) := (s.setRec r { x with spare := none }).claim { x with spare := none } h .retry
  let s := { s with flushes := s.flushes.filter fun (f : Flush) => !(f.standIn && f.name == x.name) }
  match y with
  | some y => s.setRec r y
  | none =>
    let s := s.setHome (s.recHome x) { s.home (s.recHome x) with role := 3 }
    s.recEnd r

/-- The record of the running recovery that meets a test. -/
def State.findRec (s : State) (p : Recovery → Bool) : Option Nat :=
  (s.flt.recs.find? fun r => (r.2.state == 1 || r.2.state == 2) && p r.2).map (·.1)

/-- Declare the failure of a home slice (13 R396, R403, R408). -/
def State.homeDeclare (s : State) (h : Nat) : State :=
  let x := s.home h
  let u := hslUnit h
  match s.findRec fun r => r.spare == some h with
  | some r => s.spareFails r h
  | none =>
    if x.role = 1 then s.setHome h { x with role := 3, epoch := (x.epoch + 1) % 256 }
    else if x.role ≥ 3 then s
    else
      let n := s.nameOfHome h
      let s := s.homeLeaves h
      match s.findRec fun r => r.unit / 256 == 1 && r.name == n ^^^ 1 with
      | some r => (s.mirrorLost r).recOpen { state := 2, kind := 1, unit := u, name := n, step := 1 }
      | none => match s.freeRec with
        | none => s.recOpen { kind := 1, unit := u, name := n, step := 1 }
        | some _ => match s.claim { kind := 1, unit := u, name := n } h .retry with
          | (s, some y) => s.recOpen y
          | (s, none) =>
            let s := s.recOpen { kind := 1, unit := u, name := n, step := 1 }
            match s.findRec fun r => r.unit == u with
            | some r => s.recEnd r
            | none => s

/-- Copy one mirror entry of a recovering name into its stand-in as a dirty line (05 R181). While a delta drains, the
line goes to memory and the stand-in stays empty (04 R147). `bad` marks an entry that cannot be read (13 R403). -/
def State.copyLine (s : State) (x : Recovery) (sp line : Nat) (bad : Bool) : State :=
  match s.physOf (x.name ^^^ 1) with
  | none => s
  | some b => match mget? (s.home b).mirror line with
    | none => s
    | some e =>
      let gone := s.setHome b { s.home b with mirror := mdel (s.home b).mirror line }
      if bad then
        (gone.poisonQuiet sp line).raise (hslUnit b) 0x48 2 1 (line * 128) (s.lineSlice line) 0
      else if !s.keyLive e.key then gone
      else
        let drained := s.img.state == 5 && s.img.drain.any fun (d : DrainSt) => d.home == s.recHome x
        match (if drained then none else s.allocate sp line e.slice e.key e.poison e.data) with
        | some (s, k) =>
          let y := s.home sp
          let go := fun (l : LlcLine) => { l with dirty := true, dirtySeq := y.dirtyClock }
          match mget? y.lines k with
          | some l => s.setHome sp { y with dirtyClock := y.dirtyClock + 1, lines := mput y.lines k (go l) }
          | none => s
        | none => s.wbPush sp line e.slice e.key 3 e.poison e.data

/-- A piece of the copy (13 R408 step 3): 448 entries, at most 2 pieces in a tick. -/
def State.copyPiece (s : State) (r : Nat) (bad : Option Nat) : State :=
  let x := s.recAt r
  let n := if x.cur / 4 = s.blk.tick then x.cur % 4 else 0
  match x.spare with
  | some sp =>
    if x.state != 1 || x.step != 3 || n ≥ 2 || x.left.isEmpty then s
    else
      let ls := x.left.take 448
      let s := s.setRec r { x with left := x.left.drop 448, cur := s.blk.tick * 4 + n + 1 }
      let s := s.ring (hslUnit sp) 0x84 4
      ((ls.zip (List.range ls.length)).foldl (fun (s : State) l => s.copyLine x sp l.1 (bad == some l.2)) s).settle
  | none => s

/-- The stand-in serves (13 R408 step 5): its filter is empty, the mirrors resume, the failed name's slice is retired and a
repair candidate. -/
def State.serve (s : State) (r : Nat) : State :=
  let x := s.recAt r
  match x.spare with
  | none => s
  | some sp =>
    let done := s.flushes.any fun (f : Flush) => f.standIn && f.name == x.name && f.ports.isEmpty && f.chips.isEmpty
    if x.state != 1 || x.step != 4 || !done then s
    else
      let s := { s with flushes := s.flushes.filter fun (f : Flush) => !(f.standIn && f.name == x.name) }
      let h := s.recHome x
      let s := if (s.home h).role = 4 then s.setHome h { s.home h with role := 3 } else s
      let s := s.addRepair (hslUnit h) 3 0 0 0
      let s := s.recEnd r
      let ok := (s.buddy sp).isSome
      let s := s.setHome sp { s.home sp with filter := [], mirrorOk := ok }
      match s.buddy sp with
      | some b => s.setHome b { s.home b with mirrorOk := true }
      | none => s

/-! ### Stacks, tines, key engines, job engines (13 R410 to R413) -/

/-- Declare the loss of a stack (13 R410). -/
def State.stackDeclare (s : State) (p : Nat) (say : Bool) : State :=
  if s.stackLost p then s
  else (s.loseStack p say).recOpen { kind := 2, unit := mptUnit p, step := 2 }

/-- A memory port whose stack is to be declared lost: isolated, or failed (13 R396, R410). -/
def State.stackGone (s : State) (p : Nat) : Bool :=
  !s.stackLost p && ((s.port (mpPort p)).state == 2 || (s.unit (mptUnit p)).failed)

/-- Declare the recovery of a tine; its messages have moved with its failure (13 R411). -/
def State.tineDeclare (s : State) (t : Nat) : State :=
  let u := tinUnit t
  if s.inRecovery u then s
  else
    let s := if (s.tine t).state = 3 || (s.tine t).state = 4 then s.respray t else s.tineFails t 0xC8
    s.recOpen { kind := 3, unit := u, step := 1 }

/-- A key engine leaves (13 R412): the port holds; with no engine left on the die both ports are isolated (13 R403). -/
def State.keyLeaves (s : State) (e : Nat) (x : Recovery) : State :=
  let p := e - 1
  let q := p ^^^ 1
  if s.engineUp (1 + q) then s.recOpen { x with step := 2 }
  else
    let down := fun (s : State) (p : Nat) =>
      (if (s.port (mpPort p)).state = 1 then s.isolateOnly (mpPort p) 0xAC else s).stackDeclare p true
    down (down s (min p q)) (max p q)

/-- Declare the failure of a key engine. -/
def State.keyDeclare (s : State) (e : Nat) : State :=
  let u := unitId 6 e
  if e = 0 || s.inRecovery u then s
  else
    let x := s.unit u
    let s := s.setUnit u { x with failed := true, epoch := (x.epoch + 1) % 256 }
    let s := s.ring u 0x81 ((x.epoch + 1) % 256)
    s.keyLeaves e { kind := 4, unit := u }

/-- Jobs leave an engine (09 R293): those that may resume go back to the queue, the others end with ENGINE_LOST if a
piece was running, a DIRTY_HARVEST with kind 0x53 (09 R303). -/
def State.jobsLeave (s : State) (e : Nat) : State :=
  (s.startedOn e).foldl (fun (s : State) j =>
    let running := !j.reads.isEmpty || !j.writes.isEmpty || !j.buf.isEmpty || j.seqPage.isSome
    if j.ended.isSome then s
    else if [0x4, 0x6, 0x8, 0x9, 0xD].contains (dType j.desc) && running then
      (if dType j.desc = 0xD then s.raise (jobUnit e) 0x53 1 0 0 0 j.fn else s).seqStop j 0xC
    else s.setJob { j with engine := none, buf := [] }) s

/-- An engine takes no jobs: a new epoch (13 R414). -/
def State.engineLeaves (s : State) (e : Nat) : State :=
  let x := s.engine e
  (s.setEngine e { x with offline := true, epoch := (x.epoch + 1) % 256 }).ring (jobUnit e) 0x81 ((x.epoch + 1) % 256)

/-- Declare the failure of a job engine (13 R413, R417). -/
def State.jobDeclare (s : State) (e : Nat) : State :=
  if (s.engine e).offline then s
  else
    let s := (s.engineLeaves e).jobsLeave e
    let s := s.addRepair (jobUnit e) 3 0 0 0
    s.recOpen { kind := 5, unit := jobUnit e, step := 1 }

/-! ### Declaration (13 R396, R406, R487) -/

/-- The reaction to a message at the first commit step after its arrival. -/
def State.declare (s : State) (m : Msg) : State :=
  let u := msgUnit m
  let i := u % 256
  if msgClass m = 3 then s.fatalEnter (msgKind m)
  else match msgKind m, u / 256 with
    | 0x4F, 1 => if i < 136 then s.homeDeclare i else s
    | 0x07, 2 => if i < 16 then s.stackDeclare i false else s
    | 0xC8, 3 | 0x6A, 3 | 0x6B, 3 => if i < 64 then s.tineDeclare i else s
    | 0x6C, 3 => if i < 64 && (s.tine i).state == 3 then s.tineDeclare i else s
    | 0xC8, 4 => if (s.port i).state = 1 then s.isolateOnly i 0xC8 else s
    | 0xAC, 6 => if i < 17 then s.keyDeclare i else s
    | 0x54, 5 => if i < 32 then s.jobDeclare i else s
    | _, _ => s

/-- Declare the messages that meet a test, in order of arrival. -/
def State.declareIf (s : State) (p : Msg → Bool) : State :=
  let ms := s.flt.undeclared.filter p
  let s := { s with flt := { s.flt with undeclared := s.flt.undeclared.filter fun (m : Msg) => !p m } }
  ms.foldl (fun (s : State) m => s.declare m) s

/-! ### Planned offline (13 R414, R415, R401) -/

/-- Whether a unit may be commanded offline and online. -/
def unitCommanded (u : Nat) : Bool :=
  match u / 256 with
  | 1 => decide (u % 256 < 128)
  | 3 => decide (u % 256 < 64)
  | 5 => decide (u % 256 < 32)
  | 6 => decide (1 ≤ u % 256) && decide (u % 256 < 17)
  | _ => false

/-- Whether a commanded unit is online: a home by its name. -/
def State.unitOnline (s : State) (u : Nat) : Bool :=
  let i := u % 256
  match u / 256 with
  | 1 => (s.physOf i).isSome
  | 3 => !(s.unit u).failed && (s.unit u).offlineAt.isNone
  | 5 => !(s.engine i).offline
  | _ => s.engineUp i

/-- The result of FLT_UNIT_CMD: 0 where it is carried out. -/
def State.unitCheck (s : State) (op u : Nat) : Nat :=
  let up := s.unitOnline u
  let name := u / 256 == 1
  if !unitCommanded u || !(op == 1 || op == 2) then 5
  else if op = 2 then (if name || up then 1 else 0)
  else if !up || s.inRecovery u || (name && s.nameRecovers (u % 256)) then 1
  else if u / 256 = 6 && !s.engineUp (1 + ((u % 256 - 1) ^^^ 1)) then 1
  else 0

/-- A unit goes offline by command or by its limit: it refuses new requests, and the recovery opens (13 R414 step 1). -/
def State.takeOffline (s : State) (u : Nat) : State :=
  let i := u % 256
  let x := s.unit u
  let off := fun (s : State) => (s.setUnit u { x with offlineAt := some s.blk.tick, epoch := (x.epoch + 1) % 256 }).ring u 0x81
    ((x.epoch + 1) % 256)
  let s := match u / 256 with
    | 1 => (match s.physOf i with | some h => s.homeLeaves h | none => s)
    | 3 => (off s).tineFails i 0
    | 5 => s.engineLeaves i
    | _ => off s
  s.recOpen { kind := 6, unit := u, name := if u / 256 = 1 then i else 0, step := 1 }

/-- A unit comes online (13 R415). -/
def State.bringOnline (s : State) (u : Nat) : State :=
  let i := u % 256
  let x := s.unit u
  let e := (x.epoch + 1) % 256
  match u / 256 with
  | 3 =>
    let s := (s.setUnit u { x with failed := false, offlineAt := none, epoch := e }).ring u 0x82 e
    if (s.tine i).state = 4 then s
    else s.setTine i { s.tine i with state := if (s.tine i).linkUp then 1 else 0, goodTicks := 0, matching := false, cause := 0 }
  | 5 =>
    let g := s.engine i
    ((s.setUnit u { x with failed := false }).setEngine i { g with offline := false, epoch := (g.epoch + 1) % 256 }).ring u 0x82
      ((g.epoch + 1) % 256)
  | _ =>
    let s := (s.setUnit u { x with failed := false, offlineAt := none, epoch := e }).ring u 0x82 e
    let s := s.setMp (i - 1) { s.mp (i - 1) with feeder := none }
    { s with vault := { s.vault with badCopies := s.vault.badCopies.filter fun (c : Nat × Nat) => c.1 != i } }

/-- Apply a pending FLT_UNIT_CMD at a boundary (13 R415). -/
def State.unitApply (s : State) : State :=
  match s.flt.unitCmd with
  | none => s
  | some (op, u) =>
    let r := s.unitCheck op u
    let s := { s with flt := { s.flt with unitCmd := none, unitId := u, unitTick := s.tick32, unitResult := r,
                                          unitRunning := r == 0 && op == 1 } }
    if r != 0 then s else if op = 1 then s.takeOffline u else s.bringOnline u

/-- The write of FLT_UNIT_CMD. -/
def State.unitCommand (s : State) (op u : Nat) : State :=
  if s.flt.unitCmd.isSome || s.flt.unitRunning then { s with flt := { s.flt with unitResult := 6 } }
  else { s with flt := { s.flt with unitCmd := some (op, u) } }

/-- Units that a limit takes offline (13 R401); one that is offline or in recovery is left as it is. -/
def State.limitOffline (s : State) : State :=
  let us := s.flt.toOffline
  us.foldl (fun (s : State) u =>
    let n := if u / 256 = 1 then hslUnit (s.nameOfHome (u % 256)) else u
    let serves := u / 256 != 1 || (s.home (u % 256)).role == 0 || (s.home (u % 256)).role == 2
    if serves && s.unitCheck 1 n = 0 then s.takeOffline n else s) { s with flt := { s.flt with toOffline := [] } }

/-- Whether a unit that goes offline has nothing left to complete (13 R414 step 2). -/
def State.unitQuiet (s : State) (u : Nat) : Bool :=
  let i := u % 256
  match u / 256 with
  | 1 => let h := s.leaving i
         s.txns.all fun (t : Txn) => t.home != h
  | 5 => (s.startedOn i).all fun j => j.reads.isEmpty && j.writes.isEmpty
  | 6 => (s.mp (i - 1)).tags.all (·.keyless)
  | _ => true

/-- The end of R414: what the unit still holds is answered TIMEOUT with kind 0xCA, and its recovery goes on. -/
def State.offlineNext (s : State) (r : Nat) : State :=
  let x := s.recAt r
  let i := x.unit % 256
  if x.state != 1 || x.kind != 6 || x.step != 1 then s
  else
    let quiet := s.unitQuiet x.unit
    let s := if quiet then s else s.raise x.unit 0xCA 1 3 x.unit 0 0
    match x.unit / 256 with
    | 1 =>
      let h := s.leaving i
      (match s.claim x h .timeout with
        | (s, some y) => s.setRec r y
        | (s, none) => s.recEnd r)
    | 3 => (s.setRec r { x with step := 2 }).respray i
    | 5 =>
      let stop := fun (s : State) (j : Job) => if j.reads.isEmpty && j.writes.isEmpty then s else s.seqStop j 4
      let s := if quiet then s else (s.startedOn i).foldl stop s
      (s.setRec r { x with step := 2 }).jobsLeave i
    | _ => s.setRec r { x with step := 2, cur := x.age }

/-- A recovery that waited for a record or for another takes its turn (13 R403, R404). -/
def State.recStart (s : State) (r : Nat) : State :=
  let x := s.recAt r
  if x.kind != 1 || x.step != 1 then s.setRec r { x with state := 1 }
  else if s.openRecs.any fun y => y.unit / 256 == 1 && y.name == x.name ^^^ 1 && y.state == 1 then s
  else match s.claim x (x.unit % 256) .retry with
    | (s, some y) => s.setRec r { y with state := 1 }
    | (s, none) => s.recEnd r

/-- Records that are free go to those that wait for one. -/
def State.recPromote (s : State) : State :=
  match s.flt.waiting, s.freeRec with
  | x :: q, some r => ((({ s with flt := { s.flt with waiting := q } } : State).setRec r x).mgIrq 0x02).recStart r
  | _, _ => s

/-- The next step of a recovery whose turn it is at a boundary. -/
def State.recStep (s : State) (r : Nat) : State :=
  let x := s.recAt r
  let i := x.unit % 256
  if x.state = 2 then s.recStart r
  else if x.state != 1 then s
  else if x.kind = 6 && x.step = 1 then
    if s.unitQuiet x.unit || x.age ≥ 8 then s.offlineNext r else s
  else match x.unit / 256 with
    | 1 => match x.spare with
      | none => s
      | some sp =>
        if x.step = 2 then
          if x.age < x.cur + 2 then s
          else
            let y := s.home sp
            let s := s.setHome sp { y with role := 2, standsFor := x.name, mirrorOk := true, lines := [], filter := y.filter,
                                           mirror := [], wbuf := [] }
            s.setRec r { x with step := 3, cur := 0 }
        else if x.step = 3 then
          if x.left.isEmpty then (s.setRec r { x with step := 4 }).flushStart x.name sp none true else s
        else s.serve r
    | 2 => if s.guardOps.any fun (g : GuardOp) => g.port == i then s.setRec r { x with step := 3 } else s.recEnd r
    | 3 => s.recEnd r
    | 5 => if (s.startedOn i).isEmpty then s.recEnd r else s.setRec r { x with step := 2 }
    | _ =>
      if x.age < x.cur + 2 then s
      else if x.step = 2 then
        (s.setMp (i - 1) { s.mp (i - 1) with feeder := some ((i - 1) ^^^ 1) }).setRec r { x with step := 3 }
      else if x.age ≥ x.cur + 3 then s.recEnd r else s

/-- Every recovery a tick after its declaration and later: its deadline advances, its next step is taken, it may overrun
(13 R404, R406). -/
def State.recTick (s : State) : State :=
  let older := fun (x : Recovery) => if x.startTick = s.tick32 then x else { x with age := x.age + 1 }
  let late := fun (x : Recovery) => x.age ≥ x.budget && !x.overrun
  let ws := s.flt.waiting.map older
  let s := { s with flt := { s.flt with recs := s.flt.recs.map fun (r : Nat × Recovery) => (r.1, older r.2), waiting := ws } }
  let s := (List.range 8).foldl (fun (s : State) r => ((if (s.recAt r).startTick = s.tick32 then s else s.recStep r)).recLate r) s
  let s := (s.flt.waiting.filter late).foldl (fun (s : State) x => s.raise fltUnit 0xC9 2 3 x.unit 0 0) s
  let mark := fun (x : Recovery) => if late x then { x with overrun := true } else x
  let s := { s with flt := { s.flt with waiting := s.flt.waiting.map mark } }
  (List.range s.flt.waiting.length).foldl (fun (s : State) _ => s.recPromote) s

/-- The commit step of a boundary (13 R487): every undeclared reaction, lost stacks, FLT_UNIT_CMD, limits. -/
def State.declareAll (s : State) : State :=
  let s := s.declareIf fun _ => true
  let s := (List.range 16).foldl (fun (s : State) p => if s.stackGone p then s.stackDeclare p true else s) s
  s.unitApply.limitOffline

/-! ### The commands -/

/-- HEARTBEAT_MISSED (13 R395): a unit missed its heartbeat at 2 consecutive boundaries. -/
def execHeartbeatMissed (u : BitVec 12) (s : State) : Host.Outcome State Fault Refusal := .next (s.unitFails u.toNat)

/-- The dies that traffic between two base dies passes, the first included (01 R28): along the row to the target column, then along
the column. -/
def bridgeRoute (a b : Nat) : List Nat :=
  let step := fun (x y k : Nat) => if x ≤ y then x + k else x - k
  let row := (List.range ((a % 4 - b % 4) + (b % 4 - a % 4) + 1)).map fun k => 4 * (a / 4) + step (a % 4) (b % 4) k
  if a / 4 = b / 4 then row else row ++ [4 * (b / 4) + b % 4]
/-- A bridge joins two base dies that are adjacent in a row or a column (01 R27). -/
def bridged (a b : Nat) : Bool := (bridgeRoute a b).length == 2
/-- A bridge's check fails: 0x76 where the transfer was resent, 0x77 where it failed, under the unit ID of the fault aggregator of
the receiving die (01 R28, 13 R396). -/
def State.bridgeFails (s : State) (b : BridgeCheck) : State :=
  let u := unitId 8 (1 + b.dst.toNat)
  if !bridged b.src.toNat b.dst.toNat then s
  else if b.resent then s.raise u 0x76 1 3 u 0 0 else s.raise u 0x77 3 3 u 0 0
/-- UNIT_CHECK_FAILED (13 R395, R396): a unit's own checks declare it failed, or a bridge's. -/
def execUnitCheckFailed (u : BitVec 12) (bridge : Option BridgeCheck) (s : State) : Host.Outcome State Fault Refusal :=
  .next (match bridge with | some b => s.bridgeFails b | none => s.unitFails u.toNat)

/-- HOME_SLICE_RECOVERY (13 R408): the declared failure of the home slice that serves a name. -/
def execHomeSliceRecovery (name : BitVec 8) (s : State) : Host.Outcome State Fault Refusal :=
  .next (s.declareIf fun m => msgKind m == 0x4F && msgUnit m / 256 == 1 && s.homeNameOf (msgUnit m % 256) == name.toNat)

/-- MIRROR_COPY_PIECE (13 R408). -/
def execMirrorCopyPiece (r : BitVec 3) (bad : Option (BitVec 12)) (s : State) : Host.Outcome State Fault Refusal :=
  .next (s.unlessStopped fun s => s.copyPiece r.toNat (bad.map (·.toNat)))

/-- STAND_IN_SERVE (13 R408). -/
def execStandInServe (r : BitVec 3) (s : State) : Host.Outcome State Fault Refusal :=
  .next (s.unlessStopped fun s => s.serve r.toNat)

/-- STACK_RECOVERY (13 R410). -/
def execStackRecovery (p : BitVec 4) (s : State) : Host.Outcome State Fault Refusal :=
  let s := s.declareIf fun m => msgKind m == 0x07 && msgUnit m == mptUnit p.toNat
  .next (if s.stackGone p.toNat then s.stackDeclare p.toNat true else s)

/-- TINE_RECOVERY (13 R411). -/
def execTineRecovery (t : BitVec 6) (s : State) : Host.Outcome State Fault Refusal :=
  .next (s.declareIf fun m => s.recovers m && msgUnit m == tinUnit t.toNat)

/-- KEY_ENGINE_HANDOVER (13 R412): of the key engine of memory port p. -/
def execKeyEngineHandover (p : BitVec 4) (s : State) : Host.Outcome State Fault Refusal :=
  .next (s.declareIf fun m => msgKind m == 0xAC && msgUnit m == unitId 6 (1 + p.toNat))

/-- JOB_ENGINE_RECOVERY (13 R413). -/
def execJobEngineRecovery (e : BitVec 5) (s : State) : Host.Outcome State Fault Refusal :=
  .next (s.declareIf fun m => msgKind m == 0x54 && msgUnit m == jobUnit e.toNat)

/-- RECOVERY_OVERRUN (13 R404). -/
def execRecoveryOverrun (r : BitVec 3) (s : State) : Host.Outcome State Fault Refusal := .next (s.recLate r.toNat)

/-- OFFLINE (13 R414, R415): FLT_UNIT_CMD with op OFFLINE. -/
def execOffline (u : BitVec 12) (s : State) : Host.Outcome State Fault Refusal :=
  .next (s.mgWrite true fun s => s.unitCommand 1 u.toNat)

/-- ONLINE (13 R415): FLT_UNIT_CMD with op ONLINE. -/
def execOnline (u : BitVec 12) (s : State) : Host.Outcome State Fault Refusal :=
  .next (s.mgWrite true fun s => s.unitCommand 2 u.toNat)

/-- OFFLINE_DEADLINE (13 R414): a unit's requests have reached A+8. -/
def execOfflineDeadline (u : BitVec 12) (s : State) : Host.Outcome State Fault Refusal :=
  .next (s.unlessStopped fun s => match s.findRec fun x => x.unit == u.toNat && x.kind == 6 && x.step == 1 && decide (x.age ≥ 8) with
    | some r => s.offlineNext r
    | none => s)

end Sys2Proof.Machine
end

