-- ==== Sys2Proof/Machine/Fawn.lean ====
section
/-! DEFINITION. Fawn (14 R423 to R442): cold start, firmware, sensors and the decisions of 01 R48, fclk changes, Doze, Standby,
wake, the timebase watch, power control (02 R78). -/

namespace Sys2Proof.Machine

/-! ### Phases, resets, power control -/

/-- Queue the changes of PLDM sensors 50, 52 and 53 since they were last compared (14 R444). -/
def State.notice (s : State) : State :=
  let now := [s.blk.power, s.fawn.phase, s.pair.state]
  let was := s.fawn.seen
  let s := { s with fawn := { s.fawn with seen := now } }
  let s := if now.getD 0 0 != was.getD 0 0 then s.event 50 (now.getD 0 0) else s
  let s := if now.getD 1 0 != was.getD 1 0 then s.event 52 (now.getD 1 0) else s
  if now.getD 2 0 != was.getD 2 0 then s.event 53 (now.getD 2 0) else s

/-- Enter a start-up phase (14 R436). -/
def State.setPhase (s : State) (p : Nat) : State :=
  (({ s with fawn := { s.fawn with phase := p } } : State).ring fwnUnit 0x83 p).notice

/-- A fabric reset (16 R484): everything but Fawn's domain and the ROS fields returns to its reset value. -/
def State.coldReset (s : State) : State :=
  let fawn := { s.fawn with fabricGood := false, fclkStable := false, dozeAt := none, standby := false, waking := none, initLeft := 0 }
  { State.reset with blk := { timebaseOk := s.blk.timebaseOk, power := s.blk.power }, flt := { first := s.flt.first },
                     fawn := fawn, test := s.test, out := s.out, pending := s.pending, freeCount := s.freeCount,
                     nextId := s.nextId }

/-- Leave the loaded firmware (14 R442, 16 R484). -/
def Fawn.dropFirmware (f : Fawn) : Fawn :=
  { f with fwState := 0, fwResult := 0, area := false, fwGen := 0, staging := [], fwDigest := 0, stagedDigest := 0,
           prevDigest := none, running := false, beat := false, missed := 0, revertPending := false }

/-- A failure that ends a cold start (14 R436, R439): FAILED, block-fatal. -/
def State.startFails (s : State) (kind : Nat) : State :=
  ((s.setPhase 15).deliverAll).fatalEnter kind

/-! ### fclk changes (01 R34, R35) -/

/-- Start a change of the operating point: a full hold until fclk is stable. -/
def State.fclkStart (s : State) (p : Nat) : State :=
  let s := { s with blk := { s.blk with fclkChange := some p, fclkSince := s.blk.tick, fclkWanted := none },
                    fawn := { s.fawn with fclkStable := false } }
  (s.power 0 p).xoffAll

/-- Whether a structural commit is armed for this boundary, or was when it began (01 R35, 04 R147). -/
def State.commitHere (s : State) : Bool :=
  s.img.dueTick == some s.blk.tick ||
  (match s.img.staged with | some d => s.deltaArmed && decide (d.commitTick ≤ s.blk.tick) | none => false)

/-- Whether an fclk change may start at this boundary: Fawn holds the point while power control is isolated (02 R85). -/
def State.mayChange (s : State) : Bool :=
  s.blk.fclkChange.isNone && s.blk.power == 2 && s.fawn.dozeAt.isNone && !s.recovering && !s.commitHere
    && (s.port pcPort).state != 2

/-- Ask for a point: the change starts at the first boundary at which it may. -/
def State.fclkWant (s : State) (p : Nat) : State := { s with blk := { s.blk with fclkWanted := some p } }

/-- Whether Fawn may select a point (01 R33, R36, R48): one of 0 to 8, no faster than the limit, and 8 alone while parked. -/
def State.pointOk (s : State) (p : Nat) : Bool :=
  decide (p ≤ 8) && decide (s.blk.fclkLimit ≤ p) && (!s.blk.parked || p == 8)

/-- Start a wanted change where it may start; a point that may no longer be selected is dropped. -/
def State.fclkBoundary (s : State) : State :=
  match s.blk.fclkWanted with
  | some p =>
    if !s.pointOk p || (p = s.blk.fclkPoint && s.blk.fclkChange.isNone) then { s with blk := { s.blk with fclkWanted := none } }
    else if s.mayChange then s.fclkStart p else s
  | none => s

/-- pc_fclk_stable rises (01 R34): the new point is in force and the hold ends. During a wake the memory controllers are
asked to leave self-refresh (14 R441 step 3). -/
def State.fclkIsStable (s : State) : State :=
  match s.blk.fclkChange with
  | none => s
  | some p =>
    let s := { s with blk := { s.blk with fclkPoint := p, fclkChange := none }, fawn := { s.fawn with fclkStable := true } }
    if s.fawn.waking.isSome then
      let s := { s with fawn := { s.fawn with waking := some s.blk.tick } }
      (List.range 16).foldl (fun (s : State) k =>
        if (s.mp k).srReq then (s.setMp k { s.mp k with srReq := false, srAck := false }).emit (.selfRefresh k false) else s) s
    else s.xoffAll

/-- fclk is not stable 2 ticks after a change began (01 R34, 14 R439): kind 0xE2. -/
def State.fclkFails (s : State) : State :=
  if s.fawn.phase = 2 then (s.raise fwnUnit 0xE2 3 0 0 0 0).startFails 0xE2
  else match s.blk.fclkChange with
    | some _ => if s.blk.fclkSince + 2 ≤ s.blk.tick && !s.fatal then s.raise fwnUnit 0xE2 3 0 0 0 0 else s
    | none => s

/-! ### Sensors (02 R79, 14 R428, R429, 01 R48) -/

/-- Insert into a list in rising order. -/
def insertInt (x : Int) : List Int → List Int
  | [] => [x]
  | y :: ys => if x ≤ y then x :: y :: ys else y :: insertInt x ys
/-- The median of three values. -/
def median3 (l : List Int) : Int := (l.foldr insertInt []).getD 1 0
/-- The last three of a list with a value added. -/
def last3 {α : Type} (l : List α) (x : α) : List α := (l ++ [x]).drop (l.length + 1 - 3)
/-- A filter step: f + (m - f) / 4, rounded toward positive infinity (14 R428). -/
def filterStep (f m : Int) : Int := f + -((f - m) / 4)

/-- Write a thermal input. -/
def State.setSensor (s : State) (k : Nat) (x : SensorSt) : State :=
  { s with fawn := { s.fawn with sensors := tset {} s.fawn.sensors k x } }
/-- Write a supply input. -/
def State.setSupply (s : State) (m : Nat) (x : SupplySt) : State :=
  { s with fawn := { s.fawn with supplies := tset {} s.fawn.supplies m x } }

/-- A base die all of whose thermal inputs are out of range (14 R429). -/
def State.dieBlind (s : State) (d : Nat) : Bool := (List.range 8).all fun j => (s.sensor (8 * d + j)).outOfRange
/-- The hottest filtered value of a base die in units of 0.0625 °C; 105.0 °C where the die is blind. -/
def State.dieHottest (s : State) (d : Nat) : Option Int :=
  if s.dieBlind d then some 1680
  else ((List.range 8).filter fun j => (s.sensor (8 * d + j)).valid).foldl (fun (a : Option Int) j =>
    let f := (s.sensor (8 * d + j)).filtered
    match a with | some b => some (max b f) | none => some f) none
/-- The hottest value and its base die, the lowest die on a tie. -/
def State.hottest (s : State) : Option (Int × Nat) :=
  (List.range 8).foldl (fun (a : Option (Int × Nat)) d =>
    match s.dieHottest d, a with
    | some f, some (b, e) => if b < f then some (f, d) else some (b, e)
    | some f, none => some (f, d)
    | none, a => a) none

/-- The action of R48 for the hottest value: 0 raise, 1 hold, 2 throttle, 3 park, 4 trip; hold with no valid input. -/
def State.thermalCode (s : State) : Nat :=
  match s.hottest with
  | none => 1
  | some (f, _) => if f < 1440 then 0 else if f < 1520 then 1 else if f < 1680 then 2 else if f < 1760 then 3 else 4
/-- The hottest value as the subject of a message. -/
def State.hotSubject (s : State) : Nat := match s.hottest with | some (f, _) => (BitVec.ofInt 16 f).toNat | none => 0

/-- Park and trip, evaluated on every sample (14 R429). -/
def State.parkTrip (s : State) : State :=
  let a := s.thermalCode
  if a ≥ 3 then
    let s := { s with fawn := { s.fawn with action := a } }
    let s := if s.blk.parked then s
      else
        let s := (({ s with blk := { s.blk with parked := true } } : State).raise fwnUnit 0xE5 2 12 s.hotSubject 0 0).xoffAll
        if s.blk.fclkChange.getD s.blk.fclkPoint = 8 then { s with blk := { s.blk with fclkWanted := none } } else s.fclkWant 8
    if a = 4 && !s.blk.tripped then
      ((({ s with blk := { s.blk with tripped := true } } : State).raise fwnUnit 0xE6 3 12 s.hotSubject 0 0)).power 4 0
    else s
  else if s.blk.parked then ({ s with blk := { s.blk with parked := false } } : State).xoffAll
  else s

/-- A point change is under way or waits. -/
def State.pointMoves (s : State) : Bool := s.blk.fclkChange.isSome || s.blk.fclkWanted.isSome
/-- Raise fclk one point after 256 cool ticks (01 R48). -/
def State.thermalUp (s : State) : State :=
  if s.thermalCode = 0 && s.blk.coolTicks ≥ 256 && s.blk.fclkPoint > s.blk.fclkLimit && !s.pointMoves then
    ({ s with blk := { s.blk with coolTicks := 0 } } : State).fclkWant (s.blk.fclkPoint - 1)
  else s
/-- Lower fclk one point after 16 hot ticks (01 R48). -/
def State.thermalDown (s : State) : State :=
  if s.thermalCode = 2 && s.blk.hotTicks ≥ 16 && s.blk.fclkPoint < 8 && !s.pointMoves then
    ({ s with blk := { s.blk with hotTicks := 0 } } : State).fclkWant (s.blk.fclkPoint + 1)
  else s

/-- The decisions of R48 at a tick boundary (14 R429). -/
def State.thermalTick (s : State) : State :=
  let s := s.parkTrip
  let a := s.thermalCode
  let s := { s with fawn := { s.fawn with action := a } }
  let s := { s with blk := { s.blk with coolTicks := if a = 0 then s.blk.coolTicks + 1 else 0,
                                        hotTicks := if a = 2 then s.blk.hotTicks + 1 else 0 } }
  let s := if a ≥ 2 && !s.blk.throttling then
      ({ s with blk := { s.blk with throttling := true } } : State).raise fwnUnit 0xE4 1 12 s.hotSubject 0 0
    else if a ≤ 1 then { s with blk := { s.blk with throttling := false } } else s
  s.thermalUp.thermalDown

/-- A thermal input goes out of range: excluded until 4 consecutive samples are valid; kind 0xE3 once per episode. -/
def State.sensorOut (s : State) (k : Nat) (x : SensorSt) : State :=
  let s' := s.setSensor k { x with valid := false, outOfRange := true, last := [], streak := 0, started := false }
  (if x.outOfRange then s' else s'.raise fwnUnit 0xE3 1 12 (BitVec.ofInt 16 x.raw).toNat 0 0).parkTrip

/-- A toggle of thermal input k (02 R79, 14 R428). -/
def State.thermalSample (s : State) (k : Nat) (v : Int) : State :=
  let x := { s.sensor k with raw := v, updateTick := s.blk.tick }
  if v < -640 || v > 2000 then s.sensorOut k x
  else
    let l := last3 x.last v
    let n := min 4 (x.streak + 1)
    let go := decide (n ≥ 4) && l.length == 3
    let m := median3 l
    let f := if !go then x.filtered else if x.started then filterStep x.filtered m else m
    (s.setSensor k { x with filtered := f, last := l, streak := n, valid := go, started := go,
                            outOfRange := x.outOfRange && decide (n < 4) }).parkTrip

/-- A toggle of supply input m (02 R79, 14 R428, R429). -/
def State.supplySample (s : State) (m v : Nat) : State :=
  let x := { s.supply m with updateTick := s.blk.tick }
  let l := last3 x.last v
  let n := min 4 (x.streak + 1)
  let go := decide (n ≥ 4) && l.length == 3
  let med := if go then (median3 (l.map Int.ofNat)).toNat else x.median
  let bad := go && (decide (med < x.low) || decide (med > x.high))
  let k := if bad then min 4 (x.outStreak + 1) else 0
  let out := decide (k ≥ 4)
  let s' := s.setSupply m { x with median := med, last := l, streak := n, valid := go, outStreak := k, outside := out,
                                   stale := x.stale && decide (n < 4) }
  if out && !x.outside then s'.raise fwnUnit 0xE7 2 12 med 0 0 else s'

/-- A toggle that has not changed for 64 ticks (02 R79): the input is out of range until 4 consecutive samples; kind 0xE3 once per
episode (14 R429). -/
def State.sensorStale (s : State) (supply : Bool) (k : Nat) : State :=
  if supply then
    let x := s.supply (k % 32)
    if x.updateTick + 64 ≤ s.blk.tick then
      let s' := s.setSupply (k % 32) { x with valid := false, last := [], streak := 0, outStreak := 0, outside := false, stale := true }
      if x.stale then s' else s'.raise fwnUnit 0xE3 1 12 x.median 0 0
    else s
  else
    let x := s.sensor k
    if x.updateTick + 64 ≤ s.blk.tick then s.sensorOut k x else s

/-! ### The timebase (01 R45) -/

/-- Four consecutive timebase edges are missing: the tick stops and kind 0xE0 is raised; with no boundary to come, it is
declared at once. -/
def State.timebaseGone (s : State) : State :=
  if !s.blk.timebaseOk then s
  else
    let s := ({ s with blk := { s.blk with timebaseOk := false, tickRunning := false } } : State).raise fwnUnit 0xE0 3 0 0 0 0
    if s.fawn.phase < 4 then s else s.deliverAll.fatalEnter 0xE0

/-- The offset has been beyond 20 ns for 16 consecutive ticks: kind 0xE1, once. -/
def State.offsetHigh (s : State) : State :=
  if s.blk.offsetHighTicks ≥ 16 && !s.blk.offsetRaised then
    ({ s with blk := { s.blk with offsetRaised := true } } : State).raise fwnUnit 0xE1 1 12 s.blk.offsetNs.toNat 0 0
  else s

/-- offset_valid (01 R44): measured within the last 16 ticks; 0 while the tick counter is stopped (02 R76). -/
def State.offsetValid (s : State) : Bool :=
  s.blk.tickRunning && (match s.blk.offsetTick with | some t => decide (s.blk.tick < t + 16) | none => false)

/-- The watch of the offset at a boundary (01 R45). -/
def State.offsetTickWatch (s : State) : State :=
  let o := s.blk.offsetNs.toInt
  if s.offsetValid && (o > 20 || o < -20) then
    ({ s with blk := { s.blk with offsetHighTicks := s.blk.offsetHighTicks + 1 } } : State).offsetHigh
  else { s with blk := { s.blk with offsetHighTicks := 0, offsetRaised := false } }

/-! ### Cold start (14 R430, R431, R436 to R439) -/

/-- Fawn's power-on reset: its domain and the fabric return to their reset values; the ROS fields stay (16 R484). -/
def State.fawnReset (s : State) : State :=
  let s := s.coldReset
  { s with fawn := {}, blk := { timebaseOk := true } }

/-- Whether a region of the boot store is empty (14 R430). -/
def regionEmpty (r : Option (List Byte)) : Bool := match r with | some b => leAt b 0 4 == 2 ^ 32 - 1 | none => true

/-- The DER certificates of a valid identity chain record (14 R430, R431). -/
def chainOf (r : Option (List Byte)) : Option (List Byte) :=
  match r with
  | none => none
  | some b =>
    let n := leAt b 8 4
    let ok := leAt b 0 4 == 0x4E494843 && leAt b 4 2 == 1 && decide (n ≤ 6144) && leAt b 12 4 == 0
      && decide (b.length ≥ 16 + n + 48)
      && leNat (slice b (16 + n) 48) == (Config.sha384 (b.take (16 + n))).toNat
    if ok then some (slice b 16 n) else none

/-- The read command of a mode, with its 4-byte-address form where SFDP reports it (02 R73). -/
def bootReadCmd (mode : Nat) (long : Bool) : Nat :=
  match mode, long with
  | 0, false => 0x03 | 1, false => 0x0B | 2, false => 0x6B | _, false => 0xEB
  | 0, true => 0x13 | 1, true => 0x0C | 2, true => 0x6C | _, true => 0xEC
/-- The commands of a boot store read (02 R73, 14 R431): reset, the SFDP tables, the regions. What fails is tried twice more, and
no region is read where the SFDP tables cannot be. -/
def State.bootCmds (s : State) (b : BootRead) : State :=
  let times := fun (ok : Bool) (c : Nat) (s : State) => (List.replicate (if ok then 1 else 3) c).foldl (fun (s : State) c => s.emit (.bootCmd c)) s
  let s := times b.sfdpOk 0x5A ((s.emit (.bootCmd 0x66)).emit (.bootCmd 0x99))
  if !b.sfdpOk then s
  else [b.hoofprint, b.repair, b.chain].foldl (fun (s : State) r => times r.isSome (bootReadCmd b.mode.toNat b.long) s) s

/-- Fawn has read the boot store (14 R431): FABRIC_POWER begins. -/
def State.bootRead (s : State) (b : BootRead) : State :=
  if s.fawn.phase > 1 || s.blk.power = 3 || s.fawn.fabricGood then s
  else
    let b := if b.sfdpOk then b else { sfdpOk := false }
    let ok := b.sfdpOk && b.hoofprint.isSome && b.repair.isSome && b.chain.isSome
    let s := s.bootCmds b
    let s := if ok then s else s.raise fwnUnit 0xE8 2 0 0 0 0
    let chain := chainOf b.chain
    let hoof := if regionEmpty b.hoofprint then none else b.hoofprint
    let s := { s with vault := { s.vault with hoofprint := hoof.map (fun (h : List Byte) => h.take 1552) },
                      fawn := { s.fawn with bootStoreOk := ok, hoofPresent := hoof.isSome, chainPresent := chain.isSome,
                                            boot := { b with chain := chain } } }
    (s.setPhase 2).power 2 0

/-- pc_fabric_good has risen and fclk is stable at point 8: fabric reset is released and the straps are sampled (14 R436,
02 R52, R53, 01 R37). -/
def State.fabricReleased (s : State) (tp : BitVec 256) (mp : BitVec 16) (lp : BitVec 64) : State :=
  if s.fawn.phase != 2 then s
  else
    let s := s.power 0 8
    let s := { s with blk := { s.blk with fclkPoint := 8, tick := 0, tickRunning := s.blk.timebaseOk, power := 2 },
                      fawn := { s.fawn with fabricGood := true, fclkStable := true } }
    let absent := fun (s : State) (i : Nat) => s.setPort i { s.port i with state := 3 }
    let s := ((List.range 256).filter fun i => !tp.getLsbD i).foldl absent s
    let s := ((List.range 16).filter fun p => !mp.getLsbD p).foldl (fun (s : State) p => absent s (mpPort p)) s
    let s := ((List.range 64).filter fun t => !lp.getLsbD t).foldl (fun (s : State) t =>
      (absent s (lpPort t)).setTine t { s.tine t with state := 6 }) s
    let s := if s.test.factory then { s with vault := { s.vault with state := 6 } } else s
    (s.emit (.bootPins false true)).setPhase 3

/-- pc_fabric_good has not risen in 10 ms: FABRIC_NOMINAL is repeated (14 R439). -/
def State.fabricLate (s : State) : State :=
  if s.fawn.phase = 2 && !s.fawn.fabricGood then (s.raise fwnUnit 0xE7 2 0 0 0 0).power 2 0 else s

/-- A repair record that may be applied (13 R416). -/
def repairOk (b : List Byte) : Bool :=
  let n := leAt b 6 2
  leAt b 0 4 == 0x52504152 && leAt b 4 2 == 1 && decide (n ≤ 4096) && leAt b 8 8 == 0 && decide (b.length ≥ 0x40 + 8 * n)
    && (List.range n).all (fun i => leAt b (0x10 + 8 * i) 8 / 2 ^ 52 == 0)
    && leNat (slice b (0x10 + 8 * n) 48) == (Config.sha384 (b.take (0x10 + 8 * n))).toNat

/-- A home slice that the repair record retires starts with its stand-in (13 R409, R416). -/
def State.retireHome (s : State) (h : Nat) : State :=
  match s.findSpare h with
  | some sp => (s.setHome h { s.home h with role := 3 }).setHome sp { s.home sp with role := 2, standsFor := h, mirrorOk := true }
  | none => s.unserved h h

/-- Apply an entry of the repair record. -/
def State.repairEntry (s : State) (e : Nat) : State :=
  let u := e % 4096
  let op := e / 2 ^ 12 % 16
  let i := u % 256
  if op = 3 && u / 256 = 1 && i < 128 then s.retireHome i
  else if op = 3 && u / 256 = 5 && i < 32 then s.setEngine i { s.engine i with offline := true }
  else if op = 2 && u / 256 = 1 && i < 136 then
    let k := e / 2 ^ 24 % 2048 * 16 + e / 2 ^ 44 % 16
    if (s.home i).disabled.contains k then s else s.setHome i { s.home i with disabled := (s.home i).disabled ++ [k] }
  else s

/-- Apply the repair record (13 R416). -/
def State.repairApply (s : State) : State :=
  if regionEmpty s.fawn.boot.repair then s
  else
    let b := s.fawn.boot.repair.getD []
    if repairOk b then
      let s := (List.range (leAt b 6 2)).foldl (fun (s : State) i => s.repairEntry (leAt b (0x10 + 8 * i) 8)) s
      { s with fawn := { s.fawn with repairValid := true } }
    else s.raise fwnUnit 0x81 2 0 0 0 0

/-- Whether a unit has no recovery, so that its failure ends a cold start (13 R396). -/
def noRecovery (u : Nat) : Bool :=
  let c := u / 256
  unitExists u && !(c == 1 || c == 2 || c == 3 || c == 4 || c == 5 || (c == 6 && u % 256 ≥ 1))

/-- The arrays' self-test has ended (14 R436, R439). -/
def State.selfTested (s : State) (failed : List Nat) : State :=
  if s.fawn.phase != 3 then s
  else
    let s := s.repairApply
    let s := failed.foldl (fun (s : State) u => s.unitFails u) s
    match failed.find? noRecovery with
    | some u => s.startFails (if u = vltUnit then 0xAA else if u = fwnUnit then 0xEA else 0xC8)
    | none => s.setPhase 4

/-- The writes of INITIALIZING are complete: SERVICE, with vector 0x0D; a chip of a pair waits for its partner (14 R436,
R446). -/
def State.initialized (s : State) : State :=
  if s.fawn.phase != 6 || s.fatal then s
  else
    let s := { s with fawn := { s.fawn with serviceTick := s.tick32, booted := true, initLeft := 0 } }
    let s := ((s.setPhase 7).mgIrq 0x0D)
    if s.blockRec.pairRole = 0 then s
    else
      let s := { s with pair := { s.pair with state := 1, stateTick := s.tick32, lastFrameTick := s.blk.tick, lastSetTick := s.blk.tick } }
      (s.mgIrq 0x0E).notice

/-! ### Firmware (14 R427, R432 to R435) -/

/-- Move FWN_FW_STATUS; every change of state raises vector 0x0D. -/
def State.fwSet (s : State) (st res : Nat) : State :=
  let was := s.fawn.fwState
  let s := { s with fawn := { s.fawn with fwState := st, fwResult := res } }
  if was = st then s else s.mgIrq 0x0D

/-- What the checks of a firmware image find: `none` where it is valid (14 R434). -/
def fwFault (b : List Byte) : Option Nat :=
  let n := leAt b 8 4
  if leAt b 0 4 != 0x4E574146 || leAt b 4 2 != 1 || leAt b 6 2 != 0 || n % 8 != 0 || n > 65536 || n < 0x50 || n != b.length
      || leAt b 0x12 6 != 0 then some 1
  else if leAt b 0x11 1 != 3 || leAt b 0x10 1 > 1 then some 3
  else if leNat (slice b (n - 48) 48) != (Config.sha384 (b.take (n - 48))).toNat then some 2
  else none

/-- CHECKING ends: VALID with its digest, or EMPTY with the failing check and kind 0xE9. -/
def State.fwCheck (s : State) : State :=
  if s.fawn.fwState != 2 then s
  else match fwFault s.fawn.staging with
    | none =>
      let d : Digest := BitVec.ofNat 384 (leNat (s.fawn.staging.drop (s.fawn.staging.length - 48)))
      ({ s with fawn := { s.fawn with stagedDigest := d } } : State).fwSet 3 0
    | some r => (({ s with fawn := { s.fawn with staging := [] } } : State).fwSet 0 r).raise fwnUnit 0xE9 1 0 0 0 0

/-- An operation of FWN_FW_CTRL (14 R433). -/
def State.fwOp (s : State) (op : Nat) : State :=
  let f := s.fawn
  match op, f.fwState with
  | 1, 0 | 1, 3 => ({ s with fawn := { f with staging := [], stagedDigest := 0 } } : State).fwSet 1 f.fwResult
  | 2, 1 => s.fwSet 2 f.fwResult
  | 3, 3 =>
    if f.phase = 4 then
      let s := { s with fawn := { f with fwDigest := f.stagedDigest, stagedDigest := 0, running := true, beat := false, missed := 0 } }
      (s.fwSet 5 f.fwResult).setPhase 5
    else s.fwSet 3 5
  | 4, 3 => if f.phase = 7 && f.fwTick ≥ s.blk.tick + 2 then s.fwSet 4 f.fwResult else s.fwSet 3 5
  | 5, 4 => s.fwSet 3 7
  | _, st => s.fwSet st 5

/-- A write of FWN_FW_DATA (14 R433). -/
def State.fwData (s : State) (d : Reg) : State :=
  let f := s.fawn
  if f.fwState != 1 then s.fwSet f.fwState 5
  else if f.staging.length + 8 > 65536 then ({ s with fawn := { f with staging := [] } } : State).fwSet 0 4
  else { s with fawn := { f with staging := f.staging ++ leBytes d.toNat 8 } }

/-- The vault derives again under the firmware now running (12 R369). -/
def State.firmwareKeys (s : State) : State := if s.vaultReady then s.deriveMeasured else s

/-- The handover at the commit step of its boundary (14 R435). -/
def State.handover (s : State) : State :=
  let f := s.fawn
  if f.fwState = 4 && f.fwTick ≤ s.blk.tick then
    let f' := { f with prevDigest := some f.fwDigest, fwDigest := f.stagedDigest, stagedDigest := 0, area := !f.area,
                       running := true, beat := false, missed := 0 }
    (({ s with fawn := f' } : State).fwSet 5 f.fwResult).firmwareKeys
  else s

/-- The firmware's heartbeat (14 R427, R433). -/
def State.heartbeat (s : State) : State :=
  let f := s.fawn
  if !f.running then s
  else
    let s := { s with fawn := { f with beat := true } }
    if f.fwState = 5 then
      ({ s with fawn := { s.fawn with fwGen := (f.fwGen + 1) % 65536, prevDigest := none, missed := 0 } } : State).fwSet 0 0
    else s

/-- 16 ticks of PROBATION without a heartbeat: the previous firmware restarts at the next boundary; with none, Fawn returns to
ROM in AWAIT_FIRMWARE (14 R427, R435). -/
def State.fwRevert (s : State) : State :=
  if s.fawn.fwState = 5 && s.fawn.missed ≥ 16 then
    let s := (s.fwSet 0 6).raise fwnUnit 0xE9 1 0 0 0 0
    let s := { s with fawn := { s.fawn with running := false, missed := 0, beat := false } }
    match s.fawn.prevDigest with
    | some _ => { s with fawn := { s.fawn with revertPending := true } }
    | none => ({ s with fawn := { s.fawn with fwDigest := 0 } } : State).setPhase 4
  else s

/-- The previous firmware restarts (14 R435). -/
def State.revertStep (s : State) : State :=
  if s.fawn.revertPending then
    let f := s.fawn
    ({ s with fawn := { f with revertPending := false, running := true, missed := 0, beat := false, area := !f.area,
                               fwDigest := f.prevDigest.getD 0, prevDigest := none } } : State).firmwareKeys
  else s

/-- Running firmware out of PROBATION has missed 16 heartbeats: kind 0xEA and ROM (14 R427). -/
def State.fawnFails (s : State) : State :=
  if s.fawn.running && s.fawn.fwState != 5 && s.fawn.missed ≥ 16 then
    ({ s with fawn := { s.fawn with running := false, missed := 0, beat := false } } : State).raise fwnUnit 0xEA 3 0 0 0 0
  else s

/-- The watch of the heartbeat at a boundary (14 R427). -/
def State.heartbeatTick (s : State) : State :=
  let f := s.fawn
  if !f.running then s
  else
    let s := { s with fawn := { f with missed := if f.beat then 0 else f.missed + 1, beat := false } }
    s.fwRevert.fawnFails

/-! ### Doze, Standby, wake (01 R46, R47, 14 R440 to R442) -/

/-- A write of BLK_POWER.request (01 R46): 3 is ignored. -/
def State.powerWrite (s : State) (v : Nat) : State :=
  if v = 3 then s else { s with blk := { s.blk with powerRequest := v, powerPending := v != 2 } }

/-- Whether R47 refuses a request for Doze or Standby, or power control is isolated (02 R85). -/
def State.powerRefused (s : State) : Bool :=
  (s.fncs.any fun f => f.1 != 0 && (f.2.state == 2 || f.2.state == 3)) || s.blockRec.pairRole != 0 || s.deltaArmed
    || s.recovering || s.stopped || (s.port pcPort).state == 2

/-- The request is refused (01 R47, 14 R440): a Doze entry under way ends. -/
def State.powerRefuse (s : State) : State :=
  let s := { s with blk := { s.blk with requestRefused := true, powerPending := false },
                    fawn := { s.fawn with dozeAt := none, standby := false } }
  let s := (List.range 16).foldl (fun (s : State) k =>
    if (s.mp k).srReq then (s.setMp k { s.mp k with srReq := false, srAck := false }).emit (.selfRefresh k false) else s) s
  s.xoffAll

/-- Raise mp_sr_req of every memory port that is up (14 R440, 02 R63). -/
def State.selfRefreshAll (s : State) : State :=
  (List.range 16).foldl (fun (s : State) k =>
    if s.portUp (mpPort k) && !(s.mp k).srReq then (s.setMp k { s.mp k with srReq := true }).emit (.selfRefresh k true) else s) s

/-- Standby (14 R442): the fabric loses its supply and Fawn its loaded firmware. -/
def State.enterStandby (s : State) : State :=
  let s := ((s.power 3 0).coldReset).emit (.bootPins true true)
  ({ s with blk := { s.blk with power := 0 }, fawn := { s.fawn.dropFirmware with phase := 0 } } : State).notice

/-- Doze (14 R440): vector 0x0F. -/
def State.enterDoze (s : State) : State :=
  let s := s.power 1 0
  let s := { s with blk := { s.blk with power := 1 }, fawn := { s.fawn with dozeAt := none, entryPoint := s.blk.fclkPoint } }
  (s.mgIrq 0x0F).notice

/-- The write buffers are empty and every outstanding memory request is answered (14 R440). -/
def State.memQuiet (s : State) : Bool :=
  s.mem.all (fun m => m.2.tags.isEmpty && m.2.waiting.isEmpty) && s.homes.all fun h => h.2.wbuf.isEmpty
/-- Every memory port in use has acknowledged self-refresh (14 R440). -/
def State.refreshed (s : State) : Bool :=
  (List.range 16).all fun k => !s.portUp (mpPort k) || ((s.mp k).srReq && (s.mp k).srAck)
/-- The steps of a Doze or Standby entry at a boundary (14 R440, R442). -/
def State.powerTick (s : State) : State :=
  match s.fawn.dozeAt with
  | some e =>
    if s.fawn.standby then (if s.blk.tick ≥ e + 2 then s.enterStandby else s)
    else if s.blk.tick ≥ e + 5 then
      if s.refreshed then s.enterDoze else s.powerRefuse
    else if s.blk.tick ≥ e + 2 && s.memQuiet then s.selfRefreshAll
    else s
  | none =>
    if !s.blk.powerPending then s
    else if s.powerRefused then s.powerRefuse
    else
      let s := { s with blk := { s.blk with powerPending := false },
                        fawn := { s.fawn with dozeAt := some s.blk.tick, standby := s.blk.powerRequest == 0 } }
      s.xoffAll

/-- The acknowledgements at E+4: an absent one refuses the entry (14 R440). -/
def State.selfRefreshCheck (s : State) (acks : BitVec 16) : State :=
  match s.fawn.dozeAt with
  | some e =>
    if s.fawn.standby || s.blk.tick < e + 4 then s
    else
      let s := (List.range 16).foldl (fun (s : State) k =>
        if (s.mp k).srReq then s.setMp k { s.mp k with srAck := acks.getLsbD k } else s) s
      if s.refreshed then s else s.powerRefuse
  | none => s

/-- Whether FWN_WAKE enables a wake source; the tick of the timer has to have come (14 R441). -/
def State.wakeEnabled (s : State) (src : WakeSource) : Bool :=
  match src with
  | .mgRequest => s.fawn.mgWake
  | .timer => s.fawn.timerWake && s.blk.power == 1 && s.tick32 == s.fawn.wakeTick
  | .effecter => true

/-- A wake source acts (14 R441, R442): Doze wakes with the supply and fclk; Standby begins a cold start at BOOT_STORE. -/
def State.wakeUp (s : State) (src : WakeSource) : State :=
  if !s.wakeEnabled src then s
  else if s.blk.power = 1 && s.fawn.waking.isNone then
    let s := s.power 2 0
    let p := if s.blk.parked then 8 else max s.blk.fclkLimit (max s.fawn.entryPoint (s.blk.fclkWanted.getD 0))
    let s := { s with fawn := { s.fawn with waking := some s.blk.tick }, blk := { s.blk with powerRequest := 2 } }
    s.fclkStart p
  else if s.blk.power = 0 then ({ s with blk := { s.blk with power := 2 } } : State).setPhase 1
  else s

/-- The ports are trained and the wake is complete (14 R441 step 4): a port that is not is held under 02 R63. -/
def State.wakeDone (s : State) (trained : BitVec 16) : State :=
  if s.blk.power != 1 || s.fawn.waking.isNone || s.blk.fclkChange.isSome then s
  else
    let s := { s with blk := { s.blk with power := 2 }, fawn := { s.fawn with waking := none } }
    let s := (List.range 16).foldl (fun (s : State) k =>
      if (s.port (mpPort k)).state != 1 then s
      else if trained.getLsbD k then s.setMp k { s.mp k with trained := true, trainedFell := none }
      else s.setMp k { s.mp k with trained := false, trainedFell := some s.blk.tick }) s
    ((s.mgIrq 0x0F).xoffAll).notice

/-- The package supply is removed (16 R484): Off. -/
def State.powerGone (s : State) : State :=
  { State.reset with blk := { power := 3 }, out := s.out, pending := s.pending, freeCount := s.freeCount, nextId := s.nextId }

/-- A write of FWN_LOCAL_PC with go (16 R482): an op that is on the wires already changes nothing. -/
def State.powerOp (s : State) (op arg : Nat) : State :=
  if s.blk.power = 3 || s.fawn.pcReg = op + arg * 8 then s else s.power op arg

/-! ### The commands -/

/-- TIMEBASE_LOST (01 R45). -/
def execTimebaseLost (s : State) : Host.Outcome State Fault Refusal := .next s.timebaseGone
/-- TICK_OFFSET_HIGH (01 R45). -/
def execTickOffsetHigh (s : State) : Host.Outcome State Fault Refusal := .next s.offsetHigh
/-- FCLK_CHANGE (01 R34, R35): Fawn changes the point at this boundary, or at the first at which it may. -/
def execFclkChange (point : BitVec 4) (s : State) : Host.Outcome State Fault Refusal :=
  .next (if s.pointOk point.toNat && s.blk.power != 3 then (s.fclkWant point.toNat).fclkBoundary else s)
/-- FCLK_STABLE (01 R34). -/
def execFclkStable (s : State) : Host.Outcome State Fault Refusal := .next s.fclkIsStable
/-- FCLK_UNSTABLE (01 R34). -/
def execFclkUnstable (s : State) : Host.Outcome State Fault Refusal := .next s.fclkFails
/-- THERMAL_RAISE (01 R48). -/
def execThermalRaise (s : State) : Host.Outcome State Fault Refusal := .next s.thermalUp.fclkBoundary
/-- THERMAL_THROTTLE (01 R48). -/
def execThermalThrottle (s : State) : Host.Outcome State Fault Refusal := .next s.thermalDown.fclkBoundary
/-- THERMAL_PARK (01 R48). -/
def execThermalPark (s : State) : Host.Outcome State Fault Refusal := .next (if s.thermalCode = 3 then s.parkTrip else s)
/-- THERMAL_TRIP (01 R48). -/
def execThermalTrip (s : State) : Host.Outcome State Fault Refusal := .next (if s.thermalCode = 4 then s.parkTrip else s)
/-- THERMAL_SAMPLE (02 R79, 14 R428). -/
def execThermalSample (k : BitVec 6) (v : BitVec 12) (s : State) : Host.Outcome State Fault Refusal :=
  .next (if s.blk.power = 3 then s else s.thermalSample k.toNat v.toInt)
/-- SUPPLY_SAMPLE (02 R79, 14 R428, R429). -/
def execSupplySample (m : BitVec 5) (v : BitVec 12) (s : State) : Host.Outcome State Fault Refusal :=
  .next (if s.blk.power = 3 then s else s.supplySample m.toNat v.toNat)
/-- SENSOR_STALE (02 R79). -/
def execSensorStale (supply : Bool) (k : BitVec 6) (s : State) : Host.Outcome State Fault Refusal :=
  .next (if s.blk.power = 3 then s else s.sensorStale supply k.toNat)
/-- FAWN_POWER_ON_RESET (14 R423, R436, 16 R484). -/
def execFawnPowerOnReset (s : State) : Host.Outcome State Fault Refusal := .next s.fawnReset
/-- BOOT_STORE_READ (14 R430, R431). -/
def execBootStoreRead (b : BootRead) (s : State) : Host.Outcome State Fault Refusal := .next (s.bootRead b)
/-- FABRIC_GOOD (14 R436, 02 R52). -/
def execFabricGood (tp : BitVec 256) (mp : BitVec 16) (lp : BitVec 64) (s : State) : Host.Outcome State Fault Refusal :=
  .next (s.fabricReleased tp mp lp)
/-- FABRIC_GOOD_TIMEOUT (14 R439). -/
def execFabricGoodTimeout (s : State) : Host.Outcome State Fault Refusal := .next s.fabricLate
/-- SELF_TEST_COMPLETE (14 R436, R439, 13 R416). -/
def execSelfTestComplete (failed : List (BitVec 12)) (s : State) : Host.Outcome State Fault Refusal :=
  .next (s.selfTested (failed.map (·.toNat)))
/-- INITIALIZATION_COMPLETE (14 R437, R436). -/
def execInitializationComplete (s : State) : Host.Outcome State Fault Refusal := .next s.initialized
/-- FCLK_POINT (02 R78, 01 R34 to R36): Fawn asks for a point, and the op is driven at the first boundary at which the change may
start; codes 9 to 15 are no points. -/
def execFclkPoint (arg : BitVec 4) (s : State) : Host.Outcome State Fault Refusal :=
  .next (if s.pointOk arg.toNat && s.blk.power != 3 then s.fclkWant arg.toNat else s)
/-- FABRIC_RETENTION (02 R78). -/
def execFabricRetention (s : State) : Host.Outcome State Fault Refusal := .next (s.powerOp 1 0)
/-- FABRIC_NOMINAL (02 R78). -/
def execFabricNominal (s : State) : Host.Outcome State Fault Refusal := .next (s.powerOp 2 0)
/-- FABRIC_OFF (02 R78). -/
def execFabricOff (s : State) : Host.Outcome State Fault Refusal := .next (s.powerOp 3 0)
/-- SUPPLY_REMOVE (02 R78). -/
def execSupplyRemove (s : State) : Host.Outcome State Fault Refusal := .next (s.powerOp 4 0)
/-- FW_OPEN (14 R433). -/
def execFwOpen (s : State) : Host.Outcome State Fault Refusal := .next (s.mgWrite true fun s => s.fwOp 1)
/-- FW_DATA (14 R433). -/
def execFwData (d : Reg) (s : State) : Host.Outcome State Fault Refusal := .next (s.mgWrite true fun s => s.fwData d)
/-- FW_CLOSE (14 R433). -/
def execFwClose (s : State) : Host.Outcome State Fault Refusal := .next (s.mgWrite true fun s => s.fwOp 2)
/-- FW_CHECK_COMPLETE (14 R434). -/
def execFwCheckComplete (s : State) : Host.Outcome State Fault Refusal := .next s.fwCheck
/-- FW_START (14 R433). -/
def execFwStart (s : State) : Host.Outcome State Fault Refusal := .next (s.mgWrite true fun s => s.fwOp 3)
/-- FW_ARM (14 R433). -/
def execFwArm (s : State) : Host.Outcome State Fault Refusal := .next (s.mgWrite true fun s => s.fwOp 4)
/-- FW_CANCEL (14 R433). -/
def execFwCancel (s : State) : Host.Outcome State Fault Refusal := .next (s.mgWrite true fun s => s.fwOp 5)
/-- FW_HANDOVER (14 R435). -/
def execFwHandover (s : State) : Host.Outcome State Fault Refusal := .next s.handover
/-- FAWN_HEARTBEAT (14 R427, 16 R482). -/
def execFawnHeartbeat (s : State) : Host.Outcome State Fault Refusal := .next s.heartbeat
/-- FW_REVERT (14 R435). -/
def execFwRevert (s : State) : Host.Outcome State Fault Refusal := .next s.fwRevert
/-- FAWN_FAILED (14 R427). -/
def execFawnFailed (s : State) : Host.Outcome State Fault Refusal := .next s.fawnFails
/-- DOZE_REQUEST (14 R440): a write of Doze to BLK_POWER.request. -/
def execDozeRequest (s : State) : Host.Outcome State Fault Refusal := .next (s.mgWrite false fun s => s.powerWrite 1)
/-- DOZE_SELF_REFRESH_CHECK (14 R440). -/
def execDozeSelfRefreshCheck (acks : BitVec 16) (s : State) : Host.Outcome State Fault Refusal := .next (s.selfRefreshCheck acks)
/-- STANDBY_REQUEST (14 R442): a write of Standby to BLK_POWER.request. -/
def execStandbyRequest (s : State) : Host.Outcome State Fault Refusal := .next (s.mgWrite false fun s => s.powerWrite 0)
/-- WAKE (14 R441, R442). -/
def execWake (src : WakeSource) (s : State) : Host.Outcome State Fault Refusal := .next (s.wakeUp src)
/-- WAKE_COMPLETE (14 R441). -/
def execWakeComplete (trained : BitVec 16) (s : State) : Host.Outcome State Fault Refusal := .next (s.wakeDone trained)
/-- POWER_REMOVAL (16 R484). -/
def execPowerRemoval (s : State) : Host.Outcome State Fault Refusal := .next s.powerGone

end Sys2Proof.Machine
end

