-- ==== Sys2Proof/Machine/Layout.lean ====
section
/-! DEFINITION. What every register of the management window reads (16 R479), by window, and the words of the ownership,
context, object, fence and fence-page tables (03 R98, 11 R338, R343, R347, R351). A register is its value and whether it
permits 32-bit access. -/

namespace Sys2Proof.Machine

/-! ### Tables -/

/-- An ownership entry (03 R98). -/
def OwnEntry.word (e : OwnEntry) : Reg :=
  rput e.slice 0 7 ||| rput e.fn 7 12 ||| rput e.key 19 13 ||| rput e.fmt 32 4 ||| rflag e.guarded 36 ||| rflag e.dirtyLog 37
    ||| rflag e.rd 38 ||| rflag e.wr 39 ||| rflag e.amo 40 ||| rflag e.host 41 ||| rflag e.sliceWide 42 ||| rflag e.pub 43
    ||| rput e.gstate 44 2 ||| rput e.group 46 8
/-- The entry a word spells. -/
def ownOf (w : Reg) : OwnEntry :=
  let b := fun (i : Nat) => bit w.toNat i
  { slice := field w 0 7, fn := field w 7 12, key := field w 19 13, fmt := field w 32 4, guarded := b 36, dirtyLog := b 37,
    rd := b 38, wr := b 39, amo := b 40, host := b 41, sliceWide := b 42, pub := b 43, gstate := field w 44 2,
    group := field w 46 8 }

/-- Words 0 to 2 of a context table entry (11 R338). -/
def CtxRec.words (c : CtxRec) : List Reg :=
  [rput c.state 0 2 ||| rput c.slot 8 7 ||| rput c.fn 16 12 ||| rput c.slice 28 7 ||| rput c.key 35 13 ||| rput c.asid 48 16,
   rput c.fenceFirst 0 12 ||| rput c.fencePages 12 13 ||| rput c.lostVec 25 11 ||| rflag c.lostIrq 36 ||| rput c.lostCause 40 8,
   BitVec.ofNat 64 c.lostTick]
/-- A context that words 0 to 2 spell, keeping its usage. -/
def CtxRec.ofWords (c : CtxRec) (w0 w1 w2 : Reg) : CtxRec :=
  { c with state := field w0 0 2, slot := field w0 8 7, fn := field w0 16 12, slice := field w0 28 7, key := field w0 35 13,
           asid := field w0 48 16, fenceFirst := field w1 0 12, fencePages := field w1 12 13, lostVec := field w1 25 11,
           lostIrq := bit w1.toNat 36, lostCause := field w1 40 8, lostTick := w2.toNat }

/-- The two words of an object table entry (11 R343). -/
def ObjRec.words (o : ObjRec) : List Reg :=
  [rput o.state 0 2 ||| rput o.fn 8 12 ||| rput o.gen 20 16 ||| rput o.ctx 36 16 ||| rflag o.ctxValid 52,
   rput o.first 0 20 ||| rput o.count 20 21]
/-- The object that two words spell. -/
def objOf (w0 w1 : Reg) : ObjRec :=
  { state := field w0 0 2, fn := field w0 8 12, gen := field w0 20 16, ctx := field w0 36 16, ctxValid := bit w0.toNat 52,
    first := field w1 0 20, count := field w1 20 21 }

/-- The fence record that two words spell (11 R347). -/
def fenceOf (w0 w1 : Reg) : FenceRec :=
  { value := w0, state := field w1 0 2, source := field w1 8 4, detail := field w1 16 8, armer := field w1 32 16,
    pending := field w1 48 8 }

/-- A fence page entry (11 R351). -/
def FPage.word (p : FPage) : Reg :=
  rput p.owner 25 12 ||| rput p.reader 37 12 ||| rput p.peer 49 2 ||| rput p.vec 51 11 ||| rflag p.irqEn 62
/-- The fence page entry a word spells. -/
def fpageOf (w : Reg) : FPage :=
  { owner := field w 25 12, reader := field w 37 12, peer := field w 49 2, vec := field w 51 11, irqEn := bit w.toNat 62 }

/-- FNC_CFG (03 R111). -/
def FncRec.cfg (r : FncRec) : Reg :=
  rput r.slice 0 7 ||| rflag r.harvest 7 ||| rput r.ctxSlots 8 7 ||| rput r.keySlots 16 14 ||| rput r.jobShare 32 8
    ||| rput r.deadline 40 8
/-- The fields of FNC_CFG that a word spells. -/
def FncRec.withCfg (r : FncRec) (w : Reg) : FncRec :=
  { r with slice := field w 0 7, harvest := bit w.toNat 7, ctxSlots := field w 8 7, keySlots := field w 16 14,
           jobShare := field w 32 8, deadline := field w 40 8 }

/-- QOS_CLASS (06 R211). -/
def QosClass.word (c : QosClass) : Reg := rput c.bw 0 8 ||| rput c.lat 8 16
/-- The class a word spells. -/
def qosClassOf (w : Reg) : QosClass := { bw := field w 0 8, lat := field w 8 16 }
/-- QOS_SLICE (06 R211). -/
def QosSlice.word (c : QosSlice) : Reg :=
  rput c.weight 0 8 ||| rput c.occCap 8 8 ||| rput c.slotMin 16 8 ||| rput c.slotMax 24 8 ||| rput c.loadRate 32 8
/-- The slice values a word spells. -/
def qosSliceOf (w : Reg) : QosSlice :=
  { weight := field w 0 8, occCap := field w 8 8, slotMin := field w 16 8, slotMax := field w 24 8, loadRate := field w 32 8 }

/-! ### Registers -/

/-- A register: whether it is marked status, and what it reads. -/
abbrev RegVal := Option (Bool × Reg)
/-- A status register. -/
def stat (r : Reg) : RegVal := some (true, r)
/-- A register without 32-bit access. -/
def plain (r : Reg) : RegVal := some (false, r)
/-- A number as a register. -/
def reg (n : Nat) : Reg := BitVec.ofNat 64 n
/-- A tick's low 32 bits in the upper half. -/
def hi32 (t : Nat) : Reg := rput t 32 32
/-- Word k of a number. -/
def word64 (v k : Nat) : Reg := BitVec.ofNat 64 (v >>> (64 * k))
/-- Word k of a byte buffer. -/
def bufWord (b : List Byte) (k : Nat) : Reg := BitVec.ofNat 64 (leAt b (8 * k) 8)
/-- The index of an array of registers at `base`, `n` of them, `step` apart, that an offset names. -/
def idx (o base step n : Nat) : Option Nat := if o < base || o ≥ base + step * n || (o - base) % step ≥ 8 then none else some ((o - base) / step)

/-- A busy bit, a result and an apply tick, as the command status registers lay them out. -/
def cmdStatus (busy : Bool) (result tick : Nat) : Reg := rflag busy 0 ||| rput result 4 4 ||| hi32 tick

/-- BLK_PORT_STATE (02 R87). -/
def PortSt.reg (p : PortSt) : Reg :=
  rput p.state 0 2 ||| rput p.cause 8 8 ||| rflag p.reenable 16 ||| rflag p.reenableRefused 17 ||| hi32 p.isolateTick
/-- BLK_CLOCK (01 R36). -/
def State.clockReg (s : State) : Reg :=
  rput s.blk.fclkPoint 0 4 ||| rput s.blk.fclkLimit 8 4 ||| rput s.fclkPerTick 16 12 ||| rflag s.blk.timebaseOk 28
    ||| rflag s.blk.fclkChange.isSome 29
/-- BLK_TICK_OFFSET (01 R44). -/
def State.offsetReg (s : State) : Reg := rput s.blk.offsetNs.toNat 0 16 ||| rflag s.offsetValid 16
/-- BLK_POWER (01 R46). -/
def State.powerReg (s : State) : Reg :=
  rput s.blk.power 0 2 ||| rput s.blk.powerRequest 8 2 ||| rflag s.blk.requestRefused 16

/-- The BLK window. -/
def State.blkRegs (s : State) (o : Nat) : RegVal :=
  match o with
  | 0 => stat (reg blkVersion)
  | 8 => plain (reg s.blk.tick)
  | 0x10 => stat s.clockReg
  | 0x18 => stat s.offsetReg
  | 0x20 => plain s.powerReg
  | _ => (idx o 0x1000 8 358).bind fun i => stat (s.port i).reg

/-- IMG_STATUS (04 R139). -/
def State.imgStatus (s : State) : Reg :=
  rput s.img.state 0 3 ||| rput s.img.result 8 8 ||| rflag s.img.kind 16 ||| rput s.img.drainWorst 32 16
/-- The IMG window. -/
def State.imgRegs (s : State) (o : Nat) : RegVal :=
  match o with
  | 0 | 8 => plain 0
  | 0x10 => stat s.imgStatus
  | 0x18 => plain (rput s.img.errOffset 0 32 ||| rput s.img.errType 32 16)
  | 0x20 => plain (reg s.img.lastCommit)
  | _ => (idx o 0x40 8 24).bind fun k =>
    let d := [s.img.activeDigest, s.img.measure, s.img.bootDigest, s.img.stagedDigest].getD (k / 6) 0
    plain (word64 d.toNat (k % 6))

/-- SLC_OWN_STATUS (03 R110). `remaining` counts the granules that the last ownership command put in CLEANING, not those of
RESET with erase or REMOVE (DESIGN CHOICE, log entry 175). -/
def State.ownStatus (s : State) : Reg :=
  cmdStatus s.slc.busy s.slc.result s.slc.applyTick ||| rput (s.cleaning.filter (·.forCmd)).length 8 21
/-- A word of a share group (03 R104). -/
def Share.word (x : Share) (k : Nat) : Reg := word64 (if k < 2 then x.members.toNat else x.writers.toNat) (k % 2)
/-- The SLC window. -/
def State.slcRegs (s : State) (o : Nat) : RegVal :=
  match o with
  | 0 => plain (reg (s.blockRec.ownBase % 2 ^ 44))
  | 8 => plain (reg (s.blockRec.dirtyBase % 2 ^ 44))
  | 0x10 => plain s.slc.arg
  | 0x18 => plain 0
  | 0x20 => stat s.ownStatus
  | _ => (idx o 0x1020 8 1020).bind fun k => plain ((tget (tget {} s.slc.share (k / 4 + 1)) s.slc.shareStaged (k / 4 + 1)).word (k % 4))

/-- FNC_STATUS (03 R112). -/
def FncRec.statusReg (r : FncRec) : Reg := rput r.state 0 3 ||| rflag r.busy 3 ||| rput r.result 4 4 ||| hi32 r.stateTick
/-- The FNC window. -/
def State.fncRegs (s : State) (o : Nat) : RegVal :=
  if o / 0x20 ≥ 4096 then none
  else match o % 0x20 with
    | 0 => let r := s.fnc (o / 0x20); plain { r with harvest := r.harvestPending.getD r.harvest }.cfg
    | 8 => plain 0
    | 0x10 => stat (s.fnc (o / 0x20)).statusReg
    | _ => none

/-- HSL_HOME_TIMEOUT (05 R173). -/
def HomeTimeout.reg (h : HomeTimeout) : Reg := rput h.localTicks 0 4 ||| rput h.remoteTicks 8 4
/-- The home set of a slice as the mask of HSL_HOMESET (05 R182). -/
def State.homeSetMask (s : State) (sl : Nat) : Nat :=
  if sl = 0 then 2 ^ 128 - 1
  else maskOf 128 fun n => (s.sliceRec sl).isSome && s.inHomeSet sl n
/-- HSL_STATUS (05 R182): a spare coming up reads idle (13 R408). -/
def State.homeStatus (s : State) (h : Nat) : Reg :=
  let x := s.home h
  let role := if s.comingUp h then 1 else x.role
  let bud := if role = 1 then 0 else (s.buddy h).getD 0
  rput role 0 3 ||| rput (if role = 2 then x.standsFor else 0) 8 8 ||| rput bud 16 8 ||| rflag x.mirrorOk 24
    ||| rput (min 2048 (x.lines.filter fun l => l.2.dirty).length) 32 12 ||| rput x.epoch 48 8
/-- HSL_RW_STATUS (08 R276). -/
def State.winStatus (s : State) (w : Nat) : Reg :=
  let x := s.win w
  let done := (x.shadows.filter fun b => b.2.lo ≥ x.count && b.2.hi ≥ x.count).length
  rput x.state 0 3 ||| rput (if x.state = 0 then 0 else x.slice) 8 7 ||| rput (if x.state = 0 then 0 else x.fn) 16 12
    ||| rput x.lastReason 28 4 ||| rput (if x.state = 0 then 0 else done) 32 17
/-- The HSL window. -/
def State.hslRegs (s : State) (o : Nat) : RegVal :=
  if o = 0 then plain s.homeTimeout.reg
  else if o = 8 then plain (rput s.rw.shadowWays 0 3 ||| rput s.rw.mergeHold 8 8)
  else match idx o 0x1000 8 256, idx o 0x2000 0x40 136, idx o 0x5000 8 128, idx o 0x5400 8 128, idx o 0x6000 8 2048 with
    | some k, _, _, _, _ => plain (word64 (s.homeSetMask (k / 2)) (k % 2))
    | _, some h, _, _, _ => plain (s.homeStatus h)
    | _, _, some i, _, _ => plain (tget 0 s.rw.seeds i)
    | _, _, _, some i, _ => plain (reg (tget 16 s.rw.limits i))
    | _, _, _, _, some w => stat (s.winStatus w)
    | _, _, _, _, _ => none

/-- MPT_GUARD_STATUS (07 R247). -/
def State.guardStatus (s : State) : Reg :=
  let lost := s.mpt.lostMask.toNat
  rput lost 0 16 ||| rflag (lost != 0 && s.own.any fun e => e.2.guarded) 16 ||| rflag (!s.mpt.suspects.isEmpty) 17
    ||| rput (min s.mpt.rebuilt (2 ^ 32 - 1)) 32 32
/-- MPT_KEY_STATUS (07 R246). -/
def State.retireStatus (s : State) : Reg :=
  rflag s.mpt.keyPending.isSome 0 ||| rput s.mpt.keyResult 8 4 ||| rput (s.keys.filter fun k => k.2.state == 2).length 16 5
    ||| rput s.mpt.lastZeroized 32 13
/-- The MPT window. -/
def State.mptRegs (s : State) (o : Nat) : RegVal :=
  match o with
  | 0 => plain 0
  | 8 => stat s.retireStatus
  | 0x10 => stat s.guardStatus
  | _ => (idx o 0x100 8 16).bind fun p => plain (s.mp p).errReg

/-- TIN_CTRL as it is written (10 R335). -/
def TinState.ctrl (t : TinState) : Reg :=
  rput t.udpPort 16 16 ||| rput t.ctlPrio 32 3 ||| rput t.rto 36 8 ||| rput t.retxMax 44 4 ||| rput t.transferDeadline 48 4
    ||| rput t.pathWindow 52 8 ||| rput t.udpPaths 60 2
/-- TIN_PRIO (10 R335). -/
def TinState.prio (t : TinState) : Reg :=
  let p := fun (k : Nat) => rput (t.txPrio.getD k 0) (16 + 4 * k) 3
  rput t.rxClass.toNat 0 16 ||| p 0 ||| p 1 ||| p 2 ||| p 3
/-- TIN_STATUS (10 R335). -/
def TineSt.status (x : TineSt) : Reg :=
  rput x.state 0 3 ||| rput x.carries 8 6 ||| rput x.seenChip 16 3 ||| rput x.seenTine 24 6 ||| rput x.cause 32 8
    ||| rput (min x.discarded (2 ^ 24 - 1)) 40 24
/-- The members of the herd with an up herd tine. -/
def State.membersUp (s : State) : Nat :=
  maskOf 8 fun c => s.tines.any fun t => t.2.state == 2 && (s.tineRec t.2.carries).peerKind == 1
    && (s.tineRec t.2.carries).peerChip == c
/-- TIN_HERD_STATUS (10 R335). -/
def State.herdStatus (s : State) : Reg :=
  rput s.membersUp 0 8 ||| rput s.tin.lost.toNat 8 8 ||| rput s.tin.reference 16 3 ||| rflag s.tin.joined 19
/-- The registers of an SA slot, by word. -/
def SaSt.regAt (a : SaSt) (k : Nat) : RegVal :=
  match k with
  | 0 => plain a.cfg
  | 1 => plain a.tines
  | 2 => plain (word64 a.peer.toNat 0)
  | 3 => plain (word64 a.peer.toNat 1)
  | 4 => stat (rput a.state 0 3 ||| hi32 a.stateTick)
  | 5 => plain (reg a.pn)
  | 6 => plain a.sci
  | _ => none
/-- The TIN window. -/
def State.tinRegs (s : State) (o : Nat) : RegVal :=
  match o with
  | 0 => plain ((s.tin.ctrlStaged.getD s.tin.ctrl &&& ~~~(0xFFFF : Reg)) ||| rput (if s.blockRec.ethertype = 0 && s.img.applied then 0x88B5 else s.blockRec.ethertype) 0 16)
  | 8 => plain (s.tin.prioStaged.getD s.tin.prio)
  | 0x10 => plain 0
  | 0x18 => stat (cmdStatus s.tin.saPending.isSome s.tin.saResult s.tin.saApplyTick)
  | 0x20 => stat s.herdStatus
  | 0x30 => plain (word64 s.tin.ipv6.toNat 0)
  | 0x38 => plain (word64 s.tin.ipv6.toNat 1)
  | _ =>
    match idx o 0x1000 8 256, idx o 0x4000 8 2048, idx o 0x8040 8 1016 with
    | some k, _, _ =>
      let x := s.tine (k / 4)
      (match k % 4 with
        | 0 => stat x.status
        | 1 => plain x.localReg
        | 2 => plain x.nexthop
        | _ => plain x.latency)
    | _, some k, _ => (s.sa (k / 8)).regAt (k % 8)
    | _, _, some k => plain (tget 0 s.tin.targets (k + 8))
    | _, _, _ => none

/-- QOS_CTRL (06 R211). -/
def Qos.ctrl (q : Qos) : Reg := rput q.holdRate 0 4 ||| rput q.holdAge 8 4 ||| rput q.rampDown 12 4 ||| rput q.rttLimit 16 16
/-- QOS_MP_STATE (06 R211). -/
def State.mpState (s : State) (p : Nat) : Reg :=
  let m := s.mp p
  rput (s.mpMode p) 0 2 ||| rput m.throttle 2 2 ||| rput m.qlevel 4 4 ||| rput (min m.tags.length 256) 8 9 ||| rflag m.implausible 17
    ||| rflag m.restore 18 ||| rput (s.holdCause p) 24 3 ||| rput (min m.rtt (2 ^ 32 - 1)) 32 32
/-- QOS_URGENCY (06 R211). -/
def State.urgReg (s : State) (n : Nat) : Reg :=
  let u := s.urg n
  let r := (s.urgRec n).getD {}
  rput (if u.floating then 0 else u.level) 0 3 ||| rflag u.floating 3 ||| rflag (s.urgRec n).isSome 4 ||| rput r.slice 8 7
    ||| rput r.master 16 2 ||| rput r.tine 18 6 ||| rput (min u.at7 (2 ^ 32 - 1)) 32 32
/-- QOS_MEASURE (06 R211). -/
def QosMeasure.reg (m : QosMeasure) : Reg :=
  rput (min m.latency 0xFFFF) 0 16 ||| rput m.ramp 16 2 ||| rflag m.unmet 18 ||| rflag m.scaled 19
    ||| rput (min m.served (2 ^ 32 - 1)) 32 32
/-- The QOS window. -/
def State.qosRegs (s : State) (o : Nat) : RegVal :=
  match o with
  | 0 => plain s.qos.ctrl
  | 8 => plain (rflag s.qos.armed 0 ||| rput s.qos.armResult 2 4 ||| hi32 s.qos.armApplyTick)
  | 0x10 => plain (reg s.qos.armTick)
  | _ =>
    match idx o 0x100 8 16, idx o 0x200 8 16, idx o 0x1080 8 2032 with
    | some p, _, _ => stat (s.mpState p)
    | _, some n, _ => stat (s.urgReg n)
    | _, _, some k =>
      let sl := k / 16 + 1
      let j := k % 16
      if j < 4 then plain (s.qcls sl j).word
      else if j = 4 then plain (s.qsl sl).word
      else if 8 ≤ j && j < 12 then stat (tget {} s.qos.measure (sl * 4 + (j - 8))).reg
      else none
    | _, _, _ => none

/-- A status register of the vault (12 R388). -/
def VltCmd.reg (c : VltCmd) : Reg := cmdStatus c.pending.isSome c.result c.applyTick ||| rput c.id 8 13
/-- VLT_STATE (12 R388). -/
def Vault.stateReg (v : Vault) : Reg :=
  rput v.state 0 3 ||| rput v.rootTries 4 2 ||| rflag v.certMatch 6 ||| rflag v.entropyOk 7 ||| rput v.aliasGen 16 16 ||| hi32 v.readyTick
/-- VLT_AGREE_STATUS (12 R388). -/
def State.agreeStatus (s : State) : Reg :=
  let c := s.vault.agreeCmd
  (List.range 9).foldl (fun (a : Reg) p => a ||| rput (s.peer p).state (2 * p) 2) 0
    ||| rflag (c.pending.isSome || s.vault.enrolling.isSome) 24 ||| rput c.result 28 4 ||| hi32 c.applyTick
/-- VLT_SLOT_STATE (12 R388). -/
def KeySt.slotReg (k : KeySt) : Reg :=
  rput k.state 0 2 ||| rput k.usage 2 4 ||| rflag true 6 ||| rflag k.unusable 7 ||| rput k.slice 8 7 ||| rflag k.staged 15
    ||| rput k.fn 16 12 ||| rput k.loadCount 32 16
/-- The VLT window. -/
def State.vltRegs (s : State) (o : Nat) : RegVal :=
  let v := s.vault
  match o with
  | 0 => stat v.stateReg
  | 8 | 0x18 | 0x28 | 0x38 => plain 0
  | 0x10 => stat v.keyCmd.reg
  | 0x20 => stat v.saCmd.reg
  | 0x30 => stat s.agreeStatus
  | _ =>
    match idx o 0x100 8 18, idx o 0x200 8 6, idx o 0x1000 8 32, idx o 0x2000 8 256, idx o 0x2800 8 256, idx o 0x3000 8 256,
        idx o 0x4000 8 128, idx o 0x6000 8 1024, idx o 0x10000 8 8192 with
    | some k, _, _, _, _, _, _, _, _ => plain (word64 (s.peerId (k / 2)).toNat (k % 2))
    | _, some k, _, _, _, _, _, _, _ => plain (word64 v.measure.toNat k)
    | _, _, some _, _, _, _, _, _, _ => plain 0
    | _, _, _, some k, _, _, _, _, _ => plain (bufWord v.agreeOut k)
    | _, _, _, _, some _, _, _, _, _ => plain 0
    | _, _, _, _, _, some k, _, _, _ => plain (bufWord v.hoofOut k)
    | _, _, _, _, _, _, some k, _, _ => plain (bufWord v.importCert k)
    | _, _, _, _, _, _, _, some k, _ => plain (bufWord v.certBuf k)
    | _, _, _, _, _, _, _, _, some k => stat (s.key k).slotReg
    | _, _, _, _, _, _, _, _, _ => none

/-- Entry i of the fault history (13 R399): the ring of 32 in the order of writing. -/
def Flt.histAt (f : Flt) (i : Nat) : Msg :=
  let n := f.hist.length
  let next := f.histTotal % 32
  let back := (next + 31 - i) % 32
  if back < n then f.hist.getD (n - 1 - back) 0 else 0
/-- FLT_STATUS (13 R422). -/
def State.fltStatus (s : State) : Reg :=
  let used := (s.flt.recs.filter fun r => r.2.state == 1 || r.2.state == 2).length
  rput (if s.fatal then 2 else if s.recovering then 1 else 0) 0 2 ||| rput used 2 4 ||| rput s.flt.dump 6 2
    ||| rflag s.test.factory 8 ||| hi32 (s.flt.fatal.getD 0)
/-- FLT_ALERT (13 R422). -/
def Flt.alertReg (f : Flt) : Reg := rflag f.hold 0 ||| rflag f.low 1 ||| rput f.cls 2 2 ||| hi32 f.alertTick
/-- FLT_RECOVERY (13 R422). -/
def Recovery.reg (r : Recovery) : Reg :=
  rput r.state 0 2 ||| rput r.kind 2 3 ||| rput r.unit 5 12 ||| rput r.step 17 3 ||| rflag r.overrun 20 ||| hi32 r.startTick
/-- FLT_KIND_CFG (13 R422). -/
def KindCfg.reg (k : KindCfg) : Reg := rflag k.irq 0 ||| rflag k.noAlert 1 ||| rput k.ceLimit 8 8 ||| rflag k.act 16
/-- FLT_UNIT_STATUS (13 R422). -/
def Flt.unitStatus (f : Flt) : Reg :=
  cmdStatus (f.unitCmd.isSome || f.unitRunning) f.unitResult f.unitTick ||| rput f.unitId 8 12
/-- The bytes of the dump, in the dump region or Fawn's copy (13 R420). -/
def State.dumpWord (s : State) : Reg := if s.flt.dump ≥ 2 then BitVec.ofNat 64 (leAt s.flt.dumpBytes s.flt.dumpAddr 8) else 0
/-- The FLT window. -/
def State.fltRegs (s : State) (o : Nat) : RegVal :=
  let f := s.flt
  let first := match f.first with | some x => x.1 | none => (0 : Msg)
  match o with
  | 0 => stat s.fltStatus
  | 8 => plain f.alertReg
  | 0x10 => plain (word64 first.toNat 0)
  | 0x18 => plain (word64 first.toNat 1)
  | 0x20 => plain (reg (match f.first with | some x => x.2 | none => 0))
  | 0x28 => plain (rflag f.first.isSome 0 ||| rput f.minClass 2 2)
  | 0x30 => stat (rput f.histTotal 0 5 ||| hi32 f.histTotal)
  | 0x38 => plain f.countReg
  | 0x40 | 0x60 => plain 0
  | 0x48 => stat f.unitStatus
  | 0x50 => plain (reg f.dumpAddr)
  | 0x58 => plain s.dumpWord
  | 0x68 => stat (rput (min f.repairs.length 64) 0 7 ||| rflag f.repairOverflow 7)
  | _ =>
    match idx o 0x100 8 64, idx o 0x300 8 8, idx o 0x400 8 64, idx o 0x800 8 256 with
    | some k, _, _, _ => plain (word64 (f.histAt (k / 2)).toNat (k % 2))
    | _, some r, _, _ => stat (s.recAt r).reg
    | _, _, some k, _ => plain (f.repairs.getD k 0)
    | _, _, _, some k => plain (s.kindCfg k).reg
    | _, _, _, _ => none

/-- OBS_STOP_CTRL (15 R477). -/
def Obs.stopCtrl (b : Obs) : Reg :=
  rflag b.tickEn 0 ||| rflag b.faultEn 1 ||| rput b.stopClass 2 2 ||| rflag b.markerEn 4 ||| rflag b.wfgOnStop 5 ||| rflag b.resume 6
    ||| rput b.markerSlice 8 7 ||| rput b.maxTicks 16 16 ||| rput b.markerMatch.toNat 32 32
/-- The entry OBS_RING_SEL selects (15 R470, R477). -/
def Obs.ringEntry (b : Obs) : Msg := (tget [] b.rings (b.ringSel % 4096)).getD (b.ringSel / 4096 % 16) 0
/-- OBS_SEL (15 R477). -/
def selReg (x : Reg) : Reg := (x &&& 0x1FFFFFFF) ||| rflag (bit x.toNat 28 && selInvalid x) 29
/-- The OBS window. -/
def State.obsRegs (s : State) (o : Nat) : RegVal :=
  let b := s.obs
  match o with
  | 0 => stat (rput b.stopState 0 2 ||| rflag b.stopRefused 2 ||| rput (min b.taintedCount 0xFFFF) 8 16
      ||| rput (min b.unbound (2 ^ 32 - 1)) 32 32)
  | 8 => plain b.stopCtrl
  | 0x10 => plain (reg b.stopTick)
  | 0x18 => plain (reg b.cntTick)
  | 0x20 => plain 0
  | 0x28 => stat (rput b.wfgState 0 2 ||| hi32 b.wfgTick)
  | 0x30 => plain (reg b.wfgAddr)
  | 0x38 => plain (BitVec.ofNat 64 (leAt b.wfg b.wfgAddr 8))
  | 0x40 => plain (rput b.ringSel 0 16)
  | 0x48 => plain (word64 b.ringEntry.toNat 0)
  | 0x50 => plain (word64 b.ringEntry.toNat 1)
  | _ =>
    match idx o 0x1000 8 64, idx o 0x1400 8 64, idx o 0x2000 8 64, idx o 0x10000 8 16384 with
    | some n, _, _, _ => plain (selReg (tget (tget 0 b.sels n) b.selsStaged n))
    | _, some n, _, _ => plain (tget ({} : Counter) b.selCnt n).reg
    | _, _, some t, _ => stat (let m := tget (0, 0) b.smear t; rput (min m.1 0xFFFF) 0 16 ||| rput m.2 32 32)
    | _, _, _, some k => plain (tget ({} : Counter) b.cnt k).reg
    | _, _, _, _ => none

/-- JOB_ENGINE_STATUS (09 R302). -/
def State.engineReg (s : State) (e : Nat) : Reg :=
  let r := s.jobRec e
  let n := (s.jobs.filter fun j => j.engine == some e).length
  let st := if (s.engine e).offline then 2 else if r.use = 2 then 3 else if n = 0 then 0 else 1
  rput st 0 2 ||| rflag (r.use == 1) 2 ||| rput (if r.use = 1 then r.owner else 0) 3 7 ||| rput (min n 16) 16 5 ||| rput (s.engine e).epoch 32 8
/-- The registers of a slice's sequence window. -/
def SeqWin.regAt (w : SeqWin) (k : Nat) : RegVal :=
  match k with
  | 0 => plain (rput w.first 0 20 ||| rput w.granules 20 20 ||| rput w.fmt 40 4 ||| rput w.shift 44 4)
  | 1 => plain (rput w.seqFirst 0 18 ||| rput w.seqCount 18 19)
  | 2 => plain 0
  | _ => stat (rput w.state 0 2 ||| rput w.result 4 4 ||| rput (w.free.foldl (fun a r => a + r.2) 0) 32 26)
/-- Jobs of a function queued or started. -/
def State.jobsHeld (s : State) (f : Nat) : Nat := (s.jobs.filter fun j => j.fn == f).length
/-- The JOB window. -/
def State.jobRegs (s : State) (o : Nat) : RegVal :=
  match idx o 0x100 8 32, idx o 0x1020 8 508, idx o 0x8000 8 4096 with
  | some e, _, _ => stat (s.engineReg e)
  | _, some k, _ => (s.seqw (k / 4 + 1)).regAt (k % 4)
  | _, _, some f => plain (rput (s.fnc f).jobDepth 0 13 ||| rput (s.jobsHeld f) 16 13)
  | _, _, _ => none

/-- CTX_SLOT (11 R358). -/
def State.ctxSlotReg (s : State) (c : Nat) : Reg :=
  match (s.slot c).ctx with
  | none => 0
  | some x =>
    let r := s.ctx x
    let b := mget? s.bindings c
    let first := match b with | some b => b.first | none => 0
    let last := match b with | some b => b.first + b.count - 1 | none => 0
    rput x 0 16 ||| rflag true 16 ||| rflag b.isSome 17 ||| rflag (r.state == 3) 18 ||| rflag (s.slot c).armed 19 ||| rput r.fn 20 12
      ||| rput r.asid 32 16 ||| rput first 48 8 ||| rput last 56 8
/-- The CTX window. -/
def State.ctxRegs (s : State) (o : Nat) : RegVal :=
  match o with
  | 0 => plain (reg (s.blockRec.ctxBase % 2 ^ 44))
  | 8 => plain 0
  | 0x10 => stat (cmdStatus s.ctxWin.pending.isSome s.ctxWin.result s.ctxWin.applyTick)
  | _ => (idx o 0x1000 8 96).bind fun c => stat (s.ctxSlotReg c)

/-- FWN_STARTUP (14 R455). -/
def Fawn.startup (f : Fawn) : Reg :=
  rput f.phase 0 4 ||| rput f.error 8 8 ||| rflag f.bootStoreOk 16 ||| rflag f.hoofPresent 17 ||| rflag f.repairValid 18
    ||| rflag f.chainPresent 19 ||| hi32 f.serviceTick
/-- FWN_FW_STATUS (14 R455). -/
def Fawn.fwStatus (f : Fawn) : Reg := rput f.fwState 0 3 ||| rput f.fwResult 8 4 ||| rflag f.area 16 ||| rput f.fwGen 32 16
/-- A signed value in 12 bits. -/
def int12 (v : Int) : Nat := (BitVec.ofInt 12 v).toNat
/-- FWN_THERMAL (14 R455). -/
def State.thermalReg (s : State) : Reg :=
  let (h, d) := s.hottest.getD (0, 0)
  rput (int12 h) 0 12 ||| rput d 12 3 ||| rput (s.fawn.sensors.filter fun x => x.2.valid).length 16 7 ||| rput s.fawn.action 24 3
/-- FWN_WAKE (14 R455). -/
def Fawn.wakeReg (f : Fawn) : Reg := rflag f.mgWake 0 ||| rflag f.timerWake 1 ||| hi32 f.wakeTick
/-- FWN_SENSOR (14 R455). -/
def SensorSt.reg (x : SensorSt) : Reg :=
  rput (int12 x.filtered) 0 12 ||| rput (int12 x.raw) 12 12 ||| rflag x.valid 24 ||| rflag x.outOfRange 25 ||| hi32 x.updateTick
/-- The FWN window. -/
def State.fwnRegs (s : State) (o : Nat) : RegVal :=
  let f := s.fawn
  match o with
  | 0 => stat f.startup
  | 8 | 0x10 => plain 0
  | 0x18 => stat f.fwStatus
  | 0x20 => plain (reg f.fwTick)
  | 0x28 => stat s.thermalReg
  | 0x30 => plain f.wakeReg
  | _ =>
    match idx o 0x40 8 12, idx o 0x100 8 64, idx o 0x300 8 32, idx o 0x400 8 32 with
    | some k, _, _, _ => plain (word64 (if k < 6 then f.fwDigest else f.stagedDigest).toNat (k % 6))
    | _, some k, _, _ => stat (s.sensor k).reg
    | _, _, some m, _ => let x := s.supply m; stat (rput x.median 0 12 ||| rflag x.valid 12 ||| rflag x.outside 13)
    | _, _, _, some m => let x := s.supply m; plain (rput x.low 0 12 ||| rput x.high 16 12)
    | _, _, _, _ => none

/-- Whether a tine is up. -/
def State.tineUp (s : State) (t : Nat) : Bool := (s.tine t).state == 2
/-- PAIR_STATUS (14 R456). -/
def State.pairStatus (s : State) : Reg :=
  let p := s.pair
  let b := s.blockRec
  let has := b.pairRole != 0
  rput p.state 0 3 ||| rput b.pairRole 3 2 ||| rput (if p.state = 0 then 0 else min 255 (s.blk.tick - p.lastSet)) 8 8
    ||| rflag (has && s.tineUp b.tineA) 16 ||| rflag (has && s.tineUp b.tineB) 17 ||| hi32 p.stateTick
/-- The PAIR window. -/
def State.pairRegs (s : State) (o : Nat) : RegVal :=
  match o with
  | 0 => stat s.pairStatus
  | 8 => plain 0
  | 0x10 => stat (cmdStatus s.pair.pending.isSome s.pair.result s.pair.applyTick)
  | 0x18 => plain (reg s.pair.lastSet)
  | _ => (idx o 0x40 8 6).bind fun k => plain (word64 s.pair.digest.toNat k)

/-- The bases of the windows (16 R479). -/
def windowBases : List Nat :=
  [0, 0x10000, 0x100000, 0x200000, 0x400000, 0x800000, 0x900000, 0xA00000, 0xB00000, 0xC00000, 0xD00000, 0xE00000, 0xF00000,
   0x1000000, 0x1100000, 0x1200000]
/-- The window of an offset, by its number in the order of R479, and the offset in it. -/
def mgWindow (a : Nat) : Nat × Nat :=
  let n := (windowBases.filter (· ≤ a)).length - 1
  (n, a - windowBases.getD n 0)

/-- The register at an offset of the management window, none where there is none (16 R479, 00 R11). -/
def State.mgReg (s : State) (a : Nat) : RegVal :=
  if a % 8 != 0 then none
  else
    let (n, o) := mgWindow a
    match n with
    | 0 => s.blkRegs o | 1 => s.imgRegs o | 2 => s.slcRegs o | 3 => s.fncRegs o | 4 => s.hslRegs o | 5 => s.mptRegs o
    | 6 => s.tinRegs o | 7 => s.qosRegs o | 8 => s.vltRegs o | 9 => s.fltRegs o | 10 => s.obsRegs o | 11 => s.jobRegs o
    | 12 => s.ctxRegs o | 13 => s.fwnRegs o | 14 => s.pairRegs o | _ => none

end Sys2Proof.Machine
end

