-- ==== Sys2Proof/Machine/Pair.lean ====
section
/-! DEFINITION. The mirrored pair (14 R445 to R453, R456): sets of mirrored changes and their records, the states of
PAIR_STATUS, SYNC, the mirror's application, the loss of the partner, TAKEOVER. -/

namespace Sys2Proof.Machine

/-! ### Mirrored items (14 R445, R448)

An item is named type * 2^40 + index, its value the body of its record. -/

/-- The name of an item. -/
def itemKey (type i : Nat) : Nat := type * 2 ^ 40 + i
/-- Bytes of registers. -/
def regBytes (ws : List Reg) : List Byte := ws.flatMap fun w => leBytes w.toNat 8

/-- The body of an item's record as the state gives it. -/
def State.itemBody (s : State) (k : Nat) : List Byte :=
  let i := k % 2 ^ 40
  match k / 2 ^ 40 with
  | 3 => leBytes i 4 ++ leBytes 1 4 ++ regBytes [(s.ownAt i).word]
  | 4 => leBytes i 2 ++ leBytes (s.fnc i).state 1 ++ leBytes 0 1 ++ regBytes [(s.fnc i).cfg]
  | 5 => leBytes i 2 ++ leBytes (s.key i).fn 2 ++ leBytes (s.key i).state 1 ++ leBytes 0 3
  | 6 => leBytes i 2 ++ leBytes 0 6 ++ regBytes (s.ctx i).words
  | 7 => leBytes i 4 ++ leBytes 0 4 ++ regBytes (s.obj i).words
  | 8 => leBytes i 4 ++ leBytes 0 4 ++ regBytes [(s.fence i).value, (s.fence i).word1]
  | 9 => leBytes i 2 ++ leBytes 0 6 ++ regBytes [(s.fpage i).word]
  | 10 =>
    let v := match ({ s with slc := { s.slc with shareStaged := [] } } : State).mgReg i with | some r => r.2 | none => 0
    leBytes i 4 ++ leBytes 0 4 ++ regBytes [if i ≥ 0xE08000 then v &&& 0x1FFF else v]
  | _ => []

/-- The registers of R445 that do not read their reset values, as offsets of the management window. -/
def State.mirrorRegs (s : State) : List Nat :=
  s.slc.share.flatMap (fun (g : Nat × Share) => (List.range 4).map fun k => 0x101000 + 32 * g.1 + 8 * k)
    ++ s.rw.seeds.map (fun x => 0x405000 + 8 * x.1) ++ s.rw.limits.map (fun x => 0x405400 + 8 * x.1)
    ++ s.qos.classes.map (fun x => 0xA01000 + 0x80 * (x.1 / 4) + 8 * (x.1 % 4))
    ++ s.qos.slices.map (fun x => 0xA01020 + 0x80 * x.1)
    ++ (s.fncs.filter fun f => f.2.jobDepth != 0).map (fun f => 0xE08000 + 8 * f.1)

/-- Every mirrored item that does not hold its reset value. -/
def State.mirrorItems (s : State) : Map (List Byte) :=
  let ks := s.own.map (fun x => itemKey 3 x.1) ++ s.fncs.map (fun x => itemKey 4 x.1)
    ++ (s.keys.filter fun x => x.1 != 0 && x.1 != 8191).map (fun x => itemKey 5 x.1) ++ s.ctxs.map (fun x => itemKey 6 x.1)
    ++ s.objs.map (fun x => itemKey 7 x.1) ++ s.fences.map (fun x => itemKey 8 x.1) ++ s.fpages.map (fun x => itemKey 9 x.1)
    ++ s.mirrorRegs.map (fun o => itemKey 10 o)
  ks.foldl (fun (m : Map (List Byte)) k => mput m k (s.itemBody k)) []

/-- The items whose values differ between two tables. -/
def itemDiff (old new : Map (List Byte)) : List Nat :=
  (new.filter fun x => mget? old x.1 != some x.2).map (·.1) ++ (old.filter fun x => (mget? new x.1).isNone).map (·.1)

/-- A record. -/
def mrec (type : Nat) (body : List Byte) : MirrorRec := { type := BitVec.ofNat 8 type, body := body }
/-- Join ownership records of neighbouring granules with one entry. -/
def joinOwn : List MirrorRec → MirrorRec → List MirrorRec
  | [], r => [r]
  | p :: ps, r =>
    if p.type = 3 && r.type = 3 && leAt p.body 0 4 + leAt p.body 4 4 == leAt r.body 0 4 && p.body.drop 8 == r.body.drop 8 then
      mrec 3 (leBytes (leAt p.body 0 4) 4 ++ leBytes (leAt p.body 4 4 + 1) 4 ++ r.body.drop 8) :: ps
    else r :: p :: ps

/-- An image stream in records of at most 4,096 B. -/
def imageData (bs : List Byte) : List MirrorRec :=
  (List.range ((bs.length + 4095) / 4096)).map fun k => mrec 1 (leBytes (4096 * k) 4 ++ slice bs (4096 * k) 4096)
/-- An IMAGE_OP record. -/
def imageOp (op result tick : Nat) (d : Digest) : MirrorRec :=
  mrec 2 (leBytes op 1 ++ leBytes result 1 ++ leBytes 0 2 ++ leBytes tick 8 ++ digestBytes d)

/-- What happened to the image since the last set, as records (04 R148): in a sweep the active image and an armed one. -/
def State.imageRecs (s : State) : List MirrorRec :=
  if s.pair.sweeping then
    imageData (s.img.active.canonical ++ digestBytes s.img.activeDigest) ++ [imageOp 3 0 s.img.lastCommit s.img.activeDigest]
      ++ (match s.img.staged with
        | some d => if s.deltaArmed then imageData s.img.staging ++ [imageOp 1 0 d.commitTick d.result] else []
        | none => [])
  else s.img.events.flatMap fun e => imageData e.stream ++ [imageOp e.op e.result e.tick e.digest]

/-- Close set N: the changes of the tick that ends (14 R447). After SYNC the shadow is empty, and the set is the sweep. -/
def State.pairCollect (s : State) : State :=
  if !s.mirroring then s
  else
    let items := s.mirrorItems
    let recs := ((itemDiff s.pair.shadow items).foldl (fun (l : List MirrorRec) k => joinOwn l (mrec (k / 2 ^ 40) (s.itemBody k))) []).reverse
    { s with pair := { s.pair with changes := mput s.pair.changes s.blk.tick (s.imageRecs ++ recs), shadow := items,
                                   sweepSet := if s.pair.sweeping then some s.blk.tick else s.pair.sweepSet, sweeping := false },
             img := { s.img with events := [] } }

/-! ### Sending (14 R447, R448) -/

/-- The tines that carry the mirror links and are up. -/
def State.mirrorTines (s : State) : List Nat :=
  let b := s.blockRec
  (List.range 64).filter fun t => (s.tine t).state == 2 && ((s.tine t).carries == b.tineA || (s.tine t).carries == b.tineB)
/-- An ACTIVE pair SA in a direction. -/
def State.pairSaUp (s : State) (tx : Bool) : Bool := s.sas.any fun a => a.2.kind == 2 && a.2.state == 2 && a.2.tx == tx

/-- Pack records into frames of at most 8,192 B. -/
def packRecs : List MirrorRec → Nat → List MirrorRec → List (List MirrorRec)
  | [], _, acc => [acc.reverse]
  | r :: rs, n, acc =>
    let k := 4 + r.body.length
    if n + k > 8192 && !acc.isEmpty then acc.reverse :: packRecs rs k [r] else packRecs rs (n + k) (r :: acc)

/-- Send one frame under the pair SA on the mirror tines in turn (10 R314, 14 R447). -/
def State.mirrorOut (s : State) (i : Nat) (f : MirrorFrame) : State :=
  match s.mirrorTines, s.pairSa with
  | t :: ts, some n =>
    let k := (t :: ts).getD (i % (ts.length + 1)) t
    match s.sealFrame n k { prio := BitVec.ofNat 3 s.tin.ctlPrio, mirror := some f } with
    | (s, some f) => s.emitCtl k (.tineTx k f)
    | (s, none) => s
  | _, _ => s

/-- The primary sends the oldest set that waits. -/
def State.mirrorSend (s : State) : State :=
  match s.pair.changes with
  | [] => s
  | (n, recs) :: rest =>
    if !s.mirroring || s.mirrorTines.isEmpty || !s.pairSaUp true || n ≥ s.blk.tick then s
    else
      let fs := packRecs recs 0 []
      let sweep := s.pair.sweepSet == some n
      let frame := fun (i : Nat) (rs : List MirrorRec) =>
        ({ setTick := BitVec.ofNat 64 n, index := BitVec.ofNat 16 i, last := i + 1 == fs.length, sweep := sweep, sweepEnds := sweep,
           senderState := BitVec.ofNat 3 s.pair.state, recs := rs } : MirrorFrame)
      let s' := (List.range fs.length).foldl (fun (s : State) i => s.mirrorOut i (frame i (fs.getD i []))) s
      { s' with pair := { s'.pair with changes := rest, sentTick := n } }

/-! ### States (14 R446, R451) -/

/-- Move PAIR_STATUS; vector 0x0E. -/
def State.pairGo (s : State) (st : Nat) : State :=
  (({ s with pair := { s.pair with state := st, stateTick := s.tick32 } } : State).mgIrq 0x0E).notice

/-- The write of PAIR_CMD (14 R456). -/
def State.pairWrite (s : State) (op : Nat) : State :=
  if s.pair.pending.isSome then { s with pair := { s.pair with result := 6 } }
  else { s with pair := { s.pair with pending := some op } }

/-- Whether SYNC passes: what the partner last reported, if it has, is WAITING or PARTNER_LOST. -/
def State.syncOk (s : State) : Bool :=
  s.blockRec.pairRole == 1 && (s.pair.state == 1 || s.pair.state == 4) && s.tin.joined && s.pairSaUp true && s.pairSaUp false
    && (s.pair.partnerState == 0 || s.pair.partnerState == 1 || s.pair.partnerState == 5)

/-- SYNC at tick S: the sweep starts (14 R450). -/
def State.syncStart (s : State) : State :=
  ({ s with pair := { s.pair with shadow := [], changes := [], sweeping := true, sweepSet := none, lastFrameTick := s.blk.tick },
            img := { s.img with events := [] } } : State).pairGo 2

/-- A fence that was awaited when the primary was lost (14 R452). -/
def State.fenceTaken (s : State) (i : Nat) : State :=
  (s.setFence i { s.fence i with value := fenceDead, state := 3, source := 4, detail := 0x10, pending := 0 }).fencePageIrq i

/-- TAKEOVER at boundary D (14 R452). -/
def State.takeover (s : State) : State :=
  let s := ((s.fences.filter fun x => x.2.state == 1 || x.2.pending != 0).map (·.1)).foldl (fun (s : State) i => s.fenceTaken i) s
  let s := ((s.objs.filter fun o => o.2.state == 2).map (·.1)).foldl (fun (s : State) o =>
    (s.objGstate (s.obj o) 2 1).setObj o { state := 0, gen := (s.obj o).gen }) s
  let s := { s with bindings := [] }
  let s := if s.deltaArmed then s.imgEmpty 0 else s
  let s := { s with pair := { s.pair with rxSets := [], rxImage := [] } }
  let s := s.pairGo 6
  let s := ((s.fncs.filter fun f => f.2.state == 5 || f.2.state == 6).map (·.1)).foldl (fun (s : State) f =>
    s.tearStart f ((s.fnc f).state == 6) false) s
  let gs := (s.own.filter fun e => e.2.gstate == 1 && e.2.fn != 0).map (·.1)
  let s := gs.foldl (fun (s : State) g => s.setOwn g { s.ownAt g with gstate := 3 }) (s.dropOwn fun _ => true)
  s.queueClean gs .zeroing false

/-- Examine a pending pair command at a boundary (14 R446, R456). -/
def State.pairApply (s : State) : State :=
  match s.pair.pending with
  | none => s
  | some op =>
    let done := fun (s : State) (r : Nat) =>
      ({ s with pair := { s.pair with pending := none, result := r, applyTick := s.tick32 } } : State)
    if op = 1 then (if s.syncOk then done s.syncStart 0 else done s 1)
    else if op = 2 then (if s.blockRec.pairRole == 2 && s.pair.state == 5 then done s.takeover 0 else done s 1)
    else done s 5

/-- The partner is lost (14 R451): 4 ticks without a frame (primary) or a complete set (mirror). -/
def State.pairLost (s : State) : State :=
  let p := s.pair
  let last := if s.blockRec.pairRole = 1 then p.lastFrameTick else p.lastSetTick
  if (p.state == 2 || p.state == 3) && s.blk.tick ≥ last + 5 then
    let s := s.raise pairUnit 0x91 2 0 0 0 0
    if s.blockRec.pairRole = 1 then
      ({ s with pair := { s.pair with changes := [], partnerState := 0, sweeping := false } } : State).pairGo 4
    else ({ s with pair := { s.pair with rxSets := [], sweeping := false, sweepEnded := false } } : State).pairGo 5
  else s

/-- Sets lag (14 R447): kind 0x90, once per episode. -/
def State.pairLag (s : State) : State :=
  let p := s.pair
  if s.blockRec.pairRole == 2 && (p.state == 3 || (p.state == 2 && p.sweepEnded)) && s.blk.tick ≥ p.lastSet + 6 then
    if p.lagRaised then s else ({ s with pair := { p with lagRaised := true } } : State).raise pairUnit 0x90 1 0 0 0 0
  else { s with pair := { p with lagRaised := false } }

/-! ### The mirror's side (14 R447, R449, R450) -/

/-- The configuration an image stream produces, with this chip's own BLOCK record. -/
def State.mirrorCfg (s : State) (bs : List Byte) : ImgCfg :=
  let fin := bs.length - 48
  let rs := (imgWalk bs fin (bs.length / 8) 136).1
  let start : ImgCfg := if leAt bs 6 2 = 1 then s.img.active else {}
  let c : ImgCfg := rs.foldl (fun (c : ImgCfg) r => c.put r) start
  { c with block := s.img.active.block }

/-- The primary's image was armed, cancelled, committed, or its commit failed. -/
def State.mirrorImage (s : State) (b : List Byte) : State :=
  let op := leAt b 0 1
  let tick := leAt b 4 8
  let d : Digest := BitVec.ofNat 384 (leAt b 12 48)
  let bs := s.pair.rxImage
  let mk := fun (c : ImgCfg) => ({ delta := leAt bs 6 2 == 1, commitTick := tick, drainLead := leAt bs 0x20 2, base := 0, result := c.digest,
                                   cfg := c, slicesTouched := c.slices.map (·.1) } : Staged)
  if op = 1 then
    if leNat (slice bs 0x28 48) != s.pair.digest.toNat then s.raise pairUnit 0x90 1 0 0 0 0
    else
      let x := mk (s.mirrorCfg bs)
      { s with img := { s.img with state := 4, result := 0, kind := true, staged := some x, stagedDigest := x.result } }
  else if op = 3 then
    let s := match s.img.staged with
      | some x => if s.img.state = 4 then (s.putCfg x).imgEmpty 0 else s.putCfg (mk (s.mirrorCfg bs))
      | none => if leAt bs 6 2 = 1 then s else s.putCfg (mk (s.mirrorCfg bs))
    ({ s with pair := { s.pair with digest := d } } : State).settle
  else if s.img.state = 4 then s.imgEmpty (leAt b 1 1) else s

/-- A context's record: its slot follows. -/
def State.mirrorCtx (s : State) (x : Nat) (w0 w1 w2 : Reg) : State :=
  let old := s.ctx x
  let new := old.ofWords w0 w1 w2
  let s := if old.slot < 96 && (s.slot old.slot).ctx == some x then s.setSlot old.slot {} else s
  let s := s.setCtx x (if new.state = 0 then {} else new)
  if (new.state == 2 || new.state == 3) && new.slot < 96 then s.setSlot new.slot { ctx := some x } else s

/-- Replace a word of a share group. -/
def Share.withWord (x : Share) (k : Nat) (d : Reg) : Share :=
  let put := fun (m : BitVec 128) =>
    if k % 2 = 0 then BitVec.ofNat 128 (m.toNat / 2 ^ 64 * 2 ^ 64 + d.toNat) else BitVec.ofNat 128 (m.toNat % 2 ^ 64 + d.toNat * 2 ^ 64)
  if k < 2 then { x with members := put x.members } else { x with writers := put x.writers }

/-- A register of R445 takes a value. -/
def State.mirrorReg (s : State) (o : Nat) (d : Reg) : State :=
  match idx o 0x101020 8 1020, idx o 0x405000 8 128, idx o 0x405400 8 128, idx o 0xA01080 8 2032, idx o 0xE08000 8 4096 with
  | some k, _, _, _, _ =>
    let g := k / 4 + 1
    { s with slc := { s.slc with share := tset {} s.slc.share g ((tget ({} : Share) s.slc.share g).withWord (k % 4) d) } }
  | _, some i, _, _, _ => { s with rw := { s.rw with seeds := tset 0 s.rw.seeds i d } }
  | _, _, some i, _, _ => { s with rw := { s.rw with limits := tset 16 s.rw.limits i d.toNat } }
  | _, _, _, some k, _ =>
    let sl := k / 16 + 1
    if k % 16 < 4 then { s with qos := { s.qos with classes := tset {} s.qos.classes (sl * 4 + k % 16) (qosClassOf d) } }
    else if k % 16 = 4 then { s with qos := { s.qos with slices := tset {} s.qos.slices sl (qosSliceOf d) } } else s
  | _, _, _, _, some f => s.setFnc f { s.fnc f with jobDepth := field d 0 13 }
  | _, _, _, _, _ => s

/-- A key ID's record (14 R449): an ACTIVE one is loaded by this chip's own vault, a RETIRING one is retired. -/
def State.mirrorKey (s : State) (k fn st : Nat) : State :=
  let r := s.key k
  if st = 1 && r.state == 0 && !r.staged && s.vaultReady then s.stageKey k fn
  else if st = 2 && r.state == 1 then s.markKey k true
  else s

/-- Apply one record (14 R448, R449). A function the primary holds ENABLED, QUIESCING or QUIESCED is QUIESCED here. -/
def State.mirrorRec (s : State) (r : MirrorRec) : State :=
  let b := r.body
  let w := fun (o : Nat) => BitVec.ofNat 64 (leAt b o 8)
  match r.type.toNat with
  | 1 =>
    let o := leAt b 0 4
    let old := if o = 0 then [] else s.pair.rxImage
    { s with pair := { s.pair with rxImage := old.take o ++ b.drop 4 } }
  | 2 => s.mirrorImage b
  | 3 => forRange (leAt b 0 4) (fun g (s : State) => s.setOwn g (ownOf (w 8))) (leAt b 4 4) s
  | 4 =>
    let f := leAt b 0 2
    let st := leAt b 2 1
    let x := (s.fnc f).withCfg (w 4)
    if f = 0 then s
    else if st = 0 && w 4 == 0x400000000000 then s.setFnc f {}
    else s.setFnc f { x with state := if st = 2 || st = 3 || st = 4 then 4 else st, stateTick := s.tick32 }
  | 5 => s.mirrorKey (leAt b 0 2) (leAt b 2 2) (leAt b 4 1)
  | 6 => s.mirrorCtx (leAt b 0 2) (w 8) (w 16) (w 24)
  | 7 => s.setObj (leAt b 0 4) (objOf (w 8) (w 16))
  | 8 => s.setFence (leAt b 0 4) (fenceOf (w 8) (w 16))
  | 9 => s.setFpage (leAt b 0 2) (fpageOf (w 8))
  | 10 => s.mirrorReg (leAt b 0 4) (w 8)
  | _ => s

/-- The mirrored state is emptied before a sweep is applied (14 R450). -/
def State.mirrorEmpty (s : State) : State :=
  let s := if s.img.state = 4 then s.imgEmpty 0 else s
  { s with own := [], fncs := s.fncs.filter (fun f => f.1 == 0), keys := s.keys.filter (fun k => k.1 == 0 || k.1 == 8191),
           ctxs := [], slots := [], objs := [], fences := [], fpages := [],
           slc := { s.slc with share := [], shareStaged := [] }, rw := { s.rw with seeds := [], limits := [] },
           qos := { s.qos with classes := [], slices := [], classesStaged := [], slicesStaged := [] },
           pair := { s.pair with rxImage := [] } }

/-- Whether every frame of a set has arrived. -/
def RxSet.complete (x : RxSet) : Bool :=
  match x.lastIndex with
  | some n => (List.range (n + 1)).all fun i => (x.frames.find? (·.1 == i)).isSome
  | none => false
/-- The records of a complete set in order. -/
def RxSet.recs (x : RxSet) : List MirrorRec :=
  (List.range ((x.lastIndex.getD 0) + 1)).flatMap fun i => match x.frames.find? (·.1 == i) with | some f => f.2 | none => []

/-- The set the mirror applies next: the sweep's, then each in turn. -/
def State.nextSet (s : State) : Option RxSet :=
  if s.pair.sweeping then s.pair.rxSets.find? (·.ends)
  else s.pair.rxSets.find? fun x => x.tick == s.pair.lastSet + 1

/-- Apply the next set if it is complete, and say so to the primary (14 R447). -/
def State.mirrorApplyOne (s : State) : State :=
  match s.nextSet with
  | none => s
  | some x =>
    if s.blockRec.pairRole != 2 || !(s.pair.state == 2 || s.pair.state == 3) || !x.complete then s
    else
      let s := if x.ends then s.mirrorEmpty else s
      let s := x.recs.foldl (fun (s : State) r => s.mirrorRec r) s
      let go := s.pair.state == 2 && s.pair.sweepEnded && !x.ends
      let s := { s with pair := { s.pair with lastSet := x.tick, rxSets := s.pair.rxSets.filter fun (y : RxSet) => y.tick > x.tick,
                                              sweeping := s.pair.sweeping && !x.ends, sweepEnded := x.ends } }
      let s := if go then s.pairGo 3 else s
      let f : MirrorFrame := { setTick := BitVec.ofNat 64 x.tick, last := true, senderState := BitVec.ofNat 3 s.pair.state }
      if s.pairSaUp true then s.mirrorOut x.tick f else s

/-- The mirror begins to follow a sweep at a boundary (14 R446). -/
def State.sweepBegins (s : State) : State :=
  if s.blockRec.pairRole == 2 && s.pair.sweeping && (s.pair.state == 1 || s.pair.state == 5) then
    ({ s with pair := { s.pair with sweepEnded := false, lastSetTick := s.blk.tick } } : State).pairGo 2
  else s

/-- Every set that is complete is applied at a boundary. -/
def State.mirrorApply (s : State) : State :=
  let s := s.sweepBegins
  (List.range s.pair.rxSets.length).foldl (fun (s : State) _ => s.mirrorApplyOne) s

/-- Enter a frame in the set it belongs to. -/
def State.rxPut (s : State) (f : MirrorFrame) : State :=
  let n := f.setTick.toNat
  let old := (s.pair.rxSets.find? fun (x : RxSet) => x.tick == n).getD ({ tick := n, frames := [] } : RxSet)
  let i := f.index.toNat
  let frames := if old.frames.any fun x => x.1 == i then old.frames else old.frames ++ [(i, f.recs)]
  let x : RxSet := { old with frames := frames, lastIndex := if f.last then some i else old.lastIndex, ends := old.ends || f.sweepEnds }
  let rest := s.pair.rxSets.filter fun (y : RxSet) => y.tick != n
  let sets := (rest.filter fun (y : RxSet) => y.tick < n) ++ [x] ++ rest.filter fun (y : RxSet) => y.tick > n
  { s with pair := { s.pair with rxSets := sets, lastSetTick := if x.complete then s.blk.tick else s.pair.lastSetTick } }

/-- A MIRROR frame of the partner is taken (14 R447, R448, R453). -/
def State.mirrorRx (s : State) (f : MirrorFrame) : State :=
  let role := s.blockRec.pairRole
  let st := s.pair.state
  if role = 0 || st = 0 || s.fatal then s
  else
    let s := { s with pair := { s.pair with partnerState := f.senderState.toNat, lastFrameTick := s.blk.tick } }
    if role = 1 then
      if st = 4 then (if f.senderState = 6 then s.raise pairUnit 0x91 2 0 0 0 0 else s)
      else if st = 2 || st = 3 then { s with pair := { s.pair with lastSet := max s.pair.lastSet f.setTick.toNat } }
      else s
    else if st = 6 then s
    else if st = 2 || st = 3 then
      if f.setTick.toNat ≤ s.pair.lastSet && !s.pair.sweeping then s else s.rxPut f
    else if f.sweep then ({ s with pair := { s.pair with sweeping := true } } : State).rxPut f
    else if s.pair.sweeping then s.rxPut f
    else s

/-- A MIRROR frame arrives: it is admitted under the pair SA by 10 R316, on a mirror tine. -/
def State.mirrorIn (s : State) (t : Nat) (f : Frame) : State :=
  match s.judgeFrame t f, f.mirror with
  | (s, some n), some m => if (s.sa n).kind = 2 && s.mirrorTines.contains t then s.mirrorRx m else s.frameDrop t
  | (s, some _), none => s.frameDrop t
  | (s, none), _ => s

/-- The primary's SYNCING ends when the set after the sweep has been applied (14 R446). -/
def State.syncDone (s : State) : State :=
  match s.pair.sweepSet with
  | some n => if s.blockRec.pairRole == 1 && s.pair.state == 2 && !s.pair.sweeping && s.pair.lastSet > n then s.pairGo 3 else s
  | none => s

/-- The pair's part of a boundary's commit step. -/
def State.pairTick (s : State) : State :=
  if s.blockRec.pairRole = 0 || s.pair.state = 0 then s
  else s.syncDone.mirrorApply.pairLost.pairApply.pairLag

/-! ### The commands -/

/-- PAIR_SYNC (14 R446, R450): PAIR_CMD with op SYNC. -/
def execPairSync (s : State) : Host.Outcome State Fault Refusal := .next (s.mgWrite false fun s => s.pairWrite 1)
/-- PAIR_TAKEOVER (14 R452): PAIR_CMD with op TAKEOVER. -/
def execPairTakeover (s : State) : Host.Outcome State Fault Refusal := .next (s.mgWrite false fun s => s.pairWrite 2)
/-- MIRROR_SET_SEND (14 R447). -/
def execMirrorSetSend (s : State) : Host.Outcome State Fault Refusal := .next s.mirrorSend
/-- MIRROR_FRAME (14 R447, R448). -/
def execMirrorFrame (t : BitVec 6) (f : Frame) (s : State) : Host.Outcome State Fault Refusal := .next (s.mirrorIn t.toNat f)
/-- MIRROR_SET_APPLY (14 R447, R449). -/
def execMirrorSetApply (s : State) : Host.Outcome State Fault Refusal := .next s.mirrorApply
/-- PAIR_MIRROR_LAG (14 R447). -/
def execPairMirrorLag (s : State) : Host.Outcome State Fault Refusal := .next s.pairLag
/-- PAIR_PARTNER_LOST (14 R451). -/
def execPairPartnerLost (s : State) : Host.Outcome State Fault Refusal := .next s.pairLost

end Sys2Proof.Machine
end

