-- ==== Sys2Proof/Machine/Sideband.lean ====
section
/-! DEFINITION. The sideband port (02 R72): MCTP, the PLDM responder (14 R443, R444, 16 R483) and the SPDM responder
(12 R385, R386). An answer is an output `sideband code args`: code 0 the level of sb_alert_n, 1 the MCTP error for an
unsupported type, 2 an MCTP control answer, 0x10 to 0x18 PLDM answers in the order of R443, their first argument the
completion code, 0x20 to 0x26 SPDM answers in the order of R385, 0x2F an SPDM error. -/

namespace Sys2Proof.Machine

/-- Answer on the sideband port: Fawn serves it whenever the package has power (14 R423). -/
def State.sbAnswer (s : State) (code : Nat) (args : List Nat) : State :=
  if s.blk.power = 3 then s else s.emit (.sideband code args)

/-! ### PLDM (14 R443, 16 R483) -/

/-- A PLDM answer: completion code 0 with values, or the code for an ID that the PDRs do not describe. -/
def State.pldm (s : State) (code bad : Nat) (vals : Option (List Nat)) : State :=
  match vals with
  | some l => s.sbAnswer code (0 :: l)
  | none => s.sbAnswer code [bad]

/-- The largest filtered value of the valid inputs of a base die. -/
def State.dieValid (s : State) (d : Nat) : Option Int :=
  ((List.range 8).filter fun j => (s.sensor (8 * d + j)).valid).foldl (fun (a : Option Int) j =>
    let f := (s.sensor (8 * d + j)).filtered
    match a with | some b => some (max b f) | none => some f) none

/-- A reading with its operational state: 0 enabled, 2 unavailable. -/
def reading (v : Option Int) : List Nat :=
  match v with
  | some x => [0, (BitVec.ofInt 16 x).toNat]
  | none => [2, 0]

/-- A numeric sensor. -/
def State.numericSensor (s : State) (id : Nat) : Option (List Nat) :=
  if id = 1 then some (reading (s.hottest.map (·.1)))
  else if 2 ≤ id && id ≤ 9 then some (reading (s.dieValid (id - 2)))
  else if 10 ≤ id && id ≤ 41 then
    let x := s.supply (id - 10)
    some (reading (if x.valid then some (Int.ofNat x.median) else none))
  else none
/-- A state sensor. -/
def State.stateSensor (s : State) (id : Nat) : Option (List Nat) :=
  match id with
  | 50 => some [s.blk.power]
  | 51 => some [s.flt.cls]
  | 52 => some [s.fawn.phase]
  | 53 => some [s.pair.state]
  | _ => none
/-- What a PDR describes: 1 a numeric sensor, 2 a state sensor, 3 a state effecter, 4 a numeric effecter. -/
def pdrKind (id : Nat) : Option (List Nat) :=
  if 1 ≤ id && id ≤ 41 then some [id, 1]
  else if 50 ≤ id && id ≤ 53 then some [id, 2]
  else if id = 100 || id = 101 then some [id, 3]
  else if id = 102 then some [id, 4] else none

/-- A write of fclk_limit_point (01 R36): 9 to 15 leave it as it is. -/
def State.limitWrite (s : State) (v : Nat) : State := if v ≤ 8 then { s with blk := { s.blk with fclkLimit := v } } else s
/-- Request a port's return to service (02 R87, R88). -/
def State.askReenable (s : State) (i : Nat) : State := s.setPort i { s.port i with reenable := true }

/-- A write of a state effecter (14 R443): the power request, the re-enable of the management port. -/
def State.effecterWrite (s : State) (id v : Nat) : State :=
  if id = 100 then (if v = 2 then (s.powerWrite 2).wakeUp .effecter else s.powerWrite v)
  else if id = 101 && v = 1 then s.askReenable mgPort else s

/-- The oldest queued event leaves the queue (14 R444); the overflow flag goes with it. -/
def State.pollEvent (s : State) : State :=
  match s.fawn.events with
  | [] => s.sbAnswer 0x18 [0]
  | (ty, arg) :: q =>
    let s := s.sbAnswer 0x18 [0, ty, arg, flag s.fawn.eventsLost]
    let s := { s with fawn := { s.fawn with events := q, eventsLost := false } }
    if q.isEmpty then s.sbAnswer 0 [1] else s

/-- Fawn serves the sideband port. -/
def State.sbServes (s : State) (f : State → State) : State := if s.blk.power = 3 then s else f s

/-! ### SPDM (12 R385, R386) -/

/-- An SPDM error: InvalidRequest 1, Unspecified 5, UnsupportedRequest 7. -/
def State.spdmError (s : State) (code : Nat) : State := s.sbAnswer 0x2F [code]
/-- The vault answers while the fabric runs (02 R72, 12 R385). -/
def State.spdm (s : State) (f : State → State) : State := if s.blk.power != 2 || s.fawn.phase < 3 then s else f s
/-- Requests that need the chain: refused with Unspecified where the vault holds none (12 R365). -/
def State.spdmRooted (s : State) (f : State → State) : State :=
  s.spdm fun s => if s.vaultReady then f s else s.spdmError 5

/-- The digest of the certificate chain. -/
def State.chainDigest (s : State) : Digest := Config.sha384 s.vault.certBuf
/-- The measurement blocks of R386: DMTF value type, 1 where raw, value. -/
def State.measureBlocks (s : State) : List (List Nat) :=
  [[1, 0, s.fawn.fwDigest.toNat], [3, 0, s.img.bootDigest.toNat], [3, 0, s.img.activeDigest.toNat], [3, 0, s.img.measure.toNat],
   [2, 1, blkVersion]]
/-- Block i of R386 with its index. -/
def State.measureBlock (s : State) (i : Nat) : List Nat := i :: s.measureBlocks.getD (i - 1) []

/-- A signature of the alias key in force over the fields of an answer (12 R385). -/
def State.spdmSign (s : State) (code : Nat) (fields : List Byte) : List Nat :=
  (Config.ecdsaSign s.aliasKey (Config.spdmBody code fields)).map (·.toNat)

/-- CHALLENGE (12 R385): slot 0 alone. -/
def State.spdmChallenge (s : State) (slot : Nat) (nonce : BitVec 256) : State :=
  if slot != 0 then s.spdmError 1
  else if !s.vaultSigns then s.spdmError 5
  else
    let (r, s) := s.draw
    let d := s.chainDigest
    s.sbAnswer 0x25 ([d.toNat, r.toNat] ++ s.spdmSign 5 (leBytes nonce.toNat 32 ++ digestBytes d ++ leBytes r.toNat 32))

/-- GET_MEASUREMENTS (12 R386): index 0 asks how many blocks there are, 0xFF for all. -/
def State.spdmMeasure (s : State) (index : Nat) (signed : Bool) (nonce : BitVec 256) : State :=
  let blocks := if index = 0 then [5]
    else if index = 0xFF then (List.range 5).flatMap fun i => s.measureBlock (i + 1) else s.measureBlock index
  if 5 < index && index != 0xFF then s.spdmError 1
  else if !signed then s.sbAnswer 0x26 blocks
  else if !s.vaultSigns then s.spdmError 5
  else
    let (r, s) := s.draw
    s.sbAnswer 0x26 (blocks ++ [r.toNat] ++
      s.spdmSign 6 (leBytes nonce.toNat 32 ++ leBytes r.toNat 32 ++ blocks.flatMap fun b => leBytes b 48))

/-! ### The commands -/

/-- An MCTP control request (02 R72, log entry 173): Set Endpoint ID, Get Endpoint ID, Get MCTP Version Support, Get Message Type
Support; another command takes the completion code 5. The answer carries the instance ID, the command, the completion code and its
fields. -/
def State.mctpControl (s : State) (b : List Byte) : State :=
  let at? := fun k => (b.getD k 0).toNat
  let inst := at? 0 % 32
  let say := fun (s : State) (l : List Nat) => s.sbAnswer 2 ([inst, at? 1] ++ l)
  if at? 0 < 128 then s
  else match at? 1 with
    | 1 =>
      if at? 3 = 0 || at? 3 = 255 || at? 2 ≥ 2 then say s [2]
      else say { s with fawn := { s.fawn with eid := at? 3 } } [0, 0, at? 3, 0]
    | 2 => say s [0, s.fawn.eid, 0, 0]
    | 4 => if [0, 1, 5, 255].contains (at? 2) then say s [0, 1, Config.mctpVersion (at? 2)] else say s [0x80]
    | 5 => say s [0, 2, 1, 5]
    | _ => say s [5]

/-- MCTP_PACKET (02 R72): a packet for another target address, one beyond the transmission unit of 64 B, or one with a bad Packet
Error Code is dropped; control is answered, PLDM and SPDM are dispatched, other types take the MCTP error. -/
def execMctpPacket (p : MctpPkt) (s : State) : Host.Outcome State Fault Refusal :=
  .next (if !p.pecOk || p.dst != p.strap || p.len.toNat > 64 then s
    else if p.type.toNat = 0 then s.sbServes fun s => s.mctpControl p.body
    else if p.type.toNat = 1 || p.type.toNat = 5 then s
    else s.sbAnswer 1 [p.type.toNat])
/-- GET_TID (14 R443). -/
def execGetTid (s : State) : Host.Outcome State Fault Refusal := .next (s.sbAnswer 0x10 [0, Config.tid 0])
/-- GET_PDR (14 R443). -/
def execGetPdr (id : BitVec 16) (s : State) : Host.Outcome State Fault Refusal := .next (s.pldm 0x11 0x82 (pdrKind id.toNat))
/-- GET_SENSOR_READING (14 R443, 16 R483). -/
def execGetSensorReading (id : BitVec 16) (s : State) : Host.Outcome State Fault Refusal :=
  .next (s.pldm 0x12 0x80 (s.numericSensor id.toNat))
/-- GET_STATE_SENSOR_READINGS (14 R443, 16 R483). -/
def execGetStateSensorReadings (id : BitVec 16) (s : State) : Host.Outcome State Fault Refusal :=
  .next (s.pldm 0x13 0x80 (s.stateSensor id.toNat))
/-- SET_NUMERIC_EFFECTER_VALUE (16 R483): effecter 102 writes fclk_limit_point. -/
def execSetNumericEffecterValue (id : BitVec 16) (v : BitVec 8) (s : State) : Host.Outcome State Fault Refusal :=
  .next (s.sbServes fun s => if id.toNat = 102 then (s.limitWrite v.toNat).pldm 0x14 0x80 (some []) else s.pldm 0x14 0x80 none)
/-- GET_NUMERIC_EFFECTER_VALUE (14 R443). -/
def execGetNumericEffecterValue (id : BitVec 16) (s : State) : Host.Outcome State Fault Refusal :=
  .next (s.pldm 0x15 0x80 (if id.toNat = 102 then some [s.blk.fclkLimit] else none))
/-- SET_STATE_EFFECTER_STATES (16 R483): effecter 100 writes the power request, 101 re-enables the management port. -/
def execSetStateEffecterStates (id : BitVec 16) (v : BitVec 8) (s : State) : Host.Outcome State Fault Refusal :=
  .next (s.sbServes fun s =>
    if id.toNat = 100 || id.toNat = 101 then
      (if v.toNat ≤ 2 then s.effecterWrite id.toNat v.toNat else s).pldm 0x16 0x80 (some [])
    else s.pldm 0x16 0x80 none)
/-- GET_STATE_EFFECTER_STATES (14 R443). -/
def execGetStateEffecterStates (id : BitVec 16) (s : State) : Host.Outcome State Fault Refusal :=
  .next (s.pldm 0x17 0x80 (if id.toNat = 100 then some [s.blk.powerRequest]
    else if id.toNat = 101 then some [flag (s.port mgPort).reenable] else none))
/-- POLL_FOR_PLATFORM_EVENT_MESSAGE (14 R444). -/
def execPollForPlatformEventMessage (s : State) : Host.Outcome State Fault Refusal := .next (s.sbServes fun s => s.pollEvent)
/-- SPDM_GET_VERSION (12 R385): 1.3 only. -/
def execSpdmGetVersion (s : State) : Host.Outcome State Fault Refusal := .next (s.spdm fun s => s.sbAnswer 0x20 [0x13])
/-- SPDM_GET_CAPABILITIES (12 R385): CTExponent 14, CERT_CAP, CHAL_CAP and MEAS_CAP with signatures. -/
def execSpdmGetCapabilities (s : State) : Host.Outcome State Fault Refusal := .next (s.spdm fun s => s.sbAnswer 0x21 [14, 0x16])
/-- SPDM_NEGOTIATE_ALGORITHMS (12 R385): ECDSA P-384, SHA-384 for hashes and measurements, the DMTF specification. -/
def execSpdmNegotiateAlgorithms (s : State) : Host.Outcome State Fault Refusal :=
  .next (s.spdm fun s => s.sbAnswer 0x22 [0x80, 0x2, 0x4, 1])
/-- SPDM_GET_DIGESTS (12 R385): slot 0 alone. -/
def execSpdmGetDigests (s : State) : Host.Outcome State Fault Refusal :=
  .next (s.spdmRooted fun s => s.sbAnswer 0x23 [1, s.chainDigest.toNat])
/-- SPDM_GET_CERTIFICATE (12 R384): a portion of the chain of slot 0, its length and what remains. -/
def execSpdmGetCertificate (slot : BitVec 4) (offset len : BitVec 16) (s : State) : Host.Outcome State Fault Refusal :=
  .next (s.spdmRooted fun s =>
    let b := s.vault.certBuf
    if slot.toNat != 0 || offset.toNat ≥ b.length then s.spdmError 1
    else
      let part := Sys2Proof.Machine.slice b offset.toNat len.toNat
      s.sbAnswer 0x24 ([part.length, b.length - offset.toNat - part.length] ++ part.map (·.toNat)))
/-- SPDM_CHALLENGE (12 R385). -/
def execSpdmChallenge (slot : BitVec 4) (nonce : BitVec 256) (s : State) : Host.Outcome State Fault Refusal :=
  .next (s.spdmRooted fun s => s.spdmChallenge slot.toNat nonce)
/-- SPDM_GET_MEASUREMENTS (12 R386). -/
def execSpdmGetMeasurements (index : BitVec 8) (signed : Bool) (nonce : BitVec 256) (s : State) :
    Host.Outcome State Fault Refusal :=
  .next (s.spdmRooted fun s => s.spdmMeasure index.toNat signed nonce)
/-- SPDM_UNSUPPORTED_REQUEST (12 R385): UnsupportedRequest; without a root, Unspecified (12 R365). -/
def execSpdmUnsupportedRequest (code : BitVec 8) (s : State) : Host.Outcome State Fault Refusal :=
  .next (s.spdm fun s => if s.vault.state ≥ 3 && s.vault.state ≤ 6 then s.spdmError 5 else s.sbAnswer 0x2F [7, code.toNat])

end Sys2Proof.Machine
end

