-- ==== Sys2Proof/Machine/Observe.lean ====
section
/-! DEFINITION. Counters, markers and samples, traces, the wait-for graph and the global stop (15 R457 to R478). -/

namespace Sys2Proof.Machine

/-! ### Units (01 R23) -/

/-- The number of units of each class, from class 1. -/
def unitCounts : List Nat := [136, 16, 64, 256, 32, 17, 9, 9, 1, 2, 1]
/-- Every unit ID, ascending. -/
def allUnits : List Nat := (List.range 11).flatMap fun c => (List.range (unitCounts.getD c 0)).map fun i => unitId (c + 1) i
/-- Whether a unit is offline: it contributes no edges (15 R468). -/
def State.unitOff (s : State) (u : Nat) : Bool :=
  (s.unit u).offlineAt.isSome || (s.unit u).failed || (u / 256 == 5 && (s.engine (u % 256)).offline)
    || (u / 256 == 1 && decide ((s.home (u % 256)).role ≥ 3))
/-- The block or a stop lets a unit write its ring; the ring of every unit takes an event. -/
def State.ringAll (s : State) (code arg : Nat) : State := allUnits.foldl (fun (s : State) u => s.ring u code arg) s

/-! ### The counter tree (15 R457 to R461) -/

/-- The gauges of a slice at the end of a tick: LLC lines and ASSIGNED granules (15 R458, k = 72 and 73). -/
def State.gauges (s : State) : Map Nat :=
  let bump := fun (m : Map Nat) (k : Nat) => tset 0 m k (tget 0 m k + 1)
  let m := s.homes.foldl (fun (m : Map Nat) h => h.2.lines.foldl (fun (m : Map Nat) l => bump m (l.2.slice * 128 + 72)) m) []
  s.own.foldl (fun (m : Map Nat) e => if e.2.gstate = 1 then bump m (e.2.slice * 128 + 73) else m) m

/-- Whether a counter of R458 is a gauge. -/
def isGauge (key : Nat) : Bool := key % 128 == 72 || key % 128 == 73

/-- Publish one counter (15 R460): a tainted tick shows 0, and the publication after the last one restarts it. -/
def Counter.publish (c : Counter) (gauge : Bool) (delta : Nat) (taint : Bool) : Counter :=
  let total := if gauge then delta else (c.total + delta) % 2 ^ 48
  if taint then { c with tainted := true, restart := true, value := 0, total := total }
  else if c.tainted && c.restart then { c with restart := false, value := 0, total := total }
  else if c.tainted then
    { value := delta % 2 ^ 48, total := delta % 2 ^ 48, tainted := false, restart := false, epoch := (c.epoch + 1) % 16 }
  else { c with value := total, total := total }

/-- The keys of two tables, without repeats. -/
def bothKeys {α β : Type} (a : Map α) (b : Map β) : List Nat := (a.map (·.1) ++ b.map (·.1)).eraseDups

/-- The boundary of the counters (15 R457): what the last snapshot gathered is published, and the snapshot of the tick
that ends takes its place. Selections are keyed from 16384 in `taintLive`. -/
def State.publish (s : State) : State :=
  let b := s.obs
  let tc := fun k => b.taintLive.contains k
  let cnt := (bothKeys b.cnt b.cntPrev).foldl (fun (m : Map Counter) k =>
    tset {} m k ((tget {} m k).publish (isGauge k) (tget 0 b.cntPrev k) (tc k))) b.cnt
  let sel := (bothKeys b.selCnt b.selPrev).foldl (fun (m : Map Counter) n =>
    tset {} m n ((tget {} m n).publish false (tget 0 b.selPrev n) (tc (16384 + n)))) b.selCnt
  let prev := s.gauges.foldl (fun (m : Map Nat) g => tset 0 m g.1 g.2) b.cntLive
  let n := (cnt.filter (·.2.tainted)).length + (sel.filter (·.2.tainted)).length
  { s with obs := { b with cnt := cnt, selCnt := sel, cntPrev := prev, cntLive := [], selPrev := b.selLive, selLive := [],
                           taintLive := [], taintedCount := min n 0xFFFF, cntTick := s.blk.tick - 2 } }

/-- Changed selections take effect (15 R459): a counter of a changed one counts from 0 in a new epoch. -/
def State.selApply (s : State) : State :=
  let b := s.obs
  let go := fun (b : Obs) (x : Nat × Reg) =>
    { b with sels := tset 0 b.sels x.1 x.2, selLive := tset 0 b.selLive x.1 0, selPrev := tset 0 b.selPrev x.1 0,
             selCnt := tset {} b.selCnt x.1 { epoch := ((tget {} b.selCnt x.1).epoch + 1) % 16 } }
  { s with obs := { b.selsStaged.foldl go b with selsStaged := [] } }

/-! ### The trace sink and writer (15 R463 to R467) -/

/-- Whether the trace of a slot runs: enabled at a boundary, neither stopped nor full. -/
def TraceSt.on (t : TraceSt) : Bool := t.enable && !t.enabling && !t.error && !t.full
/-- Write a slot's trace. -/
def State.setTrace (s : State) (c : Nat) (t : TraceSt) : State := s.setSlot c { s.slot c with trace := t }

/-- The words of a record (15 R466). -/
def State.traceRec (s : State) (c type tile pc stall fclk dropped : Nat) (mark : BitVec 32) : TraceRec :=
  let x := ((s.slot c).ctx).getD 0
  let r := s.ctx x
  { slot := c,
    w0 := rput pc 0 48 ||| rput stall 48 4 ||| rput type 52 4 ||| rput tile 56 8,
    w1 := rput mark.toNat 0 32 ||| rput x 32 16 ||| rput r.slice 48 7,
    w2 := reg s.blk.tick,
    w3 := rput fclk 0 12 ||| rput r.asid 12 16 ||| rput dropped 28 32 }

/-- Drop a sample of a slot: counted in its trace pointer and as k = 68 (15 R463). -/
def State.traceDrop (s : State) (c : Nat) : State :=
  let t := (s.slot c).trace
  let sl := match (s.slot c).ctx with | some x => (s.ctx x).slice | none => 0
  (s.setTrace c { t with dropped := min (t.dropped + 1) 0xFFFF, dropSince := min (t.dropSince + 1) (2 ^ 32 - 1) }).count sl 68 1

/-- Queue a record of a slot whose trace runs. The sink of 1,024 is frozen in a global stop (15 R463, R472); after a drop
the next record is a drop summary (15 R467). -/
def State.traceQueue (s : State) (c type tile pc stall fclk : Nat) (mark : BitVec 32) : State :=
  let t := (s.slot c).trace
  let room := if s.stopped then 0 else 1024 - s.sink.length
  if room = 0 then s.traceDrop c
  else
    let (s, room) := if t.dropSince = 0 then (s, room) else
      (({ s with sink := s.sink ++ [s.traceRec c 3 tile 0 0 fclk t.dropSince mark] } : State).setTrace c { t with dropSince := 0 }, room - 1)
    if room = 0 then s.traceDrop c else { s with sink := s.sink ++ [s.traceRec c type tile pc stall fclk 0 mark] }

/-- The 32 B of a record as a number. -/
def TraceRec.num (r : TraceRec) : Nat := r.w0.toNat + r.w1.toNat <<< 64 + r.w2.toNat <<< 128 + r.w3.toNat <<< 192

/-- The writer writes one line of a slot: up to four of its records and pad records, through the line's home, as a write
of the context in class 2 (15 R467). Records of a slot that does not trace are dropped. -/
def State.traceLine (s : State) (c : Nat) : State :=
  let mine := s.sink.filter fun r => r.slot == c
  let others := s.sink.filter fun r => r.slot != c
  let t := (s.slot c).trace
  match (s.slot c).ctx with
  | some x =>
    if !t.on then { s with sink := others }
    else if mine.isEmpty then s
    else
      let r := s.ctx x
      let now := mine.take 4
      let data := (List.range 4).foldl (fun a i => a + ((now[i]?).map TraceRec.num).getD 0 <<< (256 * i)) 0
      let off := t.offset + 128
      let size := 2 ^ t.sizeLog2
      let fin := decide (off ≥ size)
      let t' := { t with offset := if fin && t.wrap then 0 else off, full := fin && !t.wrap,
                         wraps := if fin && t.wrap then min (t.wraps + 1) 0xFFFF else t.wraps }
      let s := ({ s with sink := others ++ mine.drop 4 } : State).setTrace c t'
      let s := s.count r.slice 67 now.length
      let s := if t.irqEn && (fin || off == size / 2) then s.hostIrq r.fn t.vec else s
      s.accept { id := 0, home := 0, line := lineOf (t.base + t.offset), op := .write, origin := .trace c, slice := r.slice, fn := r.fn,
                 tc := s.servedClass r.slice 2, be := BitVec.allOnes 128, data := BitVec.ofNat 1024 data, start := s.blk.tick,
                 ctx := some x } (some r.fn)
  | none => { s with sink := others }

/-- At a boundary every line that has records is written, the last one completed with pad records (15 R467). -/
def State.traceFlush (s : State) : State :=
  if s.stopped || s.fatal then s
  else
    let slots := (s.sink.map (·.slot)).eraseDups
    slots.foldl (fun (s : State) c =>
      (List.range (((s.sink.filter fun r => r.slot == c).length + 3) / 4)).foldl (fun (s : State) _ => s.traceLine c) s) s

/-- An enable takes effect at a boundary, or fails with DENIED (15 R465). -/
def State.traceApply (s : State) (c : Nat) : State :=
  let t := (s.slot c).trace
  if !t.enabling then s
  else match (s.slot c).ctx with
    | none => s
    | some x =>
      let r := s.ctx x
      let size := 2 ^ t.sizeLog2
      let grans := (size + 2 ^ 21 - 1) / 2 ^ 21
      let good := fun (g : Nat) => let e := s.ownAt g; e.gstate == 1 && e.fn == r.fn && e.wr && e.key == r.key
      let ok := 12 ≤ t.sizeLog2 && t.sizeLog2 ≤ 30 && t.base % size == 0 && chipOf t.base == s.chip
        && (List.range grans).all fun i => good (granOf t.base + i)
      if ok then
        let s := { s with sink := s.sink.filter fun r => r.slot != c }
        s.setTrace c { t with enabling := false, error := false, status := 0, offset := 0, full := false, wraps := 0, dropped := 0,
                              dropSince := 0 }
      else s.setTrace c { t with enabling := false, enable := false, error := true, status := Status.denied.code }

/-! ### Markers and samples (15 R462, R463) -/

/-- A MARKER arrives at a tile port. -/
def State.markerReq (s : State) (port : Nat) (r : TpReq) (fclk : Nat) : State :=
  if !s.portUp port then s
  else if !tpCparOk 0x20 r then s.portEvent port 0x63
  else if (tpRsvd r).isSome then
    ((s.brokenBeat port).tileSay port r.tag.toNat .denied).reqFault port r true
  else
    let broken := (s.tile port).beat.isSome
    let s := (s.brokenBeat port).reqFault port r broken
    if s.fatal || !tpDparOk r || !s.portUp port then s
    else match s.bound port with
      | none => s.count (s.tileSlice port) 69 1
      | some b =>
        if b.lost then s.count (s.tileSlice port) 69 1
        else
          let v : BitVec 32 := BitVec.ofNat 32 r.wdata.toNat
          let s := s.setTile port { s.tile port with marker := v }
          let s := s.note (tpUnit port) 0x28 (some b.slice) 1
          let hit := s.obs.stopState == 1 && s.obs.markerEn && v == s.obs.markerMatch && b.slice == s.obs.markerSlice
          let s := if hit then { s with obs := { s.obs with fired := true } } else s
          if (s.slot b.slot).trace.on then s.traceQueue b.slot 2 port 0 0 fclk v else s

/-- A sample arrives on a debug lane. -/
def State.debugSample (s : State) (tile pc stall fclk : Nat) : State :=
  let drop := fun (s : State) sl => s.note (tpUnit tile) 0x2A sl 1
  match (if (s.port tile).state = 3 then none else s.bound tile) with
  | none => drop { s with obs := { s.obs with unbound := min (s.obs.unbound + 1) (2 ^ 32 - 1) } } none
  | some b =>
    if b.lost || (s.port tile).state = 2 then drop (s.count (s.tileSlice tile) 68 1) (some (s.tileSlice tile))
    else if !(s.slot b.slot).trace.on then s
    else
      let before := (s.slot b.slot).trace.dropped
      let s := s.traceQueue b.slot 1 tile pc stall fclk (s.tile tile).marker
      s.note (tpUnit tile) (if (s.slot b.slot).trace.dropped = before then 0x29 else 0x2A) (some b.slice) 1

/-! ### The wait-for graph (15 R468, R469) -/

/-- A node of the graph. -/
structure WaitNode where
  kind : Nat
  sub : Nat := 0
  slice : Nat := 0
  unit : Nat := 0
  id : Nat := 0
  deriving DecidableEq, Repr

/-- An edge: the waiter, its target, the tick at which the wait began. -/
structure Wait where
  waiter : WaitNode
  target : WaitNode
  since : Nat
  deriving DecidableEq, Repr

/-- A tile port outside the block. -/
def nodeTile (p : Nat) : WaitNode := { kind := 5, sub := 0, unit := unitOfPort p, id := p }
/-- The host port's surroundings. -/
def nodeHost : WaitNode := { kind := 5, sub := 1, unit := hostUnit, id := hostPort }
/-- The controller behind a memory port. -/
def nodeMem (p : Nat) : WaitNode := { kind := 5, sub := 2, unit := mptUnit p, id := mpPort p }
/-- A chip of the herd. -/
def nodeChip (c : Nat) : WaitNode := { kind := 5, sub := 3, unit := tinUnit 0, id := c }
/-- The network peer a slice reaches for a chip number. -/
def nodePeer (sl c : Nat) : WaitNode := { kind := 5, sub := 4, slice := sl, unit := tinUnit 0, id := c }
/-- A line at its home. -/
def State.nodeLine (s : State) (h line : Nat) : WaitNode :=
  { kind := 3, slice := s.lineSlice line, unit := hslUnit h, id := line * 128 }
/-- A slot of a memory port's queue. -/
def nodeQueue (p tc : Nat) : WaitNode := { kind := 2, sub := 4, unit := mptUnit p, id := tc }
/-- A job. -/
def nodeJob (j : Job) : WaitNode :=
  { kind := 4, sub := 0, slice := j.slice, unit := jobUnit (j.engine.getD 0), id := j.ctx + (j.engine.getD 0) * 65536 }
/-- A reduce window. -/
def nodeWin (w : Nat) (x : Window) : WaitNode := { kind := 4, sub := 1, slice := x.slice, unit := hslUnit 0, id := x.ctx + w * 65536 }
/-- A kernel of a context. -/
def State.nodeKernel (s : State) (x : Nat) : WaitNode :=
  { kind := 4, sub := 2, slice := (s.ctx x).slice, unit := hostUnit, id := x }
/-- A fence. -/
def nodeFence (i sl : Nat) : WaitNode := { kind := 1, slice := sl, unit := hostUnit, id := i }

/-- What the transactions at the homes wait for. -/
def State.waitsHome (s : State) : List Wait :=
  s.txns.flatMap fun t =>
    let me := s.nodeLine t.home t.line
    let p := granPort (lineGran t.line)
    let e := fun (n : WaitNode) (since : Nat) => ({ waiter := me, target := n, since := since } : Wait)
    (t.snoops.map fun n => e (if n.chip then nodeChip n.port else nodeTile n.port) n.since)
      ++ (match t.phase with
          | .reading | .scale | .atMemory =>
            if lineChip t.line != s.chip then [e (nodeChip (lineChip t.line)) t.start]
            else if (s.mp p).waiting.any fun q => q.line == t.line then [e (nodeQueue p t.tc) t.start]
            else [e (nodeMem p) t.start]
          | .waiting => (t.waitLine.toList.filter (· != t.line)).map fun l => e (s.nodeLine t.home l) t.start
          | _ => [])

/-- What the memory ports, the hold queues and the retry queues wait for. -/
def State.waitsCredit (s : State) : List Wait :=
  (s.mem.flatMap fun m => (m.2.waiting.map fun q =>
    ({ waiter := nodeQueue m.1 q.tc, target := nodeMem m.1, since := q.since } : Wait)))
  ++ (s.held.flatMap fun h =>
    let me : WaitNode := { kind := 2, sub := 5, slice := s.heldSlice h, unit := unitOfPort h.port, id := h.tc }
    ((s.heldLine h).toList.filter fun l => lineChip l == s.chip).map fun l =>
      ({ waiter := me, target := nodeQueue (granPort (lineGran l)) h.tc, since := s.blk.tick - h.age } : Wait))
  ++ (s.homes.flatMap fun h => h.2.retryQ.filterMap fun r => r.reserved.map fun since =>
    ({ waiter := { kind := 2, sub := 2, unit := hslUnit h.1 }, since := since,
       target := if r.origin < 256 then nodeTile r.origin else if r.origin = 256 then nodeHost
         else (match s.job? r.tag with | some j => nodeJob j | none => nodeHost) } : Wait))

/-- What jobs, reduce windows and kernels wait for. -/
def State.waitsJob (s : State) : List Wait :=
  (s.jobs.flatMap fun j =>
    let lines := s.txns.filter fun t => t.origin == .job j.id
    let fence := if dFenceEn j.desc then
        [({ waiter := nodeFence (dFence j.desc) j.slice, target := nodeJob j, since := j.started } : Wait)] else []
    let queue := if j.engine.isNone then
        [({ waiter := nodeJob j, target := { kind := 2, sub := 6, slice := j.slice, unit := qosUnit, id := j.tc }, since := j.started } : Wait)] else []
    fence ++ queue ++ lines.map fun t => ({ waiter := nodeJob j, target := s.nodeLine t.home t.line, since := t.start } : Wait))
  ++ (s.rw.windows.flatMap fun w =>
    let me := nodeWin w.1 w.2
    let f := if w.2.state = 0 then [] else
      [({ waiter := nodeFence w.2.fence w.2.slice, target := me, since := w.2.openTick } : Wait)]
    let ports := if w.2.state = 2 then
        (s.bindings.filter fun b => (s.slot b.1).ctx == some w.2.ctx).flatMap fun b => (List.range b.2.count).map (· + b.2.first) else []
    let chips := if w.2.state = 2 then (bitList s.blockRec.herdMembers 8).filter (· != s.chip) else []
    let lines := s.txns.filter fun t => t.origin == .window w.1
    f ++ (ports.map fun p => ({ waiter := me, target := nodeTile p, since := w.2.openTick } : Wait))
      ++ (chips.map fun c => ({ waiter := me, target := nodeChip c, since := w.2.openTick } : Wait))
      ++ lines.map fun t => ({ waiter := me, target := s.nodeLine t.home t.line, since := t.start } : Wait))
  ++ (s.bindings.flatMap fun b => match b.2.ending, (s.slot b.1).ctx with
    | some (_, since), some x =>
      let mine := s.txns.filter fun t => match t.origin with | .tile p _ => b.2.first ≤ p && p < b.2.first + b.2.count | _ => false
      (if (s.slot b.1).armed then
        [({ waiter := nodeFence (s.slot b.1).kfence (s.ctx x).slice, target := s.nodeKernel x, since := since } : Wait)] else [])
        ++ mine.map fun t => ({ waiter := s.nodeKernel x, target := s.nodeLine t.home t.line, since := since } : Wait)
    | _, _ => [])
  ++ (s.remotes.filterMap fun r =>
    if r.kind = 0 && r.done.isNone && !s.inHerd r.chip then
      match r.origin with
      | .tile p _ => some ({ waiter := { kind := 3, slice := s.tileSlice p, unit := tpUnit p, id := r.line * 128 },
                             target := nodePeer (s.tileSlice p) r.chip, since := r.since } : Wait)
      | _ => none
    else none)

/-- The edges the units hold, at most 32 for each, none of a unit that is offline. -/
def State.waits (s : State) : List Wait :=
  let all := (s.waitsHome ++ s.waitsCredit ++ s.waitsJob).filter fun w => !s.unitOff w.waiter.unit
  (all.foldl (fun (x : List Wait × Map Nat) w =>
    let n := tget 0 x.2 w.waiter.unit
    if n < 32 then (w :: x.1, tset 0 x.2 w.waiter.unit (n + 1)) else x) ([], [])).1.reverse

/-- The nodes that a set of nodes reaches, in at most `n` steps. -/
def reach (es : List (Nat × Nat)) : Nat → List Nat → List Nat
  | 0, seen => seen
  | n + 1, seen =>
    let new := ((es.filter fun e => seen.contains e.1 && !seen.contains e.2).map (·.2)).eraseDups
    if new.isEmpty then seen else reach es n (seen ++ new)

/-- The bytes of a node (15 R469). -/
def WaitNode.bytes (n : WaitNode) (cyc : Bool) : List Byte :=
  leBytes (place n.kind 0 4 + place n.sub 4 4 + place (flag cyc) 8 1 + place n.slice 16 7 + place n.unit 24 12) 8 ++ leBytes n.id 8

/-- The graph's bytes (15 R469): header, nodes, edges; at most 64 KiB. -/
def State.wfgBytes (s : State) (atStop : Bool) : List Byte :=
  let ws := s.waits
  let nodes := (ws.flatMap fun w => [w.waiter, w.target]).eraseDups
  let kept := nodes.take 2048
  let at_ := fun (n : WaitNode) => kept.idxOf n
  let es := (ws.map fun w => (at_ w.waiter, at_ w.target, min 0xFFFF (s.blk.tick - w.since))).filter fun e =>
    e.1 < kept.length && e.2.1 < kept.length
  let es' := es.take ((65536 - 32 - 16 * kept.length) / 8)
  let pairs := es'.map fun e => (e.1, e.2.1)
  let cyc := (List.range kept.length).map fun i =>
    (reach pairs kept.length ((pairs.filter (·.1 == i)).map (·.2))).contains i
  let off := allUnits.any s.unitOff
  let cut := decide (kept.length < nodes.length) || decide (es'.length < ws.length)
  leBytes 0x47465757 4 ++ leBytes 1 2 ++ leBytes (flag cut + 2 * flag atStop + 4 * flag off) 2 ++ leBytes s.blk.tick 8
    ++ leBytes kept.length 4 ++ leBytes es'.length 4 ++ leBytes (cyc.filter id).length 4 ++ leBytes 0 4
    ++ (kept.zip cyc).flatMap (fun n => n.1.bytes n.2)
    ++ es'.flatMap fun e => leBytes (e.1 + e.2.1 * 2 ^ 24 + e.2.2 * 2 ^ 48) 8

/-- Every unit latches its wait registers, and Fawn begins the graph (15 R468). -/
def State.wfgLatch (s : State) (atStop : Bool) : State :=
  if !s.inService || s.flt.dump == 3 then { s with obs := { s.obs with wfgPending := false } }
  else
    let bs := s.wfgBytes atStop
    { s with obs := { s.obs with wfg := bs, wfgState := 1, wfgTick := s.blk.tick, wfgPending := false } }

/-- The graph is ready (15 R468, R477). -/
def State.wfgReady (s : State) : State :=
  if s.obs.wfgState = 1 then ({ s with obs := { s.obs with wfgState := 2 } } : State).mgIrq 0x11 else s

/-- A graph request: ignored before SERVICE and while Fawn holds the dump (16 R482). -/
def State.wfgAsk (s : State) : State :=
  if !s.inService || s.flt.dump == 3 then s else { s with obs := { s.obs with wfgPending := true } }

/-! ### The global stop (15 R471 to R475) -/

/-- The stop state that the trigger enables leave when no stop is in force. -/
def Obs.rest (b : Obs) : Nat := if b.tickEn || b.faultEn || b.markerEn then 1 else 0

/-- Whether a trigger has fired: one that events fire, or the boundary into OBS_STOP_TICK. -/
def State.stopFires (s : State) : Bool :=
  s.obs.stopState == 1 && (s.obs.fired || (s.obs.tickEn && s.obs.stopTick == s.blk.tick))

/-- Disarm: every trigger enable is cleared (15 R477). -/
def State.stopDisarm (s : State) : State :=
  let b : Obs := { s.obs with tickEn := false, faultEn := false, markerEn := false, fired := false }
  { s with obs := { b with stopState := if b.stopState ≥ 2 then b.stopState else 0 } }

/-- A stop takes effect at S, or is refused while block-fatal or not in SERVICE (15 R471, R472). -/
def State.stopBegin (s : State) : State :=
  if !s.stopFires then s
  else if s.fatal || !s.inService then
    let s := s.stopDisarm
    { s with obs := { s.obs with stopRefused := true } }
  else
    let s := s.ringAll 0x86 s.blk.tick
    let s : State := { s with obs := { s.obs with stopState := 2, stopAt := s.blk.tick, fired := false, resume := false, smear := [] } }
    let s := if s.obs.wfgOnStop then s.wfgLatch true else s
    s.xoffAll.mgIrq 0x10

/-- Every transfer issued before S has landed (15 R472). -/
def State.stopSettled (s : State) : State := if s.obs.stopState = 2 then { s with obs := { s.obs with stopState := 3 } } else s

/-- A transfer that landed in the stop is taken. -/
def State.takeLanded (s : State) (c : Instr) : State :=
  match c with
  | .memoryReadReturn p r => s.memReturn p.toNat r
  | .memoryWriteAck p tag ok g => s.memAckd p.toNat tag.toNat ok g
  | .snoopResponse port r => s.srsp port.toNat r
  | .evictDirty port r => s.evictDirtyBeat port.toNat r
  | .evictClean port r => s.evictCleanReq port.toNat r
  | .flushDone port r => s.flushDoneReq port.toNat r
  | .dataFrameReceive t f => s.dataIn t.toNat f
  | .ackReceive t f => s.ackIn t.toNat f
  | _ => s

/-- The queues resume in the order they held. -/
def State.replayLanded (s : State) : State :=
  if s.stopped then s
  else
    let q := s.obs.landed
    q.foldl (fun (s : State) c => s.takeLanded c) { s with obs := { s.obs with landed := [] } }

/-- A stop ends (15 R475): rings record it, queues resume, vector 0x10. -/
def State.stopRelease (s : State) : State :=
  if !s.stopped then s
  else
    let s := s.ringAll 0x87 s.obs.stopAt
    let s : State := { s with obs := { s.obs with stopState := s.obs.rest, resume := false, fired := false } }
    s.replayLanded.xoffAll.mgIrq 0x10

/-- Whether max_ticks have passed since S. -/
def State.stopExpired (s : State) : Bool :=
  s.stopped && s.obs.maxTicks != 0 && decide (s.obs.stopAt + s.obs.maxTicks ≤ s.blk.tick)

/-! ### The commands -/

/-- MARKER (15 R462): it carries no tag and gets no response. `fclk` is when within the tick it arrives. -/
def execMarker (port : BitVec 8) (r : TpReq) (fclk : BitVec 12) (s : State) : Host.Outcome State Fault Refusal :=
  .next (s.markerReq port.toNat r fclk.toNat)

/-- DEBUG_SAMPLE (02 R74, 15 R463). The lane only says where the sample arrived. -/
def execDebugSample (_lane : BitVec 2) (tile : BitVec 8) (pc : BitVec 48) (stall : BitVec 4) (cpar : Bool) (fclk : BitVec 12)
    (s : State) : Host.Outcome State Fault Refusal :=
  .next (if !s.portUp 338 then s
    else if !dbgCparOk tile.toNat pc.toNat stall.toNat cpar then s.portEvent 338 0x63
    else s.debugSample tile.toNat pc.toNat stall.toNat fclk.toNat)

/-- TRACE_LINE_WRITE (15 R467): a line that four records fill. -/
def execTraceLineWrite (c : BitVec 7) (s : State) : Host.Outcome State Fault Refusal :=
  .next (s.unlessStopped fun s =>
    if (s.sink.filter fun r => r.slot == c.toNat).length ≥ 4 then s.traceLine c.toNat else s)

/-- WFG_ASSEMBLE: a write of OBS_WFG_CMD with assemble set (15 R468, R477). -/
def execWfgAssemble (s : State) : Host.Outcome State Fault Refusal := .next (s.mgWrite false State.wfgAsk)

/-- WFG_READY (15 R468, R477). -/
def execWfgReady (s : State) : Host.Outcome State Fault Refusal := .next s.wfgReady

/-- The read of OBS_WFG_DATA advances OBS_WFG_ADDR by 8 (15 R476). -/
def State.wfgAdvance (s : State) : State := { s with obs := { s.obs with wfgAddr := (s.obs.wfgAddr + 8) % 65536 } }
/-- OBS_WFG_DATA_READ (15 R476): the graph's bytes at OBS_WFG_ADDR, which advances by 8. -/
def execObsWfgDataRead (s : State) : Host.Outcome State Fault Refusal :=
  .next (s.mgRead (fun s => BitVec.ofNat 64 (leAt s.obs.wfg s.obs.wfgAddr 8)) State.wfgAdvance)

/-- GLOBAL_STOP (15 R471, R472): a trigger that has fired takes effect. -/
def execGlobalStop (s : State) : Host.Outcome State Fault Refusal := .next s.stopBegin

/-- STOP_SETTLED (15 R472). -/
def execStopSettled (s : State) : Host.Outcome State Fault Refusal := .next s.stopSettled

/-- STOP_RESUME: resume is set in OBS_STOP_CTRL; the stop ends at the next boundary (15 R475, R477). -/
def execStopResume (s : State) : Host.Outcome State Fault Refusal :=
  .next (s.mgWrite false fun s => if s.stopped then { s with obs := { s.obs with resume := true } } else s)

/-- STOP_MAX_TICKS (15 R475). -/
def execStopMaxTicks (s : State) : Host.Outcome State Fault Refusal :=
  .next (if s.stopExpired then s.stopRelease else s)

/-- STOP_DISARM: disarm is set in OBS_STOP_CTRL (15 R477). -/
def execStopDisarm (s : State) : Host.Outcome State Fault Refusal := .next (s.mgWrite false State.stopDisarm)

end Sys2Proof.Machine
end

