-- ==== Sys2Proof/Machine/Dump.lean ====
section
/-! DEFINITION. The dump of the block-fatal state (13 R420 to R422). -/

namespace Sys2Proof.Machine

/-- What `n` registers read, in the order of their index. -/
def regsOf (n : Nat) (f : Nat → Reg) : List Byte := (List.range n).flatMap fun i => leBytes (f i).toNat 8
/-- A section of the dump: 4 B type, 4 B length of its contents, 8 B of 0, the contents. -/
def dumpSection (type : Nat) (bs : List Byte) : List Byte := leBytes type 4 ++ leBytes bs.length 4 ++ leBytes 0 8 ++ bs
/-- The rings of every unit, in ascending unit ID (15 R470): unit ID, valid entries, 16 entries oldest first. -/
def State.ringBytes (s : State) : List Byte :=
  allUnits.flatMap fun u =>
    let r := tget [] s.obs.rings u
    leBytes u 4 ++ leBytes r.length 4 ++ padTo (r.flatMap fun e => leBytes e.toNat 16) 256

/-- What follows the dump's header. -/
def State.dumpBody (s : State) : List Byte :=
  padTo (s.flt.hist.flatMap fun m => leBytes m.toNat 16) 512
    ++ regsOf 136 s.homeStatus
    ++ regsOf 358 (fun i => (s.port i).reg)
    ++ regsOf 8 (fun r => (s.recAt r).reg)
    ++ regsOf 16 s.mpState
    ++ dumpSection 1 (s.wfgBytes false) ++ dumpSection 2 s.ringBytes ++ dumpSection 0 []

/-- The dump (13 R420): a header of 128 B, then its body. `length` counts the whole dump. -/
def State.dumpImage (s : State) : List Byte :=
  let body := s.dumpBody
  let first : Msg := match s.flt.first with | some x => x.1 | none => 0
  leBytes 0x504D5544 4 ++ leBytes 1 2 ++ leBytes 0 2 ++ leBytes (128 + body.length) 8 ++ leBytes (s.flt.fatal.getD 0) 8
    ++ leBytes blkVersion 8 ++ leBytes first.toNat 16 ++ leBytes s.img.activeDigest.toNat 48 ++ padTo [] 32 ++ body

/-- Fawn writes the dump: to the dump region, or its first 64 KiB into its own SRAM where a write does not complete with
OK (13 R420). The region's size cuts it. -/
def State.dumpWrite (s : State) (ok : Bool) : State :=
  if s.flt.dump != 1 then s
  else
    let ok := ok && s.blockRec.dumpMib != 0
    let room := if ok then s.blockRec.dumpMib * 2 ^ 20 else 65536
    { s with flt := { s.flt with dumpBytes := s.dumpImage.take room, dumpOk := ok } }

/-- The dump is complete: FLT_STATUS.dump says where it is, and vector 0x03 is raised. Fawn's copy takes the place of a
wait-for graph (16 R482). -/
def State.dumpComplete (s : State) : State :=
  if s.flt.dump != 1 || s.flt.dumpBytes.isEmpty then s
  else
    let s := { s with flt := { s.flt with dump := if s.flt.dumpOk then 2 else 3 } }
    let s : State := if s.flt.dumpOk then s else { s with obs := { s.obs with wfg := [], wfgState := 0, wfgPending := false } }
    s.mgIrq 0x03

/-- The dump ends within 2,000 ticks of block-fatal entry (13 R420). -/
def State.dumpTick (s : State) : State :=
  match s.flt.fatal with
  | some t => if t + 2000 ≤ s.blk.tick then s.dumpComplete else s
  | none => s

/-- DUMP_WRITE (13 R420): `ok` is whether every dump write completes with OK. -/
def execDumpWrite (ok : Bool) (s : State) : Host.Outcome State Fault Refusal := .next (s.dumpWrite ok)

/-- DUMP_COMPLETE (13 R420). -/
def execDumpComplete (s : State) : Host.Outcome State Fault Refusal := .next s.dumpComplete

/-- The read of FLT_DUMP_DATA advances FLT_DUMP_ADDR by 8 (13 R421). -/
def State.dumpAdvance (s : State) : State := { s with flt := { s.flt with dumpAddr := (s.flt.dumpAddr + 8) % 2 ^ 32 } }
/-- FLT_DUMP_DATA_READ (13 R421): the dump's bytes at FLT_DUMP_ADDR, which advances by 8. -/
def execFltDumpDataRead (s : State) : Host.Outcome State Fault Refusal :=
  .next (s.mgRead State.dumpWord State.dumpAdvance)

end Sys2Proof.Machine
end

