-- ==== Sys2Proof/Machine/Regs.lean ====
section
/-! DEFINITION. Writes of the registers of the management window (00 R10, R11, R18, 16 R479, R482, R483): the size checks, who may
write, and what each writable field does. A field that has a command of its own acts as that command does. -/

namespace Sys2Proof.Machine

/-! ### Word buffers -/

/-- Write 8 B of a word buffer of `k` bytes. -/
def putWord (buf : List Byte) (k i : Nat) (d : Reg) : List Byte := putBytes buf k (8 * i) (leBytes d.toNat 8)
/-- Replace a half of a 128-bit value. -/
def withHalf (v : BitVec 128) (k : Nat) (d : Reg) : BitVec 128 :=
  if k = 0 then BitVec.ofNat 128 (v.toNat / 2 ^ 64 * 2 ^ 64 + d.toNat) else BitVec.ofNat 128 (v.toNat % 2 ^ 64 + d.toNat * 2 ^ 64)

/-! ### The windows -/

/-- BLK_PORT_STATE: reenable is W1S, reenable_refused W1C (02 R87, R88). -/
def State.writePort (s : State) (i : Nat) (d : Reg) : State :=
  let p := s.port i
  let s := s.setPort i { p with reenableRefused := w1c p.reenableRefused d 17 }
  if bit d.toNat 16 then s.askReenable i else s

/-- BLK_POWER: a request, and W1C of request_refused (01 R46). -/
def State.writePower (s : State) (d : Reg) : State :=
  let s := { s with blk := { s.blk with requestRefused := w1c s.blk.requestRefused d 16 } }
  s.powerWrite (field d 8 2)

/-- The BLK window. -/
def State.writeBlk (s : State) (o : Nat) (d : Reg) : State :=
  match o with
  | 0x10 => s.limitWrite (field d 8 4)
  | 0x20 => s.writePower d
  | _ => match idx o 0x1000 8 358 with | some i => s.writePort i d | none => s

/-- The IMG window (04 R137): an op that R140 does not list sets result STATE. -/
def State.writeImg (s : State) (o : Nat) (d : Reg) : State :=
  match o with
  | 0 => s.imgOp (field d 0 3)
  | 8 => s.imgData d
  | _ => s

/-- The SLC window (03 R104 to R108): share registers take effect at the next boundary. -/
def State.writeSlc (s : State) (o : Nat) (d : Reg) : State :=
  match o with
  | 0x10 => { s with slc := { s.slc with arg := d &&& 0xFFFFFFFF } }
  | 0x18 => s.ownWrite (field d 41 4) (field d 0 20) (field d 20 21) (field d 45 12)
  | _ => match idx o 0x1020 8 1020 with
    | some k =>
      let g := k / 4 + 1
      let x : Share := tget (tget {} s.slc.share g) s.slc.shareStaged g
      { s with slc := { s.slc with shareStaged := mput s.slc.shareStaged g (x.withWord (k % 4) d) } }
    | none => s

/-- FNC_CFG (03 R111): FREE, CREATED and QUIESCED take a write; a write that changes harvest alone is taken in every state but
FREE, at the next boundary; any other sets BAD_STATE. ctx_slots above 96 and key_slots above 8190 are stored as written (DESIGN
CHOICE, log entry 176). -/
def State.writeCfg (s : State) (f : Nat) (d : Reg) : State :=
  let r := s.fnc f
  let new := r.withCfg d
  if f = 0 then s
  else if r.state != 0 && { new with harvest := r.harvest } == r then s.setFnc f { r with harvestPending := some new.harvest }
  else if r.state == 0 || r.state == 1 || r.state == 4 then s.setFnc f { new with harvestPending := none }
  else s.setFnc f { r with result := 1 }

/-- The FNC window. -/
def State.writeFnc (s : State) (o : Nat) (d : Reg) : State :=
  if o / 0x20 ≥ 4096 then s
  else match o % 0x20 with
    | 0 => s.writeCfg (o / 0x20) d
    | 8 => s.fncCmd (o / 0x20) (field d 0 3) (bit d.toNat 3)
    | _ => s

/-- HSL_HOME_TIMEOUT (05 R173): a write outside the ranges is ignored. -/
def State.writeTimeout (s : State) (d : Reg) : State :=
  let l := field d 0 4
  let r := field d 8 4
  if l < 1 || l > 6 || r < l + 1 || r > 7 then s else { s with homeTimeout := { localTicks := l, remoteTicks := r } }

/-- HSL_RW_CTRL (08 R276): shadow_ways of 5 to 7 keeps its value. -/
def State.writeRwCtrl (s : State) (d : Reg) : State :=
  let w := field d 0 3
  { s with rw := { s.rw with shadowWays := if w ≤ 4 then w else s.rw.shadowWays, mergeHold := field d 8 8 } }

/-- The HSL window. -/
def State.writeHsl (s : State) (o : Nat) (d : Reg) : State :=
  match o with
  | 0 => s.writeTimeout d
  | 8 => s.writeRwCtrl d
  | _ => match idx o 0x5000 8 128, idx o 0x5400 8 128 with
    | some i, _ => { s with rw := { s.rw with seeds := tset 0 s.rw.seeds i d } }
    | _, some i => { s with rw := { s.rw with limits := tset 16 s.rw.limits i (field d 0 12) } }
    | _, _ => s

/-- The MPT window (07 R247). -/
def State.writeMpt (s : State) (o : Nat) (d : Reg) : State :=
  if o = 0 then s.retireWrite (field d 32 2) (field d 0 13) (field d 16 12) else s

/-- TIN_CTRL is staged for the next boundary (10 R335). -/
def ctrlMask : Reg := rput 0xFFFF 16 16 ||| rput 7 32 3 ||| rput 0x3FFFFFF 36 26
/-- TIN_PRIO: a tx_prio equal to ctl_prio makes the write ignored (10 R335). -/
def State.writePrio (s : State) (d : Reg) : State :=
  let ctl := field (s.tin.ctrlStaged.getD s.tin.ctrl) 32 3
  if (List.range 4).any fun t => field d (16 + 4 * t) 3 == ctl then s
  else { s with tin := { s.tin with prioStaged := some (d &&& 0x7777FFFF) } }

/-- A register of a tine. -/
def State.writeTine (s : State) (t k : Nat) (d : Reg) : State :=
  let x := s.tine t
  match k with
  | 1 => s.setTine t { x with localReg := d &&& rput (2 ^ 61 - 1) 0 61 }
  | 2 => s.setTine t { x with nexthop := d &&& rput (2 ^ 48 - 1) 0 48 }
  | 3 => s.setTine t { x with latency := d &&& 0xFFFFFFFF }
  | _ => s

/-- A register of an SA slot: a write of its configuration while it is not FREE is ignored with BAD_STATE (10 R308). -/
def State.writeSa (s : State) (n k : Nat) (d : Reg) : State :=
  let a := s.sa n
  if a.state != 0 && [0, 1, 2, 3, 6].contains k then { s with tin := { s.tin with saResult := 1 } }
  else match k with
  | 0 => s.setSa n { a with cfg := d &&& ~~~(rput 1 11 1 ||| rput 3 30 2) }
  | 1 => s.setSa n { a with tines := d }
  | 2 => s.setSa n { a with peer := withHalf a.peer 0 d }
  | 3 => s.setSa n { a with peer := withHalf a.peer 1 d }
  | 6 => s.setSa n { a with sci := d }
  | _ => s

/-- The TIN window. -/
def State.writeTin (s : State) (o : Nat) (d : Reg) : State :=
  match o with
  | 0 => { s with tin := { s.tin with ctrlStaged := some (d &&& ctrlMask) } }
  | 8 => s.writePrio d
  | 0x10 => s.saCommand (field d 0 8) (field d 8 3)
  | 0x30 => { s with tin := { s.tin with ipv6 := withHalf s.tin.ipv6 0 d } }
  | 0x38 => { s with tin := { s.tin with ipv6 := withHalf s.tin.ipv6 1 d } }
  | _ => match idx o 0x1000 8 256, idx o 0x4000 8 2048, idx o 0x8040 8 1016 with
    | some k, _, _ => s.writeTine (k / 4) (k % 4) d
    | _, some k, _ => s.writeSa (k / 8) (k % 8) d
    | _, _, some k => { s with tin := { s.tin with targets := tset 0 s.tin.targets (k + 8) (d &&& 0x1FF) } }
    | _, _, _ => s

/-- QOS_ARM: arm and discard are W1S; a write that sets both discards (06 R211). -/
def State.writeArm (s : State) (d : Reg) : State :=
  let s := if bit d.toNat 0 then s.qosArm else s
  if bit d.toNat 1 then s.qosDiscard else s

/-- The QOS window (06 R211, R212). -/
def State.writeQos (s : State) (o : Nat) (d : Reg) : State :=
  match o with
  | 0 => { s with qos := { s.qos with holdRate := field d 0 4, holdAge := field d 8 4, rampDown := field d 12 4, rttLimit := field d 16 16 } }
  | 8 => s.writeArm d
  | 0x10 => { s with qos := { s.qos with armTick := d.toNat } }
  | _ => match idx o 0x100 8 16, idx o 0x1080 8 2032 with
    | some p, _ => if bit d.toNat 18 then s.setMp p { s.mp p with restore := true } else s
    | _, some k =>
      let sl := k / 16 + 1
      if k % 16 < 4 then s.stageClass sl (k % 16) (qosClassOf d) else if k % 16 = 4 then s.stageSlice sl (qosSliceOf d) else s
    | _, _ => s

/-- The VLT window (12 R387, R388). -/
def State.writeVlt (s : State) (o : Nat) (d : Reg) : State :=
  let v := s.vault
  match o with
  | 8 => s.keyCmdWrite (field d 32 2) (field d 0 13) (field d 16 12)
  | 0x18 => s.saLoadWrite (field d 8 3) (field d 0 8) (field d 12 4) (field d 16 16)
  | 0x28 => s.agreeWrite (field d 4 3) (field d 0 4)
  | 0x38 => s.enrollWrite (field d 0 2)
  | _ => match idx o 0x100 8 16, idx o 0x1000 8 32, idx o 0x2800 8 256 with
    | some k, _, _ => { s with vault := { v with peerIds := tset 0 v.peerIds (k / 2) (withHalf (tget 0 v.peerIds (k / 2)) (k % 2) d) } }
    | _, some k, _ => { s with vault := { v with importBuf := putWord v.importBuf 256 k d } }
    | _, _, some k => { s with vault := { v with agreeIn := putWord v.agreeIn 2048 k d } }
    | _, _, _ => s

/-- FLT_FIRST_CTRL: min_class, and clear (13 R399, R422). -/
def State.writeFirst (s : State) (d : Reg) : State :=
  let f := { s.flt with minClass := field d 2 2 }
  { s with flt := if bit d.toNat 1 then { f with first := none } else f }

/-- FLT_INJECT (13 R418): acts only in factory test. -/
def State.writeInject (s : State) (d : Reg) : State :=
  let u := field d 0 12
  let k := field d 14 8
  if !s.injectOn then s
  else match field d 12 2 with
    | 1 => if ceOnly.contains k || cuKinds.contains k then s.raise u k (kindClass k) 3 u 0 0 else s
    | 2 => s.injectFlip u (field d 22 36) false
    | 3 => s.injectFlip u (field d 22 36) true
    | _ => s

/-- The FLT window. -/
def State.writeFlt (s : State) (o : Nat) (d : Reg) : State :=
  match o with
  | 8 => if bit d.toNat 0 && s.flt.cls != 3 then { s with flt := { s.flt with hold := false } } else s
  | 0x28 => s.writeFirst d
  | 0x40 => s.unitCommand (field d 12 2) (field d 0 12)
  | 0x50 => { s with flt := { s.flt with dumpAddr := field d 0 32 } }
  | 0x60 => s.writeInject d
  | _ => match idx o 0x800 8 256 with
    | some k =>
      let x : KindCfg := { irq := bit d.toNat 0, noAlert := bit d.toNat 1, ceLimit := field d 8 8, act := bit d.toNat 16 }
      { s with flt := { s.flt with kindCfg := tset (kindInit k) s.flt.kindCfg k x } }
    | none => s

/-- OBS_STOP_CTRL (15 R471, R477): the triggers arm a stop unless one is in force. -/
def State.writeStop (s : State) (d : Reg) : State :=
  let b : Obs := { s.obs with tickEn := bit d.toNat 0, faultEn := bit d.toNat 1, stopClass := field d 2 2, markerEn := bit d.toNat 4,
                              wfgOnStop := bit d.toNat 5, resume := s.obs.resume || (s.stopped && bit d.toNat 6),
                              markerSlice := field d 8 7, maxTicks := field d 16 16, markerMatch := BitVec.ofNat 32 (field d 32 32) }
  let b := if b.stopState ≥ 2 then b else { b with stopState := b.rest, fired := b.fired && b.rest == 1 }
  let s := { s with obs := b }
  if bit d.toNat 7 then s.stopDisarm else s

/-- The OBS window (15 R476, R477). -/
def State.writeObs (s : State) (o : Nat) (d : Reg) : State :=
  match o with
  | 0 => { s with obs := { s.obs with stopRefused := w1c s.obs.stopRefused d 2 } }
  | 8 => s.writeStop d
  | 0x10 => { s with obs := { s.obs with stopTick := d.toNat } }
  | 0x20 => if bit d.toNat 0 then s.wfgAsk else s
  | 0x30 => { s with obs := { s.obs with wfgAddr := field d 0 16 } }
  | 0x40 => { s with obs := { s.obs with ringSel := field d 0 16 } }
  | _ => match idx o 0x1000 8 64 with
    | some n =>
      let x := d &&& 0x1FFFFFFF
      if x = tget (tget 0 s.obs.sels n) s.obs.selsStaged n then s
      else { s with obs := { s.obs with selsStaged := mput s.obs.selsStaged n x } }
    | none => s

/-- JOB_SEQ_BASE and JOB_SEQ_RANGE: taken while the window is CLOSED (09 R302). -/
def State.writeSeq (s : State) (sl k : Nat) (d : Reg) : State :=
  let w := s.seqw sl
  if k = 2 then s.seqCmd sl (field d 0 2)
  else if k ≥ 3 then s
  else if w.state != 0 then s.setSeqw sl { w with result := 1 }
  else if k = 0 then s.setSeqw sl { w with first := field d 0 20, granules := field d 20 20, fmt := field d 40 4, shift := field d 44 4 }
  else s.setSeqw sl { w with seqFirst := field d 0 18, seqCount := field d 18 19 }

/-- JOB_FN_QUEUE: ignored where the depths would pass 4,096 together (09 R302). -/
def State.writeDepth (s : State) (f : Nat) (d : Reg) : State :=
  let n := field d 0 13
  let others := s.fncs.foldl (fun a x => if x.1 = f then a else a + x.2.jobDepth) 0
  if others + n > 4096 then s else s.setFnc f { s.fnc f with jobDepth := n }

/-- The JOB window. -/
def State.writeJob (s : State) (o : Nat) (d : Reg) : State :=
  match idx o 0x1020 8 508, idx o 0x8000 8 4096 with
  | some k, _ => s.writeSeq (k / 4 + 1) (k % 4) d
  | _, some f => s.writeDepth f d
  | _, _ => s

/-- The FWN window (14 R455): reserved ops do nothing. -/
def State.writeFwn (s : State) (o : Nat) (d : Reg) : State :=
  match o with
  | 8 => if 1 ≤ field d 0 3 && field d 0 3 ≤ 5 then s.fwOp (field d 0 3) else s
  | 0x10 => s.fwData d
  | 0x20 => { s with fawn := { s.fawn with fwTick := d.toNat } }
  | 0x30 => { s with fawn := { s.fawn with mgWake := bit d.toNat 0, timerWake := bit d.toNat 1, wakeTick := field d 32 32 } }
  | _ => match idx o 0x400 8 32 with
    | some m => s.setSupply m { s.supply m with low := field d 0 12, high := field d 16 12 }
    | none => s

/-- What a write of 64 bits at an aligned offset does. -/
def State.regSet (s : State) (a : Nat) (d : Reg) : State :=
  let (n, o) := mgWindow a
  match n with
  | 0 => s.writeBlk o d | 1 => s.writeImg o d | 2 => s.writeSlc o d | 3 => s.writeFnc o d | 4 => s.writeHsl o d
  | 5 => s.writeMpt o d | 6 => s.writeTin o d | 7 => s.writeQos o d | 8 => s.writeVlt o d | 9 => s.writeFlt o d
  | 10 => s.writeObs o d | 11 => s.writeJob o d | 12 => if o = 8 then s.fpageCmd d else s | 13 => s.writeFwn o d
  | 14 => if o = 8 then s.pairWrite (field d 0 2) else s | _ => s

/-! ### Sizes and sources (00 R4, R10, R11) -/

/-- Whether the size and the alignment of an access are permitted (00 R10, R11). -/
def State.mgAccessOk (s : State) (a : Nat) (wide : Bool) : Bool :=
  if wide then a % 8 == 0
  else a % 4 == 0 && (match s.mgReg (a / 8 * 8) with | some r => r.1 | none => true)

/-- A permitted write: no writable field of a status register lies in its upper half. -/
def State.mgSet (s : State) (a : Nat) (wide : Bool) (d : Reg) : State :=
  if wide then s.regSet a d else if a % 8 = 0 then s.regSet a (d &&& 0xFFFFFFFF) else s

/-- What a read of the window returns (00 R10, R11, R18): 0 where no register is, a half in bits [31:0] for a 32-bit read (log entry
157); none where the access is refused. -/
def State.mgValue (s : State) (a : Nat) (wide : Bool) : Option Reg :=
  let v : Reg := match s.mgReg (a / 8 * 8) with | some r => r.2 | none => 0
  if !s.mgAccessOk a wide then none
  else if wide then some v else some (BitVec.ofNat 64 ((v.toNat >>> (8 * (a % 8))) % 2 ^ 32))

/-- What a read does beside returning a value: it clears counts or moves an address on (13 R399, R421, 07 R246, 15 R476). -/
def State.readEffect (s : State) (a : Nat) : State :=
  let (n, o) := mgWindow a
  if n = 9 && o = 0x38 then s.fltCountClear
  else if n = 9 && o = 0x58 then s.dumpAdvance
  else if n = 10 && o = 0x38 then s.wfgAdvance
  else if n = 5 then (match idx o 0x100 8 16 with | some p => s.mptErrClear p | none => s)
  else s

/-- Whether the phase answers a management request RETRY (14 R438). -/
def State.mgWaits (s : State) (write : Bool) (a : Nat) : Bool :=
  let n := (mgWindow a).1
  if s.fawn.phase = 3 then write || !([0, 8, windowBases.getD 13 0].contains (a / 8 * 8))
  else s.fawn.phase == 6 && write && n != 13 && n != 9

/-- The status of a management request (00 R10, R16, 02 R83, 14 R438). -/
def State.mgStatus (s : State) (r : MgReq) : Status :=
  if !s.mgAccessOk r.addr.toNat r.wide then .denied
  else if r.write && !mgDparOk r then .poison
  else if s.mgWaits r.write r.addr.toNat then .retry
  else .ok

/-- Serve a management request, and answer it under its tag. -/
def State.mgServe (s : State) (r : MgReq) (st : Status) : State :=
  let a := r.addr.toNat
  let s := { s with mgTag := r.tag.toNat }
  let s := if st != .ok then s.mgRsp st 0
    else if r.write then (s.mgSet a r.wide r.wdata).mgRsp .ok 0
    else (s.readEffect a).mgRsp .ok ((s.mgValue a r.wide).getD 0)
  { s with mgTag := 0 }

/-- A transfer on the management port (02 R70, R83): one that fails its control parity is discarded. -/
def State.driverReq (s : State) (r : MgReq) : State :=
  if !s.portUp mgPort || s.fawn.phase < 3 then s
  else if !mgCparOk r then s.portEvent mgPort 0x63
  else
    let st := s.mgStatus r
    (if r.write && !mgDparOk r then s.portEvent mgPort 0x64 else s).mgServe r st

/-- A write by Fawn: the FWN window is its own (14 R426); another write of it completes with DENIED on its bus (16 R482). -/
def State.fawnWrite (s : State) (a : Nat) (wide : Bool) (d : Reg) : State :=
  if (mgWindow a).1 = 13 && s.mgAccessOk a wide then s.mgSet a wide d else s

/-- A write by the board controller reaches three fields (00 R4, 16 R483). -/
def State.boardWrite (s : State) (a : Nat) (d : Reg) : State :=
  if a = 0x10 then s.limitWrite (field d 8 4)
  else if a = 0x20 then s.effecterWrite 100 (field d 8 2)
  else if a = 0x1000 + 8 * mgPort && bit d.toNat 16 then s.askReenable mgPort
  else s

/-- REGISTER_WRITE (00 R10, R18, 02 R70, 16 R479): a transfer of the management port, or a write by Fawn or the board controller. -/
def execRegisterWrite (src : MgSource) (r : MgReq) (s : State) : Host.Outcome State Fault Refusal :=
  .next (match src with
    | .driver => s.driverReq r
    | .fawn => if r.write then s.fawnWrite r.addr.toNat r.wide r.wdata else s
    | .board => if r.write then s.boardWrite r.addr.toNat r.wdata else s)

end Sys2Proof.Machine
end

