-- ==== Sys2Proof/Machine/Tick.lean ====
section
/-! DEFINITION. The tick boundary (01 R37 to R43): what every unit does in the first 64 fclk of a tick, in the order of
R39: snapshot, commit, refill, deadlines (log entry 10). -/

namespace Sys2Proof.Machine

/-- Apply `f` for every key listed in a table, in rising order. -/
def State.each {α : Type} (s : State) (m : Map α) (f : State → Nat → State) : State :=
  m.foldl (fun (s : State) e => f s e.1) s

/-- Apply `f` for every index below `n`. -/
def State.upTo (s : State) (n : Nat) (f : State → Nat → State) : State := (List.range n).foldl f s

/-! ### The end of a tick -/

/-- The clock moves on by one tick, with tick_out, tb_offset and tb_offset_valid (02 R76). -/
def State.nextTick (s : State) : State :=
  let s := { s with blk := { s.blk with tick := s.blk.tick + 1 } }
  s.emit (.tick s.blk.offsetNs s.offsetValid)

/-- Message paths deliver what was raised in the tick, and the mirror set of the tick is collected (13 R391, 14 R447). -/
def State.tickClose (s : State) : State :=
  let s := s.mirrorSend.pairCollect
  if 4 ≤ s.fawn.phase then s.deliverAll else s

/-- Waits that do not run during an fclk change or a stop move with the clock (01 R34, 06 R204, 15 R472). -/
def State.holdClocks (s : State) : State :=
  if s.stopped then
    let q := fun (x : Nat × FncRec) => if x.2.state = 3 then (x.1, { x.2 with quiesceTick := x.2.quiesceTick + 1 }) else x
    { ((s.shiftWork (· + 1)).shiftLinks (· + 1)) with fncs := s.fncs.map q }
  else if s.blk.fclkChange.isSome then s.shiftWork (· + 1)
  else s

/-! ### Snapshot -/

/-- Initialization of guarded memory advances by one piece of each home slice (14 R437). -/
def State.initTick (s : State) : State :=
  if s.fawn.phase != 6 then s
  else if s.fawn.initLeft ≤ 1 then s.initialized
  else { s with fawn := { s.fawn with initLeft := s.fawn.initLeft - 1 } }

/-- The field of a unit's status register that holds its mode or state: HSL_STATUS, QOS_MP_STATE, TIN_STATUS,
BLK_PORT_STATE, JOB_ENGINE_STATUS, VLT_STATE, PAIR_STATUS (15 R470). -/
def State.unitState (s : State) (u : Nat) : Nat :=
  let i := u % 256
  match u / 256 with
  | 1 => (s.homeStatus i).toNat % 8
  | 2 => s.mpMode i
  | 3 => (s.tine i).state
  | 4 => (s.port i).state
  | 5 => (s.engineReg i).toNat % 4
  | 6 => if i = 0 then s.vault.state else 0
  | 10 => (s.port (hostPort + i)).state
  | 11 => s.pair.state
  | _ => 0

/-- That field at reset. -/
def unitStateInit (u : Nat) : Nat :=
  match u / 256 with
  | 1 => flag (u % 256 ≥ 128)
  | 2 => 1
  | 5 => 3
  | _ => 0

/-- Units whose mode or state is not as last entered in their ring enter it (15 R470, log entry 166). -/
def State.stateEvents (s : State) : State :=
  if s.obs.stopState ≥ 2 then s
  else allUnits.foldl (fun (s : State) u =>
    let v := s.unitState u
    if v = tget (unitStateInit u) s.obs.unitStates u then s
    else ({ s with obs := { s.obs with unitStates := tset (unitStateInit u) s.obs.unitStates u v } } : State).ring u 0x83 v) s

/-- Requests of tile ports and the host port that a whole tick has passed without a final answer (15 R470). -/
def State.slowRequests (s : State) : State :=
  s.reqs.foldl (fun (s : State) q =>
    if q.since + 2 = s.blk.tick then s.ring (unitOfPort q.port) 0x85 (q.port + q.tag * 65536) else s) s

/-- The fclk of the ended tick count for each memory port whose throttle is 1 or above (15 R459). -/
def State.throttleNote (s : State) (p : Nat) : State :=
  if (s.mp p).throttle = 0 then s else s.note (mptUnit p) 0x13 none s.fclkPerTick

/-- SNAPSHOT: latencies, port means and counters of the ended tick are latched (06 R191, R202, 15 R457). -/
def State.snapshot (s : State) : State :=
  let s := (s.upTo 16 State.throttleNote).measureAll.publish
  let s := s.upTo 16 State.mpTick
  let s := s.slowRequests.stateEvents
  let s : State := { s with mpt := { s.mpt with rebuilt := s.mpt.rebuiltNow, rebuiltNow := 0 } }
  let s := if s.obs.wfgPending then s.wfgLatch false else s
  s.initTick

/-! ### Commit -/

/-- Contexts whose entry cannot be read are lost with cause 0x09 (11 R359). -/
def State.loseUnread (s : State) : State :=
  let q := s.ctxWin.badCtxs
  q.foldl (fun (s : State) x => s.ctxStateLost x) { s with ctxWin := { s.ctxWin with badCtxs := [] } }
/-- A pending ABANDON applies ahead of the other causes of its boundary (11 R341, R354). -/
def State.abandonFirst (s : State) (f : Nat) : State :=
  match (s.view f).ctxPending with
  | some (4, _) => s.ctxApply f
  | _ => s
/-- Contexts lost in the ended tick leave their slots (11 R342). -/
def State.loseAll (s : State) : State :=
  let q := s.losing
  q.foldl (fun (s : State) e => s.loseContext e.1 e.2) { s with losing := [] }

/-- Share masks take effect (03 R104, R110). -/
def State.shareApply (s : State) : State :=
  let m := s.slc.shareStaged.foldl (fun (m : Map Share) e => tset {} m e.1 e.2) s.slc.share
  { s with slc := { s.slc with share := m, shareStaged := [] } }

/-- A staged harvest bit takes effect (03 R113). -/
def State.harvestApply (s : State) (f : Nat) : State :=
  let r := s.fnc f
  match r.harvestPending with
  | some h => s.setFnc f { r with harvest := h, harvestPending := none }
  | none => s

/-- TIN_CTRL and TIN_PRIO take effect (10 R335). -/
def State.tinApply (s : State) : State :=
  let t := s.tin
  let t := match t.ctrlStaged with
    | some d => { t with udpPort := field d 16 16, ctlPrio := field d 32 3, rto := field d 36 8, retxMax := field d 44 4,
                         transferDeadline := field d 48 4, pathWindow := field d 52 8, udpPaths := field d 60 2,
                         ctrlStaged := none }
    | none => t
  let t := match t.prioStaged with
    | some d => { t with rxClass := BitVec.ofNat 16 (field d 0 16),
                         txPrio := [field d 16 3, field d 20 3, field d 24 3, field d 28 3], prioStaged := none }
    | none => t
  { s with tin := t }

/-- A key staged in an earlier tick is swapped in (12 R372). -/
def State.swapStaged (s : State) (k : Nat) : State :=
  if (s.key k).staged && decide ((s.key k).stagedTick < s.blk.tick) then s.keySwap k none else s

/-- The ownership, function and view commands (03 R107 to R118, 11 R339 to R346): what was cleaned before, then the functions, and
an ownership command under their new states (03 R119). -/
def State.commitOwn (s : State) : State :=
  let s := s.cleaning.foldl (fun (s : State) (c : CleanSt) => s.granuleCleaned c.granule) s
  let s := s.each s.fncs State.fncApply
  let s := s.each s.fncs State.tearStep
  let s := s.each s.fncs State.quiesceDrained
  let s := (s.each s.fncs State.quiesceForced).ownApply
  let s := s.loseUnread.loseAll.each s.views State.ctxApply
  let s := s.each s.objs State.objDrained
  let s := s.each s.views State.objApply
  s.fpageApply.each s.views State.usageCapture

/-- The vault's and the link manager's commands (12 R370 to R380, 10 R310, 07 R234). -/
def State.commitKeys (s : State) : State :=
  let s := s.agreeApply.retireApply
  let s := (s.each s.keys State.keyZeroize).each s.keys State.doomStep
  let s := s.each s.keys State.swapStaged
  s.keyCmdApply.enrollApply.saLoadApply.saApply

/-- Sequence windows, shares, selections, targets and tracing (09 R298, 15 R459, 06 R211, 15 R465). -/
def State.commitRates (s : State) : State :=
  let s := s.each s.seqs State.seqApply
  let s := s.shareApply.each s.fncs State.harvestApply
  s.selApply.qosApply.tinApply.each s.slots State.traceApply

/-- Ports asked back are enabled, and every port's count starts again (02 R84, R87). -/
def State.portsTick (s : State) : State :=
  let s := s.each s.ports fun (s : State) i => if (s.port i).reenable then s.reenablePort i else s
  let p := fun (x : Nat × PortSt) => (x.1, { x.2 with errs := 0, gap := false })
  { s with ports := (s.ports.map p).filter fun x => x.2 != {} }

/-- FAILED on a block-fatal fault of start-up (14 R437, R439). -/
def State.startFatal (s : State) : State :=
  if s.fatal && 0 < s.fawn.phase && s.fawn.phase < 7 && [0xE2, 0xAA, 0xC8].contains s.flt.fatalKind then s.setPhase 15 else s

/-- A stop ends by its resume bit or its limit (15 R473, R474). -/
def State.stopEnds (s : State) : State := if s.stopped && (s.obs.resume || s.stopExpired) then s.stopRelease else s

/-- COMMIT: every change armed for the new tick is applied. In a global stop the tenant side stays as it is, and a delta
image due is MISSED (01 R43, 15 R472). Values armed by QOS_ARM for a tick of the stop stay armed and apply at the first boundary after the
release: 01 R43 and 06 R212 read together leave this open. DESIGN CHOICE (log entry 179). -/
def State.commit (s : State) : State :=
  let s := s.stopBegin
  let s := (if s.stopped then s else s.each s.views State.abandonFirst).loseAll.imgClose.imgApply.drainStart.imgCommit
  let s := if s.stopped then s else s.commitOwn.commitKeys.commitRates
  let s := (s.portsTick.upTo 16 State.restoreFb).pairTick
  let s := s.declareAll.startFatal.handover.revertStep.powerTick.thermalTick.fclkBoundary
  let s := if s.stopped then s else s.each s.views fun (s : State) f => if (s.view f).reportPending then s.reportCapture f else s
  let s := if s.obs.stopState = 2 && s.obs.stopAt + 2 ≤ s.blk.tick then s.stopSettled else s
  s.stopEnds

/-! ### Deadlines -/

/-- Reduce windows past their deadline close (08 R265). -/
def State.windowsLate (s : State) : State :=
  s.each s.rw.windows fun (s : State) w => if s.windowLate (s.win w) then s.closeWindow w 2 else s

/-- Deadlines of the tenant side, which stand still in a stop. -/
def State.deadlinesOpen (s : State) : State :=
  let s := if s.fatal then s else s.recTick.each s.rw.windows State.windowRedo
  let s := s.each s.fncs State.quiesceForce
  let s := s.holdAges.inboxAges
  let s := if s.fatal then s else s.seqPump.pumpAll (s.sas.map (·.1))
  let s := if s.fatal then s else (s.jobs.map (·.id)).foldl State.pageTimeout s
  let s := if s.fatal then s else (s.each s.seqs State.tablePiece).each s.seqs State.seqSave
  (s.upTo 64 State.ctlRelease).windowsGrow.openGates.flushTick

/-- Deadlines that run in a stop as well: keys, SAs, ports, links and members. -/
def State.deadlinesKept (s : State) : State :=
  let s := s.each s.ports State.tagHoldEnd
  let s := s.each s.keys State.keyForced
  let s := s.each s.keys State.keyRelease
  let s := s.each s.sas State.saQuarantine
  let s := s.each s.sas State.saFree
  let s := (s.upTo 16 State.grantLocks).urgTicks.upTo 64 State.tineTick
  s.membersTick.refTick.xoffAll

/-- Fawn's part of a boundary's deadlines, which runs in Doze as well (14 R424, R430, R440, 01 R34). -/
def State.fawnTick (s : State) : State := s.handlingEnds.alertRelease.heartbeatTick.offsetTickWatch

/-- Fills older than 64 ticks no longer count (11 R356). -/
def State.dropFills (s : State) : State := { s with fills := s.fills.filter fun x => decide (s.blk.tick < x.1 + 64) }

/-- DEADLINES: every deadline moves by one tick, and those that expire act. -/
def State.deadlines (s : State) : State :=
  let s := if s.fatal then s else s.windowsLate
  let s := if s.stopped then s else s.deadlinesOpen
  let s := s.deadlinesKept.fawnTick
  let s := if s.blk.fclkChange.isSome then s.fclkFails else s
  let s := if s.obs.wfgState = 1 && s.obs.wfgTick + 64 ≤ s.blk.tick then s.wfgReady else s
  s.traceFlush.dumpTick.replayLanded.dropFills.notice

/-! ### The boundary -/

/-- The boundary in Active. -/
def State.boundary (s : State) : State := s.tickClose.nextTick.holdClocks.snapshot.commit.refill.deadlines

/-- The boundary in Doze: Fawn, the tick and the collector run (14 R440). -/
def State.dozeBoundary (s : State) : State :=
  let s := s.deliverAll.nextTick.thermalTick.fawnTick
  let s := if s.blk.fclkChange.isSome then s.fclkFails else s
  let s := s.deliverAll.declareIf fun m => msgClass m == 3
  (s.wakeUp .timer).notice

/-- Whether the tick runs: a running counter on a present timebase, in Active or Doze (01 R36, R45, R46). -/
def State.ticks (s : State) : Bool := s.blk.tickRunning && s.blk.timebaseOk && (s.blk.power == 1 || s.blk.power == 2)

/-- TICK_BOUNDARY (01 R37, R39). -/
def execTickBoundary (s : State) : Host.Outcome State Fault Refusal :=
  .next (if s.ticks then (if s.blk.power = 2 then s.boundary else s.dozeBoundary) else s)

end Sys2Proof.Machine
end

