-- ==== Sys2Proof/Machine/Dispatch.lean ====
section
/-! DEFINITION. Every command to its meaning, one arm per constructor of `Instr` (spec/opcode_table.json). -/

namespace Sys2Proof.Machine

def exec (i : Instr) (s : State) : Host.Outcome State Fault Refusal :=
  match i with
  | .tickBoundary => Sys2Proof.Machine.execTickBoundary s
  | .registerWrite src r => Sys2Proof.Machine.execRegisterWrite src r s
  | .timebaseLost => Sys2Proof.Machine.execTimebaseLost s
  | .tickOffsetHigh => Sys2Proof.Machine.execTickOffsetHigh s
  | .fclkChange point => Sys2Proof.Machine.execFclkChange point s
  | .fclkStable => Sys2Proof.Machine.execFclkStable s
  | .fclkUnstable => Sys2Proof.Machine.execFclkUnstable s
  | .thermalRaise => Sys2Proof.Machine.execThermalRaise s
  | .thermalThrottle => Sys2Proof.Machine.execThermalThrottle s
  | .thermalPark => Sys2Proof.Machine.execThermalPark s
  | .thermalTrip => Sys2Proof.Machine.execThermalTrip s
  | .thermalSample k v => Sys2Proof.Machine.execThermalSample k v s
  | .supplySample m v => Sys2Proof.Machine.execSupplySample m v s
  | .sensorStale supply k => Sys2Proof.Machine.execSensorStale supply k s
  | .rdShared port r => Sys2Proof.Machine.execRdShared port r s
  | .rdUnique port r => Sys2Proof.Machine.execRdUnique port r s
  | .rdOnce port r => Sys2Proof.Machine.execRdOnce port r s
  | .rdSeq port r => Sys2Proof.Machine.execRdSeq port r s
  | .evictDirty port r => Sys2Proof.Machine.execEvictDirty port r s
  | .evictClean port r => Sys2Proof.Machine.execEvictClean port r s
  | .wrSector port r => Sys2Proof.Machine.execWrSector port r s
  | .atomicHome port r => Sys2Proof.Machine.execAtomicHome port r s
  | .atomicMem port r => Sys2Proof.Machine.execAtomicMem port r s
  | .reduceOpen port r => Sys2Proof.Machine.execReduceOpen port r s
  | .reduceClose port r => Sys2Proof.Machine.execReduceClose port r s
  | .reduceContribution port r => Sys2Proof.Machine.execReduceContribution port r s
  | .marker port r fclk => Sys2Proof.Machine.execMarker port r fclk s
  | .jobSubmit port r => Sys2Proof.Machine.execJobSubmit port r s
  | .linkFence port r => Sys2Proof.Machine.execLinkFence port r s
  | .linkFenceComplete port => Sys2Proof.Machine.execLinkFenceComplete port s
  | .flushDone port r => Sys2Proof.Machine.execFlushDone port r s
  | .snoopResponse port r => Sys2Proof.Machine.execSnoopResponse port r s
  | .snoopTimeout port id => Sys2Proof.Machine.execSnoopTimeout port id s
  | .flushDoneTimeout name port => Sys2Proof.Machine.execFlushDoneTimeout name port s
  | .sfUncorrectable home fset => Sys2Proof.Machine.execSfUncorrectable home fset s
  | .dataArrayError home set way tagError mirrorBad => Sys2Proof.Machine.execDataArrayError home set way tagError mirrorBad s
  | .reservationExpiry home origin => Sys2Proof.Machine.execReservationExpiry home origin s
  | .memoryRequestIssue p => Sys2Proof.Machine.execMemoryRequestIssue p s
  | .memoryReadReturn p r => Sys2Proof.Machine.execMemoryReadReturn p r s
  | .memoryWriteAck p tag cparOk inGrant => Sys2Proof.Machine.execMemoryWriteAck p tag cparOk inGrant s
  | .stripeLockGrant p => Sys2Proof.Machine.execStripeLockGrant p s
  | .parityRewrite group offset => Sys2Proof.Machine.execParityRewrite group offset s
  | .mpTrainedFall p => Sys2Proof.Machine.execMpTrainedFall p s
  | .mpTrainedRise p => Sys2Proof.Machine.execMpTrainedRise p s
  | .mpTrainedLost p => Sys2Proof.Machine.execMpTrainedLost p s
  | .mpHealthyLost p => Sys2Proof.Machine.execMpHealthyLost p s
  | .portRespTimeout port => Sys2Proof.Machine.execPortRespTimeout port s
  | .portStuckReady port paused => Sys2Proof.Machine.execPortStuckReady port paused s
  | .portStuckValid port => Sys2Proof.Machine.execPortStuckValid port s
  | .portKeepaliveLost port => Sys2Proof.Machine.execPortKeepaliveLost port s
  | .portLeaveReset port => Sys2Proof.Machine.execPortLeaveReset port s
  | .portReenable port => Sys2Proof.Machine.execPortReenable port s
  | .tagReuseHoldEnd port => Sys2Proof.Machine.execTagReuseHoldEnd port s
  | .hostRead r => Sys2Proof.Machine.execHostRead r s
  | .hostWrite r => Sys2Proof.Machine.execHostWrite r s
  | .hostFetchAdd r => Sys2Proof.Machine.execHostFetchAdd r s
  | .hostCompareSwap r => Sys2Proof.Machine.execHostCompareSwap r s
  | .kbStart k => Sys2Proof.Machine.execKbStart k s
  | .kbEnd k => Sys2Proof.Machine.execKbEnd k s
  | .endComplete slot => Sys2Proof.Machine.execEndComplete slot s
  | .endTimeout slot => Sys2Proof.Machine.execEndTimeout slot s
  | .kbAbort k => Sys2Proof.Machine.execKbAbort k s
  | .debugSample lane tile pc stall cpar fclk => Sys2Proof.Machine.execDebugSample lane tile pc stall cpar fclk s
  | .urgencyLevel n level => Sys2Proof.Machine.execUrgencyLevel n level s
  | .urgencyStarved n => Sys2Proof.Machine.execUrgencyStarved n s
  | .factoryTest => Sys2Proof.Machine.execFactoryTest s
  | .idcode => Sys2Proof.Machine.execIdcode s
  | .samplePreload pins preload => Sys2Proof.Machine.execSamplePreload pins preload s
  | .extest => Sys2Proof.Machine.execExtest s
  | .ijtagAccess inst write reveals data => Sys2Proof.Machine.execIjtagAccess inst write reveals data s
  | .bypass code => Sys2Proof.Machine.execBypass code s
  | .mctpPacket p => Sys2Proof.Machine.execMctpPacket p s
  | .getTid => Sys2Proof.Machine.execGetTid s
  | .getPdr id => Sys2Proof.Machine.execGetPdr id s
  | .getSensorReading id => Sys2Proof.Machine.execGetSensorReading id s
  | .getStateSensorReadings id => Sys2Proof.Machine.execGetStateSensorReadings id s
  | .setNumericEffecterValue id v => Sys2Proof.Machine.execSetNumericEffecterValue id v s
  | .getNumericEffecterValue id => Sys2Proof.Machine.execGetNumericEffecterValue id s
  | .setStateEffecterStates id v => Sys2Proof.Machine.execSetStateEffecterStates id v s
  | .getStateEffecterStates id => Sys2Proof.Machine.execGetStateEffecterStates id s
  | .pollForPlatformEventMessage => Sys2Proof.Machine.execPollForPlatformEventMessage s
  | .spdmGetVersion => Sys2Proof.Machine.execSpdmGetVersion s
  | .spdmGetCapabilities => Sys2Proof.Machine.execSpdmGetCapabilities s
  | .spdmNegotiateAlgorithms => Sys2Proof.Machine.execSpdmNegotiateAlgorithms s
  | .spdmGetDigests => Sys2Proof.Machine.execSpdmGetDigests s
  | .spdmGetCertificate slot offset len => Sys2Proof.Machine.execSpdmGetCertificate slot offset len s
  | .spdmChallenge slot nonce => Sys2Proof.Machine.execSpdmChallenge slot nonce s
  | .spdmGetMeasurements index signed nonce => Sys2Proof.Machine.execSpdmGetMeasurements index signed nonce s
  | .spdmUnsupportedRequest code => Sys2Proof.Machine.execSpdmUnsupportedRequest code s
  | .assign first count fn => Sys2Proof.Machine.execAssign first count fn s
  | .release first count fn => Sys2Proof.Machine.execRelease first count fn s
  | .setAccess first count fn => Sys2Proof.Machine.execSetAccess first count fn s
  | .setFormat first count fn => Sys2Proof.Machine.execSetFormat first count fn s
  | .cleaningPiece e => Sys2Proof.Machine.execCleaningPiece e s
  | .granuleCleaned g => Sys2Proof.Machine.execGranuleCleaned g s
  | .fncCreate f => Sys2Proof.Machine.execFncCreate f s
  | .fncEnable f => Sys2Proof.Machine.execFncEnable f s
  | .fncQuiesce f => Sys2Proof.Machine.execFncQuiesce f s
  | .quiesceDrained f => Sys2Proof.Machine.execQuiesceDrained f s
  | .quiesceDeadline f => Sys2Proof.Machine.execQuiesceDeadline f s
  | .quiesceForcedDone f => Sys2Proof.Machine.execQuiesceForcedDone f s
  | .fncResume f => Sys2Proof.Machine.execFncResume f s
  | .fncReset f erase => Sys2Proof.Machine.execFncReset f erase s
  | .resetComplete f => Sys2Proof.Machine.execResetComplete f s
  | .fncRemove f => Sys2Proof.Machine.execFncRemove f s
  | .removeComplete f => Sys2Proof.Machine.execRemoveComplete f s
  | .reportRequest f tag => Sys2Proof.Machine.execReportRequest f tag s
  | .reportCapture f => Sys2Proof.Machine.execReportCapture f s
  | .reportReady f => Sys2Proof.Machine.execReportReady f s
  | .imgOpen => Sys2Proof.Machine.execImgOpen s
  | .imgData d => Sys2Proof.Machine.execImgData d s
  | .imgClose => Sys2Proof.Machine.execImgClose s
  | .imgCheckComplete => Sys2Proof.Machine.execImgCheckComplete s
  | .imgArm => Sys2Proof.Machine.execImgArm s
  | .imgCancel => Sys2Proof.Machine.execImgCancel s
  | .imgApply => Sys2Proof.Machine.execImgApply s
  | .drainStart => Sys2Proof.Machine.execDrainStart s
  | .tagWalkPiece h => Sys2Proof.Machine.execTagWalkPiece h s
  | .filterWalkPiece h => Sys2Proof.Machine.execFilterWalkPiece h s
  | .imgCommit => Sys2Proof.Machine.execImgCommit s
  | .throttleRise p qlevel => Sys2Proof.Machine.execThrottleRise p qlevel s
  | .throttleFall p qlevel => Sys2Proof.Machine.execThrottleFall p qlevel s
  | .holdAgeExpiry port tag => Sys2Proof.Machine.execHoldAgeExpiry port tag s
  | .targetUnmet sl t => Sys2Proof.Machine.execTargetUnmet sl t s
  | .feedbackImplausible p => Sys2Proof.Machine.execFeedbackImplausible p s
  | .restoreFeedback p => Sys2Proof.Machine.execRestoreFeedback p s
  | .qosArm => Sys2Proof.Machine.execQosArm s
  | .qosDiscard => Sys2Proof.Machine.execQosDiscard s
  | .qosApply => Sys2Proof.Machine.execQosApply s
  | .keyRetire k fn => Sys2Proof.Machine.execKeyRetire k fn s
  | .retireWalkPiece h => Sys2Proof.Machine.execRetireWalkPiece h s
  | .keyZeroize k => Sys2Proof.Machine.execKeyZeroize k s
  | .keyRetireForced k => Sys2Proof.Machine.execKeyRetireForced k s
  | .keyQuarantineEnd k => Sys2Proof.Machine.execKeyQuarantineEnd k s
  | .mergeForward die n => Sys2Proof.Machine.execMergeForward die n s
  | .windowOpened w => Sys2Proof.Machine.execWindowOpened w s
  | .windowConvert w => Sys2Proof.Machine.execWindowConvert w s
  | .windowComplete w => Sys2Proof.Machine.execWindowComplete w s
  | .windowDeadline w => Sys2Proof.Machine.execWindowDeadline w s
  | .jobDescSubmit f tag c word7 => Sys2Proof.Machine.execJobDescSubmit f tag c word7 s
  | .traceEnable f tag c ctrl => Sys2Proof.Machine.execTraceEnable f tag c ctrl s
  | .jobStart id => Sys2Proof.Machine.execJobStart id s
  | .jobPiece e pick => Sys2Proof.Machine.execJobPiece e pick s
  | .copy id => Sys2Proof.Machine.execCopy id s
  | .transcodeCopy id => Sys2Proof.Machine.execTranscodeCopy id s
  | .gather id => Sys2Proof.Machine.execGather id s
  | .scatterReduce id => Sys2Proof.Machine.execScatterReduce id s
  | .embedBag id => Sys2Proof.Machine.execEmbedBag id s
  | .kvAppend id => Sys2Proof.Machine.execKvAppend id s
  | .kvGather id => Sys2Proof.Machine.execKvGather id s
  | .kvAge id => Sys2Proof.Machine.execKvAge id s
  | .kvFork id => Sys2Proof.Machine.execKvFork id s
  | .kvTruncate id => Sys2Proof.Machine.execKvTruncate id s
  | .rekeyCopy id => Sys2Proof.Machine.execRekeyCopy id s
  | .zero id => Sys2Proof.Machine.execZero id s
  | .scrub id => Sys2Proof.Machine.execScrub id s
  | .dirtyHarvest id => Sys2Proof.Machine.execDirtyHarvest id s
  | .jobComplete id => Sys2Proof.Machine.execJobComplete id s
  | .pageWaitTimeout id => Sys2Proof.Machine.execPageWaitTimeout id s
  | .seqOpen sl => Sys2Proof.Machine.execSeqOpen sl s
  | .seqWindowOpened sl => Sys2Proof.Machine.execSeqWindowOpened sl s
  | .seqClose sl => Sys2Proof.Machine.execSeqClose sl s
  | .dataFrameReceive t f => Sys2Proof.Machine.execDataFrameReceive t f s
  | .ackReceive t f => Sys2Proof.Machine.execAckReceive t f s
  | .ackSend n path => Sys2Proof.Machine.execAckSend n path s
  | .rtoExpiry n msn => Sys2Proof.Machine.execRtoExpiry n msn s
  | .transferDeadlineExpiry n msn => Sys2Proof.Machine.execTransferDeadlineExpiry n msn s
  | .readMessage n => Sys2Proof.Machine.execReadMessage n s
  | .writeMessage n => Sys2Proof.Machine.execWriteMessage n s
  | .evictMessage n => Sys2Proof.Machine.execEvictMessage n s
  | .atomicMessage n => Sys2Proof.Machine.execAtomicMessage n s
  | .contribMessage n => Sys2Proof.Machine.execContribMessage n s
  | .snoopMessage n => Sys2Proof.Machine.execSnoopMessage n s
  | .proxySnoopDeadline id => Sys2Proof.Machine.execProxySnoopDeadline id s
  | .snoopRespMessage n => Sys2Proof.Machine.execSnoopRespMessage n s
  | .remoteSnoopTimeout chip id => Sys2Proof.Machine.execRemoteSnoopTimeout chip id s
  | .responseMessage n => Sys2Proof.Machine.execResponseMessage n s
  | .performedMessage n => Sys2Proof.Machine.execPerformedMessage n s
  | .flushMessage n => Sys2Proof.Machine.execFlushMessage n s
  | .flushDoneMessage n => Sys2Proof.Machine.execFlushDoneMessage n s
  | .remoteFlushTimeout chip die => Sys2Proof.Machine.execRemoteFlushTimeout chip die s
  | .herdChipLost chip => Sys2Proof.Machine.execHerdChipLost chip s
  | .linkUpRise t fast => Sys2Proof.Machine.execLinkUpRise t fast s
  | .discoverySend t => Sys2Proof.Machine.execDiscoverySend t s
  | .discoveryReceive t d => Sys2Proof.Machine.execDiscoveryReceive t d s
  | .discoveryTimeout t => Sys2Proof.Machine.execDiscoveryTimeout t s
  | .linkDown t => Sys2Proof.Machine.execLinkDown t s
  | .tineReturn t => Sys2Proof.Machine.execTineReturn t s
  | .saActivate n => Sys2Proof.Machine.execSaActivate n s
  | .saRetire n => Sys2Proof.Machine.execSaRetire n s
  | .saRelease n => Sys2Proof.Machine.execSaRelease n s
  | .saQuarantine n => Sys2Proof.Machine.execSaQuarantine n s
  | .saFree n => Sys2Proof.Machine.execSaFree n s
  | .timeReqSend => Sys2Proof.Machine.execTimeReqSend s
  | .timeReq t exch chip stamp rsvd => Sys2Proof.Machine.execTimeReq t exch chip stamp rsvd s
  | .timeResp t exch stamp rsvd => Sys2Proof.Machine.execTimeResp t exch stamp rsvd s
  | .timeFollowUp t exch t2 t3 rsvd => Sys2Proof.Machine.execTimeFollowUp t exch t2 t3 rsvd s
  | .timeExchangeTimeout exch => Sys2Proof.Machine.execTimeExchangeTimeout exch s
  | .chipJoin refTick => Sys2Proof.Machine.execChipJoin refTick s
  | .joinAlone => Sys2Proof.Machine.execJoinAlone s
  | .ctxCreate f tag => Sys2Proof.Machine.execCtxCreate f tag s
  | .ctxLoad f tag => Sys2Proof.Machine.execCtxLoad f tag s
  | .ctxUnload f tag => Sys2Proof.Machine.execCtxUnload f tag s
  | .ctxAbandon f tag => Sys2Proof.Machine.execCtxAbandon f tag s
  | .ctxDestroy f tag => Sys2Proof.Machine.execCtxDestroy f tag s
  | .setKey f tag => Sys2Proof.Machine.execSetKey f tag s
  | .objCreate f tag => Sys2Proof.Machine.execObjCreate f tag s
  | .objFree f tag object gen => Sys2Proof.Machine.execObjFree f tag object gen s
  | .objectDrained object => Sys2Proof.Machine.execObjectDrained object s
  | .objDrainedRead f tag => Sys2Proof.Machine.execObjDrainedRead f tag s
  | .kfenceArm f tag c fence => Sys2Proof.Machine.execKfenceArm f tag c fence s
  | .ctxFpageCmd cmd => Sys2Proof.Machine.execCtxFpageCmd cmd s
  | .fenceRecordRepair n => Sys2Proof.Machine.execFenceRecordRepair n s
  | .usageQuery f tag ctx => Sys2Proof.Machine.execUsageQuery f tag ctx s
  | .hoofprintReceived => Sys2Proof.Machine.execHoofprintReceived s
  | .rootTry response => Sys2Proof.Machine.execRootTry response s
  | .rootRetry => Sys2Proof.Machine.execRootRetry s
  | .enroll => Sys2Proof.Machine.execEnroll s
  | .allocate k fn => Sys2Proof.Machine.execAllocate k fn s
  | .replace k fn => Sys2Proof.Machine.execReplace k fn s
  | .keyLoadSwap k differs => Sys2Proof.Machine.execKeyLoadSwap k differs s
  | .loadAgreed slot peer gen => Sys2Proof.Machine.execLoadAgreed slot peer gen s
  | .loadImported slot => Sys2Proof.Machine.execLoadImported slot s
  | .loadNone slot => Sys2Proof.Machine.execLoadNone slot s
  | .offer peer => Sys2Proof.Machine.execOffer peer s
  | .accept peer => Sys2Proof.Machine.execAccept peer s
  | .forget peer => Sys2Proof.Machine.execForget peer s
  | .slotCheckSweep engine k checkOk corrected => Sys2Proof.Machine.execSlotCheckSweep engine k checkOk corrected s
  | .entropyHealthFail => Sys2Proof.Machine.execEntropyHealthFail s
  | .faultMessage die => Sys2Proof.Machine.execFaultMessage die s
  | .alertRelease => Sys2Proof.Machine.execAlertRelease s
  | .alertHoldClear => Sys2Proof.Machine.execAlertHoldClear s
  | .firstErrorClear => Sys2Proof.Machine.execFirstErrorClear s
  | .fltCountRead => Sys2Proof.Machine.execFltCountRead s
  | .mptErrCountRead p => Sys2Proof.Machine.execMptErrCountRead p s
  | .heartbeatMissed u => Sys2Proof.Machine.execHeartbeatMissed u s
  | .unitCheckFailed u bridge => Sys2Proof.Machine.execUnitCheckFailed u bridge s
  | .homeSliceRecovery name => Sys2Proof.Machine.execHomeSliceRecovery name s
  | .mirrorCopyPiece r bad => Sys2Proof.Machine.execMirrorCopyPiece r bad s
  | .standInServe r => Sys2Proof.Machine.execStandInServe r s
  | .stackRecovery p => Sys2Proof.Machine.execStackRecovery p s
  | .tineRecovery t => Sys2Proof.Machine.execTineRecovery t s
  | .keyEngineHandover p => Sys2Proof.Machine.execKeyEngineHandover p s
  | .jobEngineRecovery e => Sys2Proof.Machine.execJobEngineRecovery e s
  | .recoveryOverrun r => Sys2Proof.Machine.execRecoveryOverrun r s
  | .offline u => Sys2Proof.Machine.execOffline u s
  | .online u => Sys2Proof.Machine.execOnline u s
  | .offlineDeadline u => Sys2Proof.Machine.execOfflineDeadline u s
  | .injectRaiseKind u kind => Sys2Proof.Machine.execInjectRaiseKind u kind s
  | .injectFlipOneBit u location => Sys2Proof.Machine.execInjectFlipOneBit u location s
  | .injectFlipTwoBits u location => Sys2Proof.Machine.execInjectFlipTwoBits u location s
  | .dumpWrite ok => Sys2Proof.Machine.execDumpWrite ok s
  | .fltDumpDataRead => Sys2Proof.Machine.execFltDumpDataRead s
  | .fawnPowerOnReset => Sys2Proof.Machine.execFawnPowerOnReset s
  | .bootStoreRead b => Sys2Proof.Machine.execBootStoreRead b s
  | .fabricGood tp mp lp => Sys2Proof.Machine.execFabricGood tp mp lp s
  | .fabricGoodTimeout => Sys2Proof.Machine.execFabricGoodTimeout s
  | .selfTestComplete failed => Sys2Proof.Machine.execSelfTestComplete failed s
  | .initializationComplete => Sys2Proof.Machine.execInitializationComplete s
  | .fclkPoint arg => Sys2Proof.Machine.execFclkPoint arg s
  | .fabricRetention => Sys2Proof.Machine.execFabricRetention s
  | .fabricNominal => Sys2Proof.Machine.execFabricNominal s
  | .fabricOff => Sys2Proof.Machine.execFabricOff s
  | .supplyRemove => Sys2Proof.Machine.execSupplyRemove s
  | .fwOpen => Sys2Proof.Machine.execFwOpen s
  | .fwData d => Sys2Proof.Machine.execFwData d s
  | .fwClose => Sys2Proof.Machine.execFwClose s
  | .fwCheckComplete => Sys2Proof.Machine.execFwCheckComplete s
  | .fwStart => Sys2Proof.Machine.execFwStart s
  | .fwArm => Sys2Proof.Machine.execFwArm s
  | .fwCancel => Sys2Proof.Machine.execFwCancel s
  | .fwHandover => Sys2Proof.Machine.execFwHandover s
  | .fawnHeartbeat => Sys2Proof.Machine.execFawnHeartbeat s
  | .fwRevert => Sys2Proof.Machine.execFwRevert s
  | .fawnFailed => Sys2Proof.Machine.execFawnFailed s
  | .dozeRequest => Sys2Proof.Machine.execDozeRequest s
  | .dozeSelfRefreshCheck acks => Sys2Proof.Machine.execDozeSelfRefreshCheck acks s
  | .standbyRequest => Sys2Proof.Machine.execStandbyRequest s
  | .wake src => Sys2Proof.Machine.execWake src s
  | .wakeComplete trained => Sys2Proof.Machine.execWakeComplete trained s
  | .pairSync => Sys2Proof.Machine.execPairSync s
  | .pairTakeover => Sys2Proof.Machine.execPairTakeover s
  | .mirrorSetSend => Sys2Proof.Machine.execMirrorSetSend s
  | .mirrorFrame t f => Sys2Proof.Machine.execMirrorFrame t f s
  | .mirrorSetApply => Sys2Proof.Machine.execMirrorSetApply s
  | .pairMirrorLag => Sys2Proof.Machine.execPairMirrorLag s
  | .pairPartnerLost => Sys2Proof.Machine.execPairPartnerLost s
  | .traceLineWrite c => Sys2Proof.Machine.execTraceLineWrite c s
  | .wfgAssemble => Sys2Proof.Machine.execWfgAssemble s
  | .wfgReady => Sys2Proof.Machine.execWfgReady s
  | .obsWfgDataRead => Sys2Proof.Machine.execObsWfgDataRead s
  | .globalStop => Sys2Proof.Machine.execGlobalStop s
  | .stopSettled => Sys2Proof.Machine.execStopSettled s
  | .stopResume => Sys2Proof.Machine.execStopResume s
  | .stopMaxTicks => Sys2Proof.Machine.execStopMaxTicks s
  | .stopDisarm => Sys2Proof.Machine.execStopDisarm s
  | .powerRemoval => Sys2Proof.Machine.execPowerRemoval s
  | .entropyTestsPass => Sys2Proof.Machine.execEntropyTestsPass s
  | .enrollComplete stable cells => Sys2Proof.Machine.execEnrollComplete stable cells s
  | .dumpComplete => Sys2Proof.Machine.execDumpComplete s
  | .egressTimestamp t id stamp phase => Sys2Proof.Machine.execEgressTimestamp t id stamp phase s
  | .grantAbove8 p grant => Sys2Proof.Machine.execGrantAbove8 p grant s

end Sys2Proof.Machine
end

