-- ==== Sys2Proof/Safety.lean ====
section
/-! DEFINITION. What counts as a safe step, when the block takes a command of each port, and the registers whose illegal
writes the spec discards. -/

namespace Sys2Proof

/-- A step that neither faults nor is refused. -/
def Safe (s : Machine.State) : Prop := ∃ t, Machine.step s = .next t

/-- The management port takes a write of a register: it is up, Fawn has brought the block to phase 3, and the phase does
not hold the window (14 R438). `free` marks the FWN and FLT windows. -/
def Machine.State.MgOpen (s : Machine.State) (free : Bool) : Prop :=
  s.portUp Machine.mgPort = true ∧ 3 ≤ s.fawn.phase ∧ s.mgHeld free = none

/-- The host port takes a request of a function: it is up, no request in flight has the tag (02 R67), the block is not fatal
(13 R419), no full hold is in force (06 R204) and no park holds the class it is served as (06 R203). -/
def Machine.State.HostOpen (s : Machine.State) (fn tag : Nat) : Prop :=
  s.portUp Machine.hostPort = true ∧ s.hostTags.any (·.1 == tag) = false ∧ s.fatal = false ∧ s.fullHold = false ∧
    (s.blk.parked && s.servedClass (s.fnc fn).slice 1 == 3) = false

/-- Block work goes on: no global stop, not block-fatal, the fabric has its clock (15 R472, 13 R419, 01 R46). -/
def Machine.State.Working (s : Machine.State) : Prop := s.stopped = false ∧ s.fatal = false ∧ s.blk.power = 2

/-- The three registers of the driver that ignore an illegal write hold legal values: HSL_HOME_TIMEOUT (05 R173),
HSL_RW_CTRL.shadow_ways (08 R276) and BLK_CLOCK.fclk_limit_point (01 R36). -/
def Machine.State.RegsLegal (s : Machine.State) : Prop :=
  1 ≤ s.homeTimeout.localTicks ∧ s.homeTimeout.localTicks + 1 ≤ s.homeTimeout.remoteTicks ∧ s.homeTimeout.remoteTicks ≤ 7 ∧
    s.rw.shadowWays ≤ 4 ∧ s.blk.fclkLimit ≤ 8

end Sys2Proof
end

