-- ==== Sys2Proof/WellFormed.lean ====
section
/-! DEFINITION. The well-formed commands: those whose operands name hardware the block has. A form that the spec
answers (DENIED, BAD_ARG, ignored) is well-formed: its answer is its meaning. `exec` gives every command a next state,
well-formed or not. -/

namespace Sys2Proof

/-- The port indexes of 02: 256 tile, 16 memory, 64 tine, host, management, debug, power control, 16 urgency, sideband
and boot store. -/
def portNamed (i : BitVec 9) : Bool := i.toNat < 358

/-- The origin ports of the retry queue: 256 tile, host, 32 job engines, 64 tines (05 R168). -/
def originNamed (o : BitVec 9) : Bool := o.toNat < 353

/-- The home slice names (05 R157). -/
def nameNamed (n : BitVec 8) : Bool := n.toNat < 128

/-- The physical home slices: 128 with a name at cold start and 8 idle spares. -/
def homeNamed (h : BitVec 8) : Bool := h.toNat < 136

/-- The context slots. -/
def slotNamed (c : BitVec 7) : Bool := c.toNat < 96

/-- The units of R23: the class in bits 11..8 and the instance below. -/
def unitNamed (u : BitVec 12) : Bool :=
  match u.toNat / 256 with
  | 1 => u.toNat % 256 < 136
  | 2 => u.toNat % 256 < 16
  | 3 => u.toNat % 256 < 64
  | 4 => true
  | 5 => u.toNat % 256 < 32
  | 6 => u.toNat % 256 < 17
  | 7 => u.toNat % 256 < 9
  | 8 => u.toNat % 256 < 9
  | 9 => u.toNat % 256 < 1
  | 10 => u.toNat % 256 < 2
  | 11 => u.toNat % 256 < 1
  | _ => false

/-- A command is well-formed: its operands name hardware of the block. -/
def Instr.wf (i : Instr) : Bool :=
  match i with
  | .fclkChange point => point.toNat ≤ 8
  | .sensorStale supply k => (!supply || k.toNat < 32)
  | .flushDoneTimeout name _ => nameNamed name
  | .sfUncorrectable home _ => homeNamed home
  | .dataArrayError home _ _ _ _ => homeNamed home
  | .reservationExpiry home origin => homeNamed home && originNamed origin
  | .portRespTimeout port => portNamed port
  | .portStuckReady port _ => portNamed port
  | .portStuckValid port => portNamed port
  | .portKeepaliveLost port => portNamed port
  | .portLeaveReset port => portNamed port
  | .portReenable port => portNamed port
  | .tagReuseHoldEnd port => portNamed port
  | .endComplete c => slotNamed c
  | .endTimeout c => slotNamed c
  | .tagWalkPiece h => homeNamed h
  | .filterWalkPiece h => homeNamed h
  | .holdAgeExpiry port _ => portNamed port
  | .retireWalkPiece h => homeNamed h
  | .slotCheckSweep engine _ _ _ => engine.toNat < 17
  | .heartbeatMissed u => unitNamed u
  | .unitCheckFailed u _ => unitNamed u
  | .homeSliceRecovery name => nameNamed name
  | .mirrorCopyPiece _ bad => bad.all fun l => l.toNat < 448
  | .offlineDeadline u => unitNamed u
  | .selfTestComplete failed => failed.all unitNamed
  | .fclkPoint arg => arg.toNat ≤ 8
  | .traceLineWrite c => slotNamed c
  | .tickBoundary | .registerWrite .. | .timebaseLost | .tickOffsetHigh | .fclkStable | .fclkUnstable | .thermalRaise
  | .thermalThrottle | .thermalPark | .thermalTrip | .thermalSample .. | .supplySample .. | .rdShared ..
  | .rdUnique .. | .rdOnce .. | .rdSeq .. | .evictDirty .. | .evictClean .. | .wrSector .. | .atomicHome ..
  | .atomicMem .. | .reduceOpen .. | .reduceClose .. | .reduceContribution .. | .marker .. | .jobSubmit ..
  | .linkFence .. | .linkFenceComplete .. | .flushDone .. | .snoopResponse .. | .snoopTimeout ..
  | .memoryRequestIssue .. | .memoryReadReturn .. | .memoryWriteAck .. | .stripeLockGrant .. | .parityRewrite ..
  | .mpTrainedFall .. | .mpTrainedRise .. | .mpTrainedLost .. | .mpHealthyLost .. | .hostRead .. | .hostWrite ..
  | .hostFetchAdd .. | .hostCompareSwap .. | .kbStart .. | .kbEnd .. | .kbAbort .. | .debugSample ..
  | .urgencyLevel .. | .urgencyStarved .. | .factoryTest | .idcode | .samplePreload .. | .extest | .ijtagAccess ..
  | .bypass .. | .mctpPacket .. | .getTid | .getPdr .. | .getSensorReading .. | .getStateSensorReadings ..
  | .setNumericEffecterValue .. | .getNumericEffecterValue .. | .setStateEffecterStates ..
  | .getStateEffecterStates .. | .pollForPlatformEventMessage | .spdmGetVersion | .spdmGetCapabilities
  | .spdmNegotiateAlgorithms | .spdmGetDigests | .spdmGetCertificate .. | .spdmChallenge .. | .spdmGetMeasurements ..
  | .spdmUnsupportedRequest .. | .assign .. | .release .. | .setAccess .. | .setFormat .. | .cleaningPiece ..
  | .granuleCleaned .. | .fncCreate .. | .fncEnable .. | .fncQuiesce .. | .quiesceDrained .. | .quiesceDeadline ..
  | .quiesceForcedDone .. | .fncResume .. | .fncReset .. | .resetComplete .. | .fncRemove .. | .removeComplete ..
  | .reportRequest .. | .reportCapture .. | .reportReady .. | .imgOpen | .imgData .. | .imgClose | .imgCheckComplete
  | .imgArm | .imgCancel | .imgApply | .drainStart | .imgCommit | .throttleRise .. | .throttleFall ..
  | .targetUnmet .. | .feedbackImplausible .. | .restoreFeedback .. | .qosArm | .qosDiscard | .qosApply
  | .keyRetire .. | .keyZeroize .. | .keyRetireForced .. | .keyQuarantineEnd .. | .mergeForward .. | .windowOpened ..
  | .windowConvert .. | .windowComplete .. | .windowDeadline .. | .jobDescSubmit .. | .traceEnable .. | .jobStart ..
  | .jobPiece .. | .copy .. | .transcodeCopy .. | .gather .. | .scatterReduce .. | .embedBag .. | .kvAppend ..
  | .kvGather .. | .kvAge .. | .kvFork .. | .kvTruncate .. | .rekeyCopy .. | .zero .. | .scrub .. | .dirtyHarvest ..
  | .jobComplete .. | .pageWaitTimeout .. | .seqOpen .. | .seqWindowOpened .. | .seqClose .. | .dataFrameReceive ..
  | .ackReceive .. | .ackSend .. | .rtoExpiry .. | .transferDeadlineExpiry .. | .readMessage .. | .writeMessage ..
  | .evictMessage .. | .atomicMessage .. | .contribMessage .. | .snoopMessage .. | .proxySnoopDeadline ..
  | .snoopRespMessage .. | .remoteSnoopTimeout .. | .responseMessage .. | .performedMessage .. | .flushMessage ..
  | .flushDoneMessage .. | .remoteFlushTimeout .. | .herdChipLost .. | .linkUpRise .. | .discoverySend ..
  | .discoveryReceive .. | .discoveryTimeout .. | .linkDown .. | .tineReturn .. | .saActivate .. | .saRetire ..
  | .saRelease .. | .saQuarantine .. | .saFree .. | .timeReqSend | .timeReq .. | .timeResp .. | .timeFollowUp ..
  | .timeExchangeTimeout .. | .chipJoin .. | .joinAlone | .ctxCreate .. | .ctxLoad .. | .ctxUnload ..
  | .ctxAbandon .. | .ctxDestroy .. | .setKey .. | .objCreate .. | .objFree .. | .objectDrained ..
  | .objDrainedRead .. | .kfenceArm .. | .ctxFpageCmd .. | .fenceRecordRepair .. | .usageQuery ..
  | .hoofprintReceived | .rootTry .. | .rootRetry | .enroll | .allocate .. | .replace .. | .keyLoadSwap ..
  | .loadAgreed .. | .loadImported .. | .loadNone .. | .offer .. | .accept .. | .forget .. | .entropyHealthFail
  | .faultMessage .. | .alertRelease | .alertHoldClear | .firstErrorClear | .fltCountRead | .mptErrCountRead ..
  | .standInServe .. | .stackRecovery .. | .tineRecovery .. | .keyEngineHandover .. | .jobEngineRecovery ..
  | .recoveryOverrun .. | .offline .. | .online .. | .injectRaiseKind .. | .injectFlipOneBit ..
  | .injectFlipTwoBits .. | .dumpWrite .. | .fltDumpDataRead | .fawnPowerOnReset | .bootStoreRead .. | .fabricGood ..
  | .fabricGoodTimeout | .initializationComplete | .fabricRetention | .fabricNominal | .fabricOff | .supplyRemove
  | .fwOpen | .fwData .. | .fwClose | .fwCheckComplete | .fwStart | .fwArm | .fwCancel | .fwHandover | .fawnHeartbeat
  | .fwRevert | .fawnFailed | .dozeRequest | .dozeSelfRefreshCheck .. | .standbyRequest | .wake .. | .wakeComplete ..
  | .pairSync | .pairTakeover | .mirrorSetSend | .mirrorFrame .. | .mirrorSetApply | .pairMirrorLag
  | .pairPartnerLost | .wfgAssemble | .wfgReady | .obsWfgDataRead | .globalStop | .stopSettled | .stopResume
  | .stopMaxTicks | .stopDisarm | .powerRemoval | .entropyTestsPass | .enrollComplete .. | .dumpComplete
  | .egressTimestamp .. | .grantAbove8 .. => true

end Sys2Proof
end

