-- ==== Sys2Proof/Certificates/Slice0/Obligations.lean ====
section
/-! DEFINITION. The statements about the model: what a step does with the queue, what each command completes with, what commands leave
unchanged, and the invariants every step keeps. -/

open Sys2Proof Sys2Proof.Machine

/-! ### The block: step, queue, tick, and what commands may touch -/

/-- A step runs the command at the front of the queue, and idles on an empty one.
A step takes the command at the front of the queue and runs it on the state with the queue's rest.
On an empty queue the block idles (the model's choice, log entry 2). -/
def Obligations.StepTakesTheQueue : Prop :=
  (∀ (c : Instr) (rest : List Instr) (s : State),
    step { s with pending := c :: rest } = exec c { s with pending := rest }) ∧
  (∀ s : State, s.pending = [] → step s = .next s)

/-- Every command has a next state in every state: no command is turned into a fault or a refusal. -/
def Obligations.EveryCommandHasNextState : Prop :=
  ∀ (c : Instr) (s : State), ∃ t, exec c s = .next t

/-- No command touches the queue of the commands behind it. -/
def Obligations.CommandsLeaveQueue : Prop :=
  ∀ (c : Instr) (s t : State), exec c s = .next t → t.pending = s.pending

/-- The commands that may move the tick: the boundary, joining a herd's time, and the resets (01 R33, R39, 10 R334, 14 R423,
R436, 16 R484). -/
def MovesTick : Instr → Bool
  | .tickBoundary | .chipJoin .. | .fawnPowerOnReset | .fabricGood .. | .powerRemoval => true
  | _ => false

/-- No other command moves the tick (01 R37, 10 R334, 16 R484). -/
def Obligations.OnlyFiveCommandsMoveTick : Prop :=
  ∀ (c : Instr) (s t : State), MovesTick c = false → exec c s = .next t → t.blk.tick = s.blk.tick

/-- What a tick boundary does to the tick, and the order of its steps.
Where the clocks run, a tick boundary counts one tick and drives tick_out with tb_offset and tb_offset_valid, or, at the end of a
Standby entry, leaves the block in Standby with its tick at 0 (01 R33, R37, R39, 02 R76, 14 R442).
In the Active state the boundary phase is the steps of R39 in their order: the end of the tick and its messages, the next
tick, the clocks that stand still, the snapshot of counters, the commits, the refill of the buckets, and the deadlines. -/
def Obligations.TickBoundary : Prop :=
  (∀ s : State, s.ticks = true →
    ∃ t, exec .tickBoundary s = .next t ∧
      .tick s.blk.offsetNs ({ s with blk := { s.blk with tick := s.blk.tick + 1 } } : State).offsetValid ∈ t.out ∧
      (t.blk.tick = s.blk.tick + 1 ∨ (t.blk.tick = 0 ∧ t.blk.power = 0 ∧ s.blk.power = 2 ∧ s.fawn.standby = true ∧ s.fawn.dozeAt ≠ none))) ∧
  (∀ s : State, s.ticks = true → s.blk.power = 2 →
    exec .tickBoundary s = .next (State.deadlines (State.refill (State.commit (State.snapshot (State.holdClocks
      (State.nextTick (State.tickClose s))))))))

/-- The commands that may change the ownership table, the function records, the image in force, the test port or the
registers of R36, R173 and R276. -/
def ChangesStructure : Instr → Bool
  | .tickBoundary | .registerWrite .. | .factoryTest | .idcode | .samplePreload .. | .extest | .ijtagAccess .. | .bypass ..
  | .setNumericEffecterValue .. | .granuleCleaned .. | .fncCreate .. | .fncEnable .. | .fncQuiesce ..
  | .quiesceDrained .. | .quiesceDeadline .. | .quiesceForcedDone .. | .fncResume .. | .fncReset .. | .resetComplete ..
  | .fncRemove .. | .removeComplete .. | .imgCommit | .chipJoin .. | .objectDrained .. | .fawnPowerOnReset
  | .fabricGood .. | .mirrorSetApply | .powerRemoval => true
  | _ => false

/-- Every other command leaves the ownership table, the function records, the image in force, the test port, the home
timeout, `shadow_ways`, the fclk limit and the tick as they are: a frame for 274 commands at once. -/
def Obligations.FrameOfStructure : Prop :=
  ∀ (c : Instr) (s t : State), ChangesStructure c = false → exec c s = .next t →
    t.own = s.own ∧ t.fncs = s.fncs ∧ t.img.active = s.img.active ∧ t.test = s.test ∧ t.homeTimeout = s.homeTimeout ∧
      t.rw.shadowWays = s.rw.shadowWays ∧ t.blk.fclkLimit = s.blk.fclkLimit ∧ t.blk.tick = s.blk.tick

/-- The registers that ignore an illegal write hold legal values in every state a step reaches from a state in which they
do (05 R173, 08 R276, 01 R36): whatever command runs, a boundary and a takeover included. -/
def Obligations.StepKeepsRegistersLegal : Prop :=
  ∀ s t : State, s.RegsLegal → step s = .next t → t.RegsLegal

/-- The ownership table and the function records keep their canonical order (keys strictly rising) at every step, from any
state that has it (the model's form of 03 R97 and R111, log entry 7). -/
def Obligations.StepKeepsTablesInOrder : Prop :=
  ∀ s t : State, mapSorted s.own = true → mapSorted s.fncs = true → step s = .next t →
    mapSorted t.own = true ∧ mapSorted t.fncs = true

/-- The reset state meets both invariants.
They hold legal values after reset.
They are in order after reset. -/
def Obligations.ResetMeetsTheInvariants : Prop :=
  (State.reset.RegsLegal) ∧
  (mapSorted State.reset.own = true ∧ mapSorted State.reset.fncs = true)

/-! ### Ownership (03 R97 to R110) -/

/-- Ownership commands wait for the boundary, one at a time.
ASSIGN, RELEASE, SET_ACCESS and SET_FORMAT: with no ownership command pending, the write of SLC_OWN_CMD takes the
argument register, and the command waits for the next boundary; the table does not change yet (03 R108).
With a command still pending, the write reports BUSY and changes nothing else of the ownership unit (03 R108, R109). -/
def Obligations.OwnershipCommandsPend : Prop :=
  (∀ (first : BitVec 20) (count : BitVec 21) (fn : BitVec 12) (s : State), s.MgOpen false → s.slc.busy = false →
    ∀ p ∈ [(Instr.assign first count fn, 1), (.release first count fn, 2), (.setAccess first count fn, 3), (.setFormat first count fn, 4)],
      ∃ t, exec p.1 s = .next t ∧
        t.slc.pending = some { op := p.2, first := first.toNat, count := count.toNat, fn := fn.toNat, arg := s.slc.arg } ∧
        t.slc.busy = true ∧ t.own = s.own ∧ t.fncs = s.fncs ∧ t.keys = s.keys) ∧
  (∀ (first : BitVec 20) (count : BitVec 21) (fn : BitVec 12) (s : State), s.MgOpen false → s.slc.busy = true →
    ∀ c ∈ [Instr.assign first count fn, .release first count fn, .setAccess first count fn, .setFormat first count fn],
      ∃ t, exec c s = .next t ∧ t.slc = { s.slc with result := 6 } ∧ t.own = s.own)

/-- What the boundary makes of an ownership command.
What the boundary does with an ownership command that passes its checks (03 R107, R108): every granule of the range
gets the entry of its operation (ASSIGN: owner, key, format and rights, in CLEANING; RELEASE: CLEANING; SET_ACCESS: the
rights; SET_FORMAT: the format) and no other granule changes.
An ownership command that fails a check changes no granule, reports its code and is complete (03 R108). -/
def Obligations.OwnershipCommandsApplied : Prop :=
  (∀ (s : State) (c : OwnCmd), s.slc.pending = some c → s.ownResult c = 0 →
    (∀ g, c.first ≤ g → g < c.first + c.count → s.ownApply.ownAt g = (s.ownAt g).apply c) ∧
    (∀ g, ¬ (c.first ≤ g ∧ g < c.first + c.count) → s.ownApply.ownAt g = s.ownAt g) ∧
    s.ownApply.fncs = s.fncs) ∧
  (∀ (s : State) (c : OwnCmd), s.slc.pending = some c → s.ownResult c ≠ 0 →
    s.ownApply.own = s.own ∧ s.ownApply.slc.result = s.ownResult c ∧ s.ownApply.slc.busy = false ∧
      s.ownApply.slc.pending = none ∧ (s.drives mgPort = true → s.ownApply.out = s.out ++ [.mgIrq 0x05]))

/-- CLEANING_PIECE writes zeros over the next 448 lines of the oldest granule its engine may clean; GRANULE_CLEANED takes a
granule whose zeros have all landed to ASSIGNED, and one whose copies are discarded to FREE (03 R107, 09 R280). -/
def Obligations.GranulesAreCleaned : Prop :=
  (∀ (e : BitVec 5) (s : State) (c : CleanSt), s.cleanNext e.toNat = some c → s.stopped = false →
    (s.engine e.toNat).cleanedTick ≠ some s.blk.tick →
    (∀ l ∈ (List.range (min 448 (16384 - c.lines))).map (· + granLine c.granule + c.lines + s.chip * 2 ^ 34),
      ((s.homeName l).bind s.physOf).isSome = true) →
    ∃ t, exec (.cleaningPiece e) s = .next t ∧ (t.engine e.toNat).cleanedTick = some s.blk.tick ∧
      t.cleaning = s.cleaning.map (fun x => if x.granule = c.granule then { x with lines := x.lines + min 448 (16384 - c.lines) } else x) ∧
      t.own = s.own) ∧
  (∀ (g : BitVec 20) (s : State) (c : CleanSt), s.Working → s.cleaning.find? (fun c => c.granule == g.toNat) = some c →
    c.kind = .zeroing → 16384 ≤ c.lines → s.zerosLanded g.toNat = true →
    ∃ t, exec (.granuleCleaned g) s = .next t ∧ t.ownAt g.toNat = { s.ownAt g.toNat with gstate := 1 } ∧
      t.cleaning = s.cleaning.filter (fun x => x.granule != g.toNat) ∧
      ∀ k, k ≠ g.toNat → t.ownAt k = s.ownAt k)

/-! ### Functions (03 R111 to R119) -/

/-- FNC_CREATE, FNC_ENABLE, FNC_QUIESCE, FNC_RESUME, FNC_RESET and FNC_REMOVE: with no command pending for the function, the
write of FNC_CMD makes the command pending and busy; the function's state does not change yet (03 R112, R113). -/
def Obligations.FunctionCommandPends : Prop :=
  ∀ (f : BitVec 12) (erase : Bool) (s : State), s.MgOpen false → (s.fnc f.toNat).busy = false →
    ∀ p ∈ [(Instr.fncCreate f, 1, false), (.fncEnable f, 2, false), (.fncQuiesce f, 3, false), (.fncResume f, 4, false),
           (.fncReset f erase, 5, erase), (.fncRemove f, 6, false)],
      ∃ t, exec p.1 s = .next t ∧
        t.fnc f.toNat = { s.fnc f.toNat with pending := some p.2, busy := true } ∧
        (∀ g, g ≠ f.toNat → t.fnc g = s.fnc g) ∧ t.own = s.own ∧ t.slc = s.slc

/-- What the boundary makes of a function command, and the states each needs.
What the boundary does with a function command that passes its checks (03 R113): CREATE takes FREE to CREATED, ENABLE
CREATED to ENABLED, QUIESCE ENABLED to QUIESCING with the deadline running from this tick, RESUME QUIESCED to ENABLED.
The states that permit each operation on a function (03 R113). -/
def Obligations.FunctionCommandsApplied : Prop :=
  (∀ (s : State) (f op : Nat) (erase : Bool), (s.fnc f).pending = some (op, erase) → s.fncResult f op = 0 →
    (op = 1 → ((s.fncApply f).fnc f).state = 1 ∧ ((s.fncApply f).fnc f).busy = false ∧ ((s.fncApply f).fnc f).result = 0) ∧
    (op = 2 → ((s.fncApply f).fnc f).state = 2 ∧ ((s.fncApply f).fnc f).busy = false ∧ ((s.fncApply f).fnc f).result = 0) ∧
    (op = 3 → ((s.fncApply f).fnc f).state = 3 ∧ ((s.fncApply f).fnc f).quiesceTick = s.blk.tick ∧
      ((s.fncApply f).fnc f).busy = (s.fnc f).busy) ∧
    (op = 4 → ((s.fncApply f).fnc f).state = 2 ∧ ((s.fncApply f).fnc f).busy = false ∧ ((s.fncApply f).fnc f).result = 0)) ∧
  (∀ (s : State) (f op : Nat), s.fncResult f op = 0 →
    f ≠ 0 ∧ (op = 1 → (s.fnc f).state = 0) ∧ (op = 2 → (s.fnc f).state = 1) ∧ (op = 3 → (s.fnc f).state = 2) ∧
      (op = 4 → (s.fnc f).state = 4) ∧ (op = 5 → (s.fnc f).state = 2 ∨ (s.fnc f).state = 3 ∨ (s.fnc f).state = 4) ∧
      (op = 6 → 1 ≤ (s.fnc f).state ∧ (s.fnc f).state ≤ 4))

/-- How a quiesce and a teardown end: QUIESCE_DRAINED takes a drained function to QUIESCED with DONE; QUIESCE_DEADLINE
forces one that has not drained; QUIESCE_FORCED_DONE ends that with FORCED; RESET_COMPLETE takes a drained function to
CREATED; REMOVE_COMPLETE takes one that holds no key any more to FREE (03 R115 to R118). -/
def Obligations.FunctionEventsComplete : Prop :=
  ∀ (f : BitVec 12) (s : State),
    ((s.fnc f.toNat).state = 3 → (s.fnc f.toNat).forced = false → s.fncQuiet f.toNat = true →
      ∃ t, exec (.quiesceDrained f) s = .next t ∧ (t.fnc f.toNat).state = 4 ∧ (t.fnc f.toNat).busy = false ∧
        (t.fnc f.toNat).result = 0 ∧ t.own = s.own) ∧
    ((s.fnc f.toNat).state = 3 → (s.fnc f.toNat).forced = false → s.fncQuiet f.toNat = false →
      (s.fnc f.toNat).quiesceTick + (if (s.fnc f.toNat).deadline = 0 then 64 else (s.fnc f.toNat).deadline) ≤ s.blk.tick →
      ∃ t, exec (.quiesceDeadline f) s = .next t ∧ (t.fnc f.toNat).forced = true ∧ (t.fnc f.toNat).state = 3 ∧ t.own = s.own) ∧
    ((s.fnc f.toNat).state = 3 → (s.fnc f.toNat).forced = true → s.fncQuiet f.toNat = true →
      ∃ t, exec (.quiesceForcedDone f) s = .next t ∧ (t.fnc f.toNat).state = 4 ∧ (t.fnc f.toNat).result = 8 ∧ t.own = s.own) ∧
    ((s.fnc f.toNat).state = 5 → (s.fnc f.toNat).erase = false → s.fncQuiet f.toNat = true →
      ∃ t, exec (.resetComplete f) s = .next t ∧ (t.fnc f.toNat).state = 1 ∧ (t.fnc f.toNat).busy = false ∧ t.own = s.own) ∧
    ((s.fnc f.toNat).state = 6 → (s.fnc f.toNat).tear = .retiring → s.fncQuiet f.toNat = true →
      (∀ k ∈ s.keys, k.2.fn ≠ f.toNat) →
      ∃ t, exec (.removeComplete f) s = .next t ∧ (t.fnc f.toNat).state = 0 ∧ t.own = s.own)

/-- The geometry report: a request latches the nonce; the capture takes and signs the body of that boundary for an
ENABLED, QUIESCING or QUIESCED function; when the vault has signed it replaces the last report as a whole and sends the
function's vector (03 R126, R127). -/
def Obligations.ReportCommands : Prop :=
  ∀ (f : BitVec 12) (s : State),
    (∀ tag : BitVec 10, s.HostOpen f.toNat tag.toNat → (s.fnc f.toNat).state ≠ 0 → (s.view f.toNat).reportPending = false →
      ∃ t, exec (.reportRequest f tag) s = .next t ∧
        t.view f.toNat = { s.view f.toNat with latched := (s.view f.toNat).nonce, ready := false, reportPending := true } ∧
        t.fncs = s.fncs ∧ t.own = s.own) ∧
    ((s.view f.toNat).reportPending = true → (s.view f.toNat).captured = none → s.vaultSigns = true →
      (s.fnc f.toNat).state ∈ [2, 3, 4] →
      ∃ t, exec (.reportCapture f) s = .next t ∧
        (t.view f.toNat).captured = some (s.reportBody f.toNat ++ padTo (Config.ecdsaSign s.aliasKey (s.reportBody f.toNat)) 96, s.blk.tick) ∧
        t.own = s.own ∧ t.fncs = s.fncs) ∧
    (∀ b n, (s.view f.toNat).captured = some (b, n) → s.vaultSigns = true →
      ∃ t, exec (.reportReady f) s = .next t ∧
        t.view f.toNat = { s.view f.toNat with captured := none, reportPending := false, ready := true, report := b } ∧
        (s.drives hostPort = true → t.out = s.out ++ [.hostIrq f.toNat (s.view f.toNat).vec]) ∧ t.own = s.own ∧ t.fncs = s.fncs)

/-! ### Clocks, tick and heat (01) -/

/-- The fclk commands. FCLK_CHANGE to a legal point other than the present one, where the rules let a change start, begins it: a full hold, and the
point on the power-control wires. FCLK_STABLE puts the point in force and ends the hold. FCLK_UNSTABLE, 2 ticks after the
change began, raises kind 0xE2 (01 R34, R35, 14 R439). -/
def Obligations.FclkCommands : Prop :=
  ∀ s : State,
    (∀ p : BitVec 4, p.toNat ≤ 8 → s.blk.fclkLimit ≤ p.toNat → s.blk.power = 2 → p.toNat ≠ s.blk.fclkPoint → s.mayChange = true →
      ∃ t, exec (.fclkChange p) s = .next t ∧ t.blk.fclkChange = some p.toNat ∧ t.blk.fclkSince = s.blk.tick ∧
        t.blk.fclkPoint = s.blk.fclkPoint ∧ t.fawn.fclkStable = false ∧ .powerReq 0 p.toNat ∈ t.out ∧ t.fullHold = true ∧
        t.own = s.own ∧ t.fncs = s.fncs) ∧
    (∀ p, s.blk.fclkChange = some p → s.fawn.waking = none →
      ∃ t, exec .fclkStable s = .next t ∧ t.blk = { s.blk with fclkPoint := p, fclkChange := none } ∧
        t.fawn.fclkStable = true ∧ t.own = s.own ∧ t.fncs = s.fncs) ∧
    (∀ p, s.blk.fclkChange = some p → s.fawn.phase ≠ 2 → s.blk.fclkSince + 2 ≤ s.blk.tick → s.fatal = false →
      exec .fclkUnstable s = .next (s.raise fwnUnit 0xE2 3 0 0 0 0))

/-- Thermal inputs, supplies and the timebase.
The thermal decisions of R48: the point rises by one after 256 cool ticks and falls by one after 16 hot ticks, each
beginning a change; parking is noted with kind 0xE5 and asks for the slowest point; a trip is noted with kind 0xE6 and asks for the
supply to be removed (01 R48, 14 R429).
Samples and the watches of the timebase: a thermal or supply sample enters its input with this tick, a thermal value
outside −40 to 125 °C takes the input out of range, an input silent for 64 ticks is excluded; a lost timebase stops the tick
and, once the block has started, is fatal; a high offset raises kind 0xE1 (02 R79, 14 R428, R429, 01 R45). -/
def Obligations.ThermalAndTimebase : Prop :=
  (∀ s : State,
    (s.thermalCode = 0 → 256 ≤ s.blk.coolTicks → s.blk.fclkLimit < s.blk.fclkPoint → s.pointOk (s.blk.fclkPoint - 1) = true →
      s.pointMoves = false → s.mayChange = true →
      ∃ t, exec .thermalRaise s = .next t ∧ t.blk.fclkChange = some (s.blk.fclkPoint - 1) ∧ t.blk.coolTicks = 0 ∧
        .powerReq 0 (s.blk.fclkPoint - 1) ∈ t.out) ∧
    (s.thermalCode = 2 → 16 ≤ s.blk.hotTicks → s.blk.fclkPoint < 8 → s.pointOk (s.blk.fclkPoint + 1) = true →
      s.pointMoves = false → s.mayChange = true →
      ∃ t, exec .thermalThrottle s = .next t ∧ t.blk.fclkChange = some (s.blk.fclkPoint + 1) ∧ t.blk.hotTicks = 0 ∧
        .powerReq 0 (s.blk.fclkPoint + 1) ∈ t.out) ∧
    (s.thermalCode = 3 → s.blk.parked = false →
      ∃ t, exec .thermalPark s = .next t ∧ t.blk.parked = true ∧ t.fawn.action = 3 ∧
        (s.blk.fclkPoint < 8 → t.blk.fclkWanted = some 8)) ∧
    (s.thermalCode = 4 → s.blk.tripped = false →
      ∃ t, exec .thermalTrip s = .next t ∧ t.blk.tripped = true ∧ t.fawn.action = 4 ∧
        ((s.port pcPort).state ≠ 2 → .powerReq 4 0 ∈ t.out))) ∧
  (∀ s : State, s.blk.power ≠ 3 →
    (∀ (k : BitVec 6) (v : BitVec 12), -640 ≤ v.toInt → v.toInt ≤ 2000 →
      ∃ t, exec (.thermalSample k v) s = .next t ∧ (t.sensor k.toNat).raw = v.toInt ∧ (t.sensor k.toNat).updateTick = s.blk.tick ∧
        (t.sensor k.toNat).last = last3 (s.sensor k.toNat).last v.toInt ∧
        (t.sensor k.toNat).streak = min 4 ((s.sensor k.toNat).streak + 1)) ∧
    (∀ (k : BitVec 6) (v : BitVec 12), v.toInt < -640 ∨ 2000 < v.toInt →
      ∃ t, exec (.thermalSample k v) s = .next t ∧ (t.sensor k.toNat).outOfRange = true ∧ (t.sensor k.toNat).valid = false ∧
        (t.sensor k.toNat).streak = 0) ∧
    (∀ (m : BitVec 5) (v : BitVec 12),
      ∃ t, exec (.supplySample m v) s = .next t ∧ (t.supply m.toNat).updateTick = s.blk.tick ∧
        (t.supply m.toNat).last = last3 (s.supply m.toNat).last v.toNat ∧
        (t.supply m.toNat).streak = min 4 ((s.supply m.toNat).streak + 1)) ∧
    (∀ k : BitVec 6, (s.sensor k.toNat).updateTick + 64 ≤ s.blk.tick →
      ∃ t, exec (.sensorStale false k) s = .next t ∧ (t.sensor k.toNat).outOfRange = true ∧ (t.sensor k.toNat).valid = false) ∧
    (s.blk.timebaseOk = true →
      ∃ t, exec .timebaseLost s = .next t ∧ (s.fawn.phase < 4 → t.blk.timebaseOk = false ∧ t.blk.tickRunning = false) ∧
        (4 ≤ s.fawn.phase → t.fatal = true)) ∧
    (16 ≤ s.blk.offsetHighTicks → s.blk.offsetRaised = false →
      exec .tickOffsetHigh s = .next (({ s with blk := { s.blk with offsetRaised := true } } : State).raise fwnUnit 0xE1 1 12
        s.blk.offsetNs.toNat 0 0)))

/-! ### Requests of a tile (02, 05, 06) -/

/-- The front of a tile port's REQ channel lets a one-beat request through (02 R55 to R57, R83, 06 R204, 11 R342, 13 R419):
the port is up, both parities are right, the opcode is not a reserved one, no first beat waits, the tag is free, the block is not fatal and not in a full hold,
and the port has a binding whose context is not lost. -/
def TileTakes (s : State) (port op : Nat) (r : TpReq) (b : Bound) : Prop :=
  s.portUp port = true ∧ tpCparOk op r = true ∧ tpDparOk r = true ∧ tpRsvd r = none ∧
    (s.tile port).beat = none ∧ (s.tile port).tags.contains r.tag.toNat = false ∧ s.fatal = false ∧ s.bound port = some b ∧ b.lost = false ∧
    s.fullHold = false

/-- The gate of the origin is open to a request of a line (06 R194, R197, R203). -/
def GateOpen (s : State) (line : Nat) (r : TpReq) (b : Bound) : Prop :=
  s.gateShut (some line) b.slice (s.servedClass b.slice r.tc.toNat) none = false

/-- The home of a line of this chip takes a request at once (03 R100, R102, 04 R145, 05 R150, R167, R168, 08 R268, 07 R241): `n` is
the line's name and `h` the slice that serves it, the home has the line's ownership entry, the granule admits the request, no window
covers the line, its stack is there, neither the requester's addresses nor the line's move, and the home has no other request, an
empty retry queue and no set on hold. -/
def HomeTakes (s : State) (line sl fn : Nat) (need : Need) (host : Bool) (n h : Nat) : Prop :=
  lineChip line = s.chip ∧ s.homeName line = some n ∧ s.physOf n = some h ∧
    s.gate (lineGran line) sl (some fn) need host false = none ∧ s.inWindow line = none ∧
    s.stackLost (granPort (lineGran line)) = false ∧ s.moving sl = false ∧ s.moving (s.lineSlice line) = false ∧
    s.txns = [] ∧ (s.home h).ownLines.contains (tableLine (lineGran line)) = true ∧ (s.home h).retryQ = [] ∧ (s.home h).heldSets.contains (fsetOf line) = false ∧
    s.comingUp h = false ∧ (s.home h).role ≠ 3

/-- Reads of a line that no tile holds and the home has unpoisoned (05 R162): RD_SHARED and RD_UNIQUE are answered OK with the
line and grant E, RD_ONCE is answered OK with the line and grants nothing; after a grant the filter lists the port as owner
in E. RD_SEQ is answered as RD_ONCE of the line its translation gives, here one that its base die's cache holds (09 R298). -/
def Obligations.TileReadsOfHeldLines : Prop :=
  ∀ (s : State) (port : BitVec 8) (r : TpReq) (b : Bound) (n h : Nat) (d : Line),
    (∀ line, line = lineOf r.addr.toNat → GateOpen s line r b → HomeTakes s line b.slice b.fn .rd false n h → s.filt h line = {} →
      s.homeData h line = some (d, 0, 3) → (s.ownAt (lineGran line)).fmt = 0 →
      (TileTakes s port.toNat 0x00 r b → ∃ t, exec (.rdShared port r) s = .next t ∧
        .tileRsp port.toNat r.tag.toNat .ok 3 d ∈ t.out ∧ (t.filt h line).st = 3 ∧ (t.filt h line).owner = port.toNat) ∧
      (TileTakes s port.toNat 0x01 r b → ∃ t, exec (.rdUnique port r) s = .next t ∧
        .tileRsp port.toNat r.tag.toNat .ok 3 d ∈ t.out ∧ (t.filt h line).st = 3 ∧ (t.filt h line).owner = port.toNat) ∧
      (TileTakes s port.toNat 0x02 r b → ∃ t, exec (.rdOnce port r) s = .next t ∧
        .tileRsp port.toNat r.tag.toNat .ok 0 d ∈ t.out)) ∧
    (∀ line, s.seqLine b.slice r.addr.toNat = .ok (line, 0) →
      (tget [] s.seqTlb (port.toNat / 32)).contains
        (tlbKey b.slice (r.addr.toNat / 2 ^ 26 % 2 ^ 18) (r.addr.toNat % 2 ^ 26 / 32768)) = true → GateOpen s line r b → HomeTakes s line b.slice b.fn .rd false n h →
      s.filt h line = {} → s.homeData h line = some (d, 0, 3) → (s.ownAt (lineGran line)).fmt = 0 →
      TileTakes s port.toNat 0x03 r b → ∃ t, exec (.rdSeq port r) s = .next t ∧
        .tileRsp port.toNat r.tag.toNat .ok 0 d ∈ t.out)

/-- Changes of a line that no tile holds. WR_SECTOR to a dirty line of a mirrored home merges the enabled bytes of the sector
and is answered OK, and no other line
of that home changes; ATOMIC_HOME performs its operation there and is answered with the old value; ATOMIC_MEM of a line the home
does not have goes to the memory side (05 R162, R166, R178). -/
def Obligations.TileChangesOfHeldLines : Prop :=
  ∀ (s : State) (port : BitVec 8) (r : TpReq) (b : Bound) (n h line : Nat),
    line = lineOf r.addr.toNat → GateOpen s line r b → s.filt h line = {} →
    (∀ k l, HomeTakes s line b.slice b.fn .wr false n h → TileTakes s port.toNat 0x0A r b → (s.home h).way? line = some (k, l) →
      l.dirty = true → l.poison = 0 → s.keyLive l.key = true → s.mirrored h = true →
      ∃ t, exec (.wrSector port r) s = .next t ∧ .tileRsp port.toNat r.tag.toNat .ok 0 0 ∈ t.out ∧
        ((t.home h).way? line).map (·.2.data) = some (mergeLine l.data (setSector 0 (flag r.sector) r.wdata)
          (BitVec.ofNat 128 (r.be.toNat <<< (64 * flag r.sector)))) ∧
        (∀ k', k' ≠ k → mget? (t.home h).lines k' = mget? (s.home h).lines k')) ∧
    (∀ k l x y o size oldv new, HomeTakes s line b.slice b.fn .amo false n h → TileTakes s port.toNat 0x10 r b →
      (s.home h).way? line = some (k, l) → l.dirty = true → l.poison = 0 → s.keyLive l.key = true → s.mirrored h = true →
      atomOperands r.wdata = some (x, y, o, size) → r.addr.toNat % (if size then 8 else 4) = 0 →
      atomicLine l.data (r.addr.toNat % 128) o size x y = some (oldv, new) →
      ∃ t, exec (.atomicHome port r) s = .next t ∧
        .tileRsp port.toNat r.tag.toNat .ok 0 (BitVec.ofNat 1024 oldv.toNat) ∈ t.out ∧
        ((t.home h).way? line).map (·.2.data) = some new) ∧
    (∀ x y o size, HomeTakes s line b.slice b.fn .amo false n h → TileTakes s port.toNat 0x11 r b → (s.home h).way? line = none →
      (s.home h).wbuf = [] → atomOperands r.wdata = some (x, y, o, size) → r.addr.toNat % (if size then 8 else 4) = 0 →
      s.keyPasses (s.ownAt (lineGran line)).key line = true → (s.port (mpPort (granPort (lineGran line)))).state < 2 →
      ∃ t, exec (.atomicMem port r) s = .next t ∧
        ∃ x ∈ t.txns, x.op = .atomicMem ∧ x.phase = .atMemory ∧ x.line = line ∧ x.origin = .tile port.toNat r.tag.toNat)

/-- Evictions (02 R55, 05 R162): the first beat of EVICT_DIRTY waits for the second; with it the line from its owner becomes
the home's dirty line and the answer is OK; EVICT_CLEAN from the owner is answered OK, and the filter forgets the owner. -/
def Obligations.Evictions : Prop :=
  ∀ (s : State) (port : BitVec 8) (r : TpReq), s.stopped = false → s.portUp port.toNat = true → s.fatal = false →
    (tpCparOk 0x08 r = true → tpDparOk r = true → tpRsvd r = none → (s.tile port.toNat).beat = none →
      (s.tile port.toNat).tags.contains r.tag.toNat = false → r.sector = false →
      ∃ t, exec (.evictDirty port r) s = .next t ∧
        (t.tile port.toNat).beat = some { tag := r.tag.toNat, addr := r.addr.toNat, tc := r.tc.toNat, data := r.wdata, bad := false } ∧
        t.out = s.out) ∧
    (∀ b n h k l e, tpCparOk 0x08 r = true → tpDparOk r = true → tpRsvd r = none → (s.tile port.toNat).beat = some b → b.tag = r.tag.toNat →
      (s.tile port.toNat).tags.contains b.tag = true → b.bad = false → r.sector = true → b.addr < 2 ^ 44 →
      HomeTakes s (lineOf b.addr) (s.evictAs port.toNat (lineOf b.addr)).1 (s.evictAs port.toNat (lineOf b.addr)).2 .none false n h →
      (s.home h).filter = [(lineOf b.addr, e)] → e.st ≥ 3 → e.ownerAgent = some (false, port.toNat) →
      (s.home h).way? (lineOf b.addr) = some (k, l) → s.mirrored h = true →
      s.keyLive (s.ownAt (lineGran (lineOf b.addr))).key = true →
      ∃ t, exec (.evictDirty port r) s = .next t ∧ .tileRsp port.toNat r.tag.toNat .ok 0 0 ∈ t.out ∧
        (t.home h).filter = [] ∧
        ((t.home h).way? (lineOf b.addr)).map (fun x => (x.2.data, x.2.dirty)) =
          some (setSector (setSector 0 0 b.data) 1 r.wdata, true)) ∧
    (∀ n h k l e, tpCparOk 0x09 r = true → tpRsvd r = none → (s.tile port.toNat).beat = none →
      (s.tile port.toNat).tags.contains r.tag.toNat = false →
      HomeTakes s (lineOf r.addr.toNat) (s.evictAs port.toNat (lineOf r.addr.toNat)).1
        (s.evictAs port.toNat (lineOf r.addr.toNat)).2 .none false n h →
      (s.home h).filter = [(lineOf r.addr.toNat, e)] → e.st ≥ 3 → e.ownerAgent = some (false, port.toNat) →
      (s.home h).way? (lineOf r.addr.toNat) = some (k, l) →
      ∃ t, exec (.evictClean port r) s = .next t ∧ .tileRsp port.toNat r.tag.toNat .ok 0 0 ∈ t.out ∧
        (t.home h).filter = [] ∧ (t.home h).way? (lineOf r.addr.toNat) = some (k, l))

/-- MARKER, LINK_FENCE, its completion, and FLUSH_DONE. MARKER writes the port's marker register and has no answer
(15 R462); LINK_FENCE waits for the posted messages of its port that are there (10 R323); it is answered once each has been
performed; FLUSH_DONE is answered OK and takes the port out of every flush of its name (02 R58). -/
def Obligations.TileMarkersFencesAndFlushes : Prop :=
  ∀ (s : State) (port : BitVec 8) (r : TpReq),
    (∀ (b : Bound) (fclk : BitVec 12), TileTakes s port.toNat 0x20 r b →
      ∃ t, exec (.marker port r fclk) s = .next t ∧ (t.tile port.toNat).marker = BitVec.ofNat 32 r.wdata.toNat ∧ t.out = s.out ∧
        (t.tile port.toNat).tags = (s.tile port.toNat).tags) ∧
    (∀ b, TileTakes s port.toNat 0x22 r b →
      ∃ t, exec (.linkFence port r) s = .next t ∧
        t.linkFences = s.linkFences ++ [⟨port.toNat, r.tag.toNat,
          (s.remotes.filter fun x => x.port == some port.toNat && x.posted).map fun x => (x.sa, x.xid), .ok⟩] ∧
        t.out = s.out ∧ t.remotes = s.remotes) ∧
    (∀ f, s.Working → s.portUp port.toNat = true → s.linkFences.find? (·.port == port.toNat) = some f → f.st = .ok →
      (s.tile port.toNat).tags.contains f.tag = true →
      (∀ x ∈ s.remotes, f.covers.contains (x.sa, x.xid) = true → x.done = some .ok) →
      ∃ t, exec (.linkFenceComplete port) s = .next t ∧ t.out = s.out ++ [.tileRsp port.toNat f.tag .ok 0 0] ∧
        t.linkFences = s.linkFences.filter (· != f)) ∧
    (s.stopped = false → s.portUp port.toNat = true → s.fatal = false → tpCparOk 0x23 r = true → tpRsvd r = none → (s.tile port.toNat).beat = none →
      (s.tile port.toNat).tags.contains r.tag.toNat = false → s.txns = [] →
      ∃ t, exec (.flushDone port r) s = .next t ∧ .tileRsp port.toNat r.tag.toNat .ok 0 0 ∈ t.out ∧
        ∀ f ∈ t.flushes, f.name = r.addr.toNat % 256 → port.toNat ∉ f.ports)

/-- The answers of snooped ports, and the errors of a home.
Snoops of a home. The owner's answer FWD_ONCE with data completes an RD_ONCE with those data (05 R160 to R162); a snoop
that no answer has met for local_ticks poisons the line and completes the request with POISON (05 R173, R174); a port that does
not answer FLUSH_HOME for 4 ticks leaves the flush (05 R176).
Errors of a home's arrays and its retry queue. An uncorrectable filter entry holds its set and starts a flush
(05 R176); a dirty line whose entry has an error is restored from the mirror array (05 R156); a reservation not claimed for
1 tick passes to the next place of the queue (05 R168). -/
def Obligations.SnoopsAndErrorsOfAHome : Prop :=
  (∀ (s : State) (port : BitVec 8),
    (∀ (r : SnpResp) (q tag : Nat) (t : Txn) (n : Snoop), s.stopped = false → s.portUp port.toNat = true → s.portUp q = true →
      (s.tile q).tags.contains tag = true → srspCparOk r false = true → srspCparOk r true = true → srspDparOk r = true → r.resp = 8 →
      s.txns = [t] → t.op = .rdOnce → t.origin = .tile q tag → t.phase = .snooping → t.got = none → t.poison = 0 →
      t.fmt = 0 → t.waitLine = none → t.snoops = [n] → n.port = port.toNat → n.chip = false → n.id = r.id.toNat → n.ty = 2 →
      n.missed = false →
      (s.filt t.home t.line).ownerAgent = some (false, port.toNat) → 2 ≤ (s.filt t.home t.line).st →
      ∃ u, exec (.snoopResponse port r) s = .next u ∧ .tileRsp q tag .ok 0 r.data ∈ u.out ∧ u.txns = []) ∧
    (∀ (id : BitVec 10) (q tag : Nat) (t : Txn) (n : Snoop), s.portUp q = true → (s.tile q).tags.contains tag = true → s.txns = [t] → t.op = .rdOnce →
      t.origin = .tile q tag → t.phase = .snooping → t.waitLine = none → t.snoops = [n] → n.port = port.toNat → n.chip = false →
      n.id = id.toNat → n.since + s.homeTimeout.localTicks ≤ s.blk.tick →
      ∃ u, exec (.snoopTimeout port id) s = .next u ∧ .tileRsp q tag .poison 0 0 ∈ u.out ∧ u.txns = []) ∧
    (∀ (name : BitVec 8) (f : Flush), s.txns = [] →
      s.flushes.find? (fun f => f.name == name.toNat && f.ports.contains port.toNat && decide (f.start + 4 ≤ s.blk.tick)) = some f →
      ∃ u, exec (.flushDoneTimeout name port) s = .next u ∧ ∀ g ∈ u.flushes, g.name = name.toNat → port.toNat ∉ g.ports)) ∧
  (∀ (s : State) (h : BitVec 8),
    (∀ set : BitVec 13, (s.home h.toNat).heldSets.contains set.toNat = false →
      ((s.home h.toNat).role = 0 ∨ (s.home h.toNat).role = 2) →
      ∃ t, exec (.sfUncorrectable h set) s = .next t ∧ set.toNat ∈ (t.home h.toNat).heldSets ∧
        ∃ f ∈ t.flushes, f.name = s.nameOfHome h.toNat ∧ f.set = some set.toNat ∧ f.start = s.blk.tick) ∧
    (∀ (set : BitVec 11) (way : BitVec 4) (tagError : Bool) (l : LlcLine) (b : Nat) (c : MirrorEnt),
      mget? (s.home h.toNat).lines (set.toNat * 16 + way.toNat) = some l → l.dirty = true → s.buddy h.toNat = some b →
      mget? (s.home b).mirror l.line = some c →
      (s.home h.toNat).tagErrs.all (fun e => e.1 != set.toNat * 16 + way.toNat) = true →
      ∃ t, exec (.dataArrayError h set way tagError false) s = .next t ∧
        mget? (t.home h.toNat).lines (set.toNat * 16 + way.toNat) = some { l with data := c.data, poison := c.poison }) ∧
    (∀ (origin : BitVec 9) (a b : RetryEnt) (k : Nat), (s.home h.toNat).retryQ = [a, b] → a.origin = origin.toNat →
      b.origin ≠ origin.toNat → a.reserved = some k → k + 1 ≤ s.blk.tick → b.reserved = none →
      ∃ t, exec (.reservationExpiry h origin) s = .next t ∧
        (t.home h.toNat).retryQ = [{ b with reserved := some s.blk.tick }, { a with reserved := none }]))

/-! ### The memory ports (02 R60 to R63, 06 R207, 07 R224, R238, R243) -/

/-- The transfers of the memory ports and the watch of all ports.
Transfers of a memory port. A port that may issue takes its waiting request under its lowest free tag; a good return
completes the tile read that waits for it with the plaintext of its sectors; an acknowledgement frees the tag and the
write buffer's entry; the oldest waiter takes a free stripe lock; a suspect stripe gets a parity rewrite.
The watch of the ports (02 R63, R82 to R88). mp_trained falling holds a memory port and rising lets it go; more than
4 ticks without it, or the loss of mp_healthy, isolates the port with its kind; a grant above 8, and an answer that is overdue,
count as events of the port. A stuck ready or valid and a lost keep-alive isolate a port that is up; a port leaves reset with
fabric reset released; a reenable that may be granted brings the port back up, and the tags held back are freed 16 ticks
later. -/
def Obligations.MemoryPorts : Prop :=
  (∀ (s : State) (p : BitVec 4),
    (∀ r tg, s.mpReady p.toNat = true → (s.mp p.toNat).waiting = [r] → s.slotFree p.toNat r = true → s.freeTag p.toNat = some tg →
      s.reqPasses r = true → (r.write && (s.mp p.toNat).grantBad) = false →
      ∃ t, exec (.memoryRequestIssue p) s = .next t ∧ t.out = s.out ++ [.memReq p.toNat r.write tg (mpAddr r.line) r.mask r.cipher r.sb] ∧
        (t.mp p.toNat).waiting = [] ∧ (t.mp p.toNat).tags = (s.mp p.toNat).tags ++ [{ r with tag := tg, since := s.blk.tick }]) ∧
    (∀ (r : MpReturn) (q : MemReq) (x : Txn) (port tag : Nat) (d0 d1 : Sector) (c0 c1 : Sector) (h0 h1 : BitVec 32), s.stopped = false →
      s.portUp (mpPort p.toNat) = true → r.inGrant = true → r.cparOk = true → r.bad = 0 →
      (s.mp p.toNat).tags.find? (fun x => x.tag == r.tag.toNat && x.write == false) = some q → q.purpose = .fill x.id → q.mask = 3 →
      s.keyUsable q.key = true → s.guardOps = [] → s.txns = [x] → x.op = .rdOnce → x.origin = .tile port tag → x.phase = .reading →
      (s.tile port).tags.contains tag = true → x.got = none → x.scale = none → x.fmt = 0 → x.waitLine = none → s.portUp port = true →
      s.judge q.key (sectorIx q.line 0) false (lineSector r.data 0) (BitVec.ofNat 64 r.sb.toNat) = .good d0 false c0 h0 →
      s.judge q.key (sectorIx q.line 1) false (lineSector r.data 1) (BitVec.ofNat 64 (r.sb.toNat >>> 64)) = .good d1 false c1 h1 →
      ∃ t, exec (.memoryReadReturn p r) s = .next t ∧ .tileRsp port tag .ok 0 (setSector (setSector 0 0 d0) 1 d1) ∈ t.out ∧ t.txns = []) ∧
    (∀ (tag : BitVec 8) (q : MemReq) (h k : Nat) (l : LlcLine) (e : WbEnt), s.stopped = false → s.portUp (mpPort p.toNat) = true →
      (s.mp p.toNat).tags.find? (fun x => x.tag == tag.toNat && x.write == true) = some q → q.purpose = .flushed h e.line →
      (s.mp p.toNat).trained = true → (s.home h).wbuf = [e] → (s.home h).way? e.line = some (k, l) → s.txns = [] →
      ∃ t, exec (.memoryWriteAck p tag true true) s = .next t ∧ (t.home h).wbuf = [] ∧
        (t.mp p.toNat).tags = (s.mp p.toNat).tags.filter (fun x => x.tag != tag.toNat)) ∧
    (∀ id g, s.Working → s.mpt.lostMask = 0 → (s.mp p.toNat).lockWaiters = [id] → (s.mp p.toNat).locks.length < 256 →
      s.guardOps.find? (·.id == id) = some g → (s.mp p.toNat).locks.any (·.1 == g.stripe) = false →
      ∃ t, exec (.stripeLockGrant p) s = .next t ∧ (t.mp p.toNat).locks = (s.mp p.toNat).locks ++ [(g.stripe, g.id)] ∧
        (t.mp p.toNat).lockWaiters = []) ∧
    (∀ (group : BitVec 16) (offset : BitVec 15), s.stopped = false → group.toNat * 32768 + offset.toNat ∈ s.mpt.suspects →
      s.mpt.lostMask = 0 → s.guardOps = [] →
      ∃ t, exec (.parityRewrite group offset) s = .next t ∧
        ∃ g ∈ t.guardOps, g.kind = .parityFix ∧ g.stripe = group.toNat * 32768 + offset.toNat)) ∧
  (∀ s : State,
    (∀ p : BitVec 4,
      ((s.mp p.toNat).trained = true →
        ∃ t, exec (.mpTrainedFall p) s = .next t ∧ t.mp p.toNat = { s.mp p.toNat with trained := false, trainedFell := some s.blk.tick }) ∧
      (∃ t, exec (.mpTrainedRise p) s = .next t ∧
        t.mp p.toNat = { s.mp p.toNat with trained := true, healthy := true, trainedFell := none }) ∧
      (∀ k, (s.mp p.toNat).trainedFell = some k → (s.mp p.toNat).healthy = true → k + 4 < s.blk.tick →
        (s.port (mpPort p.toNat)).state = 1 →
        ∃ t, exec (.mpTrainedLost p) s = .next t ∧ (t.port (mpPort p.toNat)).state = 2 ∧ (t.port (mpPort p.toNat)).cause = 0x67) ∧
      ((s.mp p.toNat).trained = true → (s.port (mpPort p.toNat)).state = 1 →
        ∃ t, exec (.mpHealthyLost p) s = .next t ∧ (t.port (mpPort p.toNat)).state = 2 ∧ (t.port (mpPort p.toNat)).cause = 0x68 ∧
          (t.mp p.toNat).healthy = false) ∧
      (∀ grant : BitVec 4, 8 < grant.toNat → s.portUp (mpPort p.toNat) = true → (s.port (mpPort p.toNat)).errs < 3 →
        ∃ t, exec (.grantAbove8 p grant) s = .next t ∧ (t.mp p.toNat).grantBad = true ∧
          t.port (mpPort p.toNat) = { s.port (mpPort p.toNat) with errs := (s.port (mpPort p.toNat)).errs + 1 })) ∧
    (∀ i : BitVec 9,
      (s.respOverdue i.toNat = true → (s.port i.toNat).state = 1 → (s.port i.toNat).errs < 3 →
        ∃ t, exec (.portRespTimeout i) s = .next t ∧ t.port i.toNat = { s.port i.toNat with errs := (s.port i.toNat).errs + 1 }) ∧
      (∀ paused : Bool, 272 ≤ i.toNat → i.toNat < 336 → (paused = true ∨ (s.tine (i.toNat - 272)).paused ≠ 0) →
        exec (.portStuckReady i paused) s = .next s) ∧
      ((s.port i.toNat).state = 1 → (272 ≤ i.toNat → i.toNat < 336 → (s.tine (i.toNat - 272)).paused = 0) →
        ∀ p ∈ [(Instr.portStuckReady i false, 0x60), (.portStuckValid i, 0x61), (.portKeepaliveLost i, 0x62)],
          ∃ t, exec p.1 s = .next t ∧ (t.port i.toNat).state = 2 ∧ (t.port i.toNat).cause = p.2 ∧ t.own = s.own) ∧
      ((s.port i.toNat).state = 0 → s.fawn.fabricGood = true →
        ∃ t, exec (.portLeaveReset i) s = .next t ∧ t.port i.toNat = { s.port i.toNat with state := 1 }) ∧
      ((s.port i.toNat).reenable = true → (s.port i.toNat).state = 2 → (s.port i.toNat).gap = false →
        (256 ≤ i.toNat → i.toNat < 272 → (s.mp (i.toNat - 256)).trained = true ∧ (s.mp (i.toNat - 256)).healthy = true ∧
          (s.mp (i.toNat - 256)).trainedFell = none) →
        ∃ t, exec (.portReenable i) s = .next t ∧
          t.port i.toNat = { s.port i.toNat with state := 1, reenable := false, holdEnd := s.blk.tick + 16 }) ∧
      ((s.port i.toNat).reenable = true → (s.port i.toNat).gap = true →
        ∃ t, exec (.portReenable i) s = .next t ∧ t.port i.toNat = { s.port i.toNat with reenable := false, reenableRefused := true }) ∧
      ((s.port i.toNat).state = 1 → (s.port i.toNat).heldTags ≠ [] → (s.port i.toNat).holdEnd ≤ s.blk.tick →
        ∃ t, exec (.tagReuseHoldEnd i) s = .next t ∧ t.port i.toNat = { s.port i.toNat with heldTags := [] })))

/-! ### The host port (02 R66 to R69, 11 R337 to R359) -/

/-- The host port takes a request whose parities are right and whose op is not a reserved one. -/
def HostTakes (s : State) (op : Nat) (r : HostReq) : Prop :=
  s.HostOpen r.fn.toNat r.tag.toNat ∧ hostCparOk op r = true ∧ hostDparOk r = true ∧ hostRsvd r = none

/-- The accesses of the host port, to fences and to memory.
The four accesses of the host port to a fence record that the page lets it reach (11 R347 to R350): a read answers the
bytes of the record; a write, FETCH_ADD and COMPARE_SWAP store their value, leave the record SIGNALLED and answer OK, the
two atomics with the old value.
The four accesses of the host port to memory, for a line that no tile holds and the home has (02 R66, 03 R103, 05 R162): a
read is answered with the bytes from its address on; a write to a dirty line of a mirrored home merges its enabled bytes; the
atomics perform there and are answered with the old 8 bytes. -/
def Obligations.HostAccesses : Prop :=
  (∀ (s : State) (r : HostReq), r.space = 2 → inLine r.addr.toNat (hostLen r) = true →
    (HostTakes s 0 r → s.fenceStatus 0 r = .ok →
      ∃ t, exec (.hostRead r) s = .next t ∧ .hostRsp r.tag.toNat .ok (BitVec.ofNat 1024
          ((((s.fence (r.addr.toNat / 16)).value.toNat + (s.fence (r.addr.toNat / 16)).word1.toNat <<< 64)
            >>> (8 * (r.addr.toNat % 16))) % 2 ^ (8 * hostLen r))) ∈ t.out ∧ t.fences = s.fences) ∧
    (HostTakes s 1 r → s.fenceStatus 1 r = .ok → r.addr.toNat % 16 = 0 →
      ∃ t, exec (.hostWrite r) s = .next t ∧ .hostRsp r.tag.toNat .ok 0 ∈ t.out ∧
        (t.fence (r.addr.toNat / 16)).value = BitVec.ofNat 64 r.wdata.toNat ∧ (t.fence (r.addr.toNat / 16)).state = 2) ∧
    (hostLen r = 8 → r.addr.toNat % 16 = 0 →
      (HostTakes s 2 r → s.fenceStatus 2 r = .ok →
        ∃ t, exec (.hostFetchAdd r) s = .next t ∧
          .hostRsp r.tag.toNat .ok ((s.fence (r.addr.toNat / 16)).value.setWidth 1024) ∈ t.out ∧
          (t.fence (r.addr.toNat / 16)).value = (s.fence (r.addr.toNat / 16)).value + BitVec.ofNat 64 r.wdata.toNat ∧
          (t.fence (r.addr.toNat / 16)).state = 2) ∧
      (HostTakes s 3 r → s.fenceStatus 3 r = .ok →
        ∃ t, exec (.hostCompareSwap r) s = .next t ∧
          .hostRsp r.tag.toNat .ok ((s.fence (r.addr.toNat / 16)).value.setWidth 1024) ∈ t.out ∧
          (t.fence (r.addr.toNat / 16)).value =
            (if (s.fence (r.addr.toNat / 16)).value = BitVec.ofNat 64 (r.wdata.toNat >>> 64) then BitVec.ofNat 64 r.wdata.toNat
             else (s.fence (r.addr.toNat / 16)).value)))) ∧
  (∀ (s : State) (r : HostReq) (n h line : Nat), r.space = 1 → r.peer = false → inLine r.addr.toNat (hostLen r) = true →
    line = lineOf r.addr.toNat → (s.fnc r.fn.toNat).state = 2 → s.filt h line = {} →
    s.gateShut (some line) (s.fnc r.fn.toNat).slice (s.servedClass (s.fnc r.fn.toNat).slice 1) none = false →
    (∀ d, HostTakes s 0 r → HomeTakes s line (s.fnc r.fn.toNat).slice r.fn.toNat .rd true n h → s.homeData h line = some (d, 0, 3) →
      ∃ t, exec (.hostRead r) s = .next t ∧ .hostRsp r.tag.toNat .ok (d >>> (8 * (r.addr.toNat % 128))) ∈ t.out) ∧
    (∀ k l, HostTakes s 1 r → HomeTakes s line (s.fnc r.fn.toNat).slice r.fn.toNat .wr true n h → (s.home h).way? line = some (k, l) →
      l.dirty = true → l.poison = 0 → s.keyLive l.key = true → s.mirrored h = true →
      ∃ t, exec (.hostWrite r) s = .next t ∧ .hostRsp r.tag.toNat .ok 0 ∈ t.out ∧
        ((t.home h).way? line).map (·.2.data) = some (mergeLine l.data
          (BitVec.ofNat 1024 (r.wdata.toNat <<< (8 * (r.addr.toNat % 128))))
          (BitVec.ofNat 128 (field r.be 0 (hostLen r) <<< (r.addr.toNat % 128))))) ∧
    (∀ k l oldv new, HomeTakes s line (s.fnc r.fn.toNat).slice r.fn.toNat .amo true n h → (s.home h).way? line = some (k, l) →
      l.dirty = true → l.poison = 0 → s.keyLive l.key = true → s.mirrored h = true → hostLen r = 8 → r.addr.toNat % 8 = 0 →
      (HostTakes s 2 r → atomicLine l.data (r.addr.toNat % 128) 2 true (BitVec.ofNat 64 r.wdata.toNat) 0 = some (oldv, new) →
        ∃ t, exec (.hostFetchAdd r) s = .next t ∧ .hostRsp r.tag.toNat .ok (BitVec.ofNat 1024 oldv.toNat) ∈ t.out ∧
          ((t.home h).way? line).map (·.2.data) = some new) ∧
      (HostTakes s 3 r → atomicLine l.data (r.addr.toNat % 128) 1 true (BitVec.ofNat 64 r.wdata.toNat)
          (BitVec.ofNat 64 (r.wdata.toNat >>> 64)) = some (oldv, new) →
        ∃ t, exec (.hostCompareSwap r) s = .next t ∧ .hostRsp r.tag.toNat .ok (BitVec.ofNat 1024 oldv.toNat) ∈ t.out ∧
          ((t.home h).way? line).map (·.2.data) = some new)))

/-- Jobs are taken in: a descriptor that passes the checks of submission enters the block's list with its context and port and
is answered OK, from the host's doorbell as from a tile's JOB_SUBMIT (09 R282, R283, R284). -/
def Obligations.JobsAreSubmitted : Prop :=
  ∀ s : State,
    (∀ (f : BitVec 12) (tag : BitVec 10) (c : BitVec 7) (w : Reg) (x : Nat) (d : List Reg), s.HostOpen f.toNat tag.toNat →
      s.slotOf f.toNat c.toNat = some x → s.pinsStatus c.toNat = .ok →
      d = (List.range 8).map (fun k => tget 0 (mput (s.view f.toNat).jobDesc (8 * c.toNat + 7) w) (8 * c.toNat + k)) →
      s.submitStatus x d = .ok →
      ∃ t, exec (.jobDescSubmit f tag c w) s = .next t ∧ .hostRsp tag.toNat .ok 0 ∈ t.out ∧
        ∃ j, t.jobs = s.jobs ++ [j] ∧ j.desc = d ∧ j.ctx = x ∧ j.port = hostPort ∧ j.engine = none) ∧
    (∀ (port : BitVec 8) (r : TpReq) (b : Bound), TileTakes s port.toNat 0x21 r b → s.blk.parked = false → r.be = BitVec.allOnes 64 →
      s.submitStatus b.ctx (descWords r.wdata) = .ok →
      ∃ t, exec (.jobSubmit port r) s = .next t ∧ .tileRsp port.toNat r.tag.toNat .ok 0 0 ∈ t.out ∧
        ∃ j, t.jobs = s.jobs ++ [j] ∧ j.desc = descWords r.wdata ∧ j.ctx = b.ctx ∧ j.port = port.toNat ∧ j.engine = none)

/-- The kernel boundary takes a command with right parity and a type that is not reserved. -/
def KbTakes (s : State) (ty : Nat) (k : KbReq) : Prop :=
  s.portUp hostPort = true ∧ kbCparOk ty k = true ∧ k.rsvd = false ∧ s.fatal = false ∧ s.fullHold = false

/-- The kernel boundary (02 R68, R69, 11 R342): START binds its range of tile ports to the slot and is acknowledged OK; END of
a live binding waits; it is acknowledged OK, and the range unbound, once every write of the range has been performed, or TIMEOUT
after 8 ticks, with the context lost; ABORT is acknowledged OK, unbinds the range, and the context is lost. -/
def Obligations.KernelBoundary : Prop :=
  ∀ s : State,
    (∀ k : KbReq, KbTakes s 0 k → s.startStatus k.slot.toNat k.first.toNat k.count.toNat = .ok →
      ∃ t, exec (.kbStart k) s = .next t ∧ .kbAck k.seq.toNat .ok ∈ t.out ∧
        t.bindings = mput s.bindings k.slot.toNat { first := k.first.toNat, count := k.count.toNat }) ∧
    (∀ (k : KbReq) (b : Binding) (x : Nat), mget? s.bindings k.slot.toNat = some b → b.lost = false →
      (s.slot k.slot.toNat).ctx = some x → s.ctxLost x = false →
      (KbTakes s 1 k → b.ending = none →
        ∃ t, exec (.kbEnd k) s = .next t ∧ t.out = s.out ∧
          t.bindings = mput s.bindings k.slot.toNat { b with ending := some (k.seq.toNat, s.blk.tick) }) ∧
      (KbTakes s 2 k → ∃ t, exec (.kbAbort k) s = .next t ∧ .kbAck k.seq.toNat .ok ∈ t.out ∧
          t.bindings = mdel s.bindings k.slot.toNat ∧ (x, 2) ∈ t.losing)) ∧
    (∀ (c : BitVec 7) (b : Binding) (x q k : Nat), mget? s.bindings c.toNat = some b → b.lost = false → b.ending = some (q, k) →
      (s.slot c.toNat).ctx = some x → s.ctxLost x = false → s.portUp hostPort = true →
      (s.Working → s.writesHome b = true →
        ∃ t, exec (.endComplete c) s = .next t ∧ .kbAck q .ok ∈ t.out ∧ t.bindings = mdel s.bindings c.toNat) ∧
      (k + 8 ≤ s.blk.tick → s.writesHome b = false →
        ∃ t, exec (.endTimeout c) s = .next t ∧ .kbAck q .timeout ∈ t.out ∧ (x, 3) ∈ t.losing))

/-! ### The debug, urgency and test ports (02 R70 to R81, 06 R193 to R196, 15 R464 to R466) -/

/-- The debug lanes, the urgency inputs and the test port.
A debug sample of a port whose slot is traced enters the sink as a record of the sample (15 R464, R466).
The urgency inputs and the test port. A sampled level is the input's level from then on; level 7 for 8 ticks raises kind
0xC4 once (06 R193, R195). The test port loads its instruction register and captures what the instruction selects: idcode_in
for IDCODE; FACTORY_TEST takes effect only while fabric reset is asserted, and EXTEST is refused outside it (02 R80, R81). -/
def Obligations.DebugUrgencyAndTestPorts : Prop :=
  (∀ (s : State) (lane : BitVec 2) (tile : BitVec 8) (pc : BitVec 48) (stall : BitVec 4) (cpar : Bool) (fclk : BitVec 12) (b : Bound),
    s.portUp 338 = true → dbgCparOk tile.toNat pc.toNat stall.toNat cpar = true → (s.port tile.toNat).state ≠ 3 →
    s.bound tile.toNat = some b → b.lost = false → (s.slot b.slot).trace.on = true → (s.slot b.slot).trace.dropSince = 0 →
    s.stopped = false → s.sink.length < 1024 →
    ∃ t, exec (.debugSample lane tile pc stall cpar fclk) s = .next t ∧
      t.sink = s.sink ++ [s.traceRec b.slot 1 tile.toNat pc.toNat stall.toNat fclk.toNat 0 (s.tile tile.toNat).marker] ∧ t.out = s.out) ∧
  (∀ s : State,
    (∀ (n : BitVec 4) (level : BitVec 3), level ≠ 0 → s.held = [] →
      ∃ t, exec (.urgencyLevel n level) s = .next t ∧ (t.urg n.toNat).level = level.toNat ∧ t.own = s.own ∧ t.out = s.out) ∧
    (∀ (n : BitVec 4) (u : UrgRec), s.urgRec n.toNat = some u → 8 ≤ (s.urg n.toNat).at7 → (s.urg n.toNat).level = 7 →
      (s.urg n.toNat).floating = false → (s.urg n.toNat).raised = false →
      ∃ t, exec (.urgencyStarved n) s = .next t ∧ (t.urg n.toNat).raised = true ∧
        t = (s.setUrg n.toNat { s.urg n.toNat with raised := true }).raise qosUnit 0xC4 2 2 (340 + n.toNat) u.slice 0) ∧
    (exec .idcode s = .next { s with test := { s.test with ir := 0x01 }, out := s.out ++ [.testCapture 0x01 s.test.idcode] }) ∧
    (∀ pins preload : List Bool, exec (.samplePreload pins preload) s = .next { s with
      test := { s.test with ir := 0x02, boundary := preload }, out := s.out ++ [.testCapture 0x02 0] ++ [.testScan pins] }) ∧
    (∀ code : BitVec 8, exec (.bypass code) s = .next
      (if testCodes.contains code.toNat then { s with test := { s.test with ir := 0xFF }, out := s.out ++ [.testCapture 0xFF 0] }
       else { s with test := { s.test with ir := code }, out := s.out ++ [.testCapture code.toNat 0] })) ∧
    (∀ (inst : BitVec 16) (write reveals : Bool) (data : Reg), exec (.ijtagAccess inst write reveals data) s = .next
      { s with test := { s.test with ir := 0x10 }, out := s.out ++ [.testCapture 0x10 0] ++
        (if s.test.factory = true ∨ (write = false ∧ reveals = false) then [.testAccess inst.toNat write data] else []) }) ∧
    (s.test.factory = true →
      exec .extest s = .next { s with test := { s.test with ir := 0x03 },
                                      out := s.out ++ [.testCapture 0x03 0] ++ [.testDrive s.test.boundary] }) ∧
    (s.test.factory = false →
      exec .extest s = .next { s with test := { s.test with ir := 0x00 }, out := s.out ++ [.testCapture 0x03 0] }) ∧
    (exec .factoryTest s = .next { s with
      test := { s.test with ir := 0xA5, factory := s.test.factory || !s.fawn.fabricGood }, out := s.out ++ [.testCapture 0xA5 0] }))

/-! ### The sideband port (02 R72, 12 R385, R386, 14 R443, R444, 16 R483) -/

/-- `s` with one more answer on the sideband port. -/
def answered (s : State) (code : Nat) (args : List Nat) : State := { s with out := s.out ++ [.sideband code args] }

/-- The PLDM and SPDM responders of the sideband port.
MCTP and the PLDM responder, while the package has power. Each answer carries completion code 0 and what the PDR of its ID
describes (16 R483), or the code for an ID no PDR describes; effecter 102 writes fclk_limit_point where it is legal, effecter 101
asks for the management port's return; a poll takes the oldest queued event (14 R443, R444). Answers are the model's abstract codes (log entries
1 and 33).
The SPDM responder, while the fabric runs (12 R385, R386): version 1.3; the capabilities and algorithms of R385; with a
root, the digest and the portions of the chain of slot 0 and the blocks of R386; a signed answer carries a fresh random number and a
signature of the alias key over it. Requests that R385 does not list get UnsupportedRequest. Answers are the model's abstract codes
(log entries 1 and 33). -/
def Obligations.SidebandResponders : Prop :=
  (∀ s : State, s.blk.power ≠ 3 →
    (∀ p : MctpPkt, p.pecOk = true → p.dst = p.strap → p.len.toNat ≤ 64 →
      (p.type ≠ 0 → p.type ≠ 1 → p.type ≠ 5 → exec (.mctpPacket p) s = .next (answered s 1 [p.type.toNat])) ∧
      (∀ b : Byte, 128 ≤ b.toNat → p.type = 0 → p.body = [b, 2] →
        exec (.mctpPacket p) s = .next (answered s 2 [b.toNat % 32, 2, 0, s.fawn.eid, 0, 0])) ∧
      (∀ b e : Byte, 128 ≤ b.toNat → p.type = 0 → p.body = [b, 1, 0, e] → e ≠ 0 → e ≠ 255 →
        exec (.mctpPacket p) s = .next { answered s 2 [b.toNat % 32, 1, 0, 0, e.toNat, 0] with
          fawn := { s.fawn with eid := e.toNat } })) ∧
    (∀ p : MctpPkt, p.pecOk = false ∨ p.dst ≠ p.strap ∨ 64 < p.len.toNat → exec (.mctpPacket p) s = .next s) ∧
    exec .getTid s = .next (answered s 0x10 [0, Config.tid 0]) ∧
    (∀ (id : BitVec 16) (l : List Nat), pdrKind id.toNat = some l → exec (.getPdr id) s = .next (answered s 0x11 (0 :: l))) ∧
    (∀ id : BitVec 16, pdrKind id.toNat = none → exec (.getPdr id) s = .next (answered s 0x11 [0x82])) ∧
    (∀ m : BitVec 16, 10 ≤ m.toNat → m.toNat ≤ 41 → (s.supply (m.toNat - 10)).valid = true →
      exec (.getSensorReading m) s = .next (answered s 0x12 [0, 0, (BitVec.ofInt 16 (Int.ofNat (s.supply (m.toNat - 10)).median)).toNat])) ∧
    (∀ m : BitVec 16, m = 0 ∨ 41 < m.toNat → exec (.getSensorReading m) s = .next (answered s 0x12 [0x80])) ∧
    exec (.getStateSensorReadings 50) s = .next (answered s 0x13 [0, s.blk.power]) ∧
    exec (.getStateSensorReadings 51) s = .next (answered s 0x13 [0, s.flt.cls]) ∧
    exec (.getStateSensorReadings 52) s = .next (answered s 0x13 [0, s.fawn.phase]) ∧
    exec (.getStateSensorReadings 53) s = .next (answered s 0x13 [0, s.pair.state]) ∧
    (∀ v : BitVec 8, v.toNat ≤ 8 → exec (.setNumericEffecterValue 102 v) s =
      .next { answered s 0x14 [0] with blk := { s.blk with fclkLimit := v.toNat } }) ∧
    (∀ v : BitVec 8, 8 < v.toNat → exec (.setNumericEffecterValue 102 v) s = .next (answered s 0x14 [0])) ∧
    exec (.getNumericEffecterValue 102) s = .next (answered s 0x15 [0, s.blk.fclkLimit]) ∧
    (∃ t, exec (.setStateEffecterStates 101 1) s = .next t ∧ (t.port mgPort).reenable = true ∧ t.out = s.out ++ [.sideband 0x16 [0]]) ∧
    exec (.getStateEffecterStates 100) s = .next (answered s 0x17 [0, s.blk.powerRequest]) ∧
    exec (.getStateEffecterStates 101) s = .next (answered s 0x17 [0, flag (s.port mgPort).reenable]) ∧
    (s.fawn.events = [] → exec .pollForPlatformEventMessage s = .next (answered s 0x18 [0])) ∧
    (∀ ty a q, s.fawn.events = (ty, a) :: q → ∃ t, exec .pollForPlatformEventMessage s = .next t ∧
      .sideband 0x18 [0, ty, a, flag s.fawn.eventsLost] ∈ t.out ∧ t.fawn.events = q ∧ t.fawn.eventsLost = false)) ∧
  (∀ s : State, s.blk.power = 2 → 3 ≤ s.fawn.phase →
    exec .spdmGetVersion s = .next (answered s 0x20 [0x13]) ∧
    exec .spdmGetCapabilities s = .next (answered s 0x21 [14, 0x16]) ∧
    exec .spdmNegotiateAlgorithms s = .next (answered s 0x22 [0x80, 0x2, 0x4, 1]) ∧
    (∀ code : BitVec 8, s.vault.state < 3 ∨ 6 < s.vault.state →
      exec (.spdmUnsupportedRequest code) s = .next (answered s 0x2F [7, code.toNat])) ∧
    (s.vaultReady = true →
      exec .spdmGetDigests s = .next (answered s 0x23 [1, (Config.sha384 s.vault.certBuf).toNat]) ∧
      (∀ offset len : BitVec 16, offset.toNat < s.vault.certBuf.length →
        exec (.spdmGetCertificate 0 offset len) s = .next (answered s 0x24
          ([((s.vault.certBuf.drop offset.toNat).take len.toNat).length,
            s.vault.certBuf.length - offset.toNat - ((s.vault.certBuf.drop offset.toNat).take len.toNat).length] ++
           ((s.vault.certBuf.drop offset.toNat).take len.toNat).map (·.toNat)))) ∧
      (∀ (slot : BitVec 4) (offset len : BitVec 16), slot ≠ 0 →
        exec (.spdmGetCertificate slot offset len) s = .next (answered s 0x2F [1])) ∧
      (∀ index : BitVec 8, 1 ≤ index.toNat → index.toNat ≤ 5 →
        exec (.spdmGetMeasurements index false 0) s = .next (answered s 0x26 (s.measureBlock index.toNat))) ∧
      (s.vaultSigns = true → ∀ nonce : BitVec 256,
        (∃ t r sig, exec (.spdmChallenge 0 nonce) s = .next t ∧
          t.out = s.out ++ [.sideband 0x25 ([(Config.sha384 s.vault.certBuf).toNat, BitVec.toNat (r : BitVec 256)] ++ sig)]) ∧
        (∃ t r sig, exec (.spdmGetMeasurements 0 true nonce) s = .next t ∧
          t.out = s.out ++ [.sideband 0x26 ([5, BitVec.toNat (r : BitVec 256)] ++ sig)]))) ∧
    (s.vaultReady = false → ∀ c ∈ [Instr.spdmGetDigests, .spdmGetCertificate 0 0 0, .spdmChallenge 0 0, .spdmGetMeasurements 0 false 0],
      exec c s = .next (answered s 0x2F [5])))

/-! ### The image (04 R137 to R146, 14 R437) -/

/-- The image: its operations, and how it comes into force.
The operations of the IMG window in the states that permit them (04 R140): OPEN empties staging and loads, DATA appends 8
bytes, CLOSE starts the check, ARM of a delta that passes the live checks arms it, CANCEL of an armed or draining delta empties
the window, APPLY of a full image before SERVICE waits for its boundary. None of them changes the active configuration.
How an image comes into force (04 R140, R142 to R146): a check that passes leaves the image VALID, one that fails REJECTED
with its code, both with vector 0x06; the drain of an armed delta starts when its lead is reached; the walks pass 448 lines and
one piece of the filter; at the commit the delta's configuration is in force with its digest, or, where a check fails, nothing of the
active configuration has changed. -/
def Obligations.ImageLoading : Prop :=
  (∀ s : State, s.MgOpen false → s.img.applyPending = false →
    (s.img.state = 0 ∨ s.img.state = 3 ∨ s.img.state = 6 →
      ∃ t, exec .imgOpen s = .next t ∧ t.img.state = 1 ∧ t.img.staging = [] ∧ t.img.staged = none ∧ t.img.active = s.img.active) ∧
    (∀ d : Reg, s.img.state = 1 → s.img.staging.length + 8 ≤ 2 ^ 20 →
      ∃ t, exec (.imgData d) s = .next t ∧ t.img = { s.img with staging := s.img.staging ++ leBytes d.toNat 8 }) ∧
    (s.img.state = 1 → ∃ t, exec .imgClose s = .next t ∧ t.img = { s.img with state := 2 }) ∧
    (∀ d, s.img.state = 3 → s.img.staged = some d → d.delta = true → s.isMirror = false → s.liveCheck d = none → s.tickFail d = none →
      ∃ t, exec .imgArm s = .next t ∧ t.img = { s.img with state := 4, result := 0 }) ∧
    (∀ d f, s.img.state = 3 → s.img.staged = some d → d.delta = true → s.isMirror = false → s.liveCheck d = some f →
      ∃ t, exec .imgArm s = .next t ∧ t.img = { s.img with
        result := (imgWhere (imgRecsOf s.img.staging).1 f).1, errOffset := (imgWhere (imgRecsOf s.img.staging).1 f).2.1,
        errType := (imgWhere (imgRecsOf s.img.staging).1 f).2.2 }) ∧
    (s.img.state = 4 ∨ s.img.state = 5 → s.txns = [] →
      ∃ t, exec .imgCancel s = .next t ∧ t.img.state = 0 ∧ t.img.result = 0x15 ∧ t.img.staged = none ∧ t.img.drain = s.img.drain ∧ t.img.closing = (s.img.state == 5) ∧
        t.img.active = s.img.active) ∧
    (∀ d, s.img.state = 3 → s.img.staged = some d → d.delta = false → s.fawn.phase = 5 → s.img.applied = false →
      ∃ t, exec .imgApply s = .next t ∧ t.img = { s.img with applyPending := true })) ∧
  (∀ s : State,
    (∀ d, s.img.state = 2 → s.imgCheck = .ok d →
      ∃ t, exec .imgCheckComplete s = .next t ∧ t.img.state = 3 ∧ t.img.staged = some d ∧ t.img.stagedDigest = d.result ∧
        (s.drives mgPort = true → t.out = s.out ++ [.mgIrq 6]) ∧ t.img.active = s.img.active) ∧
    (∀ code off ty, s.img.state = 2 → s.imgCheck = .error (code, off, ty) →
      ∃ t, exec .imgCheckComplete s = .next t ∧ t.img.state = 6 ∧ t.img.result = code ∧ t.img.errOffset = off ∧ t.img.errType = ty ∧
        (s.drives mgPort = true → t.out = s.out ++ [.mgIrq 6]) ∧ t.img.active = s.img.active) ∧
    (∀ d, s.img.state = 4 → s.img.staged = some d → s.isMirror = false → d.commitTick ≤ s.blk.tick + d.drainLead →
      ∃ t, exec .drainStart s = .next t ∧ t.img.state = 5 ∧ t.img.movingSlices = s.movedSlices d.cfg ∧ t.img.active = s.img.active) ∧
    (∀ (h : BitVec 8) (d : DrainSt), s.img.drain.find? (fun d => d.home == h.toNat) = some d → s.stopped = false → s.img.state = 5 →
      (d.tagCur < 32768 → d.ways ≠ 0 → d.tagTick ≠ some s.blk.tick → ∃ t, exec (.tagWalkPiece h) s = .next t ∧
        t.img.drain = s.img.drain.map fun x => if x.home == h.toNat then { d with tagCur := d.tagNext 448, tagTick := some s.blk.tick } else x) ∧
      (d.filter = true → d.filterCur < 31 → d.filterTick ≠ some s.blk.tick → ∃ t, exec (.filterWalkPiece h) s = .next t ∧
        t.img.drain = s.img.drain.map fun x => if x.home == h.toNat then { d with filterCur := d.filterCur + 1, filterTick := some s.blk.tick } else x)) ∧
    (∀ d, s.img.staged = some d → d.delta = true → s.isMirror = false → d.commitTick ≤ s.blk.tick → s.img.state = 5 →
      (s.liveCheck d = none → s.stopped = false → s.img.drain.all s.drained = true → s.recoveryMeets d = none →
        ∃ t, exec .imgCommit s = .next t ∧ t.img.active = d.cfg ∧ t.img.activeDigest = d.result ∧ t.img.lastCommit = s.blk.tick ∧
          t.img.measure = Config.sha384 (digestBytes s.img.measure ++ digestBytes d.result ++ leBytes s.blk.tick 8) ∧
          t.img.state = 0 ∧ (s.drives mgPort = true → .mgIrq 6 ∈ t.out)) ∧
      (∀ f, s.liveCheck d = some f →
        ∃ t, exec .imgCommit s = .next t ∧ t.img.active = s.img.active ∧ t.img.activeDigest = s.img.activeDigest ∧ t.img.state = 0 ∧
          t.img.result = (imgWhere (imgRecsOf s.img.staging).1 f).1 ∧ t.own = s.own ∧ (s.drives mgPort = true → .mgIrq 6 ∈ t.out))))

/-! ### Regulation (06 R192, R197 to R201, R209 to R212) -/

/-- The events and commands of the regulator. A queue level at an entry raises the throttle of a feedback port to the level it
enters, one at entry − 3 lowers it by one (06 R201); a request held for hold_age ticks is served (06 R199): a RD_ONCE of a line the
home has is answered with it; a target missed for 16 ticks is noted (06 R192); implausible feedback puts the port in hold mode and a
restore after 16 good ticks ends that (06 R209); arm and discard act on the staged values, which an armed tick puts in force with
vector 0x07 (06 R212). -/
def Obligations.RegulatorCommands : Prop :=
  ∀ s : State,
    (∀ p q : BitVec 4, s.held = [] → s.mpMode p.toNat = 0 →
      ((s.mp p.toNat).throttle < throttleOf q.toNat →
        ∃ t, exec (.throttleRise p q) s = .next t ∧ (t.mp p.toNat).throttle = throttleOf q.toNat ∧ t.own = s.own) ∧
      (∀ n, (s.mp p.toNat).throttle = n + 1 → q.toNat + 3 ≤ throttleEntry (n + 1) →
        ∃ t, exec (.throttleFall p q) s = .next t ∧ (t.mp p.toNat).throttle = n ∧ t.own = s.own)) ∧
    (∀ (port : BitVec 8) (r : TpReq) (hr : HeldReq) (b : Bound) (n h : Nat) (d : Line), s.held = [hr] → hr.port = port.toNat →
      hr.tag = r.tag.toNat → hr.cmd = .rdOnce port r → s.fullHold = false → s.fatal = false → s.holdAge ≤ hr.age →
      s.portUp port.toNat = true → (s.tile port.toNat).tags.contains r.tag.toNat = true →
      s.bound port.toNat = some b → b.lost = false → tpDparOk r = true →
      HomeTakes s (lineOf r.addr.toNat) b.slice b.fn .rd false n h → s.filt h (lineOf r.addr.toNat) = {} →
      s.homeData h (lineOf r.addr.toNat) = some (d, 0, 3) → (s.ownAt (lineGran (lineOf r.addr.toNat))).fmt = 0 →
      ∃ t, exec (.holdAgeExpiry (port.setWidth 9) r.tag) s = .next t ∧ t.held = [] ∧ .tileRsp port.toNat r.tag.toNat .ok 0 d ∈ t.out) ∧
    (∀ (sl : BitVec 7) (c : BitVec 2), ((List.range 8).any fun d => decide (16 ≤ (tget {} s.qos.ramps (rampKey d sl.toNat c.toNat)).high)) = true →
      (tget {} s.qos.measure (sl.toNat * 4 + c.toNat)).unmet = false →
      ∃ t, exec (.targetUnmet sl c) s = .next t ∧ (tget {} t.qos.measure (sl.toNat * 4 + c.toNat)).unmet = true ∧ t.own = s.own) ∧
    (∀ p : BitVec 4, (s.mp p.toNat).implausible = false → 16 ≤ (s.mp p.toNat).rttBadTicks ∨ 16 ≤ (s.mp p.toNat).qBadTicks →
      ∃ t, exec (.feedbackImplausible p) s = .next t ∧ t.mp p.toNat = { s.mp p.toNat with implausible := true }) ∧
    (∀ p : BitVec 4, (s.mp p.toNat).restore = true → (s.mp p.toNat).trained = true → 16 ≤ (s.mp p.toNat).goodTicks →
      ∃ t, exec (.restoreFeedback p) s = .next t ∧ t.mp p.toNat = { s.mp p.toNat with restore := false, implausible := false }) ∧
    (s.MgOpen false → s.isMirror = false → ∃ t, exec .qosArm s = .next t ∧ t.qos = { s.qos with armed := true }) ∧
    (s.MgOpen false → ∃ t, exec .qosDiscard s = .next t ∧
      t.qos = { s.qos with armed := false, classesStaged := [], slicesStaged := [] }) ∧
    (s.qos.armed = true → s.qos.armTick ≤ s.blk.tick → s.img.lastCommit ≠ s.blk.tick →
      ∃ t, exec .qosApply s = .next t ∧ t.qos.armed = false ∧ t.qos.classesStaged = [] ∧ t.qos.slicesStaged = [] ∧
        t.qos.classes = s.qos.classesStaged.foldl (fun m x => tset {} m x.1 x.2) s.qos.classes ∧
        t.qos.slices = s.qos.slicesStaged.foldl (fun m x => tset {} m x.1 x.2) s.qos.slices ∧
        (t.qos.armResult = 1 ∨ t.qos.armResult = 3) ∧ (s.drives mgPort = true → t.out = s.out ++ [.mgIrq 7]))

/-! ### Memory keys and the vault (07 R229 to R234, 12 R362 to R389) -/

/-- The retirement of a key (07 R231 to R233, R247): the command waits for its boundary, which marks the key RETIRING; a piece of
the walk invalidates the lines of 128 sets under the key, its last piece the mirror entries; at the end, or 32 ticks after the mark,
the material is zeroized and the key QUARANTINED, and 16 ticks later it is FREE. -/
def Obligations.KeyRetirement : Prop :=
  ∀ (s : State) (k : BitVec 13),
    (∀ fn : BitVec 12, s.MgOpen false → s.mpt.keyPending = none →
      ∃ t, exec (.keyRetire k fn) s = .next t ∧ t.mpt = { s.mpt with keyPending := some (1, k.toNat, fn.toNat) } ∧ t.keys = s.keys) ∧
    (∀ fn : BitVec 12, s.MgOpen false → s.mpt.keyPending ≠ none →
      ∃ t, exec (.keyRetire k fn) s = .next t ∧ t.mpt = { s.mpt with keyResult := 4 } ∧ t.keys = s.keys) ∧
    (∀ fn, s.mpt.keyPending = some (1, k.toNat, fn) → s.retireResult 1 k.toNat fn = 0 →
      (s.retireApply.key k.toNat).state = 2 ∧ (s.retireApply.key k.toNat).markTick = s.blk.tick ∧ s.retireApply.mpt.keyPending = none) ∧
    (∀ h : BitVec 8, s.walkKeys h.toNat ≠ [] → s.stopped = false → (s.home h.toNat).role = 0 → s.rw.windows = [] →
      (s.home h.toNat).retireMark = (s.key ((s.walkKeys h.toNat).headD 0)).markTick →
      ((s.home h.toNat).retireTick = s.blk.tick → (s.home h.toNat).retireRun < s.walkLimit h.toNat) →
      ((s.home h.toNat).retireCur < 16 →
        ∃ t, exec (.retireWalkPiece h) s = .next t ∧ (t.home h.toNat).retireCur = (s.home h.toNat).retireCur + 1 ∧
          ∀ l ∈ (t.home h.toNat).lines, (s.home h.toNat).retireCur * 2048 ≤ l.1 → l.1 < ((s.home h.toNat).retireCur + 1) * 2048 →
            l.2.key ∉ s.walkKeys h.toNat) ∧
      ((s.home h.toNat).retireCur = 16 →
        ∃ t, exec (.retireWalkPiece h) s = .next t ∧ ∀ j ∈ s.walkKeys h.toNat, h.toNat ∈ (t.key j).walked)) ∧
    ((s.key k.toNat).state = 2 → (s.key k.toNat).markTick < s.blk.tick → s.retireDone k.toNat = true →
      ∃ t, exec (.keyZeroize k) s = .next t ∧ (t.key k.toNat).state = 3 ∧ (t.key k.toNat).material = 0 ∧ (t.key k.toNat).staging = 0 ∧
        (t.key k.toNat).zeroTick = s.blk.tick ∧ (s.drives mgPort = true → .mgIrq 8 ∈ t.out)) ∧
    ((s.key k.toNat).state = 2 → (s.key k.toNat).markTick + 32 ≤ s.blk.tick →
      ∃ t, exec (.keyRetireForced k) s = .next t ∧ (t.key k.toNat).state = 3 ∧ (t.key k.toNat).material = 0 ∧ (s.drives mgPort = true → .mgIrq 8 ∈ t.out) ∧
        ((s.key k.toNat).fromFn = false → t.mpt.keyResult = 5)) ∧
    ((s.key k.toNat).state = 3 → (s.key k.toNat).zeroTick + 16 ≤ s.blk.tick →
      exec (.keyQuarantineEnd k) s = .next { s with keys := tset {} s.keys k.toNat { loadCount := (s.key k.toNat).loadCount } })

/-- The commands of the vault and its events.
The vault's command registers (12 R387, R388): with none pending a write leaves its operation waiting for the boundary; while one
waits, the write reports BUSY.
What the vault does on its own. A hoofprint that passes its checks starts regeneration, another leaves NO_ROOT; a try that
reproduces the root holds it, the third that fails leaves FAILED, and 16 ticks without supply start the next (12 R363); too few stable
cells end an enrollment with no hoofprint, enough with one (12 R366); a staged key is swapped in with one more load counted
(12 R374); a copy of a slot that the core finds bad is unusable (12 R372); the entropy source fails and passes (12 R376). -/
def Obligations.VaultCommandsAndEvents : Prop :=
  (∀ (s : State) (k : BitVec 13) (fn : BitVec 12) (slot : BitVec 8) (peer : BitVec 4) (gen : BitVec 16), s.MgOpen false →
    (∀ p ∈ [(Instr.allocate k fn, 1), (.replace k fn, 2)],
      (s.vault.keyCmd.pending = none → ∃ t, exec p.1 s = .next t ∧
        t.vault = { s.vault with keyCmd := { s.vault.keyCmd with pending := some (p.2, k.toNat, fn.toNat, 0) } } ∧ t.keys = s.keys) ∧
      (s.vault.keyCmd.pending ≠ none → ∃ t, exec p.1 s = .next t ∧
        t.vault = { s.vault with keyCmd := { s.vault.keyCmd with result := 6 } } ∧ t.keys = s.keys)) ∧
    (∀ p ∈ [(Instr.loadAgreed slot peer gen, 1, slot.toNat, peer.toNat, gen.toNat), (.loadImported slot, 2, slot.toNat, 0, 0),
            (.loadNone slot, 3, slot.toNat, 0, 0)],
      (s.vault.saCmd.pending = none → ∃ t, exec p.1 s = .next t ∧
        t.vault = { s.vault with saCmd := { s.vault.saCmd with pending := some p.2 } } ∧ t.sas = s.sas) ∧
      (s.vault.saCmd.pending ≠ none → ∃ t, exec p.1 s = .next t ∧
        t.vault = { s.vault with saCmd := { s.vault.saCmd with result := 6 } } ∧ t.sas = s.sas)) ∧
    (∀ p ∈ [(Instr.offer peer, 1), (.accept peer, 2), (.forget peer, 3)],
      (s.vault.agreeCmd.pending = none → ∃ t, exec p.1 s = .next t ∧
        t.vault = { s.vault with agreeCmd := { s.vault.agreeCmd with pending := some (p.2, peer.toNat, 0, 0) } }) ∧
      (s.vault.agreeCmd.pending ≠ none → ∃ t, exec p.1 s = .next t ∧
        t.vault = { s.vault with agreeCmd := { s.vault.agreeCmd with result := 6 } })) ∧
    (s.vault.enrolling = none → s.vault.agreeCmd.pending = none →
      ∃ t, exec .enroll s = .next t ∧ t.vault = { s.vault with enrolling := some 0 })) ∧
  (∀ s : State,
    (∀ h, s.vault.state = 0 → s.fawn.fabricGood = true → s.vault.hoofprint = some h →
      (hoofOk h = true → ∃ t, exec .hoofprintReceived s = .next t ∧
        t.vault = { s.vault with state := 1, rootTries := 0, arrayOn := true, tryTick := some s.blk.tick }) ∧
      (hoofOk h = false → ∃ t, exec .hoofprintReceived s = .next t ∧ t.vault = { s.vault with state := 3 })) ∧
    (∀ (resp : BitVec 3577) (h : List Byte), s.vault.state = 1 → s.vault.seed = none → s.vault.arrayOn = true →
      s.vault.hoofprint = some h →
      ∃ t, exec (.rootTry resp) s = .next t ∧ t.vault.rootTries = s.vault.rootTries + 1 ∧
        (∀ r, rootDecode resp (BitVec.ofNat 3577 (leNat (slice h 0x410 448))) = some r → hoofCheck (seedOf r) = slice h 0x5D0 16 →
          t.vault.seed = some (seedOf r) ∧ t.vault.state = 1) ∧
        (rootDecode resp (BitVec.ofNat 3577 (leNat (slice h 0x410 448))) = none →
          t.vault.seed = none ∧ t.vault.arrayOn = false ∧ t.vault.state = (if 3 ≤ s.vault.rootTries + 1 then 4 else 1))) ∧
    (∀ n, s.vault.tryTick = some n → s.vault.state = 1 → s.vault.arrayOn = false → n + 16 ≤ s.blk.tick →
      ∃ t, exec .rootRetry s = .next t ∧ t.vault = { s.vault with arrayOn := true, tryTick := some s.blk.tick }) ∧
    (∀ (stable cells : BitVec 8192) (n : Nat), s.vault.enrolling = some (n + 1) →
      (popCount stable.toNat 8192 < 3577 → ∃ t, exec (.enrollComplete stable cells) s = .next t ∧ t.vault.state = s.vault.state ∧
        t.vault.enrolling = none ∧ t.vault.hoofOut = s.vault.hoofOut) ∧
      (3577 ≤ popCount stable.toNat 8192 → ∃ t, exec (.enrollComplete stable cells) s = .next t ∧ t.vault.state = 5 ∧
        t.vault.enrolling = none ∧ t.vault.agreeCmd.result = 0 ∧ (s.drives mgPort = true → .mgIrq 0x0C ∈ t.out))) ∧
    (∀ k : BitVec 13, (s.key k.toNat).staged = true → (s.key k.toNat).state < 2 →
      ∃ t, exec (.keyLoadSwap k none) s = .next t ∧ (t.key k.toNat).state = 1 ∧ (t.key k.toNat).material = (s.key k.toNat).staging ∧
        (t.key k.toNat).staging = 0 ∧ (t.key k.toNat).staged = false ∧
        (t.key k.toNat).loadCount = ((s.key k.toNat).loadCount + 1) % 65536 ∧ t.own = s.own) ∧
    (∀ (k : BitVec 13) (e : BitVec 4), (s.key k.toNat).staged = true → (s.key k.toNat).state = 1 →
      ∃ t, exec (.keyLoadSwap k (some e)) s = .next t ∧ (t.key k.toNat).state = 1 ∧ (t.key k.toNat).staged = false ∧
        (t.key k.toNat).material = (s.key k.toNat).material) ∧
    (∀ k : BitVec 13, ∃ t, exec (.slotCheckSweep 0 k false false) s = .next t ∧ (t.key k.toNat).unusable = true ∧
      (t.key k.toNat).state = (s.key k.toNat).state) ∧
    (∀ (e : BitVec 5) (k : BitVec 13), exec (.slotCheckSweep e k true false) s = .next s) ∧
    (∃ t, exec .entropyHealthFail s = .next t ∧ t.vault = { s.vault with entropyOk := false }) ∧
    exec .entropyTestsPass s = .next { s with vault := { s.vault with entropyOk := true } })

/-! ### Reduce windows (08 R263 to R274) -/

/-- The three requests of REDUCE_WR (08 R265 to R269). An OPEN that passes every check takes the lowest free window of the die in
OPENING and arms its fence; a contribution with every byte enabled adds its sector to an open window's shadows and is answered OK; a
CLOSE by the function of the window frees it, with reason 1, and is answered OK. -/
def Obligations.ReduceRequests : Prop :=
  ∀ (s : State) (port : BitVec 8) (r : TpReq) (b : Bound), TileTakes s port.toNat 0x18 r b → s.blk.parked = false → s.txns = [] →
    (∀ (w fOut : Nat) (c : RwCtl) (x : Window), r.be = 0 → chipOf r.addr.toNat = s.chip → c = rwCtl r.wdata → c.op = 1 →
      x = { state := 1, slice := b.slice, fn := b.fn, ctx := b.ctx, inFmt := c.inFmt, outFmt := c.outFmt, round := c.round,
            sat := c.sat, count := c.count, fence := c.fence, fenceValue := c.value, base := r.addr.toNat, outBase := c.outBase,
            blocks := c.blocks, deadline := c.deadline, openTick := s.blk.tick, origin := .tile port.toNat r.tag.toNat, keys := s.windowKeys r.addr.toNat c,
            shadows := (List.range c.blocks).map fun i => (i, clearShadow) } →
      s.gate (granOf r.addr.toNat) b.slice (some b.fn) .amo false false = none →
      s.gate (granOf c.outBase) b.slice (some b.fn) .wr false false = none →
      c.reservedOk = true → c.count ≠ 0 → c.blocks ≠ 0 → c.blocks ≤ 65536 → c.inFmt ≤ 6 → c.outFmt ≤ 12 →
      isInt c.inFmt = isInt c.outFmt → fOut = (s.ownAt (granOf c.outBase)).fmt → s.rangesOk x fOut = true →
      (isMx c.outFmt = true → (storeFmt fOut).1 = c.outFmt) → s.meetsWindow x fOut = false →
      s.armStatus b.ctx c.fence = .ok →
      s.shadowsFit x (s.shadowPlaces x) false = true → s.shadowsFit x (s.shadowPlaces x) true = true →
      s.freeWindow (granDie (granOf r.addr.toNat)) = some w →
      (s.rw.windows.filter fun w => w.2.state != 0 && w.2.slice == b.slice).length < tget 16 s.rw.limits b.slice →
      ∃ t, exec (.reduceOpen port r) s = .next t ∧ (t.win w).state = 1 ∧ (t.win w).base = r.addr.toNat ∧ (t.win w).blocks = c.blocks ∧
        (t.win w).count = c.count ∧ (t.win w).shadows = x.shadows ∧ (t.fence c.fence).state = 1 ∧ t.own = s.own) ∧
    (∀ (w h : Nat) (x y : Window) (a : Nat), r.be = BitVec.allOnes 64 → a = r.addr.toNat / 128 * 128 + 64 * flag r.sector →
      chipOf a = s.chip → (s.homeName (lineOf a)).bind s.physOf = some h →
      s.gate (granOf a) b.slice (some b.fn) .amo false false = none → s.windowAt a = some (w, x) → x.state = 2 →
      x.add ((a - x.base) / elemBytes x.inFmt) (sectorVals x.inFmt r.wdata) 1 = some y →
      ∃ t, exec (.reduceContribution port r) s = .next t ∧ t.win w = y ∧ .tileRsp port.toNat r.tag.toNat .ok 0 0 ∈ t.out) ∧
    (∀ (w : Nat) (x : Window), r.be = 0 → chipOf r.addr.toNat = s.chip → (rwCtl r.wdata).op = 2 →
      s.gate (granOf r.addr.toNat) b.slice (some b.fn) .amo false false = none →
      s.rw.windows.find? (fun w => w.2.state != 0 && w.2.base == r.addr.toNat) = some (w, x) → s.win w = x → x.fn = b.fn →
      ∃ t, exec (.reduceClose port r) s = .next t ∧ t.win w = { lastReason := 1 } ∧ .tileRsp port.toNat r.tag.toNat .ok 0 0 ∈ t.out)

/-- The life of a window (08 R268, R270 to R273). OPENING ends, with the answer to its OPEN, once nothing of its range is
being recalled; a window whose half blocks have all reached count converts, here into one line that its home has dirty; with its writes
done it is FREE and its fence is signalled; a deadline that passes frees it with reason 2; a merge entry is forwarded to its window as
one contribution. -/
def Obligations.ReduceWindowLife : Prop :=
  ∀ (s : State) (w : BitVec 11), s.Working →
    (∀ p tag, (s.win w.toNat).state = 1 → s.txns = [] → (s.win w.toNat).origin = .tile p tag →
      s.portUp p = true → (s.tile p).tags.contains tag = true →
      ∃ t, exec (.windowOpened w) s = .next t ∧ t.win w.toNat = { s.win w.toNat with state := 2, recalls := [] } ∧
        .tileRsp p tag .ok 0 0 ∈ t.out) ∧
    (∀ n h k l line d be, (s.win w.toNat).state = 2 → (s.win w.toNat).full = true → s.windowOut w.toNat (s.win w.toNat) = [(line, d, be)] →
      lineChip line = s.chip → s.homeName line = some n → s.physOf n = some h → (s.home h).ownLines.contains (tableLine (lineGran line)) = true →
      s.gate (lineGran line) 0 none .wr false true = none →
      s.stackLost (granPort (lineGran line)) = false → s.moving 0 = false → s.txns = [] → (s.home h).heldSets.contains (fsetOf line) = false →
      s.filt h line = {} → (s.home h).way? line = some (k, l) → l.dirty = true → l.poison = 0 → s.keyLive l.key = true →
      s.mirrored h = true →
      ∃ t, exec (.windowConvert w) s = .next t ∧ (t.win w.toNat).state = 3 ∧ (t.win w.toNat).converted = (s.win w.toNat).blocks ∧
        (t.win w.toNat).writes = [] ∧
        ((t.home h).way? line).map (·.2.data) = some (mergeLine l.data (BitVec.ofNat 1024 d) (BitVec.ofNat 128 be))) ∧
    ((s.win w.toNat).state = 3 → (s.win w.toNat).writes = [] → (s.win w.toNat).redo = [] →
      (s.fence (s.win w.toNat).fence).state = 1 → (s.fence (s.win w.toNat).fence).pending = 1 →
      ∃ t, exec (.windowComplete w) s = .next t ∧
        t.rw.windows = tset {} s.rw.windows w.toNat { lastReason := (s.win w.toNat).lastReason } ∧
        (t.fence (s.win w.toNat).fence).state = 2 ∧ (t.fence (s.win w.toNat).fence).pending = 0 ∧
        (t.fence (s.win w.toNat).fence).value = (if (s.win w.toNat).fenceValue.toNat > (s.fence (s.win w.toNat).fence).value.toNat
          then (s.win w.toNat).fenceValue else (s.fence (s.win w.toNat).fence).value)) ∧
    (s.windowLate (s.win w.toNat) = true →
      ∃ t, exec (.windowDeadline w) s = .next t ∧ t.win w.toNat = { lastReason := 2 }) ∧
    (∀ (die : BitVec 3) (i : BitVec 8) (m : Merge) (v h : Nat) (x y : Window), (tget [] s.rw.merge die.toNat)[i.toNat]? = some m →
      m.fn < 4096 → (s.homeName (lineOf m.addr)).bind s.physOf = some h →
      s.gate (granOf m.addr) m.slice (some m.fn) .amo false false = none → s.windowAt m.addr = some (v, x) → x.state = 2 →
      m.int = isInt x.inFmt → m.vals.length = 512 / elemBits x.inFmt →
      x.add ((m.addr - x.base) / elemBytes x.inFmt) m.vals m.count = some y →
      ∃ t, exec (.mergeForward die i) s = .next t ∧ t.win v = y ∧
        t.rw.merge = tset [] s.rw.merge die.toNat ((tget [] s.rw.merge die.toNat).eraseIdx i.toNat))

/-! ### Jobs (09 R278 to R303) -/

/-- A job can run a piece now (09 R278, R281): it is on an engine, has not ended, its cursor can be read and it has no write to repeat, the block works,
its engine is there and its gate is open. -/
def JobRuns (s : State) (id : Nat) (j : Job) : Prop :=
  s.Working ∧ s.fullHold = false ∧ s.job? id = some j ∧ j.id = id ∧ j.ended = none ∧ j.unread = false ∧ j.redo = [] ∧ j.firstTick.isSome = true ∧
    s.txns = [] ∧ (∃ e, j.engine = some e ∧ (s.engine e).offline = false) ∧
    (s.blk.parked = true → j.tc ≠ 3 ∨ j.aged = some s.blk.tick) ∧ s.jobShut j (s.jobLines j) = false

/-- A job writes a line that its home has dirty and mirrored. -/
def JobWrites (s : State) (j : Job) (a n h : Nat) (l : LlcLine) : Prop :=
  a % 128 + n ≤ 128 ∧ 0 < n ∧ a < 2 ^ 44 ∧ s.filt h (a / 128) = {} ∧ ((s.home h).way? (a / 128)).map (·.2) = some l ∧
    l.dirty = true ∧ l.poison = 0 ∧ s.keyLive l.key = true ∧ s.mirrored h = true ∧ ∃ m, HomeTakes s (a / 128) j.slice j.fn .wr false m h

/-- The bytes from `a` on of a line of a home are `v`, the others as they were in `l`. -/
def Wrote (t : State) (h a n v : Nat) (l : LlcLine) : Prop :=
  ((t.home h).way? (a / 128)).map (·.2.data) = some (mergeLine l.data (BitVec.ofNat 1024 ((v % 2 ^ (8 * n)) <<< (8 * (a % 128))))
    (BitVec.ofNat 128 ((2 ^ n - 1) <<< (a % 128))))

/-- A piece's lines have been read. -/
def Read (s : State) (j : Job) (a n : Nat) : Prop :=
  ∀ l ∈ linesOf a n, lineChip l = s.chip ∧ (mget? j.buf l).isSome = true

/-- The job has gone on to its next unit. -/
def NextUnit (t : State) (id cur : Nat) : Prop := ∃ j, t.job? id = some j ∧ j.cur = cur ∧ j.ended = none

/-- Jobs that write (09 R294, R295, R299, 03 R122): once the lines of a unit have been read, each type writes the bytes the spec gives it
to its destination, here a line that its home has dirty, and goes on to its next unit; what a copy of ranges that overlap writes is left
open (log entry 168). -/
def Obligations.JobsWriteTheirUnits : Prop :=
  ∀ (s : State) (id : Nat) (j : Job) (h : Nat) (l : LlcLine), JobRuns s id j →
    (∀ p ∈ [(Instr.copy id, 0x1), (.rekeyCopy id, 0xA)], ∀ v, dType j.desc = p.2 → j.cur < field (dword j.desc 4) 0 38 / 64 →
      (p.2 = 0xA → s.rekeyOk j (dAddr j.desc 2 + 64 * j.cur) (dAddr j.desc 3 + 64 * j.cur) = true) →
      Read s j (dAddr j.desc 2 + 64 * j.cur) 64 → j.bytes (dAddr j.desc 2 + 64 * j.cur) 64 = (v, false) →
      JobWrites s j (dAddr j.desc 3 + 64 * j.cur) 64 h l →
      ∃ t w, exec p.1 s = .next t ∧ Wrote t h (dAddr j.desc 3 + 64 * j.cur) 64 w l ∧ (j.overlaps = false → w = v) ∧
        NextUnit t id (j.cur + 1)) ∧
    (dType j.desc = 0xB → j.cur < field (dword j.desc 3) 0 38 / 64 → JobWrites s j (dAddr j.desc 2 + 64 * j.cur) 64 h l →
      ∃ t, exec (.zero id) s = .next t ∧ Wrote t h (dAddr j.desc 2 + 64 * j.cur) 64 0 l ∧ NextUnit t id (j.cur + 1)) ∧
    (∀ rs x v src dst, dType j.desc = 0x3 → rs = field (dword j.desc 5) 32 16 → j.cur / rs < field (dword j.desc 5) 0 32 →
      Read s j (dAddr j.desc 3 + 4 * (j.cur / rs)) 4 → j.bytes (dAddr j.desc 3 + 4 * (j.cur / rs)) 4 = (x, false) →
      src = dAddr j.desc 2 + x * 64 * rs + 64 * (j.cur % rs) → dst = dAddr j.desc 4 + 64 * j.cur → src < 2 ^ 44 →
      Read s j src 64 → j.bytes src 64 = (v, false) → JobWrites s j dst 64 h l →
      ∃ t, exec (.gather id) s = .next t ∧ Wrote t h dst 64 v l ∧ NextUnit t id (j.cur + 1)) ∧
    (∀ fi fo src dst v, dType j.desc = 0x2 → fi = field (dword j.desc 4) 32 4 → fo = field (dword j.desc 4) 36 4 →
      isMx fi = false → isMx fo = false → 32 * j.cur + 32 ≤ field (dword j.desc 4) 0 32 →
      src = dAddr j.desc 2 + 32 * j.cur * elemBits fi / 8 → dst = dAddr j.desc 3 + 32 * j.cur * elemBits fo / 8 →
      Read s j src (32 * elemBits fi / 8) → j.bytes src (32 * elemBits fi / 8) = (v, false) →
      JobWrites s j dst (32 * elemBits fo / 8) h l →
      ∃ t, exec (.transcodeCopy id) s = .next t ∧ NextUnit t id (j.cur + 1) ∧
        Wrote t h dst (32 * elemBits fo / 8) (packElems (elemBits fo)
          ((((unpackElems v 0 (elemBits fi) 32).map fun w => if isInt fi then toAcc fi w else toFp32 (elemValue fi w 0)).zip
            (List.range 32)).map fun (v, k) =>
              if isInt fo then convInt fo (dSat j.desc) v else convFloat fo (dSat j.desc) (s.jobRnd j j.cur k) v)) l) ∧
    (∀ dim fo o dst, dType j.desc = 0x5 → dim = field (dword j.desc 6) 0 13 → fo = field (dword j.desc 6) 20 4 →
      field (dword j.desc 6) 24 2 = 0 → j.cur < field (dword j.desc 6) 32 32 →
      Read s j (dAddr j.desc 4 + 4 * j.cur) 8 → j.bytes (dAddr j.desc 4 + 4 * j.cur) 8 = (o, false) → o % 2 ^ 32 ≤ o / 2 ^ 32 →
      j.sub = o / 2 ^ 32 - o % 2 ^ 32 → 0 < j.sub → dst = dAddr j.desc 5 + j.cur * dim * elemBits fo / 8 →
      JobWrites s j dst (dim * elemBits fo / 8) h l →
      ∃ t, exec (.embedBag id) s = .next t ∧ NextUnit t id (j.cur + 1) ∧
        Wrote t h dst (dim * elemBits fo / 8) (packElems (elemBits fo) ((j.acc.zip (List.range dim)).map fun (v, k) =>
          convFloat fo (dSat j.desc) (s.jobRnd j ((j.cur * dim + k) / 32) ((j.cur * dim + k) % 32)) v)) l) ∧
    ((s.seqw j.slice).badMeta = [] → ∀ v q n t0 g dst, dType j.desc = 0x7 → j.cur < field (dword j.desc 4) 0 32 → Read s j (dAddr j.desc 2 + 8 * j.cur) 8 →
      j.bytes (dAddr j.desc 2 + 8 * j.cur) 8 = (q + t0 * 2 ^ 20 + n * 2 ^ 46, false) → q < 2 ^ 18 → t0 < 2 ^ 26 →
      s.seqOk j.slice q = true → ((s.seqw j.slice).seqEnt q).valid = true → t0 + n ≤ ((s.seqw j.slice).seqEnt q).length → j.sub < n →
      (s.seqw j.slice).shift = 0 → g = (s.seqw j.slice).pageEnt q ((t0 + j.sub) / 256) → g.fmt = 0 →
      Read s j (s.pageAddr g.page + (t0 + j.sub) % 256 * 128) 128 →
      j.bytes (s.pageAddr g.page + (t0 + j.sub) % 256 * 128) 128 = (v, false) →
      dst = dAddr j.desc 3 + (j.acc.headD 0).toNat * 128 → JobWrites s j dst 128 h l →
      ∃ t, exec (.kvGather id) s = .next t ∧ Wrote t h dst 128 v l ∧ NextUnit t id j.cur ∧ (t.job? id).map (·.sub) = some (j.sub + 1)) ∧
    (∀ dst, dType j.desc = 0xD → j.cur < field (dword j.desc 3) 0 21 →
      ((List.range (field (dword j.desc 3) 0 21)).all fun k => let e := s.ownAt (field (dword j.desc 2) 0 20 + k)
        e.gstate == 1 && e.fn == j.fn && e.slice == j.slice) = true →
      dst = dAddr j.desc 4 + 4 * j.cur → JobWrites s j dst 4 h l → (s.ownAt (lineGran (dst / 128))).dirtyLog = false →
      ∃ t, exec (.dirtyHarvest id) s = .next t ∧ NextUnit t id (j.cur + 1) ∧
        Wrote t h dst 4 (tget 0 s.dirty (field (dword j.desc 2) 0 20 + j.cur)).toNat l ∧
        t.dirty = tset 0 s.dirty (field (dword j.desc 2) 0 20 + j.cur) 0)

/-- Jobs that add or check. A row of SCATTER_REDUCE is a contribution of count 1 to the window at its destination (09 R294); a row of
EMBED_BAG is added to the bag's sums (09 R295); SCRUB reads the next line past the LLC (07 R244). -/
def Obligations.JobsAddAndCheck : Prop :=
  ∀ (s : State) (id : Nat) (j : Job), JobRuns s id j →
    (∀ rs x v src dst w h y z, dType j.desc = 0x4 → rs = field (dword j.desc 5) 32 16 → j.cur / rs < field (dword j.desc 5) 0 32 →
      Read s j (dAddr j.desc 3 + 4 * (j.cur / rs)) 4 → j.bytes (dAddr j.desc 3 + 4 * (j.cur / rs)) 4 = (x, false) →
      src = dAddr j.desc 2 + 64 * j.cur → Read s j src 64 → j.bytes src 64 = (v, false) →
      dst = dAddr j.desc 4 + x * 64 * rs + 64 * (j.cur % rs) → dst < 2 ^ 44 → chipOf dst = s.chip →
      (s.homeName (lineOf dst)).bind s.physOf = some h → s.gate (granOf dst) j.slice (some j.fn) .amo false false = none →
      s.windowAt dst = some (w, y) → y.state = 2 →
      y.add ((dst - y.base) / elemBytes y.inFmt) (sectorVals y.inFmt (BitVec.ofNat 512 v)) 1 = some z →
      ∃ t, exec (.scatterReduce id) s = .next t ∧ t.win w = z ∧ NextUnit t id (j.cur + 1)) ∧
    (∀ dim ft o x v row, dType j.desc = 0x5 → dim = field (dword j.desc 6) 0 13 → ft = field (dword j.desc 6) 16 4 →
      field (dword j.desc 6) 24 2 = 0 → j.cur < field (dword j.desc 6) 32 32 →
      Read s j (dAddr j.desc 4 + 4 * j.cur) 8 → j.bytes (dAddr j.desc 4 + 4 * j.cur) 8 = (o, false) → o % 2 ^ 32 ≤ o / 2 ^ 32 →
      0 < j.sub → j.sub < o / 2 ^ 32 - o % 2 ^ 32 → Read s j (dAddr j.desc 3 + 4 * (o % 2 ^ 32 + j.sub)) 4 →
      j.bytes (dAddr j.desc 3 + 4 * (o % 2 ^ 32 + j.sub)) 4 = (x, false) → row = dAddr j.desc 2 + x * dim * elemBytes ft →
      row + dim * elemBytes ft ≤ 2 ^ 44 → Read s j row (dim * elemBytes ft) → j.bytes row (dim * elemBytes ft) = (v, false) →
      ∃ t, exec (.embedBag id) s = .next t ∧ NextUnit t id j.cur ∧ (t.job? id).map (·.sub) = some (j.sub + 1) ∧
        (t.job? id).map (·.acc) = some ((j.acc.zip ((unpackElems v 0 (elemBits ft) dim).map (toAcc ft))).map fun (a, v) => fpAdd a v)) ∧
    (∀ line, dType j.desc = 0xC → line = lineOf (dAddr j.desc 2) + j.cur → j.cur < field (dword j.desc 3) 0 38 / 128 →
      s.gate (lineGran line) j.slice (some j.fn) .rd false false = none → s.keyPasses (s.ownAt (lineGran line)).key line = true →
      s.stackLost (granPort (lineGran line)) = false → (s.port (mpPort (granPort (lineGran line)))).state < 2 →
      s.guarded (lineGran line) = false →
      ∃ t, exec (.scrub id) s = .next t ∧ NextUnit t id (j.cur + 1) ∧
        ∃ r ∈ (t.mp (granPort (lineGran line))).tags ++ (t.mp (granPort (lineGran line))).waiting, r.purpose = .scrub id line ∧
          r.line = line ∧ r.mask = 3 ∧ r.write = false)

/-- Sequence jobs that hold their sequences, whose tables can be read (09 R298 to R301). KV_APPEND commits the tokens of a page whose writes are done; KV_AGE
commits the page it has written again; FORK makes the second sequence a copy of the first one's tokens on shared pages; TRUNCATE
leaves the tokens it names. -/
def Obligations.SequenceJobs : Prop :=
  ∀ (s : State) (id : Nat) (j : Job), JobRuns s id j → (s.seqw j.slice).badMeta = [] →
    (∀ q total e n per g page, dType j.desc = 0x6 → q = field (dword j.desc 2) 0 18 → total = field (dword j.desc 4) 0 32 →
      j.holds.contains q = true → e = (s.seqw j.slice).seqEnt q → e.valid = true → per = (s.seqw j.slice).perPage →
      e.length / per < 2048 → j.cur < total → n = min (per - e.length % per) (total - j.cur) →
      g = (s.seqw j.slice).pageEnt q (e.length / per) → tget 0 (s.seqw j.slice).counts g.page ≤ 1 → j.sub = 2 → j.writes = [] →
      page = (match j.seqPage with | some d => d / 2 | none => g.page) →
      ∃ t, exec (.kvAppend id) s = .next t ∧ (t.seqw j.slice).seqEnt q = { e with length := e.length + n } ∧
        (t.seqw j.slice).pageEnt q (e.length / per) = { page := page, valid := true } ∧
        (t.job? id).map (·.cur) = some (j.cur + n)) ∧
    (∀ q e g hp, dType j.desc = 0x8 → q = field (dword j.desc 2) 0 18 → j.holds.contains q = true → e = (s.seqw j.slice).seqEnt q →
      e.valid = true → (j.cur + 1) * (s.seqw j.slice).perPage ≤ e.length - field (dword j.desc 3) 0 26 → j.sub = 2 → j.writes = [] →
      j.seqPage = some hp → g = (s.seqw j.slice).pageEnt q j.cur → 1 ≤ tget 0 (s.seqw j.slice).counts g.page →
      ∃ t, exec (.kvAge id) s = .next t ∧ (t.job? id).map (·.cur) = some (j.cur + 1) ∧
        (t.seqw j.slice).pageEnt q j.cur = { page := hp / 2, half := hp % 2 == 1, fmt := field (dword j.desc 3) 32 4, valid := true }) ∧
    (∀ a tokens e, dType j.desc = 0x9 → a = field (dword j.desc 2) 0 18 → tokens = field (dword j.desc 4) 0 26 →
      j.holds.contains a = true → e = (s.seqw j.slice).seqEnt a → e.valid = true → tokens ≤ e.length → j.seqPage = none →
      (∀ b d k rest, field (dword j.desc 4) 32 2 = 0 → b = field (dword j.desc 3) 0 18 → j.holds.contains b = true → a ≠ b →
        ((s.seqw j.slice).seqEnt b).valid = false → (s.seqw j.slice).free = (d, k) :: rest → k + 16 ≤ s.blk.tick →
        ((List.range ((tokens + (s.seqw j.slice).perPage - 1) / (s.seqw j.slice).perPage)).all fun p =>
          decide (tget 0 (s.seqw j.slice).counts ((s.seqw j.slice).pageEnt a p).page < 65535)) = true →
        ∃ t, exec (.kvFork id) s = .next t ∧ ((t.seqw j.slice).seqEnt b).valid = true ∧ ((t.seqw j.slice).seqEnt b).length = tokens ∧
          ((t.seqw j.slice).seqEnt b).dir = d ∧ (t.job? id).map (·.ended) = some (some 0)) ∧
      (field (dword j.desc 4) 32 2 = 1 → tokens ≠ 0 →
        ∃ t, exec (.kvTruncate id) s = .next t ∧ (t.seqw j.slice).seqEnt a = { e with length := tokens }))

/-- The life of a job and of a sequence window (09 R278, R279, R289, R296, R300). A waiting job starts on the engine R279 picks; an
engine's piece is one unit of the job it picks, by its type; a job that has ended with its accesses done leaves the list; one that
has waited 16 ticks for a page ends with NO_PAGES; OPEN and CLOSE of a sequence window wait for the boundary; a window whose tables are
written is OPEN. -/
def Obligations.JobLife : Prop :=
  ∀ s : State,
    (∀ id j e, s.Working → s.job? id = some j → j.id = id → j.engine = none → j.ended = none → s.pickEngine j = some e →
      ∃ t, exec (.jobStart id) s = .next t ∧ t.job? id = some { j with engine := some e, started := s.blk.tick } ∧ t.own = s.own) ∧
    (∀ (e : BitVec 5) (pick : Nat) (j : Job), s.jobNextOf e.toNat pick = some j → s.job? j.id = some j →
      ∀ p ∈ [(Instr.copy j.id, 0x1), (.transcodeCopy j.id, 0x2), (.gather j.id, 0x3), (.scatterReduce j.id, 0x4), (.embedBag j.id, 0x5),
             (.kvAppend j.id, 0x6), (.kvGather j.id, 0x7), (.kvAge j.id, 0x8), (.rekeyCopy j.id, 0xA), (.zero j.id, 0xB),
             (.scrub j.id, 0xC), (.dirtyHarvest j.id, 0xD)],
        dType j.desc = p.2 → exec (.jobPiece e pick) s = exec p.1 s) ∧
    (∀ id j, s.Working → s.job? id = some j → j.id = id → j.ended = some 0 → j.writes = [] → j.redo = [] → j.reads = [] → j.holds = [] →
      dFenceEn j.desc = true → (s.fence (dFence j.desc)).state = 1 → (s.fence (dFence j.desc)).pending = 1 →
      ∃ t, exec (.jobComplete id) s = .next t ∧ t.job? id = none ∧ (t.fence (dFence j.desc)).state = 2 ∧
        (t.fence (dFence j.desc)).source = 1 ∧ (t.fence (dFence j.desc)).pending = 0) ∧
    (∀ id j k, s.job? id = some j → j.id = id → j.ended = none → j.waitSince = some k → k + 16 ≤ s.blk.tick →
      ∃ t, exec (.pageWaitTimeout id) s = .next t ∧ (t.job? id).map (·.ended) = some (some 9)) ∧
    (∀ sl : BitVec 7, sl ≠ 0 → s.MgOpen false → (s.seqw sl.toNat).pending = none → (s.seqw sl.toNat).state = 0 ∨ (s.seqw sl.toNat).state = 2 →
      ∀ p ∈ [(Instr.seqOpen sl, 1), (.seqClose sl, 2)],
        ∃ t, exec p.1 s = .next t ∧ t.seqw sl.toNat = { s.seqw sl.toNat with pending := some p.2 } ∧ t.own = s.own) ∧
    (∀ sl : BitVec 7, s.Working → (s.seqw sl.toNat).state = 1 →
      (s.seqw sl.toNat).tableLines.1 + (s.seqw sl.toNat).tableLines.2.1 + (s.seqw sl.toNat).tableLines.2.2 ≤ (s.seqw sl.toNat).tab →
      ∃ t, exec (.seqWindowOpened sl) s = .next t ∧ t.seqw sl.toNat = { s.seqw sl.toNat with state := 2 } ∧ (s.drives mgPort = true → t.out = s.out ++ [.mgIrq 9]))

/-! ### Links (10) -/

/-- The block's only connection: receive slot `n` and its return slot `k` in their ACTIVE states, in order of their numbers
(10 R308, R311); the return slot accepts a message (10 R318). -/
def Linked (s : State) (n k : Nat) (a b : SaSt) : Prop :=
  s.sas = [(n, a), (k, b)] ∧ n < k ∧ a.tx = false ∧ a.state = 2 ∧ b.tx = true ∧ b.state = 2 ∧ sameConn a b = true ∧
    b.msgs.length < 8192

/-- Message `m` stands in the ingress buffer at `i` with an op, and its class is not held (06 R197, R198). -/
def MsgTakes (s : State) (i op : Nat) (m : InMsg) : Prop :=
  s.inbox[i]? = some m ∧ m.msg.op.toNat = op ∧ s.stopped = false ∧ s.fatal = false ∧ s.msgHeld m = false

/-- A transmit slot holds a message for its peer. -/
def Sends (t : State) (k : Nat) (msg : LinkMsg) : Prop := ∃ x ∈ (t.sa k).msgs, x.msg = msg

/-- DATA and ACK frames (10 R316, R318, R319). A DATA frame of the network whose one message has the length of its op, in the order
of its connection, puts that message into the ingress buffer; an ACK frame that covers a connection's one message ends its
retention; ACK_SEND acknowledges what a path has received and starts its count again. -/
def Obligations.FramesOfAConnection : Prop :=
  ∀ (s : State), s.stopped = false → s.fatal = false →
    (∀ (k : BitVec 6) (f : Frame) (m : LinkMsg) (n : Nat), s.portUp (lpPort k.toNat) = true → (s.tine k.toNat).state < 4 →
      f.parErr = 0 → f.fcsErr = false → f.version = 1 → f.etype = 0x88B5 → s.blockRec.ethertype = 0 → f.udp = false → f.sec = none →
      s.sas.find? (fun a => (!a.2.tx && (a.2.state == 2 || a.2.state == 3)) && a.2.cipher == 1 && a.2.peer == f.src
        && Nat.testBit a.2.tines.toNat (s.tine k.toNat).carries) = some (n, s.sa n) →
      (s.returnSa n).isSome = true → f.ce = false → (s.tine k.toNat).xoff = 0 → (s.tine k.toNat).xoffBefore = 0 → f.msgs = [m] →
      (s.sa n).kind = 0 → msgOk 0 m = true → s.msnSeen n f.msn.toNat = false → f.msn.toNat < (s.sa n).msn + 8192 →
      (s.sa n).msn ≤ f.msn.toNat →
      ∃ t x, exec (.dataFrameReceive k f) s = .next t ∧ t.inbox = s.inbox ++ [x] ∧ x.msg = m ∧ x.sa = n ∧ x.tine = k.toNat ∧
        x.slice = (s.sa n).slice ∧ x.fn = (s.sa n).fn ∧ x.psn = f.psn.toNat ∧ x.msn = f.msn.toNat ∧ t.paths = s.paths) ∧
    (∀ (k : BitVec 6) (f : Frame) (m : SentMsg) (rs n : Nat), s.portUp (lpPort k.toNat) = true →
      s.judgeFrame k.toNat f = (s, some rs) → s.returnSa rs = some n → (s.sa n).state = 2 → (s.sa n).msgs = [m] → m.sent = true →
      m.path = f.path.toNat → ackCovers f m.psn = true → f.ceCount = 0 →
      ∃ t, exec (.ackReceive k f) s = .next t ∧ t.sas = tset {} s.sas n { s.sa n with msgs := [] } ∧
        t.paths = tset {} s.paths (n * 256 + m.path) { s.pathOf n m.path with retx := 0 }) ∧
    (∀ (n path : BitVec 8) (r k : Nat), (s.pathOf n.toNat path.toNat).sinceAck ≠ 0 → (s.sa n.toNat).tx = false →
      s.returnSa n.toNat = some r → s.ackTine r = some k → (s.tine k).paused = 0 → (s.sa r).cipher = 1 →
      ∃ t f, exec (.ackSend n path) s = .next t ∧ t.out = s.out ++ [.tineTx k f] ∧ f.msgs = [] ∧ f.path = path ∧
        f.psn = BitVec.ofNat 32 ((s.pathOf n.toNat path.toNat).nextPsn + 2 ^ 32 - 1) ∧
        f.msn = BitVec.ofNat 32 ((s.sa n.toNat).msn + 2 ^ 32 - 1) ∧
        f.ceCount = BitVec.ofNat 32 (s.pathOf n.toNat path.toNat).ceCount ∧
        t.paths = tset {} s.paths (n.toNat * 256 + path.toNat)
          { s.pathOf n.toNat path.toNat with sinceAck := 0, ceCount := 0 })

/-- Timers of the transport. A retransmit timeout short of retx_max counts on its path, halves the path's window and sends the message
again on the path that is chosen next (10 R318, R319); a message not acknowledged within transfer_deadline leaves its connection,
and its read is answered TIMEOUT (10 R318); a proxy's snoop past its deadline is answered POISON for a tile that has not
answered (05 R177); a chip silent for remote_ticks poisons the line and its reader is answered POISON (05 R175); a
member silent for 8 ticks leaves the flush (10 R325). -/
def Obligations.TimersOfTheTransport : Prop :=
  ∀ (s : State), s.stopped = false → s.fatal = false →
    (∀ (n : BitVec 8) (msn : BitVec 32) (m : SentMsg) (q : Nat) (p : PathSt),
      (s.sa n.toNat).msgs.find? (fun m => m.msn == msn.toNat && m.sent) = some m → (s.sa n.toNat).state = 2 → m.path < 256 →
      (s.sa n.toNat).cipher = 1 → (s.pathOf n.toNat m.path).retx + 1 < s.retxMax →
      p.retx = (s.pathOf n.toNat m.path).retx + 1 → p.window = max (s.windowOf n.toNat m.path / 2) 16384 →
      p = { s.pathOf n.toNat m.path with retx := p.retx, window := p.window } →
      (s.setPath n.toNat m.path p).choosePath n.toNat m.msg.slice.toNat (msgBytes m.msg) (some m.path) = some q → q < 256 → (s.tine (q % 64)).paused = 0 →
      ∃ t f, exec (.rtoExpiry n msn) s = .next t ∧ t.out = s.out ++ [.tineTx (q % 64) f] ∧ f.msgs = [m.msg] ∧
        f.path.toNat = q ∧ (t.pathOf n.toNat m.path).retx = (s.pathOf n.toNat m.path).retx + 1 ∧
        (q ≠ m.path → t.pathOf n.toNat m.path = p)) ∧
    (∀ (n : BitVec 8) (msn : BitVec 32) (m : SentMsg) (r : RemoteReq) (p tag : Nat),
      (s.sa n.toNat).msgs.find? (fun m => m.msn == msn.toNat && decide (m.first + s.transferDeadline ≤ s.blk.tick)) = some m →
      m.msg.op = 1 → s.remotes = [r] → r.sa = n.toNat → r.xid = m.msg.xid.toNat → r.done = none → r.kind = 0 →
      r.origin = .tile p tag → s.portUp p = true → (s.tile p).tags.contains tag = true →
      ∃ t, exec (.transferDeadlineExpiry n msn) s = .next t ∧ t.remotes = [] ∧ .tileRsp p tag .timeout 0 0 ∈ t.out ∧
        t.sas = tset {} s.sas n.toNat { s.sa n.toNat with msgs := (s.sa n.toNat).msgs.filter (·.msn != m.msn) }) ∧
    (∀ (x : ProxySnoop) (y : Snoop) (n k : Nat) (a b : SaSt), Linked s n k a b → x.sa = n → s.proxies = [x] →
      x.deadline ≤ s.blk.tick + 1 → x.snoops = [y] → (s.port y.port).state = 1 → (s.port y.port).errs < 3 →
      ∃ t, exec (.proxySnoopDeadline x.id) s = .next t ∧ t.proxies = [] ∧
        Sends t k (lineMsg 0x09 0 x.xid (x.line * 128) .ok 0 none 9)) ∧
    (∀ (chip : BitVec 3) (id q tag : Nat) (t : Txn) (n : Snoop), s.portUp q = true → (s.tile q).tags.contains tag = true → s.txns = [t] → t.op = .rdOnce →
      t.origin = .tile q tag → t.phase = .snooping → t.waitLine = none → t.snoops = [n] → n.chip = true → n.port = chip.toNat →
      n.id = id % 65536 → n.since + s.homeTimeout.remoteTicks ≤ s.blk.tick →
      ∃ u, exec (.remoteSnoopTimeout chip id) s = .next u ∧ .tileRsp q tag .poison 0 0 ∈ u.out ∧ u.txns = []) ∧
    (∀ (chip die : BitVec 3) (f : Flush), s.flushes = [f] → f.name / 16 = die.toNat → f.chips = [chip.toNat] → f.start + 8 ≤ s.blk.tick →
      f.set = none → (s.home f.home).filter = [] →
      ∃ t, exec (.remoteFlushTimeout chip die) s = .next t ∧ t.flushes = [{ f with chips := [] }])

/-- Requests that come over a tine, at a home of this chip that takes them (10 R315, R321, R323). READ for RD_ONCE is answered with the
line's data; WRITE merges its enabled bytes into a dirty line and is answered PERFORMED; EVICT of a clean line by the chip that owns it
takes the chip out of the filter and is answered OK; ATOMIC is performed and answered with the old value; a contribution enters
the merge buffer of the die of its tine (08 R273). -/
def Obligations.RequestsOverATine : Prop :=
  ∀ (s : State) (i : Nat) (m : InMsg) (n h k line : Nat) (a b : SaSt), Linked s m.sa k a b → line = lineOf m.msg.addr.toNat →
    (∀ d, MsgTakes s i 0x01 m → m.herd = false → m.msg.sub = 2 → HomeTakes s line m.slice m.fn .rd false n h → s.filt h line = {} →
      s.homeData h line = some (d, 0, 3) → (s.ownAt (lineGran line)).fmt = 0 →
      ∃ t, exec (.readMessage i) s = .next t ∧ m ∉ t.inbox ∧
        Sends t k (lineMsg 0x0A m.slice m.msg.xid.toNat (line * 128) .ok 0 (some d))) ∧
    (∀ w l, MsgTakes s i 0x02 m → m.herd = false → HomeTakes s line m.slice m.fn .wr false n h → s.filt h line = {} →
      (s.home h).way? line = some (w, l) → l.dirty = true → l.poison = 0 → s.keyLive l.key = true → s.mirrored h = true →
      ∃ t, exec (.writeMessage i) s = .next t ∧ m ∉ t.inbox ∧
        Sends t k (lineMsg 0x0B m.slice m.msg.xid.toNat (line * 128) .ok 0 none 0) ∧
        ((t.home h).way? line).map (·.2.data) = some (mergeLine l.data
          (setSector 0 (m.msg.addr.toNat / 64 % 2) (m.msg.data.setWidth 512))
          (BitVec.ofNat 128 (m.msg.be.toNat <<< (64 * (m.msg.addr.toNat / 64 % 2)))))) ∧
    (∀ w l e, MsgTakes s i 0x03 m → m.herd = true → m.msg.sub = 0 →
      HomeTakes s line m.slice (s.ownAt (lineGran line)).fn .none false n h → (s.home h).filter = [(line, e)] → e.st ≥ 3 →
      e.ownerAgent = some (true, m.chip) → (s.home h).way? line = some (w, l) →
      ∃ t, exec (.evictMessage i) s = .next t ∧ m ∉ t.inbox ∧ (t.home h).filter = [] ∧
        (t.home h).way? line = some (w, l) ∧
        Sends t k (lineMsg 0x0A m.slice m.msg.xid.toNat (line * 128) .ok 0 none)) ∧
    (∀ w l x y o size oldv new, MsgTakes s i 0x04 m → m.herd = false → HomeTakes s line m.slice m.fn .amo false n h →
      s.filt h line = {} → (s.home h).way? line = some (w, l) → l.dirty = true → l.poison = 0 → s.keyLive l.key = true →
      s.mirrored h = true → atomOperands (m.msg.data.setWidth 512) = some (x, y, o, size) →
      m.msg.addr.toNat % (if size then 8 else 4) = 0 →
      atomicLine l.data (m.msg.addr.toNat % 128) o size x y = some (oldv, new) →
      ∃ t, exec (.atomicMessage i) s = .next t ∧ m ∉ t.inbox ∧ ((t.home h).way? line).map (·.2.data) = some new ∧
        Sends t k { lineMsg 0x0A m.slice m.msg.xid.toNat (line * 128) .ok 0 (some (BitVec.ofNat 1024 oldv.toNat)) with len := 8 }) ∧
    (MsgTakes s i 0x05 m → m.herd = false → m.msg.sub.toNat ≤ 6 → chipOf m.msg.addr.toNat = s.chip → m.msg.count ≠ 0 →
      tget [] s.rw.merge (m.tine / 8) = [] →
      ∃ t, exec (.contribMessage i) s = .next t ∧ m ∉ t.inbox ∧
        t.rw.merge = tset [] s.rw.merge (m.tine / 8) [⟨m.msg.addr.toNat / 64 * 64, m.slice, m.fn, isInt m.msg.sub.toNat,
          sectorVals m.msg.sub.toNat (m.msg.data.setWidth 512), m.msg.count.toNat, [(m.sa, m.msg.xid.toNat)]⟩])

/-- Answers and control messages that come over a tine (05 R172, R177, 10 R315, R322, R325). SNOOP reaches the tile that owns the
line and opens a proxy's snoop; SNOOP_RESP with the line completes the read that waits for it; RESPONSE answers the tile whose
read it ends; PERFORMED ends a posted write; FLUSH of a die of which no line is held
walks its first three pieces in its tick, and the boundary that ends its walk answers it FLUSH_DONE; FLUSH_DONE takes
the chip out of the flush. -/
def Obligations.AnswersOverATine : Prop :=
  ∀ (s : State) (i : Nat) (m : InMsg) (k line : Nat) (a b : SaSt), Linked s m.sa k a b → line = lineOf m.msg.addr.toNat →
    (∀ h p, MsgTakes s i 0x08 m → m.msg.sub = 2 → lineChip line = m.chip → (s.homeName line).bind s.physOf = some h →
      s.snoopOut h line = false →
      (s.filt h line).ownerAgent = some (false, p) → s.portUp p = true →
      ∃ t id, exec (.snoopMessage i) s = .next t ∧ m ∉ t.inbox ∧ .tileSnp p 2 (s.nextSnoopId p) (line * 128) ∈ t.out ∧
        t.proxies = s.proxies ++ [⟨id, m.sa, m.msg.xid.toNat, h, line, 2, s.deadline16 m.msg.count.toNat, s.blk.tick, m.slice,
          [{ port := p, id := s.nextSnoopId p, ty := 2, since := s.blk.tick }], none, false, false⟩]) ∧
    (∀ x n q tag, MsgTakes s i 0x09 m → m.msg.sub = 8 → s.txns = [x] → x.line = line → x.op = .rdOnce → x.origin = .tile q tag →
      s.portUp q = true → (s.tile q).tags.contains tag = true → x.phase = .snooping → x.got = none → x.poison = 0 → x.fmt = 0 → x.waitLine = none → x.snoops = [n] →
      n.chip = true → n.port = m.chip → n.id = m.msg.xid.toNat → n.ty = 2 → n.missed = false →
      (s.filt x.home line).ownerAgent = some (true, m.chip) → 2 ≤ (s.filt x.home line).st →
      ∃ t, exec (.snoopRespMessage i) s = .next t ∧ m ∉ t.inbox ∧ .tileRsp q tag .ok 0 m.msg.data ∈ t.out ∧ t.txns = []) ∧
    (∀ r p tag, MsgTakes s i 0x0A m → s.remotes = [r] → r.sa = k → r.xid = m.msg.xid.toNat → r.kind = 0 → r.done = none →
      r.origin = .tile p tag → s.portUp p = true →
      (s.tile p).tags.contains tag = true → m.msg.status = 0 →
      ∃ t, exec (.responseMessage i) s = .next t ∧ m ∉ t.inbox ∧ t.remotes = [] ∧ .tileRsp p tag .ok 0 m.msg.data ∈ t.out) ∧
    (∀ r p tag, MsgTakes s i 0x0B m → m.msg.sub = 0 → s.remotes = [r] → r.sa = k → r.xid = m.msg.xid.toNat → r.kind = 1 →
      r.done = none → r.origin = .tile p tag → m.msg.status = 0 →
      ∃ t, exec (.performedMessage i) s = .next t ∧ m ∉ t.inbox ∧ t.remotes = []) ∧
    (MsgTakes s i 0x0C m → s.chipLines m.chip (some (m.msg.sub.toNat % 8)) = [] → s.txns = [] → s.tin.remoteFlushes = [] →
      ∃ t, exec (.flushMessage i) s = .next t ∧ m ∉ t.inbox ∧
        t.tin.remoteFlushes = [{ chip := m.chip, die := m.msg.sub.toNat % 8, sa := m.sa, tick := s.blk.tick, cur := 3 }]) ∧
    (∀ f, s.stopped = false → s.tin.remoteFlushes = [f] → f.sa = m.sa → 1 ≤ f.cur → s.chipLines f.chip (some f.die) = [] → s.txns = [] →
      s.flushTick.tin.remoteFlushes = [] ∧ Sends s.flushTick k (lineMsg 0x0D 0 0 0 .ok 0 none f.die)) ∧
    (∀ f, MsgTakes s i 0x0D m → s.flushes = [f] → f.name / 16 = m.msg.sub.toNat % 8 → f.chips = [m.chip] → f.set = none →
      ∃ t, exec (.flushDoneMessage i) s = .next t ∧ m ∉ t.inbox ∧ t.flushes = [{ f with chips := [] }])

/-- The life of a tine and of the herd's members (10 R326 to R329). A herd tine's link comes up: it sends DISCOVERY and waits for the
peer's; DISCOVERY goes out again every 64 ticks; DISCOVERY from the peer of its record brings it up; none for 192 ticks, or the link's
fall, fails it; a failed tine that has been good for 16 ticks is up again; a member away for 4 ticks is lost, and a read that
waits for it is answered TIMEOUT. -/
def Obligations.TinesAndMembers : Prop :=
  ∀ (s : State) (k : BitVec 6),
    (∀ fast, s.portUp (lpPort k.toNat) = true → (s.tine k.toNat).state < 3 → (s.tineRec k.toNat).use ≠ 3 →
      (s.tineRec k.toNat).speaks = true → (s.tine k.toNat).paused = 0 →
      ∃ t, exec (.linkUpRise k fast) s = .next t ∧ (t.tine k.toNat).linkUp = true ∧ (t.tine k.toNat).state = 1 ∧
        (t.tine k.toNat).fast = fast ∧ t.out = s.out ++ [.discovery k.toNat (s.discovery k.toNat)]) ∧
    ((s.tine k.toNat).linkUp = true → (s.tine k.toNat).state ≠ 4 → (s.tineRec k.toNat).speaks = true →
      (s.tine k.toNat).lastSent + 64 ≤ s.blk.tick → (s.tine k.toNat).paused = 0 →
      ∃ t, exec (.discoverySend k) s = .next t ∧ (t.tine k.toNat).lastSent = s.blk.tick ∧
        t.out = s.out ++ [.discovery k.toNat (s.discovery k.toNat)]) ∧
    (∀ d : Discovery, (s.tineRec k.toNat).herd = true → s.portUp (lpPort k.toNat) = true → (s.tine k.toNat).linkUp = true →
      (s.tine k.toNat).state = 1 → (s.tine k.toNat).carries = k.toNat → d.herdId = s.blockRec.herdId → d.chip.toNat < 8 →
      s.inHerd d.chip.toNat = true → d.chip.toNat ≠ s.chip → d.tine.toNat = (s.tineRec k.toNat).peerTine → d.tine.toNat < 64 →
      d.chip.toNat = (s.tineRec k.toNat).peerChip →
      ∃ t, exec (.discoveryReceive k d) s = .next t ∧ (t.tine k.toNat).state = 2 ∧ (t.tine k.toNat).matching = true ∧
        (t.tine k.toNat).seenChip = d.chip.toNat ∧ (t.tine k.toNat).seenTine = d.tine.toNat ∧
        (t.tine k.toNat).seenTick = s.blk.tick) ∧
    ((s.tine k.toNat).linkUp = true → ((s.tine k.toNat).state = 1 ∨ (s.tine k.toNat).state = 2) →
      (s.tineRec k.toNat).speaks = true → (s.tine k.toNat).seenTick + 192 ≤ s.blk.tick →
      ∃ t, exec (.discoveryTimeout k) s = .next t ∧ (t.tine k.toNat).state = 3 ∧ (t.tine k.toNat).cause = 0x6C) ∧
    ((s.tine k.toNat).linkUp = true → ((s.tine k.toNat).state = 1 ∨ (s.tine k.toNat).state = 2) →
      ∃ t, exec (.linkDown k) s = .next t ∧ (t.tine k.toNat).state = 3 ∧ (t.tine k.toNat).cause = 0xC8 ∧
        (t.tine k.toNat).linkUp = false) ∧
    ((s.tine k.toNat).state = 3 → (s.tine k.toNat).goodTicks ≥ 16 → (s.unit (tinUnit k.toNat)).failed = false →
      (s.unit (tinUnit k.toNat)).offlineAt = none →
      ∃ t, exec (.tineReturn k) s = .next t ∧ (t.tine k.toNat).state = 2 ∧ (t.tine k.toNat).goodTicks = 0) ∧
    (∀ (chip : BitVec 3) (r : RemoteReq) (p tag : Nat), s.inHerd chip.toNat = true → chip.toNat ≠ s.chip →
      tget 0 s.tin.absent chip.toNat ≥ 4 → Nat.testBit s.tin.lost.toNat chip.toNat = false → s.txns = [] → s.flushes = [] →
      (∀ h, h < 136 → (s.home h).filter = []) → s.remotes = [r] → r.chip = chip.toNat → r.done = none → r.kind = 0 →
      r.origin = .tile p tag → s.portUp p = true → (s.tile p).tags.contains tag = true →
      ∃ t, exec (.herdChipLost chip) s = .next t ∧ t.tin.lost = s.tin.lost ||| BitVec.ofNat 8 (1 <<< chip.toNat) ∧
        t.remotes = [] ∧ .tileRsp p tag .timeout 0 0 ∈ t.out)

/-- Tick alignment (10 R330 to R334). A follower asks every 4 ticks; the reference answers at once; an egress stamp gives t1, in
this chip's tick phase; the exchange's last stamp closes it, and (t2 - t1 + t3 - t4) / 2 enters the mean of the last four; an exchange open
after 2 ticks is dropped; a chip without tenants joins the reference's tick, and the lowest member joins alone after 256
ticks. -/
def Obligations.TickAlignment : Prop :=
  ∀ (s : State) (k : BitVec 6) (exch : BitVec 16),
    (∀ c l, s.refOf = some (c, false) → s.timeTo c = some l → s.tin.lastReq + 4 ≤ s.blk.tick → s.txPaused l s.tin.ctlPrio = false →
      ∃ t, exec .timeReqSend s = .next t ∧ t.out = s.out ++ [.timeTx l 1 s.tin.nextExch 0 0 (some (s.tin.nextExch % 256))] ∧ t.tin.lastReq = s.blk.tick ∧
        t.tin.nextExch = (s.tin.nextExch + 1) % 65536 ∧
        t.tin.exchanges = s.tin.exchanges ++ [{ num := s.tin.nextExch, tine := l, tick := s.blk.tick }]) ∧
    (∀ c chip stamp, s.refOf = some (c, true) → s.takesTime k.toNat false = true → s.txPaused k.toNat s.tin.ctlPrio = false →
      ∃ t, exec (.timeReq k exch chip stamp false) s = .next t ∧
        t.out = s.out ++ [.timeTx k.toNat 2 exch.toNat 0 0 (some (exch.toNat % 256))] ∧
        t.tin.answers = s.tin.answers ++ [(exch.toNat, k.toNat, stamp.toNat)]) ∧
    (∀ (id : BitVec 8) stamp (phase : BitVec 10) (e : Exchange), s.tin.answers = [] → s.tin.exchanges = [e] → e.tine = k.toNat →
      e.num % 256 = id.toNat → e.t1 = none → e.t4 = none →
      ∃ t, exec (.egressTimestamp k id stamp phase) s = .next t ∧
        t.tin.exchanges = [{ e with t1 := some (s.blk.tick * 1000 + phase.toNat + field (s.tine k.toNat).latency 0 16) }] ∧
        (t.tine k.toNat).macRel =
          some ((stamp.toNat : Int) - (s.blk.tick * 1000 + phase.toNat + field (s.tine k.toNat).latency 0 16 : Nat))) ∧
    (∀ stamp (e : Exchange) (t1 t2 t3 t4 : Nat) (o r : Int) (l : List Int), s.takesTime k.toNat false = true →
      s.tin.exchanges = [e] →
      e.num = exch.toNat → e.tine = k.toNat → e.t1 = some t1 → e.t2 = some t2 → e.t3 = some t3 → (s.tine k.toNat).macRel = some r →
      t4 = ((stamp.toNat : Int) - r).toNat → o = (((t2 : Int) - t1) + ((t3 : Int) - t4)) / 2 →
      l = (s.tin.offsets ++ [o]).drop (s.tin.offsets.length + 1 - 4) →
      ∃ t, exec (.timeResp k exch stamp false) s = .next t ∧ t.tin.offsets = l ∧ t.tin.exchanges = [] ∧
        t.blk.offsetNs = BitVec.ofInt 16 (meanOffset l) ∧ t.blk.offsetTick = some s.blk.tick) ∧
    (∀ (e : Exchange) (t1 t4 : Nat) (t2 t3 : Reg) (o : Int) (l : List Int), s.takesTime k.toNat false = true →
      s.tin.exchanges = [e] →
      e.num = exch.toNat → e.tine = k.toNat → e.t1 = some t1 → e.t4 = some t4 →
      o = (((t2.toNat : Int) - t1) + ((t3.toNat : Int) - t4)) / 2 →
      l = (s.tin.offsets ++ [o]).drop (s.tin.offsets.length + 1 - 4) →
      ∃ t, exec (.timeFollowUp k exch t2 t3 false) s = .next t ∧ t.tin.offsets = l ∧ t.tin.exchanges = [] ∧
        t.blk.offsetNs = BitVec.ofInt 16 (meanOffset l) ∧ t.blk.offsetTick = some s.blk.tick) ∧
    (∃ t, exec (.timeExchangeTimeout exch) s = .next t ∧
      ∀ e, e ∈ t.tin.exchanges ↔ e ∈ s.tin.exchanges ∧ ¬(e.num = exch.toNat ∧ e.tick + 2 ≤ s.blk.tick)) ∧
    (∀ c (refTick : Reg), s.tin.joined = false → s.refOf = some (c, false) → s.blk.offsetTick ≠ none → s.tenantEnabled = false →
      ∃ t, exec (.chipJoin refTick) s = .next t ∧ t.tin.joined = true ∧ t.blk.tick = refTick.toNat ∧ t.blk.offsetNs = 0) ∧
    (∀ u, s.tin.firstUp = some u → s.tin.joined = false → s.lowestMember = true → s.refOf = none → u + 256 ≤ s.blk.tick →
      ∃ t, exec .joinAlone s = .next t ∧ t.tin.joined = true ∧ t.blk.tick = s.blk.tick)

/-- SA slots (10 R307, R308, R310). The three commands wait for the boundary, one at a time: a second is answered BUSY in the result field;
16 ticks after retiring a slot is QUARANTINED and its key is gone; 16 ticks after that it is FREE with its configuration. -/
def Obligations.SaSlotLife : Prop :=
  ∀ (s : State) (n : BitVec 8),
    (s.MgOpen false → s.tin.saPending = none →
      (∃ t, exec (.saActivate n) s = .next t ∧ t.tin.saPending = some (n.toNat, 1) ∧ t.sas = s.sas ∧ t.out = s.out ++ [.mgRsp s.mgTag .ok 0]) ∧
      (∃ t, exec (.saRetire n) s = .next t ∧ t.tin.saPending = some (n.toNat, 2) ∧ t.sas = s.sas ∧ t.out = s.out ++ [.mgRsp s.mgTag .ok 0]) ∧
      (∃ t, exec (.saRelease n) s = .next t ∧ t.tin.saPending = some (n.toNat, 3) ∧ t.sas = s.sas ∧ t.out = s.out ++ [.mgRsp s.mgTag .ok 0])) ∧
    (s.MgOpen false → s.tin.saPending ≠ none →
      (∃ t, exec (.saActivate n) s = .next t ∧ t.tin.saPending = s.tin.saPending ∧ t.tin.saResult = 6) ∧
      (∃ t, exec (.saRetire n) s = .next t ∧ t.tin.saPending = s.tin.saPending ∧ t.tin.saResult = 6) ∧
      (∃ t, exec (.saRelease n) s = .next t ∧ t.tin.saPending = s.tin.saPending ∧ t.tin.saResult = 6)) ∧
    ((s.sa n.toNat).state = 3 → (s.sa n.toNat).stateTick + 16 ≤ s.blk.tick →
      ∃ t, exec (.saQuarantine n) s = .next t ∧ (t.sa n.toNat).state = 4 ∧ (t.sa n.toNat).material = 0 ∧
        (t.sa n.toNat).cfg = (s.sa n.toNat).cfg) ∧
    ((s.sa n.toNat).state = 4 → (s.sa n.toNat).stateTick + 16 ≤ s.blk.tick →
      ∃ t x, exec (.saFree n) s = .next t ∧ t.sas = tset {} s.sas n.toNat x ∧ x.state = 0 ∧ x.stateTick = s.blk.tick ∧ x.msgs = [] ∧
        x.material = 0 ∧ x.cfg = (s.sa n.toNat).cfg ∧ x.tines = (s.sa n.toNat).tines ∧ x.peer = (s.sa n.toNat).peer ∧
        x.sci = (s.sa n.toNat).sci)

/-! ### Contexts, objects, fences (11) -/

/-- The commands of a function driver on contexts and objects, and what the boundary makes of the first.
The commands of a function driver on its contexts and objects wait for the boundary (11 R339, R340, R344): the arguments are
taken now, the tag is held, nothing is answered; while one is pending a second is answered RETRY and changes nothing of the view.
What a boundary makes of a pending context command (11 R339, 03 R114). LOAD makes an idle context resident in the lowest free slot
and is answered OK; it is REFUSED where the function already has ctx_slots resident; DESTROY frees the entry of an idle context; any
command of a function that is not ENABLED to it is answered by its state and changes no context. -/
def Obligations.ContextAndObjectCommands : Prop :=
  (∀ (s : State) (f : BitVec 12) (tag : BitVec 10) (v : View), s.HostOpen f.toNat tag.toNat → v = s.view f.toNat → s.isMirror = false →
    (∀ c op, (c, op) ∈ [(Instr.ctxCreate f tag, 1), (.ctxLoad f tag, 2), (.ctxUnload f tag, 3), (.ctxAbandon f tag, 4),
        (.ctxDestroy f tag, 5), (.setKey f tag, 6)] →
      (v.ctxPending = none → ∃ t, exec c s = .next t ∧ t.out = s.out ∧ t.hostTags = s.hostTags ++ [(tag.toNat, f.toNat)] ∧
        t.view f.toNat = { v with ctxPending := some (op, v.ctxArg0, v.ctxArg1, tag.toNat) } ∧ t.ctxs = s.ctxs) ∧
      (v.ctxPending ≠ none → ∃ t, exec c s = .next t ∧ t.out = s.out ++ [.hostRsp tag.toNat .retry 0] ∧ t.views = s.views ∧
        t.ctxs = s.ctxs)) ∧
    (∀ (object : BitVec 22) (gen : BitVec 16) c p, (c, p) ∈ [(Instr.objCreate f tag, (1, 0, 0, v.objArg, tag.toNat)),
        (.objFree f tag object gen, (2, object.toNat, gen.toNat, v.objArg, tag.toNat))] →
      (v.objPending = none → ∃ t, exec c s = .next t ∧ t.out = s.out ∧ t.view f.toNat = { v with objPending := some p } ∧
        t.objs = s.objs) ∧
      (v.objPending ≠ none → ∃ t, exec c s = .next t ∧ t.out = s.out ++ [.hostRsp tag.toNat .retry 0] ∧ t.views = s.views ∧
        t.objs = s.objs))) ∧
  (∀ (s : State) (f op tag x : Nat) (a0 a1 : Reg), (s.view f).ctxPending = some (op, a0, a1, tag) → x = field a0 0 16 →
    s.portUp hostPort = true →
    ((s.fnc f).state = 2 → (s.ctx x).fn = f →
      (∀ c, op = 2 → (s.ctx x).state = 1 → s.ctxLost x = false → (s.qsl (s.ctx x).slice).loadRate = 0 →
        s.residentOf f < (s.fnc f).ctxSlots → s.freeSlotNo = some c →
        (s.ctxApply f).ctx x = { s.ctx x with state := 2, slot := c } ∧ (s.ctxApply f).slot c = { ctx := some x } ∧
          .hostRsp tag .ok 0 ∈ (s.ctxApply f).out) ∧
      (op = 2 → (s.ctx x).state = 1 → s.ctxLost x = false → (s.qsl (s.ctx x).slice).loadRate = 0 →
        (s.fnc f).ctxSlots ≤ s.residentOf f →
        (s.ctxApply f).ctxs = s.ctxs ∧ (s.ctxApply f).slots = s.slots ∧ .hostRsp tag .refused 0 ∈ (s.ctxApply f).out) ∧
      (op = 5 → (s.ctx x).state = 1 → 96 ≤ (s.ctx x).slot →
        (s.ctxApply f).ctxs = tset {} s.ctxs x {} ∧ .hostRsp tag .ok 0 ∈ (s.ctxApply f).out)) ∧
    ((s.fnc f).state = 5 ∨ (s.fnc f).state = 6 →
      (s.ctxApply f).ctxs = s.ctxs ∧ (s.ctxApply f).slots = s.slots ∧ .hostRsp tag .lost 0 ∈ (s.ctxApply f).out))

/-- Objects, fences, usage (11 R345, R351, R353 to R355, R357). A freed object with nothing left in a home is FREE and reported; a read
of the reports takes the oldest; arming a kernel fence arms its record; a fence page command waits, one at a time; an
unreadable record is rewritten as a dead ERROR; a usage query waits for the boundary. -/
def Obligations.ObjectsFencesAndUsage : Prop :=
  ∀ (s : State),
    (∀ (o : BitVec 22), (s.obj o.toNat).state = 2 → (s.obj o.toNat).freedAt < s.blk.tick →
      s.rangeQuiet (s.obj o.toNat).first (s.obj o.toNat).count (s.obj o.toNat).freedAt = true →
      ∃ t, exec (.objectDrained o) s = .next t ∧ t.objs = tset {} s.objs o.toNat { gen := (s.obj o.toNat).gen } ∧
        (t.view (s.obj o.toNat).fn).drained.getLast? = some (o.toNat, (s.obj o.toNat).gen) ∧
        t.own = s.own.map fun e => if (s.obj o.toNat).holds e.1 && e.2.gstate == 2 then (e.1, { e.2 with gstate := 1 }) else e) ∧
    (∀ (f : BitVec 12) (tag : BitVec 10), s.HostOpen f.toNat tag.toNat → (s.fnc f.toNat).state ≠ 0 →
      ∃ t, exec (.objDrainedRead f tag) s = .next t ∧
        t.out = s.out ++ [.hostRsp tag.toNat .ok ((s.drainedRead f.toNat).1.setWidth 1024)] ∧
        t.views = tset {} s.views f.toNat { s.view f.toNat with drained := (s.view f.toNat).drained.tail,
                                                                  drainedOverflow := false }) ∧
    (∀ (f : BitVec 12) (tag : BitVec 10) (c : BitVec 7) (fence : BitVec 20) (x : Nat), s.HostOpen f.toNat tag.toNat →
      (s.slot c.toNat).ctx = some x → (s.ctx x).fn = f.toNat → (s.slot c.toNat).armed = false → s.isMirror = false →
      s.ctxLost x = false → s.armStatus x fence.toNat = .ok →
      ∃ t, exec (.kfenceArm f tag c fence) s = .next t ∧ t.out = s.out ++ [.hostRsp tag.toNat .ok 0] ∧
        t.slot c.toNat = { s.slot c.toNat with kfence := fence.toNat, armed := true } ∧
        t.fence fence.toNat = { s.fence fence.toNat with state := 1, armer := x, pending := (s.fence fence.toNat).pending + 1 }) ∧
    (∀ cmd, s.MgOpen false →
      ∃ t, exec (.ctxFpageCmd cmd) s = .next t ∧ t.out = s.out ++ [.mgRsp s.mgTag .ok 0] ∧ t.fpages = s.fpages ∧
        t.ctxWin = (if s.ctxWin.pending = none then { s.ctxWin with pending := some cmd } else { s.ctxWin with result := 6 })) ∧
    (∀ (i : BitVec 20), s.flt.fatal = none →
      ∃ t, exec (.fenceRecordRepair i) s = .next t ∧ i.toNat ∉ t.badFences ∧
        t.fence i.toNat = { s.fence i.toNat with value := fenceDead, state := 3, source := 4, detail := 0x10, pending := 0 }) ∧
    (∀ (f : BitVec 12) (tag : BitVec 10) (ctx : BitVec 16), s.HostOpen f.toNat tag.toNat → (s.fnc f.toNat).state ≠ 0 →
      ∃ t, exec (.usageQuery f tag ctx) s = .next t ∧ t.out = s.out ++ [.hostRsp tag.toNat .ok 0] ∧
        t.view f.toNat = { s.view f.toNat with usageCtx := ctx.toNat, usagePending := true, usageReady := false })

/-! ### Faults and recoveries (13) -/

/-- Messages of the fault machinery (13 R391, R394, R398, R399, R405, R418, R420, R421, 07 R246). A raised kind waits at the aggregator of its unit's
die; the collector takes the oldest, counts its class, keeps it in the history and holds it for its reaction; the counts and a memory
port's error counts are returned and cleared by a read; the alert rises once released. -/
def Obligations.FaultCollector : Prop :=
  ∀ (s : State),
    (∀ (u : BitVec 12) (kind : BitVec 8), s.MgOpen true → s.injectOn = true → (kind.toNat ∈ ceOnly ∨ kind.toNat ∈ cuKinds) →
      (tget [] s.flt.aggs (dieOfUnit u.toNat)).length < 64 →
      ∃ t, exec (.injectRaiseKind u kind) s = .next t ∧ tget [] t.flt.aggs (dieOfUnit u.toNat) = tget [] s.flt.aggs (dieOfUnit u.toNat)
        ++ [mkMsg u.toNat kind.toNat (kindClass kind.toNat) 3 u.toNat 0 0 s.tick32]) ∧
    (∀ (die : BitVec 3) (m : Msg) (q : List Msg), 4 ≤ s.fawn.phase → tget [] s.flt.aggs die.toNat = m :: q →
      (s.kindCfg (msgKind m)).ceLimit = 0 → s.flt.hist = [] → s.flt.handling = [] →
      ∃ t, exec (.faultMessage die) s = .next t ∧ t.flt.aggs = tset [] s.flt.aggs die.toNat q ∧ t.flt.hist = [m] ∧
        t.flt.undeclared = s.flt.undeclared ++ [m] ∧
        (t.flt.ce, t.flt.cu, t.flt.ft) = ((s.flt.countClass (msgClass m)).ce, (s.flt.countClass (msgClass m)).cu,
          (s.flt.countClass (msgClass m)).ft) ∧
        (s.flt.first = none → s.flt.minClass ≤ msgClass m → 1 ≤ msgClass m → t.flt.first.map (·.1) = some m) ∧
        (∀ x, s.flt.first = some x → t.flt.first = some x)) ∧
    (s.flt.low = true → s.flt.hold = false → s.flt.alertTick + 3 ≤ s.blk.tick →
      ∃ t, exec .alertRelease s = .next t ∧ t.flt.low = false ∧ t.flt.cls = 0 ∧ t.out = s.out ++ [.faultPin true 0]) ∧
    (s.MgOpen true →
      ∃ t, exec .alertHoldClear s = .next t ∧ t.flt.hold = (if s.flt.cls = 3 then s.flt.hold else false) ∧ t.flt.low = s.flt.low) ∧
    (s.MgOpen true →
      ∃ t, exec .firstErrorClear s = .next t ∧ t.flt.first = none ∧ t.flt.hist = s.flt.hist) ∧
    (s.MgOpen true →
      ∃ t, exec .fltCountRead s = .next t ∧ t.out = s.out ++ [.mgRsp s.mgTag .ok s.flt.countReg] ∧ t.flt.countReg = 0) ∧
    (∀ p : BitVec 4, s.MgOpen false →
      ∃ t, exec (.mptErrCountRead p) s = .next t ∧ t.out = s.out ++ [.mgRsp s.mgTag .ok (s.mp p.toNat).errReg] ∧
        t.mem = tset {} s.mem p.toNat { s.mp p.toNat with corrected := 0, uncorrectable := 0, tagFailed := 0 }) ∧
    (∀ (u : BitVec 12) (loc : BitVec 36), s.MgOpen true →
      ∃ t, exec (.injectFlipOneBit u loc) s = .next t ∧ t.out = s.out ++ [.mgRsp s.mgTag .ok 0] ∧ t.homes = s.homes ∧ t.flt = s.flt) ∧
    (∀ (u : BitVec 12) (loc : BitVec 36) (h k b : Nat) (l : LlcLine) (c : MirrorEnt), s.MgOpen true → s.injectOn = true → h < 136 →
      u.toNat = hslUnit h → loc.toNat % 256 = 0 → k = loc.toNat / 256 % 2 ^ 20 → k < 32768 →
      mget? (s.home h).lines k = some l → l.dirty = true → s.buddy h = some b → mget? (s.home b).mirror l.line = some c →
      (s.home h).tagErrs.all (fun e => e.1 != k) = true →
      ∃ t, exec (.injectFlipTwoBits u loc) s = .next t ∧
        mget? (t.home h).lines k = some { l with data := c.data, poison := c.poison }) ∧
    (∀ ok, s.flt.dump = 1 →
      ∃ t, exec (.dumpWrite ok) s = .next t ∧ t.flt.dumpOk = (ok && s.blockRec.dumpMib != 0) ∧ t.flt.dumpBytes =
        s.dumpImage.take (if (ok && s.blockRec.dumpMib != 0) = true then s.blockRec.dumpMib * 2 ^ 20 else 65536)) ∧
    (s.flt.dump = 1 → s.flt.dumpBytes ≠ [] →
      ∃ t, exec .dumpComplete s = .next t ∧ t.flt.dump = (if s.flt.dumpOk then 2 else 3) ∧ (s.drives mgPort = true → t.out = s.out ++ [.mgIrq 0x03])) ∧
    (s.MgOpen true →
      ∃ t, exec .fltDumpDataRead s = .next t ∧ t.out = s.out ++ [.mgRsp s.mgTag .ok s.dumpWord] ∧
        t.flt.dumpAddr = (s.flt.dumpAddr + 8) % 2 ^ 32)

/-- Failures and the recoveries their declaration opens (13 R395, R396, R404, R406, R408, R410 to R413). A home slice's failure is
raised; declared, it leaves with its arrays and a spare of R409 is claimed; a lost stack, a failed tine, a key engine and a job
engine each open a record. -/
def Obligations.FailuresAreDeclared : Prop :=
  ∀ (s : State),
    (∀ (u : BitVec 12) (h : Nat), u.toNat = hslUnit h → h < 136 → (s.unit u.toNat).failed = false →
      (tget [] s.flt.aggs (dieOfUnit u.toNat)).length < 64 → ∀ c, c = Instr.heartbeatMissed u ∨ c = .unitCheckFailed u none →
      ∃ t, exec c s = .next t ∧ (t.unit u.toNat).failed = true ∧ tget [] t.flt.aggs (dieOfUnit u.toNat) =
        tget [] s.flt.aggs (dieOfUnit u.toNat) ++ [mkMsg u.toNat 0x4F 1 3 u.toNat 0 0 s.tick32]) ∧
    (∀ (name : BitVec 8) (m : Msg) (h sp : Nat), s.flt.undeclared = [m] → msgKind m = 0x4F → msgClass m = 1 → h < 128 →
      msgUnit m = hslUnit h → (s.home h).role = 0 → name.toNat = h → s.physOf (h ^^^ 1) = none → s.txns = [] → s.flushes = [] →
      s.rw.windows = [] → s.flt.recs = [] → s.flt.waiting = [] → s.findSpare h = some sp →
      ∃ t, exec (.homeSliceRecovery name) s = .next t ∧ (t.home h).role = 4 ∧ (t.home h).lines = [] ∧ (t.recAt 0).state = 1 ∧
        (t.recAt 0).kind = 1 ∧ (t.recAt 0).name = h ∧ (t.recAt 0).spare = some sp ∧ t.flt.undeclared = [] ∧
        (t.home h).epoch = ((s.home h).epoch + 1) % 256) ∧
    (∀ (p : BitVec 4) (r : Nat), s.flt.undeclared = [] → s.stackLost p.toNat = false → (s.port (mpPort p.toNat)).state = 2 →
      s.freeRec = some r → s.txns = [] → s.guardOps = [] → (s.mp p.toNat).tags = [] → (s.mp p.toNat).waiting = [] →
      ∃ t, exec (.stackRecovery p) s = .next t ∧ t.mpt.lostMask = s.mpt.lostMask ||| BitVec.ofNat 16 (1 <<< p.toNat) ∧
        t.recAt r = { state := 1, kind := 2, unit := mptUnit p.toNat, step := 2, startTick := s.tick32 }) ∧
    (∀ (k : BitVec 6) (m : Msg) (r : Nat), s.flt.undeclared = [m] → msgKind m = 0xC8 → msgClass m ≠ 3 → msgUnit m = tinUnit k.toNat →
      s.inRecovery (tinUnit k.toNat) = false → (s.tine k.toNat).state = 3 → (∀ a ∈ s.sas, a.2.msgs = []) → s.freeRec = some r →
      ∃ t, exec (.tineRecovery k) s = .next t ∧ (s.drives mgPort = true → t.out = s.out ++ [.mgIrq 0x02]) ∧
        t.recAt r = { state := 1, kind := 3, unit := tinUnit k.toNat, step := 1, startTick := s.tick32 }) ∧
    (∀ (p : BitVec 4) (m : Msg) (r : Nat), s.flt.undeclared = [m] → msgKind m = 0xAC → msgClass m ≠ 3 →
      msgUnit m = unitId 6 (1 + p.toNat) → s.inRecovery (unitId 6 (1 + p.toNat)) = false → s.engineUp (1 + (p.toNat ^^^ 1)) = true →
      s.freeRec = some r →
      ∃ t, exec (.keyEngineHandover p) s = .next t ∧ (t.unit (unitId 6 (1 + p.toNat))).failed = true ∧
        (t.unit (unitId 6 (1 + p.toNat))).epoch = ((s.unit (unitId 6 (1 + p.toNat))).epoch + 1) % 256 ∧
        t.recAt r = { state := 1, kind := 4, unit := unitId 6 (1 + p.toNat), step := 2, startTick := s.tick32 }) ∧
    (∀ (e : BitVec 5) (m : Msg) (r : Nat), s.flt.undeclared = [m] → msgKind m = 0x54 → msgClass m ≠ 3 →
      msgUnit m = jobUnit e.toNat → (s.engine e.toNat).offline = false → s.startedOn e.toNat = [] → s.freeRec = some r →
      ∃ t, exec (.jobEngineRecovery e) s = .next t ∧ (t.engine e.toNat).offline = true ∧
        t.recAt r = { state := 1, kind := 5, unit := jobUnit e.toNat, step := 1, startTick := s.tick32 })

/-- The rest of a recovery (13 R404, R408, R414, R415). A mirror entry becomes a dirty line of the stand-in; the stand-in serves with an
empty filter once its flush is answered; a recovery past its budget is marked and raises kind 0xC9; OFFLINE and ONLINE wait for the
boundary, one at a time; a tine that goes offline is handed over at its deadline. -/
def Obligations.RecoverySteps : Prop :=
  ∀ (s : State),
    (∀ (r : BitVec 3) (x : Recovery) (sp b line w : Nat) (e : MirrorEnt), s.Working → s.flt.recs = [(r.toNat, x)] → x.state = 1 → x.step = 3 →
      (s.home sp).role = 2 →
      x.spare = some sp → x.cur = 0 → x.left = [line] → s.physOf (x.name ^^^ 1) = some b → sp ≠ b →
      mget? (s.home b).mirror line = some e → s.keyLive e.key = true → s.img.state ≠ 5 → (s.home sp).lines = [] →
      s.pickWay sp (setOf line) e.slice = some w → s.txns = [] →
      ∃ t l, exec (.mirrorCopyPiece r none) s = .next t ∧ (t.recAt r.toNat).left = [] ∧
        mget? (t.home sp).lines (setOf line * 16 + w) = some l ∧ l.line = line ∧ l.data = e.data ∧ l.poison = e.poison ∧
        l.dirty = true ∧ l.key = e.key) ∧
    (∀ (r : BitVec 3) (x : Recovery) (sp : Nat) (f : Flush), s.Working → s.flt.recs = [(r.toNat, x)] → x.state = 1 → x.step = 4 →
      x.spare = some sp → (s.home sp).role = 2 → s.flushes = [f] → f.standIn = true → f.name = x.name → f.ports = [] → f.chips = [] →
      ∃ t, exec (.standInServe r) s = .next t ∧ (t.home sp).filter = [] ∧ (t.home sp).role = 2 ∧ (t.recAt r.toNat).state = 3 ∧
        t.flushes = []) ∧
    (∀ (r : BitVec 3), (s.recAt r.toNat).state = 1 → (s.recAt r.toNat).overrun = false →
      (s.recAt r.toNat).budget ≤ (s.recAt r.toNat).age → (tget [] s.flt.aggs (dieOfUnit fltUnit)).length < 64 →
      ∃ t, exec (.recoveryOverrun r) s = .next t ∧ t.recAt r.toNat = { s.recAt r.toNat with overrun := true } ∧
        tget [] t.flt.aggs (dieOfUnit fltUnit) = tget [] s.flt.aggs (dieOfUnit fltUnit)
          ++ [mkMsg fltUnit 0xC9 2 3 (s.recAt r.toNat).unit 0 0 s.tick32]) ∧
    (∀ (u : BitVec 12) c op, s.MgOpen true → (c, op) ∈ [(Instr.offline u, 1), (.online u, 2)] →
      (s.flt.unitCmd = none → s.flt.unitRunning = false →
        ∃ t, exec c s = .next t ∧ t.flt.unitCmd = some (op, u.toNat) ∧ t.units = s.units) ∧
      (s.flt.unitCmd ≠ none ∨ s.flt.unitRunning = true →
        ∃ t, exec c s = .next t ∧ t.flt.unitCmd = s.flt.unitCmd ∧ t.flt.unitResult = 6)) ∧
    (∀ (u : BitVec 12) (r : Nat) (x : Recovery), s.Working → s.flt.recs = [(r, x)] → x.unit = u.toNat → x.kind = 6 → x.step = 1 →
      x.state = 1 → 8 ≤ x.age → u.toNat / 256 = 3 → (∀ a ∈ s.sas, a.2.msgs = []) →
      ∃ t, exec (.offlineDeadline u) s = .next t ∧ t.recAt r = { x with step := 2 } ∧ t.out = s.out)

/-! ### Fawn (14), power control (02 R78), removal (16 R484) -/

/-- The phases of a cold start (14 R431, R436, R437, R439, 16 R484). A power-on reset leaves Fawn at its reset values; with the boot store read the
fabric's supply is asked for; when it is good fclk is at point 8, the tick counter runs from 0 and every strap that reads 0 makes its
port absent; late, it is asked for again; a self-test without a failure ends in phase 4, the writes of INITIALIZING in
SERVICE with vector 0x0D. -/
def Obligations.ColdStart : Prop :=
  ∀ (s : State),
    (∃ t, exec .fawnPowerOnReset s = .next t ∧ t.fawn = {} ∧ t.flt = { first := s.flt.first } ∧ t.own = [] ∧ t.keys = State.reset.keys ∧
      t.blk = { timebaseOk := true } ∧ t.pending = s.pending) ∧
    (∀ b, s.fawn.phase ≤ 1 → s.blk.power ≠ 3 → s.fawn.fabricGood = false →
      ∃ t, exec (.bootStoreRead b) s = .next t ∧ t.fawn.phase = 2 ∧ ((s.port pcPort).state ≠ 2 → t.out.getLast? = some (.powerReq 2 0)) ∧
        t.fawn.bootStoreOk = (b.sfdpOk && b.hoofprint.isSome && b.repair.isSome && b.chain.isSome)) ∧
    (∀ tp mp lp, s.fawn.phase = 2 →
      ∃ t, exec (.fabricGood tp mp lp) s = .next t ∧ t.fawn.phase = 3 ∧ t.fawn.fabricGood = true ∧ t.blk.fclkPoint = 8 ∧ t.blk.tick = 0 ∧
        t.blk.tickRunning = s.blk.timebaseOk ∧ (∀ i, i < 256 → tp.getLsbD i = false → (t.port i).state = 3)) ∧
    (s.fawn.phase = 2 → s.fawn.fabricGood = false →
      ∃ t, exec .fabricGoodTimeout s = .next t ∧ t.fawn.phase = 2 ∧
        ((s.port pcPort).state ≠ 2 → t.out.getLast? = some (.powerReq 2 0))) ∧
    (s.fawn.phase = 3 → s.fawn.boot.repair = none →
      ∃ t, exec (.selfTestComplete []) s = .next t ∧ t.fawn.phase = 4 ∧ t.homes = s.homes) ∧
    (s.fawn.phase = 6 → s.fatal = false → s.blockRec.pairRole = 0 →
      ∃ t, exec .initializationComplete s = .next t ∧ t.fawn.phase = 7 ∧ t.fawn.booted = true ∧ t.fawn.serviceTick = s.tick32 ∧
        (s.drives mgPort = true → t.out.getLast? = some (.mgIrq 0x0D)))

/-- Fawn's firmware (14 R427, R433 to R435). OPEN, data, CLOSE and the checks lead to VALID or to EMPTY with the failing check; START runs
a first image in PROBATION, ARM and CANCEL hold a later one for its tick, the handover runs it; its first heartbeat ends PROBATION;
16 ticks without one revert; firmware out of PROBATION that is silent raises kind 0xEA. -/
def Obligations.Firmware : Prop :=
  ∀ (s : State),
    (s.MgOpen true →
      (s.fawn.fwState = 0 ∨ s.fawn.fwState = 3 →
        ∃ t, exec .fwOpen s = .next t ∧ t.fawn.fwState = 1 ∧ t.fawn.staging = [] ∧ t.fawn.fwResult = s.fawn.fwResult) ∧
      (∀ d : Reg, s.fawn.fwState = 1 → s.fawn.staging.length + 8 ≤ 65536 →
        ∃ t, exec (.fwData d) s = .next t ∧ t.fawn.staging = s.fawn.staging ++ leBytes d.toNat 8 ∧ t.fawn.fwState = 1) ∧
      (s.fawn.fwState = 1 →
        ∃ t, exec .fwClose s = .next t ∧ t.fawn.fwState = 2 ∧ t.fawn.staging = s.fawn.staging) ∧
      (s.fawn.fwState = 3 → s.fawn.phase = 4 →
        ∃ t, exec .fwStart s = .next t ∧ t.fawn.fwState = 5 ∧ t.fawn.phase = 5 ∧ t.fawn.running = true ∧
          t.fawn.fwDigest = s.fawn.stagedDigest) ∧
      (s.fawn.fwState = 3 → s.fawn.phase = 7 → s.blk.tick + 2 ≤ s.fawn.fwTick →
        ∃ t, exec .fwArm s = .next t ∧ t.fawn.fwState = 4 ∧ t.fawn.fwDigest = s.fawn.fwDigest) ∧
      (s.fawn.fwState = 4 →
        ∃ t, exec .fwCancel s = .next t ∧ t.fawn.fwState = 3 ∧ t.fawn.fwResult = 7 ∧ t.fawn.fwDigest = s.fawn.fwDigest)) ∧
    (s.fawn.fwState = 2 →
      (fwFault s.fawn.staging = none →
        ∃ t, exec .fwCheckComplete s = .next t ∧ t.fawn.fwState = 3 ∧ t.fawn.fwResult = 0 ∧ t.fawn.stagedDigest =
          BitVec.ofNat 384 (leNat (s.fawn.staging.drop (s.fawn.staging.length - 48)))) ∧
      (∀ r, fwFault s.fawn.staging = some r →
        ∃ t, exec .fwCheckComplete s = .next t ∧ t.fawn.fwState = 0 ∧ t.fawn.fwResult = r ∧ t.fawn.staging = [])) ∧
    (s.fawn.fwState = 4 → s.fawn.fwTick ≤ s.blk.tick →
      ∃ t, exec .fwHandover s = .next t ∧ t.fawn.fwState = 5 ∧ t.fawn.fwDigest = s.fawn.stagedDigest ∧
        t.fawn.prevDigest = some s.fawn.fwDigest ∧ t.fawn.area = !s.fawn.area) ∧
    (s.fawn.running = true →
      ∃ t, exec .fawnHeartbeat s = .next t ∧ t.fawn.beat = true ∧
        t.fawn.fwState = (if s.fawn.fwState = 5 then 0 else s.fawn.fwState) ∧
        t.fawn.fwGen = (if s.fawn.fwState = 5 then (s.fawn.fwGen + 1) % 65536 else s.fawn.fwGen)) ∧
    (∀ d, s.fawn.fwState = 5 → 16 ≤ s.fawn.missed → s.fawn.prevDigest = some d →
      ∃ t, exec .fwRevert s = .next t ∧ t.fawn.fwState = 0 ∧ t.fawn.fwResult = 6 ∧ t.fawn.running = false ∧
        t.fawn.revertPending = true) ∧
    (s.fawn.running = true → s.fawn.fwState ≠ 5 → 16 ≤ s.fawn.missed → (tget [] s.flt.aggs (dieOfUnit fwnUnit)).length < 64 →
      ∃ t, exec .fawnFailed s = .next t ∧ t.fawn.running = false ∧ tget [] t.flt.aggs (dieOfUnit fwnUnit) =
        tget [] s.flt.aggs (dieOfUnit fwnUnit) ++ [mkMsg fwnUnit 0xEA 3 0 0 0 0 s.tick32])

/-- Power (01 R34, R46, R47, 02 R78, 14 R440 to R442, 16 R484). A request for Doze or Standby waits for its boundary; an entry whose memory
controllers have all acknowledged goes on, one that lacks an acknowledgement is refused; a wake source wakes Doze with the supply and fclk
and Standby into BOOT_STORE; the wake ends with vector 0x0F; the point that op 0 asks for is driven at a boundary at which the
change may start (01 R35), each other power-control op drives its request; removal leaves the
block Off. -/
def Obligations.PowerStates : Prop :=
  ∀ (s : State),
    (s.MgOpen false →
      (∃ t, exec .dozeRequest s = .next t ∧ t.blk.powerRequest = 1 ∧ t.blk.powerPending = true ∧ t.blk.power = s.blk.power) ∧
      (∃ t, exec .standbyRequest s = .next t ∧ t.blk.powerRequest = 0 ∧ t.blk.powerPending = true ∧ t.blk.power = s.blk.power)) ∧
    (∀ (acks : BitVec 16) e, s.fawn.dozeAt = some e → s.fawn.standby = false → e + 4 ≤ s.blk.tick →
      ((∀ k, k < 16 → s.portUp (mpPort k) = true → (s.mp k).srReq = true ∧ acks.getLsbD k = true) →
        ∃ t, exec (.dozeSelfRefreshCheck acks) s = .next t ∧ t.fawn.dozeAt = some e ∧
          ∀ k, k < 16 → (s.mp k).srReq = true → (t.mp k).srAck = acks.getLsbD k) ∧
      (∀ k, k < 16 → s.portUp (mpPort k) = true → (s.mp k).srReq = true → acks.getLsbD k = false →
        ∃ t, exec (.dozeSelfRefreshCheck acks) s = .next t ∧ t.fawn.dozeAt = none ∧ t.blk.requestRefused = true)) ∧
    (∀ src, s.wakeEnabled src = true → s.blk.power = 1 → s.fawn.waking = none → (s.port pcPort).state ≠ 2 →
      ∃ t, exec (.wake src) s = .next t ∧ t.fawn.waking = some s.blk.tick ∧ t.blk.powerRequest = 2 ∧ .powerReq 2 0 ∈ t.out ∧
        t.blk.fclkChange = some (if s.blk.parked then 8
          else max s.blk.fclkLimit (max s.fawn.entryPoint (s.blk.fclkWanted.getD 0)))) ∧
    (∀ src, s.wakeEnabled src = true → s.blk.power = 0 →
      ∃ t, exec (.wake src) s = .next t ∧ t.fawn.phase = 1 ∧ t.blk.power = 2) ∧
    (∀ trained, s.blk.power = 1 → s.fawn.waking ≠ none → s.blk.fclkChange = none →
      ∃ t, exec (.wakeComplete trained) s = .next t ∧ t.blk.power = 2 ∧ t.fawn.waking = none ∧ (s.drives mgPort = true → .mgIrq 0x0F ∈ t.out)) ∧
    (∀ arg : BitVec 4, s.pointOk arg.toNat = true → s.blk.power ≠ 3 →
      exec (.fclkPoint arg) s = .next { s with blk := { s.blk with fclkWanted := some arg.toNat } }) ∧
    (∀ p, s.blk.fclkWanted = some p → s.pointOk p = true → p ≠ s.blk.fclkPoint → s.mayChange = true →
      s.fclkBoundary.blk = { s.blk with fclkChange := some p, fclkSince := s.blk.tick, fclkWanted := none } ∧
        s.fclkBoundary.fawn.fclkStable = false ∧ .powerReq 0 p ∈ s.fclkBoundary.out) ∧
    (∀ c op, (c, op) ∈ [(Instr.fabricRetention, 1), (.fabricNominal, 2), (.fabricOff, 3), (.supplyRemove, 4)] →
      s.blk.power ≠ 3 → s.fawn.pcReg ≠ op → (s.port pcPort).state ≠ 2 →
      ∃ t, exec c s = .next t ∧ t.out = s.out ++ [.powerReq op 0] ∧ t.fawn.pcReg = op) ∧
    (∃ t, exec .powerRemoval s = .next t ∧ t.blk = { power := 3 } ∧ t.fawn = State.reset.fawn ∧ t.own = [] ∧ t.keys = State.reset.keys ∧
      t.pending = s.pending ∧ t.out = s.out)

/-! ### The mirrored pair (14 R445 to R456) -/

/-- The pair SA `a` can send a MIRROR frame on tine `k` now (10 R309, R317). -/
def PairSends (s : State) (k a : Nat) : Prop :=
  s.txPaused k s.tin.ctlPrio = false ∧ ((s.sa a).cipher = 1 ∨ (s.sa a).pn + 1 < 2 ^ 64)

/-- The pair. SYNC and TAKEOVER wait for the boundary, one at a time; the primary sends its oldest closed set; a frame of a later set reaches the
mirror's receive queue and the primary's is its acknowledgement; the mirror applies the next complete set and acknowledges it; six
ticks behind, the mirror raises kind 0x90 once; five ticks after the last frame or set the partner is lost (14 R447, R448, R451, R456). -/
def Obligations.MirroredPair : Prop :=
  ∀ (s : State),
    (∀ c op, s.MgOpen false → (c, op) ∈ [(Instr.pairSync, 1), (.pairTakeover, 2)] →
      (s.pair.pending = none → ∃ t, exec c s = .next t ∧ t.pair = { s.pair with pending := some op } ∧ t.out = s.out ++ [.mgRsp s.mgTag .ok 0]) ∧
      (s.pair.pending ≠ none → ∃ t, exec c s = .next t ∧ t.pair = { s.pair with result := 6 })) ∧
    (∀ n r rest k a, s.mirroring = true → s.mirrorTines = [k] → s.pairSaUp true = true → s.pairSa = some a → PairSends s k a →
      s.pair.changes = (n, [r]) :: rest → n < s.blk.tick →
      ∃ t g f, exec .mirrorSetSend s = .next t ∧ t.out = s.out ++ [.tineTx k g] ∧ g.mirror = some f ∧ f.setTick = BitVec.ofNat 64 n ∧
        f.recs = [r] ∧ f.last = true ∧ t.pair.changes = rest ∧ t.pair.sentTick = n) ∧
    (∀ (k : BitVec 6) (g : Frame) (f : MirrorFrame) (n : Nat), s.judgeFrame k.toNat g = (s, some n) → g.mirror = some f →
      (s.sa n).kind = 2 → s.mirrorTines.contains k.toNat = true → s.fatal = false →
      (s.blockRec.pairRole = 1 → s.pair.state = 3 →
        ∃ t, exec (.mirrorFrame k g) s = .next t ∧ t.pair.partnerState = f.senderState.toNat ∧ t.pair.lastFrameTick = s.blk.tick ∧
          t.pair.lastSet = max s.pair.lastSet f.setTick.toNat ∧ t.pair.state = 3 ∧ t.own = s.own) ∧
      (s.blockRec.pairRole = 2 → s.pair.state = 3 → s.pair.lastSet < f.setTick.toNat → s.pair.rxSets = [] → f.last = true → f.index = 0 →
        ∃ t x, exec (.mirrorFrame k g) s = .next t ∧ t.pair.rxSets = [x] ∧ x.tick = f.setTick.toNat ∧ x.frames = [(0, f.recs)] ∧
          x.lastIndex = some 0 ∧ t.pair.lastSetTick = s.blk.tick ∧ t.pair.lastFrameTick = s.blk.tick)) ∧
    (∀ x k, s.blockRec.pairRole = 2 → s.pair.state = 3 → s.pair.sweeping = false → s.pair.rxSets = [x] → x.tick = s.pair.lastSet + 1 →
      x.complete = true → x.ends = false → x.recs = [] → s.mirrorTines = [k] → (∀ a, s.pairSa = some a → PairSends s k a) →
      s.pairSa.isSome = true →
      ∃ t g f, exec .mirrorSetApply s = .next t ∧ t.pair.lastSet = x.tick ∧ t.pair.rxSets = [] ∧ t.out = s.out ++ [.tineTx k g] ∧
        g.mirror = some f ∧ f.setTick = BitVec.ofNat 64 x.tick ∧ t.own = s.own) ∧
    (s.blockRec.pairRole = 2 → s.pair.state = 3 → s.pair.lastSet + 6 ≤ s.blk.tick → s.pair.lagRaised = false →
      (tget [] s.flt.aggs (dieOfUnit pairUnit)).length < 64 →
      ∃ t, exec .pairMirrorLag s = .next t ∧ t.pair.lagRaised = true ∧ tget [] t.flt.aggs (dieOfUnit pairUnit) =
        tget [] s.flt.aggs (dieOfUnit pairUnit) ++ [mkMsg pairUnit 0x90 1 0 0 0 0 s.tick32]) ∧
    (s.pair.state = 3 →
      (s.blockRec.pairRole = 1 → s.pair.lastFrameTick + 5 ≤ s.blk.tick →
        ∃ t, exec .pairPartnerLost s = .next t ∧ t.pair.state = 4 ∧ t.pair.changes = [] ∧ (s.drives mgPort = true → .mgIrq 0x0E ∈ t.out)) ∧
      (s.blockRec.pairRole = 2 → s.pair.lastSetTick + 5 ≤ s.blk.tick →
        ∃ t, exec .pairPartnerLost s = .next t ∧ t.pair.state = 5 ∧ t.pair.rxSets = [] ∧ (s.drives mgPort = true → .mgIrq 0x0E ∈ t.out)))

/-! ### Traces, graphs, stops, registers (15, 16) -/

/-- Traces, the wait-for graph and the global stop.
Traces and the wait-for graph (15 R465 to R469, R476, R477). A write of a slot's trace control waits for the boundary; four records of a
slot make one line, written to its home, and the offset advances by 128; a graph is asked for, becomes ready with vector 0x11,
and is read 8 bytes at a time.
Global stops (15 R471 to R475, R477). A trigger that has fired stops the block in SERVICE, with vector 0x10, and is refused
elsewhere, which disarms every trigger; the stop settles; RESUME is kept for the next boundary; max_ticks release it; DISARM
clears every enable. -/
def Obligations.TracesGraphsAndStops : Prop :=
  (∀ (s : State),
    (∀ (f : BitVec 12) (tag : BitVec 10) (c : BitVec 7) (ctrl : Reg) (x : Nat), s.HostOpen f.toNat tag.toNat →
      s.slotOf f.toNat c.toNat = some x →
      ∃ t, exec (.traceEnable f tag c ctrl) s = .next t ∧ t.out = s.out ++ [.hostRsp tag.toNat .ok 0] ∧
        (t.slot c.toNat).ctx = (s.slot c.toNat).ctx ∧ (t.slot c.toNat).trace.enabling = bit ctrl.toNat 0 ∧
        (t.slot c.toNat).trace.enable = bit ctrl.toNat 0 ∧ (t.slot c.toNat).trace.sizeLog2 = field ctrl 3 5 ∧
        (t.slot c.toNat).trace.vec = field ctrl 8 11) ∧
    (∀ (c : BitVec 7) (a b d e : TraceRec) (x n h w line : Nat) (l : LlcLine), s.Working → (s.slot c.toNat).ctx = some x →
      (s.slot c.toNat).trace.on = true → s.sink = [a, b, d, e] → (∀ r ∈ s.sink, r.slot = c.toNat) →
      (s.slot c.toNat).trace.offset + 128 < 2 ^ (s.slot c.toNat).trace.sizeLog2 →
      line = lineOf ((s.slot c.toNat).trace.base + (s.slot c.toNat).trace.offset) →
      HomeTakes s line (s.ctx x).slice (s.ctx x).fn .wr false n h → s.filt h line = {} → (s.home h).way? line = some (w, l) →
      l.dirty = true → l.poison = 0 → s.keyLive l.key = true → s.mirrored h = true →
      ∃ t, exec (.traceLineWrite c) s = .next t ∧ t.sink = [] ∧
        (t.slot c.toNat).trace.offset = (s.slot c.toNat).trace.offset + 128 ∧
        ((t.home h).way? line).map (·.2.data) = some (BitVec.ofNat 1024
          (a.num + b.num <<< 256 + d.num <<< 512 + e.num <<< 768))) ∧
    (s.MgOpen false → s.inService = true → s.flt.dump ≠ 3 →
      ∃ t, exec .wfgAssemble s = .next t ∧ t.obs = { s.obs with wfgPending := true } ∧ t.out = s.out ++ [.mgRsp s.mgTag .ok 0]) ∧
    (s.obs.wfgState = 1 →
      ∃ t, exec .wfgReady s = .next t ∧ t.obs = { s.obs with wfgState := 2 } ∧ (s.drives mgPort = true → t.out = s.out ++ [.mgIrq 0x11])) ∧
    (s.MgOpen false →
      ∃ t, exec .obsWfgDataRead s = .next t ∧ t.out = s.out ++ [.mgRsp s.mgTag .ok (BitVec.ofNat 64 (leAt s.obs.wfg s.obs.wfgAddr 8))] ∧
        t.obs = { s.obs with wfgAddr := (s.obs.wfgAddr + 8) % 65536 })) ∧
  (∀ (s : State),
    (s.stopFires = true → s.fatal = false → s.inService = true →
      ∃ t, exec .globalStop s = .next t ∧ t.obs.stopState = 2 ∧ t.obs.stopAt = s.blk.tick ∧ t.obs.fired = false ∧
        (s.drives mgPort = true → t.out.getLast? = some (.mgIrq 0x10))) ∧
    (s.stopFires = true → s.fatal = true ∨ s.inService = false →
      ∃ t, exec .globalStop s = .next t ∧ t.obs.stopState = 0 ∧ t.obs.stopRefused = true ∧ t.obs.tickEn = false ∧
        t.obs.faultEn = false ∧ t.obs.markerEn = false ∧ t.out = s.out) ∧
    (s.obs.stopState = 2 →
      ∃ t, exec .stopSettled s = .next t ∧ t.obs = { s.obs with stopState := 3 } ∧ t.out = s.out) ∧
    (s.MgOpen false → s.stopped = true →
      ∃ t, exec .stopResume s = .next t ∧ t.obs = { s.obs with resume := true } ∧ t.out = s.out ++ [.mgRsp s.mgTag .ok 0]) ∧
    (s.stopExpired = true → s.obs.landed = [] →
      ∃ t, exec .stopMaxTicks s = .next t ∧ t.obs.stopState = s.obs.rest ∧ t.obs.resume = false ∧
        (s.drives mgPort = true → t.out.getLast? = some (.mgIrq 0x10))) ∧
    (s.MgOpen false →
      ∃ t, exec .stopDisarm s = .next t ∧ t.obs.tickEn = false ∧ t.obs.faultEn = false ∧ t.obs.markerEn = false ∧
        t.obs.stopState = (if 2 ≤ s.obs.stopState then s.obs.stopState else 0) ∧ t.out = s.out ++ [.mgRsp s.mgTag .ok 0]))

/-- REGISTER_WRITE (00 R4, R5, R10, R11, 02 R70, R83, 14 R426, R438, 16 R482, R483). A transfer of the driver is answered under its tag:
an aligned write of 64 bits acts and is answered OK (of BLK_CLOCK: fclk_limit_point takes its field where that is 0 to 8); one that
is not aligned is answered DENIED and changes nothing; a read returns the register, or the half that was asked for, here of
BLK_VERSION; in phase 3 a write is answered RETRY; one with bad data parity counts as an event of the port, changes no register
and is answered POISON; one with bad control parity counts and is not answered. Fawn reaches its own window alone, the board
controller its three fields, and neither is answered on the port. The tag of the request in service is a field of the
model's (log entry 170). -/
def Obligations.RegisterWrites : Prop :=
  ∀ (s : State) (r : MgReq),
    (s.portUp mgPort = true → 3 ≤ s.fawn.phase → mgCparOk r = true →
      (r.write = true → r.wide = true → mgDparOk r = true →
        (r.addr.toNat % 8 = 0 → s.mgWaits true r.addr.toNat = false → exec (.registerWrite .driver r) s =
          .next { ({ s with mgTag := r.tag.toNat }.regSet r.addr.toNat r.wdata).mgRsp .ok 0 with mgTag := 0 }) ∧
        (r.addr.toNat = 0x10 → s.mgWaits true 0x10 = false →
          ∃ t, exec (.registerWrite .driver r) s = .next t ∧ t.out = s.out ++ [.mgRsp r.tag.toNat .ok 0] ∧
            t.blk = { s.blk with fclkLimit := if field r.wdata 8 4 ≤ 8 then field r.wdata 8 4 else s.blk.fclkLimit }) ∧
        (r.addr.toNat % 8 ≠ 0 → exec (.registerWrite .driver r) s =
          .next { s with out := s.out ++ [.mgRsp r.tag.toNat .denied 0], mgTag := 0 }) ∧
        (r.addr.toNat % 8 = 0 → s.fawn.phase = 3 → exec (.registerWrite .driver r) s =
          .next { s with out := s.out ++ [.mgRsp r.tag.toNat .retry 0], mgTag := 0 })) ∧
      (r.write = true → r.wide = true → mgDparOk r = false → r.addr.toNat % 8 = 0 → (s.port mgPort).errs < 3 →
        ∃ t, exec (.registerWrite .driver r) s = .next t ∧ t.out = s.out ++ [.mgRsp r.tag.toNat .poison 0] ∧
          t.port mgPort = { s.port mgPort with errs := (s.port mgPort).errs + 1 } ∧ t.blk = s.blk ∧ t.own = s.own) ∧
      (r.write = false → r.addr.toNat < 8 →
        (r.wide = true → r.addr = 0 → exec (.registerWrite .driver r) s =
          .next { s with out := s.out ++ [.mgRsp r.tag.toNat .ok (BitVec.ofNat 64 blkVersion)], mgTag := 0 }) ∧
        (r.wide = false → r.addr.toNat % 4 = 0 → exec (.registerWrite .driver r) s =
          .next { s with out := s.out ++ [.mgRsp r.tag.toNat .ok (BitVec.ofNat 64 (blkVersion >>> (8 * r.addr.toNat) % 2 ^ 32))],
                         mgTag := 0 }))) ∧
    (s.portUp mgPort = true → 3 ≤ s.fawn.phase → mgCparOk r = false →
      exec (.registerWrite .driver r) s = .next (s.portEvent mgPort 0x63)) ∧
    ((mgWindow r.addr.toNat).1 ≠ 13 → exec (.registerWrite .fawn r) s = .next s) ∧
    (r.write = true → r.wide = true → mgWindow r.addr.toNat = (13, 0x20) →
      exec (.registerWrite .fawn r) s = .next { s with fawn := { s.fawn with fwTick := r.wdata.toNat } }) ∧
    (r.write = true →
      (r.addr.toNat = 0x10 → exec (.registerWrite .board r) s = .next (if field r.wdata 8 4 ≤ 8
        then { s with blk := { s.blk with fclkLimit := field r.wdata 8 4 } } else s)) ∧
      (r.addr.toNat = 0x20 → field r.wdata 8 2 < 2 → exec (.registerWrite .board r) s =
        .next { s with blk := { s.blk with powerRequest := field r.wdata 8 2, powerPending := true } }) ∧
      (r.addr.toNat = 0x1000 + 8 * mgPort → bit r.wdata.toNat 16 = true → exec (.registerWrite .board r) s =
        .next (s.setPort mgPort { s.port mgPort with reenable := true })))

/-! ### Rules stated word for word -/

/-- A completion with status OK of a fence that is not in ERROR (11 R349). -/
def Obligations.FenceCompletesOk : Prop :=
  ∀ (s : State) (i source : Nat) (v : Reg), s.fatal = false → (s.fence i).state ≠ 3 → 0 < (s.fence i).pending →
    ∃ x, (s.fenceOk i source v).fences = tset {} s.fences i x ∧
      x.value.toNat = max (s.fence i).value.toNat v.toNat ∧ x.pending = (s.fence i).pending - 1 ∧
      ((s.fence i).pending = 1 ∧ (s.fence i).state = 1 → x.state = 2 ∧ x.source = source) ∧
      (¬((s.fence i).pending = 1 ∧ (s.fence i).state = 1) → x.state = (s.fence i).state ∧ x.source = (s.fence i).source)

/-- A repeated message (13 R394): the collector marks the message it keeps and counts the event, and the counters count it where it is
raised. -/
def Obligations.RepeatedMessagesAreOne : Prop :=
  (∀ (s : State) (die : BitVec 3) (m x : Msg) (q : List Msg), 4 ≤ s.fawn.phase → tget [] s.flt.aggs die.toNat = m :: q →
    (s.kindCfg (msgKind m)).ceLimit = 0 → s.flt.hist = [x] → msgUnit x = msgUnit m → msgKind x = msgKind m →
    msgSubject x = msgSubject m → field x 93 32 = field m 93 32 →
    ∃ t, exec (.faultMessage die) s = .next t ∧ t.flt.hist = [msgRepeat x] ∧ t.flt.undeclared = s.flt.undeclared ∧ t.out = s.out ∧
      t.flt.ce = (s.flt.countClass (msgClass m)).ce ∧ t.flt.cu = (s.flt.countClass (msgClass m)).cu ∧
      t.flt.ft = (s.flt.countClass (msgClass m)).ft) ∧
  (∀ (s : State) (u kind ty subj sl fn : Nat),
    tget 0 (s.raise u kind 1 ty subj sl fn).obs.cntLive (sl * 128 + 64) = tget 0 s.obs.cntLive (sl * 128 + 64) + 1 ∧
    tget 0 (s.raise u kind 2 ty subj sl fn).obs.cntLive (sl * 128 + 65) = tget 0 s.obs.cntLive (sl * 128 + 65) + 1)

/-- A class hold (06 R203): the park of 01 R48 closes the gate of TC3 on every origin port, and lasts as long as its cause. -/
def Obligations.ParkHoldsTheClass : Prop :=
  (∀ (s : State) (p sl : Nat) (tine : Option Nat), s.blk.parked = true → s.gateClosed p sl 3 tine = true) ∧
  (∀ (s : State) (k : BitVec 6) (v : BitVec 12), s.blk.power ≠ 3 →
    ∃ t, exec (.thermalSample k v) s = .next t ∧ t.blk.parked = decide (3 ≤ t.thermalCode))
end

