-- ==== Sys2Proof/Laws/Tables.lean ====
section
/-! SUPPORT. The laws of tables: a read after a write, and the canonical form (keys strictly rising, no entry equal to
what an unlisted key reads as) that every write keeps. -/

namespace Sys2Proof.Machine

/-- Every key of a table lies above a bound. -/
def keysAbove {α : Type} (lo : Nat) (m : Map α) : Prop := ∀ e ∈ m, lo < e.1

theorem mapSorted_cons {α : Type} (a : Nat) (v : α) (m : Map α) :
    mapSorted ((a, v) :: m) = true ↔ keysAbove a m ∧ mapSorted m = true := by
  induction m generalizing a v with
  | nil => simp [mapSorted, keysAbove]
  | cons e m ih =>
    obtain ⟨b, w⟩ := e
    simp only [mapSorted, Bool.and_eq_true, decide_eq_true_eq]
    rw [ih b w]
    simp only [keysAbove, List.mem_cons, forall_eq_or_imp]
    constructor
    · rintro ⟨h, h1, h2⟩
      exact ⟨⟨h, fun e he => Nat.lt_trans h (h1 e he)⟩, h1, h2⟩
    · rintro ⟨⟨h, -⟩, h1, h2⟩
      exact ⟨h, h1, h2⟩

theorem mget?_of_keysAbove {α : Type} {lo k : Nat} {m : Map α} (h : keysAbove lo m) (hk : k ≤ lo) : mget? m k = none := by
  induction m with
  | nil => rfl
  | cons e m ih =>
    obtain ⟨a, v⟩ := e
    have ha : lo < a := h (a, v) (List.mem_cons_self ..)
    have : a ≠ k := by omega
    simp only [mget?, this, if_false]
    exact ih fun e he => h e (List.mem_cons_of_mem _ he)

@[simp] theorem mget?_mput_self {α : Type} (m : Map α) (k : Nat) (v : α) : mget? (mput m k v) k = some v := by
  induction m with
  | nil => simp [mput, mget?]
  | cons e m ih =>
    obtain ⟨a, w⟩ := e
    simp only [mput]
    split
    · simp [mget?]
    · split
      · simp [mget?]
      · rename_i h
        have : a ≠ k := fun h' => h h'.symm
        simp [mget?, this, ih]

theorem mget?_mput_ne {α : Type} (m : Map α) {k j : Nat} (v : α) (h : j ≠ k) : mget? (mput m k v) j = mget? m j := by
  induction m with
  | nil => simp [mput, mget?, h.symm]
  | cons e m ih =>
    obtain ⟨a, w⟩ := e
    simp only [mput]
    split
    · simp [mget?, h.symm]
    · split
      · rename_i h2
        subst h2
        simp [mget?, h.symm]
      · simp only [mget?, ih]

theorem mget?_mdel_ne {α : Type} (m : Map α) {k j : Nat} (h : j ≠ k) : mget? (mdel m k) j = mget? m j := by
  induction m with
  | nil => rfl
  | cons e m ih =>
    obtain ⟨a, w⟩ := e
    simp only [mdel]
    split
    · rename_i h2
      subst h2
      simp [mget?, h.symm, ih]
    · simp only [mget?, ih]

@[simp] theorem mget?_mdel_self {α : Type} (m : Map α) (k : Nat) : mget? (mdel m k) k = none := by
  induction m with
  | nil => rfl
  | cons e m ih =>
    obtain ⟨a, w⟩ := e
    simp only [mdel]
    split
    · exact ih
    · rename_i h
      simp only [mget?, h, if_false]
      exact ih

/-- A read of another key is unchanged by a write. -/
@[simp] theorem tget_tset_ne {α : Type} [DecidableEq α] (d e : α) (m : Map α) {k j : Nat} (v : α) (h : j ≠ k) :
    tget e (tset d m k v) j = tget e m j := by
  unfold tget tset
  split
  · rw [mget?_mdel_ne m h]
  · rw [mget?_mput_ne m v h]

/-- A read of the key written gives the value. -/
@[simp] theorem tget_tset_self {α : Type} [DecidableEq α] (d : α) (m : Map α) (k : Nat) (v : α) :
    tget d (tset d m k v) k = v := by
  unfold tget tset
  split
  · rename_i h2
    rw [mget?_mdel_self m k, h2]
    rfl
  · rw [mget?_mput_self]
    rfl

/-- A read of the key written gives the value, where that is not what an unlisted key reads as. -/
theorem tget_tset_self_of_ne {α : Type} [DecidableEq α] (d : α) (m : Map α) (k : Nat) {v : α} (h : v ≠ d) :
    tget d (tset d m k v) k = v := by
  unfold tget tset
  rw [if_neg h, mget?_mput_self]
  rfl

theorem keysAbove_mput {α : Type} {lo k : Nat} {m : Map α} (v : α) (h : keysAbove lo m) (hk : lo < k) : keysAbove lo (mput m k v) := by
  induction m with
  | nil => simp [mput, keysAbove, hk]
  | cons e m ih =>
    obtain ⟨a, w⟩ := e
    have h1 : lo < a := h (a, w) (List.mem_cons_self ..)
    have h2 : keysAbove lo m := fun e he => h e (List.mem_cons_of_mem _ he)
    simp only [mput]
    split
    · simpa [keysAbove, hk, h1] using h2
    · split
      · simpa [keysAbove, hk] using h2
      · have := ih h2
        simpa [keysAbove, h1] using this

theorem keysAbove_mdel {α : Type} {lo : Nat} (k : Nat) {m : Map α} (h : keysAbove lo m) : keysAbove lo (mdel m k) := by
  induction m with
  | nil => exact h
  | cons e m ih =>
    obtain ⟨a, w⟩ := e
    have h1 : lo < a := h (a, w) (List.mem_cons_self ..)
    have h2 : keysAbove lo m := fun e he => h e (List.mem_cons_of_mem _ he)
    simp only [mdel]
    split
    · exact ih h2
    · have := ih h2
      simpa [keysAbove, h1] using this

/-- Listing an entry keeps the keys strictly rising. -/
theorem mapSorted_mput {α : Type} (m : Map α) (k : Nat) (v : α) (h : mapSorted m = true) : mapSorted (mput m k v) = true := by
  induction m with
  | nil => rfl
  | cons e m ih =>
    obtain ⟨a, w⟩ := e
    obtain ⟨h1, h2⟩ := (mapSorted_cons a w m).mp h
    simp only [mput]
    split
    · rename_i h3
      rw [mapSorted_cons]
      refine ⟨?_, h⟩
      simp only [keysAbove, List.mem_cons, forall_eq_or_imp]
      exact ⟨h3, fun e he => Nat.lt_trans h3 (h1 e he)⟩
    · split
      · rename_i h3
        subst h3
        exact (mapSorted_cons _ _ _).mpr ⟨h1, h2⟩
      · exact (mapSorted_cons _ _ _).mpr ⟨keysAbove_mput v h1 (by omega), ih h2⟩

/-- Unlisting an entry keeps the keys strictly rising. -/
theorem mapSorted_mdel {α : Type} (m : Map α) (k : Nat) (h : mapSorted m = true) : mapSorted (mdel m k) = true := by
  induction m with
  | nil => rfl
  | cons e m ih =>
    obtain ⟨a, w⟩ := e
    obtain ⟨h1, h2⟩ := (mapSorted_cons a w m).mp h
    simp only [mdel]
    split
    · exact ih h2
    · exact (mapSorted_cons _ _ _).mpr ⟨keysAbove_mdel k h1, ih h2⟩

/-- Every write of a table keeps its keys strictly rising. -/
theorem mapSorted_tset {α : Type} [DecidableEq α] (d : α) (m : Map α) (k : Nat) (v : α) (h : mapSorted m = true) :
    mapSorted (tset d m k v) = true := by
  unfold tset
  split
  · exact mapSorted_mdel m k h
  · exact mapSorted_mput m k v h

/-- No entry of a table equals what an unlisted key reads as. -/
def noDefault {α : Type} (d : α) (m : Map α) : Prop := ∀ e ∈ m, e.2 ≠ d

theorem mem_of_mem_mdel {α : Type} {m : Map α} {k : Nat} {e : Nat × α} (h : e ∈ mdel m k) : e ∈ m := by
  induction m with
  | nil => exact h
  | cons x m ih =>
    obtain ⟨a, w⟩ := x
    simp only [mdel] at h
    split at h
    · exact List.mem_cons_of_mem _ (ih h)
    · rcases List.mem_cons.mp h with h | h
      · exact h ▸ List.mem_cons_self ..
      · exact List.mem_cons_of_mem _ (ih h)

theorem mem_mput {α : Type} {m : Map α} {k : Nat} {v : α} {e : Nat × α} (h : e ∈ mput m k v) : e = (k, v) ∨ e ∈ m := by
  induction m with
  | nil => exact .inl (by simpa [mput] using h)
  | cons x m ih =>
    obtain ⟨a, w⟩ := x
    simp only [mput] at h
    split at h
    · exact List.mem_cons.mp h
    · split at h
      · rcases List.mem_cons.mp h with h | h
        · exact .inl h
        · exact .inr (List.mem_cons_of_mem _ h)
      · rcases List.mem_cons.mp h with h | h
        · exact .inr (h ▸ List.mem_cons_self ..)
        · rcases ih h with h | h
          · exact .inl h
          · exact .inr (List.mem_cons_of_mem _ h)

/-- Every write of a table keeps it free of entries that say nothing. -/
theorem noDefault_tset {α : Type} [DecidableEq α] (d : α) (m : Map α) (k : Nat) (v : α) (h : noDefault d m) :
    noDefault d (tset d m k v) := by
  unfold tset
  split
  · exact fun e he => h e (mem_of_mem_mdel he)
  · rename_i hv
    intro e he
    rcases mem_mput he with rfl | he
    · exact hv
    · exact h e he

end Sys2Proof.Machine
end

