-- ==== Sys2Proof/Laws/State.lean ====
section
/-! SUPPORT. One lemma per field per update of the state, true by rfl: no proof unfolds a record update. -/

namespace Sys2Proof.Machine

variable (s : State)

/-! ### `State.setPort` -/

@[simp] theorem State.setPort_blk (i : Nat) (p : PortSt) : (s.setPort i p).blk = s.blk := rfl
@[simp] theorem State.setPort_ports (i : Nat) (p : PortSt) : (s.setPort i p).ports = tset {} s.ports i p := rfl
@[simp] theorem State.setPort_tiles (i : Nat) (p : PortSt) : (s.setPort i p).tiles = s.tiles := rfl
@[simp] theorem State.setPort_bindings (i : Nat) (p : PortSt) : (s.setPort i p).bindings = s.bindings := rfl
@[simp] theorem State.setPort_losing (i : Nat) (p : PortSt) : (s.setPort i p).losing = s.losing := rfl
@[simp] theorem State.setPort_hostTags (i : Nat) (p : PortSt) : (s.setPort i p).hostTags = s.hostTags := rfl
@[simp] theorem State.setPort_reqs (i : Nat) (p : PortSt) : (s.setPort i p).reqs = s.reqs := rfl
@[simp] theorem State.setPort_test (i : Nat) (p : PortSt) : (s.setPort i p).test = s.test := rfl
@[simp] theorem State.setPort_mem (i : Nat) (p : PortSt) : (s.setPort i p).mem = s.mem := rfl
@[simp] theorem State.setPort_held (i : Nat) (p : PortSt) : (s.setPort i p).held = s.held := rfl
@[simp] theorem State.setPort_own (i : Nat) (p : PortSt) : (s.setPort i p).own = s.own := rfl
@[simp] theorem State.setPort_cleaning (i : Nat) (p : PortSt) : (s.setPort i p).cleaning = s.cleaning := rfl
@[simp] theorem State.setPort_slc (i : Nat) (p : PortSt) : (s.setPort i p).slc = s.slc := rfl
@[simp] theorem State.setPort_fncs (i : Nat) (p : PortSt) : (s.setPort i p).fncs = s.fncs := rfl
@[simp] theorem State.setPort_views (i : Nat) (p : PortSt) : (s.setPort i p).views = s.views := rfl
@[simp] theorem State.setPort_dirty (i : Nat) (p : PortSt) : (s.setPort i p).dirty = s.dirty := rfl
@[simp] theorem State.setPort_img (i : Nat) (p : PortSt) : (s.setPort i p).img = s.img := rfl
@[simp] theorem State.setPort_homes (i : Nat) (p : PortSt) : (s.setPort i p).homes = s.homes := rfl
@[simp] theorem State.setPort_txns (i : Nat) (p : PortSt) : (s.setPort i p).txns = s.txns := rfl
@[simp] theorem State.setPort_flushes (i : Nat) (p : PortSt) : (s.setPort i p).flushes = s.flushes := rfl
@[simp] theorem State.setPort_homeTimeout (i : Nat) (p : PortSt) : (s.setPort i p).homeTimeout = s.homeTimeout := rfl
@[simp] theorem State.setPort_qos (i : Nat) (p : PortSt) : (s.setPort i p).qos = s.qos := rfl
@[simp] theorem State.setPort_keys (i : Nat) (p : PortSt) : (s.setPort i p).keys = s.keys := rfl
@[simp] theorem State.setPort_mpt (i : Nat) (p : PortSt) : (s.setPort i p).mpt = s.mpt := rfl
@[simp] theorem State.setPort_guardOps (i : Nat) (p : PortSt) : (s.setPort i p).guardOps = s.guardOps := rfl
@[simp] theorem State.setPort_rw (i : Nat) (p : PortSt) : (s.setPort i p).rw = s.rw := rfl
@[simp] theorem State.setPort_jobs (i : Nat) (p : PortSt) : (s.setPort i p).jobs = s.jobs := rfl
@[simp] theorem State.setPort_engines (i : Nat) (p : PortSt) : (s.setPort i p).engines = s.engines := rfl
@[simp] theorem State.setPort_seqs (i : Nat) (p : PortSt) : (s.setPort i p).seqs = s.seqs := rfl
@[simp] theorem State.setPort_seqTlb (i : Nat) (p : PortSt) : (s.setPort i p).seqTlb = s.seqTlb := rfl
@[simp] theorem State.setPort_tin (i : Nat) (p : PortSt) : (s.setPort i p).tin = s.tin := rfl
@[simp] theorem State.setPort_tines (i : Nat) (p : PortSt) : (s.setPort i p).tines = s.tines := rfl
@[simp] theorem State.setPort_sas (i : Nat) (p : PortSt) : (s.setPort i p).sas = s.sas := rfl
@[simp] theorem State.setPort_paths (i : Nat) (p : PortSt) : (s.setPort i p).paths = s.paths := rfl
@[simp] theorem State.setPort_inbox (i : Nat) (p : PortSt) : (s.setPort i p).inbox = s.inbox := rfl
@[simp] theorem State.setPort_remotes (i : Nat) (p : PortSt) : (s.setPort i p).remotes = s.remotes := rfl
@[simp] theorem State.setPort_proxies (i : Nat) (p : PortSt) : (s.setPort i p).proxies = s.proxies := rfl
@[simp] theorem State.setPort_linkFences (i : Nat) (p : PortSt) : (s.setPort i p).linkFences = s.linkFences := rfl
@[simp] theorem State.setPort_ctxs (i : Nat) (p : PortSt) : (s.setPort i p).ctxs = s.ctxs := rfl
@[simp] theorem State.setPort_objs (i : Nat) (p : PortSt) : (s.setPort i p).objs = s.objs := rfl
@[simp] theorem State.setPort_fences (i : Nat) (p : PortSt) : (s.setPort i p).fences = s.fences := rfl
@[simp] theorem State.setPort_badFences (i : Nat) (p : PortSt) : (s.setPort i p).badFences = s.badFences := rfl
@[simp] theorem State.setPort_fpages (i : Nat) (p : PortSt) : (s.setPort i p).fpages = s.fpages := rfl
@[simp] theorem State.setPort_ctxWin (i : Nat) (p : PortSt) : (s.setPort i p).ctxWin = s.ctxWin := rfl
@[simp] theorem State.setPort_slots (i : Nat) (p : PortSt) : (s.setPort i p).slots = s.slots := rfl
@[simp] theorem State.setPort_fills (i : Nat) (p : PortSt) : (s.setPort i p).fills = s.fills := rfl
@[simp] theorem State.setPort_vault (i : Nat) (p : PortSt) : (s.setPort i p).vault = s.vault := rfl
@[simp] theorem State.setPort_flt (i : Nat) (p : PortSt) : (s.setPort i p).flt = s.flt := rfl
@[simp] theorem State.setPort_units (i : Nat) (p : PortSt) : (s.setPort i p).units = s.units := rfl
@[simp] theorem State.setPort_fawn (i : Nat) (p : PortSt) : (s.setPort i p).fawn = s.fawn := rfl
@[simp] theorem State.setPort_pair (i : Nat) (p : PortSt) : (s.setPort i p).pair = s.pair := rfl
@[simp] theorem State.setPort_obs (i : Nat) (p : PortSt) : (s.setPort i p).obs = s.obs := rfl
@[simp] theorem State.setPort_sink (i : Nat) (p : PortSt) : (s.setPort i p).sink = s.sink := rfl
@[simp] theorem State.setPort_out (i : Nat) (p : PortSt) : (s.setPort i p).out = s.out := rfl
@[simp] theorem State.setPort_freeCount (i : Nat) (p : PortSt) : (s.setPort i p).freeCount = s.freeCount := rfl
@[simp] theorem State.setPort_nextId (i : Nat) (p : PortSt) : (s.setPort i p).nextId = s.nextId := rfl
@[simp] theorem State.setPort_mgTag (i : Nat) (p : PortSt) : (s.setPort i p).mgTag = s.mgTag := rfl
@[simp] theorem State.setPort_pending (i : Nat) (p : PortSt) : (s.setPort i p).pending = s.pending := rfl

/-! ### `State.setTile` -/

@[simp] theorem State.setTile_blk (i : Nat) (p : TileSt) : (s.setTile i p).blk = s.blk := rfl
@[simp] theorem State.setTile_ports (i : Nat) (p : TileSt) : (s.setTile i p).ports = s.ports := rfl
@[simp] theorem State.setTile_tiles (i : Nat) (p : TileSt) : (s.setTile i p).tiles = tset {} s.tiles i p := rfl
@[simp] theorem State.setTile_bindings (i : Nat) (p : TileSt) : (s.setTile i p).bindings = s.bindings := rfl
@[simp] theorem State.setTile_losing (i : Nat) (p : TileSt) : (s.setTile i p).losing = s.losing := rfl
@[simp] theorem State.setTile_hostTags (i : Nat) (p : TileSt) : (s.setTile i p).hostTags = s.hostTags := rfl
@[simp] theorem State.setTile_reqs (i : Nat) (p : TileSt) : (s.setTile i p).reqs = s.reqs := rfl
@[simp] theorem State.setTile_test (i : Nat) (p : TileSt) : (s.setTile i p).test = s.test := rfl
@[simp] theorem State.setTile_mem (i : Nat) (p : TileSt) : (s.setTile i p).mem = s.mem := rfl
@[simp] theorem State.setTile_held (i : Nat) (p : TileSt) : (s.setTile i p).held = s.held := rfl
@[simp] theorem State.setTile_own (i : Nat) (p : TileSt) : (s.setTile i p).own = s.own := rfl
@[simp] theorem State.setTile_cleaning (i : Nat) (p : TileSt) : (s.setTile i p).cleaning = s.cleaning := rfl
@[simp] theorem State.setTile_slc (i : Nat) (p : TileSt) : (s.setTile i p).slc = s.slc := rfl
@[simp] theorem State.setTile_fncs (i : Nat) (p : TileSt) : (s.setTile i p).fncs = s.fncs := rfl
@[simp] theorem State.setTile_views (i : Nat) (p : TileSt) : (s.setTile i p).views = s.views := rfl
@[simp] theorem State.setTile_dirty (i : Nat) (p : TileSt) : (s.setTile i p).dirty = s.dirty := rfl
@[simp] theorem State.setTile_img (i : Nat) (p : TileSt) : (s.setTile i p).img = s.img := rfl
@[simp] theorem State.setTile_homes (i : Nat) (p : TileSt) : (s.setTile i p).homes = s.homes := rfl
@[simp] theorem State.setTile_txns (i : Nat) (p : TileSt) : (s.setTile i p).txns = s.txns := rfl
@[simp] theorem State.setTile_flushes (i : Nat) (p : TileSt) : (s.setTile i p).flushes = s.flushes := rfl
@[simp] theorem State.setTile_homeTimeout (i : Nat) (p : TileSt) : (s.setTile i p).homeTimeout = s.homeTimeout := rfl
@[simp] theorem State.setTile_qos (i : Nat) (p : TileSt) : (s.setTile i p).qos = s.qos := rfl
@[simp] theorem State.setTile_keys (i : Nat) (p : TileSt) : (s.setTile i p).keys = s.keys := rfl
@[simp] theorem State.setTile_mpt (i : Nat) (p : TileSt) : (s.setTile i p).mpt = s.mpt := rfl
@[simp] theorem State.setTile_guardOps (i : Nat) (p : TileSt) : (s.setTile i p).guardOps = s.guardOps := rfl
@[simp] theorem State.setTile_rw (i : Nat) (p : TileSt) : (s.setTile i p).rw = s.rw := rfl
@[simp] theorem State.setTile_jobs (i : Nat) (p : TileSt) : (s.setTile i p).jobs = s.jobs := rfl
@[simp] theorem State.setTile_engines (i : Nat) (p : TileSt) : (s.setTile i p).engines = s.engines := rfl
@[simp] theorem State.setTile_seqs (i : Nat) (p : TileSt) : (s.setTile i p).seqs = s.seqs := rfl
@[simp] theorem State.setTile_seqTlb (i : Nat) (p : TileSt) : (s.setTile i p).seqTlb = s.seqTlb := rfl
@[simp] theorem State.setTile_tin (i : Nat) (p : TileSt) : (s.setTile i p).tin = s.tin := rfl
@[simp] theorem State.setTile_tines (i : Nat) (p : TileSt) : (s.setTile i p).tines = s.tines := rfl
@[simp] theorem State.setTile_sas (i : Nat) (p : TileSt) : (s.setTile i p).sas = s.sas := rfl
@[simp] theorem State.setTile_paths (i : Nat) (p : TileSt) : (s.setTile i p).paths = s.paths := rfl
@[simp] theorem State.setTile_inbox (i : Nat) (p : TileSt) : (s.setTile i p).inbox = s.inbox := rfl
@[simp] theorem State.setTile_remotes (i : Nat) (p : TileSt) : (s.setTile i p).remotes = s.remotes := rfl
@[simp] theorem State.setTile_proxies (i : Nat) (p : TileSt) : (s.setTile i p).proxies = s.proxies := rfl
@[simp] theorem State.setTile_linkFences (i : Nat) (p : TileSt) : (s.setTile i p).linkFences = s.linkFences := rfl
@[simp] theorem State.setTile_ctxs (i : Nat) (p : TileSt) : (s.setTile i p).ctxs = s.ctxs := rfl
@[simp] theorem State.setTile_objs (i : Nat) (p : TileSt) : (s.setTile i p).objs = s.objs := rfl
@[simp] theorem State.setTile_fences (i : Nat) (p : TileSt) : (s.setTile i p).fences = s.fences := rfl
@[simp] theorem State.setTile_badFences (i : Nat) (p : TileSt) : (s.setTile i p).badFences = s.badFences := rfl
@[simp] theorem State.setTile_fpages (i : Nat) (p : TileSt) : (s.setTile i p).fpages = s.fpages := rfl
@[simp] theorem State.setTile_ctxWin (i : Nat) (p : TileSt) : (s.setTile i p).ctxWin = s.ctxWin := rfl
@[simp] theorem State.setTile_slots (i : Nat) (p : TileSt) : (s.setTile i p).slots = s.slots := rfl
@[simp] theorem State.setTile_fills (i : Nat) (p : TileSt) : (s.setTile i p).fills = s.fills := rfl
@[simp] theorem State.setTile_vault (i : Nat) (p : TileSt) : (s.setTile i p).vault = s.vault := rfl
@[simp] theorem State.setTile_flt (i : Nat) (p : TileSt) : (s.setTile i p).flt = s.flt := rfl
@[simp] theorem State.setTile_units (i : Nat) (p : TileSt) : (s.setTile i p).units = s.units := rfl
@[simp] theorem State.setTile_fawn (i : Nat) (p : TileSt) : (s.setTile i p).fawn = s.fawn := rfl
@[simp] theorem State.setTile_pair (i : Nat) (p : TileSt) : (s.setTile i p).pair = s.pair := rfl
@[simp] theorem State.setTile_obs (i : Nat) (p : TileSt) : (s.setTile i p).obs = s.obs := rfl
@[simp] theorem State.setTile_sink (i : Nat) (p : TileSt) : (s.setTile i p).sink = s.sink := rfl
@[simp] theorem State.setTile_out (i : Nat) (p : TileSt) : (s.setTile i p).out = s.out := rfl
@[simp] theorem State.setTile_freeCount (i : Nat) (p : TileSt) : (s.setTile i p).freeCount = s.freeCount := rfl
@[simp] theorem State.setTile_nextId (i : Nat) (p : TileSt) : (s.setTile i p).nextId = s.nextId := rfl
@[simp] theorem State.setTile_mgTag (i : Nat) (p : TileSt) : (s.setTile i p).mgTag = s.mgTag := rfl
@[simp] theorem State.setTile_pending (i : Nat) (p : TileSt) : (s.setTile i p).pending = s.pending := rfl

/-! ### `State.setMp` -/

@[simp] theorem State.setMp_blk (i : Nat) (p : MemPort) : (s.setMp i p).blk = s.blk := rfl
@[simp] theorem State.setMp_ports (i : Nat) (p : MemPort) : (s.setMp i p).ports = s.ports := rfl
@[simp] theorem State.setMp_tiles (i : Nat) (p : MemPort) : (s.setMp i p).tiles = s.tiles := rfl
@[simp] theorem State.setMp_bindings (i : Nat) (p : MemPort) : (s.setMp i p).bindings = s.bindings := rfl
@[simp] theorem State.setMp_losing (i : Nat) (p : MemPort) : (s.setMp i p).losing = s.losing := rfl
@[simp] theorem State.setMp_hostTags (i : Nat) (p : MemPort) : (s.setMp i p).hostTags = s.hostTags := rfl
@[simp] theorem State.setMp_reqs (i : Nat) (p : MemPort) : (s.setMp i p).reqs = s.reqs := rfl
@[simp] theorem State.setMp_test (i : Nat) (p : MemPort) : (s.setMp i p).test = s.test := rfl
@[simp] theorem State.setMp_mem (i : Nat) (p : MemPort) : (s.setMp i p).mem = tset {} s.mem i p := rfl
@[simp] theorem State.setMp_held (i : Nat) (p : MemPort) : (s.setMp i p).held = s.held := rfl
@[simp] theorem State.setMp_own (i : Nat) (p : MemPort) : (s.setMp i p).own = s.own := rfl
@[simp] theorem State.setMp_cleaning (i : Nat) (p : MemPort) : (s.setMp i p).cleaning = s.cleaning := rfl
@[simp] theorem State.setMp_slc (i : Nat) (p : MemPort) : (s.setMp i p).slc = s.slc := rfl
@[simp] theorem State.setMp_fncs (i : Nat) (p : MemPort) : (s.setMp i p).fncs = s.fncs := rfl
@[simp] theorem State.setMp_views (i : Nat) (p : MemPort) : (s.setMp i p).views = s.views := rfl
@[simp] theorem State.setMp_dirty (i : Nat) (p : MemPort) : (s.setMp i p).dirty = s.dirty := rfl
@[simp] theorem State.setMp_img (i : Nat) (p : MemPort) : (s.setMp i p).img = s.img := rfl
@[simp] theorem State.setMp_homes (i : Nat) (p : MemPort) : (s.setMp i p).homes = s.homes := rfl
@[simp] theorem State.setMp_txns (i : Nat) (p : MemPort) : (s.setMp i p).txns = s.txns := rfl
@[simp] theorem State.setMp_flushes (i : Nat) (p : MemPort) : (s.setMp i p).flushes = s.flushes := rfl
@[simp] theorem State.setMp_homeTimeout (i : Nat) (p : MemPort) : (s.setMp i p).homeTimeout = s.homeTimeout := rfl
@[simp] theorem State.setMp_qos (i : Nat) (p : MemPort) : (s.setMp i p).qos = s.qos := rfl
@[simp] theorem State.setMp_keys (i : Nat) (p : MemPort) : (s.setMp i p).keys = s.keys := rfl
@[simp] theorem State.setMp_mpt (i : Nat) (p : MemPort) : (s.setMp i p).mpt = s.mpt := rfl
@[simp] theorem State.setMp_guardOps (i : Nat) (p : MemPort) : (s.setMp i p).guardOps = s.guardOps := rfl
@[simp] theorem State.setMp_rw (i : Nat) (p : MemPort) : (s.setMp i p).rw = s.rw := rfl
@[simp] theorem State.setMp_jobs (i : Nat) (p : MemPort) : (s.setMp i p).jobs = s.jobs := rfl
@[simp] theorem State.setMp_engines (i : Nat) (p : MemPort) : (s.setMp i p).engines = s.engines := rfl
@[simp] theorem State.setMp_seqs (i : Nat) (p : MemPort) : (s.setMp i p).seqs = s.seqs := rfl
@[simp] theorem State.setMp_seqTlb (i : Nat) (p : MemPort) : (s.setMp i p).seqTlb = s.seqTlb := rfl
@[simp] theorem State.setMp_tin (i : Nat) (p : MemPort) : (s.setMp i p).tin = s.tin := rfl
@[simp] theorem State.setMp_tines (i : Nat) (p : MemPort) : (s.setMp i p).tines = s.tines := rfl
@[simp] theorem State.setMp_sas (i : Nat) (p : MemPort) : (s.setMp i p).sas = s.sas := rfl
@[simp] theorem State.setMp_paths (i : Nat) (p : MemPort) : (s.setMp i p).paths = s.paths := rfl
@[simp] theorem State.setMp_inbox (i : Nat) (p : MemPort) : (s.setMp i p).inbox = s.inbox := rfl
@[simp] theorem State.setMp_remotes (i : Nat) (p : MemPort) : (s.setMp i p).remotes = s.remotes := rfl
@[simp] theorem State.setMp_proxies (i : Nat) (p : MemPort) : (s.setMp i p).proxies = s.proxies := rfl
@[simp] theorem State.setMp_linkFences (i : Nat) (p : MemPort) : (s.setMp i p).linkFences = s.linkFences := rfl
@[simp] theorem State.setMp_ctxs (i : Nat) (p : MemPort) : (s.setMp i p).ctxs = s.ctxs := rfl
@[simp] theorem State.setMp_objs (i : Nat) (p : MemPort) : (s.setMp i p).objs = s.objs := rfl
@[simp] theorem State.setMp_fences (i : Nat) (p : MemPort) : (s.setMp i p).fences = s.fences := rfl
@[simp] theorem State.setMp_badFences (i : Nat) (p : MemPort) : (s.setMp i p).badFences = s.badFences := rfl
@[simp] theorem State.setMp_fpages (i : Nat) (p : MemPort) : (s.setMp i p).fpages = s.fpages := rfl
@[simp] theorem State.setMp_ctxWin (i : Nat) (p : MemPort) : (s.setMp i p).ctxWin = s.ctxWin := rfl
@[simp] theorem State.setMp_slots (i : Nat) (p : MemPort) : (s.setMp i p).slots = s.slots := rfl
@[simp] theorem State.setMp_fills (i : Nat) (p : MemPort) : (s.setMp i p).fills = s.fills := rfl
@[simp] theorem State.setMp_vault (i : Nat) (p : MemPort) : (s.setMp i p).vault = s.vault := rfl
@[simp] theorem State.setMp_flt (i : Nat) (p : MemPort) : (s.setMp i p).flt = s.flt := rfl
@[simp] theorem State.setMp_units (i : Nat) (p : MemPort) : (s.setMp i p).units = s.units := rfl
@[simp] theorem State.setMp_fawn (i : Nat) (p : MemPort) : (s.setMp i p).fawn = s.fawn := rfl
@[simp] theorem State.setMp_pair (i : Nat) (p : MemPort) : (s.setMp i p).pair = s.pair := rfl
@[simp] theorem State.setMp_obs (i : Nat) (p : MemPort) : (s.setMp i p).obs = s.obs := rfl
@[simp] theorem State.setMp_sink (i : Nat) (p : MemPort) : (s.setMp i p).sink = s.sink := rfl
@[simp] theorem State.setMp_out (i : Nat) (p : MemPort) : (s.setMp i p).out = s.out := rfl
@[simp] theorem State.setMp_freeCount (i : Nat) (p : MemPort) : (s.setMp i p).freeCount = s.freeCount := rfl
@[simp] theorem State.setMp_nextId (i : Nat) (p : MemPort) : (s.setMp i p).nextId = s.nextId := rfl
@[simp] theorem State.setMp_mgTag (i : Nat) (p : MemPort) : (s.setMp i p).mgTag = s.mgTag := rfl
@[simp] theorem State.setMp_pending (i : Nat) (p : MemPort) : (s.setMp i p).pending = s.pending := rfl

/-! ### `State.setOwn` -/

@[simp] theorem State.setOwn_blk (g : Nat) (e : OwnEntry) : (s.setOwn g e).blk = s.blk := rfl
@[simp] theorem State.setOwn_ports (g : Nat) (e : OwnEntry) : (s.setOwn g e).ports = s.ports := rfl
@[simp] theorem State.setOwn_tiles (g : Nat) (e : OwnEntry) : (s.setOwn g e).tiles = s.tiles := rfl
@[simp] theorem State.setOwn_bindings (g : Nat) (e : OwnEntry) : (s.setOwn g e).bindings = s.bindings := rfl
@[simp] theorem State.setOwn_losing (g : Nat) (e : OwnEntry) : (s.setOwn g e).losing = s.losing := rfl
@[simp] theorem State.setOwn_hostTags (g : Nat) (e : OwnEntry) : (s.setOwn g e).hostTags = s.hostTags := rfl
@[simp] theorem State.setOwn_reqs (g : Nat) (e : OwnEntry) : (s.setOwn g e).reqs = s.reqs := rfl
@[simp] theorem State.setOwn_test (g : Nat) (e : OwnEntry) : (s.setOwn g e).test = s.test := rfl
@[simp] theorem State.setOwn_mem (g : Nat) (e : OwnEntry) : (s.setOwn g e).mem = s.mem := rfl
@[simp] theorem State.setOwn_held (g : Nat) (e : OwnEntry) : (s.setOwn g e).held = s.held := rfl
@[simp] theorem State.setOwn_own (g : Nat) (e : OwnEntry) : (s.setOwn g e).own = tset {} s.own g e := rfl
@[simp] theorem State.setOwn_cleaning (g : Nat) (e : OwnEntry) : (s.setOwn g e).cleaning = s.cleaning := rfl
@[simp] theorem State.setOwn_slc (g : Nat) (e : OwnEntry) : (s.setOwn g e).slc = s.slc := rfl
@[simp] theorem State.setOwn_fncs (g : Nat) (e : OwnEntry) : (s.setOwn g e).fncs = s.fncs := rfl
@[simp] theorem State.setOwn_views (g : Nat) (e : OwnEntry) : (s.setOwn g e).views = s.views := rfl
@[simp] theorem State.setOwn_dirty (g : Nat) (e : OwnEntry) : (s.setOwn g e).dirty = s.dirty := rfl
@[simp] theorem State.setOwn_img (g : Nat) (e : OwnEntry) : (s.setOwn g e).img = s.img := rfl
@[simp] theorem State.setOwn_homes (g : Nat) (e : OwnEntry) : (s.setOwn g e).homes = s.homes := rfl
@[simp] theorem State.setOwn_txns (g : Nat) (e : OwnEntry) : (s.setOwn g e).txns = s.txns := rfl
@[simp] theorem State.setOwn_flushes (g : Nat) (e : OwnEntry) : (s.setOwn g e).flushes = s.flushes := rfl
@[simp] theorem State.setOwn_homeTimeout (g : Nat) (e : OwnEntry) : (s.setOwn g e).homeTimeout = s.homeTimeout := rfl
@[simp] theorem State.setOwn_qos (g : Nat) (e : OwnEntry) : (s.setOwn g e).qos = s.qos := rfl
@[simp] theorem State.setOwn_keys (g : Nat) (e : OwnEntry) : (s.setOwn g e).keys = s.keys := rfl
@[simp] theorem State.setOwn_mpt (g : Nat) (e : OwnEntry) : (s.setOwn g e).mpt = s.mpt := rfl
@[simp] theorem State.setOwn_guardOps (g : Nat) (e : OwnEntry) : (s.setOwn g e).guardOps = s.guardOps := rfl
@[simp] theorem State.setOwn_rw (g : Nat) (e : OwnEntry) : (s.setOwn g e).rw = s.rw := rfl
@[simp] theorem State.setOwn_jobs (g : Nat) (e : OwnEntry) : (s.setOwn g e).jobs = s.jobs := rfl
@[simp] theorem State.setOwn_engines (g : Nat) (e : OwnEntry) : (s.setOwn g e).engines = s.engines := rfl
@[simp] theorem State.setOwn_seqs (g : Nat) (e : OwnEntry) : (s.setOwn g e).seqs = s.seqs := rfl
@[simp] theorem State.setOwn_seqTlb (g : Nat) (e : OwnEntry) : (s.setOwn g e).seqTlb = s.seqTlb := rfl
@[simp] theorem State.setOwn_tin (g : Nat) (e : OwnEntry) : (s.setOwn g e).tin = s.tin := rfl
@[simp] theorem State.setOwn_tines (g : Nat) (e : OwnEntry) : (s.setOwn g e).tines = s.tines := rfl
@[simp] theorem State.setOwn_sas (g : Nat) (e : OwnEntry) : (s.setOwn g e).sas = s.sas := rfl
@[simp] theorem State.setOwn_paths (g : Nat) (e : OwnEntry) : (s.setOwn g e).paths = s.paths := rfl
@[simp] theorem State.setOwn_inbox (g : Nat) (e : OwnEntry) : (s.setOwn g e).inbox = s.inbox := rfl
@[simp] theorem State.setOwn_remotes (g : Nat) (e : OwnEntry) : (s.setOwn g e).remotes = s.remotes := rfl
@[simp] theorem State.setOwn_proxies (g : Nat) (e : OwnEntry) : (s.setOwn g e).proxies = s.proxies := rfl
@[simp] theorem State.setOwn_linkFences (g : Nat) (e : OwnEntry) : (s.setOwn g e).linkFences = s.linkFences := rfl
@[simp] theorem State.setOwn_ctxs (g : Nat) (e : OwnEntry) : (s.setOwn g e).ctxs = s.ctxs := rfl
@[simp] theorem State.setOwn_objs (g : Nat) (e : OwnEntry) : (s.setOwn g e).objs = s.objs := rfl
@[simp] theorem State.setOwn_fences (g : Nat) (e : OwnEntry) : (s.setOwn g e).fences = s.fences := rfl
@[simp] theorem State.setOwn_badFences (g : Nat) (e : OwnEntry) : (s.setOwn g e).badFences = s.badFences := rfl
@[simp] theorem State.setOwn_fpages (g : Nat) (e : OwnEntry) : (s.setOwn g e).fpages = s.fpages := rfl
@[simp] theorem State.setOwn_ctxWin (g : Nat) (e : OwnEntry) : (s.setOwn g e).ctxWin = s.ctxWin := rfl
@[simp] theorem State.setOwn_slots (g : Nat) (e : OwnEntry) : (s.setOwn g e).slots = s.slots := rfl
@[simp] theorem State.setOwn_fills (g : Nat) (e : OwnEntry) : (s.setOwn g e).fills = s.fills := rfl
@[simp] theorem State.setOwn_vault (g : Nat) (e : OwnEntry) : (s.setOwn g e).vault = s.vault := rfl
@[simp] theorem State.setOwn_flt (g : Nat) (e : OwnEntry) : (s.setOwn g e).flt = s.flt := rfl
@[simp] theorem State.setOwn_units (g : Nat) (e : OwnEntry) : (s.setOwn g e).units = s.units := rfl
@[simp] theorem State.setOwn_fawn (g : Nat) (e : OwnEntry) : (s.setOwn g e).fawn = s.fawn := rfl
@[simp] theorem State.setOwn_pair (g : Nat) (e : OwnEntry) : (s.setOwn g e).pair = s.pair := rfl
@[simp] theorem State.setOwn_obs (g : Nat) (e : OwnEntry) : (s.setOwn g e).obs = s.obs := rfl
@[simp] theorem State.setOwn_sink (g : Nat) (e : OwnEntry) : (s.setOwn g e).sink = s.sink := rfl
@[simp] theorem State.setOwn_out (g : Nat) (e : OwnEntry) : (s.setOwn g e).out = s.out := rfl
@[simp] theorem State.setOwn_freeCount (g : Nat) (e : OwnEntry) : (s.setOwn g e).freeCount = s.freeCount := rfl
@[simp] theorem State.setOwn_nextId (g : Nat) (e : OwnEntry) : (s.setOwn g e).nextId = s.nextId := rfl
@[simp] theorem State.setOwn_mgTag (g : Nat) (e : OwnEntry) : (s.setOwn g e).mgTag = s.mgTag := rfl
@[simp] theorem State.setOwn_pending (g : Nat) (e : OwnEntry) : (s.setOwn g e).pending = s.pending := rfl

/-! ### `State.setFnc` -/

@[simp] theorem State.setFnc_blk (f : Nat) (r : FncRec) : (s.setFnc f r).blk = s.blk := rfl
@[simp] theorem State.setFnc_ports (f : Nat) (r : FncRec) : (s.setFnc f r).ports = s.ports := rfl
@[simp] theorem State.setFnc_tiles (f : Nat) (r : FncRec) : (s.setFnc f r).tiles = s.tiles := rfl
@[simp] theorem State.setFnc_bindings (f : Nat) (r : FncRec) : (s.setFnc f r).bindings = s.bindings := rfl
@[simp] theorem State.setFnc_losing (f : Nat) (r : FncRec) : (s.setFnc f r).losing = s.losing := rfl
@[simp] theorem State.setFnc_hostTags (f : Nat) (r : FncRec) : (s.setFnc f r).hostTags = s.hostTags := rfl
@[simp] theorem State.setFnc_reqs (f : Nat) (r : FncRec) : (s.setFnc f r).reqs = s.reqs := rfl
@[simp] theorem State.setFnc_test (f : Nat) (r : FncRec) : (s.setFnc f r).test = s.test := rfl
@[simp] theorem State.setFnc_mem (f : Nat) (r : FncRec) : (s.setFnc f r).mem = s.mem := rfl
@[simp] theorem State.setFnc_held (f : Nat) (r : FncRec) : (s.setFnc f r).held = s.held := rfl
@[simp] theorem State.setFnc_own (f : Nat) (r : FncRec) : (s.setFnc f r).own = s.own := rfl
@[simp] theorem State.setFnc_cleaning (f : Nat) (r : FncRec) : (s.setFnc f r).cleaning = s.cleaning := rfl
@[simp] theorem State.setFnc_slc (f : Nat) (r : FncRec) : (s.setFnc f r).slc = s.slc := rfl
@[simp] theorem State.setFnc_fncs (f : Nat) (r : FncRec) : (s.setFnc f r).fncs = tset (fncInit f) s.fncs f r := rfl
@[simp] theorem State.setFnc_views (f : Nat) (r : FncRec) : (s.setFnc f r).views = s.views := rfl
@[simp] theorem State.setFnc_dirty (f : Nat) (r : FncRec) : (s.setFnc f r).dirty = s.dirty := rfl
@[simp] theorem State.setFnc_img (f : Nat) (r : FncRec) : (s.setFnc f r).img = s.img := rfl
@[simp] theorem State.setFnc_homes (f : Nat) (r : FncRec) : (s.setFnc f r).homes = s.homes := rfl
@[simp] theorem State.setFnc_txns (f : Nat) (r : FncRec) : (s.setFnc f r).txns = s.txns := rfl
@[simp] theorem State.setFnc_flushes (f : Nat) (r : FncRec) : (s.setFnc f r).flushes = s.flushes := rfl
@[simp] theorem State.setFnc_homeTimeout (f : Nat) (r : FncRec) : (s.setFnc f r).homeTimeout = s.homeTimeout := rfl
@[simp] theorem State.setFnc_qos (f : Nat) (r : FncRec) : (s.setFnc f r).qos = s.qos := rfl
@[simp] theorem State.setFnc_keys (f : Nat) (r : FncRec) : (s.setFnc f r).keys = s.keys := rfl
@[simp] theorem State.setFnc_mpt (f : Nat) (r : FncRec) : (s.setFnc f r).mpt = s.mpt := rfl
@[simp] theorem State.setFnc_guardOps (f : Nat) (r : FncRec) : (s.setFnc f r).guardOps = s.guardOps := rfl
@[simp] theorem State.setFnc_rw (f : Nat) (r : FncRec) : (s.setFnc f r).rw = s.rw := rfl
@[simp] theorem State.setFnc_jobs (f : Nat) (r : FncRec) : (s.setFnc f r).jobs = s.jobs := rfl
@[simp] theorem State.setFnc_engines (f : Nat) (r : FncRec) : (s.setFnc f r).engines = s.engines := rfl
@[simp] theorem State.setFnc_seqs (f : Nat) (r : FncRec) : (s.setFnc f r).seqs = s.seqs := rfl
@[simp] theorem State.setFnc_seqTlb (f : Nat) (r : FncRec) : (s.setFnc f r).seqTlb = s.seqTlb := rfl
@[simp] theorem State.setFnc_tin (f : Nat) (r : FncRec) : (s.setFnc f r).tin = s.tin := rfl
@[simp] theorem State.setFnc_tines (f : Nat) (r : FncRec) : (s.setFnc f r).tines = s.tines := rfl
@[simp] theorem State.setFnc_sas (f : Nat) (r : FncRec) : (s.setFnc f r).sas = s.sas := rfl
@[simp] theorem State.setFnc_paths (f : Nat) (r : FncRec) : (s.setFnc f r).paths = s.paths := rfl
@[simp] theorem State.setFnc_inbox (f : Nat) (r : FncRec) : (s.setFnc f r).inbox = s.inbox := rfl
@[simp] theorem State.setFnc_remotes (f : Nat) (r : FncRec) : (s.setFnc f r).remotes = s.remotes := rfl
@[simp] theorem State.setFnc_proxies (f : Nat) (r : FncRec) : (s.setFnc f r).proxies = s.proxies := rfl
@[simp] theorem State.setFnc_linkFences (f : Nat) (r : FncRec) : (s.setFnc f r).linkFences = s.linkFences := rfl
@[simp] theorem State.setFnc_ctxs (f : Nat) (r : FncRec) : (s.setFnc f r).ctxs = s.ctxs := rfl
@[simp] theorem State.setFnc_objs (f : Nat) (r : FncRec) : (s.setFnc f r).objs = s.objs := rfl
@[simp] theorem State.setFnc_fences (f : Nat) (r : FncRec) : (s.setFnc f r).fences = s.fences := rfl
@[simp] theorem State.setFnc_badFences (f : Nat) (r : FncRec) : (s.setFnc f r).badFences = s.badFences := rfl
@[simp] theorem State.setFnc_fpages (f : Nat) (r : FncRec) : (s.setFnc f r).fpages = s.fpages := rfl
@[simp] theorem State.setFnc_ctxWin (f : Nat) (r : FncRec) : (s.setFnc f r).ctxWin = s.ctxWin := rfl
@[simp] theorem State.setFnc_slots (f : Nat) (r : FncRec) : (s.setFnc f r).slots = s.slots := rfl
@[simp] theorem State.setFnc_fills (f : Nat) (r : FncRec) : (s.setFnc f r).fills = s.fills := rfl
@[simp] theorem State.setFnc_vault (f : Nat) (r : FncRec) : (s.setFnc f r).vault = s.vault := rfl
@[simp] theorem State.setFnc_flt (f : Nat) (r : FncRec) : (s.setFnc f r).flt = s.flt := rfl
@[simp] theorem State.setFnc_units (f : Nat) (r : FncRec) : (s.setFnc f r).units = s.units := rfl
@[simp] theorem State.setFnc_fawn (f : Nat) (r : FncRec) : (s.setFnc f r).fawn = s.fawn := rfl
@[simp] theorem State.setFnc_pair (f : Nat) (r : FncRec) : (s.setFnc f r).pair = s.pair := rfl
@[simp] theorem State.setFnc_obs (f : Nat) (r : FncRec) : (s.setFnc f r).obs = s.obs := rfl
@[simp] theorem State.setFnc_sink (f : Nat) (r : FncRec) : (s.setFnc f r).sink = s.sink := rfl
@[simp] theorem State.setFnc_out (f : Nat) (r : FncRec) : (s.setFnc f r).out = s.out := rfl
@[simp] theorem State.setFnc_freeCount (f : Nat) (r : FncRec) : (s.setFnc f r).freeCount = s.freeCount := rfl
@[simp] theorem State.setFnc_nextId (f : Nat) (r : FncRec) : (s.setFnc f r).nextId = s.nextId := rfl
@[simp] theorem State.setFnc_mgTag (f : Nat) (r : FncRec) : (s.setFnc f r).mgTag = s.mgTag := rfl
@[simp] theorem State.setFnc_pending (f : Nat) (r : FncRec) : (s.setFnc f r).pending = s.pending := rfl

/-! ### `State.setView` -/

@[simp] theorem State.setView_blk (f : Nat) (v : View) : (s.setView f v).blk = s.blk := rfl
@[simp] theorem State.setView_ports (f : Nat) (v : View) : (s.setView f v).ports = s.ports := rfl
@[simp] theorem State.setView_tiles (f : Nat) (v : View) : (s.setView f v).tiles = s.tiles := rfl
@[simp] theorem State.setView_bindings (f : Nat) (v : View) : (s.setView f v).bindings = s.bindings := rfl
@[simp] theorem State.setView_losing (f : Nat) (v : View) : (s.setView f v).losing = s.losing := rfl
@[simp] theorem State.setView_hostTags (f : Nat) (v : View) : (s.setView f v).hostTags = s.hostTags := rfl
@[simp] theorem State.setView_reqs (f : Nat) (v : View) : (s.setView f v).reqs = s.reqs := rfl
@[simp] theorem State.setView_test (f : Nat) (v : View) : (s.setView f v).test = s.test := rfl
@[simp] theorem State.setView_mem (f : Nat) (v : View) : (s.setView f v).mem = s.mem := rfl
@[simp] theorem State.setView_held (f : Nat) (v : View) : (s.setView f v).held = s.held := rfl
@[simp] theorem State.setView_own (f : Nat) (v : View) : (s.setView f v).own = s.own := rfl
@[simp] theorem State.setView_cleaning (f : Nat) (v : View) : (s.setView f v).cleaning = s.cleaning := rfl
@[simp] theorem State.setView_slc (f : Nat) (v : View) : (s.setView f v).slc = s.slc := rfl
@[simp] theorem State.setView_fncs (f : Nat) (v : View) : (s.setView f v).fncs = s.fncs := rfl
@[simp] theorem State.setView_views (f : Nat) (v : View) : (s.setView f v).views = tset {} s.views f v := rfl
@[simp] theorem State.setView_dirty (f : Nat) (v : View) : (s.setView f v).dirty = s.dirty := rfl
@[simp] theorem State.setView_img (f : Nat) (v : View) : (s.setView f v).img = s.img := rfl
@[simp] theorem State.setView_homes (f : Nat) (v : View) : (s.setView f v).homes = s.homes := rfl
@[simp] theorem State.setView_txns (f : Nat) (v : View) : (s.setView f v).txns = s.txns := rfl
@[simp] theorem State.setView_flushes (f : Nat) (v : View) : (s.setView f v).flushes = s.flushes := rfl
@[simp] theorem State.setView_homeTimeout (f : Nat) (v : View) : (s.setView f v).homeTimeout = s.homeTimeout := rfl
@[simp] theorem State.setView_qos (f : Nat) (v : View) : (s.setView f v).qos = s.qos := rfl
@[simp] theorem State.setView_keys (f : Nat) (v : View) : (s.setView f v).keys = s.keys := rfl
@[simp] theorem State.setView_mpt (f : Nat) (v : View) : (s.setView f v).mpt = s.mpt := rfl
@[simp] theorem State.setView_guardOps (f : Nat) (v : View) : (s.setView f v).guardOps = s.guardOps := rfl
@[simp] theorem State.setView_rw (f : Nat) (v : View) : (s.setView f v).rw = s.rw := rfl
@[simp] theorem State.setView_jobs (f : Nat) (v : View) : (s.setView f v).jobs = s.jobs := rfl
@[simp] theorem State.setView_engines (f : Nat) (v : View) : (s.setView f v).engines = s.engines := rfl
@[simp] theorem State.setView_seqs (f : Nat) (v : View) : (s.setView f v).seqs = s.seqs := rfl
@[simp] theorem State.setView_seqTlb (f : Nat) (v : View) : (s.setView f v).seqTlb = s.seqTlb := rfl
@[simp] theorem State.setView_tin (f : Nat) (v : View) : (s.setView f v).tin = s.tin := rfl
@[simp] theorem State.setView_tines (f : Nat) (v : View) : (s.setView f v).tines = s.tines := rfl
@[simp] theorem State.setView_sas (f : Nat) (v : View) : (s.setView f v).sas = s.sas := rfl
@[simp] theorem State.setView_paths (f : Nat) (v : View) : (s.setView f v).paths = s.paths := rfl
@[simp] theorem State.setView_inbox (f : Nat) (v : View) : (s.setView f v).inbox = s.inbox := rfl
@[simp] theorem State.setView_remotes (f : Nat) (v : View) : (s.setView f v).remotes = s.remotes := rfl
@[simp] theorem State.setView_proxies (f : Nat) (v : View) : (s.setView f v).proxies = s.proxies := rfl
@[simp] theorem State.setView_linkFences (f : Nat) (v : View) : (s.setView f v).linkFences = s.linkFences := rfl
@[simp] theorem State.setView_ctxs (f : Nat) (v : View) : (s.setView f v).ctxs = s.ctxs := rfl
@[simp] theorem State.setView_objs (f : Nat) (v : View) : (s.setView f v).objs = s.objs := rfl
@[simp] theorem State.setView_fences (f : Nat) (v : View) : (s.setView f v).fences = s.fences := rfl
@[simp] theorem State.setView_badFences (f : Nat) (v : View) : (s.setView f v).badFences = s.badFences := rfl
@[simp] theorem State.setView_fpages (f : Nat) (v : View) : (s.setView f v).fpages = s.fpages := rfl
@[simp] theorem State.setView_ctxWin (f : Nat) (v : View) : (s.setView f v).ctxWin = s.ctxWin := rfl
@[simp] theorem State.setView_slots (f : Nat) (v : View) : (s.setView f v).slots = s.slots := rfl
@[simp] theorem State.setView_fills (f : Nat) (v : View) : (s.setView f v).fills = s.fills := rfl
@[simp] theorem State.setView_vault (f : Nat) (v : View) : (s.setView f v).vault = s.vault := rfl
@[simp] theorem State.setView_flt (f : Nat) (v : View) : (s.setView f v).flt = s.flt := rfl
@[simp] theorem State.setView_units (f : Nat) (v : View) : (s.setView f v).units = s.units := rfl
@[simp] theorem State.setView_fawn (f : Nat) (v : View) : (s.setView f v).fawn = s.fawn := rfl
@[simp] theorem State.setView_pair (f : Nat) (v : View) : (s.setView f v).pair = s.pair := rfl
@[simp] theorem State.setView_obs (f : Nat) (v : View) : (s.setView f v).obs = s.obs := rfl
@[simp] theorem State.setView_sink (f : Nat) (v : View) : (s.setView f v).sink = s.sink := rfl
@[simp] theorem State.setView_out (f : Nat) (v : View) : (s.setView f v).out = s.out := rfl
@[simp] theorem State.setView_freeCount (f : Nat) (v : View) : (s.setView f v).freeCount = s.freeCount := rfl
@[simp] theorem State.setView_nextId (f : Nat) (v : View) : (s.setView f v).nextId = s.nextId := rfl
@[simp] theorem State.setView_mgTag (f : Nat) (v : View) : (s.setView f v).mgTag = s.mgTag := rfl
@[simp] theorem State.setView_pending (f : Nat) (v : View) : (s.setView f v).pending = s.pending := rfl

/-! ### `State.setHome` -/

@[simp] theorem State.setHome_blk (h : Nat) (v : HomeSt) : (s.setHome h v).blk = s.blk := rfl
@[simp] theorem State.setHome_ports (h : Nat) (v : HomeSt) : (s.setHome h v).ports = s.ports := rfl
@[simp] theorem State.setHome_tiles (h : Nat) (v : HomeSt) : (s.setHome h v).tiles = s.tiles := rfl
@[simp] theorem State.setHome_bindings (h : Nat) (v : HomeSt) : (s.setHome h v).bindings = s.bindings := rfl
@[simp] theorem State.setHome_losing (h : Nat) (v : HomeSt) : (s.setHome h v).losing = s.losing := rfl
@[simp] theorem State.setHome_hostTags (h : Nat) (v : HomeSt) : (s.setHome h v).hostTags = s.hostTags := rfl
@[simp] theorem State.setHome_reqs (h : Nat) (v : HomeSt) : (s.setHome h v).reqs = s.reqs := rfl
@[simp] theorem State.setHome_test (h : Nat) (v : HomeSt) : (s.setHome h v).test = s.test := rfl
@[simp] theorem State.setHome_mem (h : Nat) (v : HomeSt) : (s.setHome h v).mem = s.mem := rfl
@[simp] theorem State.setHome_held (h : Nat) (v : HomeSt) : (s.setHome h v).held = s.held := rfl
@[simp] theorem State.setHome_own (h : Nat) (v : HomeSt) : (s.setHome h v).own = s.own := rfl
@[simp] theorem State.setHome_cleaning (h : Nat) (v : HomeSt) : (s.setHome h v).cleaning = s.cleaning := rfl
@[simp] theorem State.setHome_slc (h : Nat) (v : HomeSt) : (s.setHome h v).slc = s.slc := rfl
@[simp] theorem State.setHome_fncs (h : Nat) (v : HomeSt) : (s.setHome h v).fncs = s.fncs := rfl
@[simp] theorem State.setHome_views (h : Nat) (v : HomeSt) : (s.setHome h v).views = s.views := rfl
@[simp] theorem State.setHome_dirty (h : Nat) (v : HomeSt) : (s.setHome h v).dirty = s.dirty := rfl
@[simp] theorem State.setHome_img (h : Nat) (v : HomeSt) : (s.setHome h v).img = s.img := rfl
@[simp] theorem State.setHome_homes (h : Nat) (v : HomeSt) : (s.setHome h v).homes = tset (homeInit h) s.homes h v := rfl
@[simp] theorem State.setHome_txns (h : Nat) (v : HomeSt) : (s.setHome h v).txns = s.txns := rfl
@[simp] theorem State.setHome_flushes (h : Nat) (v : HomeSt) : (s.setHome h v).flushes = s.flushes := rfl
@[simp] theorem State.setHome_homeTimeout (h : Nat) (v : HomeSt) : (s.setHome h v).homeTimeout = s.homeTimeout := rfl
@[simp] theorem State.setHome_qos (h : Nat) (v : HomeSt) : (s.setHome h v).qos = s.qos := rfl
@[simp] theorem State.setHome_keys (h : Nat) (v : HomeSt) : (s.setHome h v).keys = s.keys := rfl
@[simp] theorem State.setHome_mpt (h : Nat) (v : HomeSt) : (s.setHome h v).mpt = s.mpt := rfl
@[simp] theorem State.setHome_guardOps (h : Nat) (v : HomeSt) : (s.setHome h v).guardOps = s.guardOps := rfl
@[simp] theorem State.setHome_rw (h : Nat) (v : HomeSt) : (s.setHome h v).rw = s.rw := rfl
@[simp] theorem State.setHome_jobs (h : Nat) (v : HomeSt) : (s.setHome h v).jobs = s.jobs := rfl
@[simp] theorem State.setHome_engines (h : Nat) (v : HomeSt) : (s.setHome h v).engines = s.engines := rfl
@[simp] theorem State.setHome_seqs (h : Nat) (v : HomeSt) : (s.setHome h v).seqs = s.seqs := rfl
@[simp] theorem State.setHome_seqTlb (h : Nat) (v : HomeSt) : (s.setHome h v).seqTlb = s.seqTlb := rfl
@[simp] theorem State.setHome_tin (h : Nat) (v : HomeSt) : (s.setHome h v).tin = s.tin := rfl
@[simp] theorem State.setHome_tines (h : Nat) (v : HomeSt) : (s.setHome h v).tines = s.tines := rfl
@[simp] theorem State.setHome_sas (h : Nat) (v : HomeSt) : (s.setHome h v).sas = s.sas := rfl
@[simp] theorem State.setHome_paths (h : Nat) (v : HomeSt) : (s.setHome h v).paths = s.paths := rfl
@[simp] theorem State.setHome_inbox (h : Nat) (v : HomeSt) : (s.setHome h v).inbox = s.inbox := rfl
@[simp] theorem State.setHome_remotes (h : Nat) (v : HomeSt) : (s.setHome h v).remotes = s.remotes := rfl
@[simp] theorem State.setHome_proxies (h : Nat) (v : HomeSt) : (s.setHome h v).proxies = s.proxies := rfl
@[simp] theorem State.setHome_linkFences (h : Nat) (v : HomeSt) : (s.setHome h v).linkFences = s.linkFences := rfl
@[simp] theorem State.setHome_ctxs (h : Nat) (v : HomeSt) : (s.setHome h v).ctxs = s.ctxs := rfl
@[simp] theorem State.setHome_objs (h : Nat) (v : HomeSt) : (s.setHome h v).objs = s.objs := rfl
@[simp] theorem State.setHome_fences (h : Nat) (v : HomeSt) : (s.setHome h v).fences = s.fences := rfl
@[simp] theorem State.setHome_badFences (h : Nat) (v : HomeSt) : (s.setHome h v).badFences = s.badFences := rfl
@[simp] theorem State.setHome_fpages (h : Nat) (v : HomeSt) : (s.setHome h v).fpages = s.fpages := rfl
@[simp] theorem State.setHome_ctxWin (h : Nat) (v : HomeSt) : (s.setHome h v).ctxWin = s.ctxWin := rfl
@[simp] theorem State.setHome_slots (h : Nat) (v : HomeSt) : (s.setHome h v).slots = s.slots := rfl
@[simp] theorem State.setHome_fills (h : Nat) (v : HomeSt) : (s.setHome h v).fills = s.fills := rfl
@[simp] theorem State.setHome_vault (h : Nat) (v : HomeSt) : (s.setHome h v).vault = s.vault := rfl
@[simp] theorem State.setHome_flt (h : Nat) (v : HomeSt) : (s.setHome h v).flt = s.flt := rfl
@[simp] theorem State.setHome_units (h : Nat) (v : HomeSt) : (s.setHome h v).units = s.units := rfl
@[simp] theorem State.setHome_fawn (h : Nat) (v : HomeSt) : (s.setHome h v).fawn = s.fawn := rfl
@[simp] theorem State.setHome_pair (h : Nat) (v : HomeSt) : (s.setHome h v).pair = s.pair := rfl
@[simp] theorem State.setHome_obs (h : Nat) (v : HomeSt) : (s.setHome h v).obs = s.obs := rfl
@[simp] theorem State.setHome_sink (h : Nat) (v : HomeSt) : (s.setHome h v).sink = s.sink := rfl
@[simp] theorem State.setHome_out (h : Nat) (v : HomeSt) : (s.setHome h v).out = s.out := rfl
@[simp] theorem State.setHome_freeCount (h : Nat) (v : HomeSt) : (s.setHome h v).freeCount = s.freeCount := rfl
@[simp] theorem State.setHome_nextId (h : Nat) (v : HomeSt) : (s.setHome h v).nextId = s.nextId := rfl
@[simp] theorem State.setHome_mgTag (h : Nat) (v : HomeSt) : (s.setHome h v).mgTag = s.mgTag := rfl
@[simp] theorem State.setHome_pending (h : Nat) (v : HomeSt) : (s.setHome h v).pending = s.pending := rfl

/-! ### `State.setKey` -/

@[simp] theorem State.setKey_blk (k : Nat) (v : KeySt) : (s.setKey k v).blk = s.blk := rfl
@[simp] theorem State.setKey_ports (k : Nat) (v : KeySt) : (s.setKey k v).ports = s.ports := rfl
@[simp] theorem State.setKey_tiles (k : Nat) (v : KeySt) : (s.setKey k v).tiles = s.tiles := rfl
@[simp] theorem State.setKey_bindings (k : Nat) (v : KeySt) : (s.setKey k v).bindings = s.bindings := rfl
@[simp] theorem State.setKey_losing (k : Nat) (v : KeySt) : (s.setKey k v).losing = s.losing := rfl
@[simp] theorem State.setKey_hostTags (k : Nat) (v : KeySt) : (s.setKey k v).hostTags = s.hostTags := rfl
@[simp] theorem State.setKey_reqs (k : Nat) (v : KeySt) : (s.setKey k v).reqs = s.reqs := rfl
@[simp] theorem State.setKey_test (k : Nat) (v : KeySt) : (s.setKey k v).test = s.test := rfl
@[simp] theorem State.setKey_mem (k : Nat) (v : KeySt) : (s.setKey k v).mem = s.mem := rfl
@[simp] theorem State.setKey_held (k : Nat) (v : KeySt) : (s.setKey k v).held = s.held := rfl
@[simp] theorem State.setKey_own (k : Nat) (v : KeySt) : (s.setKey k v).own = s.own := rfl
@[simp] theorem State.setKey_cleaning (k : Nat) (v : KeySt) : (s.setKey k v).cleaning = s.cleaning := rfl
@[simp] theorem State.setKey_slc (k : Nat) (v : KeySt) : (s.setKey k v).slc = s.slc := rfl
@[simp] theorem State.setKey_fncs (k : Nat) (v : KeySt) : (s.setKey k v).fncs = s.fncs := rfl
@[simp] theorem State.setKey_views (k : Nat) (v : KeySt) : (s.setKey k v).views = s.views := rfl
@[simp] theorem State.setKey_dirty (k : Nat) (v : KeySt) : (s.setKey k v).dirty = s.dirty := rfl
@[simp] theorem State.setKey_img (k : Nat) (v : KeySt) : (s.setKey k v).img = s.img := rfl
@[simp] theorem State.setKey_homes (k : Nat) (v : KeySt) : (s.setKey k v).homes = s.homes := rfl
@[simp] theorem State.setKey_txns (k : Nat) (v : KeySt) : (s.setKey k v).txns = s.txns := rfl
@[simp] theorem State.setKey_flushes (k : Nat) (v : KeySt) : (s.setKey k v).flushes = s.flushes := rfl
@[simp] theorem State.setKey_homeTimeout (k : Nat) (v : KeySt) : (s.setKey k v).homeTimeout = s.homeTimeout := rfl
@[simp] theorem State.setKey_qos (k : Nat) (v : KeySt) : (s.setKey k v).qos = s.qos := rfl
@[simp] theorem State.setKey_keys (k : Nat) (v : KeySt) : (s.setKey k v).keys = tset {} s.keys k v := rfl
@[simp] theorem State.setKey_mpt (k : Nat) (v : KeySt) : (s.setKey k v).mpt = s.mpt := rfl
@[simp] theorem State.setKey_guardOps (k : Nat) (v : KeySt) : (s.setKey k v).guardOps = s.guardOps := rfl
@[simp] theorem State.setKey_rw (k : Nat) (v : KeySt) : (s.setKey k v).rw = s.rw := rfl
@[simp] theorem State.setKey_jobs (k : Nat) (v : KeySt) : (s.setKey k v).jobs = s.jobs := rfl
@[simp] theorem State.setKey_engines (k : Nat) (v : KeySt) : (s.setKey k v).engines = s.engines := rfl
@[simp] theorem State.setKey_seqs (k : Nat) (v : KeySt) : (s.setKey k v).seqs = s.seqs := rfl
@[simp] theorem State.setKey_seqTlb (k : Nat) (v : KeySt) : (s.setKey k v).seqTlb = s.seqTlb := rfl
@[simp] theorem State.setKey_tin (k : Nat) (v : KeySt) : (s.setKey k v).tin = s.tin := rfl
@[simp] theorem State.setKey_tines (k : Nat) (v : KeySt) : (s.setKey k v).tines = s.tines := rfl
@[simp] theorem State.setKey_sas (k : Nat) (v : KeySt) : (s.setKey k v).sas = s.sas := rfl
@[simp] theorem State.setKey_paths (k : Nat) (v : KeySt) : (s.setKey k v).paths = s.paths := rfl
@[simp] theorem State.setKey_inbox (k : Nat) (v : KeySt) : (s.setKey k v).inbox = s.inbox := rfl
@[simp] theorem State.setKey_remotes (k : Nat) (v : KeySt) : (s.setKey k v).remotes = s.remotes := rfl
@[simp] theorem State.setKey_proxies (k : Nat) (v : KeySt) : (s.setKey k v).proxies = s.proxies := rfl
@[simp] theorem State.setKey_linkFences (k : Nat) (v : KeySt) : (s.setKey k v).linkFences = s.linkFences := rfl
@[simp] theorem State.setKey_ctxs (k : Nat) (v : KeySt) : (s.setKey k v).ctxs = s.ctxs := rfl
@[simp] theorem State.setKey_objs (k : Nat) (v : KeySt) : (s.setKey k v).objs = s.objs := rfl
@[simp] theorem State.setKey_fences (k : Nat) (v : KeySt) : (s.setKey k v).fences = s.fences := rfl
@[simp] theorem State.setKey_badFences (k : Nat) (v : KeySt) : (s.setKey k v).badFences = s.badFences := rfl
@[simp] theorem State.setKey_fpages (k : Nat) (v : KeySt) : (s.setKey k v).fpages = s.fpages := rfl
@[simp] theorem State.setKey_ctxWin (k : Nat) (v : KeySt) : (s.setKey k v).ctxWin = s.ctxWin := rfl
@[simp] theorem State.setKey_slots (k : Nat) (v : KeySt) : (s.setKey k v).slots = s.slots := rfl
@[simp] theorem State.setKey_fills (k : Nat) (v : KeySt) : (s.setKey k v).fills = s.fills := rfl
@[simp] theorem State.setKey_vault (k : Nat) (v : KeySt) : (s.setKey k v).vault = s.vault := rfl
@[simp] theorem State.setKey_flt (k : Nat) (v : KeySt) : (s.setKey k v).flt = s.flt := rfl
@[simp] theorem State.setKey_units (k : Nat) (v : KeySt) : (s.setKey k v).units = s.units := rfl
@[simp] theorem State.setKey_fawn (k : Nat) (v : KeySt) : (s.setKey k v).fawn = s.fawn := rfl
@[simp] theorem State.setKey_pair (k : Nat) (v : KeySt) : (s.setKey k v).pair = s.pair := rfl
@[simp] theorem State.setKey_obs (k : Nat) (v : KeySt) : (s.setKey k v).obs = s.obs := rfl
@[simp] theorem State.setKey_sink (k : Nat) (v : KeySt) : (s.setKey k v).sink = s.sink := rfl
@[simp] theorem State.setKey_out (k : Nat) (v : KeySt) : (s.setKey k v).out = s.out := rfl
@[simp] theorem State.setKey_freeCount (k : Nat) (v : KeySt) : (s.setKey k v).freeCount = s.freeCount := rfl
@[simp] theorem State.setKey_nextId (k : Nat) (v : KeySt) : (s.setKey k v).nextId = s.nextId := rfl
@[simp] theorem State.setKey_mgTag (k : Nat) (v : KeySt) : (s.setKey k v).mgTag = s.mgTag := rfl
@[simp] theorem State.setKey_pending (k : Nat) (v : KeySt) : (s.setKey k v).pending = s.pending := rfl

/-! ### `State.setWin` -/

@[simp] theorem State.setWin_blk (w : Nat) (v : Window) : (s.setWin w v).blk = s.blk := rfl
@[simp] theorem State.setWin_ports (w : Nat) (v : Window) : (s.setWin w v).ports = s.ports := rfl
@[simp] theorem State.setWin_tiles (w : Nat) (v : Window) : (s.setWin w v).tiles = s.tiles := rfl
@[simp] theorem State.setWin_bindings (w : Nat) (v : Window) : (s.setWin w v).bindings = s.bindings := rfl
@[simp] theorem State.setWin_losing (w : Nat) (v : Window) : (s.setWin w v).losing = s.losing := rfl
@[simp] theorem State.setWin_hostTags (w : Nat) (v : Window) : (s.setWin w v).hostTags = s.hostTags := rfl
@[simp] theorem State.setWin_reqs (w : Nat) (v : Window) : (s.setWin w v).reqs = s.reqs := rfl
@[simp] theorem State.setWin_test (w : Nat) (v : Window) : (s.setWin w v).test = s.test := rfl
@[simp] theorem State.setWin_mem (w : Nat) (v : Window) : (s.setWin w v).mem = s.mem := rfl
@[simp] theorem State.setWin_held (w : Nat) (v : Window) : (s.setWin w v).held = s.held := rfl
@[simp] theorem State.setWin_own (w : Nat) (v : Window) : (s.setWin w v).own = s.own := rfl
@[simp] theorem State.setWin_cleaning (w : Nat) (v : Window) : (s.setWin w v).cleaning = s.cleaning := rfl
@[simp] theorem State.setWin_slc (w : Nat) (v : Window) : (s.setWin w v).slc = s.slc := rfl
@[simp] theorem State.setWin_fncs (w : Nat) (v : Window) : (s.setWin w v).fncs = s.fncs := rfl
@[simp] theorem State.setWin_views (w : Nat) (v : Window) : (s.setWin w v).views = s.views := rfl
@[simp] theorem State.setWin_dirty (w : Nat) (v : Window) : (s.setWin w v).dirty = s.dirty := rfl
@[simp] theorem State.setWin_img (w : Nat) (v : Window) : (s.setWin w v).img = s.img := rfl
@[simp] theorem State.setWin_homes (w : Nat) (v : Window) : (s.setWin w v).homes = s.homes := rfl
@[simp] theorem State.setWin_txns (w : Nat) (v : Window) : (s.setWin w v).txns = s.txns := rfl
@[simp] theorem State.setWin_flushes (w : Nat) (v : Window) : (s.setWin w v).flushes = s.flushes := rfl
@[simp] theorem State.setWin_homeTimeout (w : Nat) (v : Window) : (s.setWin w v).homeTimeout = s.homeTimeout := rfl
@[simp] theorem State.setWin_qos (w : Nat) (v : Window) : (s.setWin w v).qos = s.qos := rfl
@[simp] theorem State.setWin_keys (w : Nat) (v : Window) : (s.setWin w v).keys = s.keys := rfl
@[simp] theorem State.setWin_mpt (w : Nat) (v : Window) : (s.setWin w v).mpt = s.mpt := rfl
@[simp] theorem State.setWin_guardOps (w : Nat) (v : Window) : (s.setWin w v).guardOps = s.guardOps := rfl
@[simp] theorem State.setWin_rw (w : Nat) (v : Window) : (s.setWin w v).rw = { s.rw with windows := tset {} s.rw.windows w v } := rfl
@[simp] theorem State.setWin_jobs (w : Nat) (v : Window) : (s.setWin w v).jobs = s.jobs := rfl
@[simp] theorem State.setWin_engines (w : Nat) (v : Window) : (s.setWin w v).engines = s.engines := rfl
@[simp] theorem State.setWin_seqs (w : Nat) (v : Window) : (s.setWin w v).seqs = s.seqs := rfl
@[simp] theorem State.setWin_seqTlb (w : Nat) (v : Window) : (s.setWin w v).seqTlb = s.seqTlb := rfl
@[simp] theorem State.setWin_tin (w : Nat) (v : Window) : (s.setWin w v).tin = s.tin := rfl
@[simp] theorem State.setWin_tines (w : Nat) (v : Window) : (s.setWin w v).tines = s.tines := rfl
@[simp] theorem State.setWin_sas (w : Nat) (v : Window) : (s.setWin w v).sas = s.sas := rfl
@[simp] theorem State.setWin_paths (w : Nat) (v : Window) : (s.setWin w v).paths = s.paths := rfl
@[simp] theorem State.setWin_inbox (w : Nat) (v : Window) : (s.setWin w v).inbox = s.inbox := rfl
@[simp] theorem State.setWin_remotes (w : Nat) (v : Window) : (s.setWin w v).remotes = s.remotes := rfl
@[simp] theorem State.setWin_proxies (w : Nat) (v : Window) : (s.setWin w v).proxies = s.proxies := rfl
@[simp] theorem State.setWin_linkFences (w : Nat) (v : Window) : (s.setWin w v).linkFences = s.linkFences := rfl
@[simp] theorem State.setWin_ctxs (w : Nat) (v : Window) : (s.setWin w v).ctxs = s.ctxs := rfl
@[simp] theorem State.setWin_objs (w : Nat) (v : Window) : (s.setWin w v).objs = s.objs := rfl
@[simp] theorem State.setWin_fences (w : Nat) (v : Window) : (s.setWin w v).fences = s.fences := rfl
@[simp] theorem State.setWin_badFences (w : Nat) (v : Window) : (s.setWin w v).badFences = s.badFences := rfl
@[simp] theorem State.setWin_fpages (w : Nat) (v : Window) : (s.setWin w v).fpages = s.fpages := rfl
@[simp] theorem State.setWin_ctxWin (w : Nat) (v : Window) : (s.setWin w v).ctxWin = s.ctxWin := rfl
@[simp] theorem State.setWin_slots (w : Nat) (v : Window) : (s.setWin w v).slots = s.slots := rfl
@[simp] theorem State.setWin_fills (w : Nat) (v : Window) : (s.setWin w v).fills = s.fills := rfl
@[simp] theorem State.setWin_vault (w : Nat) (v : Window) : (s.setWin w v).vault = s.vault := rfl
@[simp] theorem State.setWin_flt (w : Nat) (v : Window) : (s.setWin w v).flt = s.flt := rfl
@[simp] theorem State.setWin_units (w : Nat) (v : Window) : (s.setWin w v).units = s.units := rfl
@[simp] theorem State.setWin_fawn (w : Nat) (v : Window) : (s.setWin w v).fawn = s.fawn := rfl
@[simp] theorem State.setWin_pair (w : Nat) (v : Window) : (s.setWin w v).pair = s.pair := rfl
@[simp] theorem State.setWin_obs (w : Nat) (v : Window) : (s.setWin w v).obs = s.obs := rfl
@[simp] theorem State.setWin_sink (w : Nat) (v : Window) : (s.setWin w v).sink = s.sink := rfl
@[simp] theorem State.setWin_out (w : Nat) (v : Window) : (s.setWin w v).out = s.out := rfl
@[simp] theorem State.setWin_freeCount (w : Nat) (v : Window) : (s.setWin w v).freeCount = s.freeCount := rfl
@[simp] theorem State.setWin_nextId (w : Nat) (v : Window) : (s.setWin w v).nextId = s.nextId := rfl
@[simp] theorem State.setWin_mgTag (w : Nat) (v : Window) : (s.setWin w v).mgTag = s.mgTag := rfl
@[simp] theorem State.setWin_pending (w : Nat) (v : Window) : (s.setWin w v).pending = s.pending := rfl

/-! ### `State.setEngine` -/

@[simp] theorem State.setEngine_blk (e : Nat) (v : EngineSt) : (s.setEngine e v).blk = s.blk := rfl
@[simp] theorem State.setEngine_ports (e : Nat) (v : EngineSt) : (s.setEngine e v).ports = s.ports := rfl
@[simp] theorem State.setEngine_tiles (e : Nat) (v : EngineSt) : (s.setEngine e v).tiles = s.tiles := rfl
@[simp] theorem State.setEngine_bindings (e : Nat) (v : EngineSt) : (s.setEngine e v).bindings = s.bindings := rfl
@[simp] theorem State.setEngine_losing (e : Nat) (v : EngineSt) : (s.setEngine e v).losing = s.losing := rfl
@[simp] theorem State.setEngine_hostTags (e : Nat) (v : EngineSt) : (s.setEngine e v).hostTags = s.hostTags := rfl
@[simp] theorem State.setEngine_reqs (e : Nat) (v : EngineSt) : (s.setEngine e v).reqs = s.reqs := rfl
@[simp] theorem State.setEngine_test (e : Nat) (v : EngineSt) : (s.setEngine e v).test = s.test := rfl
@[simp] theorem State.setEngine_mem (e : Nat) (v : EngineSt) : (s.setEngine e v).mem = s.mem := rfl
@[simp] theorem State.setEngine_held (e : Nat) (v : EngineSt) : (s.setEngine e v).held = s.held := rfl
@[simp] theorem State.setEngine_own (e : Nat) (v : EngineSt) : (s.setEngine e v).own = s.own := rfl
@[simp] theorem State.setEngine_cleaning (e : Nat) (v : EngineSt) : (s.setEngine e v).cleaning = s.cleaning := rfl
@[simp] theorem State.setEngine_slc (e : Nat) (v : EngineSt) : (s.setEngine e v).slc = s.slc := rfl
@[simp] theorem State.setEngine_fncs (e : Nat) (v : EngineSt) : (s.setEngine e v).fncs = s.fncs := rfl
@[simp] theorem State.setEngine_views (e : Nat) (v : EngineSt) : (s.setEngine e v).views = s.views := rfl
@[simp] theorem State.setEngine_dirty (e : Nat) (v : EngineSt) : (s.setEngine e v).dirty = s.dirty := rfl
@[simp] theorem State.setEngine_img (e : Nat) (v : EngineSt) : (s.setEngine e v).img = s.img := rfl
@[simp] theorem State.setEngine_homes (e : Nat) (v : EngineSt) : (s.setEngine e v).homes = s.homes := rfl
@[simp] theorem State.setEngine_txns (e : Nat) (v : EngineSt) : (s.setEngine e v).txns = s.txns := rfl
@[simp] theorem State.setEngine_flushes (e : Nat) (v : EngineSt) : (s.setEngine e v).flushes = s.flushes := rfl
@[simp] theorem State.setEngine_homeTimeout (e : Nat) (v : EngineSt) : (s.setEngine e v).homeTimeout = s.homeTimeout := rfl
@[simp] theorem State.setEngine_qos (e : Nat) (v : EngineSt) : (s.setEngine e v).qos = s.qos := rfl
@[simp] theorem State.setEngine_keys (e : Nat) (v : EngineSt) : (s.setEngine e v).keys = s.keys := rfl
@[simp] theorem State.setEngine_mpt (e : Nat) (v : EngineSt) : (s.setEngine e v).mpt = s.mpt := rfl
@[simp] theorem State.setEngine_guardOps (e : Nat) (v : EngineSt) : (s.setEngine e v).guardOps = s.guardOps := rfl
@[simp] theorem State.setEngine_rw (e : Nat) (v : EngineSt) : (s.setEngine e v).rw = s.rw := rfl
@[simp] theorem State.setEngine_jobs (e : Nat) (v : EngineSt) : (s.setEngine e v).jobs = s.jobs := rfl
@[simp] theorem State.setEngine_engines (e : Nat) (v : EngineSt) : (s.setEngine e v).engines = tset {} s.engines e v := rfl
@[simp] theorem State.setEngine_seqs (e : Nat) (v : EngineSt) : (s.setEngine e v).seqs = s.seqs := rfl
@[simp] theorem State.setEngine_seqTlb (e : Nat) (v : EngineSt) : (s.setEngine e v).seqTlb = s.seqTlb := rfl
@[simp] theorem State.setEngine_tin (e : Nat) (v : EngineSt) : (s.setEngine e v).tin = s.tin := rfl
@[simp] theorem State.setEngine_tines (e : Nat) (v : EngineSt) : (s.setEngine e v).tines = s.tines := rfl
@[simp] theorem State.setEngine_sas (e : Nat) (v : EngineSt) : (s.setEngine e v).sas = s.sas := rfl
@[simp] theorem State.setEngine_paths (e : Nat) (v : EngineSt) : (s.setEngine e v).paths = s.paths := rfl
@[simp] theorem State.setEngine_inbox (e : Nat) (v : EngineSt) : (s.setEngine e v).inbox = s.inbox := rfl
@[simp] theorem State.setEngine_remotes (e : Nat) (v : EngineSt) : (s.setEngine e v).remotes = s.remotes := rfl
@[simp] theorem State.setEngine_proxies (e : Nat) (v : EngineSt) : (s.setEngine e v).proxies = s.proxies := rfl
@[simp] theorem State.setEngine_linkFences (e : Nat) (v : EngineSt) : (s.setEngine e v).linkFences = s.linkFences := rfl
@[simp] theorem State.setEngine_ctxs (e : Nat) (v : EngineSt) : (s.setEngine e v).ctxs = s.ctxs := rfl
@[simp] theorem State.setEngine_objs (e : Nat) (v : EngineSt) : (s.setEngine e v).objs = s.objs := rfl
@[simp] theorem State.setEngine_fences (e : Nat) (v : EngineSt) : (s.setEngine e v).fences = s.fences := rfl
@[simp] theorem State.setEngine_badFences (e : Nat) (v : EngineSt) : (s.setEngine e v).badFences = s.badFences := rfl
@[simp] theorem State.setEngine_fpages (e : Nat) (v : EngineSt) : (s.setEngine e v).fpages = s.fpages := rfl
@[simp] theorem State.setEngine_ctxWin (e : Nat) (v : EngineSt) : (s.setEngine e v).ctxWin = s.ctxWin := rfl
@[simp] theorem State.setEngine_slots (e : Nat) (v : EngineSt) : (s.setEngine e v).slots = s.slots := rfl
@[simp] theorem State.setEngine_fills (e : Nat) (v : EngineSt) : (s.setEngine e v).fills = s.fills := rfl
@[simp] theorem State.setEngine_vault (e : Nat) (v : EngineSt) : (s.setEngine e v).vault = s.vault := rfl
@[simp] theorem State.setEngine_flt (e : Nat) (v : EngineSt) : (s.setEngine e v).flt = s.flt := rfl
@[simp] theorem State.setEngine_units (e : Nat) (v : EngineSt) : (s.setEngine e v).units = s.units := rfl
@[simp] theorem State.setEngine_fawn (e : Nat) (v : EngineSt) : (s.setEngine e v).fawn = s.fawn := rfl
@[simp] theorem State.setEngine_pair (e : Nat) (v : EngineSt) : (s.setEngine e v).pair = s.pair := rfl
@[simp] theorem State.setEngine_obs (e : Nat) (v : EngineSt) : (s.setEngine e v).obs = s.obs := rfl
@[simp] theorem State.setEngine_sink (e : Nat) (v : EngineSt) : (s.setEngine e v).sink = s.sink := rfl
@[simp] theorem State.setEngine_out (e : Nat) (v : EngineSt) : (s.setEngine e v).out = s.out := rfl
@[simp] theorem State.setEngine_freeCount (e : Nat) (v : EngineSt) : (s.setEngine e v).freeCount = s.freeCount := rfl
@[simp] theorem State.setEngine_nextId (e : Nat) (v : EngineSt) : (s.setEngine e v).nextId = s.nextId := rfl
@[simp] theorem State.setEngine_mgTag (e : Nat) (v : EngineSt) : (s.setEngine e v).mgTag = s.mgTag := rfl
@[simp] theorem State.setEngine_pending (e : Nat) (v : EngineSt) : (s.setEngine e v).pending = s.pending := rfl

/-! ### `State.setSeqw` -/

@[simp] theorem State.setSeqw_blk (i : Nat) (v : SeqWin) : (s.setSeqw i v).blk = s.blk := rfl
@[simp] theorem State.setSeqw_ports (i : Nat) (v : SeqWin) : (s.setSeqw i v).ports = s.ports := rfl
@[simp] theorem State.setSeqw_tiles (i : Nat) (v : SeqWin) : (s.setSeqw i v).tiles = s.tiles := rfl
@[simp] theorem State.setSeqw_bindings (i : Nat) (v : SeqWin) : (s.setSeqw i v).bindings = s.bindings := rfl
@[simp] theorem State.setSeqw_losing (i : Nat) (v : SeqWin) : (s.setSeqw i v).losing = s.losing := rfl
@[simp] theorem State.setSeqw_hostTags (i : Nat) (v : SeqWin) : (s.setSeqw i v).hostTags = s.hostTags := rfl
@[simp] theorem State.setSeqw_reqs (i : Nat) (v : SeqWin) : (s.setSeqw i v).reqs = s.reqs := rfl
@[simp] theorem State.setSeqw_test (i : Nat) (v : SeqWin) : (s.setSeqw i v).test = s.test := rfl
@[simp] theorem State.setSeqw_mem (i : Nat) (v : SeqWin) : (s.setSeqw i v).mem = s.mem := rfl
@[simp] theorem State.setSeqw_held (i : Nat) (v : SeqWin) : (s.setSeqw i v).held = s.held := rfl
@[simp] theorem State.setSeqw_own (i : Nat) (v : SeqWin) : (s.setSeqw i v).own = s.own := rfl
@[simp] theorem State.setSeqw_cleaning (i : Nat) (v : SeqWin) : (s.setSeqw i v).cleaning = s.cleaning := rfl
@[simp] theorem State.setSeqw_slc (i : Nat) (v : SeqWin) : (s.setSeqw i v).slc = s.slc := rfl
@[simp] theorem State.setSeqw_fncs (i : Nat) (v : SeqWin) : (s.setSeqw i v).fncs = s.fncs := rfl
@[simp] theorem State.setSeqw_views (i : Nat) (v : SeqWin) : (s.setSeqw i v).views = s.views := rfl
@[simp] theorem State.setSeqw_dirty (i : Nat) (v : SeqWin) : (s.setSeqw i v).dirty = s.dirty := rfl
@[simp] theorem State.setSeqw_img (i : Nat) (v : SeqWin) : (s.setSeqw i v).img = s.img := rfl
@[simp] theorem State.setSeqw_homes (i : Nat) (v : SeqWin) : (s.setSeqw i v).homes = s.homes := rfl
@[simp] theorem State.setSeqw_txns (i : Nat) (v : SeqWin) : (s.setSeqw i v).txns = s.txns := rfl
@[simp] theorem State.setSeqw_flushes (i : Nat) (v : SeqWin) : (s.setSeqw i v).flushes = s.flushes := rfl
@[simp] theorem State.setSeqw_homeTimeout (i : Nat) (v : SeqWin) : (s.setSeqw i v).homeTimeout = s.homeTimeout := rfl
@[simp] theorem State.setSeqw_qos (i : Nat) (v : SeqWin) : (s.setSeqw i v).qos = s.qos := rfl
@[simp] theorem State.setSeqw_keys (i : Nat) (v : SeqWin) : (s.setSeqw i v).keys = s.keys := rfl
@[simp] theorem State.setSeqw_mpt (i : Nat) (v : SeqWin) : (s.setSeqw i v).mpt = s.mpt := rfl
@[simp] theorem State.setSeqw_guardOps (i : Nat) (v : SeqWin) : (s.setSeqw i v).guardOps = s.guardOps := rfl
@[simp] theorem State.setSeqw_rw (i : Nat) (v : SeqWin) : (s.setSeqw i v).rw = s.rw := rfl
@[simp] theorem State.setSeqw_jobs (i : Nat) (v : SeqWin) : (s.setSeqw i v).jobs = s.jobs := rfl
@[simp] theorem State.setSeqw_engines (i : Nat) (v : SeqWin) : (s.setSeqw i v).engines = s.engines := rfl
@[simp] theorem State.setSeqw_seqs (i : Nat) (v : SeqWin) : (s.setSeqw i v).seqs = tset {} s.seqs i v := rfl
@[simp] theorem State.setSeqw_seqTlb (i : Nat) (v : SeqWin) : (s.setSeqw i v).seqTlb = s.seqTlb := rfl
@[simp] theorem State.setSeqw_tin (i : Nat) (v : SeqWin) : (s.setSeqw i v).tin = s.tin := rfl
@[simp] theorem State.setSeqw_tines (i : Nat) (v : SeqWin) : (s.setSeqw i v).tines = s.tines := rfl
@[simp] theorem State.setSeqw_sas (i : Nat) (v : SeqWin) : (s.setSeqw i v).sas = s.sas := rfl
@[simp] theorem State.setSeqw_paths (i : Nat) (v : SeqWin) : (s.setSeqw i v).paths = s.paths := rfl
@[simp] theorem State.setSeqw_inbox (i : Nat) (v : SeqWin) : (s.setSeqw i v).inbox = s.inbox := rfl
@[simp] theorem State.setSeqw_remotes (i : Nat) (v : SeqWin) : (s.setSeqw i v).remotes = s.remotes := rfl
@[simp] theorem State.setSeqw_proxies (i : Nat) (v : SeqWin) : (s.setSeqw i v).proxies = s.proxies := rfl
@[simp] theorem State.setSeqw_linkFences (i : Nat) (v : SeqWin) : (s.setSeqw i v).linkFences = s.linkFences := rfl
@[simp] theorem State.setSeqw_ctxs (i : Nat) (v : SeqWin) : (s.setSeqw i v).ctxs = s.ctxs := rfl
@[simp] theorem State.setSeqw_objs (i : Nat) (v : SeqWin) : (s.setSeqw i v).objs = s.objs := rfl
@[simp] theorem State.setSeqw_fences (i : Nat) (v : SeqWin) : (s.setSeqw i v).fences = s.fences := rfl
@[simp] theorem State.setSeqw_badFences (i : Nat) (v : SeqWin) : (s.setSeqw i v).badFences = s.badFences := rfl
@[simp] theorem State.setSeqw_fpages (i : Nat) (v : SeqWin) : (s.setSeqw i v).fpages = s.fpages := rfl
@[simp] theorem State.setSeqw_ctxWin (i : Nat) (v : SeqWin) : (s.setSeqw i v).ctxWin = s.ctxWin := rfl
@[simp] theorem State.setSeqw_slots (i : Nat) (v : SeqWin) : (s.setSeqw i v).slots = s.slots := rfl
@[simp] theorem State.setSeqw_fills (i : Nat) (v : SeqWin) : (s.setSeqw i v).fills = s.fills := rfl
@[simp] theorem State.setSeqw_vault (i : Nat) (v : SeqWin) : (s.setSeqw i v).vault = s.vault := rfl
@[simp] theorem State.setSeqw_flt (i : Nat) (v : SeqWin) : (s.setSeqw i v).flt = s.flt := rfl
@[simp] theorem State.setSeqw_units (i : Nat) (v : SeqWin) : (s.setSeqw i v).units = s.units := rfl
@[simp] theorem State.setSeqw_fawn (i : Nat) (v : SeqWin) : (s.setSeqw i v).fawn = s.fawn := rfl
@[simp] theorem State.setSeqw_pair (i : Nat) (v : SeqWin) : (s.setSeqw i v).pair = s.pair := rfl
@[simp] theorem State.setSeqw_obs (i : Nat) (v : SeqWin) : (s.setSeqw i v).obs = s.obs := rfl
@[simp] theorem State.setSeqw_sink (i : Nat) (v : SeqWin) : (s.setSeqw i v).sink = s.sink := rfl
@[simp] theorem State.setSeqw_out (i : Nat) (v : SeqWin) : (s.setSeqw i v).out = s.out := rfl
@[simp] theorem State.setSeqw_freeCount (i : Nat) (v : SeqWin) : (s.setSeqw i v).freeCount = s.freeCount := rfl
@[simp] theorem State.setSeqw_nextId (i : Nat) (v : SeqWin) : (s.setSeqw i v).nextId = s.nextId := rfl
@[simp] theorem State.setSeqw_mgTag (i : Nat) (v : SeqWin) : (s.setSeqw i v).mgTag = s.mgTag := rfl
@[simp] theorem State.setSeqw_pending (i : Nat) (v : SeqWin) : (s.setSeqw i v).pending = s.pending := rfl

/-! ### `State.setTine` -/

@[simp] theorem State.setTine_blk (t : Nat) (v : TineSt) : (s.setTine t v).blk = s.blk := rfl
@[simp] theorem State.setTine_ports (t : Nat) (v : TineSt) : (s.setTine t v).ports = s.ports := rfl
@[simp] theorem State.setTine_tiles (t : Nat) (v : TineSt) : (s.setTine t v).tiles = s.tiles := rfl
@[simp] theorem State.setTine_bindings (t : Nat) (v : TineSt) : (s.setTine t v).bindings = s.bindings := rfl
@[simp] theorem State.setTine_losing (t : Nat) (v : TineSt) : (s.setTine t v).losing = s.losing := rfl
@[simp] theorem State.setTine_hostTags (t : Nat) (v : TineSt) : (s.setTine t v).hostTags = s.hostTags := rfl
@[simp] theorem State.setTine_reqs (t : Nat) (v : TineSt) : (s.setTine t v).reqs = s.reqs := rfl
@[simp] theorem State.setTine_test (t : Nat) (v : TineSt) : (s.setTine t v).test = s.test := rfl
@[simp] theorem State.setTine_mem (t : Nat) (v : TineSt) : (s.setTine t v).mem = s.mem := rfl
@[simp] theorem State.setTine_held (t : Nat) (v : TineSt) : (s.setTine t v).held = s.held := rfl
@[simp] theorem State.setTine_own (t : Nat) (v : TineSt) : (s.setTine t v).own = s.own := rfl
@[simp] theorem State.setTine_cleaning (t : Nat) (v : TineSt) : (s.setTine t v).cleaning = s.cleaning := rfl
@[simp] theorem State.setTine_slc (t : Nat) (v : TineSt) : (s.setTine t v).slc = s.slc := rfl
@[simp] theorem State.setTine_fncs (t : Nat) (v : TineSt) : (s.setTine t v).fncs = s.fncs := rfl
@[simp] theorem State.setTine_views (t : Nat) (v : TineSt) : (s.setTine t v).views = s.views := rfl
@[simp] theorem State.setTine_dirty (t : Nat) (v : TineSt) : (s.setTine t v).dirty = s.dirty := rfl
@[simp] theorem State.setTine_img (t : Nat) (v : TineSt) : (s.setTine t v).img = s.img := rfl
@[simp] theorem State.setTine_homes (t : Nat) (v : TineSt) : (s.setTine t v).homes = s.homes := rfl
@[simp] theorem State.setTine_txns (t : Nat) (v : TineSt) : (s.setTine t v).txns = s.txns := rfl
@[simp] theorem State.setTine_flushes (t : Nat) (v : TineSt) : (s.setTine t v).flushes = s.flushes := rfl
@[simp] theorem State.setTine_homeTimeout (t : Nat) (v : TineSt) : (s.setTine t v).homeTimeout = s.homeTimeout := rfl
@[simp] theorem State.setTine_qos (t : Nat) (v : TineSt) : (s.setTine t v).qos = s.qos := rfl
@[simp] theorem State.setTine_keys (t : Nat) (v : TineSt) : (s.setTine t v).keys = s.keys := rfl
@[simp] theorem State.setTine_mpt (t : Nat) (v : TineSt) : (s.setTine t v).mpt = s.mpt := rfl
@[simp] theorem State.setTine_guardOps (t : Nat) (v : TineSt) : (s.setTine t v).guardOps = s.guardOps := rfl
@[simp] theorem State.setTine_rw (t : Nat) (v : TineSt) : (s.setTine t v).rw = s.rw := rfl
@[simp] theorem State.setTine_jobs (t : Nat) (v : TineSt) : (s.setTine t v).jobs = s.jobs := rfl
@[simp] theorem State.setTine_engines (t : Nat) (v : TineSt) : (s.setTine t v).engines = s.engines := rfl
@[simp] theorem State.setTine_seqs (t : Nat) (v : TineSt) : (s.setTine t v).seqs = s.seqs := rfl
@[simp] theorem State.setTine_seqTlb (t : Nat) (v : TineSt) : (s.setTine t v).seqTlb = s.seqTlb := rfl
@[simp] theorem State.setTine_tin (t : Nat) (v : TineSt) : (s.setTine t v).tin = s.tin := rfl
@[simp] theorem State.setTine_tines (t : Nat) (v : TineSt) : (s.setTine t v).tines = tset (tineInit t) s.tines t v := rfl
@[simp] theorem State.setTine_sas (t : Nat) (v : TineSt) : (s.setTine t v).sas = s.sas := rfl
@[simp] theorem State.setTine_paths (t : Nat) (v : TineSt) : (s.setTine t v).paths = s.paths := rfl
@[simp] theorem State.setTine_inbox (t : Nat) (v : TineSt) : (s.setTine t v).inbox = s.inbox := rfl
@[simp] theorem State.setTine_remotes (t : Nat) (v : TineSt) : (s.setTine t v).remotes = s.remotes := rfl
@[simp] theorem State.setTine_proxies (t : Nat) (v : TineSt) : (s.setTine t v).proxies = s.proxies := rfl
@[simp] theorem State.setTine_linkFences (t : Nat) (v : TineSt) : (s.setTine t v).linkFences = s.linkFences := rfl
@[simp] theorem State.setTine_ctxs (t : Nat) (v : TineSt) : (s.setTine t v).ctxs = s.ctxs := rfl
@[simp] theorem State.setTine_objs (t : Nat) (v : TineSt) : (s.setTine t v).objs = s.objs := rfl
@[simp] theorem State.setTine_fences (t : Nat) (v : TineSt) : (s.setTine t v).fences = s.fences := rfl
@[simp] theorem State.setTine_badFences (t : Nat) (v : TineSt) : (s.setTine t v).badFences = s.badFences := rfl
@[simp] theorem State.setTine_fpages (t : Nat) (v : TineSt) : (s.setTine t v).fpages = s.fpages := rfl
@[simp] theorem State.setTine_ctxWin (t : Nat) (v : TineSt) : (s.setTine t v).ctxWin = s.ctxWin := rfl
@[simp] theorem State.setTine_slots (t : Nat) (v : TineSt) : (s.setTine t v).slots = s.slots := rfl
@[simp] theorem State.setTine_fills (t : Nat) (v : TineSt) : (s.setTine t v).fills = s.fills := rfl
@[simp] theorem State.setTine_vault (t : Nat) (v : TineSt) : (s.setTine t v).vault = s.vault := rfl
@[simp] theorem State.setTine_flt (t : Nat) (v : TineSt) : (s.setTine t v).flt = s.flt := rfl
@[simp] theorem State.setTine_units (t : Nat) (v : TineSt) : (s.setTine t v).units = s.units := rfl
@[simp] theorem State.setTine_fawn (t : Nat) (v : TineSt) : (s.setTine t v).fawn = s.fawn := rfl
@[simp] theorem State.setTine_pair (t : Nat) (v : TineSt) : (s.setTine t v).pair = s.pair := rfl
@[simp] theorem State.setTine_obs (t : Nat) (v : TineSt) : (s.setTine t v).obs = s.obs := rfl
@[simp] theorem State.setTine_sink (t : Nat) (v : TineSt) : (s.setTine t v).sink = s.sink := rfl
@[simp] theorem State.setTine_out (t : Nat) (v : TineSt) : (s.setTine t v).out = s.out := rfl
@[simp] theorem State.setTine_freeCount (t : Nat) (v : TineSt) : (s.setTine t v).freeCount = s.freeCount := rfl
@[simp] theorem State.setTine_nextId (t : Nat) (v : TineSt) : (s.setTine t v).nextId = s.nextId := rfl
@[simp] theorem State.setTine_mgTag (t : Nat) (v : TineSt) : (s.setTine t v).mgTag = s.mgTag := rfl
@[simp] theorem State.setTine_pending (t : Nat) (v : TineSt) : (s.setTine t v).pending = s.pending := rfl

/-! ### `State.setSa` -/

@[simp] theorem State.setSa_blk (n : Nat) (v : SaSt) : (s.setSa n v).blk = s.blk := rfl
@[simp] theorem State.setSa_ports (n : Nat) (v : SaSt) : (s.setSa n v).ports = s.ports := rfl
@[simp] theorem State.setSa_tiles (n : Nat) (v : SaSt) : (s.setSa n v).tiles = s.tiles := rfl
@[simp] theorem State.setSa_bindings (n : Nat) (v : SaSt) : (s.setSa n v).bindings = s.bindings := rfl
@[simp] theorem State.setSa_losing (n : Nat) (v : SaSt) : (s.setSa n v).losing = s.losing := rfl
@[simp] theorem State.setSa_hostTags (n : Nat) (v : SaSt) : (s.setSa n v).hostTags = s.hostTags := rfl
@[simp] theorem State.setSa_reqs (n : Nat) (v : SaSt) : (s.setSa n v).reqs = s.reqs := rfl
@[simp] theorem State.setSa_test (n : Nat) (v : SaSt) : (s.setSa n v).test = s.test := rfl
@[simp] theorem State.setSa_mem (n : Nat) (v : SaSt) : (s.setSa n v).mem = s.mem := rfl
@[simp] theorem State.setSa_held (n : Nat) (v : SaSt) : (s.setSa n v).held = s.held := rfl
@[simp] theorem State.setSa_own (n : Nat) (v : SaSt) : (s.setSa n v).own = s.own := rfl
@[simp] theorem State.setSa_cleaning (n : Nat) (v : SaSt) : (s.setSa n v).cleaning = s.cleaning := rfl
@[simp] theorem State.setSa_slc (n : Nat) (v : SaSt) : (s.setSa n v).slc = s.slc := rfl
@[simp] theorem State.setSa_fncs (n : Nat) (v : SaSt) : (s.setSa n v).fncs = s.fncs := rfl
@[simp] theorem State.setSa_views (n : Nat) (v : SaSt) : (s.setSa n v).views = s.views := rfl
@[simp] theorem State.setSa_dirty (n : Nat) (v : SaSt) : (s.setSa n v).dirty = s.dirty := rfl
@[simp] theorem State.setSa_img (n : Nat) (v : SaSt) : (s.setSa n v).img = s.img := rfl
@[simp] theorem State.setSa_homes (n : Nat) (v : SaSt) : (s.setSa n v).homes = s.homes := rfl
@[simp] theorem State.setSa_txns (n : Nat) (v : SaSt) : (s.setSa n v).txns = s.txns := rfl
@[simp] theorem State.setSa_flushes (n : Nat) (v : SaSt) : (s.setSa n v).flushes = s.flushes := rfl
@[simp] theorem State.setSa_homeTimeout (n : Nat) (v : SaSt) : (s.setSa n v).homeTimeout = s.homeTimeout := rfl
@[simp] theorem State.setSa_qos (n : Nat) (v : SaSt) : (s.setSa n v).qos = s.qos := rfl
@[simp] theorem State.setSa_keys (n : Nat) (v : SaSt) : (s.setSa n v).keys = s.keys := rfl
@[simp] theorem State.setSa_mpt (n : Nat) (v : SaSt) : (s.setSa n v).mpt = s.mpt := rfl
@[simp] theorem State.setSa_guardOps (n : Nat) (v : SaSt) : (s.setSa n v).guardOps = s.guardOps := rfl
@[simp] theorem State.setSa_rw (n : Nat) (v : SaSt) : (s.setSa n v).rw = s.rw := rfl
@[simp] theorem State.setSa_jobs (n : Nat) (v : SaSt) : (s.setSa n v).jobs = s.jobs := rfl
@[simp] theorem State.setSa_engines (n : Nat) (v : SaSt) : (s.setSa n v).engines = s.engines := rfl
@[simp] theorem State.setSa_seqs (n : Nat) (v : SaSt) : (s.setSa n v).seqs = s.seqs := rfl
@[simp] theorem State.setSa_seqTlb (n : Nat) (v : SaSt) : (s.setSa n v).seqTlb = s.seqTlb := rfl
@[simp] theorem State.setSa_tin (n : Nat) (v : SaSt) : (s.setSa n v).tin = s.tin := rfl
@[simp] theorem State.setSa_tines (n : Nat) (v : SaSt) : (s.setSa n v).tines = s.tines := rfl
@[simp] theorem State.setSa_sas (n : Nat) (v : SaSt) : (s.setSa n v).sas = tset {} s.sas n v := rfl
@[simp] theorem State.setSa_paths (n : Nat) (v : SaSt) : (s.setSa n v).paths = s.paths := rfl
@[simp] theorem State.setSa_inbox (n : Nat) (v : SaSt) : (s.setSa n v).inbox = s.inbox := rfl
@[simp] theorem State.setSa_remotes (n : Nat) (v : SaSt) : (s.setSa n v).remotes = s.remotes := rfl
@[simp] theorem State.setSa_proxies (n : Nat) (v : SaSt) : (s.setSa n v).proxies = s.proxies := rfl
@[simp] theorem State.setSa_linkFences (n : Nat) (v : SaSt) : (s.setSa n v).linkFences = s.linkFences := rfl
@[simp] theorem State.setSa_ctxs (n : Nat) (v : SaSt) : (s.setSa n v).ctxs = s.ctxs := rfl
@[simp] theorem State.setSa_objs (n : Nat) (v : SaSt) : (s.setSa n v).objs = s.objs := rfl
@[simp] theorem State.setSa_fences (n : Nat) (v : SaSt) : (s.setSa n v).fences = s.fences := rfl
@[simp] theorem State.setSa_badFences (n : Nat) (v : SaSt) : (s.setSa n v).badFences = s.badFences := rfl
@[simp] theorem State.setSa_fpages (n : Nat) (v : SaSt) : (s.setSa n v).fpages = s.fpages := rfl
@[simp] theorem State.setSa_ctxWin (n : Nat) (v : SaSt) : (s.setSa n v).ctxWin = s.ctxWin := rfl
@[simp] theorem State.setSa_slots (n : Nat) (v : SaSt) : (s.setSa n v).slots = s.slots := rfl
@[simp] theorem State.setSa_fills (n : Nat) (v : SaSt) : (s.setSa n v).fills = s.fills := rfl
@[simp] theorem State.setSa_vault (n : Nat) (v : SaSt) : (s.setSa n v).vault = s.vault := rfl
@[simp] theorem State.setSa_flt (n : Nat) (v : SaSt) : (s.setSa n v).flt = s.flt := rfl
@[simp] theorem State.setSa_units (n : Nat) (v : SaSt) : (s.setSa n v).units = s.units := rfl
@[simp] theorem State.setSa_fawn (n : Nat) (v : SaSt) : (s.setSa n v).fawn = s.fawn := rfl
@[simp] theorem State.setSa_pair (n : Nat) (v : SaSt) : (s.setSa n v).pair = s.pair := rfl
@[simp] theorem State.setSa_obs (n : Nat) (v : SaSt) : (s.setSa n v).obs = s.obs := rfl
@[simp] theorem State.setSa_sink (n : Nat) (v : SaSt) : (s.setSa n v).sink = s.sink := rfl
@[simp] theorem State.setSa_out (n : Nat) (v : SaSt) : (s.setSa n v).out = s.out := rfl
@[simp] theorem State.setSa_freeCount (n : Nat) (v : SaSt) : (s.setSa n v).freeCount = s.freeCount := rfl
@[simp] theorem State.setSa_nextId (n : Nat) (v : SaSt) : (s.setSa n v).nextId = s.nextId := rfl
@[simp] theorem State.setSa_mgTag (n : Nat) (v : SaSt) : (s.setSa n v).mgTag = s.mgTag := rfl
@[simp] theorem State.setSa_pending (n : Nat) (v : SaSt) : (s.setSa n v).pending = s.pending := rfl

/-! ### `State.setPath` -/

@[simp] theorem State.setPath_blk (n path : Nat) (v : PathSt) : (s.setPath n path v).blk = s.blk := rfl
@[simp] theorem State.setPath_ports (n path : Nat) (v : PathSt) : (s.setPath n path v).ports = s.ports := rfl
@[simp] theorem State.setPath_tiles (n path : Nat) (v : PathSt) : (s.setPath n path v).tiles = s.tiles := rfl
@[simp] theorem State.setPath_bindings (n path : Nat) (v : PathSt) : (s.setPath n path v).bindings = s.bindings := rfl
@[simp] theorem State.setPath_losing (n path : Nat) (v : PathSt) : (s.setPath n path v).losing = s.losing := rfl
@[simp] theorem State.setPath_hostTags (n path : Nat) (v : PathSt) : (s.setPath n path v).hostTags = s.hostTags := rfl
@[simp] theorem State.setPath_reqs (n path : Nat) (v : PathSt) : (s.setPath n path v).reqs = s.reqs := rfl
@[simp] theorem State.setPath_test (n path : Nat) (v : PathSt) : (s.setPath n path v).test = s.test := rfl
@[simp] theorem State.setPath_mem (n path : Nat) (v : PathSt) : (s.setPath n path v).mem = s.mem := rfl
@[simp] theorem State.setPath_held (n path : Nat) (v : PathSt) : (s.setPath n path v).held = s.held := rfl
@[simp] theorem State.setPath_own (n path : Nat) (v : PathSt) : (s.setPath n path v).own = s.own := rfl
@[simp] theorem State.setPath_cleaning (n path : Nat) (v : PathSt) : (s.setPath n path v).cleaning = s.cleaning := rfl
@[simp] theorem State.setPath_slc (n path : Nat) (v : PathSt) : (s.setPath n path v).slc = s.slc := rfl
@[simp] theorem State.setPath_fncs (n path : Nat) (v : PathSt) : (s.setPath n path v).fncs = s.fncs := rfl
@[simp] theorem State.setPath_views (n path : Nat) (v : PathSt) : (s.setPath n path v).views = s.views := rfl
@[simp] theorem State.setPath_dirty (n path : Nat) (v : PathSt) : (s.setPath n path v).dirty = s.dirty := rfl
@[simp] theorem State.setPath_img (n path : Nat) (v : PathSt) : (s.setPath n path v).img = s.img := rfl
@[simp] theorem State.setPath_homes (n path : Nat) (v : PathSt) : (s.setPath n path v).homes = s.homes := rfl
@[simp] theorem State.setPath_txns (n path : Nat) (v : PathSt) : (s.setPath n path v).txns = s.txns := rfl
@[simp] theorem State.setPath_flushes (n path : Nat) (v : PathSt) : (s.setPath n path v).flushes = s.flushes := rfl
@[simp] theorem State.setPath_homeTimeout (n path : Nat) (v : PathSt) : (s.setPath n path v).homeTimeout = s.homeTimeout := rfl
@[simp] theorem State.setPath_qos (n path : Nat) (v : PathSt) : (s.setPath n path v).qos = s.qos := rfl
@[simp] theorem State.setPath_keys (n path : Nat) (v : PathSt) : (s.setPath n path v).keys = s.keys := rfl
@[simp] theorem State.setPath_mpt (n path : Nat) (v : PathSt) : (s.setPath n path v).mpt = s.mpt := rfl
@[simp] theorem State.setPath_guardOps (n path : Nat) (v : PathSt) : (s.setPath n path v).guardOps = s.guardOps := rfl
@[simp] theorem State.setPath_rw (n path : Nat) (v : PathSt) : (s.setPath n path v).rw = s.rw := rfl
@[simp] theorem State.setPath_jobs (n path : Nat) (v : PathSt) : (s.setPath n path v).jobs = s.jobs := rfl
@[simp] theorem State.setPath_engines (n path : Nat) (v : PathSt) : (s.setPath n path v).engines = s.engines := rfl
@[simp] theorem State.setPath_seqs (n path : Nat) (v : PathSt) : (s.setPath n path v).seqs = s.seqs := rfl
@[simp] theorem State.setPath_seqTlb (n path : Nat) (v : PathSt) : (s.setPath n path v).seqTlb = s.seqTlb := rfl
@[simp] theorem State.setPath_tin (n path : Nat) (v : PathSt) : (s.setPath n path v).tin = s.tin := rfl
@[simp] theorem State.setPath_tines (n path : Nat) (v : PathSt) : (s.setPath n path v).tines = s.tines := rfl
@[simp] theorem State.setPath_sas (n path : Nat) (v : PathSt) : (s.setPath n path v).sas = s.sas := rfl
@[simp] theorem State.setPath_paths (n path : Nat) (v : PathSt) : (s.setPath n path v).paths = tset {} s.paths (n * 256 + path) v := rfl
@[simp] theorem State.setPath_inbox (n path : Nat) (v : PathSt) : (s.setPath n path v).inbox = s.inbox := rfl
@[simp] theorem State.setPath_remotes (n path : Nat) (v : PathSt) : (s.setPath n path v).remotes = s.remotes := rfl
@[simp] theorem State.setPath_proxies (n path : Nat) (v : PathSt) : (s.setPath n path v).proxies = s.proxies := rfl
@[simp] theorem State.setPath_linkFences (n path : Nat) (v : PathSt) : (s.setPath n path v).linkFences = s.linkFences := rfl
@[simp] theorem State.setPath_ctxs (n path : Nat) (v : PathSt) : (s.setPath n path v).ctxs = s.ctxs := rfl
@[simp] theorem State.setPath_objs (n path : Nat) (v : PathSt) : (s.setPath n path v).objs = s.objs := rfl
@[simp] theorem State.setPath_fences (n path : Nat) (v : PathSt) : (s.setPath n path v).fences = s.fences := rfl
@[simp] theorem State.setPath_badFences (n path : Nat) (v : PathSt) : (s.setPath n path v).badFences = s.badFences := rfl
@[simp] theorem State.setPath_fpages (n path : Nat) (v : PathSt) : (s.setPath n path v).fpages = s.fpages := rfl
@[simp] theorem State.setPath_ctxWin (n path : Nat) (v : PathSt) : (s.setPath n path v).ctxWin = s.ctxWin := rfl
@[simp] theorem State.setPath_slots (n path : Nat) (v : PathSt) : (s.setPath n path v).slots = s.slots := rfl
@[simp] theorem State.setPath_fills (n path : Nat) (v : PathSt) : (s.setPath n path v).fills = s.fills := rfl
@[simp] theorem State.setPath_vault (n path : Nat) (v : PathSt) : (s.setPath n path v).vault = s.vault := rfl
@[simp] theorem State.setPath_flt (n path : Nat) (v : PathSt) : (s.setPath n path v).flt = s.flt := rfl
@[simp] theorem State.setPath_units (n path : Nat) (v : PathSt) : (s.setPath n path v).units = s.units := rfl
@[simp] theorem State.setPath_fawn (n path : Nat) (v : PathSt) : (s.setPath n path v).fawn = s.fawn := rfl
@[simp] theorem State.setPath_pair (n path : Nat) (v : PathSt) : (s.setPath n path v).pair = s.pair := rfl
@[simp] theorem State.setPath_obs (n path : Nat) (v : PathSt) : (s.setPath n path v).obs = s.obs := rfl
@[simp] theorem State.setPath_sink (n path : Nat) (v : PathSt) : (s.setPath n path v).sink = s.sink := rfl
@[simp] theorem State.setPath_out (n path : Nat) (v : PathSt) : (s.setPath n path v).out = s.out := rfl
@[simp] theorem State.setPath_freeCount (n path : Nat) (v : PathSt) : (s.setPath n path v).freeCount = s.freeCount := rfl
@[simp] theorem State.setPath_nextId (n path : Nat) (v : PathSt) : (s.setPath n path v).nextId = s.nextId := rfl
@[simp] theorem State.setPath_mgTag (n path : Nat) (v : PathSt) : (s.setPath n path v).mgTag = s.mgTag := rfl
@[simp] theorem State.setPath_pending (n path : Nat) (v : PathSt) : (s.setPath n path v).pending = s.pending := rfl

/-! ### `State.setCtx` -/

@[simp] theorem State.setCtx_blk (c : Nat) (v : CtxRec) : (s.setCtx c v).blk = s.blk := rfl
@[simp] theorem State.setCtx_ports (c : Nat) (v : CtxRec) : (s.setCtx c v).ports = s.ports := rfl
@[simp] theorem State.setCtx_tiles (c : Nat) (v : CtxRec) : (s.setCtx c v).tiles = s.tiles := rfl
@[simp] theorem State.setCtx_bindings (c : Nat) (v : CtxRec) : (s.setCtx c v).bindings = s.bindings := rfl
@[simp] theorem State.setCtx_losing (c : Nat) (v : CtxRec) : (s.setCtx c v).losing = s.losing := rfl
@[simp] theorem State.setCtx_hostTags (c : Nat) (v : CtxRec) : (s.setCtx c v).hostTags = s.hostTags := rfl
@[simp] theorem State.setCtx_reqs (c : Nat) (v : CtxRec) : (s.setCtx c v).reqs = s.reqs := rfl
@[simp] theorem State.setCtx_test (c : Nat) (v : CtxRec) : (s.setCtx c v).test = s.test := rfl
@[simp] theorem State.setCtx_mem (c : Nat) (v : CtxRec) : (s.setCtx c v).mem = s.mem := rfl
@[simp] theorem State.setCtx_held (c : Nat) (v : CtxRec) : (s.setCtx c v).held = s.held := rfl
@[simp] theorem State.setCtx_own (c : Nat) (v : CtxRec) : (s.setCtx c v).own = s.own := rfl
@[simp] theorem State.setCtx_cleaning (c : Nat) (v : CtxRec) : (s.setCtx c v).cleaning = s.cleaning := rfl
@[simp] theorem State.setCtx_slc (c : Nat) (v : CtxRec) : (s.setCtx c v).slc = s.slc := rfl
@[simp] theorem State.setCtx_fncs (c : Nat) (v : CtxRec) : (s.setCtx c v).fncs = s.fncs := rfl
@[simp] theorem State.setCtx_views (c : Nat) (v : CtxRec) : (s.setCtx c v).views = s.views := rfl
@[simp] theorem State.setCtx_dirty (c : Nat) (v : CtxRec) : (s.setCtx c v).dirty = s.dirty := rfl
@[simp] theorem State.setCtx_img (c : Nat) (v : CtxRec) : (s.setCtx c v).img = s.img := rfl
@[simp] theorem State.setCtx_homes (c : Nat) (v : CtxRec) : (s.setCtx c v).homes = s.homes := rfl
@[simp] theorem State.setCtx_txns (c : Nat) (v : CtxRec) : (s.setCtx c v).txns = s.txns := rfl
@[simp] theorem State.setCtx_flushes (c : Nat) (v : CtxRec) : (s.setCtx c v).flushes = s.flushes := rfl
@[simp] theorem State.setCtx_homeTimeout (c : Nat) (v : CtxRec) : (s.setCtx c v).homeTimeout = s.homeTimeout := rfl
@[simp] theorem State.setCtx_qos (c : Nat) (v : CtxRec) : (s.setCtx c v).qos = s.qos := rfl
@[simp] theorem State.setCtx_keys (c : Nat) (v : CtxRec) : (s.setCtx c v).keys = s.keys := rfl
@[simp] theorem State.setCtx_mpt (c : Nat) (v : CtxRec) : (s.setCtx c v).mpt = s.mpt := rfl
@[simp] theorem State.setCtx_guardOps (c : Nat) (v : CtxRec) : (s.setCtx c v).guardOps = s.guardOps := rfl
@[simp] theorem State.setCtx_rw (c : Nat) (v : CtxRec) : (s.setCtx c v).rw = s.rw := rfl
@[simp] theorem State.setCtx_jobs (c : Nat) (v : CtxRec) : (s.setCtx c v).jobs = s.jobs := rfl
@[simp] theorem State.setCtx_engines (c : Nat) (v : CtxRec) : (s.setCtx c v).engines = s.engines := rfl
@[simp] theorem State.setCtx_seqs (c : Nat) (v : CtxRec) : (s.setCtx c v).seqs = s.seqs := rfl
@[simp] theorem State.setCtx_seqTlb (c : Nat) (v : CtxRec) : (s.setCtx c v).seqTlb = s.seqTlb := rfl
@[simp] theorem State.setCtx_tin (c : Nat) (v : CtxRec) : (s.setCtx c v).tin = s.tin := rfl
@[simp] theorem State.setCtx_tines (c : Nat) (v : CtxRec) : (s.setCtx c v).tines = s.tines := rfl
@[simp] theorem State.setCtx_sas (c : Nat) (v : CtxRec) : (s.setCtx c v).sas = s.sas := rfl
@[simp] theorem State.setCtx_paths (c : Nat) (v : CtxRec) : (s.setCtx c v).paths = s.paths := rfl
@[simp] theorem State.setCtx_inbox (c : Nat) (v : CtxRec) : (s.setCtx c v).inbox = s.inbox := rfl
@[simp] theorem State.setCtx_remotes (c : Nat) (v : CtxRec) : (s.setCtx c v).remotes = s.remotes := rfl
@[simp] theorem State.setCtx_proxies (c : Nat) (v : CtxRec) : (s.setCtx c v).proxies = s.proxies := rfl
@[simp] theorem State.setCtx_linkFences (c : Nat) (v : CtxRec) : (s.setCtx c v).linkFences = s.linkFences := rfl
@[simp] theorem State.setCtx_ctxs (c : Nat) (v : CtxRec) : (s.setCtx c v).ctxs = tset {} s.ctxs c v := rfl
@[simp] theorem State.setCtx_objs (c : Nat) (v : CtxRec) : (s.setCtx c v).objs = s.objs := rfl
@[simp] theorem State.setCtx_fences (c : Nat) (v : CtxRec) : (s.setCtx c v).fences = s.fences := rfl
@[simp] theorem State.setCtx_badFences (c : Nat) (v : CtxRec) : (s.setCtx c v).badFences = s.badFences := rfl
@[simp] theorem State.setCtx_fpages (c : Nat) (v : CtxRec) : (s.setCtx c v).fpages = s.fpages := rfl
@[simp] theorem State.setCtx_ctxWin (c : Nat) (v : CtxRec) : (s.setCtx c v).ctxWin = s.ctxWin := rfl
@[simp] theorem State.setCtx_slots (c : Nat) (v : CtxRec) : (s.setCtx c v).slots = s.slots := rfl
@[simp] theorem State.setCtx_fills (c : Nat) (v : CtxRec) : (s.setCtx c v).fills = s.fills := rfl
@[simp] theorem State.setCtx_vault (c : Nat) (v : CtxRec) : (s.setCtx c v).vault = s.vault := rfl
@[simp] theorem State.setCtx_flt (c : Nat) (v : CtxRec) : (s.setCtx c v).flt = s.flt := rfl
@[simp] theorem State.setCtx_units (c : Nat) (v : CtxRec) : (s.setCtx c v).units = s.units := rfl
@[simp] theorem State.setCtx_fawn (c : Nat) (v : CtxRec) : (s.setCtx c v).fawn = s.fawn := rfl
@[simp] theorem State.setCtx_pair (c : Nat) (v : CtxRec) : (s.setCtx c v).pair = s.pair := rfl
@[simp] theorem State.setCtx_obs (c : Nat) (v : CtxRec) : (s.setCtx c v).obs = s.obs := rfl
@[simp] theorem State.setCtx_sink (c : Nat) (v : CtxRec) : (s.setCtx c v).sink = s.sink := rfl
@[simp] theorem State.setCtx_out (c : Nat) (v : CtxRec) : (s.setCtx c v).out = s.out := rfl
@[simp] theorem State.setCtx_freeCount (c : Nat) (v : CtxRec) : (s.setCtx c v).freeCount = s.freeCount := rfl
@[simp] theorem State.setCtx_nextId (c : Nat) (v : CtxRec) : (s.setCtx c v).nextId = s.nextId := rfl
@[simp] theorem State.setCtx_mgTag (c : Nat) (v : CtxRec) : (s.setCtx c v).mgTag = s.mgTag := rfl
@[simp] theorem State.setCtx_pending (c : Nat) (v : CtxRec) : (s.setCtx c v).pending = s.pending := rfl

/-! ### `State.setObj` -/

@[simp] theorem State.setObj_blk (o : Nat) (v : ObjRec) : (s.setObj o v).blk = s.blk := rfl
@[simp] theorem State.setObj_ports (o : Nat) (v : ObjRec) : (s.setObj o v).ports = s.ports := rfl
@[simp] theorem State.setObj_tiles (o : Nat) (v : ObjRec) : (s.setObj o v).tiles = s.tiles := rfl
@[simp] theorem State.setObj_bindings (o : Nat) (v : ObjRec) : (s.setObj o v).bindings = s.bindings := rfl
@[simp] theorem State.setObj_losing (o : Nat) (v : ObjRec) : (s.setObj o v).losing = s.losing := rfl
@[simp] theorem State.setObj_hostTags (o : Nat) (v : ObjRec) : (s.setObj o v).hostTags = s.hostTags := rfl
@[simp] theorem State.setObj_reqs (o : Nat) (v : ObjRec) : (s.setObj o v).reqs = s.reqs := rfl
@[simp] theorem State.setObj_test (o : Nat) (v : ObjRec) : (s.setObj o v).test = s.test := rfl
@[simp] theorem State.setObj_mem (o : Nat) (v : ObjRec) : (s.setObj o v).mem = s.mem := rfl
@[simp] theorem State.setObj_held (o : Nat) (v : ObjRec) : (s.setObj o v).held = s.held := rfl
@[simp] theorem State.setObj_own (o : Nat) (v : ObjRec) : (s.setObj o v).own = s.own := rfl
@[simp] theorem State.setObj_cleaning (o : Nat) (v : ObjRec) : (s.setObj o v).cleaning = s.cleaning := rfl
@[simp] theorem State.setObj_slc (o : Nat) (v : ObjRec) : (s.setObj o v).slc = s.slc := rfl
@[simp] theorem State.setObj_fncs (o : Nat) (v : ObjRec) : (s.setObj o v).fncs = s.fncs := rfl
@[simp] theorem State.setObj_views (o : Nat) (v : ObjRec) : (s.setObj o v).views = s.views := rfl
@[simp] theorem State.setObj_dirty (o : Nat) (v : ObjRec) : (s.setObj o v).dirty = s.dirty := rfl
@[simp] theorem State.setObj_img (o : Nat) (v : ObjRec) : (s.setObj o v).img = s.img := rfl
@[simp] theorem State.setObj_homes (o : Nat) (v : ObjRec) : (s.setObj o v).homes = s.homes := rfl
@[simp] theorem State.setObj_txns (o : Nat) (v : ObjRec) : (s.setObj o v).txns = s.txns := rfl
@[simp] theorem State.setObj_flushes (o : Nat) (v : ObjRec) : (s.setObj o v).flushes = s.flushes := rfl
@[simp] theorem State.setObj_homeTimeout (o : Nat) (v : ObjRec) : (s.setObj o v).homeTimeout = s.homeTimeout := rfl
@[simp] theorem State.setObj_qos (o : Nat) (v : ObjRec) : (s.setObj o v).qos = s.qos := rfl
@[simp] theorem State.setObj_keys (o : Nat) (v : ObjRec) : (s.setObj o v).keys = s.keys := rfl
@[simp] theorem State.setObj_mpt (o : Nat) (v : ObjRec) : (s.setObj o v).mpt = s.mpt := rfl
@[simp] theorem State.setObj_guardOps (o : Nat) (v : ObjRec) : (s.setObj o v).guardOps = s.guardOps := rfl
@[simp] theorem State.setObj_rw (o : Nat) (v : ObjRec) : (s.setObj o v).rw = s.rw := rfl
@[simp] theorem State.setObj_jobs (o : Nat) (v : ObjRec) : (s.setObj o v).jobs = s.jobs := rfl
@[simp] theorem State.setObj_engines (o : Nat) (v : ObjRec) : (s.setObj o v).engines = s.engines := rfl
@[simp] theorem State.setObj_seqs (o : Nat) (v : ObjRec) : (s.setObj o v).seqs = s.seqs := rfl
@[simp] theorem State.setObj_seqTlb (o : Nat) (v : ObjRec) : (s.setObj o v).seqTlb = s.seqTlb := rfl
@[simp] theorem State.setObj_tin (o : Nat) (v : ObjRec) : (s.setObj o v).tin = s.tin := rfl
@[simp] theorem State.setObj_tines (o : Nat) (v : ObjRec) : (s.setObj o v).tines = s.tines := rfl
@[simp] theorem State.setObj_sas (o : Nat) (v : ObjRec) : (s.setObj o v).sas = s.sas := rfl
@[simp] theorem State.setObj_paths (o : Nat) (v : ObjRec) : (s.setObj o v).paths = s.paths := rfl
@[simp] theorem State.setObj_inbox (o : Nat) (v : ObjRec) : (s.setObj o v).inbox = s.inbox := rfl
@[simp] theorem State.setObj_remotes (o : Nat) (v : ObjRec) : (s.setObj o v).remotes = s.remotes := rfl
@[simp] theorem State.setObj_proxies (o : Nat) (v : ObjRec) : (s.setObj o v).proxies = s.proxies := rfl
@[simp] theorem State.setObj_linkFences (o : Nat) (v : ObjRec) : (s.setObj o v).linkFences = s.linkFences := rfl
@[simp] theorem State.setObj_ctxs (o : Nat) (v : ObjRec) : (s.setObj o v).ctxs = s.ctxs := rfl
@[simp] theorem State.setObj_objs (o : Nat) (v : ObjRec) : (s.setObj o v).objs = tset {} s.objs o v := rfl
@[simp] theorem State.setObj_fences (o : Nat) (v : ObjRec) : (s.setObj o v).fences = s.fences := rfl
@[simp] theorem State.setObj_badFences (o : Nat) (v : ObjRec) : (s.setObj o v).badFences = s.badFences := rfl
@[simp] theorem State.setObj_fpages (o : Nat) (v : ObjRec) : (s.setObj o v).fpages = s.fpages := rfl
@[simp] theorem State.setObj_ctxWin (o : Nat) (v : ObjRec) : (s.setObj o v).ctxWin = s.ctxWin := rfl
@[simp] theorem State.setObj_slots (o : Nat) (v : ObjRec) : (s.setObj o v).slots = s.slots := rfl
@[simp] theorem State.setObj_fills (o : Nat) (v : ObjRec) : (s.setObj o v).fills = s.fills := rfl
@[simp] theorem State.setObj_vault (o : Nat) (v : ObjRec) : (s.setObj o v).vault = s.vault := rfl
@[simp] theorem State.setObj_flt (o : Nat) (v : ObjRec) : (s.setObj o v).flt = s.flt := rfl
@[simp] theorem State.setObj_units (o : Nat) (v : ObjRec) : (s.setObj o v).units = s.units := rfl
@[simp] theorem State.setObj_fawn (o : Nat) (v : ObjRec) : (s.setObj o v).fawn = s.fawn := rfl
@[simp] theorem State.setObj_pair (o : Nat) (v : ObjRec) : (s.setObj o v).pair = s.pair := rfl
@[simp] theorem State.setObj_obs (o : Nat) (v : ObjRec) : (s.setObj o v).obs = s.obs := rfl
@[simp] theorem State.setObj_sink (o : Nat) (v : ObjRec) : (s.setObj o v).sink = s.sink := rfl
@[simp] theorem State.setObj_out (o : Nat) (v : ObjRec) : (s.setObj o v).out = s.out := rfl
@[simp] theorem State.setObj_freeCount (o : Nat) (v : ObjRec) : (s.setObj o v).freeCount = s.freeCount := rfl
@[simp] theorem State.setObj_nextId (o : Nat) (v : ObjRec) : (s.setObj o v).nextId = s.nextId := rfl
@[simp] theorem State.setObj_mgTag (o : Nat) (v : ObjRec) : (s.setObj o v).mgTag = s.mgTag := rfl
@[simp] theorem State.setObj_pending (o : Nat) (v : ObjRec) : (s.setObj o v).pending = s.pending := rfl

/-! ### `State.setFpage` -/

@[simp] theorem State.setFpage_blk (p : Nat) (v : FPage) : (s.setFpage p v).blk = s.blk := rfl
@[simp] theorem State.setFpage_ports (p : Nat) (v : FPage) : (s.setFpage p v).ports = s.ports := rfl
@[simp] theorem State.setFpage_tiles (p : Nat) (v : FPage) : (s.setFpage p v).tiles = s.tiles := rfl
@[simp] theorem State.setFpage_bindings (p : Nat) (v : FPage) : (s.setFpage p v).bindings = s.bindings := rfl
@[simp] theorem State.setFpage_losing (p : Nat) (v : FPage) : (s.setFpage p v).losing = s.losing := rfl
@[simp] theorem State.setFpage_hostTags (p : Nat) (v : FPage) : (s.setFpage p v).hostTags = s.hostTags := rfl
@[simp] theorem State.setFpage_reqs (p : Nat) (v : FPage) : (s.setFpage p v).reqs = s.reqs := rfl
@[simp] theorem State.setFpage_test (p : Nat) (v : FPage) : (s.setFpage p v).test = s.test := rfl
@[simp] theorem State.setFpage_mem (p : Nat) (v : FPage) : (s.setFpage p v).mem = s.mem := rfl
@[simp] theorem State.setFpage_held (p : Nat) (v : FPage) : (s.setFpage p v).held = s.held := rfl
@[simp] theorem State.setFpage_own (p : Nat) (v : FPage) : (s.setFpage p v).own = s.own := rfl
@[simp] theorem State.setFpage_cleaning (p : Nat) (v : FPage) : (s.setFpage p v).cleaning = s.cleaning := rfl
@[simp] theorem State.setFpage_slc (p : Nat) (v : FPage) : (s.setFpage p v).slc = s.slc := rfl
@[simp] theorem State.setFpage_fncs (p : Nat) (v : FPage) : (s.setFpage p v).fncs = s.fncs := rfl
@[simp] theorem State.setFpage_views (p : Nat) (v : FPage) : (s.setFpage p v).views = s.views := rfl
@[simp] theorem State.setFpage_dirty (p : Nat) (v : FPage) : (s.setFpage p v).dirty = s.dirty := rfl
@[simp] theorem State.setFpage_img (p : Nat) (v : FPage) : (s.setFpage p v).img = s.img := rfl
@[simp] theorem State.setFpage_homes (p : Nat) (v : FPage) : (s.setFpage p v).homes = s.homes := rfl
@[simp] theorem State.setFpage_txns (p : Nat) (v : FPage) : (s.setFpage p v).txns = s.txns := rfl
@[simp] theorem State.setFpage_flushes (p : Nat) (v : FPage) : (s.setFpage p v).flushes = s.flushes := rfl
@[simp] theorem State.setFpage_homeTimeout (p : Nat) (v : FPage) : (s.setFpage p v).homeTimeout = s.homeTimeout := rfl
@[simp] theorem State.setFpage_qos (p : Nat) (v : FPage) : (s.setFpage p v).qos = s.qos := rfl
@[simp] theorem State.setFpage_keys (p : Nat) (v : FPage) : (s.setFpage p v).keys = s.keys := rfl
@[simp] theorem State.setFpage_mpt (p : Nat) (v : FPage) : (s.setFpage p v).mpt = s.mpt := rfl
@[simp] theorem State.setFpage_guardOps (p : Nat) (v : FPage) : (s.setFpage p v).guardOps = s.guardOps := rfl
@[simp] theorem State.setFpage_rw (p : Nat) (v : FPage) : (s.setFpage p v).rw = s.rw := rfl
@[simp] theorem State.setFpage_jobs (p : Nat) (v : FPage) : (s.setFpage p v).jobs = s.jobs := rfl
@[simp] theorem State.setFpage_engines (p : Nat) (v : FPage) : (s.setFpage p v).engines = s.engines := rfl
@[simp] theorem State.setFpage_seqs (p : Nat) (v : FPage) : (s.setFpage p v).seqs = s.seqs := rfl
@[simp] theorem State.setFpage_seqTlb (p : Nat) (v : FPage) : (s.setFpage p v).seqTlb = s.seqTlb := rfl
@[simp] theorem State.setFpage_tin (p : Nat) (v : FPage) : (s.setFpage p v).tin = s.tin := rfl
@[simp] theorem State.setFpage_tines (p : Nat) (v : FPage) : (s.setFpage p v).tines = s.tines := rfl
@[simp] theorem State.setFpage_sas (p : Nat) (v : FPage) : (s.setFpage p v).sas = s.sas := rfl
@[simp] theorem State.setFpage_paths (p : Nat) (v : FPage) : (s.setFpage p v).paths = s.paths := rfl
@[simp] theorem State.setFpage_inbox (p : Nat) (v : FPage) : (s.setFpage p v).inbox = s.inbox := rfl
@[simp] theorem State.setFpage_remotes (p : Nat) (v : FPage) : (s.setFpage p v).remotes = s.remotes := rfl
@[simp] theorem State.setFpage_proxies (p : Nat) (v : FPage) : (s.setFpage p v).proxies = s.proxies := rfl
@[simp] theorem State.setFpage_linkFences (p : Nat) (v : FPage) : (s.setFpage p v).linkFences = s.linkFences := rfl
@[simp] theorem State.setFpage_ctxs (p : Nat) (v : FPage) : (s.setFpage p v).ctxs = s.ctxs := rfl
@[simp] theorem State.setFpage_objs (p : Nat) (v : FPage) : (s.setFpage p v).objs = s.objs := rfl
@[simp] theorem State.setFpage_fences (p : Nat) (v : FPage) : (s.setFpage p v).fences = s.fences := rfl
@[simp] theorem State.setFpage_badFences (p : Nat) (v : FPage) : (s.setFpage p v).badFences = s.badFences := rfl
@[simp] theorem State.setFpage_fpages (p : Nat) (v : FPage) : (s.setFpage p v).fpages = tset {} s.fpages p v := rfl
@[simp] theorem State.setFpage_ctxWin (p : Nat) (v : FPage) : (s.setFpage p v).ctxWin = s.ctxWin := rfl
@[simp] theorem State.setFpage_slots (p : Nat) (v : FPage) : (s.setFpage p v).slots = s.slots := rfl
@[simp] theorem State.setFpage_fills (p : Nat) (v : FPage) : (s.setFpage p v).fills = s.fills := rfl
@[simp] theorem State.setFpage_vault (p : Nat) (v : FPage) : (s.setFpage p v).vault = s.vault := rfl
@[simp] theorem State.setFpage_flt (p : Nat) (v : FPage) : (s.setFpage p v).flt = s.flt := rfl
@[simp] theorem State.setFpage_units (p : Nat) (v : FPage) : (s.setFpage p v).units = s.units := rfl
@[simp] theorem State.setFpage_fawn (p : Nat) (v : FPage) : (s.setFpage p v).fawn = s.fawn := rfl
@[simp] theorem State.setFpage_pair (p : Nat) (v : FPage) : (s.setFpage p v).pair = s.pair := rfl
@[simp] theorem State.setFpage_obs (p : Nat) (v : FPage) : (s.setFpage p v).obs = s.obs := rfl
@[simp] theorem State.setFpage_sink (p : Nat) (v : FPage) : (s.setFpage p v).sink = s.sink := rfl
@[simp] theorem State.setFpage_out (p : Nat) (v : FPage) : (s.setFpage p v).out = s.out := rfl
@[simp] theorem State.setFpage_freeCount (p : Nat) (v : FPage) : (s.setFpage p v).freeCount = s.freeCount := rfl
@[simp] theorem State.setFpage_nextId (p : Nat) (v : FPage) : (s.setFpage p v).nextId = s.nextId := rfl
@[simp] theorem State.setFpage_mgTag (p : Nat) (v : FPage) : (s.setFpage p v).mgTag = s.mgTag := rfl
@[simp] theorem State.setFpage_pending (p : Nat) (v : FPage) : (s.setFpage p v).pending = s.pending := rfl

/-! ### `State.setSlot` -/

@[simp] theorem State.setSlot_blk (c : Nat) (v : SlotSt) : (s.setSlot c v).blk = s.blk := rfl
@[simp] theorem State.setSlot_ports (c : Nat) (v : SlotSt) : (s.setSlot c v).ports = s.ports := rfl
@[simp] theorem State.setSlot_tiles (c : Nat) (v : SlotSt) : (s.setSlot c v).tiles = s.tiles := rfl
@[simp] theorem State.setSlot_bindings (c : Nat) (v : SlotSt) : (s.setSlot c v).bindings = s.bindings := rfl
@[simp] theorem State.setSlot_losing (c : Nat) (v : SlotSt) : (s.setSlot c v).losing = s.losing := rfl
@[simp] theorem State.setSlot_hostTags (c : Nat) (v : SlotSt) : (s.setSlot c v).hostTags = s.hostTags := rfl
@[simp] theorem State.setSlot_reqs (c : Nat) (v : SlotSt) : (s.setSlot c v).reqs = s.reqs := rfl
@[simp] theorem State.setSlot_test (c : Nat) (v : SlotSt) : (s.setSlot c v).test = s.test := rfl
@[simp] theorem State.setSlot_mem (c : Nat) (v : SlotSt) : (s.setSlot c v).mem = s.mem := rfl
@[simp] theorem State.setSlot_held (c : Nat) (v : SlotSt) : (s.setSlot c v).held = s.held := rfl
@[simp] theorem State.setSlot_own (c : Nat) (v : SlotSt) : (s.setSlot c v).own = s.own := rfl
@[simp] theorem State.setSlot_cleaning (c : Nat) (v : SlotSt) : (s.setSlot c v).cleaning = s.cleaning := rfl
@[simp] theorem State.setSlot_slc (c : Nat) (v : SlotSt) : (s.setSlot c v).slc = s.slc := rfl
@[simp] theorem State.setSlot_fncs (c : Nat) (v : SlotSt) : (s.setSlot c v).fncs = s.fncs := rfl
@[simp] theorem State.setSlot_views (c : Nat) (v : SlotSt) : (s.setSlot c v).views = s.views := rfl
@[simp] theorem State.setSlot_dirty (c : Nat) (v : SlotSt) : (s.setSlot c v).dirty = s.dirty := rfl
@[simp] theorem State.setSlot_img (c : Nat) (v : SlotSt) : (s.setSlot c v).img = s.img := rfl
@[simp] theorem State.setSlot_homes (c : Nat) (v : SlotSt) : (s.setSlot c v).homes = s.homes := rfl
@[simp] theorem State.setSlot_txns (c : Nat) (v : SlotSt) : (s.setSlot c v).txns = s.txns := rfl
@[simp] theorem State.setSlot_flushes (c : Nat) (v : SlotSt) : (s.setSlot c v).flushes = s.flushes := rfl
@[simp] theorem State.setSlot_homeTimeout (c : Nat) (v : SlotSt) : (s.setSlot c v).homeTimeout = s.homeTimeout := rfl
@[simp] theorem State.setSlot_qos (c : Nat) (v : SlotSt) : (s.setSlot c v).qos = s.qos := rfl
@[simp] theorem State.setSlot_keys (c : Nat) (v : SlotSt) : (s.setSlot c v).keys = s.keys := rfl
@[simp] theorem State.setSlot_mpt (c : Nat) (v : SlotSt) : (s.setSlot c v).mpt = s.mpt := rfl
@[simp] theorem State.setSlot_guardOps (c : Nat) (v : SlotSt) : (s.setSlot c v).guardOps = s.guardOps := rfl
@[simp] theorem State.setSlot_rw (c : Nat) (v : SlotSt) : (s.setSlot c v).rw = s.rw := rfl
@[simp] theorem State.setSlot_jobs (c : Nat) (v : SlotSt) : (s.setSlot c v).jobs = s.jobs := rfl
@[simp] theorem State.setSlot_engines (c : Nat) (v : SlotSt) : (s.setSlot c v).engines = s.engines := rfl
@[simp] theorem State.setSlot_seqs (c : Nat) (v : SlotSt) : (s.setSlot c v).seqs = s.seqs := rfl
@[simp] theorem State.setSlot_seqTlb (c : Nat) (v : SlotSt) : (s.setSlot c v).seqTlb = s.seqTlb := rfl
@[simp] theorem State.setSlot_tin (c : Nat) (v : SlotSt) : (s.setSlot c v).tin = s.tin := rfl
@[simp] theorem State.setSlot_tines (c : Nat) (v : SlotSt) : (s.setSlot c v).tines = s.tines := rfl
@[simp] theorem State.setSlot_sas (c : Nat) (v : SlotSt) : (s.setSlot c v).sas = s.sas := rfl
@[simp] theorem State.setSlot_paths (c : Nat) (v : SlotSt) : (s.setSlot c v).paths = s.paths := rfl
@[simp] theorem State.setSlot_inbox (c : Nat) (v : SlotSt) : (s.setSlot c v).inbox = s.inbox := rfl
@[simp] theorem State.setSlot_remotes (c : Nat) (v : SlotSt) : (s.setSlot c v).remotes = s.remotes := rfl
@[simp] theorem State.setSlot_proxies (c : Nat) (v : SlotSt) : (s.setSlot c v).proxies = s.proxies := rfl
@[simp] theorem State.setSlot_linkFences (c : Nat) (v : SlotSt) : (s.setSlot c v).linkFences = s.linkFences := rfl
@[simp] theorem State.setSlot_ctxs (c : Nat) (v : SlotSt) : (s.setSlot c v).ctxs = s.ctxs := rfl
@[simp] theorem State.setSlot_objs (c : Nat) (v : SlotSt) : (s.setSlot c v).objs = s.objs := rfl
@[simp] theorem State.setSlot_fences (c : Nat) (v : SlotSt) : (s.setSlot c v).fences = s.fences := rfl
@[simp] theorem State.setSlot_badFences (c : Nat) (v : SlotSt) : (s.setSlot c v).badFences = s.badFences := rfl
@[simp] theorem State.setSlot_fpages (c : Nat) (v : SlotSt) : (s.setSlot c v).fpages = s.fpages := rfl
@[simp] theorem State.setSlot_ctxWin (c : Nat) (v : SlotSt) : (s.setSlot c v).ctxWin = s.ctxWin := rfl
@[simp] theorem State.setSlot_slots (c : Nat) (v : SlotSt) : (s.setSlot c v).slots = tset {} s.slots c v := rfl
@[simp] theorem State.setSlot_fills (c : Nat) (v : SlotSt) : (s.setSlot c v).fills = s.fills := rfl
@[simp] theorem State.setSlot_vault (c : Nat) (v : SlotSt) : (s.setSlot c v).vault = s.vault := rfl
@[simp] theorem State.setSlot_flt (c : Nat) (v : SlotSt) : (s.setSlot c v).flt = s.flt := rfl
@[simp] theorem State.setSlot_units (c : Nat) (v : SlotSt) : (s.setSlot c v).units = s.units := rfl
@[simp] theorem State.setSlot_fawn (c : Nat) (v : SlotSt) : (s.setSlot c v).fawn = s.fawn := rfl
@[simp] theorem State.setSlot_pair (c : Nat) (v : SlotSt) : (s.setSlot c v).pair = s.pair := rfl
@[simp] theorem State.setSlot_obs (c : Nat) (v : SlotSt) : (s.setSlot c v).obs = s.obs := rfl
@[simp] theorem State.setSlot_sink (c : Nat) (v : SlotSt) : (s.setSlot c v).sink = s.sink := rfl
@[simp] theorem State.setSlot_out (c : Nat) (v : SlotSt) : (s.setSlot c v).out = s.out := rfl
@[simp] theorem State.setSlot_freeCount (c : Nat) (v : SlotSt) : (s.setSlot c v).freeCount = s.freeCount := rfl
@[simp] theorem State.setSlot_nextId (c : Nat) (v : SlotSt) : (s.setSlot c v).nextId = s.nextId := rfl
@[simp] theorem State.setSlot_mgTag (c : Nat) (v : SlotSt) : (s.setSlot c v).mgTag = s.mgTag := rfl
@[simp] theorem State.setSlot_pending (c : Nat) (v : SlotSt) : (s.setSlot c v).pending = s.pending := rfl

/-! ### `State.setUnit` -/

@[simp] theorem State.setUnit_blk (u : Nat) (v : UnitSt) : (s.setUnit u v).blk = s.blk := rfl
@[simp] theorem State.setUnit_ports (u : Nat) (v : UnitSt) : (s.setUnit u v).ports = s.ports := rfl
@[simp] theorem State.setUnit_tiles (u : Nat) (v : UnitSt) : (s.setUnit u v).tiles = s.tiles := rfl
@[simp] theorem State.setUnit_bindings (u : Nat) (v : UnitSt) : (s.setUnit u v).bindings = s.bindings := rfl
@[simp] theorem State.setUnit_losing (u : Nat) (v : UnitSt) : (s.setUnit u v).losing = s.losing := rfl
@[simp] theorem State.setUnit_hostTags (u : Nat) (v : UnitSt) : (s.setUnit u v).hostTags = s.hostTags := rfl
@[simp] theorem State.setUnit_reqs (u : Nat) (v : UnitSt) : (s.setUnit u v).reqs = s.reqs := rfl
@[simp] theorem State.setUnit_test (u : Nat) (v : UnitSt) : (s.setUnit u v).test = s.test := rfl
@[simp] theorem State.setUnit_mem (u : Nat) (v : UnitSt) : (s.setUnit u v).mem = s.mem := rfl
@[simp] theorem State.setUnit_held (u : Nat) (v : UnitSt) : (s.setUnit u v).held = s.held := rfl
@[simp] theorem State.setUnit_own (u : Nat) (v : UnitSt) : (s.setUnit u v).own = s.own := rfl
@[simp] theorem State.setUnit_cleaning (u : Nat) (v : UnitSt) : (s.setUnit u v).cleaning = s.cleaning := rfl
@[simp] theorem State.setUnit_slc (u : Nat) (v : UnitSt) : (s.setUnit u v).slc = s.slc := rfl
@[simp] theorem State.setUnit_fncs (u : Nat) (v : UnitSt) : (s.setUnit u v).fncs = s.fncs := rfl
@[simp] theorem State.setUnit_views (u : Nat) (v : UnitSt) : (s.setUnit u v).views = s.views := rfl
@[simp] theorem State.setUnit_dirty (u : Nat) (v : UnitSt) : (s.setUnit u v).dirty = s.dirty := rfl
@[simp] theorem State.setUnit_img (u : Nat) (v : UnitSt) : (s.setUnit u v).img = s.img := rfl
@[simp] theorem State.setUnit_homes (u : Nat) (v : UnitSt) : (s.setUnit u v).homes = s.homes := rfl
@[simp] theorem State.setUnit_txns (u : Nat) (v : UnitSt) : (s.setUnit u v).txns = s.txns := rfl
@[simp] theorem State.setUnit_flushes (u : Nat) (v : UnitSt) : (s.setUnit u v).flushes = s.flushes := rfl
@[simp] theorem State.setUnit_homeTimeout (u : Nat) (v : UnitSt) : (s.setUnit u v).homeTimeout = s.homeTimeout := rfl
@[simp] theorem State.setUnit_qos (u : Nat) (v : UnitSt) : (s.setUnit u v).qos = s.qos := rfl
@[simp] theorem State.setUnit_keys (u : Nat) (v : UnitSt) : (s.setUnit u v).keys = s.keys := rfl
@[simp] theorem State.setUnit_mpt (u : Nat) (v : UnitSt) : (s.setUnit u v).mpt = s.mpt := rfl
@[simp] theorem State.setUnit_guardOps (u : Nat) (v : UnitSt) : (s.setUnit u v).guardOps = s.guardOps := rfl
@[simp] theorem State.setUnit_rw (u : Nat) (v : UnitSt) : (s.setUnit u v).rw = s.rw := rfl
@[simp] theorem State.setUnit_jobs (u : Nat) (v : UnitSt) : (s.setUnit u v).jobs = s.jobs := rfl
@[simp] theorem State.setUnit_engines (u : Nat) (v : UnitSt) : (s.setUnit u v).engines = s.engines := rfl
@[simp] theorem State.setUnit_seqs (u : Nat) (v : UnitSt) : (s.setUnit u v).seqs = s.seqs := rfl
@[simp] theorem State.setUnit_seqTlb (u : Nat) (v : UnitSt) : (s.setUnit u v).seqTlb = s.seqTlb := rfl
@[simp] theorem State.setUnit_tin (u : Nat) (v : UnitSt) : (s.setUnit u v).tin = s.tin := rfl
@[simp] theorem State.setUnit_tines (u : Nat) (v : UnitSt) : (s.setUnit u v).tines = s.tines := rfl
@[simp] theorem State.setUnit_sas (u : Nat) (v : UnitSt) : (s.setUnit u v).sas = s.sas := rfl
@[simp] theorem State.setUnit_paths (u : Nat) (v : UnitSt) : (s.setUnit u v).paths = s.paths := rfl
@[simp] theorem State.setUnit_inbox (u : Nat) (v : UnitSt) : (s.setUnit u v).inbox = s.inbox := rfl
@[simp] theorem State.setUnit_remotes (u : Nat) (v : UnitSt) : (s.setUnit u v).remotes = s.remotes := rfl
@[simp] theorem State.setUnit_proxies (u : Nat) (v : UnitSt) : (s.setUnit u v).proxies = s.proxies := rfl
@[simp] theorem State.setUnit_linkFences (u : Nat) (v : UnitSt) : (s.setUnit u v).linkFences = s.linkFences := rfl
@[simp] theorem State.setUnit_ctxs (u : Nat) (v : UnitSt) : (s.setUnit u v).ctxs = s.ctxs := rfl
@[simp] theorem State.setUnit_objs (u : Nat) (v : UnitSt) : (s.setUnit u v).objs = s.objs := rfl
@[simp] theorem State.setUnit_fences (u : Nat) (v : UnitSt) : (s.setUnit u v).fences = s.fences := rfl
@[simp] theorem State.setUnit_badFences (u : Nat) (v : UnitSt) : (s.setUnit u v).badFences = s.badFences := rfl
@[simp] theorem State.setUnit_fpages (u : Nat) (v : UnitSt) : (s.setUnit u v).fpages = s.fpages := rfl
@[simp] theorem State.setUnit_ctxWin (u : Nat) (v : UnitSt) : (s.setUnit u v).ctxWin = s.ctxWin := rfl
@[simp] theorem State.setUnit_slots (u : Nat) (v : UnitSt) : (s.setUnit u v).slots = s.slots := rfl
@[simp] theorem State.setUnit_fills (u : Nat) (v : UnitSt) : (s.setUnit u v).fills = s.fills := rfl
@[simp] theorem State.setUnit_vault (u : Nat) (v : UnitSt) : (s.setUnit u v).vault = s.vault := rfl
@[simp] theorem State.setUnit_flt (u : Nat) (v : UnitSt) : (s.setUnit u v).flt = s.flt := rfl
@[simp] theorem State.setUnit_units (u : Nat) (v : UnitSt) : (s.setUnit u v).units = tset {} s.units u v := rfl
@[simp] theorem State.setUnit_fawn (u : Nat) (v : UnitSt) : (s.setUnit u v).fawn = s.fawn := rfl
@[simp] theorem State.setUnit_pair (u : Nat) (v : UnitSt) : (s.setUnit u v).pair = s.pair := rfl
@[simp] theorem State.setUnit_obs (u : Nat) (v : UnitSt) : (s.setUnit u v).obs = s.obs := rfl
@[simp] theorem State.setUnit_sink (u : Nat) (v : UnitSt) : (s.setUnit u v).sink = s.sink := rfl
@[simp] theorem State.setUnit_out (u : Nat) (v : UnitSt) : (s.setUnit u v).out = s.out := rfl
@[simp] theorem State.setUnit_freeCount (u : Nat) (v : UnitSt) : (s.setUnit u v).freeCount = s.freeCount := rfl
@[simp] theorem State.setUnit_nextId (u : Nat) (v : UnitSt) : (s.setUnit u v).nextId = s.nextId := rfl
@[simp] theorem State.setUnit_mgTag (u : Nat) (v : UnitSt) : (s.setUnit u v).mgTag = s.mgTag := rfl
@[simp] theorem State.setUnit_pending (u : Nat) (v : UnitSt) : (s.setUnit u v).pending = s.pending := rfl

/-! ### `State.emit` -/

@[simp] theorem State.emit_blk (o : Output) : (s.emit o).blk = s.blk := rfl
@[simp] theorem State.emit_ports (o : Output) : (s.emit o).ports = s.ports := rfl
@[simp] theorem State.emit_tiles (o : Output) : (s.emit o).tiles = s.tiles := rfl
@[simp] theorem State.emit_bindings (o : Output) : (s.emit o).bindings = s.bindings := rfl
@[simp] theorem State.emit_losing (o : Output) : (s.emit o).losing = s.losing := rfl
@[simp] theorem State.emit_hostTags (o : Output) : (s.emit o).hostTags = s.hostTags := rfl
@[simp] theorem State.emit_reqs (o : Output) : (s.emit o).reqs = s.reqs := rfl
@[simp] theorem State.emit_test (o : Output) : (s.emit o).test = s.test := rfl
@[simp] theorem State.emit_mem (o : Output) : (s.emit o).mem = s.mem := rfl
@[simp] theorem State.emit_held (o : Output) : (s.emit o).held = s.held := rfl
@[simp] theorem State.emit_own (o : Output) : (s.emit o).own = s.own := rfl
@[simp] theorem State.emit_cleaning (o : Output) : (s.emit o).cleaning = s.cleaning := rfl
@[simp] theorem State.emit_slc (o : Output) : (s.emit o).slc = s.slc := rfl
@[simp] theorem State.emit_fncs (o : Output) : (s.emit o).fncs = s.fncs := rfl
@[simp] theorem State.emit_views (o : Output) : (s.emit o).views = s.views := rfl
@[simp] theorem State.emit_dirty (o : Output) : (s.emit o).dirty = s.dirty := rfl
@[simp] theorem State.emit_img (o : Output) : (s.emit o).img = s.img := rfl
@[simp] theorem State.emit_homes (o : Output) : (s.emit o).homes = s.homes := rfl
@[simp] theorem State.emit_txns (o : Output) : (s.emit o).txns = s.txns := rfl
@[simp] theorem State.emit_flushes (o : Output) : (s.emit o).flushes = s.flushes := rfl
@[simp] theorem State.emit_homeTimeout (o : Output) : (s.emit o).homeTimeout = s.homeTimeout := rfl
@[simp] theorem State.emit_qos (o : Output) : (s.emit o).qos = s.qos := rfl
@[simp] theorem State.emit_keys (o : Output) : (s.emit o).keys = s.keys := rfl
@[simp] theorem State.emit_mpt (o : Output) : (s.emit o).mpt = s.mpt := rfl
@[simp] theorem State.emit_guardOps (o : Output) : (s.emit o).guardOps = s.guardOps := rfl
@[simp] theorem State.emit_rw (o : Output) : (s.emit o).rw = s.rw := rfl
@[simp] theorem State.emit_jobs (o : Output) : (s.emit o).jobs = s.jobs := rfl
@[simp] theorem State.emit_engines (o : Output) : (s.emit o).engines = s.engines := rfl
@[simp] theorem State.emit_seqs (o : Output) : (s.emit o).seqs = s.seqs := rfl
@[simp] theorem State.emit_seqTlb (o : Output) : (s.emit o).seqTlb = s.seqTlb := rfl
@[simp] theorem State.emit_tin (o : Output) : (s.emit o).tin = s.tin := rfl
@[simp] theorem State.emit_tines (o : Output) : (s.emit o).tines = s.tines := rfl
@[simp] theorem State.emit_sas (o : Output) : (s.emit o).sas = s.sas := rfl
@[simp] theorem State.emit_paths (o : Output) : (s.emit o).paths = s.paths := rfl
@[simp] theorem State.emit_inbox (o : Output) : (s.emit o).inbox = s.inbox := rfl
@[simp] theorem State.emit_remotes (o : Output) : (s.emit o).remotes = s.remotes := rfl
@[simp] theorem State.emit_proxies (o : Output) : (s.emit o).proxies = s.proxies := rfl
@[simp] theorem State.emit_linkFences (o : Output) : (s.emit o).linkFences = s.linkFences := rfl
@[simp] theorem State.emit_ctxs (o : Output) : (s.emit o).ctxs = s.ctxs := rfl
@[simp] theorem State.emit_objs (o : Output) : (s.emit o).objs = s.objs := rfl
@[simp] theorem State.emit_fences (o : Output) : (s.emit o).fences = s.fences := rfl
@[simp] theorem State.emit_badFences (o : Output) : (s.emit o).badFences = s.badFences := rfl
@[simp] theorem State.emit_fpages (o : Output) : (s.emit o).fpages = s.fpages := rfl
@[simp] theorem State.emit_ctxWin (o : Output) : (s.emit o).ctxWin = s.ctxWin := rfl
@[simp] theorem State.emit_slots (o : Output) : (s.emit o).slots = s.slots := rfl
@[simp] theorem State.emit_fills (o : Output) : (s.emit o).fills = s.fills := rfl
@[simp] theorem State.emit_vault (o : Output) : (s.emit o).vault = s.vault := rfl
@[simp] theorem State.emit_flt (o : Output) : (s.emit o).flt = s.flt := rfl
@[simp] theorem State.emit_units (o : Output) : (s.emit o).units = s.units := rfl
@[simp] theorem State.emit_fawn (o : Output) : (s.emit o).fawn = s.fawn := rfl
@[simp] theorem State.emit_pair (o : Output) : (s.emit o).pair = s.pair := rfl
@[simp] theorem State.emit_obs (o : Output) : (s.emit o).obs = s.obs := rfl
@[simp] theorem State.emit_sink (o : Output) : (s.emit o).sink = s.sink := rfl
@[simp] theorem State.emit_out (o : Output) : (s.emit o).out = s.out ++ [o] := rfl
@[simp] theorem State.emit_freeCount (o : Output) : (s.emit o).freeCount = s.freeCount := rfl
@[simp] theorem State.emit_nextId (o : Output) : (s.emit o).nextId = s.nextId := rfl
@[simp] theorem State.emit_mgTag (o : Output) : (s.emit o).mgTag = s.mgTag := rfl
@[simp] theorem State.emit_pending (o : Output) : (s.emit o).pending = s.pending := rfl

end Sys2Proof.Machine
end

