-- ==== Sys2Proof/Laws/Access.lean ====
section
/-! SUPPORT. Reading an entry of the state after writing one: the entry written, and every other entry. -/

namespace Sys2Proof.Machine

/-- Another entry is unchanged. -/
@[simp] theorem State.setPort_port_ne (s : State) {i j : Nat} (v : PortSt) (h : j ≠ i) : (s.setPort i v).port j = s.port j :=
  tget_tset_ne _ _ _ _ h

/-- The entry written. -/
@[simp] theorem State.setPort_port (s : State) (i : Nat) (v : PortSt) : (s.setPort i v).port i = v :=
  tget_tset_self _ _ _ _

/-- The entry written, where it is not as at reset. -/
theorem State.setPort_port_of_ne (s : State) (i : Nat) {v : PortSt} (h : v ≠ {}) : (s.setPort i v).port i = v :=
  tget_tset_self_of_ne _ _ _ h

/-- Another entry is unchanged. -/
@[simp] theorem State.setTile_tile_ne (s : State) {i j : Nat} (v : TileSt) (h : j ≠ i) : (s.setTile i v).tile j = s.tile j :=
  tget_tset_ne _ _ _ _ h

/-- The entry written. -/
@[simp] theorem State.setTile_tile (s : State) (i : Nat) (v : TileSt) : (s.setTile i v).tile i = v :=
  tget_tset_self _ _ _ _

/-- The entry written, where it is not as at reset. -/
theorem State.setTile_tile_of_ne (s : State) (i : Nat) {v : TileSt} (h : v ≠ {}) : (s.setTile i v).tile i = v :=
  tget_tset_self_of_ne _ _ _ h

/-- Another entry is unchanged. -/
@[simp] theorem State.setMp_mp_ne (s : State) {i j : Nat} (v : MemPort) (h : j ≠ i) : (s.setMp i v).mp j = s.mp j :=
  tget_tset_ne _ _ _ _ h

/-- The entry written. -/
@[simp] theorem State.setMp_mp (s : State) (i : Nat) (v : MemPort) : (s.setMp i v).mp i = v :=
  tget_tset_self _ _ _ _

/-- The entry written, where it is not as at reset. -/
theorem State.setMp_mp_of_ne (s : State) (i : Nat) {v : MemPort} (h : v ≠ {}) : (s.setMp i v).mp i = v :=
  tget_tset_self_of_ne _ _ _ h

/-- Another entry is unchanged. -/
@[simp] theorem State.setOwn_ownAt_ne (s : State) {i j : Nat} (v : OwnEntry) (h : j ≠ i) : (s.setOwn i v).ownAt j = s.ownAt j :=
  tget_tset_ne _ _ _ _ h

/-- The entry written. -/
@[simp] theorem State.setOwn_ownAt (s : State) (i : Nat) (v : OwnEntry) : (s.setOwn i v).ownAt i = v :=
  tget_tset_self _ _ _ _

/-- The entry written, where it is not as at reset. -/
theorem State.setOwn_ownAt_of_ne (s : State) (i : Nat) {v : OwnEntry} (h : v ≠ {}) : (s.setOwn i v).ownAt i = v :=
  tget_tset_self_of_ne _ _ _ h

/-- Another entry is unchanged. -/
@[simp] theorem State.setFnc_fnc_ne (s : State) {i j : Nat} (v : FncRec) (h : j ≠ i) : (s.setFnc i v).fnc j = s.fnc j :=
  tget_tset_ne _ _ _ _ h

/-- The entry written. -/
@[simp] theorem State.setFnc_fnc (s : State) (i : Nat) (v : FncRec) : (s.setFnc i v).fnc i = v :=
  tget_tset_self _ _ _ _

/-- The entry written, where it is not as at reset. -/
theorem State.setFnc_fnc_of_ne (s : State) (i : Nat) {v : FncRec} (h : v ≠ (fncInit i)) : (s.setFnc i v).fnc i = v :=
  tget_tset_self_of_ne _ _ _ h

/-- Another entry is unchanged. -/
@[simp] theorem State.setView_view_ne (s : State) {i j : Nat} (v : View) (h : j ≠ i) : (s.setView i v).view j = s.view j :=
  tget_tset_ne _ _ _ _ h

/-- The entry written. -/
@[simp] theorem State.setView_view (s : State) (i : Nat) (v : View) : (s.setView i v).view i = v :=
  tget_tset_self _ _ _ _

/-- The entry written, where it is not as at reset. -/
theorem State.setView_view_of_ne (s : State) (i : Nat) {v : View} (h : v ≠ {}) : (s.setView i v).view i = v :=
  tget_tset_self_of_ne _ _ _ h

/-- Another entry is unchanged. -/
@[simp] theorem State.setHome_home_ne (s : State) {i j : Nat} (v : HomeSt) (h : j ≠ i) : (s.setHome i v).home j = s.home j :=
  tget_tset_ne _ _ _ _ h

/-- The entry written. -/
@[simp] theorem State.setHome_home (s : State) (i : Nat) (v : HomeSt) : (s.setHome i v).home i = v :=
  tget_tset_self _ _ _ _

/-- The entry written, where it is not as at reset. -/
theorem State.setHome_home_of_ne (s : State) (i : Nat) {v : HomeSt} (h : v ≠ (homeInit i)) : (s.setHome i v).home i = v :=
  tget_tset_self_of_ne _ _ _ h

/-- Another entry is unchanged. -/
@[simp] theorem State.setKey_key_ne (s : State) {i j : Nat} (v : KeySt) (h : j ≠ i) : (s.setKey i v).key j = s.key j :=
  tget_tset_ne _ _ _ _ h

/-- The entry written. -/
@[simp] theorem State.setKey_key (s : State) (i : Nat) (v : KeySt) : (s.setKey i v).key i = v :=
  tget_tset_self _ _ _ _

/-- The entry written, where it is not as at reset. -/
theorem State.setKey_key_of_ne (s : State) (i : Nat) {v : KeySt} (h : v ≠ {}) : (s.setKey i v).key i = v :=
  tget_tset_self_of_ne _ _ _ h

/-- Another entry is unchanged. -/
@[simp] theorem State.setWin_win_ne (s : State) {i j : Nat} (v : Window) (h : j ≠ i) : (s.setWin i v).win j = s.win j :=
  tget_tset_ne _ _ _ _ h

/-- The entry written. -/
@[simp] theorem State.setWin_win (s : State) (i : Nat) (v : Window) : (s.setWin i v).win i = v :=
  tget_tset_self _ _ _ _

/-- The entry written, where it is not as at reset. -/
theorem State.setWin_win_of_ne (s : State) (i : Nat) {v : Window} (h : v ≠ {}) : (s.setWin i v).win i = v :=
  tget_tset_self_of_ne _ _ _ h

/-- Another entry is unchanged. -/
@[simp] theorem State.setEngine_engine_ne (s : State) {i j : Nat} (v : EngineSt) (h : j ≠ i) : (s.setEngine i v).engine j = s.engine j :=
  tget_tset_ne _ _ _ _ h

/-- The entry written. -/
@[simp] theorem State.setEngine_engine (s : State) (i : Nat) (v : EngineSt) : (s.setEngine i v).engine i = v :=
  tget_tset_self _ _ _ _

/-- The entry written, where it is not as at reset. -/
theorem State.setEngine_engine_of_ne (s : State) (i : Nat) {v : EngineSt} (h : v ≠ {}) : (s.setEngine i v).engine i = v :=
  tget_tset_self_of_ne _ _ _ h

/-- Another entry is unchanged. -/
@[simp] theorem State.setSeqw_seqw_ne (s : State) {i j : Nat} (v : SeqWin) (h : j ≠ i) : (s.setSeqw i v).seqw j = s.seqw j :=
  tget_tset_ne _ _ _ _ h

/-- The entry written. -/
@[simp] theorem State.setSeqw_seqw (s : State) (i : Nat) (v : SeqWin) : (s.setSeqw i v).seqw i = v :=
  tget_tset_self _ _ _ _

/-- The entry written, where it is not as at reset. -/
theorem State.setSeqw_seqw_of_ne (s : State) (i : Nat) {v : SeqWin} (h : v ≠ {}) : (s.setSeqw i v).seqw i = v :=
  tget_tset_self_of_ne _ _ _ h

/-- Another entry is unchanged. -/
@[simp] theorem State.setTine_tine_ne (s : State) {i j : Nat} (v : TineSt) (h : j ≠ i) : (s.setTine i v).tine j = s.tine j :=
  tget_tset_ne _ _ _ _ h

/-- The entry written. -/
@[simp] theorem State.setTine_tine (s : State) (i : Nat) (v : TineSt) : (s.setTine i v).tine i = v :=
  tget_tset_self _ _ _ _

/-- The entry written, where it is not as at reset. -/
theorem State.setTine_tine_of_ne (s : State) (i : Nat) {v : TineSt} (h : v ≠ (tineInit i)) : (s.setTine i v).tine i = v :=
  tget_tset_self_of_ne _ _ _ h

/-- Another entry is unchanged. -/
@[simp] theorem State.setSa_sa_ne (s : State) {i j : Nat} (v : SaSt) (h : j ≠ i) : (s.setSa i v).sa j = s.sa j :=
  tget_tset_ne _ _ _ _ h

/-- The entry written. -/
@[simp] theorem State.setSa_sa (s : State) (i : Nat) (v : SaSt) : (s.setSa i v).sa i = v :=
  tget_tset_self _ _ _ _

/-- The entry written, where it is not as at reset. -/
theorem State.setSa_sa_of_ne (s : State) (i : Nat) {v : SaSt} (h : v ≠ {}) : (s.setSa i v).sa i = v :=
  tget_tset_self_of_ne _ _ _ h

/-- Another entry is unchanged. -/
@[simp] theorem State.setCtx_ctx_ne (s : State) {i j : Nat} (v : CtxRec) (h : j ≠ i) : (s.setCtx i v).ctx j = s.ctx j :=
  tget_tset_ne _ _ _ _ h

/-- The entry written. -/
@[simp] theorem State.setCtx_ctx (s : State) (i : Nat) (v : CtxRec) : (s.setCtx i v).ctx i = v :=
  tget_tset_self _ _ _ _

/-- The entry written, where it is not as at reset. -/
theorem State.setCtx_ctx_of_ne (s : State) (i : Nat) {v : CtxRec} (h : v ≠ {}) : (s.setCtx i v).ctx i = v :=
  tget_tset_self_of_ne _ _ _ h

/-- Another entry is unchanged. -/
@[simp] theorem State.setObj_obj_ne (s : State) {i j : Nat} (v : ObjRec) (h : j ≠ i) : (s.setObj i v).obj j = s.obj j :=
  tget_tset_ne _ _ _ _ h

/-- The entry written. -/
@[simp] theorem State.setObj_obj (s : State) (i : Nat) (v : ObjRec) : (s.setObj i v).obj i = v :=
  tget_tset_self _ _ _ _

/-- The entry written, where it is not as at reset. -/
theorem State.setObj_obj_of_ne (s : State) (i : Nat) {v : ObjRec} (h : v ≠ {}) : (s.setObj i v).obj i = v :=
  tget_tset_self_of_ne _ _ _ h

/-- Another entry is unchanged. -/
@[simp] theorem State.setFpage_fpage_ne (s : State) {i j : Nat} (v : FPage) (h : j ≠ i) : (s.setFpage i v).fpage j = s.fpage j :=
  tget_tset_ne _ _ _ _ h

/-- The entry written. -/
@[simp] theorem State.setFpage_fpage (s : State) (i : Nat) (v : FPage) : (s.setFpage i v).fpage i = v :=
  tget_tset_self _ _ _ _

/-- The entry written, where it is not as at reset. -/
theorem State.setFpage_fpage_of_ne (s : State) (i : Nat) {v : FPage} (h : v ≠ {}) : (s.setFpage i v).fpage i = v :=
  tget_tset_self_of_ne _ _ _ h

/-- Another entry is unchanged. -/
@[simp] theorem State.setSlot_slot_ne (s : State) {i j : Nat} (v : SlotSt) (h : j ≠ i) : (s.setSlot i v).slot j = s.slot j :=
  tget_tset_ne _ _ _ _ h

/-- The entry written. -/
@[simp] theorem State.setSlot_slot (s : State) (i : Nat) (v : SlotSt) : (s.setSlot i v).slot i = v :=
  tget_tset_self _ _ _ _

/-- The entry written, where it is not as at reset. -/
theorem State.setSlot_slot_of_ne (s : State) (i : Nat) {v : SlotSt} (h : v ≠ {}) : (s.setSlot i v).slot i = v :=
  tget_tset_self_of_ne _ _ _ h

/-- Another entry is unchanged. -/
@[simp] theorem State.setUnit_unit_ne (s : State) {i j : Nat} (v : UnitSt) (h : j ≠ i) : (s.setUnit i v).unit j = s.unit j :=
  tget_tset_ne _ _ _ _ h

/-- The entry written. -/
@[simp] theorem State.setUnit_unit (s : State) (i : Nat) (v : UnitSt) : (s.setUnit i v).unit i = v :=
  tget_tset_self _ _ _ _

/-- The entry written, where it is not as at reset. -/
theorem State.setUnit_unit_of_ne (s : State) (i : Nat) {v : UnitSt} (h : v ≠ {}) : (s.setUnit i v).unit i = v :=
  tget_tset_self_of_ne _ _ _ h

/-! ### A transfer leaves every entry -/

@[simp] theorem State.emit_port (s : State) (o : Output) (i : Nat) : (s.emit o).port i = s.port i := rfl
@[simp] theorem State.emit_tile (s : State) (o : Output) (i : Nat) : (s.emit o).tile i = s.tile i := rfl
@[simp] theorem State.emit_mp (s : State) (o : Output) (i : Nat) : (s.emit o).mp i = s.mp i := rfl
@[simp] theorem State.emit_ownAt (s : State) (o : Output) (i : Nat) : (s.emit o).ownAt i = s.ownAt i := rfl
@[simp] theorem State.emit_fnc (s : State) (o : Output) (i : Nat) : (s.emit o).fnc i = s.fnc i := rfl
@[simp] theorem State.emit_view (s : State) (o : Output) (i : Nat) : (s.emit o).view i = s.view i := rfl
@[simp] theorem State.emit_home (s : State) (o : Output) (i : Nat) : (s.emit o).home i = s.home i := rfl
@[simp] theorem State.emit_key (s : State) (o : Output) (i : Nat) : (s.emit o).key i = s.key i := rfl
@[simp] theorem State.emit_win (s : State) (o : Output) (i : Nat) : (s.emit o).win i = s.win i := rfl
@[simp] theorem State.emit_engine (s : State) (o : Output) (i : Nat) : (s.emit o).engine i = s.engine i := rfl
@[simp] theorem State.emit_seqw (s : State) (o : Output) (i : Nat) : (s.emit o).seqw i = s.seqw i := rfl
@[simp] theorem State.emit_tine (s : State) (o : Output) (i : Nat) : (s.emit o).tine i = s.tine i := rfl
@[simp] theorem State.emit_sa (s : State) (o : Output) (i : Nat) : (s.emit o).sa i = s.sa i := rfl
@[simp] theorem State.emit_ctx (s : State) (o : Output) (i : Nat) : (s.emit o).ctx i = s.ctx i := rfl
@[simp] theorem State.emit_obj (s : State) (o : Output) (i : Nat) : (s.emit o).obj i = s.obj i := rfl
@[simp] theorem State.emit_fpage (s : State) (o : Output) (i : Nat) : (s.emit o).fpage i = s.fpage i := rfl
@[simp] theorem State.emit_slot (s : State) (o : Output) (i : Nat) : (s.emit o).slot i = s.slot i := rfl
@[simp] theorem State.emit_unit (s : State) (o : Output) (i : Nat) : (s.emit o).unit i = s.unit i := rfl

end Sys2Proof.Machine
end

