-- ==== Sys2Proof/Laws/Code.lean ====
section
/-! SUPPORT. The code of a stored sector: the decoder finds no error in what the encoder made, so a sector that was stored under a
key is judged good under it (07 R217, R218, R224). -/

namespace Sys2Proof.Machine

theorem gfDouble_shift : ∀ a, a < 256 → gfDouble a = (a <<< 1) ^^^ (if a.testBit 7 then 285 else 0) := by decide +kernel

theorem gfDouble_lt : ∀ a, a < 256 → gfDouble a < 256 := by decide +kernel

theorem xor_lt_256 {a b : Nat} (ha : a < 256) (hb : b < 256) : a ^^^ b < 256 := Nat.xor_lt_two_pow (n := 8) ha hb

/-- Doubling in the field is linear. -/
theorem gfDouble_xor {a b : Nat} (ha : a < 256) (hb : b < 256) : gfDouble (a ^^^ b) = gfDouble a ^^^ gfDouble b := by
  rw [gfDouble_shift _ (xor_lt_256 ha hb), gfDouble_shift a ha, gfDouble_shift b hb, Nat.shiftLeft_xor_distrib, Nat.testBit_xor]
  cases a.testBit 7 <;> cases b.testBit 7 <;> simp [Nat.xor_assoc, Nat.xor_comm, Nat.xor_left_comm]

theorem gfMulBits_lt (n : Nat) : ∀ {a : Nat} (b : Nat), a < 256 → gfMulBits a b n < 256 := by
  induction n with
  | zero => intro a b _; simp [gfMulBits]
  | succ n ih =>
    intro a b ha
    simp only [gfMulBits]
    refine xor_lt_256 ?_ (ih _ (gfDouble_lt a ha))
    split <;> omega

theorem gfMul_lt {a : Nat} (b : Nat) (ha : a < 256) : gfMul a b < 256 := gfMulBits_lt 8 b ha

theorem gfMulBits_xor (n : Nat) : ∀ {a b : Nat} (c : Nat), a < 256 → b < 256 →
    gfMulBits (a ^^^ b) c n = gfMulBits a c n ^^^ gfMulBits b c n := by
  induction n with
  | zero => intros; simp [gfMulBits]
  | succ n ih =>
    intro a b c ha hb
    simp only [gfMulBits]
    rw [gfDouble_xor ha hb, ih _ (gfDouble_lt a ha) (gfDouble_lt b hb)]
    split <;> simp [Nat.xor_assoc, Nat.xor_left_comm]

/-- Multiplication in the field is linear in its first operand. -/
theorem gfMul_xor {a b : Nat} (c : Nat) (ha : a < 256) (hb : b < 256) : gfMul (a ^^^ b) c = gfMul a c ^^^ gfMul b c :=
  gfMulBits_xor 8 c ha hb

/-- The generator vanishes at its four roots. -/
theorem rsGen_root : ∀ r ∈ [1, 2, 4, 8], ∀ f, f < 256 →
    gfMul (gfMul (gfMul (gfMul f r ^^^ gfMul 15 f) r ^^^ gfMul 54 f) r ^^^ gfMul 120 f) r ^^^ gfMul 64 f = 0 := by decide +kernel

theorem gfMul_zero_left (r : Nat) : r ∈ [1, 2, 4, 8] → gfMul 0 r = 0 := by
  revert r; decide +kernel

/-- The syndrome at a root of symbols with syndrome `a` followed by four check symbols. -/
def synOf (r a : Nat) (c : Nat × Nat × Nat × Nat) : Nat :=
  gfMul (gfMul (gfMul (gfMul a r ^^^ c.1) r ^^^ c.2.1) r ^^^ c.2.2.1) r ^^^ c.2.2.2

theorem rsSyndrome_append (r : Nat) (xs ys : List Nat) : ∀ a, rsSyndrome r (xs ++ ys) a = rsSyndrome r ys (rsSyndrome r xs a) := by
  induction xs with
  | nil => intro a; rfl
  | cons x xs ih => intro a; exact ih _

def small4 (c : Nat × Nat × Nat × Nat) : Prop := c.1 < 256 ∧ c.2.1 < 256 ∧ c.2.2.1 < 256 ∧ c.2.2.2 < 256

/-- Taking in one symbol keeps the code word's syndrome 0. -/
theorem synOf_step {r : Nat} (hr : r ∈ [1, 2, 4, 8]) {a b : Nat} (ha : a < 256) (hb : b < 256) {c : Nat × Nat × Nat × Nat}
    (hc : small4 c) (h : synOf r a c = 0) :
    synOf r (gfMul a r ^^^ b) (c.2.1 ^^^ gfMul 15 (b ^^^ c.1), c.2.2.1 ^^^ gfMul 54 (b ^^^ c.1), c.2.2.2 ^^^ gfMul 120 (b ^^^ c.1), gfMul 64 (b ^^^ c.1)) = 0 := by
  obtain ⟨r3, r2, r1, r0⟩ := c
  obtain ⟨h3, h2, h1, h0⟩ := hc
  simp only at h3 h2 h1 h0 h ⊢
  have hf : b ^^^ r3 < 256 := xor_lt_256 hb h3
  generalize hfe : b ^^^ r3 = f at hf
  have hbe : b = r3 ^^^ f := by rw [← hfe, Nat.xor_comm b r3, ← Nat.xor_assoc, Nat.xor_self, Nat.zero_xor]
  have g15 : gfMul 15 f < 256 := gfMul_lt _ (by omega)
  have g54 : gfMul 54 f < 256 := gfMul_lt _ (by omega)
  have g120 : gfMul 120 f < 256 := gfMul_lt _ (by omega)
  have hx0 : gfMul a r ^^^ r3 < 256 := xor_lt_256 (gfMul_lt _ ha) h3
  simp only [synOf] at h ⊢
  have e0 : gfMul a r ^^^ b = (gfMul a r ^^^ r3) ^^^ f := by rw [hbe, Nat.xor_assoc]
  rw [e0]
  generalize gfMul a r ^^^ r3 = x0 at h hx0
  have hx1 : gfMul x0 r ^^^ r2 < 256 := xor_lt_256 (gfMul_lt _ hx0) h2
  have e1 : gfMul (x0 ^^^ f) r ^^^ (r2 ^^^ gfMul 15 f) = (gfMul x0 r ^^^ r2) ^^^ (gfMul f r ^^^ gfMul 15 f) := by
    rw [gfMul_xor r hx0 hf]; ac_rfl
  rw [e1]
  generalize gfMul x0 r ^^^ r2 = x1 at h hx1
  have hy1 : gfMul f r ^^^ gfMul 15 f < 256 := xor_lt_256 (gfMul_lt _ hf) g15
  have hg := rsGen_root r hr f hf
  generalize gfMul f r ^^^ gfMul 15 f = y1 at hy1 hg
  have hx2 : gfMul x1 r ^^^ r1 < 256 := xor_lt_256 (gfMul_lt _ hx1) h1
  have e2 : gfMul (x1 ^^^ y1) r ^^^ (r1 ^^^ gfMul 54 f) = (gfMul x1 r ^^^ r1) ^^^ (gfMul y1 r ^^^ gfMul 54 f) := by
    rw [gfMul_xor r hx1 hy1]; ac_rfl
  rw [e2]
  generalize gfMul x1 r ^^^ r1 = x2 at h hx2
  have hy2 : gfMul y1 r ^^^ gfMul 54 f < 256 := xor_lt_256 (gfMul_lt _ hy1) g54
  generalize gfMul y1 r ^^^ gfMul 54 f = y2 at hy2 hg
  have e3 : gfMul (x2 ^^^ y2) r ^^^ (r0 ^^^ gfMul 120 f) = (gfMul x2 r ^^^ r0) ^^^ (gfMul y2 r ^^^ gfMul 120 f) := by
    rw [gfMul_xor r hx2 hy2]; ac_rfl
  rw [e3, h, Nat.zero_xor]
  exact hg

/-- The check symbols are symbols, and make the code word's syndrome 0. -/
theorem rsCheck_syn {r : Nat} (hr : r ∈ [1, 2, 4, 8]) (bs : List Nat) : ∀ {a : Nat} {c : Nat × Nat × Nat × Nat}, (∀ b ∈ bs, b < 256) →
    a < 256 → small4 c → synOf r a c = 0 → small4 (rsCheck bs c) ∧ synOf r (rsSyndrome r bs a) (rsCheck bs c) = 0 := by
  induction bs with
  | nil => intro a c _ _ hc h; exact ⟨hc, h⟩
  | cons b bs ih =>
    intro a c hb ha hc h
    have hb0 : b < 256 := hb b (List.mem_cons_self ..)
    have hs := synOf_step hr ha hb0 hc h
    obtain ⟨r3, r2, r1, r0⟩ := c
    obtain ⟨h3, h2, h1, h0⟩ := hc
    have g : ∀ k, k < 256 → gfMul k (b ^^^ r3) < 256 := fun k hk => gfMul_lt _ hk
    exact ih (fun x hx => hb x (List.mem_cons_of_mem _ hx)) (xor_lt_256 (gfMul_lt _ ha) hb0)
      ⟨xor_lt_256 h2 (g 15 (by omega)), xor_lt_256 h1 (g 54 (by omega)), xor_lt_256 h0 (g 120 (by omega)), g 64 (by omega)⟩ hs

theorem leBytes_lt (k : Nat) : ∀ v, ∀ b ∈ (leBytes v k).map (·.toNat), b < 256 := by
  induction k with
  | zero => intro v b hb; simp [leBytes] at hb
  | succ k ih =>
    intro v b hb
    simp only [leBytes, List.map_cons, List.mem_cons] at hb
    rcases hb with rfl | hb
    · exact (BitVec.ofNat 8 v).isLt
    · exact ih _ b hb

theorem rsInfo_lt (c : Sector) (hi : BitVec 32) : ∀ b ∈ rsInfo c hi, b < 256 := by
  intro b hb
  simp only [rsInfo, List.map_append, List.mem_append] at hb
  rcases hb with hb | hb
  · exact leBytes_lt _ _ b hb
  · exact leBytes_lt _ _ b hb

/-- The code field spells the four check symbols. -/
theorem rsCode_eq (c : Sector) (hi : BitVec 32) : rsCode c hi = (rsCheck (rsInfo c hi) (0, 0, 0, 0)).1
    + (rsCheck (rsInfo c hi) (0, 0, 0, 0)).2.1 * 2 ^ 8 + (rsCheck (rsInfo c hi) (0, 0, 0, 0)).2.2.1 * 2 ^ 16
    + (rsCheck (rsInfo c hi) (0, 0, 0, 0)).2.2.2 * 2 ^ 24 := by
  unfold rsCode
  generalize rsCheck (rsInfo c hi) (0, 0, 0, 0) = q
  obtain ⟨q3, q2, q1, q0⟩ := q
  rfl

theorem rsCheck_info (c : Sector) (hi : BitVec 32) (r : Nat) (hr : r ∈ [1, 2, 4, 8]) :
    small4 (rsCheck (rsInfo c hi) (0, 0, 0, 0)) ∧ synOf r (rsSyndrome r (rsInfo c hi) 0) (rsCheck (rsInfo c hi) (0, 0, 0, 0)) = 0 := by
  refine rsCheck_syn hr _ (rsInfo_lt c hi) (by omega) ⟨by decide, by decide, by decide, by decide⟩ ?_
  simp [synOf, gfMul_zero_left r hr]

theorem rsCode_lt (c : Sector) (hi : BitVec 32) : rsCode c hi < 2 ^ 32 := by
  have h := (rsCheck_info c hi 1 (by simp)).1
  rw [rsCode_eq]
  generalize rsCheck (rsInfo c hi) (0, 0, 0, 0) = q at *
  obtain ⟨q3, q2, q1, q0⟩ := q
  obtain ⟨h3, h2, h1, h0⟩ := h
  simp only at h3 h2 h1 h0 ⊢
  omega

theorem sideband_toNat (c : Sector) (hi : BitVec 32) : (sideband c hi).toNat = rsCode c hi + hi.toNat * 2 ^ 32 := by
  have h := rsCode_lt c hi
  have := hi.isLt
  unfold sideband
  rw [BitVec.toNat_ofNat, Nat.shiftLeft_eq]
  generalize rsCode c hi = q at *
  apply Nat.mod_eq_of_lt
  omega

/-- The upper half of a stored sideband. -/
theorem sideband_hi (c : Sector) (hi : BitVec 32) : BitVec.ofNat 32 ((sideband c hi).toNat >>> 32) = hi := by
  have h := rsCode_lt c hi
  rw [sideband_toNat, Nat.shiftRight_eq_div_pow]
  generalize rsCode c hi = q at *
  have : (q + hi.toNat * 2 ^ 32) / 2 ^ 32 = hi.toNat := by omega
  rw [this, BitVec.ofNat_toNat, BitVec.setWidth_eq]

theorem leBytes4 (a b c d : Nat) (h3 : a < 256) (h2 : b < 256) (h1 : c < 256) (h0 : d < 256) :
    (leBytes (a + b * 2 ^ 8 + c * 2 ^ 16 + d * 2 ^ 24) 4).map (·.toNat) = [a, b, c, d] := by
  simp only [leBytes, List.map_cons, List.map_nil, BitVec.toNat_ofNat, List.cons.injEq, and_true]
  refine ⟨?_, ?_, ?_, ?_⟩ <;> omega

/-- The symbols of the code field of a stored sideband. -/
theorem sideband_lo (c : Sector) (hi : BitVec 32) : (leBytes ((sideband c hi).toNat % 2 ^ 32) 4).map (·.toNat) =
    [(rsCheck (rsInfo c hi) (0, 0, 0, 0)).1, (rsCheck (rsInfo c hi) (0, 0, 0, 0)).2.1, (rsCheck (rsInfo c hi) (0, 0, 0, 0)).2.2.1,
      (rsCheck (rsInfo c hi) (0, 0, 0, 0)).2.2.2] := by
  have h := rsCode_lt c hi
  have : (sideband c hi).toNat % 2 ^ 32 = rsCode c hi := by
    rw [sideband_toNat]
    generalize rsCode c hi = q at *
    omega
  rw [this, rsCode_eq]
  obtain ⟨h3, h2, h1, h0⟩ := (rsCheck_info c hi 1 (by simp)).1
  exact leBytes4 _ _ _ _ h3 h2 h1 h0

theorem syndromes_zero (c : Sector) (hi : BitVec 32) (r : Nat) (hr : r ∈ [1, 2, 4, 8]) :
    rsSyndrome r (rsInfo c hi ++ [(rsCheck (rsInfo c hi) (0, 0, 0, 0)).1, (rsCheck (rsInfo c hi) (0, 0, 0, 0)).2.1,
      (rsCheck (rsInfo c hi) (0, 0, 0, 0)).2.2.1, (rsCheck (rsInfo c hi) (0, 0, 0, 0)).2.2.2]) 0 = 0 := by
  rw [rsSyndrome_append]
  have h := (rsCheck_info c hi r hr).2
  generalize rsCheck (rsInfo c hi) (0, 0, 0, 0) = q at *
  exact h

/-- The decoder finds no error in what the encoder made. -/
theorem rsDecode_sideband (c : Sector) (hi : BitVec 32) : rsDecode c (sideband c hi) = some (c, sideband c hi, false) := by
  unfold rsDecode
  simp only [sideband_hi, sideband_lo, syndromes_zero c hi 1 (by simp), syndromes_zero c hi 2 (by simp),
    syndromes_zero c hi 4 (by simp), syndromes_zero c hi 8 (by simp)]
  rfl

/-- A sector stored under a key, unpoisoned, is judged good under it and gives its plaintext. -/
theorem State.judge_stored (s : State) (key ix : Nat) (c : Sector) (version : Bool) :
    s.judge key ix false c (sideband c (s.sideOf key ix c false version))
      = .good (s.plainOf key ix c) false c (s.sideOf key ix c false version) := by
  have ht : sectorTag (s.material key) ix version c < 2 ^ 28 := Nat.mod_lt _ (by decide)
  have hs : (s.sideOf key ix c false version).toNat = sectorTag (s.material key) ix version c + (if version then 2 ^ 29 else 0) := by
    unfold State.sideOf
    rw [BitVec.toNat_ofNat]
    generalize sectorTag (s.material key) ix version c = t at *
    cases version <;> simp [place, flag] <;> omega
  have hp : Nat.testBit (s.sideOf key ix c false version).toNat 28 = false := by
    rw [hs, Nat.testBit_eq_decide_div_mod_eq]
    generalize sectorTag (s.material key) ix version c = t at *
    cases version <;> simp <;> omega
  have hv : Nat.testBit (s.sideOf key ix c false version).toNat 29 = version := by
    rw [hs, Nat.testBit_eq_decide_div_mod_eq]
    generalize sectorTag (s.material key) ix version c = t at *
    cases version <;> simp <;> omega
  have hm : (s.sideOf key ix c false version).toNat % 2 ^ 28 = sectorTag (s.material key) ix version c := by
    rw [hs]
    generalize sectorTag (s.material key) ix version c = t at *
    cases version <;> simp <;> omega
  unfold State.judge
  rw [rsDecode_sideband]
  simp only [sideband_hi, hp, hv, hm]
  simp

end Sys2Proof.Machine
end

