-- ==== Sys2Proof/Laws/Kept.lean ====
section
/-! SUPPORT. What few commands change (`State.kept`), and how folds and branches keep it. The files KeptHomes,
KeptJobs, KeptLinks and KeptFawn say, once for each shared operation, that it keeps all of it; Moves says what the other
operations keep of it. -/

set_option maxRecDepth 4000
set_option linter.all false

namespace Sys2Proof.Machine

/-- What only a few commands change: the timeout, shadow and fclk-limit registers, the tick, the queue, the ownership table,
the active configuration, the function records and the test port. -/
structure Kept where
  homeTimeout : HomeTimeout
  shadowWays : Nat
  fclkLimit : Nat
  tick : Nat
  pending : List Instr
  own : Map OwnEntry
  active : ImgCfg
  fncs : Map FncRec
  test : TestPort

/-- `Kept` of a state. -/
def State.kept (s : State) : Kept :=
  { homeTimeout := s.homeTimeout, shadowWays := s.rw.shadowWays, fclkLimit := s.blk.fclkLimit, tick := s.blk.tick, pending := s.pending, own := s.own, active := s.img.active, fncs := s.fncs, test := s.test }

theorem State.kept_mk x0 x1 x2 x3 x4 x5 x6 x7 x8 x9 x10 x11 x12 x13 x14 x15 x16 x17 x18 x19 x20 x21 x22 x23 x24 x25 x26 x27 x28 x29 x30 x31 x32 x33 x34 x35 x36 x37 x38 x39 x40 x41 x42 x43 x44 x45 x46 x47 x48 x49 x50 x51 x52 x53 x54 x55 x56 x57 :
    State.kept (State.mk x0 x1 x2 x3 x4 x5 x6 x7 x8 x9 x10 x11 x12 x13 x14 x15 x16 x17 x18 x19 x20 x21 x22 x23 x24 x25 x26 x27 x28 x29 x30 x31 x32 x33 x34 x35 x36 x37 x38 x39 x40 x41 x42 x43 x44 x45 x46 x47 x48 x49 x50 x51 x52 x53 x54 x55 x56 x57) =
      Kept.mk x20 (x25.shadowWays) (x0.fclkLimit) (x0.tick) x57 x10 (x16.active) x13 x7 := by
  unfold State.kept
  rfl

theorem State.kept_eta (s : State) : Kept.mk s.homeTimeout s.rw.shadowWays s.blk.fclkLimit s.blk.tick s.pending s.own s.img.active s.fncs s.test = s.kept := by
  unfold State.kept
  rfl

theorem ite_kept {c : Prop} [Decidable c] {a b : State} {k : Kept} (ha : a.kept = k) (hb : b.kept = k) :
    (if c then a else b).kept = k := by
  split <;> assumption

theorem ite_eq_of {α : Type} {c : Prop} [Decidable c] {a b k : α} (ha : a = k) (hb : b = k) : (if c then a else b) = k := by
  split <;> assumption

theorem of_ite_none {α : Type} {c : Prop} [Decidable c] {x : Option α} {r : α} (h : (if c then none else x) = some r) :
    x = some r := by
  split at h
  · cases h
  · exact h

theorem of_ite_none' {α : Type} {c : Prop} [Decidable c] {x : Option α} {r : α} (h : (if c then x else none) = some r) :
    x = some r := by
  split at h
  · exact h
  · cases h

theorem foldl_kept {α : Type} (f : State → α → State) (h : ∀ s a, (f s a).kept = s.kept) (l : List α) (s : State) :
    (l.foldl f s).kept = s.kept := by
  induction l generalizing s with
  | nil => rfl
  | cons a l ih => rw [List.foldl_cons, ih, h]

theorem foldl_fst_kept {α β : Type} (f : State × β → α → State × β) (h : ∀ p a, (f p a).1.kept = p.1.kept) (l : List α)
    (p : State × β) : (l.foldl f p).1.kept = p.1.kept := by
  induction l generalizing p with
  | nil => rfl
  | cons a l ih => rw [List.foldl_cons, ih, h]

theorem forRange_kept (f : Nat → State → State) (h : ∀ s i, (f i s).kept = s.kept) (lo n : Nat) (s : State) :
    (forRange lo f n s).kept = s.kept := by
  induction n generalizing lo s with
  | zero => rfl
  | succ n ih => rw [forRange, ih, h]

theorem kept_of_eq {α : Type} {p : State × α} {t : State} {x : α} (h : p = (t, x)) : t.kept = p.1.kept := by rw [h]

theorem kept_of_eq2 {α : Type} {p : α × State} {t : State} {x : α} (h : p = (x, t)) : t.kept = p.2.kept := by rw [h]

end Sys2Proof.Machine
end

