-- ==== Sys2Proof/Laws/KeptHomes.lean ====
section
/-! SUPPORT. The operations of ports, homes, the memory path and tiles keep `State.kept`. -/

set_option maxRecDepth 4000
set_option linter.all false

namespace Sys2Proof.Machine

theorem State.setPort_kept (s : State) (i : Nat) (p : PortSt) :
    (State.setPort s i p).kept = s.kept := by
  simp only [State.setPort] <;>
    repeat' (first | with_reducible rfl | with_reducible assumption | with_reducible refine ite_kept ?_ ?_ | with_reducible refine ite_eq_of ?_ ?_ | split | simp only [↓apply_ite State.kept, ite_self, ↓State.kept_mk, State.kept_eta])

theorem State.setTile_kept (s : State) (i : Nat) (p : TileSt) :
    (State.setTile s i p).kept = s.kept := by
  simp only [State.setTile] <;>
    repeat' (first | with_reducible rfl | with_reducible assumption | with_reducible refine ite_kept ?_ ?_ | with_reducible refine ite_eq_of ?_ ?_ | split | simp only [↓apply_ite State.kept, ite_self, ↓State.kept_mk, State.kept_eta])

theorem State.setMp_kept (s : State) (i : Nat) (p : MemPort) :
    (State.setMp s i p).kept = s.kept := by
  simp only [State.setMp] <;>
    repeat' (first | with_reducible rfl | with_reducible assumption | with_reducible refine ite_kept ?_ ?_ | with_reducible refine ite_eq_of ?_ ?_ | split | simp only [↓apply_ite State.kept, ite_self, ↓State.kept_mk, State.kept_eta])

theorem State.dropOwn_kept (s : State) (stale : Nat → Bool) :
    (State.dropOwn s stale).kept = s.kept := by
  simp only [State.dropOwn] <;>
    repeat' (first | with_reducible rfl | with_reducible assumption | with_reducible refine ite_kept ?_ ?_ | with_reducible refine ite_eq_of ?_ ?_ | split | simp only [↓apply_ite State.kept, ite_self, ↓State.kept_mk, State.kept_eta])

theorem State.setView_kept (s : State) (f : Nat) (v : View) :
    (State.setView s f v).kept = s.kept := by
  simp only [State.setView] <;>
    repeat' (first | with_reducible rfl | with_reducible assumption | with_reducible refine ite_kept ?_ ?_ | with_reducible refine ite_eq_of ?_ ?_ | split | simp only [↓apply_ite State.kept, ite_self, ↓State.kept_mk, State.kept_eta])

theorem State.setHome_kept (s : State) (h : Nat) (v : HomeSt) :
    (State.setHome s h v).kept = s.kept := by
  simp only [State.setHome] <;>
    repeat' (first | with_reducible rfl | with_reducible assumption | with_reducible refine ite_kept ?_ ?_ | with_reducible refine ite_eq_of ?_ ?_ | split | simp only [↓apply_ite State.kept, ite_self, ↓State.kept_mk, State.kept_eta])

theorem State.setKey_kept (s : State) (k : Nat) (v : KeySt) :
    (State.setKey s k v).kept = s.kept := by
  simp only [State.setKey] <;>
    repeat' (first | with_reducible rfl | with_reducible assumption | with_reducible refine ite_kept ?_ ?_ | with_reducible refine ite_eq_of ?_ ?_ | split | simp only [↓apply_ite State.kept, ite_self, ↓State.kept_mk, State.kept_eta])

theorem State.setWin_kept (s : State) (w : Nat) (v : Window) :
    (State.setWin s w v).kept = s.kept := by
  simp only [State.setWin] <;>
    repeat' (first | with_reducible rfl | with_reducible assumption | with_reducible refine ite_kept ?_ ?_ | with_reducible refine ite_eq_of ?_ ?_ | split | simp only [↓apply_ite State.kept, ite_self, ↓State.kept_mk, State.kept_eta])

theorem State.setEngine_kept (s : State) (e : Nat) (v : EngineSt) :
    (State.setEngine s e v).kept = s.kept := by
  simp only [State.setEngine] <;>
    repeat' (first | with_reducible rfl | with_reducible assumption | with_reducible refine ite_kept ?_ ?_ | with_reducible refine ite_eq_of ?_ ?_ | split | simp only [↓apply_ite State.kept, ite_self, ↓State.kept_mk, State.kept_eta])

theorem State.setSeqw_kept (s : State) (i : Nat) (v : SeqWin) :
    (State.setSeqw s i v).kept = s.kept := by
  simp only [State.setSeqw] <;>
    repeat' (first | with_reducible rfl | with_reducible assumption | with_reducible refine ite_kept ?_ ?_ | with_reducible refine ite_eq_of ?_ ?_ | split | simp only [↓apply_ite State.kept, ite_self, ↓State.kept_mk, State.kept_eta])

theorem State.setTine_kept (s : State) (t : Nat) (v : TineSt) :
    (State.setTine s t v).kept = s.kept := by
  simp only [State.setTine] <;>
    repeat' (first | with_reducible rfl | with_reducible assumption | with_reducible refine ite_kept ?_ ?_ | with_reducible refine ite_eq_of ?_ ?_ | split | simp only [↓apply_ite State.kept, ite_self, ↓State.kept_mk, State.kept_eta])

theorem State.setSa_kept (s : State) (n : Nat) (v : SaSt) :
    (State.setSa s n v).kept = s.kept := by
  simp only [State.setSa] <;>
    repeat' (first | with_reducible rfl | with_reducible assumption | with_reducible refine ite_kept ?_ ?_ | with_reducible refine ite_eq_of ?_ ?_ | split | simp only [↓apply_ite State.kept, ite_self, ↓State.kept_mk, State.kept_eta])

theorem State.setPath_kept (s : State) (n path : Nat) (v : PathSt) :
    (State.setPath s n path v).kept = s.kept := by
  simp only [State.setPath] <;>
    repeat' (first | with_reducible rfl | with_reducible assumption | with_reducible refine ite_kept ?_ ?_ | with_reducible refine ite_eq_of ?_ ?_ | split | simp only [↓apply_ite State.kept, ite_self, ↓State.kept_mk, State.kept_eta])

theorem State.setCtx_kept (s : State) (c : Nat) (v : CtxRec) :
    (State.setCtx s c v).kept = s.kept := by
  simp only [State.setCtx] <;>
    repeat' (first | with_reducible rfl | with_reducible assumption | with_reducible refine ite_kept ?_ ?_ | with_reducible refine ite_eq_of ?_ ?_ | split | simp only [↓apply_ite State.kept, ite_self, ↓State.kept_mk, State.kept_eta])

theorem State.setObj_kept (s : State) (o : Nat) (v : ObjRec) :
    (State.setObj s o v).kept = s.kept := by
  simp only [State.setObj] <;>
    repeat' (first | with_reducible rfl | with_reducible assumption | with_reducible refine ite_kept ?_ ?_ | with_reducible refine ite_eq_of ?_ ?_ | split | simp only [↓apply_ite State.kept, ite_self, ↓State.kept_mk, State.kept_eta])

theorem State.setFence_kept (s : State) (i : Nat) (v : FenceRec) :
    (State.setFence s i v).kept = s.kept := by
  simp only [State.setFence] <;>
    repeat' (first | with_reducible rfl | with_reducible assumption | with_reducible refine ite_kept ?_ ?_ | with_reducible refine ite_eq_of ?_ ?_ | split | simp only [↓apply_ite State.kept, ite_self, ↓State.kept_mk, State.kept_eta])

theorem State.setFpage_kept (s : State) (p : Nat) (v : FPage) :
    (State.setFpage s p v).kept = s.kept := by
  simp only [State.setFpage] <;>
    repeat' (first | with_reducible rfl | with_reducible assumption | with_reducible refine ite_kept ?_ ?_ | with_reducible refine ite_eq_of ?_ ?_ | split | simp only [↓apply_ite State.kept, ite_self, ↓State.kept_mk, State.kept_eta])

theorem State.setSlot_kept (s : State) (c : Nat) (v : SlotSt) :
    (State.setSlot s c v).kept = s.kept := by
  simp only [State.setSlot] <;>
    repeat' (first | with_reducible rfl | with_reducible assumption | with_reducible refine ite_kept ?_ ?_ | with_reducible refine ite_eq_of ?_ ?_ | split | simp only [↓apply_ite State.kept, ite_self, ↓State.kept_mk, State.kept_eta])

theorem State.setUnit_kept (s : State) (u : Nat) (v : UnitSt) :
    (State.setUnit s u v).kept = s.kept := by
  simp only [State.setUnit] <;>
    repeat' (first | with_reducible rfl | with_reducible assumption | with_reducible refine ite_kept ?_ ?_ | with_reducible refine ite_eq_of ?_ ?_ | split | simp only [↓apply_ite State.kept, ite_self, ↓State.kept_mk, State.kept_eta])

theorem State.emit_kept (s : State) (o : Output) :
    (State.emit s o).kept = s.kept := by
  simp only [State.emit] <;>
    repeat' (first | with_reducible rfl | with_reducible assumption | with_reducible refine ite_kept ?_ ?_ | with_reducible refine ite_eq_of ?_ ?_ | split | simp only [↓apply_ite State.kept, ite_self, ↓State.kept_mk, State.kept_eta])

theorem State.emitAt_kept (s : State) (i : Nat) (o : Output) :
    (State.emitAt s i o).kept = s.kept := by
  simp only [State.emitAt] <;>
    repeat' (first | with_reducible rfl | with_reducible assumption | with_reducible refine ite_kept ?_ ?_ | with_reducible refine ite_eq_of ?_ ?_ | split | simp only [↓apply_ite State.kept, ite_self, ↓State.kept_mk, State.kept_eta, ↓State.emit_kept])

theorem State.power_kept (s : State) (op arg : Nat) :
    (State.power s op arg).kept = s.kept := by
  simp only [State.power] <;>
    repeat' (first | with_reducible rfl | with_reducible assumption | with_reducible refine ite_kept ?_ ?_ | with_reducible refine ite_eq_of ?_ ?_ | split | simp only [↓apply_ite State.kept, ite_self, ↓State.kept_mk, State.kept_eta, ↓State.emit_kept])

theorem State.mgIrq_kept (s : State) (vec : Nat) :
    (State.mgIrq s vec).kept = s.kept := by
  simp only [State.mgIrq] <;>
    repeat' (first | with_reducible rfl | with_reducible assumption | with_reducible refine ite_kept ?_ ?_ | with_reducible refine ite_eq_of ?_ ?_ | split | simp only [↓apply_ite State.kept, ite_self, ↓State.kept_mk, State.kept_eta, ↓State.emitAt_kept])

theorem State.hostIrq_kept (s : State) (fn vec : Nat) :
    (State.hostIrq s fn vec).kept = s.kept := by
  simp only [State.hostIrq] <;>
    repeat' (first | with_reducible rfl | with_reducible assumption | with_reducible refine ite_kept ?_ ?_ | with_reducible refine ite_eq_of ?_ ?_ | split | simp only [↓apply_ite State.kept, ite_self, ↓State.kept_mk, State.kept_eta, ↓State.emitAt_kept])

theorem State.useFree_kept (s : State) :
    (State.useFree s).kept = s.kept := by
  simp only [State.useFree] <;>
    repeat' (first | with_reducible rfl | with_reducible assumption | with_reducible refine ite_kept ?_ ?_ | with_reducible refine ite_eq_of ?_ ?_ | split | simp only [↓apply_ite State.kept, ite_self, ↓State.kept_mk, State.kept_eta])

theorem State.ring_kept (s : State) (u code : Nat) (arg : Nat) :
    (State.ring s u code arg).kept = s.kept := by
  simp only [State.ring] <;>
    repeat' (first | with_reducible rfl | with_reducible assumption | with_reducible refine ite_kept ?_ ?_ | with_reducible refine ite_eq_of ?_ ?_ | split | simp only [↓apply_ite State.kept, ite_self, ↓State.kept_mk, State.kept_eta])

theorem State.count_kept (s : State) (sl k n : Nat) :
    (State.count s sl k n).kept = s.kept := by
  simp only [State.count] <;>
    repeat' (first | with_reducible rfl | with_reducible assumption | with_reducible refine ite_kept ?_ ?_ | with_reducible refine ite_eq_of ?_ ?_ | split | simp only [↓apply_ite State.kept, ite_self, ↓State.kept_mk, State.kept_eta])

theorem State.note_kept (s : State) (u ev : Nat) (sl : Option Nat) (n : Nat) :
    (State.note s u ev sl n).kept = s.kept := by
  simp only [State.note] <;>
    repeat' (first | with_reducible rfl | with_reducible assumption | with_reducible refine (foldl_fst_kept _ (fun s a => ?_) _ _).trans ?_ | with_reducible refine (foldl_kept _ (fun s a => ?_) _ _).trans ?_ | with_reducible refine ite_kept ?_ ?_ | with_reducible refine ite_eq_of ?_ ?_ | split | simp only [↓apply_ite State.kept, ite_self, ↓State.kept_mk, State.kept_eta, implies_true, ↓foldl_kept])

theorem State.raise_kept (s : State) (u kind cls subType subj sl fn : Nat) :
    (State.raise s u kind cls subType subj sl fn).kept = s.kept := by
  simp only [State.raise] <;>
    repeat' (first | with_reducible rfl | with_reducible assumption | with_reducible refine ite_kept ?_ ?_ | with_reducible refine ite_eq_of ?_ ?_ | split | simp only [↓apply_ite State.kept, ite_self, ↓State.kept_mk, State.kept_eta, ↓State.count_kept, ↓State.ring_kept])

theorem State.charge_kept (s : State) (i sl t n : Nat) :
    (State.charge s i sl t n).kept = s.kept := by
  simp only [State.charge] <;>
    repeat' (first | with_reducible rfl | with_reducible assumption | with_reducible refine ite_kept ?_ ?_ | with_reducible refine ite_eq_of ?_ ?_ | split | simp only [↓apply_ite State.kept, ite_self, ↓State.kept_mk, State.kept_eta])

theorem State.unlessStopped_kept (s : State) (f : State → State) (h_f : ∀ s, (f s).kept = s.kept) :
    (State.unlessStopped s f).kept = s.kept := by
  simp only [State.unlessStopped] <;>
    repeat' (first | with_reducible rfl | with_reducible assumption | with_reducible refine ite_kept ?_ ?_ | with_reducible refine ite_eq_of ?_ ?_ | split | simp only [↓apply_ite State.kept, ite_self, ↓State.kept_mk, State.kept_eta, h_f])

theorem State.land_kept (s : State) (c : Instr) :
    (State.land s c).kept = s.kept := by
  simp only [State.land] <;>
    repeat' (first | with_reducible rfl | with_reducible assumption | with_reducible refine ite_kept ?_ ?_ | with_reducible refine ite_eq_of ?_ ?_ | split | simp only [↓apply_ite State.kept, ite_self, ↓State.kept_mk, State.kept_eta])

theorem State.orLand_kept (s : State) (c : Instr) (f : State → State) (h_f : ∀ s, (f s).kept = s.kept) :
    (State.orLand s c f).kept = s.kept := by
  simp only [State.orLand] <;>
    repeat' (first | with_reducible rfl | with_reducible assumption | with_reducible refine ite_kept ?_ ?_ | with_reducible refine ite_eq_of ?_ ?_ | split | simp only [↓apply_ite State.kept, ite_self, ↓State.kept_mk, State.kept_eta, ↓State.land_kept, h_f])

theorem State.emitCtl_kept (s : State) (t : Nat) (o : Output) :
    (State.emitCtl s t o).kept = s.kept := by
  simp only [State.emitCtl] <;>
    repeat' (first | with_reducible rfl | with_reducible assumption | with_reducible refine ite_kept ?_ ?_ | with_reducible refine ite_eq_of ?_ ?_ | split | simp only [↓apply_ite State.kept, ite_self, ↓State.kept_mk, State.kept_eta, ↓State.emit_kept, ↓State.setTine_kept])

theorem State.ctlRelease_kept (s : State) (t : Nat) :
    (State.ctlRelease s t).kept = s.kept := by
  simp only [State.ctlRelease] <;>
    repeat' (first | with_reducible rfl | with_reducible assumption | with_reducible refine (foldl_fst_kept _ (fun s a => ?_) _ _).trans ?_ | with_reducible refine (foldl_kept _ (fun s a => ?_) _ _).trans ?_ | with_reducible refine ite_kept ?_ ?_ | with_reducible refine ite_eq_of ?_ ?_ | split | simp only [↓apply_ite State.kept, ite_self, ↓State.kept_mk, State.kept_eta, implies_true, ↓foldl_kept, ↓State.emit_kept, ↓State.setTine_kept])

theorem State.pauseSeen_kept (s : State) (t : Nat) (p : BitVec 8) :
    (State.pauseSeen s t p).kept = s.kept := by
  simp only [State.pauseSeen] <;>
    repeat' (first | with_reducible rfl | with_reducible assumption | with_reducible refine ite_kept ?_ ?_ | with_reducible refine ite_eq_of ?_ ?_ | split | simp only [↓apply_ite State.kept, ite_self, ↓State.kept_mk, State.kept_eta, ↓State.ctlRelease_kept, ↓State.setTine_kept])

theorem State.sealFrame_kept (s : State) (n t : Nat) (f : Frame) :
    (State.sealFrame s n t f).1.kept = s.kept := by
  simp only [State.sealFrame] <;>
    repeat' (first | with_reducible rfl | with_reducible assumption | with_reducible refine ite_kept ?_ ?_ | with_reducible refine ite_eq_of ?_ ?_ | split | simp only [↓apply_ite State.kept, ite_self, ↓State.kept_mk, State.kept_eta, ↓apply_ite Prod.fst, ↓apply_ite Prod.snd, ↓State.raise_kept, ↓State.setSa_kept])

theorem State.sealFrame_kept' {s : State} {n t : Nat} {f : Frame} {t₁} {x₁} (hc : State.sealFrame s n t f = (t₁, x₁)) :
    t₁.kept = s.kept := by
  have e := State.sealFrame_kept s n t f
  rw [hc] at e
  exact e

theorem State.transmit_kept (s : State) (n : Nat) (m : SentMsg) (path tc : Nat) :
    (State.transmit s n m path tc).kept = s.kept := by
  simp only [State.transmit] <;>
    repeat' (first | with_reducible rfl | with_reducible assumption | with_reducible refine (State.sealFrame_kept' (by assumption)).trans ?_ | with_reducible refine (kept_of_eq (by assumption)).trans ?_ | with_reducible refine (kept_of_eq2 (by assumption)).trans ?_ | with_reducible refine ite_kept ?_ ?_ | with_reducible refine ite_eq_of ?_ ?_ | split | simp only [↓apply_ite State.kept, ite_self, ↓State.kept_mk, State.kept_eta, ↓apply_ite Prod.fst, ↓apply_ite Prod.snd, ↓State.charge_kept, ↓State.emit_kept, ↓State.note_kept, ↓State.sealFrame_kept, ↓State.setPath_kept, ↓State.setSa_kept])

theorem State.sendMsg_kept' {s : State} {n tc : Nat} {m : LinkMsg} {o : Origin} {t₁} (hc : s.sendMsg n tc m o = some t₁) : t₁.kept = s.kept := by
  unfold State.sendMsg at hc
  dsimp only at hc
  split at hc
  · cases hc
  · cases hc
    split
    · simp only [↓State.transmit_kept, ↓State.setSa_kept]
    · simp only [↓State.setSa_kept]

theorem State.sendOr_kept (s : State) (n : Option Nat) (tc : Nat) (m : LinkMsg) (o : Origin) : (s.sendOr n tc m o).kept = s.kept := by
  unfold State.sendOr
  split
  · rename_i k
    cases e : s.sendMsg k tc m o with
    | none => rfl
    | some t => exact State.sendMsg_kept' e
  · rfl

theorem State.newXid_kept (s : State) (n : Nat) :
    (State.newXid s n).2.kept = s.kept := by
  simp only [State.newXid] <;>
    repeat' (first | with_reducible rfl | with_reducible assumption | with_reducible refine ite_kept ?_ ?_ | with_reducible refine ite_eq_of ?_ ?_ | split | simp only [↓apply_ite State.kept, ite_self, ↓State.kept_mk, State.kept_eta, ↓apply_ite Prod.fst, ↓apply_ite Prod.snd, ↓State.setSa_kept])

theorem State.newXid_kept' {s : State} {n : Nat} {x₁} {t₁} (hc : State.newXid s n = (x₁, t₁)) :
    t₁.kept = s.kept := by
  have e := State.newXid_kept s n
  rw [hc] at e
  exact e

theorem State.fencePageIrq_kept (s : State) (i : Nat) :
    (State.fencePageIrq s i).kept = s.kept := by
  simp only [State.fencePageIrq] <;>
    repeat' (first | with_reducible rfl | with_reducible assumption | with_reducible refine ite_kept ?_ ?_ | with_reducible refine ite_eq_of ?_ ?_ | split | simp only [↓apply_ite State.kept, ite_self, ↓State.kept_mk, State.kept_eta, ↓State.hostIrq_kept])

theorem State.armFence_kept (s : State) (ctx i : Nat) :
    (State.armFence s ctx i).kept = s.kept := by
  simp only [State.armFence] <;>
    repeat' (first | with_reducible rfl | with_reducible assumption | with_reducible refine ite_kept ?_ ?_ | with_reducible refine ite_eq_of ?_ ?_ | split | simp only [↓apply_ite State.kept, ite_self, ↓State.kept_mk, State.kept_eta, ↓State.setFence_kept])

theorem State.fenceOk_kept (s : State) (i source : Nat) (v : Reg) :
    (State.fenceOk s i source v).kept = s.kept := by
  simp only [State.fenceOk] <;>
    repeat' (first | with_reducible rfl | with_reducible assumption | with_reducible refine ite_kept ?_ ?_ | with_reducible refine ite_eq_of ?_ ?_ | split | simp only [↓apply_ite State.kept, ite_self, ↓State.kept_mk, State.kept_eta, ↓State.fencePageIrq_kept, ↓State.setFence_kept])

theorem State.fenceErr_kept (s : State) (i source detail : Nat) :
    (State.fenceErr s i source detail).kept = s.kept := by
  simp only [State.fenceErr] <;>
    repeat' (first | with_reducible rfl | with_reducible assumption | with_reducible refine ite_kept ?_ ?_ | with_reducible refine ite_eq_of ?_ ?_ | split | simp only [↓apply_ite State.kept, ite_self, ↓State.kept_mk, State.kept_eta, ↓State.fencePageIrq_kept, ↓State.setFence_kept])

theorem State.setJob_kept (s : State) (j : Job) :
    (State.setJob s j).kept = s.kept := by
  simp only [State.setJob] <;>
    repeat' (first | with_reducible rfl | with_reducible assumption | with_reducible refine ite_kept ?_ ?_ | with_reducible refine ite_eq_of ?_ ?_ | split | simp only [↓apply_ite State.kept, ite_self, ↓State.kept_mk, State.kept_eta])

theorem State.releaseSeqs_kept (s : State) (j : Job) :
    (State.releaseSeqs s j).kept = s.kept := by
  simp only [State.releaseSeqs] <;>
    repeat' (first | with_reducible rfl | with_reducible assumption | with_reducible refine (foldl_fst_kept _ (fun s a => ?_) _ _).trans ?_ | with_reducible refine (foldl_kept _ (fun s a => ?_) _ _).trans ?_ | with_reducible refine ite_kept ?_ ?_ | with_reducible refine ite_eq_of ?_ ?_ | split | simp only [↓apply_ite State.kept, ite_self, ↓State.kept_mk, State.kept_eta, implies_true, ↓foldl_kept, ↓State.setSeqw_kept])

theorem State.finishJob_kept (s : State) (j : Job) (detail : Nat) :
    (State.finishJob s j detail).kept = s.kept := by
  simp only [State.finishJob] <;>
    repeat' (first | with_reducible rfl | with_reducible assumption | with_reducible refine ite_kept ?_ ?_ | with_reducible refine ite_eq_of ?_ ?_ | split | simp only [↓apply_ite State.kept, ite_self, ↓State.kept_mk, State.kept_eta, ↓State.fenceErr_kept, ↓State.fenceOk_kept, ↓State.releaseSeqs_kept])

theorem State.endJob_kept (s : State) (j : Job) (detail : Nat) :
    (State.endJob s j detail).kept = s.kept := by
  simp only [State.endJob] <;>
    repeat' (first | with_reducible rfl | with_reducible assumption | with_reducible refine ite_kept ?_ ?_ | with_reducible refine ite_eq_of ?_ ?_ | split | simp only [↓apply_ite State.kept, ite_self, ↓State.kept_mk, State.kept_eta, ↓State.finishJob_kept, ↓State.setJob_kept])

theorem State.outcome_kept (s : State) (sl t e : Nat) :
    (State.outcome s sl t e).kept = s.kept := by
  simp only [State.outcome] <;>
    repeat' (first | with_reducible rfl | with_reducible assumption | with_reducible refine ite_kept ?_ ?_ | with_reducible refine ite_eq_of ?_ ?_ | split | simp only [↓apply_ite State.kept, ite_self, ↓State.kept_mk, State.kept_eta, ↓State.count_kept])

theorem State.latAdd_kept (s : State) (die sl t since : Nat) :
    (State.latAdd s die sl t since).kept = s.kept := by
  simp only [State.latAdd] <;>
    repeat' (first | with_reducible rfl | with_reducible assumption | with_reducible refine ite_kept ?_ ?_ | with_reducible refine ite_eq_of ?_ ?_ | split | simp only [↓apply_ite State.kept, ite_self, ↓State.kept_mk, State.kept_eta])

theorem State.reqOpen_kept (s : State) (q : OpenReq) :
    (State.reqOpen s q).kept = s.kept := by
  simp only [State.reqOpen] <;>
    repeat' (first | with_reducible rfl | with_reducible assumption | with_reducible refine ite_kept ?_ ?_ | with_reducible refine ite_eq_of ?_ ?_ | split | simp only [↓apply_ite State.kept, ite_self, ↓State.kept_mk, State.kept_eta])

theorem State.onReq_kept (s : State) (port tag : Nat) (f : OpenReq → OpenReq) :
    (State.onReq s port tag f).kept = s.kept := by
  simp only [State.onReq] <;>
    repeat' (first | with_reducible rfl | with_reducible assumption | with_reducible refine ite_kept ?_ ?_ | with_reducible refine ite_eq_of ?_ ?_ | split | simp only [↓apply_ite State.kept, ite_self, ↓State.kept_mk, State.kept_eta])

theorem State.reqClose_kept (s : State) (port tag : Nat) (st : Status) :
    (State.reqClose s port tag st).kept = s.kept := by
  simp only [State.reqClose] <;>
    repeat' (first | with_reducible rfl | with_reducible assumption | with_reducible refine ite_kept ?_ ?_ | with_reducible refine ite_eq_of ?_ ?_ | split | simp only [↓apply_ite State.kept, ite_self, ↓State.kept_mk, State.kept_eta, ↓State.latAdd_kept, ↓State.outcome_kept])

theorem State.tileRsps_kept (s : State) (port tag : Nat) (st : Status) (granted : Nat) (datas : List Line) :
    (State.tileRsps s port tag st granted datas).kept = s.kept := by
  simp only [State.tileRsps] <;>
    repeat' (first | with_reducible rfl | with_reducible assumption | with_reducible refine ite_kept ?_ ?_ | with_reducible refine ite_eq_of ?_ ?_ | split | simp only [↓apply_ite State.kept, ite_self, ↓State.kept_mk, State.kept_eta, ↓State.reqClose_kept, ↓State.setTile_kept])

theorem State.tileRsp_kept (s : State) (port tag : Nat) (st : Status) (granted : Nat) (data : Line) :
    (State.tileRsp s port tag st granted data).kept = s.kept := by
  simp only [State.tileRsp] <;>
    repeat' (first | with_reducible rfl | with_reducible assumption | with_reducible refine ite_kept ?_ ?_ | with_reducible refine ite_eq_of ?_ ?_ | split | simp only [↓apply_ite State.kept, ite_self, ↓State.kept_mk, State.kept_eta, ↓State.tileRsps_kept])

theorem State.retryNote_kept (s : State) (u sl : Nat) (st : Status) :
    (State.retryNote s u sl st).kept = s.kept := by
  simp only [State.retryNote] <;>
    repeat' (first | with_reducible rfl | with_reducible assumption | with_reducible refine ite_kept ?_ ?_ | with_reducible refine ite_eq_of ?_ ?_ | split | simp only [↓apply_ite State.kept, ite_self, ↓State.kept_mk, State.kept_eta, ↓State.note_kept])

theorem State.tileRetry_kept (s : State) (port tag : Nat) :
    (State.tileRetry s port tag).kept = s.kept := by
  simp only [State.tileRetry] <;>
    repeat' (first | with_reducible rfl | with_reducible assumption | with_reducible refine ite_kept ?_ ?_ | with_reducible refine ite_eq_of ?_ ?_ | split | simp only [↓apply_ite State.kept, ite_self, ↓State.kept_mk, State.kept_eta, ↓State.retryNote_kept, ↓State.tileRsp_kept])

theorem State.hostRsp_kept (s : State) (tag : Nat) (st : Status) (data : Line) :
    (State.hostRsp s tag st data).kept = s.kept := by
  simp only [State.hostRsp] <;>
    repeat' (first | with_reducible rfl | with_reducible assumption | with_reducible refine ite_kept ?_ ?_ | with_reducible refine ite_eq_of ?_ ?_ | split | simp only [↓apply_ite State.kept, ite_self, ↓State.kept_mk, State.kept_eta, ↓State.emit_kept, ↓State.reqClose_kept])

theorem State.closeWindow_kept (s : State) (w reason : Nat) :
    (State.closeWindow s w reason).kept = s.kept := by
  simp only [State.closeWindow] <;>
    repeat' (first | with_reducible rfl | with_reducible assumption | with_reducible refine ite_kept ?_ ?_ | with_reducible refine ite_eq_of ?_ ?_ | split | simp only [↓apply_ite State.kept, ite_self, ↓State.kept_mk, State.kept_eta, ↓State.fenceErr_kept, ↓State.raise_kept, ↓State.setWin_kept, ↓State.tileRetry_kept, ↓State.tileRsp_kept])

theorem State.kbAck_kept (s : State) (seq : Nat) (st : Status) :
    (State.kbAck s seq st).kept = s.kept := by
  simp only [State.kbAck] <;>
    repeat' (first | with_reducible rfl | with_reducible assumption | with_reducible refine ite_kept ?_ ?_ | with_reducible refine ite_eq_of ?_ ?_ | split | simp only [↓apply_ite State.kept, ite_self, ↓State.kept_mk, State.kept_eta, ↓State.emit_kept])

theorem State.willLose_kept (s : State) (x cause : Nat) :
    (State.willLose s x cause).kept = s.kept := by
  simp only [State.willLose] <;>
    repeat' (first | with_reducible rfl | with_reducible assumption | with_reducible refine ite_kept ?_ ?_ | with_reducible refine ite_eq_of ?_ ?_ | split | simp only [↓apply_ite State.kept, ite_self, ↓State.kept_mk, State.kept_eta])

theorem State.clearTrace_kept (s : State) (c : Nat) :
    (State.clearTrace s c).kept = s.kept := by
  simp only [State.clearTrace] <;>
    repeat' (first | with_reducible rfl | with_reducible assumption | with_reducible refine ite_kept ?_ ?_ | with_reducible refine ite_eq_of ?_ ?_ | split | simp only [↓apply_ite State.kept, ite_self, ↓State.kept_mk, State.kept_eta, ↓State.setSlot_kept])

theorem State.unbind_kept (s : State) (c : Nat) :
    (State.unbind s c).kept = s.kept := by
  simp only [State.unbind] <;>
    repeat' (first | with_reducible rfl | with_reducible assumption | with_reducible refine ite_kept ?_ ?_ | with_reducible refine ite_eq_of ?_ ?_ | split | simp only [↓apply_ite State.kept, ite_self, ↓State.kept_mk, State.kept_eta, implies_true, ↓forRange_kept, ↓State.count_kept])

theorem State.loseBinding_kept (s : State) (c cause : Nat) :
    (State.loseBinding s c cause).kept = s.kept := by
  simp only [State.loseBinding] <;>
    repeat' (first | with_reducible rfl | with_reducible assumption | with_reducible refine ite_kept ?_ ?_ | with_reducible refine ite_eq_of ?_ ?_ | split | simp only [↓apply_ite State.kept, ite_self, ↓State.kept_mk, State.kept_eta, ↓State.kbAck_kept, ↓State.unbind_kept])

theorem State.loseContext_kept (s : State) (x cause : Nat) :
    (State.loseContext s x cause).kept = s.kept := by
  simp only [State.loseContext] <;>
    repeat' (first | with_reducible rfl | with_reducible assumption | with_reducible refine (foldl_fst_kept _ (fun s a => ?_) _ _).trans ?_ | with_reducible refine (foldl_kept _ (fun s a => ?_) _ _).trans ?_ | with_reducible refine ite_kept ?_ ?_ | with_reducible refine ite_eq_of ?_ ?_ | split | simp only [↓apply_ite State.kept, ite_self, ↓State.kept_mk, State.kept_eta, implies_true, ↓foldl_kept, ↓State.clearTrace_kept, ↓State.closeWindow_kept, ↓State.endJob_kept, ↓State.fenceErr_kept, ↓State.hostIrq_kept, ↓State.loseBinding_kept, ↓State.setCtx_kept, ↓State.setSlot_kept])

theorem State.freeSlot_kept (s : State) (c : Nat) :
    (State.freeSlot s c).kept = s.kept := by
  simp only [State.freeSlot] <;>
    repeat' (first | with_reducible rfl | with_reducible assumption | with_reducible refine ite_kept ?_ ?_ | with_reducible refine ite_eq_of ?_ ?_ | split | simp only [↓apply_ite State.kept, ite_self, ↓State.kept_mk, State.kept_eta, ↓State.setCtx_kept, ↓State.setSlot_kept])

theorem State.setUrg_kept (s : State) (n : Nat) (u : Urgency) :
    (State.setUrg s n u).kept = s.kept := by
  simp only [State.setUrg] <;>
    repeat' (first | with_reducible rfl | with_reducible assumption | with_reducible refine ite_kept ?_ ?_ | with_reducible refine ite_eq_of ?_ ?_ | split | simp only [↓apply_ite State.kept, ite_self, ↓State.kept_mk, State.kept_eta])

theorem State.tineUses_kept (s : State) (tine : Option Nat) (i : Nat) :
    (State.tineUses s tine i).kept = s.kept := by
  simp only [State.tineUses] <;>
    repeat' (first | with_reducible rfl | with_reducible assumption | with_reducible refine ite_kept ?_ ?_ | with_reducible refine ite_eq_of ?_ ?_ | split | simp only [↓apply_ite State.kept, ite_self, ↓State.kept_mk, State.kept_eta])

theorem State.memPut_kept (s : State) (p tag : Nat) (r : MemReq) :
    (State.memPut s p tag r).kept = s.kept := by
  simp only [State.memPut] <;>
    repeat' (first | with_reducible rfl | with_reducible assumption | with_reducible refine ite_kept ?_ ?_ | with_reducible refine ite_eq_of ?_ ?_ | split | simp only [↓apply_ite State.kept, ite_self, ↓State.kept_mk, State.kept_eta, ↓State.charge_kept, ↓State.count_kept, ↓State.emit_kept, ↓State.note_kept, ↓State.setMp_kept, ↓State.tineUses_kept])

theorem State.memAsk_kept (s : State) (p : Nat) (r : MemReq) :
    (State.memAsk s p r).kept = s.kept := by
  simp only [State.memAsk] <;>
    repeat' (first | with_reducible rfl | with_reducible assumption | with_reducible refine ite_kept ?_ ?_ | with_reducible refine ite_eq_of ?_ ?_ | split | simp only [↓apply_ite State.kept, ite_self, ↓State.kept_mk, State.kept_eta, ↓State.memPut_kept, ↓State.setMp_kept])

theorem State.guardRead_kept (s : State) (g : GuardOp) (m step : Nat) :
    (State.guardRead s g m step).kept = s.kept := by
  simp only [State.guardRead] <;>
    repeat' (first | with_reducible rfl | with_reducible assumption | with_reducible refine ite_kept ?_ ?_ | with_reducible refine ite_eq_of ?_ ?_ | split | simp only [↓apply_ite State.kept, ite_self, ↓State.kept_mk, State.kept_eta, ↓State.memAsk_kept])

theorem State.guardWrite_kept (s : State) (g : GuardOp) (m step : Nat) (c : Sector) (hi : BitVec 32) :
    (State.guardWrite s g m step c hi).kept = s.kept := by
  simp only [State.guardWrite] <;>
    repeat' (first | with_reducible rfl | with_reducible assumption | with_reducible refine ite_kept ?_ ?_ | with_reducible refine ite_eq_of ?_ ?_ | split | simp only [↓apply_ite State.kept, ite_self, ↓State.kept_mk, State.kept_eta, ↓State.memAsk_kept])

theorem State.setGuard_kept (s : State) (g : GuardOp) :
    (State.setGuard s g).kept = s.kept := by
  simp only [State.setGuard] <;>
    repeat' (first | with_reducible rfl | with_reducible assumption | with_reducible refine ite_kept ?_ ?_ | with_reducible refine ite_eq_of ?_ ?_ | split | simp only [↓apply_ite State.kept, ite_self, ↓State.kept_mk, State.kept_eta])

theorem State.fresh_kept (s : State) :
    (State.fresh s).2.kept = s.kept := by
  simp only [State.fresh] <;>
    repeat' (first | with_reducible rfl | with_reducible assumption | with_reducible refine ite_kept ?_ ?_ | with_reducible refine ite_eq_of ?_ ?_ | split | simp only [↓apply_ite State.kept, ite_self, ↓State.kept_mk, State.kept_eta, ↓apply_ite Prod.fst, ↓apply_ite Prod.snd])

theorem State.fresh_kept' {s : State} {x₁} {t₁} (hc : State.fresh s = (x₁, t₁)) :
    t₁.kept = s.kept := by
  have e := State.fresh_kept s
  rw [hc] at e
  exact e

theorem State.rekeyGuard_kept (s : State) (g : GuardOp) :
    (State.rekeyGuard s g).2.kept = s.kept := by
  simp only [State.rekeyGuard] <;>
    repeat' (first | with_reducible rfl | with_reducible assumption | with_reducible refine (State.fresh_kept' (by assumption)).trans ?_ | with_reducible refine (kept_of_eq (by assumption)).trans ?_ | with_reducible refine (kept_of_eq2 (by assumption)).trans ?_ | with_reducible refine ite_kept ?_ ?_ | with_reducible refine ite_eq_of ?_ ?_ | split | simp only [↓apply_ite State.kept, ite_self, ↓State.kept_mk, State.kept_eta, ↓apply_ite Prod.fst, ↓apply_ite Prod.snd, ↓State.fresh_kept, ↓State.setMp_kept])

theorem State.rekeyGuard_kept' {s : State} {g : GuardOp} {x₁} {t₁} (hc : State.rekeyGuard s g = (x₁, t₁)) :
    t₁.kept = s.kept := by
  have e := State.rekeyGuard_kept s g
  rw [hc] at e
  exact e

theorem State.toReconstruct_kept (s : State) (g : GuardOp) :
    (State.toReconstruct s g).kept = s.kept := by
  simp only [State.toReconstruct] <;>
    repeat' (first | with_reducible rfl | with_reducible assumption | with_reducible refine (State.rekeyGuard_kept' (by assumption)).trans ?_ | with_reducible refine (foldl_fst_kept _ (fun s a => ?_) _ _).trans ?_ | with_reducible refine (foldl_kept _ (fun s a => ?_) _ _).trans ?_ | with_reducible refine (kept_of_eq (by assumption)).trans ?_ | with_reducible refine (kept_of_eq2 (by assumption)).trans ?_ | with_reducible refine ite_kept ?_ ?_ | with_reducible refine ite_eq_of ?_ ?_ | split | simp only [↓apply_ite State.kept, ite_self, ↓State.kept_mk, State.kept_eta, implies_true, ↓foldl_kept, ↓apply_ite Prod.fst, ↓apply_ite Prod.snd, ↓State.guardRead_kept, ↓State.rekeyGuard_kept, ↓State.setGuard_kept, ↓State.useFree_kept])

theorem State.fullStart_kept (s : State) (g : GuardOp) :
    (State.fullStart s g).kept = s.kept := by
  simp only [State.fullStart] <;>
    repeat' (first | with_reducible rfl | with_reducible assumption | with_reducible refine (State.fresh_kept' (by assumption)).trans ?_ | with_reducible refine (foldl_fst_kept _ (fun s a => ?_) _ _).trans ?_ | with_reducible refine (foldl_kept _ (fun s a => ?_) _ _).trans ?_ | with_reducible refine (kept_of_eq (by assumption)).trans ?_ | with_reducible refine (kept_of_eq2 (by assumption)).trans ?_ | with_reducible refine ite_kept ?_ ?_ | with_reducible refine ite_eq_of ?_ ?_ | split | simp only [↓apply_ite State.kept, ite_self, ↓State.kept_mk, State.kept_eta, implies_true, ↓foldl_kept, ↓apply_ite Prod.fst, ↓apply_ite Prod.snd, ↓State.fresh_kept, ↓State.guardWrite_kept, ↓State.setGuard_kept, ↓State.setMp_kept, ↓State.useFree_kept])

theorem State.guardStart_kept (s : State) (g : GuardOp) :
    (State.guardStart s g).kept = s.kept := by
  simp only [State.guardStart] <;>
    repeat' (first | with_reducible rfl | with_reducible assumption | with_reducible refine (foldl_fst_kept _ (fun s a => ?_) _ _).trans ?_ | with_reducible refine (foldl_kept _ (fun s a => ?_) _ _).trans ?_ | with_reducible refine ite_kept ?_ ?_ | with_reducible refine ite_eq_of ?_ ?_ | split | simp only [↓apply_ite State.kept, ite_self, ↓State.kept_mk, State.kept_eta, implies_true, ↓foldl_kept, ↓State.fullStart_kept, ↓State.guardRead_kept, ↓State.setGuard_kept, ↓State.toReconstruct_kept])

theorem State.grantLocksN_kept (n : Nat) (s : State) (q : Nat) : (State.grantLocksN n s q).kept = s.kept := by
  induction n generalizing s with
  | zero => rfl
  | succ n ih =>
    unfold State.grantLocksN
    dsimp only
    repeat' (first | with_reducible rfl | split | simp only [ih, ↓State.setMp_kept, ↓State.guardStart_kept])

theorem State.grantLocks_kept (s : State) (q : Nat) :
    (State.grantLocks s q).kept = s.kept := by
  simp only [State.grantLocks] <;>
    repeat' (first | with_reducible rfl | with_reducible assumption | with_reducible refine ite_kept ?_ ?_ | with_reducible refine ite_eq_of ?_ ?_ | split | simp only [↓apply_ite State.kept, ite_self, ↓State.kept_mk, State.kept_eta, ↓State.grantLocksN_kept])

theorem State.guardBegin_kept (s : State) (g : GuardOp) :
    (State.guardBegin s g).kept = s.kept := by
  simp only [State.guardBegin] <;>
    repeat' (first | with_reducible rfl | with_reducible assumption | with_reducible refine ite_kept ?_ ?_ | with_reducible refine ite_eq_of ?_ ?_ | split | simp only [↓apply_ite State.kept, ite_self, ↓State.kept_mk, State.kept_eta, ↓State.grantLocks_kept, ↓State.setMp_kept])

theorem State.guardEnd_kept (s : State) (g : GuardOp) :
    (State.guardEnd s g).kept = s.kept := by
  simp only [State.guardEnd] <;>
    repeat' (first | with_reducible rfl | with_reducible assumption | with_reducible refine ite_kept ?_ ?_ | with_reducible refine ite_eq_of ?_ ?_ | split | simp only [↓apply_ite State.kept, ite_self, ↓State.kept_mk, State.kept_eta, ↓State.setMp_kept])

theorem State.raiseRetired_kept (s : State) (p key : Nat) :
    (State.raiseRetired s p key).kept = s.kept := by
  simp only [State.raiseRetired] <;>
    repeat' (first | with_reducible rfl | with_reducible assumption | with_reducible refine ite_kept ?_ ?_ | with_reducible refine ite_eq_of ?_ ?_ | split | simp only [↓apply_ite State.kept, ite_self, ↓State.kept_mk, State.kept_eta, ↓State.raise_kept])

theorem State.memRead_kept (s : State) (line mask key sl tc : Nat) (internal : Bool) (pur : MPurpose) :
    (State.memRead s line mask key sl tc internal pur).1.kept = s.kept := by
  simp only [State.memRead] <;>
    repeat' (first | with_reducible rfl | with_reducible assumption | with_reducible refine (State.fresh_kept' (by assumption)).trans ?_ | with_reducible refine (foldl_fst_kept _ (fun s a => ?_) _ _).trans ?_ | with_reducible refine (foldl_kept _ (fun s a => ?_) _ _).trans ?_ | with_reducible refine (kept_of_eq (by assumption)).trans ?_ | with_reducible refine (kept_of_eq2 (by assumption)).trans ?_ | with_reducible refine ite_kept ?_ ?_ | with_reducible refine ite_eq_of ?_ ?_ | split | simp only [↓apply_ite State.kept, ite_self, ↓State.kept_mk, State.kept_eta, implies_true, ↓foldl_kept, ↓apply_ite Prod.fst, ↓apply_ite Prod.snd, ↓State.fresh_kept, ↓State.guardBegin_kept, ↓State.memAsk_kept, ↓State.raiseRetired_kept])

theorem State.memRead_kept' {s : State} {line mask key sl tc : Nat} {internal : Bool} {pur : MPurpose} {t₁} {x₁} (hc : State.memRead s line mask key sl tc internal pur = (t₁, x₁)) :
    t₁.kept = s.kept := by
  have e := State.memRead_kept s line mask key sl tc internal pur
  rw [hc] at e
  exact e

theorem State.memWrite_kept (s : State) (line mask key sl tc : Nat) (internal : Bool) (plain : Line) (poison : Nat) (pur : MPurpose) (job : Option Nat) :
    (State.memWrite s line mask key sl tc internal plain poison pur job).1.kept = s.kept := by
  simp only [State.memWrite] <;>
    repeat' (first | with_reducible rfl | with_reducible assumption | with_reducible refine (State.fresh_kept' (by assumption)).trans ?_ | with_reducible refine (foldl_fst_kept _ (fun s a => ?_) _ _).trans ?_ | with_reducible refine (foldl_kept _ (fun s a => ?_) _ _).trans ?_ | with_reducible refine (kept_of_eq (by assumption)).trans ?_ | with_reducible refine (kept_of_eq2 (by assumption)).trans ?_ | with_reducible refine ite_kept ?_ ?_ | with_reducible refine ite_eq_of ?_ ?_ | split | simp only [↓apply_ite State.kept, ite_self, ↓State.kept_mk, State.kept_eta, implies_true, ↓foldl_kept, ↓apply_ite Prod.fst, ↓apply_ite Prod.snd, ↓State.fresh_kept, ↓State.guardBegin_kept, ↓State.memAsk_kept, ↓State.raiseRetired_kept, ↓State.useFree_kept])

theorem State.memWrite_kept' {s : State} {line mask key sl tc : Nat} {internal : Bool} {plain : Line} {poison : Nat} {pur : MPurpose} {job : Option Nat} {t₁} {x₁} (hc : State.memWrite s line mask key sl tc internal plain poison pur job = (t₁, x₁)) :
    t₁.kept = s.kept := by
  have e := State.memWrite_kept s line mask key sl tc internal plain poison pur job
  rw [hc] at e
  exact e

theorem State.denied_kept (s : State) (h g sl k : Nat) :
    (State.denied s h g sl k).kept = s.kept := by
  simp only [State.denied] <;>
    repeat' (first | with_reducible rfl | with_reducible assumption | with_reducible refine ite_kept ?_ ?_ | with_reducible refine ite_eq_of ?_ ?_ | split | simp only [↓apply_ite State.kept, ite_self, ↓State.kept_mk, State.kept_eta, ↓State.count_kept, ↓State.raise_kept])

theorem State.logDirty_kept (s : State) (line : Nat) :
    (State.logDirty s line).kept = s.kept := by
  simp only [State.logDirty] <;>
    repeat' (first | with_reducible rfl | with_reducible assumption | with_reducible refine ite_kept ?_ ?_ | with_reducible refine ite_eq_of ?_ ?_ | split | simp only [↓apply_ite State.kept, ite_self, ↓State.kept_mk, State.kept_eta])

theorem State.mirrorPut_kept (s : State) (h line sl key poison : Nat) (data : Line) :
    (State.mirrorPut s h line sl key poison data).kept = s.kept := by
  simp only [State.mirrorPut] <;>
    repeat' (first | with_reducible rfl | with_reducible assumption | with_reducible refine ite_kept ?_ ?_ | with_reducible refine ite_eq_of ?_ ?_ | split | simp only [↓apply_ite State.kept, ite_self, ↓State.kept_mk, State.kept_eta, ↓State.charge_kept, ↓State.setHome_kept])

theorem State.mirrorDrop_kept (s : State) (h line : Nat) :
    (State.mirrorDrop s h line).kept = s.kept := by
  simp only [State.mirrorDrop] <;>
    repeat' (first | with_reducible rfl | with_reducible assumption | with_reducible refine ite_kept ?_ ?_ | with_reducible refine ite_eq_of ?_ ?_ | split | simp only [↓apply_ite State.kept, ite_self, ↓State.kept_mk, State.kept_eta, ↓State.setHome_kept])

theorem State.wbPush_kept (s : State) (h line sl key mask poison : Nat) (data : Line) (job : Option Nat) :
    (State.wbPush s h line sl key mask poison data job).kept = s.kept := by
  simp only [State.wbPush] <;>
    repeat' (first | with_reducible rfl | with_reducible assumption | with_reducible refine (State.memWrite_kept' (by assumption)).trans ?_ | with_reducible refine (kept_of_eq (by assumption)).trans ?_ | with_reducible refine (kept_of_eq2 (by assumption)).trans ?_ | with_reducible refine ite_kept ?_ ?_ | with_reducible refine ite_eq_of ?_ ?_ | split | simp only [↓apply_ite State.kept, ite_self, ↓State.kept_mk, State.kept_eta, ↓apply_ite Prod.fst, ↓apply_ite Prod.snd, ↓State.memWrite_kept, ↓State.mirrorDrop_kept, ↓State.note_kept, ↓State.setHome_kept])

theorem State.cleanLine_kept (s : State) (h k : Nat) :
    (State.cleanLine s h k).kept = s.kept := by
  simp only [State.cleanLine] <;>
    repeat' (first | with_reducible rfl | with_reducible assumption | with_reducible refine ite_kept ?_ ?_ | with_reducible refine ite_eq_of ?_ ?_ | split | simp only [↓apply_ite State.kept, ite_self, ↓State.kept_mk, State.kept_eta, ↓State.setHome_kept, ↓State.wbPush_kept])

theorem State.evictWay_kept (s : State) (h k : Nat) :
    (State.evictWay s h k).kept = s.kept := by
  simp only [State.evictWay] <;>
    repeat' (first | with_reducible rfl | with_reducible assumption | with_reducible refine ite_kept ?_ ?_ | with_reducible refine ite_eq_of ?_ ?_ | split | simp only [↓apply_ite State.kept, ite_self, ↓State.kept_mk, State.kept_eta, ↓State.cleanLine_kept, ↓State.setHome_kept])

theorem State.roomFor_kept (s : State) (h line sl : Nat) :
    (State.roomFor s h line sl).1.kept = s.kept := by
  simp only [State.roomFor] <;>
    repeat' (first | with_reducible rfl | with_reducible assumption | with_reducible refine ite_kept ?_ ?_ | with_reducible refine ite_eq_of ?_ ?_ | split | simp only [↓apply_ite State.kept, ite_self, ↓State.kept_mk, State.kept_eta, ↓apply_ite Prod.fst, ↓apply_ite Prod.snd, ↓State.cleanLine_kept])

theorem State.roomFor_kept' {s : State} {h line sl : Nat} {t₁} {x₁} (hc : State.roomFor s h line sl = (t₁, x₁)) :
    t₁.kept = s.kept := by
  have e := State.roomFor_kept s h line sl
  rw [hc] at e
  exact e

theorem State.dirtyLine_kept (s : State) (h k : Nat) (l : LlcLine) :
    (State.dirtyLine s h k l).kept = s.kept := by
  simp only [State.dirtyLine] <;>
    repeat' (first | with_reducible rfl | with_reducible assumption | with_reducible refine ite_kept ?_ ?_ | with_reducible refine ite_eq_of ?_ ?_ | split | simp only [↓apply_ite State.kept, ite_self, ↓State.kept_mk, State.kept_eta, ↓State.mirrorPut_kept, ↓State.setHome_kept, ↓State.wbPush_kept])

theorem State.allocate_kept' {s : State} {h line sl key poison : Nat} {data : Line} {force : Bool} {t₁} {x₁} (hc : State.allocate s h line sl key poison data force = some (t₁, x₁)) :
    t₁.kept = s.kept := by
  unfold State.allocate at hc
  try dsimp only at hc
  repeat' (first | with_reducible rfl | with_reducible assumption | with_reducible refine ite_kept ?_ ?_ | with_reducible refine ite_eq_of ?_ ?_ | (cases hc) | split at hc | simp only [↓apply_ite State.kept, ite_self, ↓State.kept_mk, State.kept_eta, ↓apply_ite Prod.fst, ↓apply_ite Prod.snd, ↓State.evictWay_kept, ↓State.setHome_kept, ↓State.useFree_kept] | simp only [Option.some.injEq, Prod.mk.injEq, reduceCtorEq] at hc)

theorem State.takeDirty_kept (s : State) (h line sl key : Nat) (data : Line) :
    (State.takeDirty s h line sl key data).kept = s.kept := by
  simp only [State.takeDirty] <;>
    repeat' (first | with_reducible rfl | with_reducible assumption | with_reducible refine (State.allocate_kept' (by assumption)).trans ?_ | with_reducible refine (State.allocate_kept' (of_ite_none (by assumption))).trans ?_ | with_reducible refine (State.allocate_kept' (of_ite_none' (by assumption))).trans ?_ | with_reducible refine (kept_of_eq (by assumption)).trans ?_ | with_reducible refine (kept_of_eq2 (by assumption)).trans ?_ | with_reducible refine ite_kept ?_ ?_ | with_reducible refine ite_eq_of ?_ ?_ | split | simp only [↓apply_ite State.kept, ite_self, ↓State.kept_mk, State.kept_eta, ↓apply_ite Prod.fst, ↓apply_ite Prod.snd, ↓State.dirtyLine_kept, ↓State.setHome_kept, ↓State.wbPush_kept])

theorem State.poisonQuiet_kept (s : State) (h line : Nat) :
    (State.poisonQuiet s h line).kept = s.kept := by
  simp only [State.poisonQuiet] <;>
    repeat' (first | with_reducible rfl | with_reducible assumption | with_reducible refine ite_kept ?_ ?_ | with_reducible refine ite_eq_of ?_ ?_ | split | simp only [↓apply_ite State.kept, ite_self, ↓State.kept_mk, State.kept_eta, ↓State.setHome_kept, ↓State.wbPush_kept])

theorem State.poisonLine_kept (s : State) (h line kind : Nat) :
    (State.poisonLine s h line kind).kept = s.kept := by
  simp only [State.poisonLine] <;>
    repeat' (first | with_reducible rfl | with_reducible assumption | with_reducible refine ite_kept ?_ ?_ | with_reducible refine ite_eq_of ?_ ?_ | split | simp only [↓apply_ite State.kept, ite_self, ↓State.kept_mk, State.kept_eta, ↓State.poisonQuiet_kept, ↓State.raise_kept])

theorem State.lateWriteback_kept (s : State) (h line : Nat) (data : Line) :
    (State.lateWriteback s h line data).kept = s.kept := by
  simp only [State.lateWriteback] <;>
    repeat' (first | with_reducible rfl | with_reducible assumption | with_reducible refine ite_kept ?_ ?_ | with_reducible refine ite_eq_of ?_ ?_ | split | simp only [↓apply_ite State.kept, ite_self, ↓State.kept_mk, State.kept_eta, ↓State.note_kept, ↓State.poisonLine_kept, ↓State.takeDirty_kept])

theorem State.setFilt_kept (s : State) (h line : Nat) (e : FiltEntry) :
    (State.setFilt s h line e).kept = s.kept := by
  simp only [State.setFilt] <;>
    repeat' (first | with_reducible rfl | with_reducible assumption | with_reducible refine ite_kept ?_ ?_ | with_reducible refine ite_eq_of ?_ ?_ | split | simp only [↓apply_ite State.kept, ite_self, ↓State.kept_mk, State.kept_eta, ↓State.setHome_kept])

theorem State.sendSnoop_kept (s : State) (h line : Nat) (a : Bool × Nat) (ty : Nat) :
    (State.sendSnoop s h line a ty).1.kept = s.kept := by
  simp only [State.sendSnoop] <;>
    repeat' (first | with_reducible rfl | with_reducible assumption | with_reducible refine (State.fresh_kept' (by assumption)).trans ?_ | with_reducible refine (kept_of_eq (by assumption)).trans ?_ | with_reducible refine (kept_of_eq2 (by assumption)).trans ?_ | with_reducible refine ite_kept ?_ ?_ | with_reducible refine ite_eq_of ?_ ?_ | split | simp only [↓apply_ite State.kept, ite_self, ↓State.kept_mk, State.kept_eta, ↓apply_ite Prod.fst, ↓apply_ite Prod.snd, ↓State.count_kept, ↓State.emit_kept, ↓State.fresh_kept, ↓State.note_kept, ↓State.sendOr_kept, ↓State.setTile_kept])

theorem State.sendSnoop_kept' {s : State} {h line : Nat} {a : Bool × Nat} {ty : Nat} {t₁} {x₁} (hc : State.sendSnoop s h line a ty = (t₁, x₁)) :
    t₁.kept = s.kept := by
  have e := State.sendSnoop_kept s h line a ty
  rw [hc] at e
  exact e

theorem State.use_kept (s : State) (x : Option Nat) (rd wr hsl job : Nat) :
    (State.use s x rd wr hsl job).kept = s.kept := by
  simp only [State.use] <;>
    repeat' (first | with_reducible rfl | with_reducible assumption | with_reducible refine ite_kept ?_ ?_ | with_reducible refine ite_eq_of ?_ ?_ | split | simp only [↓apply_ite State.kept, ite_self, ↓State.kept_mk, State.kept_eta, ↓State.setCtx_kept])

theorem State.jobGets_kept (s : State) (id : Nat) (t : Txn) (st : Status) (data : Line) (poison : Nat) :
    (State.jobGets s id t st data poison).kept = s.kept := by
  simp only [State.jobGets] <;>
    repeat' (first | with_reducible rfl | with_reducible assumption | with_reducible refine ite_kept ?_ ?_ | with_reducible refine ite_eq_of ?_ ?_ | split | simp only [↓apply_ite State.kept, ite_self, ↓State.kept_mk, State.kept_eta, ↓State.setJob_kept])

theorem State.remoteRsp_kept (s : State) (sa xid : Nat) (t : Txn) (st : Status) (granted : Nat) (data : Line) :
    (State.remoteRsp s sa xid t st granted data).kept = s.kept := by
  simp only [State.remoteRsp] <;>
    repeat' (first | with_reducible rfl | with_reducible assumption | with_reducible refine ite_kept ?_ ?_ | with_reducible refine ite_eq_of ?_ ?_ | split | simp only [↓apply_ite State.kept, ite_self, ↓State.kept_mk, State.kept_eta, ↓State.sendOr_kept])

theorem State.countDone_kept (s : State) (t : Txn) (st : Status) :
    (State.countDone s t st).kept = s.kept := by
  simp only [State.countDone] <;>
    repeat' (first | with_reducible rfl | with_reducible assumption | with_reducible refine ite_kept ?_ ?_ | with_reducible refine ite_eq_of ?_ ?_ | split | simp only [↓apply_ite State.kept, ite_self, ↓State.kept_mk, State.kept_eta, ↓State.latAdd_kept, ↓State.outcome_kept])

theorem State.answer_kept (s : State) (t : Txn) (st : Status) (granted : Nat) (datas : List Line) (poison : Nat) :
    (State.answer s t st granted datas poison).kept = s.kept := by
  simp only [State.answer] <;>
    repeat' (first | with_reducible rfl | with_reducible assumption | with_reducible refine ite_kept ?_ ?_ | with_reducible refine ite_eq_of ?_ ?_ | split | simp only [↓apply_ite State.kept, ite_self, ↓State.kept_mk, State.kept_eta, ↓State.closeWindow_kept, ↓State.countDone_kept, ↓State.hostRsp_kept, ↓State.jobGets_kept, ↓State.remoteRsp_kept, ↓State.retryNote_kept, ↓State.setSlot_kept, ↓State.setWin_kept, ↓State.tileRsps_kept, ↓State.use_kept])

theorem State.setTxn_kept (s : State) (t : Txn) :
    (State.setTxn s t).kept = s.kept := by
  simp only [State.setTxn] <;>
    repeat' (first | with_reducible rfl | with_reducible assumption | with_reducible refine ite_kept ?_ ?_ | with_reducible refine ite_eq_of ?_ ?_ | split | simp only [↓apply_ite State.kept, ite_self, ↓State.kept_mk, State.kept_eta])

theorem State.reserve_kept (s : State) (h : Nat) :
    (State.reserve s h).kept = s.kept := by
  simp only [State.reserve] <;>
    repeat' (first | with_reducible rfl | with_reducible assumption | with_reducible refine ite_kept ?_ ?_ | with_reducible refine ite_eq_of ?_ ?_ | split | simp only [↓apply_ite State.kept, ite_self, ↓State.kept_mk, State.kept_eta, ↓State.setHome_kept])

theorem State.finish_kept (s : State) (t : Txn) (st : Status) (granted : Nat) (datas : List Line) (poison : Nat) :
    (State.finish s t st granted datas poison).kept = s.kept := by
  simp only [State.finish] <;>
    repeat' (first | with_reducible rfl | with_reducible assumption | with_reducible refine ite_kept ?_ ?_ | with_reducible refine ite_eq_of ?_ ?_ | split | simp only [↓apply_ite State.kept, ite_self, ↓State.kept_mk, State.kept_eta, ↓State.answer_kept, ↓State.reserve_kept, ↓State.setHome_kept])

theorem State.enter_kept (s : State) (t : Txn) :
    (State.enter s t).kept = s.kept := by
  simp only [State.enter] <;>
    repeat' (first | with_reducible rfl | with_reducible assumption | with_reducible refine (State.fresh_kept' (by assumption)).trans ?_ | with_reducible refine (kept_of_eq (by assumption)).trans ?_ | with_reducible refine (kept_of_eq2 (by assumption)).trans ?_ | with_reducible refine ite_kept ?_ ?_ | with_reducible refine ite_eq_of ?_ ?_ | split | simp only [↓apply_ite State.kept, ite_self, ↓State.kept_mk, State.kept_eta, ↓apply_ite Prod.fst, ↓apply_ite Prod.snd, ↓State.fresh_kept])

theorem State.noteFill_kept (s : State) (t : Txn) :
    (State.noteFill s t).kept = s.kept := by
  simp only [State.noteFill] <;>
    repeat' (first | with_reducible rfl | with_reducible assumption | with_reducible refine ite_kept ?_ ?_ | with_reducible refine ite_eq_of ?_ ?_ | split | simp only [↓apply_ite State.kept, ite_self, ↓State.kept_mk, State.kept_eta])

theorem State.readDone_kept (s : State) (t : Txn) (data : Line) (poison fwd : Nat) (mem : Bool) :
    (State.readDone s t data poison fwd mem).kept = s.kept := by
  simp only [State.readDone] <;>
    repeat' (first | with_reducible rfl | with_reducible assumption | with_reducible refine (State.allocate_kept' (by assumption)).trans ?_ | with_reducible refine (State.allocate_kept' (of_ite_none (by assumption))).trans ?_ | with_reducible refine (State.allocate_kept' (of_ite_none' (by assumption))).trans ?_ | with_reducible refine (kept_of_eq (by assumption)).trans ?_ | with_reducible refine (kept_of_eq2 (by assumption)).trans ?_ | with_reducible refine ite_kept ?_ ?_ | with_reducible refine ite_eq_of ?_ ?_ | split | simp only [↓apply_ite State.kept, ite_self, ↓State.kept_mk, State.kept_eta, ↓apply_ite Prod.fst, ↓apply_ite Prod.snd, ↓State.enter_kept, ↓State.finish_kept, ↓State.logDirty_kept, ↓State.note_kept, ↓State.noteFill_kept, ↓State.setFilt_kept, ↓State.setTxn_kept, ↓State.use_kept])

theorem State.scaleDone_kept (s : State) (t : Txn) :
    (State.scaleDone s t).kept = s.kept := by
  simp only [State.scaleDone] <;>
    repeat' (first | with_reducible rfl | with_reducible assumption | with_reducible refine ite_kept ?_ ?_ | with_reducible refine ite_eq_of ?_ ?_ | split | simp only [↓apply_ite State.kept, ite_self, ↓State.kept_mk, State.kept_eta, ↓State.finish_kept, ↓State.note_kept])

theorem State.toMemory_kept (s : State) (t : Txn) :
    (State.toMemory s t).kept = s.kept := by
  simp only [State.toMemory] <;>
    repeat' (first | with_reducible rfl | with_reducible assumption | with_reducible refine (State.memRead_kept' (by assumption)).trans ?_ | with_reducible refine (kept_of_eq (by assumption)).trans ?_ | with_reducible refine (kept_of_eq2 (by assumption)).trans ?_ | with_reducible refine ite_kept ?_ ?_ | with_reducible refine ite_eq_of ?_ ?_ | split | simp only [↓apply_ite State.kept, ite_self, ↓State.kept_mk, State.kept_eta, ↓apply_ite Prod.fst, ↓apply_ite Prod.snd, ↓State.finish_kept, ↓State.memRead_kept, ↓State.setTxn_kept])

theorem State.changeDone_kept (s : State) (t : Txn) (old : Line) :
    (State.changeDone s t old).kept = s.kept := by
  simp only [State.changeDone] <;>
    repeat' (first | with_reducible rfl | with_reducible assumption | with_reducible refine ite_kept ?_ ?_ | with_reducible refine ite_eq_of ?_ ?_ | split | simp only [↓apply_ite State.kept, ite_self, ↓State.kept_mk, State.kept_eta, ↓State.finish_kept, ↓State.setHome_kept, ↓State.setTxn_kept, ↓State.use_kept])

theorem State.writeDone_kept (s : State) (t : Txn) (old : Line) (poison : Nat) : (State.writeDone s t old poison).kept = s.kept := by
  unfold State.writeDone
  extract_lets key atom need full p' job
  clear_value key atom need full p' job
  repeat' (first | with_reducible refine ite_kept ?_ ?_ | exact State.finish_kept _ _ _ _ _ _)
  split
  extract_lets res
  clear_value res
  split
  · exact State.finish_kept _ _ _ _ _ _
  · split
    · rename_i hr
      rw [State.setTxn_kept]
      exact State.roomFor_kept' hr
    · rename_i s1 hr
      have h1 : s1.kept = s.kept := State.roomFor_kept' hr
      extract_lets mv inLlc al placed m src s2
      have h2 : s2.kept = s1.kept := by
        clear_value inLlc src
        unfold s2
        split
        · exact State.setHome_kept _ _ _
        · rfl
      have hp : ∀ a b c, placed = some (a, b, c) → a.kept = s1.kept := by
        clear_value inLlc al
        intro a b c hp
        unfold placed at hp
        split at hp
        · split at hp <;> cases hp
          rfl
        · split at hp
          · split at hp
            · rename_i ha
              obtain ⟨l, -, hl⟩ := Option.map_eq_some_iff.mp hp
              cases hl
              exact State.allocate_kept' ha
            · cases hp
          · cases hp
      clear_value placed s2
      split
      · rw [State.changeDone_kept, State.dirtyLine_kept, hp _ _ _ rfl, h1]
      · rw [State.changeDone_kept, State.wbPush_kept, h2, h1]

theorem State.fetch_kept (s : State) (t : Txn) (mask : Nat) :
    (State.fetch s t mask).kept = s.kept := by
  simp only [State.fetch] <;>
    repeat' (first | with_reducible rfl | with_reducible assumption | with_reducible refine (State.memRead_kept' (by assumption)).trans ?_ | with_reducible refine (kept_of_eq (by assumption)).trans ?_ | with_reducible refine (kept_of_eq2 (by assumption)).trans ?_ | with_reducible refine ite_kept ?_ ?_ | with_reducible refine ite_eq_of ?_ ?_ | split | simp only [↓apply_ite State.kept, ite_self, ↓State.kept_mk, State.kept_eta, ↓apply_ite Prod.fst, ↓apply_ite Prod.snd, ↓State.finish_kept, ↓State.memRead_kept, ↓State.note_kept, ↓State.setTxn_kept])

theorem State.toRemote_kept (s : State) (t : Txn) :
    (State.toRemote s t).kept = s.kept := by
  simp only [State.toRemote] <;>
    repeat' (first | with_reducible rfl | with_reducible assumption | with_reducible refine (State.newXid_kept' (by assumption)).trans ?_ | with_reducible refine (State.sendMsg_kept' (by assumption)).trans ?_ | with_reducible refine (State.sendMsg_kept' (of_ite_none (by assumption))).trans ?_ | with_reducible refine (State.sendMsg_kept' (of_ite_none' (by assumption))).trans ?_ | with_reducible refine (kept_of_eq (by assumption)).trans ?_ | with_reducible refine (kept_of_eq2 (by assumption)).trans ?_ | with_reducible refine ite_kept ?_ ?_ | with_reducible refine ite_eq_of ?_ ?_ | split | simp only [↓apply_ite State.kept, ite_self, ↓State.kept_mk, State.kept_eta, ↓apply_ite Prod.fst, ↓apply_ite Prod.snd, ↓State.answer_kept, ↓State.finish_kept, ↓State.newXid_kept, ↓State.setTxn_kept])

theorem State.filterRoom_kept' {s : State} {t : Txn} {t₁ x₁} (hc : s.filterRoom t = some (t₁, x₁)) : t₁.kept = s.kept := by
  unfold State.filterRoom at hc
  extract_lets at hc
  split at hc
  · cases hc
  · obtain ⟨e, -, he⟩ := Option.map_eq_some_iff.mp hc
    cases he
    exact State.enter_kept _ _

theorem State.snoopDirty_kept (s : State) (t : Txn) (d : Line) :
    (State.snoopDirty s t d).kept = s.kept := by
  simp only [State.snoopDirty] <;>
    repeat' (first | with_reducible rfl | with_reducible assumption | with_reducible refine ite_kept ?_ ?_ | with_reducible refine ite_eq_of ?_ ?_ | split | simp only [↓apply_ite State.kept, ite_self, ↓State.kept_mk, State.kept_eta, ↓State.lateWriteback_kept, ↓State.takeDirty_kept])

theorem State.dirtyWait_kept (s : State) (t : Txn) :
    (State.dirtyWait s t).1.kept = s.kept := by
  simp only [State.dirtyWait] <;>
    repeat' (first | with_reducible rfl | with_reducible assumption | with_reducible refine (State.roomFor_kept' (by assumption)).trans ?_ | with_reducible refine (kept_of_eq (by assumption)).trans ?_ | with_reducible refine (kept_of_eq2 (by assumption)).trans ?_ | with_reducible refine ite_kept ?_ ?_ | with_reducible refine ite_eq_of ?_ ?_ | split | simp only [↓apply_ite State.kept, ite_self, ↓State.kept_mk, State.kept_eta, ↓apply_ite Prod.fst, ↓apply_ite Prod.snd, ↓State.roomFor_kept])

theorem State.dirtyWait_kept' {s : State} {t : Txn} {t₁} {x₁} (hc : State.dirtyWait s t = (t₁, x₁)) :
    t₁.kept = s.kept := by
  have e := State.dirtyWait_kept s t
  rw [hc] at e
  exact e

theorem State.evictFar_kept (s : State) (t : Txn) (d : Line) :
    (State.evictFar s t d).kept = s.kept := by
  simp only [State.evictFar] <;>
    repeat' (first | with_reducible rfl | with_reducible assumption | with_reducible refine (State.newXid_kept' (by assumption)).trans ?_ | with_reducible refine (kept_of_eq (by assumption)).trans ?_ | with_reducible refine (kept_of_eq2 (by assumption)).trans ?_ | with_reducible refine ite_kept ?_ ?_ | with_reducible refine ite_eq_of ?_ ?_ | split | simp only [↓apply_ite State.kept, ite_self, ↓State.kept_mk, State.kept_eta, ↓apply_ite Prod.fst, ↓apply_ite Prod.snd, ↓State.newXid_kept, ↓State.sendOr_kept])

theorem State.snooped_kept (s : State) (t : Txn) :
    (State.snooped s t).kept = s.kept := by
  simp only [State.snooped] <;>
    repeat' (first | with_reducible rfl | with_reducible assumption | with_reducible refine (State.dirtyWait_kept' (by assumption)).trans ?_ | with_reducible refine (kept_of_eq (by assumption)).trans ?_ | with_reducible refine (kept_of_eq2 (by assumption)).trans ?_ | with_reducible refine ite_kept ?_ ?_ | with_reducible refine ite_eq_of ?_ ?_ | split | simp only [↓apply_ite State.kept, ite_self, ↓State.kept_mk, State.kept_eta, ↓apply_ite Prod.fst, ↓apply_ite Prod.snd, ↓State.count_kept, ↓State.dirtyWait_kept, ↓State.evictFar_kept, ↓State.evictWay_kept, ↓State.fetch_kept, ↓State.finish_kept, ↓State.mirrorDrop_kept, ↓State.note_kept, ↓State.readDone_kept, ↓State.setFilt_kept, ↓State.setHome_kept, ↓State.setTxn_kept, ↓State.snoopDirty_kept, ↓State.toMemory_kept, ↓State.toRemote_kept, ↓State.writeDone_kept])

theorem State.evict_kept (s : State) (t : Txn) :
    (State.evict s t).kept = s.kept := by
  simp only [State.evict] <;>
    repeat' (first | with_reducible rfl | with_reducible assumption | with_reducible refine ite_kept ?_ ?_ | with_reducible refine ite_eq_of ?_ ?_ | split | simp only [↓apply_ite State.kept, ite_self, ↓State.kept_mk, State.kept_eta, ↓State.raise_kept, ↓State.setFilt_kept, ↓State.takeDirty_kept])

theorem State.proxyTakes_kept (s : State) (t : Txn) :
    (State.proxyTakes s t).1.kept = s.kept := by
  simp only [State.proxyTakes] <;>
    repeat' (first | with_reducible rfl | with_reducible assumption | with_reducible refine ite_kept ?_ ?_ | with_reducible refine ite_eq_of ?_ ?_ | split | simp only [↓apply_ite State.kept, ite_self, ↓State.kept_mk, State.kept_eta, ↓apply_ite Prod.fst, ↓apply_ite Prod.snd])

theorem State.proxyTakes_kept' {s : State} {t : Txn} {t₁} {x₁} (hc : State.proxyTakes s t = (t₁, x₁)) :
    t₁.kept = s.kept := by
  have e := State.proxyTakes_kept s t
  rw [hc] at e
  exact e

theorem State.start_kept (s : State) (t : Txn) :
    (State.start s t).kept = s.kept := by
  simp only [State.start] <;>
    repeat' (first | with_reducible rfl | with_reducible assumption | with_reducible refine (State.filterRoom_kept' (by assumption)).trans ?_ | with_reducible refine (State.filterRoom_kept' (of_ite_none (by assumption))).trans ?_ | with_reducible refine (State.filterRoom_kept' (of_ite_none' (by assumption))).trans ?_ | with_reducible refine (State.proxyTakes_kept' (by assumption)).trans ?_ | with_reducible refine (State.roomFor_kept' (by assumption)).trans ?_ | with_reducible refine (State.sendSnoop_kept' (by assumption)).trans ?_ | with_reducible refine (foldl_fst_kept _ (fun s a => ?_) _ _).trans ?_ | with_reducible refine (foldl_kept _ (fun s a => ?_) _ _).trans ?_ | with_reducible refine (kept_of_eq (by assumption)).trans ?_ | with_reducible refine (kept_of_eq2 (by assumption)).trans ?_ | with_reducible refine ite_kept ?_ ?_ | with_reducible refine ite_eq_of ?_ ?_ | split | simp only [↓apply_ite State.kept, ite_self, ↓State.kept_mk, State.kept_eta, implies_true, ↓foldl_kept, ↓apply_ite Prod.fst, ↓apply_ite Prod.snd, ↓State.changeDone_kept, ↓State.evict_kept, ↓State.finish_kept, ↓State.proxyTakes_kept, ↓State.roomFor_kept, ↓State.sendSnoop_kept, ↓State.setTxn_kept, ↓State.toRemote_kept])

theorem State.move_kept (s : State) (t : Txn) :
    (State.move s t).kept = s.kept := by
  simp only [State.move] <;>
    repeat' (first | with_reducible rfl | with_reducible assumption | with_reducible refine ite_kept ?_ ?_ | with_reducible refine ite_eq_of ?_ ?_ | split | simp only [↓apply_ite State.kept, ite_self, ↓State.kept_mk, State.kept_eta, ↓State.finish_kept, ↓State.readDone_kept, ↓State.scaleDone_kept, ↓State.snooped_kept, ↓State.start_kept, ↓State.toMemory_kept, ↓State.writeDone_kept])

theorem State.settleN_kept (n : Nat) (s : State) : (State.settleN n s).kept = s.kept := by
  induction n generalizing s with
  | zero => rfl
  | succ n ih =>
    unfold State.settleN
    split
    · rw [ih, State.move_kept]
    · rfl

theorem State.settle_kept (s : State) :
    (State.settle s).kept = s.kept := by
  simp only [State.settle] <;>
    repeat' (first | with_reducible rfl | with_reducible assumption | with_reducible refine ite_kept ?_ ?_ | with_reducible refine ite_eq_of ?_ ?_ | split | simp only [↓apply_ite State.kept, ite_self, ↓State.kept_mk, State.kept_eta, ↓State.settleN_kept])

theorem State.admit_kept (s : State) (t : Txn) (fn : Option Nat) :
    (State.admitTxn s t fn).kept = s.kept := by
  simp only [State.admitTxn] <;>
    repeat' (first | with_reducible rfl | with_reducible assumption | with_reducible refine ite_kept ?_ ?_ | with_reducible refine ite_eq_of ?_ ?_ | split | simp only [↓apply_ite State.kept, ite_self, ↓State.kept_mk, State.kept_eta, ↓State.answer_kept, ↓State.charge_kept, ↓State.denied_kept, ↓State.enter_kept, ↓State.evict_kept, ↓State.lateWriteback_kept, ↓State.logDirty_kept, ↓State.note_kept, ↓State.setHome_kept, ↓State.settle_kept, ↓State.tineUses_kept, ↓State.use_kept])

theorem State.tableCache_kept (s : State) (h tl : Nat) :
    (State.tableCache s h tl).kept = s.kept := by
  simp only [State.tableCache] <;>
    repeat' (first | with_reducible rfl | with_reducible assumption | with_reducible refine ite_kept ?_ ?_ | with_reducible refine ite_eq_of ?_ ?_ | split | simp only [↓apply_ite State.kept, ite_self, ↓State.kept_mk, State.kept_eta, ↓State.setHome_kept])

theorem State.tableBack_kept (s : State) (h tl : Nat) :
    (State.tableBack s h tl).kept = s.kept := by
  simp only [State.tableBack] <;>
    repeat' (first | with_reducible rfl | with_reducible assumption | with_reducible refine (foldl_fst_kept _ (fun s a => ?_) _ _).trans ?_ | with_reducible refine (foldl_kept _ (fun s a => ?_) _ _).trans ?_ | with_reducible refine ite_kept ?_ ?_ | with_reducible refine ite_eq_of ?_ ?_ | split | simp only [↓apply_ite State.kept, ite_self, ↓State.kept_mk, State.kept_eta, implies_true, ↓foldl_kept, ↓State.admit_kept, ↓State.tableCache_kept])

theorem State.tableAsk_kept (s : State) (h : Nat) (t : Txn) (fn : Option Nat) :
    (State.tableAsk s h t fn).kept = s.kept := by
  simp only [State.tableAsk] <;>
    repeat' (first | with_reducible rfl | with_reducible assumption | with_reducible refine (State.fresh_kept' (by assumption)).trans ?_ | with_reducible refine (State.memRead_kept' (by assumption)).trans ?_ | with_reducible refine (kept_of_eq (by assumption)).trans ?_ | with_reducible refine (kept_of_eq2 (by assumption)).trans ?_ | with_reducible refine ite_kept ?_ ?_ | with_reducible refine ite_eq_of ?_ ?_ | split | simp only [↓apply_ite State.kept, ite_self, ↓State.kept_mk, State.kept_eta, ↓apply_ite Prod.fst, ↓apply_ite Prod.snd, ↓State.fresh_kept, ↓State.memRead_kept, ↓State.tableBack_kept])

theorem State.accept_kept (s : State) (t : Txn) (fn : Option Nat) :
    (State.accept s t fn).kept = s.kept := by
  simp only [State.accept] <;>
    repeat' (first | with_reducible rfl | with_reducible assumption | with_reducible refine ite_kept ?_ ?_ | with_reducible refine ite_eq_of ?_ ?_ | split | simp only [↓apply_ite State.kept, ite_self, ↓State.kept_mk, State.kept_eta, ↓State.admit_kept, ↓State.tableAsk_kept])

theorem State.tlbPut_kept (s : State) (die k : Nat) :
    (State.tlbPut s die k).kept = s.kept := by
  simp only [State.tlbPut] <;>
    repeat' (first | with_reducible rfl | with_reducible assumption | with_reducible refine ite_kept ?_ ?_ | with_reducible refine ite_eq_of ?_ ?_ | split | simp only [↓apply_ite State.kept, ite_self, ↓State.kept_mk, State.kept_eta])

theorem State.tlbDrop_kept (s : State) (gone : Nat → Bool) :
    (State.tlbDrop s gone).kept = s.kept := by
  simp only [State.tlbDrop] <;>
    repeat' (first | with_reducible rfl | with_reducible assumption | with_reducible refine ite_kept ?_ ?_ | with_reducible refine ite_eq_of ?_ ?_ | split | simp only [↓apply_ite State.kept, ite_self, ↓State.kept_mk, State.kept_eta])

theorem State.seqGo_kept (s : State) (t : Txn) (a : Nat) :
    (State.seqGo s t a).kept = s.kept := by
  simp only [State.seqGo] <;>
    repeat' (first | with_reducible rfl | with_reducible assumption | with_reducible refine ite_kept ?_ ?_ | with_reducible refine ite_eq_of ?_ ?_ | split | simp only [↓apply_ite State.kept, ite_self, ↓State.kept_mk, State.kept_eta, ↓State.accept_kept, ↓State.answer_kept, ↓State.raise_kept])

theorem State.seqRead_kept (s : State) (t : Txn) (a key : Nat) (second : Bool) :
    (State.seqRead s t a key second).kept = s.kept := by
  simp only [State.seqRead] <;>
    repeat' (first | with_reducible rfl | with_reducible assumption | with_reducible refine (State.fresh_kept' (by assumption)).trans ?_ | with_reducible refine (kept_of_eq (by assumption)).trans ?_ | with_reducible refine (kept_of_eq2 (by assumption)).trans ?_ | with_reducible refine ite_kept ?_ ?_ | with_reducible refine ite_eq_of ?_ ?_ | split | simp only [↓apply_ite State.kept, ite_self, ↓State.kept_mk, State.kept_eta, ↓apply_ite Prod.fst, ↓apply_ite Prod.snd, ↓State.answer_kept, ↓State.enter_kept, ↓State.fresh_kept, ↓State.settle_kept, ↓State.start_kept])

theorem State.seqStep_kept (s : State) (t : Txn) :
    (State.seqStep s t).kept = s.kept := by
  simp only [State.seqStep] <;>
    repeat' (first | with_reducible rfl | with_reducible assumption | with_reducible refine ite_kept ?_ ?_ | with_reducible refine ite_eq_of ?_ ?_ | split | simp only [↓apply_ite State.kept, ite_self, ↓State.kept_mk, State.kept_eta, ↓State.answer_kept, ↓State.denied_kept, ↓State.raise_kept, ↓State.seqGo_kept, ↓State.seqRead_kept, ↓State.tlbPut_kept])

theorem State.seqPumpN_kept (n : Nat) (s : State) : (State.seqPumpN n s).kept = s.kept := by
  induction n generalizing s with
  | zero => rfl
  | succ n ih =>
    unfold State.seqPumpN
    split
    · rw [ih, State.seqStep_kept]
    · rfl

theorem State.seqPump_kept (s : State) :
    (State.seqPump s).kept = s.kept := by
  simp only [State.seqPump] <;>
    repeat' (first | with_reducible rfl | with_reducible assumption | with_reducible refine ite_kept ?_ ?_ | with_reducible refine ite_eq_of ?_ ?_ | split | simp only [↓apply_ite State.kept, ite_self, ↓State.kept_mk, State.kept_eta, ↓State.seqPumpN_kept])

theorem State.seqAsk_kept (s : State) (t : Txn) (a : Nat) :
    (State.seqAsk s t a).kept = s.kept := by
  simp only [State.seqAsk] <;>
    repeat' (first | with_reducible rfl | with_reducible assumption | with_reducible refine ite_kept ?_ ?_ | with_reducible refine ite_eq_of ?_ ?_ | split | simp only [↓apply_ite State.kept, ite_self, ↓State.kept_mk, State.kept_eta, ↓State.seqGo_kept, ↓State.seqPump_kept, ↓State.seqRead_kept])

theorem State.portRaise_kept (s : State) (i kind : Nat) (isolating : Bool) :
    (State.portRaise s i kind isolating).kept = s.kept := by
  simp only [State.portRaise] <;>
    repeat' (first | with_reducible rfl | with_reducible assumption | with_reducible refine (foldl_fst_kept _ (fun s a => ?_) _ _).trans ?_ | with_reducible refine (foldl_kept _ (fun s a => ?_) _ _).trans ?_ | with_reducible refine ite_kept ?_ ?_ | with_reducible refine ite_eq_of ?_ ?_ | split | simp only [↓apply_ite State.kept, ite_self, ↓State.kept_mk, State.kept_eta, implies_true, ↓foldl_kept, ↓State.raise_kept, ↓State.use_kept])

theorem State.orphan_kept (s : State) (p : Origin → Bool) :
    (State.orphan s p).kept = s.kept := by
  simp only [State.orphan] <;>
    repeat' (first | with_reducible rfl | with_reducible assumption | with_reducible refine ite_kept ?_ ?_ | with_reducible refine ite_eq_of ?_ ?_ | split | simp only [↓apply_ite State.kept, ite_self, ↓State.kept_mk, State.kept_eta])

theorem State.isolateOnly_kept (s : State) (i kind : Nat) :
    (State.isolateOnly s i kind).kept = s.kept := by
  simp only [State.isolateOnly] <;>
    repeat' (first | with_reducible rfl | with_reducible assumption | with_reducible refine ite_kept ?_ ?_ | with_reducible refine ite_eq_of ?_ ?_ | split | simp only [↓apply_ite State.kept, ite_self, ↓State.kept_mk, State.kept_eta, ↓State.orphan_kept, ↓State.setPort_kept, ↓State.setTile_kept, ↓State.setTine_kept, ↓State.setUrg_kept, ↓State.willLose_kept])

theorem State.isolate_kept (s : State) (i kind : Nat) :
    (State.isolate s i kind).kept = s.kept := by
  simp only [State.isolate] <;>
    repeat' (first | with_reducible rfl | with_reducible assumption | with_reducible refine ite_kept ?_ ?_ | with_reducible refine ite_eq_of ?_ ?_ | split | simp only [↓apply_ite State.kept, ite_self, ↓State.kept_mk, State.kept_eta, ↓State.isolateOnly_kept, ↓State.portRaise_kept])

theorem State.portEvent_kept (s : State) (i kind : Nat) (loud : Bool) :
    (State.portEvent s i kind loud).kept = s.kept := by
  simp only [State.portEvent] <;>
    repeat' (first | with_reducible rfl | with_reducible assumption | with_reducible refine ite_kept ?_ ?_ | with_reducible refine ite_eq_of ?_ ?_ | split | simp only [↓apply_ite State.kept, ite_self, ↓State.kept_mk, State.kept_eta, ↓State.isolate_kept, ↓State.portRaise_kept, ↓State.setPort_kept])

theorem State.ctxStateLost_kept (s : State) (x : Nat) :
    (State.ctxStateLost s x).kept = s.kept := by
  simp only [State.ctxStateLost] <;>
    repeat' (first | with_reducible rfl | with_reducible assumption | with_reducible refine ite_kept ?_ ?_ | with_reducible refine ite_eq_of ?_ ?_ | split | simp only [↓apply_ite State.kept, ite_self, ↓State.kept_mk, State.kept_eta, ↓State.raise_kept, ↓State.willLose_kept])

theorem State.leaveReset_kept (s : State) (i : Nat) :
    (State.leaveReset s i).kept = s.kept := by
  simp only [State.leaveReset] <;>
    repeat' (first | with_reducible rfl | with_reducible assumption | with_reducible refine ite_kept ?_ ?_ | with_reducible refine ite_eq_of ?_ ?_ | split | simp only [↓apply_ite State.kept, ite_self, ↓State.kept_mk, State.kept_eta, ↓State.setPort_kept, ↓State.setUrg_kept])

theorem State.reenablePort_kept (s : State) (i : Nat) :
    (State.reenablePort s i).kept = s.kept := by
  simp only [State.reenablePort] <;>
    repeat' (first | with_reducible rfl | with_reducible assumption | with_reducible refine ite_kept ?_ ?_ | with_reducible refine ite_eq_of ?_ ?_ | split | simp only [↓apply_ite State.kept, ite_self, ↓State.kept_mk, State.kept_eta, ↓State.setPort_kept, ↓State.setTine_kept, ↓State.setUrg_kept])

theorem State.tagHoldEnd_kept (s : State) (i : Nat) :
    (State.tagHoldEnd s i).kept = s.kept := by
  simp only [State.tagHoldEnd] <;>
    repeat' (first | with_reducible rfl | with_reducible assumption | with_reducible refine ite_kept ?_ ?_ | with_reducible refine ite_eq_of ?_ ?_ | split | simp only [↓apply_ite State.kept, ite_self, ↓State.kept_mk, State.kept_eta, ↓State.setPort_kept])

theorem State.memCount_kept (s : State) (p kind : Nat) :
    (State.memCount s p kind).kept = s.kept := by
  simp only [State.memCount] <;>
    repeat' (first | with_reducible rfl | with_reducible assumption | with_reducible refine ite_kept ?_ ?_ | with_reducible refine ite_eq_of ?_ ?_ | split | simp only [↓apply_ite State.kept, ite_self, ↓State.kept_mk, State.kept_eta, ↓State.raise_kept, ↓State.setMp_kept])

theorem State.memRaise_kept (s : State) (line k kind cls : Nat) :
    (State.memRaise s line k kind cls).kept = s.kept := by
  simp only [State.memRaise] <;>
    repeat' (first | with_reducible rfl | with_reducible assumption | with_reducible refine ite_kept ?_ ?_ | with_reducible refine ite_eq_of ?_ ?_ | split | simp only [↓apply_ite State.kept, ite_self, ↓State.kept_mk, State.kept_eta, ↓State.raise_kept])

theorem State.noteFixed_kept (s : State) (line k : Nat) (fixed : Bool) :
    (State.noteFixed s line k fixed).kept = s.kept := by
  simp only [State.noteFixed] <;>
    repeat' (first | with_reducible rfl | with_reducible assumption | with_reducible refine ite_kept ?_ ?_ | with_reducible refine ite_eq_of ?_ ?_ | split | simp only [↓apply_ite State.kept, ite_self, ↓State.kept_mk, State.kept_eta, ↓State.memCount_kept, ↓State.memRaise_kept])

theorem State.gather_kept (s : State) (pur : MPurpose) (k : Nat) (d : Sector) (bad : Bool) :
    (State.gather s pur k d bad).kept = s.kept := by
  simp only [State.gather] <;>
    repeat' (first | with_reducible rfl | with_reducible assumption | with_reducible refine ite_kept ?_ ?_ | with_reducible refine ite_eq_of ?_ ?_ | split | simp only [↓apply_ite State.kept, ite_self, ↓State.kept_mk, State.kept_eta, ↓State.setTxn_kept])

theorem State.atomAtMemory_kept (s : State) (t : Txn) (l : Line) (poison : Nat) :
    (State.atomAtMemory s t l poison).kept = s.kept := by
  simp only [State.atomAtMemory] <;>
    repeat' (first | with_reducible rfl | with_reducible assumption | with_reducible refine (State.memWrite_kept' (by assumption)).trans ?_ | with_reducible refine (kept_of_eq (by assumption)).trans ?_ | with_reducible refine (kept_of_eq2 (by assumption)).trans ?_ | with_reducible refine ite_kept ?_ ?_ | with_reducible refine ite_eq_of ?_ ?_ | split | simp only [↓apply_ite State.kept, ite_self, ↓State.kept_mk, State.kept_eta, ↓apply_ite Prod.fst, ↓apply_ite Prod.snd, ↓State.denied_kept, ↓State.finish_kept, ↓State.memWrite_kept, ↓State.setTxn_kept])

theorem State.gathered_kept (s : State) (pur : MPurpose) :
    (State.gathered s pur).kept = s.kept := by
  simp only [State.gathered] <;>
    repeat' (first | with_reducible rfl | with_reducible assumption | with_reducible refine ite_kept ?_ ?_ | with_reducible refine ite_eq_of ?_ ?_ | split | simp only [↓apply_ite State.kept, ite_self, ↓State.kept_mk, State.kept_eta, ↓State.atomAtMemory_kept, ↓State.setJob_kept, ↓State.setTxn_kept, ↓State.settle_kept, ↓State.tableBack_kept])

theorem State.lineWritten_kept (s : State) (h line : Nat) :
    (State.lineWritten s h line).kept = s.kept := by
  simp only [State.lineWritten] <;>
    repeat' (first | with_reducible rfl | with_reducible assumption | with_reducible refine ite_kept ?_ ?_ | with_reducible refine ite_eq_of ?_ ?_ | split | simp only [↓apply_ite State.kept, ite_self, ↓State.kept_mk, State.kept_eta])

theorem State.flushedAck_kept (s : State) (h line : Nat) :
    (State.flushedAck s h line).kept = s.kept := by
  simp only [State.flushedAck] <;>
    repeat' (first | with_reducible rfl | with_reducible assumption | with_reducible refine (State.memWrite_kept' (by assumption)).trans ?_ | with_reducible refine (kept_of_eq (by assumption)).trans ?_ | with_reducible refine (kept_of_eq2 (by assumption)).trans ?_ | with_reducible refine ite_kept ?_ ?_ | with_reducible refine ite_eq_of ?_ ?_ | split | simp only [↓apply_ite State.kept, ite_self, ↓State.kept_mk, State.kept_eta, ↓apply_ite Prod.fst, ↓apply_ite Prod.snd, ↓State.lineWritten_kept, ↓State.memWrite_kept, ↓State.mirrorDrop_kept, ↓State.note_kept, ↓State.setHome_kept])

theorem State.written_kept (s : State) (pur : MPurpose) :
    (State.written s pur).kept = s.kept := by
  simp only [State.written] <;>
    repeat' (first | with_reducible rfl | with_reducible assumption | with_reducible refine ite_kept ?_ ?_ | with_reducible refine ite_eq_of ?_ ?_ | split | simp only [↓apply_ite State.kept, ite_self, ↓State.kept_mk, State.kept_eta, ↓State.flushedAck_kept, ↓State.setTxn_kept, ↓State.settle_kept])

theorem State.fullPart_kept (s : State) (stripe m : Nat) :
    (State.fullPart s stripe m).kept = s.kept := by
  simp only [State.fullPart] <;>
    repeat' (first | with_reducible rfl | with_reducible assumption | with_reducible refine ite_kept ?_ ?_ | with_reducible refine ite_eq_of ?_ ?_ | split | simp only [↓apply_ite State.kept, ite_self, ↓State.kept_mk, State.kept_eta, ↓State.guardEnd_kept, ↓State.setGuard_kept])

theorem State.guardDone_kept (s : State) (g : GuardOp) :
    (State.guardDone s g).kept = s.kept := by
  simp only [State.guardDone] <;>
    repeat' (first | with_reducible rfl | with_reducible assumption | with_reducible refine ite_kept ?_ ?_ | with_reducible refine ite_eq_of ?_ ?_ | split | simp only [↓apply_ite State.kept, ite_self, ↓State.kept_mk, State.kept_eta, ↓State.fullPart_kept, ↓State.gathered_kept, ↓State.grantLocks_kept, ↓State.guardEnd_kept, ↓State.written_kept])

theorem State.memPoison_kept (s : State) (line mask : Nat) :
    (State.memPoison s line mask).kept = s.kept := by
  simp only [State.memPoison] <;>
    repeat' (first | with_reducible rfl | with_reducible assumption | with_reducible refine ite_kept ?_ ?_ | with_reducible refine ite_eq_of ?_ ?_ | split | simp only [↓apply_ite State.kept, ite_self, ↓State.kept_mk, State.kept_eta, ↓State.wbPush_kept])

theorem State.guardData_kept (s : State) (g : GuardOp) :
    (State.guardData s g).kept = s.kept := by
  simp only [State.guardData] <;>
    repeat' (first | with_reducible rfl | with_reducible assumption | with_reducible refine ite_kept ?_ ?_ | with_reducible refine ite_eq_of ?_ ?_ | split | simp only [↓apply_ite State.kept, ite_self, ↓State.kept_mk, State.kept_eta, ↓State.guardDone_kept, ↓State.guardWrite_kept, ↓State.setGuard_kept])

theorem State.guardAlone_kept (s : State) (g : GuardOp) :
    (State.guardAlone s g).kept = s.kept := by
  simp only [State.guardAlone] <;>
    repeat' (first | with_reducible rfl | with_reducible assumption | with_reducible refine (State.rekeyGuard_kept' (by assumption)).trans ?_ | with_reducible refine (kept_of_eq (by assumption)).trans ?_ | with_reducible refine (kept_of_eq2 (by assumption)).trans ?_ | with_reducible refine ite_kept ?_ ?_ | with_reducible refine ite_eq_of ?_ ?_ | split | simp only [↓apply_ite State.kept, ite_self, ↓State.kept_mk, State.kept_eta, ↓apply_ite Prod.fst, ↓apply_ite Prod.snd, ↓State.guardData_kept, ↓State.rekeyGuard_kept, ↓State.setMp_kept, ↓State.useFree_kept])

theorem State.reconstructOr_kept (s : State) (g : GuardOp) :
    (State.reconstructOr s g).kept = s.kept := by
  simp only [State.reconstructOr] <;>
    repeat' (first | with_reducible rfl | with_reducible assumption | with_reducible refine ite_kept ?_ ?_ | with_reducible refine ite_eq_of ?_ ?_ | split | simp only [↓apply_ite State.kept, ite_self, ↓State.kept_mk, State.kept_eta, ↓State.guardAlone_kept, ↓State.toReconstruct_kept])

theorem State.rebuiltJudge_kept (s : State) (g : GuardOp) (c : Sector) (hi : BitVec 32) :
    (State.rebuiltJudge s g c hi).kept = s.kept := by
  simp only [State.rebuiltJudge] <;>
    repeat' (first | with_reducible rfl | with_reducible assumption | with_reducible refine ite_kept ?_ ?_ | with_reducible refine ite_eq_of ?_ ?_ | split | simp only [↓apply_ite State.kept, ite_self, ↓State.kept_mk, State.kept_eta, ↓State.gather_kept, ↓State.guardDone_kept, ↓State.memAsk_kept, ↓State.memPoison_kept, ↓State.memRaise_kept, ↓State.note_kept])

theorem State.guardGot_kept (s : State) (g : GuardOp) (step : Nat) (raw : Option (Sector × BitVec 32)) (kind : Nat) :
    (State.guardGot s g step raw kind).kept = s.kept := by
  unfold State.guardGot
  split
  split
  · rfl
  · refine ite_kept (State.guardDone_kept _ _) ?_
    split
    · exact State.reconstructOr_kept _ _
    · simp only [↓State.guardRead_kept, ↓State.setGuard_kept]
  · split
    · exact State.reconstructOr_kept _ _
    · simp only [↓State.guardWrite_kept, ↓State.setGuard_kept]
  · split
    exact State.rebuiltJudge_kept _ _ _ _
  · extract_lets m par g0
    clear_value m par g0
    split
    extract_lets key fails s1
    have h1 : s1.kept = s.kept := ite_kept (State.memCount_kept _ _ _) rfl
    clear_value key fails s1
    split
    extract_lets g2 s2 s3
    have h2 : s2.kept = s.kept := (State.setGuard_kept _ _).trans h1
    have h3 : s3.kept = s.kept := (State.guardDone_kept _ _).trans h2
    clear_value g2 s2 s3
    refine ite_kept h2 ?_
    split
    · refine ite_kept ((State.guardDone_kept _ _).trans h2) ?_
      simp only [↓State.guardWrite_kept, ↓State.setGuard_kept, h2]
    · extract_lets p
      clear_value p
      split
      rename_i h4
      have h5 := State.fresh_kept' h4
      split
      exact ite_kept (by simp only [↓State.guardBegin_kept, h5, h3]) (by simp only [↓State.guardBegin_kept, h5, h3])
    · refine (foldl_kept _ (fun s a => ?_) _ _).trans ((State.guardDone_kept _ _).trans h2)
      split
      simp only [↓State.memPoison_kept, ↓State.memRaise_kept]
  · split
    extract_lets g1 s1
    have h1 : s1.kept = s.kept := State.setGuard_kept _ _
    clear_value g1 s1
    refine ite_kept h1 ?_
    split
    · simp only [↓State.guardRead_kept, ↓State.setGuard_kept, h1]
    · refine ite_kept ((State.guardDone_kept _ _).trans h1) ?_
      simp only [↓State.guardWrite_kept, ↓State.setGuard_kept, h1]
    · refine ite_kept ((State.guardData_kept _ _).trans h1) ?_
      simp only [↓State.guardWrite_kept, ↓State.setGuard_kept, h1]

theorem State.guardAck_kept (s : State) (g : GuardOp) (step : Nat) :
    (State.guardAck s g step).kept = s.kept := by
  simp only [State.guardAck] <;>
    repeat' (first | with_reducible rfl | with_reducible assumption | with_reducible refine ite_kept ?_ ?_ | with_reducible refine ite_eq_of ?_ ?_ | split | simp only [↓apply_ite State.kept, ite_self, ↓State.kept_mk, State.kept_eta, ↓State.fullPart_kept, ↓State.grantLocks_kept, ↓State.guardData_kept, ↓State.guardDone_kept, ↓State.memRaise_kept])

theorem State.sectorBack_kept (s : State) (r : MemReq) (k : Nat) (bad : Bool) (c : Sector) (sb : BitVec 64) :
    (State.sectorBack s r k bad c sb).kept = s.kept := by
  simp only [State.sectorBack] <;>
    repeat' (first | with_reducible rfl | with_reducible assumption | with_reducible refine (State.fresh_kept' (by assumption)).trans ?_ | with_reducible refine (kept_of_eq (by assumption)).trans ?_ | with_reducible refine (kept_of_eq2 (by assumption)).trans ?_ | with_reducible refine ite_kept ?_ ?_ | with_reducible refine ite_eq_of ?_ ?_ | split | simp only [↓apply_ite State.kept, ite_self, ↓State.kept_mk, State.kept_eta, ↓apply_ite Prod.fst, ↓apply_ite Prod.snd, ↓State.fresh_kept, ↓State.gather_kept, ↓State.guardBegin_kept, ↓State.memAsk_kept, ↓State.memCount_kept, ↓State.memPoison_kept, ↓State.memRaise_kept, ↓State.noteFixed_kept])

theorem State.readBack_kept (s : State) (r : MemReq) (x : MpReturn) :
    (State.readBack s r x).kept = s.kept := by
  simp only [State.readBack] <;>
    repeat' (first | with_reducible rfl | with_reducible assumption | with_reducible refine (foldl_fst_kept _ (fun s a => ?_) _ _).trans ?_ | with_reducible refine (foldl_kept _ (fun s a => ?_) _ _).trans ?_ | with_reducible refine ite_kept ?_ ?_ | with_reducible refine ite_eq_of ?_ ?_ | split | simp only [↓apply_ite State.kept, ite_self, ↓State.kept_mk, State.kept_eta, implies_true, ↓foldl_kept, ↓State.gathered_kept, ↓State.guardGot_kept, ↓State.memCount_kept, ↓State.noteFixed_kept, ↓State.sectorBack_kept])

theorem State.ackBack_kept (s : State) (r : MemReq) :
    (State.ackBack s r).kept = s.kept := by
  simp only [State.ackBack] <;>
    repeat' (first | with_reducible rfl | with_reducible assumption | with_reducible refine ite_kept ?_ ?_ | with_reducible refine ite_eq_of ?_ ?_ | split | simp only [↓apply_ite State.kept, ite_self, ↓State.kept_mk, State.kept_eta, ↓State.guardAck_kept, ↓State.written_kept])

theorem State.refuseReq_kept (s : State) (p : Nat) (r : MemReq) :
    (State.refuseReq s p r).kept = s.kept := by
  simp only [State.refuseReq] <;>
    repeat' (first | with_reducible rfl | with_reducible assumption | with_reducible refine (foldl_fst_kept _ (fun s a => ?_) _ _).trans ?_ | with_reducible refine (foldl_kept _ (fun s a => ?_) _ _).trans ?_ | with_reducible refine ite_kept ?_ ?_ | with_reducible refine ite_eq_of ?_ ?_ | split | simp only [↓apply_ite State.kept, ite_self, ↓State.kept_mk, State.kept_eta, implies_true, ↓foldl_kept, ↓State.finish_kept, ↓State.gather_kept, ↓State.gathered_kept, ↓State.raiseRetired_kept, ↓State.settle_kept, ↓State.written_kept])

theorem State.issueNext_kept (s : State) (p : Nat) :
    (State.issueNext s p).kept = s.kept := by
  simp only [State.issueNext] <;>
    repeat' (first | with_reducible rfl | with_reducible assumption | with_reducible refine ite_kept ?_ ?_ | with_reducible refine ite_eq_of ?_ ?_ | split | simp only [↓apply_ite State.kept, ite_self, ↓State.kept_mk, State.kept_eta, ↓State.memPut_kept, ↓State.refuseReq_kept, ↓State.setMp_kept])

theorem State.takeTag_kept (s : State) (p tag : Nat) (write : Bool) :
    (State.takeTag s p tag write).1.kept = s.kept := by
  simp only [State.takeTag] <;>
    repeat' (first | with_reducible rfl | with_reducible assumption | with_reducible refine ite_kept ?_ ?_ | with_reducible refine ite_eq_of ?_ ?_ | split | simp only [↓apply_ite State.kept, ite_self, ↓State.kept_mk, State.kept_eta, ↓apply_ite Prod.fst, ↓apply_ite Prod.snd, ↓State.setMp_kept])

theorem State.takeTag_kept' {s : State} {p tag : Nat} {write : Bool} {t₁} {x₁} (hc : State.takeTag s p tag write = (t₁, x₁)) :
    t₁.kept = s.kept := by
  have e := State.takeTag_kept s p tag write
  rw [hc] at e
  exact e

theorem State.guardOnLoss_kept (s : State) (p : Nat) (g : GuardOp) :
    (State.guardOnLoss s p g).kept = s.kept := by
  simp only [State.guardOnLoss] <;>
    repeat' (first | with_reducible rfl | with_reducible assumption | with_reducible refine (State.rekeyGuard_kept' (by assumption)).trans ?_ | with_reducible refine (kept_of_eq (by assumption)).trans ?_ | with_reducible refine (kept_of_eq2 (by assumption)).trans ?_ | with_reducible refine ite_kept ?_ ?_ | with_reducible refine ite_eq_of ?_ ?_ | split | simp only [↓apply_ite State.kept, ite_self, ↓State.kept_mk, State.kept_eta, ↓apply_ite Prod.fst, ↓apply_ite Prod.snd, ↓State.fullPart_kept, ↓State.grantLocks_kept, ↓State.guardAlone_kept, ↓State.guardDone_kept, ↓State.guardGot_kept, ↓State.rebuiltJudge_kept, ↓State.reconstructOr_kept, ↓State.rekeyGuard_kept])

theorem State.resolveLost_kept (s : State) (p : Nat) (r : MemReq) :
    (State.resolveLost s p r).kept = s.kept := by
  simp only [State.resolveLost] <;>
    repeat' (first | with_reducible rfl | with_reducible assumption | with_reducible refine (State.fresh_kept' (by assumption)).trans ?_ | with_reducible refine (foldl_fst_kept _ (fun s a => ?_) _ _).trans ?_ | with_reducible refine (foldl_kept _ (fun s a => ?_) _ _).trans ?_ | with_reducible refine (kept_of_eq (by assumption)).trans ?_ | with_reducible refine (kept_of_eq2 (by assumption)).trans ?_ | with_reducible refine ite_kept ?_ ?_ | with_reducible refine ite_eq_of ?_ ?_ | split | simp only [↓apply_ite State.kept, ite_self, ↓State.kept_mk, State.kept_eta, implies_true, ↓foldl_kept, ↓apply_ite Prod.fst, ↓apply_ite Prod.snd, ↓State.finish_kept, ↓State.fresh_kept, ↓State.gather_kept, ↓State.gathered_kept, ↓State.guardBegin_kept, ↓State.written_kept])

theorem State.loseStack_kept (s : State) (p : Nat) (say : Bool) :
    (State.loseStack s p say).kept = s.kept := by
  simp only [State.loseStack] <;>
    repeat' (first | with_reducible rfl | with_reducible assumption | with_reducible refine (foldl_fst_kept _ (fun s a => ?_) _ _).trans ?_ | with_reducible refine (foldl_kept _ (fun s a => ?_) _ _).trans ?_ | with_reducible refine ite_kept ?_ ?_ | with_reducible refine ite_eq_of ?_ ?_ | split | simp only [↓apply_ite State.kept, ite_self, ↓State.kept_mk, State.kept_eta, implies_true, ↓foldl_kept, ↓State.guardOnLoss_kept, ↓State.isolateOnly_kept, ↓State.raise_kept, ↓State.resolveLost_kept, ↓State.setMp_kept, ↓State.settle_kept])

theorem State.sampleReturn_kept (s : State) (p q rtt : Nat) (read : Bool) :
    (State.sampleReturn s p q rtt read).kept = s.kept := by
  simp only [State.sampleReturn] <;>
    repeat' (first | with_reducible rfl | with_reducible assumption | with_reducible refine ite_kept ?_ ?_ | with_reducible refine ite_eq_of ?_ ?_ | split | simp only [↓apply_ite State.kept, ite_self, ↓State.kept_mk, State.kept_eta, ↓State.setMp_kept])

theorem State.memReturn_kept (s : State) (p : Nat) (r : MpReturn) :
    (State.memReturn s p r).kept = s.kept := by
  simp only [State.memReturn] <;>
    repeat' (first | with_reducible rfl | with_reducible assumption | with_reducible refine (State.takeTag_kept' (by assumption)).trans ?_ | with_reducible refine (kept_of_eq (by assumption)).trans ?_ | with_reducible refine (kept_of_eq2 (by assumption)).trans ?_ | with_reducible refine ite_kept ?_ ?_ | with_reducible refine ite_eq_of ?_ ?_ | split | simp only [↓apply_ite State.kept, ite_self, ↓State.kept_mk, State.kept_eta, ↓apply_ite Prod.fst, ↓apply_ite Prod.snd, ↓State.portEvent_kept, ↓State.readBack_kept, ↓State.sampleReturn_kept, ↓State.seqPump_kept, ↓State.takeTag_kept])

theorem State.memAckd_kept (s : State) (p tag : Nat) (cparOk inGrant : Bool) :
    (State.memAckd s p tag cparOk inGrant).kept = s.kept := by
  simp only [State.memAckd] <;>
    repeat' (first | with_reducible rfl | with_reducible assumption | with_reducible refine (State.takeTag_kept' (by assumption)).trans ?_ | with_reducible refine (kept_of_eq (by assumption)).trans ?_ | with_reducible refine (kept_of_eq2 (by assumption)).trans ?_ | with_reducible refine ite_kept ?_ ?_ | with_reducible refine ite_eq_of ?_ ?_ | split | simp only [↓apply_ite State.kept, ite_self, ↓State.kept_mk, State.kept_eta, ↓apply_ite Prod.fst, ↓apply_ite Prod.snd, ↓State.ackBack_kept, ↓State.portEvent_kept, ↓State.takeTag_kept])

theorem State.mpGap_kept (s : State) (p : Nat) :
    (State.mpGap s p).kept = s.kept := by
  simp only [State.mpGap] <;>
    repeat' (first | with_reducible rfl | with_reducible assumption | with_reducible refine ite_kept ?_ ?_ | with_reducible refine ite_eq_of ?_ ?_ | split | simp only [↓apply_ite State.kept, ite_self, ↓State.kept_mk, State.kept_eta, ↓State.setPort_kept])

theorem State.trainedFall_kept (s : State) (p : Nat) :
    (State.trainedFall s p).kept = s.kept := by
  simp only [State.trainedFall] <;>
    repeat' (first | with_reducible rfl | with_reducible assumption | with_reducible refine ite_kept ?_ ?_ | with_reducible refine ite_eq_of ?_ ?_ | split | simp only [↓apply_ite State.kept, ite_self, ↓State.kept_mk, State.kept_eta, ↓State.mpGap_kept, ↓State.setMp_kept])

theorem State.driveGrant_kept (s : State) (p g : Nat) :
    (State.driveGrant s p g).kept = s.kept := by
  simp only [State.driveGrant] <;>
    repeat' (first | with_reducible rfl | with_reducible assumption | with_reducible refine ite_kept ?_ ?_ | with_reducible refine ite_eq_of ?_ ?_ | split | simp only [↓apply_ite State.kept, ite_self, ↓State.kept_mk, State.kept_eta, ↓State.portEvent_kept, ↓State.setMp_kept])

theorem State.poisonTxn_kept (s : State) (t : Txn) (n : Snoop) (kind : Option Nat) :
    (State.poisonTxn s t n kind).kept = s.kept := by
  simp only [State.poisonTxn] <;>
    repeat' (first | with_reducible rfl | with_reducible assumption | with_reducible refine ite_kept ?_ ?_ | with_reducible refine ite_eq_of ?_ ?_ | split | simp only [↓apply_ite State.kept, ite_self, ↓State.kept_mk, State.kept_eta, ↓State.poisonLine_kept, ↓State.poisonQuiet_kept, ↓State.setFilt_kept, ↓State.setTxn_kept, ↓State.settle_kept])

theorem State.takeAnswer_kept (s : State) (t : Txn) (n : Snoop) (resp : Nat) (data : Line) :
    (State.takeAnswer s t n resp data).kept = s.kept := by
  simp only [State.takeAnswer] <;>
    repeat' (first | with_reducible rfl | with_reducible assumption | with_reducible refine ite_kept ?_ ?_ | with_reducible refine ite_eq_of ?_ ?_ | split | simp only [↓apply_ite State.kept, ite_self, ↓State.kept_mk, State.kept_eta, ↓State.poisonTxn_kept, ↓State.portEvent_kept, ↓State.setFilt_kept, ↓State.setTxn_kept, ↓State.settle_kept])

theorem State.setProxy_kept (s : State) (x : ProxySnoop) :
    (State.setProxy s x).kept = s.kept := by
  simp only [State.setProxy] <;>
    repeat' (first | with_reducible rfl | with_reducible assumption | with_reducible refine ite_kept ?_ ?_ | with_reducible refine ite_eq_of ?_ ?_ | split | simp only [↓apply_ite State.kept, ite_self, ↓State.kept_mk, State.kept_eta])

theorem State.proxyDone_kept (s : State) (x : ProxySnoop) :
    (State.proxyDone s x).kept = s.kept := by
  simp only [State.proxyDone] <;>
    repeat' (first | with_reducible rfl | with_reducible assumption | with_reducible refine ite_kept ?_ ?_ | with_reducible refine ite_eq_of ?_ ?_ | split | simp only [↓apply_ite State.kept, ite_self, ↓State.kept_mk, State.kept_eta, ↓State.sendOr_kept, ↓State.setFilt_kept])

theorem State.proxyAnswer_kept (s : State) (x : ProxySnoop) (n : Snoop) (resp : Nat) (data : Line) (bad : Bool) :
    (State.proxyAnswer s x n resp data bad).kept = s.kept := by
  simp only [State.proxyAnswer] <;>
    repeat' (first | with_reducible rfl | with_reducible assumption | with_reducible refine ite_kept ?_ ?_ | with_reducible refine ite_eq_of ?_ ?_ | split | simp only [↓apply_ite State.kept, ite_self, ↓State.kept_mk, State.kept_eta, ↓State.portEvent_kept, ↓State.proxyDone_kept, ↓State.raise_kept, ↓State.setFilt_kept, ↓State.setProxy_kept])

theorem State.srsp_kept (s : State) (port : Nat) (r : SnpResp) :
    (State.srsp s port r).kept = s.kept := by
  simp only [State.srsp] <;>
    repeat' (first | with_reducible rfl | with_reducible assumption | with_reducible refine ite_kept ?_ ?_ | with_reducible refine ite_eq_of ?_ ?_ | split | simp only [↓apply_ite State.kept, ite_self, ↓State.kept_mk, State.kept_eta, ↓State.poisonTxn_kept, ↓State.portEvent_kept, ↓State.proxyAnswer_kept, ↓State.raise_kept, ↓State.seqPump_kept, ↓State.takeAnswer_kept])

theorem State.proxySilent_kept (s : State) (x : ProxySnoop) (n : Snoop) :
    (State.proxySilent s x n).kept = s.kept := by
  simp only [State.proxySilent] <;>
    repeat' (first | with_reducible rfl | with_reducible assumption | with_reducible refine ite_kept ?_ ?_ | with_reducible refine ite_eq_of ?_ ?_ | split | simp only [↓apply_ite State.kept, ite_self, ↓State.kept_mk, State.kept_eta, ↓State.portEvent_kept, ↓State.raise_kept, ↓State.setFilt_kept])

theorem State.snoopLate_kept (s : State) (port id : Nat) :
    (State.snoopLate s port id).kept = s.kept := by
  simp only [State.snoopLate] <;>
    repeat' (first | with_reducible rfl | with_reducible assumption | with_reducible refine ite_kept ?_ ?_ | with_reducible refine ite_eq_of ?_ ?_ | split | simp only [↓apply_ite State.kept, ite_self, ↓State.kept_mk, State.kept_eta, ↓State.poisonTxn_kept, ↓State.portEvent_kept, ↓State.proxyDone_kept, ↓State.proxySilent_kept, ↓State.setProxy_kept])

theorem State.flushStart_kept (s : State) (name h : Nat) (set : Option Nat) (standIn : Bool) :
    (State.flushStart s name h set standIn).kept = s.kept := by
  simp only [State.flushStart] <;>
    repeat' (first | with_reducible rfl | with_reducible assumption | with_reducible refine (foldl_fst_kept _ (fun s a => ?_) _ _).trans ?_ | with_reducible refine (foldl_kept _ (fun s a => ?_) _ _).trans ?_ | with_reducible refine ite_kept ?_ ?_ | with_reducible refine ite_eq_of ?_ ?_ | split | simp only [↓apply_ite State.kept, ite_self, ↓State.kept_mk, State.kept_eta, implies_true, ↓foldl_kept, ↓State.emit_kept, ↓State.sendOr_kept, ↓State.setTile_kept, ↓State.start_kept])

theorem State.setFlush_kept (s : State) (f : Flush) :
    (State.setFlush s f).kept = s.kept := by
  simp only [State.setFlush] <;>
    repeat' (first | with_reducible rfl | with_reducible assumption | with_reducible refine ite_kept ?_ ?_ | with_reducible refine ite_eq_of ?_ ?_ | split | simp only [↓apply_ite State.kept, ite_self, ↓State.kept_mk, State.kept_eta])

theorem State.flushEnd_kept (s : State) (f : Flush) :
    (State.flushEnd s f).kept = s.kept := by
  simp only [State.flushEnd] <;>
    repeat' (first | with_reducible rfl | with_reducible assumption | with_reducible refine ite_kept ?_ ?_ | with_reducible refine ite_eq_of ?_ ?_ | split | simp only [↓apply_ite State.kept, ite_self, ↓State.kept_mk, State.kept_eta, ↓State.setHome_kept, ↓State.settle_kept])

theorem State.flushPort_kept (s : State) (name port : Nat) :
    (State.flushPort s name port).kept = s.kept := by
  simp only [State.flushPort] <;>
    repeat' (first | with_reducible rfl | with_reducible assumption | with_reducible refine (foldl_fst_kept _ (fun s a => ?_) _ _).trans ?_ | with_reducible refine (foldl_kept _ (fun s a => ?_) _ _).trans ?_ | with_reducible refine ite_kept ?_ ?_ | with_reducible refine ite_eq_of ?_ ?_ | split | simp only [↓apply_ite State.kept, ite_self, ↓State.kept_mk, State.kept_eta, implies_true, ↓foldl_kept, ↓State.flushEnd_kept, ↓State.setFlush_kept])

theorem State.flushDrop_kept (s : State) (f : Flush) (a : Bool × Nat) (kind : Nat) :
    (State.flushDrop s f a kind).kept = s.kept := by
  simp only [State.flushDrop] <;>
    repeat' (first | with_reducible rfl | with_reducible assumption | with_reducible refine (foldl_fst_kept _ (fun s a => ?_) _ _).trans ?_ | with_reducible refine (foldl_kept _ (fun s a => ?_) _ _).trans ?_ | with_reducible refine ite_kept ?_ ?_ | with_reducible refine ite_eq_of ?_ ?_ | split | simp only [↓apply_ite State.kept, ite_self, ↓State.kept_mk, State.kept_eta, implies_true, ↓foldl_kept, ↓State.poisonLine_kept, ↓State.setFilt_kept])

theorem State.flushLate_kept (s : State) (name port : Nat) :
    (State.flushLate s name port).kept = s.kept := by
  simp only [State.flushLate] <;>
    repeat' (first | with_reducible rfl | with_reducible assumption | with_reducible refine ite_kept ?_ ?_ | with_reducible refine ite_eq_of ?_ ?_ | split | simp only [↓apply_ite State.kept, ite_self, ↓State.kept_mk, State.kept_eta, ↓State.flushDrop_kept, ↓State.flushPort_kept, ↓State.portEvent_kept, ↓State.start_kept])

theorem State.addRepair_kept (s : State) (u op array element spare : Nat) :
    (State.addRepair s u op array element spare).kept = s.kept := by
  simp only [State.addRepair] <;>
    repeat' (first | with_reducible rfl | with_reducible assumption | with_reducible refine ite_kept ?_ ?_ | with_reducible refine ite_eq_of ?_ ?_ | split | simp only [↓apply_ite State.kept, ite_self, ↓State.kept_mk, State.kept_eta])

theorem State.filterLost_kept (s : State) (h set : Nat) :
    (State.filterLost s h set).kept = s.kept := by
  simp only [State.filterLost] <;>
    repeat' (first | with_reducible rfl | with_reducible assumption | with_reducible refine ite_kept ?_ ?_ | with_reducible refine ite_eq_of ?_ ?_ | split | simp only [↓apply_ite State.kept, ite_self, ↓State.kept_mk, State.kept_eta, ↓State.flushStart_kept, ↓State.raise_kept, ↓State.setHome_kept])

theorem State.wayErr_kept (s : State) (h k : Nat) :
    (State.wayErr s h k).kept = s.kept := by
  simp only [State.wayErr] <;>
    repeat' (first | with_reducible rfl | with_reducible assumption | with_reducible refine ite_kept ?_ ?_ | with_reducible refine ite_eq_of ?_ ?_ | split | simp only [↓apply_ite State.kept, ite_self, ↓State.kept_mk, State.kept_eta, ↓State.addRepair_kept, ↓State.evictWay_kept, ↓State.setHome_kept])

theorem State.arrayError_kept (s : State) (h k : Nat) (tag mirrorBad : Bool) :
    (State.arrayError s h k tag mirrorBad).kept = s.kept := by
  simp only [State.arrayError] <;>
    repeat' (first | with_reducible rfl | with_reducible assumption | with_reducible refine ite_kept ?_ ?_ | with_reducible refine ite_eq_of ?_ ?_ | split | simp only [↓apply_ite State.kept, ite_self, ↓State.kept_mk, State.kept_eta, ↓State.closeWindow_kept, ↓State.enter_kept, ↓State.poisonLine_kept, ↓State.raise_kept, ↓State.setHome_kept, ↓State.settle_kept, ↓State.start_kept, ↓State.wayErr_kept])

theorem State.reservationExpire_kept (s : State) (h origin : Nat) :
    (State.reservationExpire s h origin).kept = s.kept := by
  simp only [State.reservationExpire] <;>
    repeat' (first | with_reducible rfl | with_reducible assumption | with_reducible refine ite_kept ?_ ?_ | with_reducible refine ite_eq_of ?_ ?_ | split | simp only [↓apply_ite State.kept, ite_self, ↓State.kept_mk, State.kept_eta, ↓State.reserve_kept, ↓State.setHome_kept])

theorem State.tileSay_kept (s : State) (port tag : Nat) (st : Status) :
    (State.tileSay s port tag st).kept = s.kept := by
  simp only [State.tileSay] <;>
    repeat' (first | with_reducible rfl | with_reducible assumption | with_reducible refine ite_kept ?_ ?_ | with_reducible refine ite_eq_of ?_ ?_ | split | simp only [↓apply_ite State.kept, ite_self, ↓State.kept_mk, State.kept_eta, ↓State.emit_kept, ↓State.tileRsp_kept])

theorem State.brokenBeat_kept (s : State) (port : Nat) :
    (State.brokenBeat s port).kept = s.kept := by
  simp only [State.brokenBeat] <;>
    repeat' (first | with_reducible rfl | with_reducible assumption | with_reducible refine ite_kept ?_ ?_ | with_reducible refine ite_eq_of ?_ ?_ | split | simp only [↓apply_ite State.kept, ite_self, ↓State.kept_mk, State.kept_eta, ↓State.denied_kept, ↓State.setTile_kept, ↓State.tileRsp_kept])

theorem State.reqFault_kept (s : State) (port : Nat) (r : TpReq) (proto : Bool) :
    (State.reqFault s port r proto).kept = s.kept := by
  simp only [State.reqFault] <;>
    repeat' (first | with_reducible rfl | with_reducible assumption | with_reducible refine ite_kept ?_ ?_ | with_reducible refine ite_eq_of ?_ ?_ | split | simp only [↓apply_ite State.kept, ite_self, ↓State.kept_mk, State.kept_eta, ↓State.portEvent_kept])

theorem State.tileOpen_kept (s : State) (port tag tc : Nat) (read : Bool) :
    (State.tileOpen s port tag tc read).kept = s.kept := by
  simp only [State.tileOpen] <;>
    repeat' (first | with_reducible rfl | with_reducible assumption | with_reducible refine ite_kept ?_ ?_ | with_reducible refine ite_eq_of ?_ ?_ | split | simp only [↓apply_ite State.kept, ite_self, ↓State.kept_mk, State.kept_eta, ↓State.reqOpen_kept])

theorem State.tileEnter_kept (s : State) (port op : Nat) (r : TpReq) :
    (State.tileEnter s port op r).1.kept = s.kept := by
  simp only [State.tileEnter] <;>
    repeat' (first | with_reducible rfl | with_reducible assumption | with_reducible refine ite_kept ?_ ?_ | with_reducible refine ite_eq_of ?_ ?_ | split | simp only [↓apply_ite State.kept, ite_self, ↓State.kept_mk, State.kept_eta, ↓apply_ite Prod.fst, ↓apply_ite Prod.snd, ↓State.brokenBeat_kept, ↓State.denied_kept, ↓State.note_kept, ↓State.outcome_kept, ↓State.portEvent_kept, ↓State.reqFault_kept, ↓State.setTile_kept, ↓State.tileOpen_kept, ↓State.tileRetry_kept, ↓State.tileRsp_kept, ↓State.tileSay_kept])

theorem State.tileEnter_kept' {s : State} {port op : Nat} {r : TpReq} {t₁} {x₁} (hc : State.tileEnter s port op r = (t₁, x₁)) :
    t₁.kept = s.kept := by
  have e := State.tileEnter_kept s port op r
  rw [hc] at e
  exact e

theorem State.holdReq_kept (s : State) (port tag tc sl : Nat) (cmd : Instr) (say : State → Status → Bool → State) (h_say : ∀ s a0 a1, (say s a0 a1).kept = s.kept) :
    (State.holdReq s port tag tc sl cmd say).kept = s.kept := by
  simp only [State.holdReq] <;>
    repeat' (first | with_reducible rfl | with_reducible assumption | with_reducible refine ite_kept ?_ ?_ | with_reducible refine ite_eq_of ?_ ?_ | split | simp only [↓apply_ite State.kept, ite_self, ↓State.kept_mk, State.kept_eta, ↓State.note_kept, ↓State.onReq_kept, ↓State.outcome_kept, ↓State.retryNote_kept, h_say])

theorem State.tileGate_kept (s : State) (port : Nat) (r : TpReq) (cmd : Instr) (b : Bound) (line : Option Nat) :
    (State.tileGate s port r cmd b line).1.kept = s.kept := by
  simp only [State.tileGate] <;>
    repeat' (first | with_reducible rfl | with_reducible assumption | with_reducible refine (State.holdReq_kept _ _ _ _ _ _ _ (fun s a0 a1 => ?_)).trans ?_ | with_reducible refine ite_kept ?_ ?_ | with_reducible refine ite_eq_of ?_ ?_ | split | simp only [↓apply_ite State.kept, ite_self, ↓State.kept_mk, State.kept_eta, implies_true, ↓apply_ite Prod.fst, ↓apply_ite Prod.snd, ↓State.holdReq_kept, ↓State.outcome_kept, ↓State.tileRsp_kept, ↓State.tileSay_kept])

theorem State.tileGate_kept' {s : State} {port : Nat} {r : TpReq} {cmd : Instr} {b : Bound} {line : Option Nat} {t₁} {x₁} (hc : State.tileGate s port r cmd b line = (t₁, x₁)) :
    t₁.kept = s.kept := by
  have e := State.tileGate_kept s port r cmd b line
  rw [hc] at e
  exact e

theorem State.beyond_kept (s : State) (port tag : Nat) (bad : Bool) (b : Bound) (tc a op sub kind count : Nat) (len : Nat) (data : Line) (be : BitVec 64) :
    (State.beyond s port tag bad b tc a op sub kind count len data be).kept = s.kept := by
  simp only [State.beyond] <;>
    repeat' (first | with_reducible rfl | with_reducible assumption | with_reducible refine (State.newXid_kept' (by assumption)).trans ?_ | with_reducible refine (State.sendMsg_kept' (by assumption)).trans ?_ | with_reducible refine (State.sendMsg_kept' (of_ite_none (by assumption))).trans ?_ | with_reducible refine (State.sendMsg_kept' (of_ite_none' (by assumption))).trans ?_ | with_reducible refine (kept_of_eq (by assumption)).trans ?_ | with_reducible refine (kept_of_eq2 (by assumption)).trans ?_ | with_reducible refine ite_kept ?_ ?_ | with_reducible refine ite_eq_of ?_ ?_ | split | simp only [↓apply_ite State.kept, ite_self, ↓State.kept_mk, State.kept_eta, ↓apply_ite Prod.fst, ↓apply_ite Prod.snd, ↓State.count_kept, ↓State.denied_kept, ↓State.newXid_kept, ↓State.tileRetry_kept, ↓State.tileRsp_kept])

theorem State.serveRead_kept (s : State) (port : Nat) (op : TOp) (r : TpReq) (b : Bound) (held : Bool) :
    (State.serveRead s port op r b held).kept = s.kept := by
  simp only [State.serveRead] <;>
    repeat' (first | with_reducible rfl | with_reducible assumption | with_reducible refine ite_kept ?_ ?_ | with_reducible refine ite_eq_of ?_ ?_ | split | simp only [↓apply_ite State.kept, ite_self, ↓State.kept_mk, State.kept_eta, ↓State.accept_kept, ↓State.beyond_kept, ↓State.denied_kept, ↓State.tileRsp_kept])

theorem State.serveSeq_kept (s : State) (port : Nat) (r : TpReq) (b : Bound) (held : Bool) :
    (State.serveSeq s port r b held).kept = s.kept := by
  simp only [State.serveSeq] <;>
    repeat' (first | with_reducible rfl | with_reducible assumption | with_reducible refine ite_kept ?_ ?_ | with_reducible refine ite_eq_of ?_ ?_ | split | simp only [↓apply_ite State.kept, ite_self, ↓State.kept_mk, State.kept_eta, ↓State.seqAsk_kept])

theorem State.serveWrite_kept (s : State) (port : Nat) (r : TpReq) (b : Bound) (held : Bool) :
    (State.serveWrite s port r b held).kept = s.kept := by
  simp only [State.serveWrite] <;>
    repeat' (first | with_reducible rfl | with_reducible assumption | with_reducible refine ite_kept ?_ ?_ | with_reducible refine ite_eq_of ?_ ?_ | split | simp only [↓apply_ite State.kept, ite_self, ↓State.kept_mk, State.kept_eta, ↓State.accept_kept, ↓State.beyond_kept, ↓State.tileRetry_kept])

theorem State.serveAtomic_kept (s : State) (port : Nat) (op : TOp) (r : TpReq) (b : Bound) (held : Bool) :
    (State.serveAtomic s port op r b held).kept = s.kept := by
  simp only [State.serveAtomic] <;>
    repeat' (first | with_reducible rfl | with_reducible assumption | with_reducible refine ite_kept ?_ ?_ | with_reducible refine ite_eq_of ?_ ?_ | split | simp only [↓apply_ite State.kept, ite_self, ↓State.kept_mk, State.kept_eta, ↓State.accept_kept, ↓State.denied_kept, ↓State.tileRsp_kept])

theorem State.tileReq_kept (s : State) (port op : Nat) (r : TpReq) (cmd : Instr) (line : State → Bound → Option Nat) (serve : State → Bound → State) (h_serve : ∀ s a0, (serve s a0).kept = s.kept) :
    (State.tileReq s port op r cmd line serve).kept = s.kept := by
  simp only [State.tileReq] <;>
    repeat' (first | with_reducible rfl | with_reducible assumption | with_reducible refine (State.tileEnter_kept' (by assumption)).trans ?_ | with_reducible refine (State.tileGate_kept' (by assumption)).trans ?_ | with_reducible refine (kept_of_eq (by assumption)).trans ?_ | with_reducible refine (kept_of_eq2 (by assumption)).trans ?_ | with_reducible refine ite_kept ?_ ?_ | with_reducible refine ite_eq_of ?_ ?_ | split | simp only [↓apply_ite State.kept, ite_self, ↓State.kept_mk, State.kept_eta, ↓apply_ite Prod.fst, ↓apply_ite Prod.snd, ↓State.tileEnter_kept, ↓State.tileGate_kept, h_serve])

theorem State.evictGo_kept (s : State) (t : Txn) (asked : Nat) :
    (State.evictGo s t asked).kept = s.kept := by
  simp only [State.evictGo] <;>
    repeat' (first | with_reducible rfl | with_reducible assumption | with_reducible refine ite_kept ?_ ?_ | with_reducible refine ite_eq_of ?_ ?_ | split | simp only [↓apply_ite State.kept, ite_self, ↓State.kept_mk, State.kept_eta, ↓State.accept_kept, ↓State.outcome_kept])

theorem State.evictDirtyBeat_kept (s : State) (port : Nat) (r : TpReq) :
    (State.evictDirtyBeat s port r).kept = s.kept := by
  simp only [State.evictDirtyBeat] <;>
    repeat' (first | with_reducible rfl | with_reducible assumption | with_reducible refine ite_kept ?_ ?_ | with_reducible refine ite_eq_of ?_ ?_ | split | simp only [↓apply_ite State.kept, ite_self, ↓State.kept_mk, State.kept_eta, ↓State.brokenBeat_kept, ↓State.denied_kept, ↓State.evictGo_kept, ↓State.note_kept, ↓State.portEvent_kept, ↓State.reqFault_kept, ↓State.setTile_kept, ↓State.tileOpen_kept, ↓State.tileRsp_kept, ↓State.tileSay_kept])

theorem State.evictCleanReq_kept (s : State) (port : Nat) (r : TpReq) :
    (State.evictCleanReq s port r).kept = s.kept := by
  simp only [State.evictCleanReq] <;>
    repeat' (first | with_reducible rfl | with_reducible assumption | with_reducible refine (State.tileEnter_kept' (by assumption)).trans ?_ | with_reducible refine (kept_of_eq (by assumption)).trans ?_ | with_reducible refine (kept_of_eq2 (by assumption)).trans ?_ | with_reducible refine ite_kept ?_ ?_ | with_reducible refine ite_eq_of ?_ ?_ | split | simp only [↓apply_ite State.kept, ite_self, ↓State.kept_mk, State.kept_eta, ↓apply_ite Prod.fst, ↓apply_ite Prod.snd, ↓State.evictGo_kept, ↓State.tileEnter_kept])

theorem State.flushDoneReq_kept (s : State) (port : Nat) (r : TpReq) :
    (State.flushDoneReq s port r).kept = s.kept := by
  simp only [State.flushDoneReq] <;>
    repeat' (first | with_reducible rfl | with_reducible assumption | with_reducible refine (State.tileEnter_kept' (by assumption)).trans ?_ | with_reducible refine (kept_of_eq (by assumption)).trans ?_ | with_reducible refine (kept_of_eq2 (by assumption)).trans ?_ | with_reducible refine ite_kept ?_ ?_ | with_reducible refine ite_eq_of ?_ ?_ | split | simp only [↓apply_ite State.kept, ite_self, ↓State.kept_mk, State.kept_eta, ↓apply_ite Prod.fst, ↓apply_ite Prod.snd, ↓State.flushPort_kept, ↓State.tileEnter_kept, ↓State.tileRsp_kept])

theorem State.mgRsp_kept (s : State) (st : Status) (d : Reg) :
    (State.mgRsp s st d).kept = s.kept := by
  simp only [State.mgRsp] <;>
    repeat' (first | with_reducible rfl | with_reducible assumption | with_reducible refine ite_kept ?_ ?_ | with_reducible refine ite_eq_of ?_ ?_ | split | simp only [↓apply_ite State.kept, ite_self, ↓State.kept_mk, State.kept_eta, ↓State.emit_kept])

theorem State.mgWrite_kept (s : State) (free : Bool) (f : State → State) (h_f : ∀ s, (f s).kept = s.kept) :
    (State.mgWrite s free f).kept = s.kept := by
  simp only [State.mgWrite] <;>
    repeat' (first | with_reducible rfl | with_reducible assumption | with_reducible refine ite_kept ?_ ?_ | with_reducible refine ite_eq_of ?_ ?_ | split | simp only [↓apply_ite State.kept, ite_self, ↓State.kept_mk, State.kept_eta, ↓State.mgRsp_kept, h_f])

end Sys2Proof.Machine
end

