-- ==== Sys2Proof/Laws/KeptJobs.lean ====
section
/-! SUPPORT. The operations of windows, jobs, sequences, contexts, keys, ownership and the host port keep `State.kept`. -/

set_option maxRecDepth 4000
set_option linter.all false

namespace Sys2Proof.Machine

theorem State.makeShadowRoom_kept (s : State) (x : Window) (places : List (Nat × Nat)) :
    (State.makeShadowRoom s x places).kept = s.kept := by
  simp only [State.makeShadowRoom] <;>
    repeat' (first | with_reducible rfl | with_reducible assumption | with_reducible refine (foldl_fst_kept _ (fun s a => ?_) _ _).trans ?_ | with_reducible refine (foldl_kept _ (fun s a => ?_) _ _).trans ?_ | with_reducible refine ite_kept ?_ ?_ | with_reducible refine ite_eq_of ?_ ?_ | split | simp only [↓apply_ite State.kept, ite_self, ↓State.kept_mk, State.kept_eta, implies_true, ↓foldl_kept, ↓State.evictWay_kept])

theorem State.recallRange_kept (s : State) (lo hi sl : Nat) :
    (State.recallRange s lo hi sl).1.kept = s.kept := by
  simp only [State.recallRange] <;>
    repeat' (first | with_reducible rfl | with_reducible assumption | with_reducible refine (foldl_fst_kept _ (fun s a => ?_) _ _).trans ?_ | with_reducible refine (foldl_kept _ (fun s a => ?_) _ _).trans ?_ | with_reducible refine ite_kept ?_ ?_ | with_reducible refine ite_eq_of ?_ ?_ | split | simp only [↓apply_ite State.kept, ite_self, ↓State.kept_mk, State.kept_eta, implies_true, ↓foldl_kept, ↓apply_ite Prod.fst, ↓apply_ite Prod.snd, ↓State.enter_kept, ↓State.start_kept])

theorem State.recallRange_kept' {s : State} {lo hi sl : Nat} {t₁} {x₁} (hc : State.recallRange s lo hi sl = (t₁, x₁)) :
    t₁.kept = s.kept := by
  have e := State.recallRange_kept s lo hi sl
  rw [hc] at e
  exact e

theorem State.windowOpen_kept (s : State) (port : Nat) (r : TpReq) (b : Bound) (c : RwCtl) :
    (State.windowOpen s port r b c).kept = s.kept := by
  simp only [State.windowOpen] <;>
    repeat' (first | with_reducible rfl | with_reducible assumption | with_reducible refine (State.recallRange_kept' (by assumption)).trans ?_ | with_reducible refine (kept_of_eq (by assumption)).trans ?_ | with_reducible refine (kept_of_eq2 (by assumption)).trans ?_ | with_reducible refine ite_kept ?_ ?_ | with_reducible refine ite_eq_of ?_ ?_ | split | simp only [↓apply_ite State.kept, ite_self, ↓State.kept_mk, State.kept_eta, ↓apply_ite Prod.fst, ↓apply_ite Prod.snd, ↓State.armFence_kept, ↓State.count_kept, ↓State.denied_kept, ↓State.makeShadowRoom_kept, ↓State.recallRange_kept, ↓State.setWin_kept, ↓State.settle_kept, ↓State.tileRetry_kept, ↓State.tileRsp_kept])

theorem State.windowClose_kept (s : State) (port : Nat) (r : TpReq) (b : Bound) :
    (State.windowClose s port r b).kept = s.kept := by
  simp only [State.windowClose] <;>
    repeat' (first | with_reducible rfl | with_reducible assumption | with_reducible refine ite_kept ?_ ?_ | with_reducible refine ite_eq_of ?_ ?_ | split | simp only [↓apply_ite State.kept, ite_self, ↓State.kept_mk, State.kept_eta, ↓State.closeWindow_kept, ↓State.denied_kept, ↓State.tileRsp_kept])

theorem State.contribute_kept (s : State) (a sl : Nat) (fn : Option Nat) (merged : Option (Bool × List (BitVec 32))) (sec : Sector) (cnt : Nat) (bad : Bool) :
    (State.contribute s a sl fn merged sec cnt bad).1.kept = s.kept := by
  simp only [State.contribute] <;>
    repeat' (first | with_reducible rfl | with_reducible assumption | with_reducible refine ite_kept ?_ ?_ | with_reducible refine ite_eq_of ?_ ?_ | split | simp only [↓apply_ite State.kept, ite_self, ↓State.kept_mk, State.kept_eta, ↓apply_ite Prod.fst, ↓apply_ite Prod.snd, ↓State.closeWindow_kept, ↓State.denied_kept, ↓State.logDirty_kept, ↓State.note_kept, ↓State.retryNote_kept, ↓State.setWin_kept])

theorem State.contribute_kept' {s : State} {a sl : Nat} {fn : Option Nat} {merged : Option (Bool × List (BitVec 32))} {sec : Sector} {cnt : Nat} {bad : Bool} {t₁} {x₁} (hc : State.contribute s a sl fn merged sec cnt bad = (t₁, x₁)) :
    t₁.kept = s.kept := by
  have e := State.contribute_kept s a sl fn merged sec cnt bad
  rw [hc] at e
  exact e

theorem State.tileContrib_kept (s : State) (port : Nat) (r : TpReq) (b : Bound) :
    (State.tileContrib s port r b).kept = s.kept := by
  simp only [State.tileContrib] <;>
    repeat' (first | with_reducible rfl | with_reducible assumption | with_reducible refine (State.contribute_kept' (by assumption)).trans ?_ | with_reducible refine (State.newXid_kept' (by assumption)).trans ?_ | with_reducible refine (State.sendMsg_kept' (by assumption)).trans ?_ | with_reducible refine (State.sendMsg_kept' (of_ite_none (by assumption))).trans ?_ | with_reducible refine (State.sendMsg_kept' (of_ite_none' (by assumption))).trans ?_ | with_reducible refine (kept_of_eq (by assumption)).trans ?_ | with_reducible refine (kept_of_eq2 (by assumption)).trans ?_ | with_reducible refine ite_kept ?_ ?_ | with_reducible refine ite_eq_of ?_ ?_ | split | simp only [↓apply_ite State.kept, ite_self, ↓State.kept_mk, State.kept_eta, ↓apply_ite Prod.fst, ↓apply_ite Prod.snd, ↓State.beyond_kept, ↓State.contribute_kept, ↓State.count_kept, ↓State.newXid_kept, ↓State.outcome_kept, ↓State.retryNote_kept, ↓State.tileRetry_kept, ↓State.tileRsp_kept, ↓State.use_kept, ↓State.useFree_kept])

theorem State.serveReduce_kept (s : State) (port : Nat) (r : TpReq) (b : Bound) :
    (State.serveReduce s port r b).kept = s.kept := by
  simp only [State.serveReduce] <;>
    repeat' (first | with_reducible rfl | with_reducible assumption | with_reducible refine ite_kept ?_ ?_ | with_reducible refine ite_eq_of ?_ ?_ | split | simp only [↓apply_ite State.kept, ite_self, ↓State.kept_mk, State.kept_eta, ↓State.denied_kept, ↓State.tileContrib_kept, ↓State.tileRsp_kept, ↓State.windowClose_kept, ↓State.windowOpen_kept])

theorem State.internalWrite_kept (s : State) (line d be : Nat) (o : Origin) :
    (State.internalWrite s line d be o).1.kept = s.kept := by
  simp only [State.internalWrite] <;>
    repeat' (first | with_reducible rfl | with_reducible assumption | with_reducible refine ite_kept ?_ ?_ | with_reducible refine ite_eq_of ?_ ?_ | split | simp only [↓apply_ite State.kept, ite_self, ↓State.kept_mk, State.kept_eta, ↓apply_ite Prod.fst, ↓apply_ite Prod.snd, ↓State.accept_kept, ↓State.start_kept])

theorem State.internalWrite_kept' {s : State} {line d be : Nat} {o : Origin} {t₁} {x₁} (hc : State.internalWrite s line d be o = (t₁, x₁)) :
    t₁.kept = s.kept := by
  have e := State.internalWrite_kept s line d be o
  rw [hc] at e
  exact e

theorem State.windowConvert_kept (s : State) (w : Nat) :
    (State.windowConvert s w).kept = s.kept := by
  simp only [State.windowConvert] <;>
    repeat' (first | with_reducible rfl | with_reducible assumption | with_reducible refine (State.internalWrite_kept' (by assumption)).trans ?_ | with_reducible refine (foldl_fst_kept _ (fun s a => ?_) _ _).trans ?_ | with_reducible refine (foldl_kept _ (fun s a => ?_) _ _).trans ?_ | with_reducible refine (kept_of_eq (by assumption)).trans ?_ | with_reducible refine (kept_of_eq2 (by assumption)).trans ?_ | with_reducible refine ite_kept ?_ ?_ | with_reducible refine ite_eq_of ?_ ?_ | split | simp only [↓apply_ite State.kept, ite_self, ↓State.kept_mk, State.kept_eta, implies_true, ↓foldl_kept, ↓apply_ite Prod.fst, ↓apply_ite Prod.snd, ↓State.internalWrite_kept, ↓State.setWin_kept])

theorem State.windowRedo_kept (s : State) (w : Nat) :
    (State.windowRedo s w).kept = s.kept := by
  simp only [State.windowRedo] <;>
    repeat' (first | with_reducible rfl | with_reducible assumption | with_reducible refine (State.internalWrite_kept' (by assumption)).trans ?_ | with_reducible refine (foldl_fst_kept _ (fun s a => ?_) _ _).trans ?_ | with_reducible refine (foldl_kept _ (fun s a => ?_) _ _).trans ?_ | with_reducible refine (kept_of_eq (by assumption)).trans ?_ | with_reducible refine (kept_of_eq2 (by assumption)).trans ?_ | with_reducible refine ite_kept ?_ ?_ | with_reducible refine ite_eq_of ?_ ?_ | split | simp only [↓apply_ite State.kept, ite_self, ↓State.kept_mk, State.kept_eta, implies_true, ↓foldl_kept, ↓apply_ite Prod.fst, ↓apply_ite Prod.snd, ↓State.internalWrite_kept, ↓State.setWin_kept])

theorem State.windowComplete_kept (s : State) (w : Nat) :
    (State.windowComplete s w).kept = s.kept := by
  simp only [State.windowComplete] <;>
    repeat' (first | with_reducible rfl | with_reducible assumption | with_reducible refine ite_kept ?_ ?_ | with_reducible refine ite_eq_of ?_ ?_ | split | simp only [↓apply_ite State.kept, ite_self, ↓State.kept_mk, State.kept_eta, ↓State.fenceOk_kept, ↓State.setWin_kept, ↓State.windowRedo_kept])

theorem State.windowOpened_kept (s : State) (w : Nat) :
    (State.windowOpened s w).kept = s.kept := by
  simp only [State.windowOpened] <;>
    repeat' (first | with_reducible rfl | with_reducible assumption | with_reducible refine (foldl_fst_kept _ (fun s a => ?_) _ _).trans ?_ | with_reducible refine (foldl_kept _ (fun s a => ?_) _ _).trans ?_ | with_reducible refine ite_kept ?_ ?_ | with_reducible refine ite_eq_of ?_ ?_ | split | simp only [↓apply_ite State.kept, ite_self, ↓State.kept_mk, State.kept_eta, implies_true, ↓foldl_kept, ↓State.evictWay_kept, ↓State.setWin_kept, ↓State.tileRsp_kept])

theorem State.mergeForward_kept (s : State) (die i : Nat) :
    (State.mergeForward s die i).kept = s.kept := by
  simp only [State.mergeForward] <;>
    repeat' (first | with_reducible rfl | with_reducible assumption | with_reducible refine (State.contribute_kept' (by assumption)).trans ?_ | with_reducible refine (foldl_fst_kept _ (fun s a => ?_) _ _).trans ?_ | with_reducible refine (foldl_kept _ (fun s a => ?_) _ _).trans ?_ | with_reducible refine (kept_of_eq (by assumption)).trans ?_ | with_reducible refine (kept_of_eq2 (by assumption)).trans ?_ | with_reducible refine ite_kept ?_ ?_ | with_reducible refine ite_eq_of ?_ ?_ | split | simp only [↓apply_ite State.kept, ite_self, ↓State.kept_mk, State.kept_eta, implies_true, ↓foldl_kept, ↓apply_ite Prod.fst, ↓apply_ite Prod.snd, ↓State.contribute_kept, ↓State.count_kept, ↓State.sendOr_kept])

theorem State.reduceWr_kept (s : State) (port : Nat) (r : TpReq) (cmd : Instr) :
    (State.reduceWr s port r cmd).kept = s.kept := by
  simp only [State.reduceWr] <;>
    repeat' (first | with_reducible rfl | with_reducible assumption | with_reducible refine (State.tileReq_kept _ _ _ _ _ _ _ (fun s a0 => ?_)).trans ?_ | with_reducible refine ite_kept ?_ ?_ | with_reducible refine ite_eq_of ?_ ?_ | split | simp only [↓apply_ite State.kept, ite_self, ↓State.kept_mk, State.kept_eta, implies_true, ↓State.serveReduce_kept, ↓State.tileReq_kept])

theorem State.submitJob_kept (s : State) (x port : Nat) (d : List Reg) :
    (State.submitJob s x port d).1.kept = s.kept := by
  simp only [State.submitJob] <;>
    repeat' (first | with_reducible rfl | with_reducible assumption | with_reducible refine (State.fresh_kept' (by assumption)).trans ?_ | with_reducible refine (kept_of_eq (by assumption)).trans ?_ | with_reducible refine (kept_of_eq2 (by assumption)).trans ?_ | with_reducible refine ite_kept ?_ ?_ | with_reducible refine ite_eq_of ?_ ?_ | split | simp only [↓apply_ite State.kept, ite_self, ↓State.kept_mk, State.kept_eta, ↓apply_ite Prod.fst, ↓apply_ite Prod.snd, ↓State.armFence_kept, ↓State.fresh_kept, ↓State.outcome_kept])

theorem State.submitJob_kept' {s : State} {x port : Nat} {d : List Reg} {t₁} {x₁} (hc : State.submitJob s x port d = (t₁, x₁)) :
    t₁.kept = s.kept := by
  have e := State.submitJob_kept s x port d
  rw [hc] at e
  exact e

theorem State.jobStart_kept (s : State) (id : Nat) :
    (State.jobStart s id).kept = s.kept := by
  simp only [State.jobStart] <;>
    repeat' (first | with_reducible rfl | with_reducible assumption | with_reducible refine ite_kept ?_ ?_ | with_reducible refine ite_eq_of ?_ ?_ | split | simp only [↓apply_ite State.kept, ite_self, ↓State.kept_mk, State.kept_eta, ↓State.note_kept, ↓State.setJob_kept])

theorem State.jobStop_kept (s : State) (id detail : Nat) :
    (State.jobStop s id detail).kept = s.kept := by
  simp only [State.jobStop] <;>
    repeat' (first | with_reducible rfl | with_reducible assumption | with_reducible refine ite_kept ?_ ?_ | with_reducible refine ite_eq_of ?_ ?_ | split | simp only [↓apply_ite State.kept, ite_self, ↓State.kept_mk, State.kept_eta, ↓State.setJob_kept])

theorem State.jobReads_kept (s : State) (j : Job) (lines : List Nat) (alloc : Bool) :
    (State.jobReads s j lines alloc).kept = s.kept := by
  simp only [State.jobReads] <;>
    repeat' (first | with_reducible rfl | with_reducible assumption | with_reducible refine (foldl_fst_kept _ (fun s a => ?_) _ _).trans ?_ | with_reducible refine (foldl_kept _ (fun s a => ?_) _ _).trans ?_ | with_reducible refine ite_kept ?_ ?_ | with_reducible refine ite_eq_of ?_ ?_ | split | simp only [↓apply_ite State.kept, ite_self, ↓State.kept_mk, State.kept_eta, implies_true, ↓foldl_kept, ↓State.accept_kept, ↓State.setJob_kept, ↓State.start_kept])

theorem State.jobPause_kept (s : State) (j : Job) :
    (State.jobPause s j).kept = s.kept := by
  simp only [State.jobPause] <;>
    repeat' (first | with_reducible rfl | with_reducible assumption | with_reducible refine ite_kept ?_ ?_ | with_reducible refine ite_eq_of ?_ ?_ | split | simp only [↓apply_ite State.kept, ite_self, ↓State.kept_mk, State.kept_eta, ↓State.setJob_kept])

theorem State.withReads_kept (s : State) (j : Job) (lines : List Nat) (alloc : Bool) (k : State → Job → State) (h_k : ∀ s a0, (k s a0).kept = s.kept) :
    (State.withReads s j lines alloc k).kept = s.kept := by
  simp only [State.withReads] <;>
    repeat' (first | with_reducible rfl | with_reducible assumption | with_reducible refine ite_kept ?_ ?_ | with_reducible refine ite_eq_of ?_ ?_ | split | simp only [↓apply_ite State.kept, ite_self, ↓State.kept_mk, State.kept_eta, ↓State.jobPause_kept, ↓State.jobReads_kept, ↓State.jobStop_kept, h_k])

theorem State.jobWrite_kept (s : State) (id line : Nat) (d : Line) (be : BitVec 128) (alloc internal mark : Bool) :
    (State.jobWrite s id line d be alloc internal mark).kept = s.kept := by
  simp only [State.jobWrite] <;>
    repeat' (first | with_reducible rfl | with_reducible assumption | with_reducible refine ite_kept ?_ ?_ | with_reducible refine ite_eq_of ?_ ?_ | split | simp only [↓apply_ite State.kept, ite_self, ↓State.kept_mk, State.kept_eta, ↓State.accept_kept, ↓State.jobStop_kept, ↓State.setJob_kept, ↓State.start_kept])

theorem State.jobPut_kept (s : State) (id a n v : Nat) (alloc internal mark : Bool) :
    (State.jobPut s id a n v alloc internal mark).kept = s.kept := by
  simp only [State.jobPut] <;>
    repeat' (first | with_reducible rfl | with_reducible assumption | with_reducible refine (foldl_fst_kept _ (fun s a => ?_) _ _).trans ?_ | with_reducible refine (foldl_kept _ (fun s a => ?_) _ _).trans ?_ | with_reducible refine ite_kept ?_ ?_ | with_reducible refine ite_eq_of ?_ ?_ | split | simp only [↓apply_ite State.kept, ite_self, ↓State.kept_mk, State.kept_eta, implies_true, ↓foldl_kept, ↓State.jobWrite_kept])

theorem State.jobNext_kept (s : State) (id : Nat) (f : Job → Job) :
    (State.jobNext s id f).kept = s.kept := by
  simp only [State.jobNext] <;>
    repeat' (first | with_reducible rfl | with_reducible assumption | with_reducible refine ite_kept ?_ ?_ | with_reducible refine ite_eq_of ?_ ?_ | split | simp only [↓apply_ite State.kept, ite_self, ↓State.kept_mk, State.kept_eta, ↓State.setJob_kept])

theorem State.pieceCopy_kept (s : State) (j : Job) :
    (State.pieceCopy s j).kept = s.kept := by
  simp only [State.pieceCopy] <;>
    repeat' (first | with_reducible rfl | with_reducible assumption | with_reducible refine (State.withReads_kept _ _ _ _ _ (fun s a0 => ?_)).trans ?_ | with_reducible refine ite_kept ?_ ?_ | with_reducible refine ite_eq_of ?_ ?_ | split | simp only [↓apply_ite State.kept, ite_self, ↓State.kept_mk, State.kept_eta, implies_true, ↓State.jobNext_kept, ↓State.jobPut_kept, ↓State.jobStop_kept, ↓State.useFree_kept, ↓State.withReads_kept])

theorem State.pieceZero_kept (s : State) (j : Job) :
    (State.pieceZero s j).kept = s.kept := by
  simp only [State.pieceZero] <;>
    repeat' (first | with_reducible rfl | with_reducible assumption | with_reducible refine ite_kept ?_ ?_ | with_reducible refine ite_eq_of ?_ ?_ | split | simp only [↓apply_ite State.kept, ite_self, ↓State.kept_mk, State.kept_eta, ↓State.jobNext_kept, ↓State.jobPut_kept, ↓State.jobStop_kept])

theorem State.pieceGather_kept (s : State) (j : Job) :
    (State.pieceGather s j).kept = s.kept := by
  simp only [State.pieceGather] <;>
    repeat' (first | with_reducible rfl | with_reducible assumption | with_reducible refine (State.withReads_kept _ _ _ _ _ (fun s a0 => ?_)).trans ?_ | with_reducible refine ite_kept ?_ ?_ | with_reducible refine ite_eq_of ?_ ?_ | split | simp only [↓apply_ite State.kept, ite_self, ↓State.kept_mk, State.kept_eta, implies_true, ↓State.jobNext_kept, ↓State.jobPut_kept, ↓State.jobStop_kept, ↓State.withReads_kept])

theorem State.pieceScatter_kept (s : State) (j : Job) :
    (State.pieceScatter s j).kept = s.kept := by
  simp only [State.pieceScatter] <;>
    repeat' (first | with_reducible rfl | with_reducible assumption | with_reducible refine (State.contribute_kept' (by assumption)).trans ?_ | with_reducible refine (State.withReads_kept _ _ _ _ _ (fun s a0 => ?_)).trans ?_ | with_reducible refine (kept_of_eq (by assumption)).trans ?_ | with_reducible refine (kept_of_eq2 (by assumption)).trans ?_ | with_reducible refine ite_kept ?_ ?_ | with_reducible refine ite_eq_of ?_ ?_ | split | simp only [↓apply_ite State.kept, ite_self, ↓State.kept_mk, State.kept_eta, implies_true, ↓apply_ite Prod.fst, ↓apply_ite Prod.snd, ↓State.contribute_kept, ↓State.jobNext_kept, ↓State.jobPause_kept, ↓State.jobStop_kept, ↓State.withReads_kept])

theorem State.pieceHarvest_kept (s : State) (j : Job) :
    (State.pieceHarvest s j).kept = s.kept := by
  simp only [State.pieceHarvest] <;>
    repeat' (first | with_reducible rfl | with_reducible assumption | with_reducible refine ite_kept ?_ ?_ | with_reducible refine ite_eq_of ?_ ?_ | split | simp only [↓apply_ite State.kept, ite_self, ↓State.kept_mk, State.kept_eta, ↓State.jobNext_kept, ↓State.jobPut_kept, ↓State.jobStop_kept])

theorem State.pieceScrub_kept (s : State) (j : Job) :
    (State.pieceScrub s j).kept = s.kept := by
  simp only [State.pieceScrub] <;>
    repeat' (first | with_reducible rfl | with_reducible assumption | with_reducible refine (State.fresh_kept' (by assumption)).trans ?_ | with_reducible refine (State.memRead_kept' (by assumption)).trans ?_ | with_reducible refine (foldl_fst_kept _ (fun s a => ?_) _ _).trans ?_ | with_reducible refine (foldl_kept _ (fun s a => ?_) _ _).trans ?_ | with_reducible refine (kept_of_eq (by assumption)).trans ?_ | with_reducible refine (kept_of_eq2 (by assumption)).trans ?_ | with_reducible refine ite_kept ?_ ?_ | with_reducible refine ite_eq_of ?_ ?_ | split | simp only [↓apply_ite State.kept, ite_self, ↓State.kept_mk, State.kept_eta, implies_true, ↓foldl_kept, ↓apply_ite Prod.fst, ↓apply_ite Prod.snd, ↓State.denied_kept, ↓State.fresh_kept, ↓State.guardBegin_kept, ↓State.jobNext_kept, ↓State.jobStop_kept, ↓State.memRead_kept])

theorem State.pieceTranscode_kept (s : State) (j : Job) :
    (State.pieceTranscode s j).kept = s.kept := by
  simp only [State.pieceTranscode] <;>
    repeat' (first | with_reducible rfl | with_reducible assumption | with_reducible refine (State.withReads_kept _ _ _ _ _ (fun s a0 => ?_)).trans ?_ | with_reducible refine ite_kept ?_ ?_ | with_reducible refine ite_eq_of ?_ ?_ | split | simp only [↓apply_ite State.kept, ite_self, ↓State.kept_mk, State.kept_eta, implies_true, ↓State.jobNext_kept, ↓State.jobPut_kept, ↓State.jobStop_kept, ↓State.withReads_kept])

theorem State.pieceEmbed_kept (s : State) (j : Job) :
    (State.pieceEmbed s j).kept = s.kept := by
  simp only [State.pieceEmbed] <;>
    repeat' (first | with_reducible rfl | with_reducible assumption | with_reducible refine (State.withReads_kept _ _ _ _ _ (fun s a0 => ?_)).trans ?_ | with_reducible refine ite_kept ?_ ?_ | with_reducible refine ite_eq_of ?_ ?_ | split | simp only [↓apply_ite State.kept, ite_self, ↓State.kept_mk, State.kept_eta, implies_true, ↓State.jobNext_kept, ↓State.jobPut_kept, ↓State.jobStop_kept, ↓State.withReads_kept])

theorem State.allocPage_kept' {s : State} {sl : Nat} {t₁} {x₁} (hc : State.allocPage s sl = some (t₁, x₁)) :
    t₁.kept = s.kept := by
  unfold State.allocPage at hc
  try dsimp only at hc
  repeat' (first | with_reducible rfl | with_reducible assumption | with_reducible refine ite_kept ?_ ?_ | with_reducible refine ite_eq_of ?_ ?_ | (cases hc) | split at hc | simp only [↓apply_ite State.kept, ite_self, ↓State.kept_mk, State.kept_eta, ↓apply_ite Prod.fst, ↓apply_ite Prod.snd, ↓State.setSeqw_kept] | simp only [Option.some.injEq, Prod.mk.injEq, reduceCtorEq] at hc)

theorem State.dropPage_kept (s : State) (sl p : Nat) :
    (State.dropPage s sl p).1.kept = s.kept := by
  simp only [State.dropPage] <;>
    repeat' (first | with_reducible rfl | with_reducible assumption | with_reducible refine ite_kept ?_ ?_ | with_reducible refine ite_eq_of ?_ ?_ | split | simp only [↓apply_ite State.kept, ite_self, ↓State.kept_mk, State.kept_eta, ↓apply_ite Prod.fst, ↓apply_ite Prod.snd, ↓State.setSeqw_kept])

theorem State.dropPage_kept' {s : State} {sl p : Nat} {t₁} {x₁} (hc : State.dropPage s sl p = (t₁, x₁)) :
    t₁.kept = s.kept := by
  have e := State.dropPage_kept s sl p
  rw [hc] at e
  exact e

theorem State.sharePage_kept (s : State) (sl p : Nat) :
    (State.sharePage s sl p).kept = s.kept := by
  simp only [State.sharePage] <;>
    repeat' (first | with_reducible rfl | with_reducible assumption | with_reducible refine ite_kept ?_ ?_ | with_reducible refine ite_eq_of ?_ ?_ | split | simp only [↓apply_ite State.kept, ite_self, ↓State.kept_mk, State.kept_eta, ↓State.setSeqw_kept])

theorem State.setSeqEnt_kept (s : State) (sl q : Nat) (e : SeqEnt) :
    (State.setSeqEnt s sl q e).kept = s.kept := by
  simp only [State.setSeqEnt] <;>
    repeat' (first | with_reducible rfl | with_reducible assumption | with_reducible refine ite_kept ?_ ?_ | with_reducible refine ite_eq_of ?_ ?_ | split | simp only [↓apply_ite State.kept, ite_self, ↓State.kept_mk, State.kept_eta, ↓State.setSeqw_kept])

theorem State.setPageEnt_kept (s : State) (sl q p : Nat) (e : PageEnt) :
    (State.setPageEnt s sl q p e).kept = s.kept := by
  simp only [State.setPageEnt] <;>
    repeat' (first | with_reducible rfl | with_reducible assumption | with_reducible refine ite_kept ?_ ?_ | with_reducible refine ite_eq_of ?_ ?_ | split | simp only [↓apply_ite State.kept, ite_self, ↓State.kept_mk, State.kept_eta, ↓State.setSeqw_kept, ↓State.tlbDrop_kept])

theorem State.seqSaveFor_kept (s : State) (sl : Nat) (job : Option Nat) :
    (State.seqSaveFor s sl job).kept = s.kept := by
  simp only [State.seqSaveFor] <;>
    repeat' (first | with_reducible rfl | with_reducible assumption | with_reducible refine (State.internalWrite_kept' (by assumption)).trans ?_ | with_reducible refine (foldl_fst_kept _ (fun s a => ?_) _ _).trans ?_ | with_reducible refine (foldl_kept _ (fun s a => ?_) _ _).trans ?_ | with_reducible refine (kept_of_eq (by assumption)).trans ?_ | with_reducible refine (kept_of_eq2 (by assumption)).trans ?_ | with_reducible refine ite_kept ?_ ?_ | with_reducible refine ite_eq_of ?_ ?_ | split | simp only [↓apply_ite State.kept, ite_self, ↓State.kept_mk, State.kept_eta, implies_true, ↓foldl_kept, ↓apply_ite Prod.fst, ↓apply_ite Prod.snd, ↓State.internalWrite_kept, ↓State.jobPut_kept, ↓State.setSeqw_kept])

theorem State.seqSave_kept (s : State) (sl : Nat) :
    (State.seqSave s sl).kept = s.kept := by
  simp only [State.seqSave] <;>
    repeat' (first | with_reducible rfl | with_reducible assumption | with_reducible refine ite_kept ?_ ?_ | with_reducible refine ite_eq_of ?_ ?_ | split | simp only [↓apply_ite State.kept, ite_self, ↓State.kept_mk, State.kept_eta, ↓State.seqSaveFor_kept])

theorem State.tablePiece_kept (s : State) (sl : Nat) :
    (State.tablePiece s sl).kept = s.kept := by
  simp only [State.tablePiece] <;>
    repeat' (first | with_reducible rfl | with_reducible assumption | with_reducible refine (State.internalWrite_kept' (by assumption)).trans ?_ | with_reducible refine (foldl_fst_kept _ (fun s a => ?_) _ _).trans ?_ | with_reducible refine (foldl_kept _ (fun s a => ?_) _ _).trans ?_ | with_reducible refine (kept_of_eq (by assumption)).trans ?_ | with_reducible refine (kept_of_eq2 (by assumption)).trans ?_ | with_reducible refine ite_kept ?_ ?_ | with_reducible refine ite_eq_of ?_ ?_ | split | simp only [↓apply_ite State.kept, ite_self, ↓State.kept_mk, State.kept_eta, implies_true, ↓foldl_kept, ↓apply_ite Prod.fst, ↓apply_ite Prod.snd, ↓State.internalWrite_kept, ↓State.setSeqw_kept])

theorem State.takeSeq_kept' {s : State} {j : Job} {q : Nat} {t₁} (hc : State.takeSeq s j q = some t₁) :
    t₁.kept = s.kept := by
  unfold State.takeSeq at hc
  try dsimp only at hc
  repeat' (first | with_reducible rfl | with_reducible assumption | with_reducible refine ite_kept ?_ ?_ | with_reducible refine ite_eq_of ?_ ?_ | (cases hc) | split at hc | simp only [↓apply_ite State.kept, ite_self, ↓State.kept_mk, State.kept_eta, ↓State.setJob_kept, ↓State.setSeqEnt_kept] | simp only [Option.some.injEq, Prod.mk.injEq, reduceCtorEq] at hc)

theorem State.jobWait_kept (s : State) (j : Job) :
    (State.jobWait s j).kept = s.kept := by
  simp only [State.jobWait] <;>
    repeat' (first | with_reducible rfl | with_reducible assumption | with_reducible refine ite_kept ?_ ?_ | with_reducible refine ite_eq_of ?_ ?_ | split | simp only [↓apply_ite State.kept, ite_self, ↓State.kept_mk, State.kept_eta, ↓State.setJob_kept])

theorem State.seqStop_kept (s : State) (j : Job) (detail : Nat) :
    (State.seqStop s j detail).kept = s.kept := by
  simp only [State.seqStop] <;>
    repeat' (first | with_reducible rfl | with_reducible assumption | with_reducible refine (State.dropPage_kept' (by assumption)).trans ?_ | with_reducible refine (kept_of_eq (by assumption)).trans ?_ | with_reducible refine (kept_of_eq2 (by assumption)).trans ?_ | with_reducible refine ite_kept ?_ ?_ | with_reducible refine ite_eq_of ?_ ?_ | split | simp only [↓apply_ite State.kept, ite_self, ↓State.kept_mk, State.kept_eta, ↓apply_ite Prod.fst, ↓apply_ite Prod.snd, ↓State.dropPage_kept, ↓State.jobStop_kept, ↓State.setJob_kept])

theorem State.countMismatch_kept (s : State) (j : Job) :
    (State.countMismatch s j).kept = s.kept := by
  simp only [State.countMismatch] <;>
    repeat' (first | with_reducible rfl | with_reducible assumption | with_reducible refine ite_kept ?_ ?_ | with_reducible refine ite_eq_of ?_ ?_ | split | simp only [↓apply_ite State.kept, ite_self, ↓State.kept_mk, State.kept_eta, ↓State.raise_kept, ↓State.seqStop_kept])

theorem State.seqUnread_kept (s : State) (j : Job) (q : Nat) :
    (State.seqUnread s j q).kept = s.kept := by
  simp only [State.seqUnread] <;>
    repeat' (first | with_reducible rfl | with_reducible assumption | with_reducible refine ite_kept ?_ ?_ | with_reducible refine ite_eq_of ?_ ?_ | split | simp only [↓apply_ite State.kept, ite_self, ↓State.kept_mk, State.kept_eta, ↓State.raise_kept, ↓State.seqStop_kept])

theorem State.pieceAppend_kept (s : State) (j : Job) :
    (State.pieceAppend s j).kept = s.kept := by
  simp only [State.pieceAppend] <;>
    repeat' (first | with_reducible rfl | with_reducible assumption | with_reducible refine (State.allocPage_kept' (by assumption)).trans ?_ | with_reducible refine (State.allocPage_kept' (of_ite_none (by assumption))).trans ?_ | with_reducible refine (State.allocPage_kept' (of_ite_none' (by assumption))).trans ?_ | with_reducible refine (State.dropPage_kept' (by assumption)).trans ?_ | with_reducible refine (State.takeSeq_kept' (by assumption)).trans ?_ | with_reducible refine (State.takeSeq_kept' (of_ite_none (by assumption))).trans ?_ | with_reducible refine (State.takeSeq_kept' (of_ite_none' (by assumption))).trans ?_ | with_reducible refine (State.withReads_kept _ _ _ _ _ (fun s a0 => ?_)).trans ?_ | with_reducible refine (kept_of_eq (by assumption)).trans ?_ | with_reducible refine (kept_of_eq2 (by assumption)).trans ?_ | with_reducible refine ite_kept ?_ ?_ | with_reducible refine ite_eq_of ?_ ?_ | split | simp only [↓apply_ite State.kept, ite_self, ↓State.kept_mk, State.kept_eta, implies_true, ↓apply_ite Prod.fst, ↓apply_ite Prod.snd, ↓State.countMismatch_kept, ↓State.dropPage_kept, ↓State.jobNext_kept, ↓State.jobPut_kept, ↓State.jobWait_kept, ↓State.seqStop_kept, ↓State.seqUnread_kept, ↓State.setJob_kept, ↓State.setPageEnt_kept, ↓State.setSeqEnt_kept, ↓State.withReads_kept])

theorem State.pieceFork_kept (s : State) (j : Job) : (State.pieceFork s j).kept = s.kept := by
  unfold State.pieceFork
  extract_lets a b tokens trunc go
  have hg : ∀ t, go = some t → t.kept = s.kept := by
    intro t h
    unfold go at h
    split at h
    · exact State.takeSeq_kept' h
    · obtain ⟨u, hu, hv⟩ := Option.bind_eq_some_iff.mp h
      split at hv
      · rw [State.takeSeq_kept' hv, State.takeSeq_kept' hu]
      · cases hv
  clear_value go a b tokens trunc
  refine ite_kept (State.seqUnread_kept _ _ _) (ite_kept (State.seqUnread_kept _ _ _) ?_)
  split
  · rfl
  · rename_i s1
    have h1 := hg s1 rfl
    split
    · exact h1
    · rename_i j1 hj
      extract_lets w e n last
      clear_value w e n last
      refine ite_kept (by rw [State.seqStop_kept]; exact h1) ?_
      refine ite_kept (by rw [State.seqStop_kept]; exact h1) ?_
      refine ite_kept (by rw [State.seqStop_kept]; exact h1) ?_
      refine ite_kept ?_ (ite_kept (by rw [State.seqStop_kept]; exact h1) ?_)
      · split
        rename_i s2 ok hf
        have h2 : s2.kept = s1.kept := by
          have := foldl_fst_kept (fun (x : State × Bool) p =>
              let g := (x.1.seqw j1.slice).pageEnt a p
              match x.1.dropPage j1.slice g.page with
              | (s, ok) => (s.setPageEnt j1.slice a p {}, x.2 && ok)) (fun p x => by
                dsimp only
                rw [State.setPageEnt_kept, State.dropPage_kept]) ((List.range last).drop n) (s1, true)
          rw [hf] at this
          exact this
        split
        rename_i s3 ok2 hq
        have h3 : s3.kept = s2.kept := by
          refine (kept_of_eq hq).trans ?_
          split
          · split
            rename_i hd
            exact (State.setSeqEnt_kept _ _ _ _).trans (State.dropPage_kept' hd)
          · exact State.setSeqEnt_kept _ _ _ _
        clear hq
        refine ite_kept ?_ ?_
        · rw [State.seqStop_kept, h3, h2, h1]
        · rw [State.countMismatch_kept, h3, h2, h1]
      · split
        · rw [State.jobWait_kept, h1]
        · rename_i s2 d ha
          rw [State.seqStop_kept, State.setSeqEnt_kept, foldl_kept, State.allocPage_kept' ha, h1]
          intro s a
          dsimp only
          rw [State.setPageEnt_kept, State.sharePage_kept]

theorem State.agePage_kept (s : State) (j : Job) (code page dst : Nat) :
    (State.agePage s j code page dst).kept = s.kept := by
  simp only [State.agePage] <;>
    repeat' (first | with_reducible rfl | with_reducible assumption | with_reducible refine (foldl_fst_kept _ (fun s a => ?_) _ _).trans ?_ | with_reducible refine (foldl_kept _ (fun s a => ?_) _ _).trans ?_ | with_reducible refine ite_kept ?_ ?_ | with_reducible refine ite_eq_of ?_ ?_ | split | simp only [↓apply_ite State.kept, ite_self, ↓State.kept_mk, State.kept_eta, implies_true, ↓foldl_kept, ↓State.jobNext_kept, ↓State.jobPut_kept, ↓State.seqStop_kept])

theorem State.pieceAge_kept (s : State) (j : Job) :
    (State.pieceAge s j).kept = s.kept := by
  simp only [State.pieceAge] <;>
    repeat' (first | with_reducible rfl | with_reducible assumption | with_reducible refine (State.allocPage_kept' (by assumption)).trans ?_ | with_reducible refine (State.allocPage_kept' (of_ite_none (by assumption))).trans ?_ | with_reducible refine (State.allocPage_kept' (of_ite_none' (by assumption))).trans ?_ | with_reducible refine (State.dropPage_kept' (by assumption)).trans ?_ | with_reducible refine (State.takeSeq_kept' (by assumption)).trans ?_ | with_reducible refine (State.takeSeq_kept' (of_ite_none (by assumption))).trans ?_ | with_reducible refine (State.takeSeq_kept' (of_ite_none' (by assumption))).trans ?_ | with_reducible refine (State.withReads_kept _ _ _ _ _ (fun s a0 => ?_)).trans ?_ | with_reducible refine (kept_of_eq (by assumption)).trans ?_ | with_reducible refine (kept_of_eq2 (by assumption)).trans ?_ | with_reducible refine ite_kept ?_ ?_ | with_reducible refine ite_eq_of ?_ ?_ | split | simp only [↓apply_ite State.kept, ite_self, ↓State.kept_mk, State.kept_eta, implies_true, ↓apply_ite Prod.fst, ↓apply_ite Prod.snd, ↓State.agePage_kept, ↓State.countMismatch_kept, ↓State.dropPage_kept, ↓State.jobWait_kept, ↓State.seqStop_kept, ↓State.seqUnread_kept, ↓State.setJob_kept, ↓State.setPageEnt_kept, ↓State.setSeqw_kept, ↓State.sharePage_kept, ↓State.withReads_kept])

theorem State.kvPut_kept (s : State) (j : Job) (v : Nat) :
    (State.kvPut s j v).kept = s.kept := by
  simp only [State.kvPut] <;>
    repeat' (first | with_reducible rfl | with_reducible assumption | with_reducible refine ite_kept ?_ ?_ | with_reducible refine ite_eq_of ?_ ?_ | split | simp only [↓apply_ite State.kept, ite_self, ↓State.kept_mk, State.kept_eta, ↓State.jobNext_kept, ↓State.jobPut_kept])

theorem State.kvToken_kept (s : State) (j : Job) (g : PageEnt) (t : Nat) :
    (State.kvToken s j g t).kept = s.kept := by
  simp only [State.kvToken] <;>
    repeat' (first | with_reducible rfl | with_reducible assumption | with_reducible refine (State.withReads_kept _ _ _ _ _ (fun s a0 => ?_)).trans ?_ | with_reducible refine ite_kept ?_ ?_ | with_reducible refine ite_eq_of ?_ ?_ | split | simp only [↓apply_ite State.kept, ite_self, ↓State.kept_mk, State.kept_eta, implies_true, ↓State.jobStop_kept, ↓State.kvPut_kept, ↓State.withReads_kept])

theorem State.pieceKvGather_kept (s : State) (j : Job) :
    (State.pieceKvGather s j).kept = s.kept := by
  simp only [State.pieceKvGather] <;>
    repeat' (first | with_reducible rfl | with_reducible assumption | with_reducible refine (State.withReads_kept _ _ _ _ _ (fun s a0 => ?_)).trans ?_ | with_reducible refine ite_kept ?_ ?_ | with_reducible refine ite_eq_of ?_ ?_ | split | simp only [↓apply_ite State.kept, ite_self, ↓State.kept_mk, State.kept_eta, implies_true, ↓State.jobNext_kept, ↓State.jobStop_kept, ↓State.kvToken_kept, ↓State.seqUnread_kept, ↓State.withReads_kept])

theorem State.jobStep_kept (s : State) (j : Job) :
    (State.jobStep s j).kept = s.kept := by
  simp only [State.jobStep] <;>
    repeat' (first | with_reducible rfl | with_reducible assumption | with_reducible refine ite_kept ?_ ?_ | with_reducible refine ite_eq_of ?_ ?_ | split | simp only [↓apply_ite State.kept, ite_self, ↓State.kept_mk, State.kept_eta, ↓State.pieceAge_kept, ↓State.pieceAppend_kept, ↓State.pieceCopy_kept, ↓State.pieceEmbed_kept, ↓State.pieceFork_kept, ↓State.pieceGather_kept, ↓State.pieceHarvest_kept, ↓State.pieceKvGather_kept, ↓State.pieceScatter_kept, ↓State.pieceScrub_kept, ↓State.pieceTranscode_kept, ↓State.pieceZero_kept])

theorem State.chargeJob_kept (s : State) (f : Nat) :
    (State.chargeJob s f).kept = s.kept := by
  simp only [State.chargeJob] <;>
    repeat' (first | with_reducible rfl | with_reducible assumption | with_reducible refine ite_kept ?_ ?_ | with_reducible refine ite_eq_of ?_ ?_ | split | simp only [↓apply_ite State.kept, ite_self, ↓State.kept_mk, State.kept_eta])

theorem State.jobRun_kept (s : State) (id : Nat) :
    (State.jobRun s id).kept = s.kept := by
  simp only [State.jobRun] <;>
    repeat' (first | with_reducible rfl | with_reducible assumption | with_reducible refine ite_kept ?_ ?_ | with_reducible refine ite_eq_of ?_ ?_ | split | simp only [↓apply_ite State.kept, ite_self, ↓State.kept_mk, State.kept_eta, ↓State.chargeJob_kept, ↓State.jobPause_kept, ↓State.jobStep_kept, ↓State.jobWrite_kept, ↓State.note_kept, ↓State.raise_kept, ↓State.seqSaveFor_kept, ↓State.seqStop_kept, ↓State.setJob_kept, ↓State.use_kept])

theorem State.jobComplete_kept (s : State) (id : Nat) :
    (State.jobComplete s id).kept = s.kept := by
  simp only [State.jobComplete] <;>
    repeat' (first | with_reducible rfl | with_reducible assumption | with_reducible refine ite_kept ?_ ?_ | with_reducible refine ite_eq_of ?_ ?_ | split | simp only [↓apply_ite State.kept, ite_self, ↓State.kept_mk, State.kept_eta, ↓State.finishJob_kept])

theorem State.pageTimeout_kept (s : State) (id : Nat) :
    (State.pageTimeout s id).kept = s.kept := by
  simp only [State.pageTimeout] <;>
    repeat' (first | with_reducible rfl | with_reducible assumption | with_reducible refine ite_kept ?_ ?_ | with_reducible refine ite_eq_of ?_ ?_ | split | simp only [↓apply_ite State.kept, ite_self, ↓State.kept_mk, State.kept_eta, ↓State.seqStop_kept])

theorem State.seqLayout_kept (s : State) (sl : Nat) :
    (State.seqLayout s sl).kept = s.kept := by
  simp only [State.seqLayout] <;>
    repeat' (first | with_reducible rfl | with_reducible assumption | with_reducible refine ite_kept ?_ ?_ | with_reducible refine ite_eq_of ?_ ?_ | split | simp only [↓apply_ite State.kept, ite_self, ↓State.kept_mk, State.kept_eta, ↓State.setSeqw_kept, ↓State.tlbDrop_kept])

theorem State.seqJobsEnd_kept (s : State) (sl : Nat) :
    (State.seqJobsEnd s sl).kept = s.kept := by
  simp only [State.seqJobsEnd] <;>
    repeat' (first | with_reducible rfl | with_reducible assumption | with_reducible refine (foldl_fst_kept _ (fun s a => ?_) _ _).trans ?_ | with_reducible refine (foldl_kept _ (fun s a => ?_) _ _).trans ?_ | with_reducible refine ite_kept ?_ ?_ | with_reducible refine ite_eq_of ?_ ?_ | split | simp only [↓apply_ite State.kept, ite_self, ↓State.kept_mk, State.kept_eta, implies_true, ↓foldl_kept, ↓State.finishJob_kept, ↓State.jobStop_kept])

theorem State.seqCloseNow_kept (s : State) (sl : Nat) :
    (State.seqCloseNow s sl).kept = s.kept := by
  simp only [State.seqCloseNow] <;>
    repeat' (first | with_reducible rfl | with_reducible assumption | with_reducible refine ite_kept ?_ ?_ | with_reducible refine ite_eq_of ?_ ?_ | split | simp only [↓apply_ite State.kept, ite_self, ↓State.kept_mk, State.kept_eta, ↓State.seqJobsEnd_kept, ↓State.setSeqw_kept])

theorem State.seqApply_kept (s : State) (sl : Nat) :
    (State.seqApply s sl).kept = s.kept := by
  simp only [State.seqApply] <;>
    repeat' (first | with_reducible rfl | with_reducible assumption | with_reducible refine ite_kept ?_ ?_ | with_reducible refine ite_eq_of ?_ ?_ | split | simp only [↓apply_ite State.kept, ite_self, ↓State.kept_mk, State.kept_eta, ↓State.mgIrq_kept, ↓State.seqCloseNow_kept, ↓State.seqLayout_kept, ↓State.setSeqw_kept])

theorem State.seqCmd_kept (s : State) (sl op : Nat) :
    (State.seqCmd s sl op).kept = s.kept := by
  simp only [State.seqCmd] <;>
    repeat' (first | with_reducible rfl | with_reducible assumption | with_reducible refine ite_kept ?_ ?_ | with_reducible refine ite_eq_of ?_ ?_ | split | simp only [↓apply_ite State.kept, ite_self, ↓State.kept_mk, State.kept_eta, ↓State.setSeqw_kept])

theorem State.seqOpened_kept (s : State) (sl : Nat) :
    (State.seqOpened s sl).kept = s.kept := by
  simp only [State.seqOpened] <;>
    repeat' (first | with_reducible rfl | with_reducible assumption | with_reducible refine ite_kept ?_ ?_ | with_reducible refine ite_eq_of ?_ ?_ | split | simp only [↓apply_ite State.kept, ite_self, ↓State.kept_mk, State.kept_eta, ↓State.mgIrq_kept, ↓State.setSeqw_kept])

theorem State.tileSubmit_kept (s : State) (port : Nat) (r : TpReq) (b : Bound) :
    (State.tileSubmit s port r b).kept = s.kept := by
  simp only [State.tileSubmit] <;>
    repeat' (first | with_reducible rfl | with_reducible assumption | with_reducible refine (State.submitJob_kept' (by assumption)).trans ?_ | with_reducible refine (kept_of_eq (by assumption)).trans ?_ | with_reducible refine (kept_of_eq2 (by assumption)).trans ?_ | with_reducible refine ite_kept ?_ ?_ | with_reducible refine ite_eq_of ?_ ?_ | split | simp only [↓apply_ite State.kept, ite_self, ↓State.kept_mk, State.kept_eta, ↓apply_ite Prod.fst, ↓apply_ite Prod.snd, ↓State.denied_kept, ↓State.submitJob_kept, ↓State.tileRsp_kept])

theorem State.jobOfType_kept (s : State) (id ty : Nat) :
    (State.jobOfType s id ty).kept = s.kept := by
  simp only [State.jobOfType] <;>
    repeat' (first | with_reducible rfl | with_reducible assumption | with_reducible refine ite_kept ?_ ?_ | with_reducible refine ite_eq_of ?_ ?_ | split | simp only [↓apply_ite State.kept, ite_self, ↓State.kept_mk, State.kept_eta, ↓State.jobRun_kept])

theorem State.hostSay_kept (s : State) (tag : Nat) (st : Status) :
    (State.hostSay s tag st).kept = s.kept := by
  simp only [State.hostSay] <;>
    repeat' (first | with_reducible rfl | with_reducible assumption | with_reducible refine ite_kept ?_ ?_ | with_reducible refine ite_eq_of ?_ ?_ | split | simp only [↓apply_ite State.kept, ite_self, ↓State.kept_mk, State.kept_eta, ↓State.emit_kept, ↓State.hostRsp_kept])

theorem State.hostArrive_kept (s : State) (fn tag : Nat) (bad rsvd : Bool) (read : Bool) :
    (State.hostArrive s fn tag bad rsvd read).1.kept = s.kept := by
  simp only [State.hostArrive] <;>
    repeat' (first | with_reducible rfl | with_reducible assumption | with_reducible refine ite_kept ?_ ?_ | with_reducible refine ite_eq_of ?_ ?_ | split | simp only [↓apply_ite State.kept, ite_self, ↓State.kept_mk, State.kept_eta, ↓apply_ite Prod.fst, ↓apply_ite Prod.snd, ↓State.denied_kept, ↓State.hostRsp_kept, ↓State.hostSay_kept, ↓State.note_kept, ↓State.outcome_kept, ↓State.portEvent_kept, ↓State.reqOpen_kept, ↓State.retryNote_kept])

theorem State.hostArrive_kept' {s : State} {fn tag : Nat} {bad rsvd : Bool} {read : Bool} {t₁} {x₁} (hc : State.hostArrive s fn tag bad rsvd read = (t₁, x₁)) :
    t₁.kept = s.kept := by
  have e := State.hostArrive_kept s fn tag bad rsvd read
  rw [hc] at e
  exact e

theorem State.ctxCreate_kept (s : State) (f a0 : Nat) (arg1 : Reg) :
    (State.ctxCreate s f a0 arg1).1.kept = s.kept := by
  simp only [State.ctxCreate] <;>
    repeat' (first | with_reducible rfl | with_reducible assumption | with_reducible refine ite_kept ?_ ?_ | with_reducible refine ite_eq_of ?_ ?_ | split | simp only [↓apply_ite State.kept, ite_self, ↓State.kept_mk, State.kept_eta, ↓apply_ite Prod.fst, ↓apply_ite Prod.snd, ↓State.denied_kept, ↓State.setCtx_kept])

theorem State.ctxCreate_kept' {s : State} {f a0 : Nat} {arg1 : Reg} {t₁} {x₁} (hc : State.ctxCreate s f a0 arg1 = (t₁, x₁)) :
    t₁.kept = s.kept := by
  have e := State.ctxCreate_kept s f a0 arg1
  rw [hc] at e
  exact e

theorem State.ctxLoad_kept (s : State) (f x : Nat) :
    (State.ctxLoad s f x).1.kept = s.kept := by
  simp only [State.ctxLoad] <;>
    repeat' (first | with_reducible rfl | with_reducible assumption | with_reducible refine ite_kept ?_ ?_ | with_reducible refine ite_eq_of ?_ ?_ | split | simp only [↓apply_ite State.kept, ite_self, ↓State.kept_mk, State.kept_eta, ↓apply_ite Prod.fst, ↓apply_ite Prod.snd, ↓State.denied_kept, ↓State.outcome_kept, ↓State.setCtx_kept, ↓State.setSlot_kept])

theorem State.ctxLoad_kept' {s : State} {f x : Nat} {t₁} {x₁} (hc : State.ctxLoad s f x = (t₁, x₁)) :
    t₁.kept = s.kept := by
  have e := State.ctxLoad_kept s f x
  rw [hc] at e
  exact e

theorem State.ctxOp_kept (s : State) (op x key f : Nat) :
    (State.ctxOp s op x key f).1.kept = s.kept := by
  simp only [State.ctxOp] <;>
    repeat' (first | with_reducible rfl | with_reducible assumption | with_reducible refine (State.ctxLoad_kept' (by assumption)).trans ?_ | with_reducible refine (kept_of_eq (by assumption)).trans ?_ | with_reducible refine (kept_of_eq2 (by assumption)).trans ?_ | with_reducible refine ite_kept ?_ ?_ | with_reducible refine ite_eq_of ?_ ?_ | split | simp only [↓apply_ite State.kept, ite_self, ↓State.kept_mk, State.kept_eta, ↓apply_ite Prod.fst, ↓apply_ite Prod.snd, ↓State.clearTrace_kept, ↓State.ctxLoad_kept, ↓State.denied_kept, ↓State.freeSlot_kept, ↓State.loseContext_kept, ↓State.setCtx_kept])

theorem State.ctxOp_kept' {s : State} {op x key f : Nat} {t₁} {x₁} (hc : State.ctxOp s op x key f = (t₁, x₁)) :
    t₁.kept = s.kept := by
  have e := State.ctxOp_kept s op x key f
  rw [hc] at e
  exact e

theorem State.ctxApply_kept (s : State) (f : Nat) :
    (State.ctxApply s f).kept = s.kept := by
  simp only [State.ctxApply] <;>
    repeat' (first | with_reducible rfl | with_reducible assumption | with_reducible refine (State.ctxCreate_kept' (by assumption)).trans ?_ | with_reducible refine (State.ctxOp_kept' (by assumption)).trans ?_ | with_reducible refine (kept_of_eq (by assumption)).trans ?_ | with_reducible refine (kept_of_eq2 (by assumption)).trans ?_ | with_reducible refine ite_kept ?_ ?_ | with_reducible refine ite_eq_of ?_ ?_ | split | simp only [↓apply_ite State.kept, ite_self, ↓State.kept_mk, State.kept_eta, ↓apply_ite Prod.fst, ↓apply_ite Prod.snd, ↓State.ctxCreate_kept, ↓State.ctxOp_kept, ↓State.denied_kept, ↓State.hostRsp_kept, ↓State.setView_kept])

theorem State.ctxCmd_kept (s : State) (f tag op : Nat) :
    (State.ctxCmd s f tag op).kept = s.kept := by
  simp only [State.ctxCmd] <;>
    repeat' (first | with_reducible rfl | with_reducible assumption | with_reducible refine ite_kept ?_ ?_ | with_reducible refine ite_eq_of ?_ ?_ | split | simp only [↓apply_ite State.kept, ite_self, ↓State.kept_mk, State.kept_eta, ↓State.denied_kept, ↓State.hostRsp_kept, ↓State.retryNote_kept, ↓State.setView_kept])

theorem State.discardRange_kept (s : State) (first count : Nat) :
    (State.discardRange s first count).kept = s.kept := by
  simp only [State.discardRange] <;>
    repeat' (first | with_reducible rfl | with_reducible assumption | with_reducible refine (foldl_fst_kept _ (fun s a => ?_) _ _).trans ?_ | with_reducible refine (foldl_kept _ (fun s a => ?_) _ _).trans ?_ | with_reducible refine ite_kept ?_ ?_ | with_reducible refine ite_eq_of ?_ ?_ | split | simp only [↓apply_ite State.kept, ite_self, ↓State.kept_mk, State.kept_eta, implies_true, ↓foldl_kept, ↓State.count_kept, ↓State.enter_kept, ↓State.setHome_kept, ↓State.settle_kept, ↓State.start_kept])

theorem State.objLost_kept (s : State) (f : Nat) (ty sub : Nat) :
    (State.objLost s f ty sub).kept = s.kept := by
  simp only [State.objLost] <;>
    repeat' (first | with_reducible rfl | with_reducible assumption | with_reducible refine ite_kept ?_ ?_ | with_reducible refine ite_eq_of ?_ ?_ | split | simp only [↓apply_ite State.kept, ite_self, ↓State.kept_mk, State.kept_eta, ↓State.raise_kept])

theorem State.objCreate_kept (s : State) (f : Nat) (arg : Reg) :
    (State.objCreate s f arg).1.kept = s.kept := by
  simp only [State.objCreate] <;>
    repeat' (first | with_reducible rfl | with_reducible assumption | with_reducible refine ite_kept ?_ ?_ | with_reducible refine ite_eq_of ?_ ?_ | split | simp only [↓apply_ite State.kept, ite_self, ↓State.kept_mk, State.kept_eta, ↓apply_ite Prod.fst, ↓apply_ite Prod.snd, ↓State.count_kept, ↓State.denied_kept, ↓State.objLost_kept, ↓State.setObj_kept])

theorem State.objCreate_kept' {s : State} {f : Nat} {arg : Reg} {t₁} {x₁} (hc : State.objCreate s f arg = (t₁, x₁)) :
    t₁.kept = s.kept := by
  have e := State.objCreate_kept s f arg
  rw [hc] at e
  exact e

theorem State.objCmd_kept (s : State) (f tag op o gen : Nat) :
    (State.objCmd s f tag op o gen).kept = s.kept := by
  simp only [State.objCmd] <;>
    repeat' (first | with_reducible rfl | with_reducible assumption | with_reducible refine ite_kept ?_ ?_ | with_reducible refine ite_eq_of ?_ ?_ | split | simp only [↓apply_ite State.kept, ite_self, ↓State.kept_mk, State.kept_eta, ↓State.denied_kept, ↓State.hostRsp_kept, ↓State.retryNote_kept, ↓State.setView_kept])

theorem State.drainedRead_kept (s : State) (f : Nat) :
    (State.drainedRead s f).2.kept = s.kept := by
  simp only [State.drainedRead] <;>
    repeat' (first | with_reducible rfl | with_reducible assumption | with_reducible refine ite_kept ?_ ?_ | with_reducible refine ite_eq_of ?_ ?_ | split | simp only [↓apply_ite State.kept, ite_self, ↓State.kept_mk, State.kept_eta, ↓apply_ite Prod.fst, ↓apply_ite Prod.snd, ↓State.setView_kept])

theorem State.drainedRead_kept' {s : State} {f : Nat} {x₁} {t₁} (hc : State.drainedRead s f = (x₁, t₁)) :
    t₁.kept = s.kept := by
  have e := State.drainedRead_kept s f
  rw [hc] at e
  exact e

theorem State.fpageCmd_kept (s : State) (cmd : Reg) :
    (State.fpageCmd s cmd).kept = s.kept := by
  simp only [State.fpageCmd] <;>
    repeat' (first | with_reducible rfl | with_reducible assumption | with_reducible refine ite_kept ?_ ?_ | with_reducible refine ite_eq_of ?_ ?_ | split | simp only [↓apply_ite State.kept, ite_self, ↓State.kept_mk, State.kept_eta])

theorem State.fpageApply_kept (s : State) :
    (State.fpageApply s).kept = s.kept := by
  simp only [State.fpageApply] <;>
    repeat' (first | with_reducible rfl | with_reducible assumption | with_reducible refine ite_kept ?_ ?_ | with_reducible refine ite_eq_of ?_ ?_ | split | simp only [↓apply_ite State.kept, ite_self, ↓State.kept_mk, State.kept_eta, implies_true, ↓forRange_kept, ↓State.mgIrq_kept, ↓State.setFpage_kept])

theorem State.fenceRepair_kept (s : State) (i : Nat) :
    (State.fenceRepair s i).kept = s.kept := by
  simp only [State.fenceRepair] <;>
    repeat' (first | with_reducible rfl | with_reducible assumption | with_reducible refine ite_kept ?_ ?_ | with_reducible refine ite_eq_of ?_ ?_ | split | simp only [↓apply_ite State.kept, ite_self, ↓State.kept_mk, State.kept_eta, ↓State.fencePageIrq_kept, ↓State.raise_kept, ↓State.setFence_kept])

theorem State.kfenceArm_kept (s : State) (f tag c fence : Nat) :
    (State.kfenceArm s f tag c fence).kept = s.kept := by
  simp only [State.kfenceArm] <;>
    repeat' (first | with_reducible rfl | with_reducible assumption | with_reducible refine ite_kept ?_ ?_ | with_reducible refine ite_eq_of ?_ ?_ | split | simp only [↓apply_ite State.kept, ite_self, ↓State.kept_mk, State.kept_eta, ↓State.armFence_kept, ↓State.denied_kept, ↓State.hostRsp_kept, ↓State.setSlot_kept])

theorem State.usageAsk_kept (s : State) (f x : Nat) :
    (State.usageAsk s f x).kept = s.kept := by
  simp only [State.usageAsk] <;>
    repeat' (first | with_reducible rfl | with_reducible assumption | with_reducible refine ite_kept ?_ ?_ | with_reducible refine ite_eq_of ?_ ?_ | split | simp only [↓apply_ite State.kept, ite_self, ↓State.kept_mk, State.kept_eta, ↓State.setView_kept])

theorem State.usageCapture_kept (s : State) (f : Nat) :
    (State.usageCapture s f).kept = s.kept := by
  simp only [State.usageCapture] <;>
    repeat' (first | with_reducible rfl | with_reducible assumption | with_reducible refine (foldl_fst_kept _ (fun s a => ?_) _ _).trans ?_ | with_reducible refine (foldl_kept _ (fun s a => ?_) _ _).trans ?_ | with_reducible refine ite_kept ?_ ?_ | with_reducible refine ite_eq_of ?_ ?_ | split | simp only [↓apply_ite State.kept, ite_self, ↓State.kept_mk, State.kept_eta, implies_true, ↓foldl_kept, ↓State.count_kept, ↓State.setView_kept])

theorem State.kbEnter_kept (s : State) (ty : Nat) (k : KbReq) :
    (State.kbEnter s ty k).1.kept = s.kept := by
  simp only [State.kbEnter] <;>
    repeat' (first | with_reducible rfl | with_reducible assumption | with_reducible refine ite_kept ?_ ?_ | with_reducible refine ite_eq_of ?_ ?_ | split | simp only [↓apply_ite State.kept, ite_self, ↓State.kept_mk, State.kept_eta, ↓apply_ite Prod.fst, ↓apply_ite Prod.snd, ↓State.denied_kept, ↓State.kbAck_kept, ↓State.note_kept, ↓State.portEvent_kept])

theorem State.kbEnter_kept' {s : State} {ty : Nat} {k : KbReq} {t₁} {x₁} (hc : State.kbEnter s ty k = (t₁, x₁)) :
    t₁.kept = s.kept := by
  have e := State.kbEnter_kept s ty k
  rw [hc] at e
  exact e

theorem State.kbStart_kept (s : State) (k : KbReq) :
    (State.kbStart s k).kept = s.kept := by
  simp only [State.kbStart] <;>
    repeat' (first | with_reducible rfl | with_reducible assumption | with_reducible refine ite_kept ?_ ?_ | with_reducible refine ite_eq_of ?_ ?_ | split | simp only [↓apply_ite State.kept, ite_self, ↓State.kept_mk, State.kept_eta, implies_true, ↓forRange_kept, ↓State.count_kept, ↓State.kbAck_kept, ↓State.setTile_kept])

theorem State.kbEnd_kept (s : State) (k : KbReq) :
    (State.kbEnd s k).kept = s.kept := by
  simp only [State.kbEnd] <;>
    repeat' (first | with_reducible rfl | with_reducible assumption | with_reducible refine ite_kept ?_ ?_ | with_reducible refine ite_eq_of ?_ ?_ | split | simp only [↓apply_ite State.kept, ite_self, ↓State.kept_mk, State.kept_eta, ↓State.denied_kept, ↓State.kbAck_kept, ↓State.unbind_kept])

theorem State.endComplete_kept (s : State) (c : Nat) :
    (State.endComplete s c).kept = s.kept := by
  simp only [State.endComplete] <;>
    repeat' (first | with_reducible rfl | with_reducible assumption | with_reducible refine ite_kept ?_ ?_ | with_reducible refine ite_eq_of ?_ ?_ | split | simp only [↓apply_ite State.kept, ite_self, ↓State.kept_mk, State.kept_eta, ↓State.fenceOk_kept, ↓State.kbAck_kept, ↓State.setSlot_kept, ↓State.unbind_kept])

theorem State.endTimeout_kept (s : State) (c : Nat) :
    (State.endTimeout s c).kept = s.kept := by
  simp only [State.endTimeout] <;>
    repeat' (first | with_reducible rfl | with_reducible assumption | with_reducible refine ite_kept ?_ ?_ | with_reducible refine ite_eq_of ?_ ?_ | split | simp only [↓apply_ite State.kept, ite_self, ↓State.kept_mk, State.kept_eta, ↓State.kbAck_kept, ↓State.willLose_kept])

theorem State.kbAbort_kept (s : State) (k : KbReq) :
    (State.kbAbort s k).kept = s.kept := by
  simp only [State.kbAbort] <;>
    repeat' (first | with_reducible rfl | with_reducible assumption | with_reducible refine ite_kept ?_ ?_ | with_reducible refine ite_eq_of ?_ ?_ | split | simp only [↓apply_ite State.kept, ite_self, ↓State.kept_mk, State.kept_eta, ↓State.denied_kept, ↓State.kbAck_kept, ↓State.unbind_kept, ↓State.willLose_kept])

theorem State.hostGate_kept (s : State) (fn tag : Nat) (cmd : Instr) (go : State → State) (h_go : ∀ s, (go s).kept = s.kept) :
    (State.hostGate s fn tag cmd go).kept = s.kept := by
  simp only [State.hostGate] <;>
    repeat' (first | with_reducible rfl | with_reducible assumption | with_reducible refine (State.holdReq_kept _ _ _ _ _ _ _ (fun s a0 a1 => ?_)).trans ?_ | with_reducible refine ite_kept ?_ ?_ | with_reducible refine ite_eq_of ?_ ?_ | split | simp only [↓apply_ite State.kept, ite_self, ↓State.kept_mk, State.kept_eta, implies_true, ↓State.holdReq_kept, ↓State.hostRsp_kept, ↓State.hostSay_kept, h_go])

theorem State.hostCmd_kept (s : State) (f tag : Nat) (cmd : Instr) (act : State → State) (h_act : ∀ s, (act s).kept = s.kept) :
    (State.hostCmd s f tag cmd act).kept = s.kept := by
  simp only [State.hostCmd] <;>
    repeat' (first | with_reducible rfl | with_reducible assumption | with_reducible refine (State.hostArrive_kept' (by assumption)).trans ?_ | with_reducible refine (State.hostGate_kept _ _ _ _ _ (fun s => ?_)).trans ?_ | with_reducible refine (kept_of_eq (by assumption)).trans ?_ | with_reducible refine (kept_of_eq2 (by assumption)).trans ?_ | with_reducible refine ite_kept ?_ ?_ | with_reducible refine ite_eq_of ?_ ?_ | split | simp only [↓apply_ite State.kept, ite_self, ↓State.kept_mk, State.kept_eta, implies_true, ↓apply_ite Prod.fst, ↓apply_ite Prod.snd, ↓State.hostArrive_kept, ↓State.hostGate_kept, h_act])

theorem State.drainedRsp_kept (s : State) (f tag : Nat) :
    (State.drainedRsp s f tag).kept = s.kept := by
  simp only [State.drainedRsp] <;>
    repeat' (first | with_reducible rfl | with_reducible assumption | with_reducible refine (State.drainedRead_kept' (by assumption)).trans ?_ | with_reducible refine (kept_of_eq (by assumption)).trans ?_ | with_reducible refine (kept_of_eq2 (by assumption)).trans ?_ | with_reducible refine ite_kept ?_ ?_ | with_reducible refine ite_eq_of ?_ ?_ | split | simp only [↓apply_ite State.kept, ite_self, ↓State.kept_mk, State.kept_eta, ↓apply_ite Prod.fst, ↓apply_ite Prod.snd, ↓State.drainedRead_kept, ↓State.hostRsp_kept])

theorem State.usageReq_kept (s : State) (f tag ctx : Nat) :
    (State.usageReq s f tag ctx).kept = s.kept := by
  simp only [State.usageReq] <;>
    repeat' (first | with_reducible rfl | with_reducible assumption | with_reducible refine ite_kept ?_ ?_ | with_reducible refine ite_eq_of ?_ ?_ | split | simp only [↓apply_ite State.kept, ite_self, ↓State.kept_mk, State.kept_eta, ↓State.hostRsp_kept, ↓State.usageAsk_kept])

theorem State.draw_kept (s : State) :
    (State.draw s).2.kept = s.kept := by
  simp only [State.draw] <;>
    repeat' (first | with_reducible rfl | with_reducible assumption | with_reducible refine ite_kept ?_ ?_ | with_reducible refine ite_eq_of ?_ ?_ | split | simp only [↓apply_ite State.kept, ite_self, ↓State.kept_mk, State.kept_eta, ↓apply_ite Prod.fst, ↓apply_ite Prod.snd, ↓State.useFree_kept])

theorem State.draw_kept' {s : State} {x₁} {t₁} (hc : State.draw s = (x₁, t₁)) :
    t₁.kept = s.kept := by
  have e := State.draw_kept s
  rw [hc] at e
  exact e

theorem State.slotMaterialN_kept (n : Nat) (s : State) (k l : Nat) : (State.slotMaterialN n s k l).2.2.kept = s.kept := by
  induction n generalizing s l with
  | zero => rfl
  | succ n ih =>
    unfold State.slotMaterialN
    dsimp only
    split
    · rw [ih]; exact State.draw_kept s
    · exact State.draw_kept s

theorem State.slotMaterialN_kept' {n : Nat} {s : State} {k l : Nat} {x₁} {y₁} {t₁} (hc : State.slotMaterialN n s k l = (x₁, y₁, t₁)) :
    t₁.kept = s.kept := by
  have e := State.slotMaterialN_kept n s k l
  rw [hc] at e
  exact e

theorem State.slotMaterial_kept (s : State) (k : Nat) :
    (State.slotMaterial s k).2.2.kept = s.kept := by
  simp only [State.slotMaterial] <;>
    repeat' (first | with_reducible rfl | with_reducible assumption | with_reducible refine (State.slotMaterialN_kept' (by assumption)).trans ?_ | with_reducible refine (kept_of_eq (by assumption)).trans ?_ | with_reducible refine (kept_of_eq2 (by assumption)).trans ?_ | with_reducible refine ite_kept ?_ ?_ | with_reducible refine ite_eq_of ?_ ?_ | split | simp only [↓apply_ite State.kept, ite_self, ↓State.kept_mk, State.kept_eta, ↓apply_ite Prod.fst, ↓apply_ite Prod.snd, ↓State.slotMaterialN_kept])

theorem State.slotMaterial_kept' {s : State} {k : Nat} {x₁} {y₁} {t₁} (hc : State.slotMaterial s k = (x₁, y₁, t₁)) :
    t₁.kept = s.kept := by
  have e := State.slotMaterial_kept s k
  rw [hc] at e
  exact e

theorem State.vltRaise_kept (s : State) (kind cls : Nat) (sl : Nat) (sub : Nat) (v : Nat) :
    (State.vltRaise s kind cls sl sub v).kept = s.kept := by
  simp only [State.vltRaise] <;>
    repeat' (first | with_reducible rfl | with_reducible assumption | with_reducible refine ite_kept ?_ ?_ | with_reducible refine ite_eq_of ?_ ?_ | split | simp only [↓apply_ite State.kept, ite_self, ↓State.kept_mk, State.kept_eta, ↓State.raise_kept])

theorem State.hoofprint_kept (s : State) :
    (State.hoofprint s).kept = s.kept := by
  simp only [State.hoofprint] <;>
    repeat' (first | with_reducible rfl | with_reducible assumption | with_reducible refine ite_kept ?_ ?_ | with_reducible refine ite_eq_of ?_ ?_ | split | simp only [↓apply_ite State.kept, ite_self, ↓State.kept_mk, State.kept_eta, ↓State.vltRaise_kept])

theorem State.rootFound_kept (s : State) (d : Digest) (tries : Nat) :
    (State.rootFound s d tries).kept = s.kept := by
  simp only [State.rootFound] <;>
    repeat' (first | with_reducible rfl | with_reducible assumption | with_reducible refine ite_kept ?_ ?_ | with_reducible refine ite_eq_of ?_ ?_ | split | simp only [↓apply_ite State.kept, ite_self, ↓State.kept_mk, State.kept_eta, ↓State.vltRaise_kept])

theorem State.rootTry_kept (s : State) (resp : BitVec 3577) :
    (State.rootTry s resp).kept = s.kept := by
  simp only [State.rootTry] <;>
    repeat' (first | with_reducible rfl | with_reducible assumption | with_reducible refine ite_kept ?_ ?_ | with_reducible refine ite_eq_of ?_ ?_ | split | simp only [↓apply_ite State.kept, ite_self, ↓State.kept_mk, State.kept_eta, ↓State.hoofprint_kept, ↓State.rootFound_kept, ↓State.vltRaise_kept])

theorem State.rootRetry_kept (s : State) :
    (State.rootRetry s).kept = s.kept := by
  simp only [State.rootRetry] <;>
    repeat' (first | with_reducible rfl | with_reducible assumption | with_reducible refine ite_kept ?_ ?_ | with_reducible refine ite_eq_of ?_ ?_ | split | simp only [↓apply_ite State.kept, ite_self, ↓State.kept_mk, State.kept_eta])

theorem State.deriveMeasured_kept (s : State) :
    (State.deriveMeasured s).kept = s.kept := by
  simp only [State.deriveMeasured] <;>
    repeat' (first | with_reducible rfl | with_reducible assumption | with_reducible refine ite_kept ?_ ?_ | with_reducible refine ite_eq_of ?_ ?_ | split | simp only [↓apply_ite State.kept, ite_self, ↓State.kept_mk, State.kept_eta])

theorem State.loadSystem_kept (s : State) (k : Nat) (m : BitVec 832) (n : Nat) :
    (State.loadSystem s k m n).kept = s.kept := by
  simp only [State.loadSystem] <;>
    repeat' (first | with_reducible rfl | with_reducible assumption | with_reducible refine ite_kept ?_ ?_ | with_reducible refine ite_eq_of ?_ ?_ | split | simp only [↓apply_ite State.kept, ite_self, ↓State.kept_mk, State.kept_eta, ↓State.setKey_kept])

theorem State.draw832_kept (s : State) :
    (State.draw832 s).2.kept = s.kept := by
  simp only [State.draw832] <;>
    repeat' (first | with_reducible rfl | with_reducible assumption | with_reducible refine (State.draw_kept' (by assumption)).trans ?_ | with_reducible refine (kept_of_eq (by assumption)).trans ?_ | with_reducible refine (kept_of_eq2 (by assumption)).trans ?_ | with_reducible refine ite_kept ?_ ?_ | with_reducible refine ite_eq_of ?_ ?_ | split | simp only [↓apply_ite State.kept, ite_self, ↓State.kept_mk, State.kept_eta, ↓apply_ite Prod.fst, ↓apply_ite Prod.snd, ↓State.draw_kept])

theorem State.draw832_kept' {s : State} {x₁} {t₁} (hc : State.draw832 s = (x₁, t₁)) :
    t₁.kept = s.kept := by
  have e := State.draw832_kept s
  rw [hc] at e
  exact e

theorem State.drawKeyN_kept (n : Nat) (s : State) : (State.drawKeyN n s).2.kept = s.kept := by
  induction n generalizing s with
  | zero => exact State.draw832_kept s
  | succ n ih =>
    unfold State.drawKeyN
    split
    rename_i h
    have h1 := State.draw832_kept' h
    clear h
    split
    · exact (ih _).trans h1
    · exact h1

theorem State.drawKeyN_kept' {n : Nat} {s : State} {x₁} {t₁} (hc : State.drawKeyN n s = (x₁, t₁)) :
    t₁.kept = s.kept := by
  have e := State.drawKeyN_kept n s
  rw [hc] at e
  exact e

theorem State.vaultFatal_kept (s : State) :
    (State.vaultFatal s).kept = s.kept := by
  simp only [State.vaultFatal] <;>
    repeat' (first | with_reducible rfl | with_reducible assumption | with_reducible refine ite_kept ?_ ?_ | with_reducible refine ite_eq_of ?_ ?_ | split | simp only [↓apply_ite State.kept, ite_self, ↓State.kept_mk, State.kept_eta])

theorem State.vaultApply_kept (s : State) : (State.vaultApply s).kept = s.kept := by
  unfold State.vaultApply
  refine ite_kept ?_ ?_
  · repeat' (first | with_reducible rfl | with_reducible assumption | with_reducible refine (State.slotMaterial_kept' (by assumption)).trans ?_ | split | simp only [↓State.kept_mk, State.kept_eta, ↓State.deriveMeasured_kept, ↓State.loadSystem_kept, ↓State.slotMaterial_kept])
  · generalize 65536 = n
    repeat' (first | with_reducible rfl | with_reducible assumption | with_reducible refine (State.drawKeyN_kept' (by assumption)).trans ?_ | split | simp only [↓State.loadSystem_kept, ↓State.drawKeyN_kept])

theorem State.keyCmdDone_kept (s : State) (res id : Nat) :
    (State.keyCmdDone s res id).kept = s.kept := by
  simp only [State.keyCmdDone] <;>
    repeat' (first | with_reducible rfl | with_reducible assumption | with_reducible refine ite_kept ?_ ?_ | with_reducible refine ite_eq_of ?_ ?_ | split | simp only [↓apply_ite State.kept, ite_self, ↓State.kept_mk, State.kept_eta, ↓State.mgIrq_kept])

theorem State.keyCmdWrite_kept (s : State) (op k fn : Nat) :
    (State.keyCmdWrite s op k fn).kept = s.kept := by
  simp only [State.keyCmdWrite] <;>
    repeat' (first | with_reducible rfl | with_reducible assumption | with_reducible refine ite_kept ?_ ?_ | with_reducible refine ite_eq_of ?_ ?_ | split | simp only [↓apply_ite State.kept, ite_self, ↓State.kept_mk, State.kept_eta])

theorem State.stageKey_kept (s : State) (k fn : Nat) :
    (State.stageKey s k fn).kept = s.kept := by
  simp only [State.stageKey] <;>
    repeat' (first | with_reducible rfl | with_reducible assumption | with_reducible refine (State.slotMaterial_kept' (by assumption)).trans ?_ | with_reducible refine (kept_of_eq (by assumption)).trans ?_ | with_reducible refine (kept_of_eq2 (by assumption)).trans ?_ | with_reducible refine ite_kept ?_ ?_ | with_reducible refine ite_eq_of ?_ ?_ | split | simp only [↓apply_ite State.kept, ite_self, ↓State.kept_mk, State.kept_eta, ↓apply_ite Prod.fst, ↓apply_ite Prod.snd, ↓State.setKey_kept, ↓State.slotMaterial_kept])

theorem State.keyCmdApply_kept (s : State) :
    (State.keyCmdApply s).kept = s.kept := by
  simp only [State.keyCmdApply] <;>
    repeat' (first | with_reducible rfl | with_reducible assumption | with_reducible refine ite_kept ?_ ?_ | with_reducible refine ite_eq_of ?_ ?_ | split | simp only [↓apply_ite State.kept, ite_self, ↓State.kept_mk, State.kept_eta, ↓State.keyCmdDone_kept, ↓State.stageKey_kept])

theorem State.loadReport_kept (s : State) (k res : Nat) :
    (State.loadReport s k res).kept = s.kept := by
  simp only [State.loadReport] <;>
    repeat' (first | with_reducible rfl | with_reducible assumption | with_reducible refine ite_kept ?_ ?_ | with_reducible refine ite_eq_of ?_ ?_ | split | simp only [↓apply_ite State.kept, ite_self, ↓State.kept_mk, State.kept_eta, ↓State.keyCmdDone_kept])

theorem State.keySwap_kept (s : State) (k : Nat) (differs : Option Nat) :
    (State.keySwap s k differs).kept = s.kept := by
  simp only [State.keySwap] <;>
    repeat' (first | with_reducible rfl | with_reducible assumption | with_reducible refine ite_kept ?_ ?_ | with_reducible refine ite_eq_of ?_ ?_ | split | simp only [↓apply_ite State.kept, ite_self, ↓State.kept_mk, State.kept_eta, ↓State.loadReport_kept, ↓State.raise_kept, ↓State.setKey_kept])

theorem State.zeroizeKey_kept (s : State) (k : Nat) :
    (State.zeroizeKey s k).kept = s.kept := by
  simp only [State.zeroizeKey] <;>
    repeat' (first | with_reducible rfl | with_reducible assumption | with_reducible refine ite_kept ?_ ?_ | with_reducible refine ite_eq_of ?_ ?_ | split | simp only [↓apply_ite State.kept, ite_self, ↓State.kept_mk, State.kept_eta, ↓State.setKey_kept])

theorem State.setPeer_kept (s : State) (p : Nat) (x : PeerSt) :
    (State.setPeer s p x).kept = s.kept := by
  simp only [State.setPeer] <;>
    repeat' (first | with_reducible rfl | with_reducible assumption | with_reducible refine ite_kept ?_ ?_ | with_reducible refine ite_eq_of ?_ ?_ | split | simp only [↓apply_ite State.kept, ite_self, ↓State.kept_mk, State.kept_eta])

theorem State.saLoadDone_kept (s : State) (res id : Nat) :
    (State.saLoadDone s res id).kept = s.kept := by
  simp only [State.saLoadDone] <;>
    repeat' (first | with_reducible rfl | with_reducible assumption | with_reducible refine ite_kept ?_ ?_ | with_reducible refine ite_eq_of ?_ ?_ | split | simp only [↓apply_ite State.kept, ite_self, ↓State.kept_mk, State.kept_eta, ↓State.mgIrq_kept])

theorem State.saLoadWrite_kept (s : State) (op n p g : Nat) :
    (State.saLoadWrite s op n p g).kept = s.kept := by
  simp only [State.saLoadWrite] <;>
    repeat' (first | with_reducible rfl | with_reducible assumption | with_reducible refine ite_kept ?_ ?_ | with_reducible refine ite_eq_of ?_ ?_ | split | simp only [↓apply_ite State.kept, ite_self, ↓State.kept_mk, State.kept_eta])

theorem State.saLoadApply_kept (s : State) :
    (State.saLoadApply s).kept = s.kept := by
  simp only [State.saLoadApply] <;>
    repeat' (first | with_reducible rfl | with_reducible assumption | with_reducible refine ite_kept ?_ ?_ | with_reducible refine ite_eq_of ?_ ?_ | split | simp only [↓apply_ite State.kept, ite_self, ↓State.kept_mk, State.kept_eta, ↓State.saLoadDone_kept, ↓State.setSa_kept, ↓State.vltRaise_kept])

theorem State.agreeDone_kept (s : State) (res : Nat) :
    (State.agreeDone s res).kept = s.kept := by
  simp only [State.agreeDone] <;>
    repeat' (first | with_reducible rfl | with_reducible assumption | with_reducible refine ite_kept ?_ ?_ | with_reducible refine ite_eq_of ?_ ?_ | split | simp only [↓apply_ite State.kept, ite_self, ↓State.kept_mk, State.kept_eta, ↓State.mgIrq_kept])

theorem State.agreeWrite_kept (s : State) (op p : Nat) :
    (State.agreeWrite s op p).kept = s.kept := by
  simp only [State.agreeWrite] <;>
    repeat' (first | with_reducible rfl | with_reducible assumption | with_reducible refine ite_kept ?_ ?_ | with_reducible refine ite_eq_of ?_ ?_ | split | simp only [↓apply_ite State.kept, ite_self, ↓State.kept_mk, State.kept_eta])

theorem State.offer_kept (s : State) (p : Nat) :
    (State.offer s p).kept = s.kept := by
  simp only [State.offer] <;>
    repeat' (first | with_reducible rfl | with_reducible assumption | with_reducible refine (State.draw_kept' (by assumption)).trans ?_ | with_reducible refine (kept_of_eq (by assumption)).trans ?_ | with_reducible refine (kept_of_eq2 (by assumption)).trans ?_ | with_reducible refine ite_kept ?_ ?_ | with_reducible refine ite_eq_of ?_ ?_ | split | simp only [↓apply_ite State.kept, ite_self, ↓State.kept_mk, State.kept_eta, ↓apply_ite Prod.fst, ↓apply_ite Prod.snd, ↓State.draw_kept, ↓State.setPeer_kept])

theorem State.acceptPeer_kept (s : State) (p : Nat) :
    (State.acceptPeer s p).1.kept = s.kept := by
  simp only [State.acceptPeer] <;>
    repeat' (first | with_reducible rfl | with_reducible assumption | with_reducible refine (foldl_fst_kept _ (fun s a => ?_) _ _).trans ?_ | with_reducible refine (foldl_kept _ (fun s a => ?_) _ _).trans ?_ | with_reducible refine ite_kept ?_ ?_ | with_reducible refine ite_eq_of ?_ ?_ | split | simp only [↓apply_ite State.kept, ite_self, ↓State.kept_mk, State.kept_eta, implies_true, ↓foldl_kept, ↓apply_ite Prod.fst, ↓apply_ite Prod.snd, ↓State.isolate_kept, ↓State.setPeer_kept, ↓State.vltRaise_kept])

theorem State.acceptPeer_kept' {s : State} {p : Nat} {t₁} {x₁} (hc : State.acceptPeer s p = (t₁, x₁)) :
    t₁.kept = s.kept := by
  have e := State.acceptPeer_kept s p
  rw [hc] at e
  exact e

theorem State.agreeApply_kept (s : State) :
    (State.agreeApply s).kept = s.kept := by
  simp only [State.agreeApply] <;>
    repeat' (first | with_reducible rfl | with_reducible assumption | with_reducible refine (State.acceptPeer_kept' (by assumption)).trans ?_ | with_reducible refine (kept_of_eq (by assumption)).trans ?_ | with_reducible refine (kept_of_eq2 (by assumption)).trans ?_ | with_reducible refine ite_kept ?_ ?_ | with_reducible refine ite_eq_of ?_ ?_ | split | simp only [↓apply_ite State.kept, ite_self, ↓State.kept_mk, State.kept_eta, ↓apply_ite Prod.fst, ↓apply_ite Prod.snd, ↓State.acceptPeer_kept, ↓State.agreeDone_kept, ↓State.offer_kept, ↓State.setPeer_kept])

theorem State.enrollWrite_kept (s : State) (op : Nat) :
    (State.enrollWrite s op).kept = s.kept := by
  simp only [State.enrollWrite] <;>
    repeat' (first | with_reducible rfl | with_reducible assumption | with_reducible refine ite_kept ?_ ?_ | with_reducible refine ite_eq_of ?_ ?_ | split | simp only [↓apply_ite State.kept, ite_self, ↓State.kept_mk, State.kept_eta, ↓State.agreeDone_kept])

theorem State.enrollApply_kept (s : State) :
    (State.enrollApply s).kept = s.kept := by
  simp only [State.enrollApply] <;>
    repeat' (first | with_reducible rfl | with_reducible assumption | with_reducible refine ite_kept ?_ ?_ | with_reducible refine ite_eq_of ?_ ?_ | split | simp only [↓apply_ite State.kept, ite_self, ↓State.kept_mk, State.kept_eta, ↓State.agreeDone_kept])

theorem State.enrollDone_kept (s : State) (stable cells : BitVec 8192) :
    (State.enrollDone s stable cells).kept = s.kept := by
  simp only [State.enrollDone] <;>
    repeat' (first | with_reducible rfl | with_reducible assumption | with_reducible refine (State.draw_kept' (by assumption)).trans ?_ | with_reducible refine (kept_of_eq (by assumption)).trans ?_ | with_reducible refine (kept_of_eq2 (by assumption)).trans ?_ | with_reducible refine ite_kept ?_ ?_ | with_reducible refine ite_eq_of ?_ ?_ | split | simp only [↓apply_ite State.kept, ite_self, ↓State.kept_mk, State.kept_eta, ↓apply_ite Prod.fst, ↓apply_ite Prod.snd, ↓State.agreeDone_kept, ↓State.draw_kept, ↓State.vltRaise_kept])

theorem State.slotSweep_kept (s : State) (e k : Nat) (ok corrected : Bool) :
    (State.slotSweep s e k ok corrected).kept = s.kept := by
  simp only [State.slotSweep] <;>
    repeat' (first | with_reducible rfl | with_reducible assumption | with_reducible refine ite_kept ?_ ?_ | with_reducible refine ite_eq_of ?_ ?_ | split | simp only [↓apply_ite State.kept, ite_self, ↓State.kept_mk, State.kept_eta, ↓State.setKey_kept, ↓State.vltRaise_kept])

theorem State.retireWrite_kept (s : State) (op k fn : Nat) :
    (State.retireWrite s op k fn).kept = s.kept := by
  simp only [State.retireWrite] <;>
    repeat' (first | with_reducible rfl | with_reducible assumption | with_reducible refine ite_kept ?_ ?_ | with_reducible refine ite_eq_of ?_ ?_ | split | simp only [↓apply_ite State.kept, ite_self, ↓State.kept_mk, State.kept_eta, ↓State.mgIrq_kept])

theorem State.markKey_kept (s : State) (k : Nat) (ofFn : Bool) :
    (State.markKey s k ofFn).kept = s.kept := by
  simp only [State.markKey] <;>
    repeat' (first | with_reducible rfl | with_reducible assumption | with_reducible refine (foldl_fst_kept _ (fun s a => ?_) _ _).trans ?_ | with_reducible refine (foldl_kept _ (fun s a => ?_) _ _).trans ?_ | with_reducible refine ite_kept ?_ ?_ | with_reducible refine ite_eq_of ?_ ?_ | split | simp only [↓apply_ite State.kept, ite_self, ↓State.kept_mk, State.kept_eta, implies_true, ↓foldl_kept, ↓State.loseContext_kept, ↓State.setKey_kept])

theorem State.retireApply_kept (s : State) :
    (State.retireApply s).kept = s.kept := by
  simp only [State.retireApply] <;>
    repeat' (first | with_reducible rfl | with_reducible assumption | with_reducible refine ite_kept ?_ ?_ | with_reducible refine ite_eq_of ?_ ?_ | split | simp only [↓apply_ite State.kept, ite_self, ↓State.kept_mk, State.kept_eta, ↓State.markKey_kept, ↓State.mgIrq_kept])

theorem State.retirePiece_kept (s : State) (h : Nat) :
    (State.retirePiece s h).kept = s.kept := by
  simp only [State.retirePiece] <;>
    repeat' (first | with_reducible rfl | with_reducible assumption | with_reducible refine (foldl_fst_kept _ (fun s a => ?_) _ _).trans ?_ | with_reducible refine (foldl_kept _ (fun s a => ?_) _ _).trans ?_ | with_reducible refine ite_kept ?_ ?_ | with_reducible refine ite_eq_of ?_ ?_ | split | simp only [↓apply_ite State.kept, ite_self, ↓State.kept_mk, State.kept_eta, implies_true, ↓foldl_kept, ↓State.closeWindow_kept, ↓State.ring_kept, ↓State.setHome_kept, ↓State.setKey_kept])

theorem State.zeroizeNow_kept (s : State) (k res : Nat) :
    (State.zeroizeNow s k res).kept = s.kept := by
  simp only [State.zeroizeNow] <;>
    repeat' (first | with_reducible rfl | with_reducible assumption | with_reducible refine ite_kept ?_ ?_ | with_reducible refine ite_eq_of ?_ ?_ | split | simp only [↓apply_ite State.kept, ite_self, ↓State.kept_mk, State.kept_eta, ↓State.mgIrq_kept, ↓State.setKey_kept, ↓State.zeroizeKey_kept])

theorem State.keyZeroize_kept (s : State) (k : Nat) :
    (State.keyZeroize s k).kept = s.kept := by
  simp only [State.keyZeroize] <;>
    repeat' (first | with_reducible rfl | with_reducible assumption | with_reducible refine ite_kept ?_ ?_ | with_reducible refine ite_eq_of ?_ ?_ | split | simp only [↓apply_ite State.kept, ite_self, ↓State.kept_mk, State.kept_eta, ↓State.zeroizeNow_kept])

theorem State.keyForced_kept (s : State) (k : Nat) :
    (State.keyForced s k).kept = s.kept := by
  simp only [State.keyForced] <;>
    repeat' (first | with_reducible rfl | with_reducible assumption | with_reducible refine ite_kept ?_ ?_ | with_reducible refine ite_eq_of ?_ ?_ | split | simp only [↓apply_ite State.kept, ite_self, ↓State.kept_mk, State.kept_eta, ↓State.raise_kept, ↓State.zeroizeNow_kept])

theorem State.keyRelease_kept (s : State) (k : Nat) :
    (State.keyRelease s k).kept = s.kept := by
  simp only [State.keyRelease] <;>
    repeat' (first | with_reducible rfl | with_reducible assumption | with_reducible refine ite_kept ?_ ?_ | with_reducible refine ite_eq_of ?_ ?_ | split | simp only [↓apply_ite State.kept, ite_self, ↓State.kept_mk, State.kept_eta, ↓State.setKey_kept])

theorem State.ownWrite_kept (s : State) (op first count fn : Nat) :
    (State.ownWrite s op first count fn).kept = s.kept := by
  simp only [State.ownWrite] <;>
    repeat' (first | with_reducible rfl | with_reducible assumption | with_reducible refine ite_kept ?_ ?_ | with_reducible refine ite_eq_of ?_ ?_ | split | simp only [↓apply_ite State.kept, ite_self, ↓State.kept_mk, State.kept_eta, ↓State.count_kept])

theorem State.ownDone_kept (s : State) :
    (State.ownDone s).kept = s.kept := by
  simp only [State.ownDone] <;>
    repeat' (first | with_reducible rfl | with_reducible assumption | with_reducible refine ite_kept ?_ ?_ | with_reducible refine ite_eq_of ?_ ?_ | split | simp only [↓apply_ite State.kept, ite_self, ↓State.kept_mk, State.kept_eta, ↓State.mgIrq_kept])

theorem State.queueClean_kept (s : State) (gs : List Nat) (kind : CleanKind) (cmd : Bool) :
    (State.queueClean s gs kind cmd).kept = s.kept := by
  simp only [State.queueClean] <;>
    repeat' (first | with_reducible rfl | with_reducible assumption | with_reducible refine ite_kept ?_ ?_ | with_reducible refine ite_eq_of ?_ ?_ | split | simp only [↓apply_ite State.kept, ite_self, ↓State.kept_mk, State.kept_eta])

theorem State.cleanPiece_kept (s : State) (e : Nat) :
    (State.cleanPiece s e).kept = s.kept := by
  simp only [State.cleanPiece] <;>
    repeat' (first | with_reducible rfl | with_reducible assumption | with_reducible refine (foldl_fst_kept _ (fun s a => ?_) _ _).trans ?_ | with_reducible refine (foldl_kept _ (fun s a => ?_) _ _).trans ?_ | with_reducible refine ite_kept ?_ ?_ | with_reducible refine ite_eq_of ?_ ?_ | split | simp only [↓apply_ite State.kept, ite_self, ↓State.kept_mk, State.kept_eta, implies_true, ↓foldl_kept, ↓State.setEngine_kept, ↓State.wbPush_kept])

theorem State.stageFresh_kept (s : State) (k f : Nat) :
    (State.stageFresh s k f).kept = s.kept := by
  simp only [State.stageFresh] <;>
    repeat' (first | with_reducible rfl | with_reducible assumption | with_reducible refine ite_kept ?_ ?_ | with_reducible refine ite_eq_of ?_ ?_ | split | simp only [↓apply_ite State.kept, ite_self, ↓State.kept_mk, State.kept_eta, ↓State.setKey_kept, ↓State.stageKey_kept])

theorem State.restageKeys_kept (s : State) (f : Nat) :
    (State.restageKeys s f).kept = s.kept := by
  simp only [State.restageKeys] <;>
    repeat' (first | with_reducible rfl | with_reducible assumption | with_reducible refine (foldl_fst_kept _ (fun s a => ?_) _ _).trans ?_ | with_reducible refine (foldl_kept _ (fun s a => ?_) _ _).trans ?_ | with_reducible refine ite_kept ?_ ?_ | with_reducible refine ite_eq_of ?_ ?_ | split | simp only [↓apply_ite State.kept, ite_self, ↓State.kept_mk, State.kept_eta, implies_true, ↓foldl_kept, ↓State.stageFresh_kept])

theorem State.doomStep_kept (s : State) (k : Nat) :
    (State.doomStep s k).kept = s.kept := by
  simp only [State.doomStep] <;>
    repeat' (first | with_reducible rfl | with_reducible assumption | with_reducible refine ite_kept ?_ ?_ | with_reducible refine ite_eq_of ?_ ?_ | split | simp only [↓apply_ite State.kept, ite_self, ↓State.kept_mk, State.kept_eta, ↓State.markKey_kept, ↓State.setKey_kept])

theorem State.reportAsk_kept (s : State) (f : Nat) :
    (State.reportAsk s f).kept = s.kept := by
  simp only [State.reportAsk] <;>
    repeat' (first | with_reducible rfl | with_reducible assumption | with_reducible refine ite_kept ?_ ?_ | with_reducible refine ite_eq_of ?_ ?_ | split | simp only [↓apply_ite State.kept, ite_self, ↓State.kept_mk, State.kept_eta, ↓State.setView_kept])

theorem State.reportRefuse_kept (s : State) (f : Nat) :
    (State.reportRefuse s f).kept = s.kept := by
  simp only [State.reportRefuse] <;>
    repeat' (first | with_reducible rfl | with_reducible assumption | with_reducible refine ite_kept ?_ ?_ | with_reducible refine ite_eq_of ?_ ?_ | split | simp only [↓apply_ite State.kept, ite_self, ↓State.kept_mk, State.kept_eta, ↓State.hostIrq_kept, ↓State.setView_kept])

theorem State.reportCapture_kept (s : State) (f : Nat) :
    (State.reportCapture s f).kept = s.kept := by
  simp only [State.reportCapture] <;>
    repeat' (first | with_reducible rfl | with_reducible assumption | with_reducible refine ite_kept ?_ ?_ | with_reducible refine ite_eq_of ?_ ?_ | split | simp only [↓apply_ite State.kept, ite_self, ↓State.kept_mk, State.kept_eta, ↓State.reportRefuse_kept, ↓State.setView_kept])

theorem State.reportReady_kept (s : State) (f : Nat) :
    (State.reportReady s f).kept = s.kept := by
  simp only [State.reportReady] <;>
    repeat' (first | with_reducible rfl | with_reducible assumption | with_reducible refine ite_kept ?_ ?_ | with_reducible refine ite_eq_of ?_ ?_ | split | simp only [↓apply_ite State.kept, ite_self, ↓State.kept_mk, State.kept_eta, ↓State.hostIrq_kept, ↓State.reportRefuse_kept, ↓State.setView_kept])

theorem State.reportReq_kept (s : State) (f tag : Nat) :
    (State.reportReq s f tag).kept = s.kept := by
  simp only [State.reportReq] <;>
    repeat' (first | with_reducible rfl | with_reducible assumption | with_reducible refine ite_kept ?_ ?_ | with_reducible refine ite_eq_of ?_ ?_ | split | simp only [↓apply_ite State.kept, ite_self, ↓State.kept_mk, State.kept_eta, ↓State.hostRsp_kept, ↓State.reportAsk_kept])

theorem State.submitDesc_kept (s : State) (f tag c : Nat) (w7 : Reg) :
    (State.submitDesc s f tag c w7).kept = s.kept := by
  simp only [State.submitDesc] <;>
    repeat' (first | with_reducible rfl | with_reducible assumption | with_reducible refine (State.submitJob_kept' (by assumption)).trans ?_ | with_reducible refine (kept_of_eq (by assumption)).trans ?_ | with_reducible refine (kept_of_eq2 (by assumption)).trans ?_ | with_reducible refine ite_kept ?_ ?_ | with_reducible refine ite_eq_of ?_ ?_ | split | simp only [↓apply_ite State.kept, ite_self, ↓State.kept_mk, State.kept_eta, ↓apply_ite Prod.fst, ↓apply_ite Prod.snd, ↓State.denied_kept, ↓State.hostRsp_kept, ↓State.raise_kept, ↓State.setView_kept, ↓State.submitJob_kept])

theorem State.traceCtrl_kept (s : State) (c : Nat) (d : Reg) :
    (State.traceCtrl s c d).kept = s.kept := by
  simp only [State.traceCtrl] <;>
    repeat' (first | with_reducible rfl | with_reducible assumption | with_reducible refine ite_kept ?_ ?_ | with_reducible refine ite_eq_of ?_ ?_ | split | simp only [↓apply_ite State.kept, ite_self, ↓State.kept_mk, State.kept_eta, ↓State.setSlot_kept])

theorem State.viewRead_kept (s : State) (f off : Nat) :
    (State.viewRead s f off).2.kept = s.kept := by
  simp only [State.viewRead] <;>
    repeat' (first | with_reducible rfl | with_reducible assumption | with_reducible refine (State.drainedRead_kept' (by assumption)).trans ?_ | with_reducible refine (kept_of_eq (by assumption)).trans ?_ | with_reducible refine (kept_of_eq2 (by assumption)).trans ?_ | with_reducible refine ite_kept ?_ ?_ | with_reducible refine ite_eq_of ?_ ?_ | split | simp only [↓apply_ite State.kept, ite_self, ↓State.kept_mk, State.kept_eta, ↓apply_ite Prod.fst, ↓apply_ite Prod.snd, ↓State.drainedRead_kept])

theorem State.viewRead_kept' {s : State} {f off : Nat} {x₁} {t₁} (hc : State.viewRead s f off = (x₁, t₁)) :
    t₁.kept = s.kept := by
  have e := State.viewRead_kept s f off
  rw [hc] at e
  exact e

theorem State.viewWrite_kept (s : State) (f tag off : Nat) (d : Reg) : (State.viewWrite s f tag off d).kept = s.kept := by
  unfold State.viewWrite
  extract_lets o v ok slotReg
  have hok : ∀ t : State, (ok t).kept = t.kept := fun t => State.hostRsp_kept _ _ _ _
  have hs : ∀ c act, (∀ t, (act t).kept = t.kept) → (slotReg c act).kept = s.kept := by
    intro c act h
    refine ite_kept ?_ ?_
    · rw [hok, h]
    · exact State.hostRsp_kept _ _ _ _
  clear_value o v ok slotReg
  repeat' (first | with_reducible refine ite_kept ?_ ?_ | exact State.setView_kept _ _ _ | with_reducible exact hs _ _ (fun t => by simp only [↓State.setSlot_kept, ↓State.setView_kept, ↓State.traceCtrl_kept, ↓apply_ite State.kept, ite_self, id]) | simp only [hok, ↓apply_ite State.kept, ite_self, ↓State.ctxCmd_kept, ↓State.hostRsp_kept, ↓State.retryNote_kept, ↓State.note_kept, ↓State.kfenceArm_kept, ↓State.objCmd_kept, ↓State.reportAsk_kept, ↓State.setSlot_kept, ↓State.setView_kept, ↓State.submitDesc_kept, ↓State.traceCtrl_kept, ↓State.usageAsk_kept, id] | extract_lets | (intro t; rfl))

theorem State.viewAccess_kept (s : State) (op : Nat) (r : HostReq) :
    (State.viewAccess s op r).kept = s.kept := by
  simp only [State.viewAccess] <;>
    repeat' (first | with_reducible rfl | with_reducible assumption | with_reducible refine (State.viewRead_kept' (by assumption)).trans ?_ | with_reducible refine (kept_of_eq (by assumption)).trans ?_ | with_reducible refine (kept_of_eq2 (by assumption)).trans ?_ | with_reducible refine ite_kept ?_ ?_ | with_reducible refine ite_eq_of ?_ ?_ | split | simp only [↓apply_ite State.kept, ite_self, ↓State.kept_mk, State.kept_eta, ↓apply_ite Prod.fst, ↓apply_ite Prod.snd, ↓State.denied_kept, ↓State.hostRsp_kept, ↓State.viewRead_kept, ↓State.viewWrite_kept])

theorem State.serveHost_kept (s : State) (op : Nat) (r : HostReq) (held : Bool) :
    (State.serveHost s op r held).kept = s.kept := by
  simp only [State.serveHost] <;>
    repeat' (first | with_reducible rfl | with_reducible assumption | with_reducible refine ite_kept ?_ ?_ | with_reducible refine ite_eq_of ?_ ?_ | split | simp only [↓apply_ite State.kept, ite_self, ↓State.kept_mk, State.kept_eta, ↓State.accept_kept, ↓State.denied_kept, ↓State.hostRsp_kept, ↓State.retryNote_kept, ↓State.start_kept])

theorem State.hostMemory_kept (s : State) (op : Nat) (r : HostReq) (cmd : Instr) :
    (State.hostMemory s op r cmd).kept = s.kept := by
  simp only [State.hostMemory] <;>
    repeat' (first | with_reducible rfl | with_reducible assumption | with_reducible refine (State.holdReq_kept _ _ _ _ _ _ _ (fun s a0 a1 => ?_)).trans ?_ | with_reducible refine ite_kept ?_ ?_ | with_reducible refine ite_eq_of ?_ ?_ | split | simp only [↓apply_ite State.kept, ite_self, ↓State.kept_mk, State.kept_eta, implies_true, ↓State.holdReq_kept, ↓State.hostRsp_kept, ↓State.hostSay_kept, ↓State.serveHost_kept])

theorem State.fenceSignal_kept (s : State) (i : Nat) (v : Reg) :
    (State.fenceSignal s i v).kept = s.kept := by
  simp only [State.fenceSignal] <;>
    repeat' (first | with_reducible rfl | with_reducible assumption | with_reducible refine ite_kept ?_ ?_ | with_reducible refine ite_eq_of ?_ ?_ | split | simp only [↓apply_ite State.kept, ite_self, ↓State.kept_mk, State.kept_eta, ↓State.fencePageIrq_kept, ↓State.setFence_kept])

theorem State.fenceAccess_kept (s : State) (op : Nat) (r : HostReq) :
    (State.fenceAccess s op r).kept = s.kept := by
  simp only [State.fenceAccess] <;>
    repeat' (first | with_reducible rfl | with_reducible assumption | with_reducible refine ite_kept ?_ ?_ | with_reducible refine ite_eq_of ?_ ?_ | split | simp only [↓apply_ite State.kept, ite_self, ↓State.kept_mk, State.kept_eta, ↓State.fenceSignal_kept, ↓State.hostRsp_kept, ↓State.retryNote_kept, ↓State.setFence_kept])

theorem State.hostServe_kept (s : State) (op : Nat) (r : HostReq) (held : Bool) :
    (State.hostServe s op r held).kept = s.kept := by
  simp only [State.hostServe] <;>
    repeat' (first | with_reducible rfl | with_reducible assumption | with_reducible refine ite_kept ?_ ?_ | with_reducible refine ite_eq_of ?_ ?_ | split | simp only [↓apply_ite State.kept, ite_self, ↓State.kept_mk, State.kept_eta, ↓State.fenceAccess_kept, ↓State.serveHost_kept, ↓State.viewAccess_kept])

theorem State.hostReq_kept (s : State) (op : Nat) (r : HostReq) (cmd : Instr) :
    (State.hostReq s op r cmd).kept = s.kept := by
  simp only [State.hostReq] <;>
    repeat' (first | with_reducible rfl | with_reducible assumption | with_reducible refine (State.hostArrive_kept' (by assumption)).trans ?_ | with_reducible refine (State.hostGate_kept _ _ _ _ _ (fun s => ?_)).trans ?_ | with_reducible refine (kept_of_eq (by assumption)).trans ?_ | with_reducible refine (kept_of_eq2 (by assumption)).trans ?_ | with_reducible refine ite_kept ?_ ?_ | with_reducible refine ite_eq_of ?_ ?_ | split | simp only [↓apply_ite State.kept, ite_self, ↓State.kept_mk, State.kept_eta, implies_true, ↓apply_ite Prod.fst, ↓apply_ite Prod.snd, ↓State.denied_kept, ↓State.hostArrive_kept, ↓State.hostGate_kept, ↓State.hostMemory_kept, ↓State.hostRsp_kept, ↓State.hostServe_kept, ↓State.portEvent_kept])

theorem State.traceReq_kept (s : State) (f tag c : Nat) (ctrl : Reg) :
    (State.traceReq s f tag c ctrl).kept = s.kept := by
  simp only [State.traceReq] <;>
    repeat' (first | with_reducible rfl | with_reducible assumption | with_reducible refine ite_kept ?_ ?_ | with_reducible refine ite_eq_of ?_ ?_ | split | simp only [↓apply_ite State.kept, ite_self, ↓State.kept_mk, State.kept_eta, ↓State.denied_kept, ↓State.hostRsp_kept, ↓State.traceCtrl_kept])

end Sys2Proof.Machine
end

