-- ==== Sys2Proof/Laws/KeptLinks.lean ====
section
/-! SUPPORT. The operations of the image, the regulator, the links, faults and recovery keep `State.kept`. -/

set_option maxRecDepth 4000
set_option linter.all false

namespace Sys2Proof.Machine

theorem State.heldTile_kept (s : State) (port : Nat) (r : TpReq) (serve : State → Bound → State) (h_serve : ∀ s a0, (serve s a0).kept = s.kept) :
    (State.heldTile s port r serve).kept = s.kept := by
  simp only [State.heldTile] <;>
    repeat' (first | with_reducible rfl | with_reducible assumption | with_reducible refine ite_kept ?_ ?_ | with_reducible refine ite_eq_of ?_ ?_ | split | simp only [↓apply_ite State.kept, ite_self, ↓State.kept_mk, State.kept_eta, ↓State.denied_kept, ↓State.tileRsp_kept, h_serve])

theorem State.serveHeld_kept (s : State) (h : HeldReq) :
    (State.serveHeld s h).kept = s.kept := by
  simp only [State.serveHeld] <;>
    repeat' (first | with_reducible rfl | with_reducible assumption | with_reducible refine (State.ctxCreate_kept' (by assumption)).trans ?_ | with_reducible refine (State.ctxLoad_kept' (by assumption)).trans ?_ | with_reducible refine (State.objCreate_kept' (by assumption)).trans ?_ | with_reducible refine (State.heldTile_kept _ _ _ _ (fun s a0 => ?_)).trans ?_ | with_reducible refine (kept_of_eq (by assumption)).trans ?_ | with_reducible refine (kept_of_eq2 (by assumption)).trans ?_ | with_reducible refine ite_kept ?_ ?_ | with_reducible refine ite_eq_of ?_ ?_ | split | simp only [↓apply_ite State.kept, ite_self, ↓State.kept_mk, State.kept_eta, implies_true, ↓apply_ite Prod.fst, ↓apply_ite Prod.snd, ↓State.ctxCmd_kept, ↓State.ctxCreate_kept, ↓State.ctxLoad_kept, ↓State.drainedRsp_kept, ↓State.heldTile_kept, ↓State.hostServe_kept, ↓State.kfenceArm_kept, ↓State.objCmd_kept, ↓State.objCreate_kept, ↓State.reportReq_kept, ↓State.serveAtomic_kept, ↓State.serveRead_kept, ↓State.serveReduce_kept, ↓State.serveSeq_kept, ↓State.serveWrite_kept, ↓State.setKey_kept, ↓State.submitDesc_kept, ↓State.tileSubmit_kept, ↓State.traceReq_kept, ↓State.usageReq_kept])

theorem State.letGo_kept (s : State) (h : HeldReq) :
    (State.letGo s h).kept = s.kept := by
  simp only [State.letGo] <;>
    repeat' (first | with_reducible rfl | with_reducible assumption | with_reducible refine ite_kept ?_ ?_ | with_reducible refine ite_eq_of ?_ ?_ | split | simp only [↓apply_ite State.kept, ite_self, ↓State.kept_mk, State.kept_eta, ↓State.serveHeld_kept])

theorem State.openGates_kept (s : State) :
    (State.openGates s).kept = s.kept := by
  simp only [State.openGates] <;>
    repeat' (first | with_reducible rfl | with_reducible assumption | with_reducible refine (foldl_fst_kept _ (fun s a => ?_) _ _).trans ?_ | with_reducible refine (foldl_kept _ (fun s a => ?_) _ _).trans ?_ | with_reducible refine ite_kept ?_ ?_ | with_reducible refine ite_eq_of ?_ ?_ | split | simp only [↓apply_ite State.kept, ite_self, ↓State.kept_mk, State.kept_eta, implies_true, ↓foldl_kept, ↓State.letGo_kept])

theorem State.heldLate_kept (s : State) (h : HeldReq) :
    (State.heldLate s h).kept = s.kept := by
  simp only [State.heldLate] <;>
    repeat' (first | with_reducible rfl | with_reducible assumption | with_reducible refine ite_kept ?_ ?_ | with_reducible refine ite_eq_of ?_ ?_ | split | simp only [↓apply_ite State.kept, ite_self, ↓State.kept_mk, State.kept_eta, ↓State.letGo_kept, ↓State.onReq_kept, ↓State.outcome_kept])

theorem State.jobLate_kept (s : State) (j : Job) :
    (State.jobLate s j).kept = s.kept := by
  simp only [State.jobLate] <;>
    repeat' (first | with_reducible rfl | with_reducible assumption | with_reducible refine ite_kept ?_ ?_ | with_reducible refine ite_eq_of ?_ ?_ | split | simp only [↓apply_ite State.kept, ite_self, ↓State.kept_mk, State.kept_eta, ↓State.outcome_kept, ↓State.setJob_kept])

theorem State.jobAges_kept (s : State) :
    (State.jobAges s).kept = s.kept := by
  simp only [State.jobAges] <;>
    repeat' (first | with_reducible rfl | with_reducible assumption | with_reducible refine (foldl_fst_kept _ (fun s a => ?_) _ _).trans ?_ | with_reducible refine (foldl_kept _ (fun s a => ?_) _ _).trans ?_ | with_reducible refine ite_kept ?_ ?_ | with_reducible refine ite_eq_of ?_ ?_ | split | simp only [↓apply_ite State.kept, ite_self, ↓State.kept_mk, State.kept_eta, implies_true, ↓foldl_kept, ↓State.jobLate_kept])

theorem State.holdAges_kept (s : State) :
    (State.holdAges s).kept = s.kept := by
  simp only [State.holdAges] <;>
    repeat' (first | with_reducible rfl | with_reducible assumption | with_reducible refine (foldl_fst_kept _ (fun s a => ?_) _ _).trans ?_ | with_reducible refine (foldl_kept _ (fun s a => ?_) _ _).trans ?_ | with_reducible refine ite_kept ?_ ?_ | with_reducible refine ite_eq_of ?_ ?_ | split | simp only [↓apply_ite State.kept, ite_self, ↓State.kept_mk, State.kept_eta, implies_true, ↓foldl_kept, ↓State.heldLate_kept, ↓State.jobAges_kept])

theorem State.sampleQ_kept (s : State) (p q : Nat) :
    (State.sampleQ s p q).kept = s.kept := by
  simp only [State.sampleQ] <;>
    repeat' (first | with_reducible rfl | with_reducible assumption | with_reducible refine ite_kept ?_ ?_ | with_reducible refine ite_eq_of ?_ ?_ | split | simp only [↓apply_ite State.kept, ite_self, ↓State.kept_mk, State.kept_eta, ↓State.setMp_kept])

theorem State.throttleRise_kept (s : State) (p q : Nat) :
    (State.throttleRise s p q).kept = s.kept := by
  simp only [State.throttleRise] <;>
    repeat' (first | with_reducible rfl | with_reducible assumption | with_reducible refine ite_kept ?_ ?_ | with_reducible refine ite_eq_of ?_ ?_ | split | simp only [↓apply_ite State.kept, ite_self, ↓State.kept_mk, State.kept_eta, ↓State.openGates_kept, ↓State.sampleQ_kept, ↓State.setMp_kept])

theorem State.throttleFall_kept (s : State) (p q : Nat) :
    (State.throttleFall s p q).kept = s.kept := by
  simp only [State.throttleFall] <;>
    repeat' (first | with_reducible rfl | with_reducible assumption | with_reducible refine ite_kept ?_ ?_ | with_reducible refine ite_eq_of ?_ ?_ | split | simp only [↓apply_ite State.kept, ite_self, ↓State.kept_mk, State.kept_eta, ↓State.openGates_kept, ↓State.sampleQ_kept, ↓State.setMp_kept])

theorem State.measureAll_kept (s : State) :
    (State.measureAll s).kept = s.kept := by
  simp only [State.measureAll] <;>
    repeat' (first | with_reducible rfl | with_reducible assumption | with_reducible refine (foldl_fst_kept _ (fun s a => ?_) _ _).trans ?_ | with_reducible refine (foldl_kept _ (fun s a => ?_) _ _).trans ?_ | with_reducible refine ite_kept ?_ ?_ | with_reducible refine ite_eq_of ?_ ?_ | split | simp only [↓apply_ite State.kept, ite_self, ↓State.kept_mk, State.kept_eta, implies_true, ↓foldl_kept])

theorem State.targetUnmet_kept (s : State) (sl t : Nat) :
    (State.targetUnmet s sl t).kept = s.kept := by
  simp only [State.targetUnmet] <;>
    repeat' (first | with_reducible rfl | with_reducible assumption | with_reducible refine ite_kept ?_ ?_ | with_reducible refine ite_eq_of ?_ ?_ | split | simp only [↓apply_ite State.kept, ite_self, ↓State.kept_mk, State.kept_eta, ↓State.raise_kept])

theorem State.rampClass_kept (s : State) (sl t : Nat) :
    (State.rampClass s sl t).kept = s.kept := by
  simp only [State.rampClass] <;>
    repeat' (first | with_reducible rfl | with_reducible assumption | with_reducible refine (foldl_fst_kept _ (fun s a => ?_) _ _).trans ?_ | with_reducible refine (foldl_kept _ (fun s a => ?_) _ _).trans ?_ | with_reducible refine ite_kept ?_ ?_ | with_reducible refine ite_eq_of ?_ ?_ | split | simp only [↓apply_ite State.kept, ite_self, ↓State.kept_mk, State.kept_eta, implies_true, ↓foldl_kept, ↓State.targetUnmet_kept])

theorem State.rampUpdate_kept (s : State) :
    (State.rampUpdate s).kept = s.kept := by
  simp only [State.rampUpdate] <;>
    repeat' (first | with_reducible rfl | with_reducible assumption | with_reducible refine (foldl_fst_kept _ (fun s a => ?_) _ _).trans ?_ | with_reducible refine (foldl_kept _ (fun s a => ?_) _ _).trans ?_ | with_reducible refine ite_kept ?_ ?_ | with_reducible refine ite_eq_of ?_ ?_ | split | simp only [↓apply_ite State.kept, ite_self, ↓State.kept_mk, State.kept_eta, implies_true, ↓foldl_kept, ↓State.raise_kept, ↓State.rampClass_kept])

theorem State.markScaled_kept (s : State) (i : Nat) :
    (State.markScaled s i).kept = s.kept := by
  simp only [State.markScaled] <;>
    repeat' (first | with_reducible rfl | with_reducible assumption | with_reducible refine (foldl_fst_kept _ (fun s a => ?_) _ _).trans ?_ | with_reducible refine (foldl_kept _ (fun s a => ?_) _ _).trans ?_ | with_reducible refine ite_kept ?_ ?_ | with_reducible refine ite_eq_of ?_ ?_ | split | simp only [↓apply_ite State.kept, ite_self, ↓State.kept_mk, State.kept_eta, implies_true, ↓foldl_kept])

theorem State.refill_kept (s : State) :
    (State.refill s).kept = s.kept := by
  simp only [State.refill] <;>
    repeat' (first | with_reducible rfl | with_reducible assumption | with_reducible refine (State.fresh_kept' (by assumption)).trans ?_ | with_reducible refine (foldl_fst_kept _ (fun s a => ?_) _ _).trans ?_ | with_reducible refine (foldl_kept _ (fun s a => ?_) _ _).trans ?_ | with_reducible refine (kept_of_eq (by assumption)).trans ?_ | with_reducible refine (kept_of_eq2 (by assumption)).trans ?_ | with_reducible refine ite_kept ?_ ?_ | with_reducible refine ite_eq_of ?_ ?_ | split | simp only [↓apply_ite State.kept, ite_self, ↓State.kept_mk, State.kept_eta, implies_true, ↓foldl_kept, ↓apply_ite Prod.fst, ↓apply_ite Prod.snd, ↓State.fresh_kept, ↓State.markScaled_kept, ↓State.raise_kept, ↓State.rampUpdate_kept])

theorem State.urgRamps_kept (s : State) (n : Nat) :
    (State.urgRamps s n).kept = s.kept := by
  simp only [State.urgRamps] <;>
    repeat' (first | with_reducible rfl | with_reducible assumption | with_reducible refine (foldl_fst_kept _ (fun s a => ?_) _ _).trans ?_ | with_reducible refine (foldl_kept _ (fun s a => ?_) _ _).trans ?_ | with_reducible refine ite_kept ?_ ?_ | with_reducible refine ite_eq_of ?_ ?_ | split | simp only [↓apply_ite State.kept, ite_self, ↓State.kept_mk, State.kept_eta, implies_true, ↓foldl_kept])

theorem State.urgLevel_kept (s : State) (n l : Nat) :
    (State.urgLevel s n l).kept = s.kept := by
  simp only [State.urgLevel] <;>
    repeat' (first | with_reducible rfl | with_reducible assumption | with_reducible refine ite_kept ?_ ?_ | with_reducible refine ite_eq_of ?_ ?_ | split | simp only [↓apply_ite State.kept, ite_self, ↓State.kept_mk, State.kept_eta, ↓State.openGates_kept, ↓State.setUrg_kept, ↓State.urgRamps_kept])

theorem State.urgStarved_kept (s : State) (n : Nat) :
    (State.urgStarved s n).kept = s.kept := by
  simp only [State.urgStarved] <;>
    repeat' (first | with_reducible rfl | with_reducible assumption | with_reducible refine ite_kept ?_ ?_ | with_reducible refine ite_eq_of ?_ ?_ | split | simp only [↓apply_ite State.kept, ite_self, ↓State.kept_mk, State.kept_eta, ↓State.raise_kept, ↓State.setUrg_kept])

theorem State.urgTicks_kept (s : State) :
    (State.urgTicks s).kept = s.kept := by
  simp only [State.urgTicks] <;>
    repeat' (first | with_reducible rfl | with_reducible assumption | with_reducible refine (foldl_fst_kept _ (fun s a => ?_) _ _).trans ?_ | with_reducible refine (foldl_kept _ (fun s a => ?_) _ _).trans ?_ | with_reducible refine ite_kept ?_ ?_ | with_reducible refine ite_eq_of ?_ ?_ | split | simp only [↓apply_ite State.kept, ite_self, ↓State.kept_mk, State.kept_eta, implies_true, ↓foldl_kept, ↓State.setUrg_kept, ↓State.urgStarved_kept])

theorem State.implausible_kept (s : State) (p : Nat) :
    (State.implausible s p).kept = s.kept := by
  simp only [State.implausible] <;>
    repeat' (first | with_reducible rfl | with_reducible assumption | with_reducible refine ite_kept ?_ ?_ | with_reducible refine ite_eq_of ?_ ?_ | split | simp only [↓apply_ite State.kept, ite_self, ↓State.kept_mk, State.kept_eta, ↓State.raise_kept, ↓State.setMp_kept])

theorem State.restoreFb_kept (s : State) (p : Nat) :
    (State.restoreFb s p).kept = s.kept := by
  simp only [State.restoreFb] <;>
    repeat' (first | with_reducible rfl | with_reducible assumption | with_reducible refine ite_kept ?_ ?_ | with_reducible refine ite_eq_of ?_ ?_ | split | simp only [↓apply_ite State.kept, ite_self, ↓State.kept_mk, State.kept_eta, ↓State.implausible_kept, ↓State.setMp_kept])

theorem State.mpTick_kept (s : State) (p : Nat) :
    (State.mpTick s p).kept = s.kept := by
  simp only [State.mpTick] <;>
    repeat' (first | with_reducible rfl | with_reducible assumption | with_reducible refine ite_kept ?_ ?_ | with_reducible refine ite_eq_of ?_ ?_ | split | simp only [↓apply_ite State.kept, ite_self, ↓State.kept_mk, State.kept_eta, ↓State.implausible_kept, ↓State.setMp_kept])

theorem State.unstage_kept (s : State) (p : Nat → Bool) :
    (State.unstage s p).kept = s.kept := by
  simp only [State.unstage] <;>
    repeat' (first | with_reducible rfl | with_reducible assumption | with_reducible refine ite_kept ?_ ?_ | with_reducible refine ite_eq_of ?_ ?_ | split | simp only [↓apply_ite State.kept, ite_self, ↓State.kept_mk, State.kept_eta])

theorem State.qosApply_kept (s : State) :
    (State.qosApply s).kept = s.kept := by
  simp only [State.qosApply] <;>
    repeat' (first | with_reducible rfl | with_reducible assumption | with_reducible refine (foldl_fst_kept _ (fun s a => ?_) _ _).trans ?_ | with_reducible refine (foldl_kept _ (fun s a => ?_) _ _).trans ?_ | with_reducible refine ite_kept ?_ ?_ | with_reducible refine ite_eq_of ?_ ?_ | split | simp only [↓apply_ite State.kept, ite_self, ↓State.kept_mk, State.kept_eta, implies_true, ↓foldl_kept, ↓State.mgIrq_kept, ↓State.unstage_kept])

theorem State.qosArm_kept (s : State) :
    (State.qosArm s).kept = s.kept := by
  simp only [State.qosArm] <;>
    repeat' (first | with_reducible rfl | with_reducible assumption | with_reducible refine ite_kept ?_ ?_ | with_reducible refine ite_eq_of ?_ ?_ | split | simp only [↓apply_ite State.kept, ite_self, ↓State.kept_mk, State.kept_eta])

theorem State.qosDiscard_kept (s : State) :
    (State.qosDiscard s).kept = s.kept := by
  simp only [State.qosDiscard] <;>
    repeat' (first | with_reducible rfl | with_reducible assumption | with_reducible refine ite_kept ?_ ?_ | with_reducible refine ite_eq_of ?_ ?_ | split | simp only [↓apply_ite State.kept, ite_self, ↓State.kept_mk, State.kept_eta])

theorem State.stageClass_kept (s : State) (sl t : Nat) (c : QosClass) :
    (State.stageClass s sl t c).kept = s.kept := by
  simp only [State.stageClass] <;>
    repeat' (first | with_reducible rfl | with_reducible assumption | with_reducible refine ite_kept ?_ ?_ | with_reducible refine ite_eq_of ?_ ?_ | split | simp only [↓apply_ite State.kept, ite_self, ↓State.kept_mk, State.kept_eta])

theorem State.stageSlice_kept (s : State) (sl : Nat) (c : QosSlice) :
    (State.stageSlice s sl c).kept = s.kept := by
  simp only [State.stageSlice] <;>
    repeat' (first | with_reducible rfl | with_reducible assumption | with_reducible refine ite_kept ?_ ?_ | with_reducible refine ite_eq_of ?_ ?_ | split | simp only [↓apply_ite State.kept, ite_self, ↓State.kept_mk, State.kept_eta])

theorem State.proxyGrant_kept (s : State) (t : Txn) (st : Status) (state : Nat) (data : Line) :
    (State.proxyGrant s t st state data).kept = s.kept := by
  simp only [State.proxyGrant] <;>
    repeat' (first | with_reducible rfl | with_reducible assumption | with_reducible refine ite_kept ?_ ?_ | with_reducible refine ite_eq_of ?_ ?_ | split | simp only [↓apply_ite State.kept, ite_self, ↓State.kept_mk, State.kept_eta, ↓State.finish_kept, ↓State.setFilt_kept, ↓State.settle_kept])

theorem State.remoteEnd_kept (s : State) (r : RemoteReq) (st : Status) (state : Nat) (data : Line) :
    (State.remoteEnd s r st state data).kept = s.kept := by
  simp only [State.remoteEnd] <;>
    repeat' (first | with_reducible rfl | with_reducible assumption | with_reducible refine ite_kept ?_ ?_ | with_reducible refine ite_eq_of ?_ ?_ | split | simp only [↓apply_ite State.kept, ite_self, ↓State.kept_mk, State.kept_eta, ↓State.proxyGrant_kept, ↓State.setTxn_kept, ↓State.settle_kept, ↓State.tileRsp_kept, ↓State.use_kept])

theorem State.abandon_kept (s : State) (n : Nat) (m : SentMsg) :
    (State.abandon s n m).kept = s.kept := by
  simp only [State.abandon] <;>
    repeat' (first | with_reducible rfl | with_reducible assumption | with_reducible refine ite_kept ?_ ?_ | with_reducible refine ite_eq_of ?_ ?_ | split | simp only [↓apply_ite State.kept, ite_self, ↓State.kept_mk, State.kept_eta, ↓State.remoteEnd_kept, ↓State.setSa_kept])

theorem State.resend_kept (s : State) (n : Nat) (m : SentMsg) (avoid : Option Nat) :
    (State.resend s n m avoid).kept = s.kept := by
  simp only [State.resend] <;>
    repeat' (first | with_reducible rfl | with_reducible assumption | with_reducible refine ite_kept ?_ ?_ | with_reducible refine ite_eq_of ?_ ?_ | split | simp only [↓apply_ite State.kept, ite_self, ↓State.kept_mk, State.kept_eta, ↓State.note_kept, ↓State.transmit_kept])

theorem State.pumpAll_kept (s : State) (ns : List Nat) :
    (State.pumpAll s ns).kept = s.kept := by
  simp only [State.pumpAll] <;>
    repeat' (first | with_reducible rfl | with_reducible assumption | with_reducible refine (foldl_fst_kept _ (fun s a => ?_) _ _).trans ?_ | with_reducible refine (foldl_kept _ (fun s a => ?_) _ _).trans ?_ | with_reducible refine ite_kept ?_ ?_ | with_reducible refine ite_eq_of ?_ ?_ | split | simp only [↓apply_ite State.kept, ite_self, ↓State.kept_mk, State.kept_eta, implies_true, ↓foldl_kept, ↓State.transmit_kept])

theorem State.pump_kept (s : State) (n : Nat) :
    (State.pump s n).kept = s.kept := by
  simp only [State.pump] <;>
    repeat' (first | with_reducible rfl | with_reducible assumption | with_reducible refine ite_kept ?_ ?_ | with_reducible refine ite_eq_of ?_ ?_ | split | simp only [↓apply_ite State.kept, ite_self, ↓State.kept_mk, State.kept_eta, ↓State.pumpAll_kept])

theorem State.respray_kept (s : State) (t : Nat) :
    (State.respray s t).kept = s.kept := by
  simp only [State.respray] <;>
    repeat' (first | with_reducible rfl | with_reducible assumption | with_reducible refine (foldl_fst_kept _ (fun s a => ?_) _ _).trans ?_ | with_reducible refine (foldl_kept _ (fun s a => ?_) _ _).trans ?_ | with_reducible refine ite_kept ?_ ?_ | with_reducible refine ite_eq_of ?_ ?_ | split | simp only [↓apply_ite State.kept, ite_self, ↓State.kept_mk, State.kept_eta, implies_true, ↓foldl_kept, ↓State.resend_kept])

theorem State.tineFails_kept (s : State) (t cause : Nat) :
    (State.tineFails s t cause).kept = s.kept := by
  simp only [State.tineFails] <;>
    repeat' (first | with_reducible rfl | with_reducible assumption | with_reducible refine ite_kept ?_ ?_ | with_reducible refine ite_eq_of ?_ ?_ | split | simp only [↓apply_ite State.kept, ite_self, ↓State.kept_mk, State.kept_eta, ↓State.respray_kept, ↓State.setTine_kept])

theorem State.tineDown_kept (s : State) (t : Nat) :
    (State.tineDown s t).kept = s.kept := by
  simp only [State.tineDown] <;>
    repeat' (first | with_reducible rfl | with_reducible assumption | with_reducible refine (foldl_fst_kept _ (fun s a => ?_) _ _).trans ?_ | with_reducible refine (foldl_kept _ (fun s a => ?_) _ _).trans ?_ | with_reducible refine ite_kept ?_ ?_ | with_reducible refine ite_eq_of ?_ ?_ | split | simp only [↓apply_ite State.kept, ite_self, ↓State.kept_mk, State.kept_eta, implies_true, ↓foldl_kept, ↓State.raise_kept, ↓State.tineFails_kept])

theorem State.rto_kept (s : State) (n msn : Nat) :
    (State.rto s n msn).kept = s.kept := by
  simp only [State.rto] <;>
    repeat' (first | with_reducible rfl | with_reducible assumption | with_reducible refine ite_kept ?_ ?_ | with_reducible refine ite_eq_of ?_ ?_ | split | simp only [↓apply_ite State.kept, ite_self, ↓State.kept_mk, State.kept_eta, ↓State.raise_kept, ↓State.resend_kept, ↓State.setPath_kept, ↓State.tineDown_kept])

theorem State.transferLate_kept (s : State) (n msn : Nat) :
    (State.transferLate s n msn).kept = s.kept := by
  simp only [State.transferLate] <;>
    repeat' (first | with_reducible rfl | with_reducible assumption | with_reducible refine ite_kept ?_ ?_ | with_reducible refine ite_eq_of ?_ ?_ | split | simp only [↓apply_ite State.kept, ite_self, ↓State.kept_mk, State.kept_eta, ↓State.abandon_kept, ↓State.raise_kept])

theorem State.ackSend_kept (s : State) (n path : Nat) :
    (State.ackSend s n path).kept = s.kept := by
  simp only [State.ackSend] <;>
    repeat' (first | with_reducible rfl | with_reducible assumption | with_reducible refine (State.sealFrame_kept' (by assumption)).trans ?_ | with_reducible refine (foldl_fst_kept _ (fun s a => ?_) _ _).trans ?_ | with_reducible refine (foldl_kept _ (fun s a => ?_) _ _).trans ?_ | with_reducible refine (kept_of_eq (by assumption)).trans ?_ | with_reducible refine (kept_of_eq2 (by assumption)).trans ?_ | with_reducible refine ite_kept ?_ ?_ | with_reducible refine ite_eq_of ?_ ?_ | split | simp only [↓apply_ite State.kept, ite_self, ↓State.kept_mk, State.kept_eta, implies_true, ↓foldl_kept, ↓apply_ite Prod.fst, ↓apply_ite Prod.snd, ↓State.emitCtl_kept, ↓State.sealFrame_kept, ↓State.setPath_kept])

theorem State.psnTaken_kept (s : State) (n path psn : Nat) :
    (State.psnTaken s n path psn).kept = s.kept := by
  simp only [State.psnTaken] <;>
    repeat' (first | with_reducible rfl | with_reducible assumption | with_reducible refine ite_kept ?_ ?_ | with_reducible refine ite_eq_of ?_ ?_ | split | simp only [↓apply_ite State.kept, ite_self, ↓State.kept_mk, State.kept_eta, ↓State.ackSend_kept, ↓State.setPath_kept])

theorem State.msnTaken_kept (s : State) (n msn : Nat) :
    (State.msnTaken s n msn).kept = s.kept := by
  simp only [State.msnTaken] <;>
    repeat' (first | with_reducible rfl | with_reducible assumption | with_reducible refine (foldl_fst_kept _ (fun s a => ?_) _ _).trans ?_ | with_reducible refine (foldl_kept _ (fun s a => ?_) _ _).trans ?_ | with_reducible refine ite_kept ?_ ?_ | with_reducible refine ite_eq_of ?_ ?_ | split | simp only [↓apply_ite State.kept, ite_self, ↓State.kept_mk, State.kept_eta, implies_true, ↓foldl_kept, ↓State.setSa_kept])

theorem State.ackTaken_kept (s : State) (rs : Nat) (f : Frame) :
    (State.ackTaken s rs f).kept = s.kept := by
  simp only [State.ackTaken] <;>
    repeat' (first | with_reducible rfl | with_reducible assumption | with_reducible refine (foldl_fst_kept _ (fun s a => ?_) _ _).trans ?_ | with_reducible refine (foldl_kept _ (fun s a => ?_) _ _).trans ?_ | with_reducible refine ite_kept ?_ ?_ | with_reducible refine ite_eq_of ?_ ?_ | split | simp only [↓apply_ite State.kept, ite_self, ↓State.kept_mk, State.kept_eta, implies_true, ↓foldl_kept, ↓State.pump_kept, ↓State.resend_kept, ↓State.setPath_kept, ↓State.setSa_kept])

theorem State.windowsGrow_kept (s : State) :
    (State.windowsGrow s).kept = s.kept := by
  simp only [State.windowsGrow] <;>
    repeat' (first | with_reducible rfl | with_reducible assumption | with_reducible refine (foldl_fst_kept _ (fun s a => ?_) _ _).trans ?_ | with_reducible refine (foldl_kept _ (fun s a => ?_) _ _).trans ?_ | with_reducible refine ite_kept ?_ ?_ | with_reducible refine ite_eq_of ?_ ?_ | split | simp only [↓apply_ite State.kept, ite_self, ↓State.kept_mk, State.kept_eta, implies_true, ↓foldl_kept, ↓State.setPath_kept])

theorem State.xoffDrive_kept (s : State) (t : Nat) :
    (State.xoffDrive s t).kept = s.kept := by
  simp only [State.xoffDrive] <;>
    repeat' (first | with_reducible rfl | with_reducible assumption | with_reducible refine ite_kept ?_ ?_ | with_reducible refine ite_eq_of ?_ ?_ | split | simp only [↓apply_ite State.kept, ite_self, ↓State.kept_mk, State.kept_eta, ↓State.emit_kept, ↓State.setTine_kept])

theorem State.xoffAll_kept (s : State) :
    (State.xoffAll s).kept = s.kept := by
  simp only [State.xoffAll] <;>
    repeat' (first | with_reducible rfl | with_reducible assumption | with_reducible refine (foldl_fst_kept _ (fun s a => ?_) _ _).trans ?_ | with_reducible refine (foldl_kept _ (fun s a => ?_) _ _).trans ?_ | with_reducible refine ite_kept ?_ ?_ | with_reducible refine ite_eq_of ?_ ?_ | split | simp only [↓apply_ite State.kept, ite_self, ↓State.kept_mk, State.kept_eta, implies_true, ↓foldl_kept, ↓State.xoffDrive_kept])

theorem State.frameDrop_kept (s : State) (t : Nat) :
    (State.frameDrop s t).kept = s.kept := by
  simp only [State.frameDrop] <;>
    repeat' (first | with_reducible rfl | with_reducible assumption | with_reducible refine ite_kept ?_ ?_ | with_reducible refine ite_eq_of ?_ ?_ | split | simp only [↓apply_ite State.kept, ite_self, ↓State.kept_mk, State.kept_eta, ↓State.setTine_kept])

theorem State.admitRaise_kept (s : State) (t kind : Nat) :
    (State.admitRaise s t kind).kept = s.kept := by
  simp only [State.admitRaise] <;>
    repeat' (first | with_reducible rfl | with_reducible assumption | with_reducible refine ite_kept ?_ ?_ | with_reducible refine ite_eq_of ?_ ?_ | split | simp only [↓apply_ite State.kept, ite_self, ↓State.kept_mk, State.kept_eta, ↓State.raise_kept, ↓State.setTine_kept])

theorem State.judgeFrame_kept (s : State) (t : Nat) (f : Frame) :
    (State.judgeFrame s t f).1.kept = s.kept := by
  simp only [State.judgeFrame] <;>
    repeat' (first | with_reducible rfl | with_reducible assumption | with_reducible refine ite_kept ?_ ?_ | with_reducible refine ite_eq_of ?_ ?_ | split | simp only [↓apply_ite State.kept, ite_self, ↓State.kept_mk, State.kept_eta, ↓apply_ite Prod.fst, ↓apply_ite Prod.snd, ↓State.admitRaise_kept, ↓State.count_kept, ↓State.frameDrop_kept, ↓State.pauseSeen_kept, ↓State.portEvent_kept, ↓State.setSa_kept])

theorem State.judgeFrame_kept' {s : State} {t : Nat} {f : Frame} {t₁} {x₁} (hc : State.judgeFrame s t f = (t₁, x₁)) :
    t₁.kept = s.kept := by
  have e := State.judgeFrame_kept s t f
  rw [hc] at e
  exact e

theorem State.msgIn_kept (s : State) (t n tc path psn msn : Nat) (m : LinkMsg) :
    (State.msgIn s t n tc path psn msn m).1.kept = s.kept := by
  simp only [State.msgIn] <;>
    repeat' (first | with_reducible rfl | with_reducible assumption | with_reducible refine ite_kept ?_ ?_ | with_reducible refine ite_eq_of ?_ ?_ | split | simp only [↓apply_ite State.kept, ite_self, ↓State.kept_mk, State.kept_eta, ↓apply_ite Prod.fst, ↓apply_ite Prod.snd, ↓State.outcome_kept, ↓State.portEvent_kept, ↓State.raise_kept])

theorem State.msgIn_kept' {s : State} {t n tc path psn msn : Nat} {m : LinkMsg} {t₁} {x₁} (hc : State.msgIn s t n tc path psn msn m = (t₁, x₁)) :
    t₁.kept = s.kept := by
  have e := State.msgIn_kept s t n tc path psn msn m
  rw [hc] at e
  exact e

theorem State.dataIn_kept (s : State) (t : Nat) (f : Frame) :
    (State.dataIn s t f).kept = s.kept := by
  simp only [State.dataIn] <;>
    repeat' (first | with_reducible rfl | with_reducible assumption | with_reducible refine (State.judgeFrame_kept' (by assumption)).trans ?_ | with_reducible refine (State.msgIn_kept' (by assumption)).trans ?_ | with_reducible refine (foldl_fst_kept _ (fun s a => ?_) _ _).trans ?_ | with_reducible refine (foldl_kept _ (fun s a => ?_) _ _).trans ?_ | with_reducible refine (kept_of_eq (by assumption)).trans ?_ | with_reducible refine (kept_of_eq2 (by assumption)).trans ?_ | with_reducible refine ite_kept ?_ ?_ | with_reducible refine ite_eq_of ?_ ?_ | split | simp only [↓apply_ite State.kept, ite_self, ↓State.kept_mk, State.kept_eta, implies_true, ↓foldl_kept, ↓apply_ite Prod.fst, ↓apply_ite Prod.snd, ↓State.frameDrop_kept, ↓State.judgeFrame_kept, ↓State.msgIn_kept, ↓State.note_kept, ↓State.psnTaken_kept, ↓State.setPath_kept])

theorem State.ackIn_kept (s : State) (t : Nat) (f : Frame) :
    (State.ackIn s t f).kept = s.kept := by
  simp only [State.ackIn] <;>
    repeat' (first | with_reducible rfl | with_reducible assumption | with_reducible refine (State.judgeFrame_kept' (by assumption)).trans ?_ | with_reducible refine (kept_of_eq (by assumption)).trans ?_ | with_reducible refine (kept_of_eq2 (by assumption)).trans ?_ | with_reducible refine ite_kept ?_ ?_ | with_reducible refine ite_eq_of ?_ ?_ | split | simp only [↓apply_ite State.kept, ite_self, ↓State.kept_mk, State.kept_eta, ↓apply_ite Prod.fst, ↓apply_ite Prod.snd, ↓State.ackTaken_kept, ↓State.judgeFrame_kept, ↓State.note_kept])

theorem State.taken_kept (s : State) (m : InMsg) :
    (State.taken s m).kept = s.kept := by
  simp only [State.taken] <;>
    repeat' (first | with_reducible rfl | with_reducible assumption | with_reducible refine ite_kept ?_ ?_ | with_reducible refine ite_eq_of ?_ ?_ | split | simp only [↓apply_ite State.kept, ite_self, ↓State.kept_mk, State.kept_eta, ↓State.msnTaken_kept, ↓State.psnTaken_kept, ↓State.xoffDrive_kept])

theorem State.onMsg_kept (s : State) (i op : Nat) (f : State → InMsg → State) (h_f : ∀ s a0, (f s a0).kept = s.kept) :
    (State.onMsg s i op f).kept = s.kept := by
  simp only [State.onMsg] <;>
    repeat' (first | with_reducible rfl | with_reducible assumption | with_reducible refine ite_kept ?_ ?_ | with_reducible refine ite_eq_of ?_ ?_ | split | simp only [↓apply_ite State.kept, ite_self, ↓State.kept_mk, State.kept_eta, ↓State.note_kept, ↓State.xoffDrive_kept, h_f])

theorem State.msgAccept_kept (s : State) (m : InMsg) (t : Txn) :
    (State.msgAccept s m t).kept = s.kept := by
  simp only [State.msgAccept] <;>
    repeat' (first | with_reducible rfl | with_reducible assumption | with_reducible refine ite_kept ?_ ?_ | with_reducible refine ite_eq_of ?_ ?_ | split | simp only [↓apply_ite State.kept, ite_self, ↓State.kept_mk, State.kept_eta, ↓State.accept_kept, ↓State.answer_kept, ↓State.denied_kept, ↓State.evict_kept, ↓State.setHome_kept, ↓State.taken_kept])

theorem State.msgRead_kept (s : State) (m : InMsg) :
    (State.msgRead s m).kept = s.kept := by
  simp only [State.msgRead] <;>
    repeat' (first | with_reducible rfl | with_reducible assumption | with_reducible refine ite_kept ?_ ?_ | with_reducible refine ite_eq_of ?_ ?_ | split | simp only [↓apply_ite State.kept, ite_self, ↓State.kept_mk, State.kept_eta, ↓State.msgAccept_kept])

theorem State.msgWrite_kept (s : State) (m : InMsg) :
    (State.msgWrite s m).kept = s.kept := by
  simp only [State.msgWrite] <;>
    repeat' (first | with_reducible rfl | with_reducible assumption | with_reducible refine ite_kept ?_ ?_ | with_reducible refine ite_eq_of ?_ ?_ | split | simp only [↓apply_ite State.kept, ite_self, ↓State.kept_mk, State.kept_eta, ↓State.msgAccept_kept])

theorem State.msgEvict_kept (s : State) (m : InMsg) :
    (State.msgEvict s m).kept = s.kept := by
  simp only [State.msgEvict] <;>
    repeat' (first | with_reducible rfl | with_reducible assumption | with_reducible refine ite_kept ?_ ?_ | with_reducible refine ite_eq_of ?_ ?_ | split | simp only [↓apply_ite State.kept, ite_self, ↓State.kept_mk, State.kept_eta, ↓State.msgAccept_kept])

theorem State.msgAtomic_kept (s : State) (m : InMsg) :
    (State.msgAtomic s m).kept = s.kept := by
  simp only [State.msgAtomic] <;>
    repeat' (first | with_reducible rfl | with_reducible assumption | with_reducible refine ite_kept ?_ ?_ | with_reducible refine ite_eq_of ?_ ?_ | split | simp only [↓apply_ite State.kept, ite_self, ↓State.kept_mk, State.kept_eta, ↓State.answer_kept, ↓State.denied_kept, ↓State.msgAccept_kept, ↓State.taken_kept])

theorem State.msgContrib_kept (s : State) (m : InMsg) :
    (State.msgContrib s m).kept = s.kept := by
  simp only [State.msgContrib] <;>
    repeat' (first | with_reducible rfl | with_reducible assumption | with_reducible refine ite_kept ?_ ?_ | with_reducible refine ite_eq_of ?_ ?_ | split | simp only [↓apply_ite State.kept, ite_self, ↓State.kept_mk, State.kept_eta, ↓State.count_kept, ↓State.denied_kept, ↓State.mergeForward_kept, ↓State.note_kept, ↓State.sendOr_kept, ↓State.taken_kept])

theorem State.msgSnoop_kept (s : State) (m : InMsg) :
    (State.msgSnoop s m).kept = s.kept := by
  simp only [State.msgSnoop] <;>
    repeat' (first | with_reducible rfl | with_reducible assumption | with_reducible refine (State.fresh_kept' (by assumption)).trans ?_ | with_reducible refine (State.sendSnoop_kept' (by assumption)).trans ?_ | with_reducible refine (foldl_fst_kept _ (fun s a => ?_) _ _).trans ?_ | with_reducible refine (foldl_kept _ (fun s a => ?_) _ _).trans ?_ | with_reducible refine (kept_of_eq (by assumption)).trans ?_ | with_reducible refine (kept_of_eq2 (by assumption)).trans ?_ | with_reducible refine ite_kept ?_ ?_ | with_reducible refine ite_eq_of ?_ ?_ | split | simp only [↓apply_ite State.kept, ite_self, ↓State.kept_mk, State.kept_eta, implies_true, ↓foldl_kept, ↓apply_ite Prod.fst, ↓apply_ite Prod.snd, ↓State.count_kept, ↓State.fresh_kept, ↓State.proxyDone_kept, ↓State.sendOr_kept, ↓State.sendSnoop_kept, ↓State.taken_kept])

theorem State.proxyLate_kept (s : State) (id : Nat) :
    (State.proxyLate s id).kept = s.kept := by
  simp only [State.proxyLate] <;>
    repeat' (first | with_reducible rfl | with_reducible assumption | with_reducible refine (foldl_fst_kept _ (fun s a => ?_) _ _).trans ?_ | with_reducible refine (foldl_kept _ (fun s a => ?_) _ _).trans ?_ | with_reducible refine ite_kept ?_ ?_ | with_reducible refine ite_eq_of ?_ ?_ | split | simp only [↓apply_ite State.kept, ite_self, ↓State.kept_mk, State.kept_eta, implies_true, ↓foldl_kept, ↓State.proxyDone_kept, ↓State.proxySilent_kept])

theorem State.msgSnoopResp_kept (s : State) (m : InMsg) :
    (State.msgSnoopResp s m).kept = s.kept := by
  simp only [State.msgSnoopResp] <;>
    repeat' (first | with_reducible rfl | with_reducible assumption | with_reducible refine ite_kept ?_ ?_ | with_reducible refine ite_eq_of ?_ ?_ | split | simp only [↓apply_ite State.kept, ite_self, ↓State.kept_mk, State.kept_eta, ↓State.raise_kept, ↓State.takeAnswer_kept, ↓State.taken_kept])

theorem State.remoteSnoopLate_kept (s : State) (chip id : Nat) :
    (State.remoteSnoopLate s chip id).kept = s.kept := by
  simp only [State.remoteSnoopLate] <;>
    repeat' (first | with_reducible rfl | with_reducible assumption | with_reducible refine ite_kept ?_ ?_ | with_reducible refine ite_eq_of ?_ ?_ | split | simp only [↓apply_ite State.kept, ite_self, ↓State.kept_mk, State.kept_eta, ↓State.poisonTxn_kept])

theorem State.msgResponse_kept (s : State) (m : InMsg) :
    (State.msgResponse s m).kept = s.kept := by
  simp only [State.msgResponse] <;>
    repeat' (first | with_reducible rfl | with_reducible assumption | with_reducible refine ite_kept ?_ ?_ | with_reducible refine ite_eq_of ?_ ?_ | split | simp only [↓apply_ite State.kept, ite_self, ↓State.kept_mk, State.kept_eta, ↓State.portEvent_kept, ↓State.remoteEnd_kept, ↓State.taken_kept])

theorem State.msgPerformed_kept (s : State) (m : InMsg) :
    (State.msgPerformed s m).kept = s.kept := by
  simp only [State.msgPerformed] <;>
    repeat' (first | with_reducible rfl | with_reducible assumption | with_reducible refine (foldl_fst_kept _ (fun s a => ?_) _ _).trans ?_ | with_reducible refine (foldl_kept _ (fun s a => ?_) _ _).trans ?_ | with_reducible refine ite_kept ?_ ?_ | with_reducible refine ite_eq_of ?_ ?_ | split | simp only [↓apply_ite State.kept, ite_self, ↓State.kept_mk, State.kept_eta, implies_true, ↓foldl_kept, ↓State.portEvent_kept, ↓State.remoteEnd_kept, ↓State.taken_kept])

theorem State.walkLine_kept (s : State) (h line : Nat) (op : TOp) :
    (State.walkLine s h line op).kept = s.kept := by
  simp only [State.walkLine] <;>
    repeat' (first | with_reducible rfl | with_reducible assumption | with_reducible refine ite_kept ?_ ?_ | with_reducible refine ite_eq_of ?_ ?_ | split | simp only [↓apply_ite State.kept, ite_self, ↓State.kept_mk, State.kept_eta, ↓State.enter_kept, ↓State.start_kept])

theorem State.flushAnswer_kept (s : State) :
    (State.flushAnswer s).kept = s.kept := by
  simp only [State.flushAnswer] <;>
    repeat' (first | with_reducible rfl | with_reducible assumption | with_reducible refine (foldl_fst_kept _ (fun s a => ?_) _ _).trans ?_ | with_reducible refine (foldl_kept _ (fun s a => ?_) _ _).trans ?_ | with_reducible refine ite_kept ?_ ?_ | with_reducible refine ite_eq_of ?_ ?_ | split | simp only [↓apply_ite State.kept, ite_self, ↓State.kept_mk, State.kept_eta, implies_true, ↓foldl_kept, ↓State.sendOr_kept])

theorem State.flushPieces_kept (s : State) (f : RemFlush) :
    (State.flushPieces s f).kept = s.kept := by
  simp only [State.flushPieces] <;>
    repeat' (first | with_reducible rfl | with_reducible assumption | with_reducible refine (foldl_fst_kept _ (fun s a => ?_) _ _).trans ?_ | with_reducible refine (foldl_kept _ (fun s a => ?_) _ _).trans ?_ | with_reducible refine ite_kept ?_ ?_ | with_reducible refine ite_eq_of ?_ ?_ | split | simp only [↓apply_ite State.kept, ite_self, ↓State.kept_mk, State.kept_eta, implies_true, ↓foldl_kept, ↓State.walkLine_kept])

theorem State.flushTick_kept (s : State) :
    (State.flushTick s).kept = s.kept := by
  simp only [State.flushTick] <;>
    repeat' (first | with_reducible rfl | with_reducible assumption | with_reducible refine (foldl_fst_kept _ (fun s a => ?_) _ _).trans ?_ | with_reducible refine (foldl_kept _ (fun s a => ?_) _ _).trans ?_ | with_reducible refine ite_kept ?_ ?_ | with_reducible refine ite_eq_of ?_ ?_ | split | simp only [↓apply_ite State.kept, ite_self, ↓State.kept_mk, State.kept_eta, implies_true, ↓foldl_kept, ↓State.flushAnswer_kept, ↓State.flushPieces_kept, ↓State.settle_kept])

theorem State.msgFlush_kept (s : State) (m : InMsg) :
    (State.msgFlush s m).kept = s.kept := by
  simp only [State.msgFlush] <;>
    repeat' (first | with_reducible rfl | with_reducible assumption | with_reducible refine ite_kept ?_ ?_ | with_reducible refine ite_eq_of ?_ ?_ | split | simp only [↓apply_ite State.kept, ite_self, ↓State.kept_mk, State.kept_eta, ↓State.flushAnswer_kept, ↓State.flushPieces_kept, ↓State.settle_kept, ↓State.taken_kept])

theorem State.flushChip_kept (s : State) (f : Flush) (chip : Nat) :
    (State.flushChip s f chip).kept = s.kept := by
  simp only [State.flushChip] <;>
    repeat' (first | with_reducible rfl | with_reducible assumption | with_reducible refine ite_kept ?_ ?_ | with_reducible refine ite_eq_of ?_ ?_ | split | simp only [↓apply_ite State.kept, ite_self, ↓State.kept_mk, State.kept_eta, ↓State.flushEnd_kept])

theorem State.msgFlushDone_kept (s : State) (m : InMsg) :
    (State.msgFlushDone s m).kept = s.kept := by
  simp only [State.msgFlushDone] <;>
    repeat' (first | with_reducible rfl | with_reducible assumption | with_reducible refine ite_kept ?_ ?_ | with_reducible refine ite_eq_of ?_ ?_ | split | simp only [↓apply_ite State.kept, ite_self, ↓State.kept_mk, State.kept_eta, ↓State.flushChip_kept, ↓State.taken_kept])

theorem State.remoteFlushLate_kept (s : State) (chip die : Nat) :
    (State.remoteFlushLate s chip die).kept = s.kept := by
  simp only [State.remoteFlushLate] <;>
    repeat' (first | with_reducible rfl | with_reducible assumption | with_reducible refine ite_kept ?_ ?_ | with_reducible refine ite_eq_of ?_ ?_ | split | simp only [↓apply_ite State.kept, ite_self, ↓State.kept_mk, State.kept_eta, ↓State.flushChip_kept, ↓State.flushDrop_kept, ↓State.start_kept])

theorem State.msgServe_kept (s : State) (m : InMsg) :
    (State.msgServe s m).kept = s.kept := by
  simp only [State.msgServe] <;>
    repeat' (first | with_reducible rfl | with_reducible assumption | with_reducible refine ite_kept ?_ ?_ | with_reducible refine ite_eq_of ?_ ?_ | split | simp only [↓apply_ite State.kept, ite_self, ↓State.kept_mk, State.kept_eta, ↓State.msgAtomic_kept, ↓State.msgContrib_kept, ↓State.msgRead_kept, ↓State.msgWrite_kept])

theorem State.inboxAges_kept (s : State) :
    (State.inboxAges s).kept = s.kept := by
  simp only [State.inboxAges] <;>
    repeat' (first | with_reducible rfl | with_reducible assumption | with_reducible refine (foldl_fst_kept _ (fun s a => ?_) _ _).trans ?_ | with_reducible refine (foldl_kept _ (fun s a => ?_) _ _).trans ?_ | with_reducible refine ite_kept ?_ ?_ | with_reducible refine ite_eq_of ?_ ?_ | split | simp only [↓apply_ite State.kept, ite_self, ↓State.kept_mk, State.kept_eta, implies_true, ↓foldl_kept, ↓State.msgServe_kept, ↓State.outcome_kept])

theorem State.fenceOn_kept (s : State) (port : Nat) (r : TpReq) :
    (State.fenceOn s port r).kept = s.kept := by
  simp only [State.fenceOn] <;>
    repeat' (first | with_reducible rfl | with_reducible assumption | with_reducible refine (State.tileEnter_kept' (by assumption)).trans ?_ | with_reducible refine (kept_of_eq (by assumption)).trans ?_ | with_reducible refine (kept_of_eq2 (by assumption)).trans ?_ | with_reducible refine ite_kept ?_ ?_ | with_reducible refine ite_eq_of ?_ ?_ | split | simp only [↓apply_ite State.kept, ite_self, ↓State.kept_mk, State.kept_eta, ↓apply_ite Prod.fst, ↓apply_ite Prod.snd, ↓State.tileEnter_kept])

theorem State.fenceOff_kept (s : State) (port : Nat) :
    (State.fenceOff s port).kept = s.kept := by
  simp only [State.fenceOff] <;>
    repeat' (first | with_reducible rfl | with_reducible assumption | with_reducible refine (foldl_fst_kept _ (fun s a => ?_) _ _).trans ?_ | with_reducible refine (foldl_kept _ (fun s a => ?_) _ _).trans ?_ | with_reducible refine ite_kept ?_ ?_ | with_reducible refine ite_eq_of ?_ ?_ | split | simp only [↓apply_ite State.kept, ite_self, ↓State.kept_mk, State.kept_eta, implies_true, ↓foldl_kept, ↓State.tileRsp_kept])

theorem State.saCommand_kept (s : State) (n op : Nat) :
    (State.saCommand s n op).kept = s.kept := by
  simp only [State.saCommand] <;>
    repeat' (first | with_reducible rfl | with_reducible assumption | with_reducible refine ite_kept ?_ ?_ | with_reducible refine ite_eq_of ?_ ?_ | split | simp only [↓apply_ite State.kept, ite_self, ↓State.kept_mk, State.kept_eta])

theorem State.dropPaths_kept (s : State) (n : Nat) :
    (State.dropPaths s n).kept = s.kept := by
  simp only [State.dropPaths] <;>
    repeat' (first | with_reducible rfl | with_reducible assumption | with_reducible refine ite_kept ?_ ?_ | with_reducible refine ite_eq_of ?_ ?_ | split | simp only [↓apply_ite State.kept, ite_self, ↓State.kept_mk, State.kept_eta])

theorem State.txActivate_kept (s : State) (n : Nat) :
    (State.txActivate s n).kept = s.kept := by
  simp only [State.txActivate] <;>
    repeat' (first | with_reducible rfl | with_reducible assumption | with_reducible refine ite_kept ?_ ?_ | with_reducible refine ite_eq_of ?_ ?_ | split | simp only [↓apply_ite State.kept, ite_self, ↓State.kept_mk, State.kept_eta, ↓State.dropPaths_kept, ↓State.pump_kept, ↓State.setSa_kept])

theorem State.rxActivate_kept (s : State) (n : Nat) :
    (State.rxActivate s n).kept = s.kept := by
  simp only [State.rxActivate] <;>
    repeat' (first | with_reducible rfl | with_reducible assumption | with_reducible refine ite_kept ?_ ?_ | with_reducible refine ite_eq_of ?_ ?_ | split | simp only [↓apply_ite State.kept, ite_self, ↓State.kept_mk, State.kept_eta, ↓State.dropPaths_kept, ↓State.setSa_kept])

theorem State.saApply_kept (s : State) :
    (State.saApply s).kept = s.kept := by
  simp only [State.saApply] <;>
    repeat' (first | with_reducible rfl | with_reducible assumption | with_reducible refine ite_kept ?_ ?_ | with_reducible refine ite_eq_of ?_ ?_ | split | simp only [↓apply_ite State.kept, ite_self, ↓State.kept_mk, State.kept_eta, ↓State.mgIrq_kept, ↓State.rxActivate_kept, ↓State.setSa_kept, ↓State.txActivate_kept])

theorem State.saQuarantine_kept (s : State) (n : Nat) :
    (State.saQuarantine s n).kept = s.kept := by
  simp only [State.saQuarantine] <;>
    repeat' (first | with_reducible rfl | with_reducible assumption | with_reducible refine ite_kept ?_ ?_ | with_reducible refine ite_eq_of ?_ ?_ | split | simp only [↓apply_ite State.kept, ite_self, ↓State.kept_mk, State.kept_eta, ↓State.setSa_kept])

theorem State.saFree_kept (s : State) (n : Nat) :
    (State.saFree s n).kept = s.kept := by
  simp only [State.saFree] <;>
    repeat' (first | with_reducible rfl | with_reducible assumption | with_reducible refine ite_kept ?_ ?_ | with_reducible refine ite_eq_of ?_ ?_ | split | simp only [↓apply_ite State.kept, ite_self, ↓State.kept_mk, State.kept_eta, ↓State.dropPaths_kept, ↓State.setSa_kept])

theorem State.smear_kept (s : State) (t : Nat) :
    (State.smear s t).kept = s.kept := by
  simp only [State.smear] <;>
    repeat' (first | with_reducible rfl | with_reducible assumption | with_reducible refine ite_kept ?_ ?_ | with_reducible refine ite_eq_of ?_ ?_ | split | simp only [↓apply_ite State.kept, ite_self, ↓State.kept_mk, State.kept_eta])

theorem State.imgCheckDone_kept (s : State) :
    (State.imgCheckDone s).kept = s.kept := by
  simp only [State.imgCheckDone] <;>
    repeat' (first | with_reducible rfl | with_reducible assumption | with_reducible refine ite_kept ?_ ?_ | with_reducible refine ite_eq_of ?_ ?_ | split | simp only [↓apply_ite State.kept, ite_self, ↓State.kept_mk, State.kept_eta, ↓State.mgIrq_kept])

theorem State.imgResult_kept (s : State) (r : Nat) :
    (State.imgResult s r).kept = s.kept := by
  simp only [State.imgResult] <;>
    repeat' (first | with_reducible rfl | with_reducible assumption | with_reducible refine ite_kept ?_ ?_ | with_reducible refine ite_eq_of ?_ ?_ | split | simp only [↓apply_ite State.kept, ite_self, ↓State.kept_mk, State.kept_eta])

theorem State.imgFailAt_kept (s : State) (f : ImgFail) :
    (State.imgFailAt s f).kept = s.kept := by
  simp only [State.imgFailAt] <;>
    repeat' (first | with_reducible rfl | with_reducible assumption | with_reducible refine ite_kept ?_ ?_ | with_reducible refine ite_eq_of ?_ ?_ | split | simp only [↓apply_ite State.kept, ite_self, ↓State.kept_mk, State.kept_eta])

theorem State.imgEmpty_kept (s : State) (r : Nat) :
    (State.imgEmpty s r).kept = s.kept := by
  simp only [State.imgEmpty] <;>
    repeat' (first | with_reducible rfl | with_reducible assumption | with_reducible refine ite_kept ?_ ?_ | with_reducible refine ite_eq_of ?_ ?_ | split | simp only [↓apply_ite State.kept, ite_self, ↓State.kept_mk, State.kept_eta])

theorem State.imgCancel_kept (s : State) :
    (State.imgCancel s).kept = s.kept := by
  simp only [State.imgCancel] <;>
    repeat' (first | with_reducible rfl | with_reducible assumption | with_reducible refine ite_kept ?_ ?_ | with_reducible refine ite_eq_of ?_ ?_ | split | simp only [↓apply_ite State.kept, ite_self, ↓State.kept_mk, State.kept_eta, ↓State.imgEmpty_kept])

theorem State.imgClose_kept (s : State) :
    (State.imgClose s).kept = s.kept := by
  simp only [State.imgClose] <;>
    repeat' (first | with_reducible rfl | with_reducible assumption | with_reducible refine ite_kept ?_ ?_ | with_reducible refine ite_eq_of ?_ ?_ | split | simp only [↓apply_ite State.kept, ite_self, ↓State.kept_mk, State.kept_eta, ↓State.settle_kept])

theorem State.imgEvent_kept (s : State) (e : ImgEvent) :
    (State.imgEvent s e).kept = s.kept := by
  simp only [State.imgEvent] <;>
    repeat' (first | with_reducible rfl | with_reducible assumption | with_reducible refine ite_kept ?_ ?_ | with_reducible refine ite_eq_of ?_ ?_ | split | simp only [↓apply_ite State.kept, ite_self, ↓State.kept_mk, State.kept_eta])

theorem State.imgOp_kept (s : State) (op : Nat) :
    (State.imgOp s op).kept = s.kept := by
  simp only [State.imgOp] <;>
    repeat' (first | with_reducible rfl | with_reducible assumption | with_reducible refine ite_kept ?_ ?_ | with_reducible refine ite_eq_of ?_ ?_ | split | simp only [↓apply_ite State.kept, ite_self, ↓State.kept_mk, State.kept_eta, ↓State.imgCancel_kept, ↓State.imgEmpty_kept, ↓State.imgEvent_kept, ↓State.imgFailAt_kept, ↓State.imgResult_kept])

theorem State.imgData_kept (s : State) (d : Reg) :
    (State.imgData s d).kept = s.kept := by
  simp only [State.imgData] <;>
    repeat' (first | with_reducible rfl | with_reducible assumption | with_reducible refine ite_kept ?_ ?_ | with_reducible refine ite_eq_of ?_ ?_ | split | simp only [↓apply_ite State.kept, ite_self, ↓State.kept_mk, State.kept_eta, ↓State.imgResult_kept])

theorem State.drainStart_kept (s : State) :
    (State.drainStart s).kept = s.kept := by
  simp only [State.drainStart] <;>
    repeat' (first | with_reducible rfl | with_reducible assumption | with_reducible refine (foldl_fst_kept _ (fun s a => ?_) _ _).trans ?_ | with_reducible refine (foldl_kept _ (fun s a => ?_) _ _).trans ?_ | with_reducible refine ite_kept ?_ ?_ | with_reducible refine ite_eq_of ?_ ?_ | split | simp only [↓apply_ite State.kept, ite_self, ↓State.kept_mk, State.kept_eta, implies_true, ↓foldl_kept, ↓State.closeWindow_kept])

theorem State.setDrain_kept (s : State) (d : DrainSt) :
    (State.setDrain s d).kept = s.kept := by
  simp only [State.setDrain] <;>
    repeat' (first | with_reducible rfl | with_reducible assumption | with_reducible refine ite_kept ?_ ?_ | with_reducible refine ite_eq_of ?_ ?_ | split | simp only [↓apply_ite State.kept, ite_self, ↓State.kept_mk, State.kept_eta])

theorem State.tagWalk_kept (s : State) (h : Nat) :
    (State.tagWalk s h).kept = s.kept := by
  simp only [State.tagWalk] <;>
    repeat' (first | with_reducible rfl | with_reducible assumption | with_reducible refine (foldl_fst_kept _ (fun s a => ?_) _ _).trans ?_ | with_reducible refine (foldl_kept _ (fun s a => ?_) _ _).trans ?_ | with_reducible refine ite_kept ?_ ?_ | with_reducible refine ite_eq_of ?_ ?_ | split | simp only [↓apply_ite State.kept, ite_self, ↓State.kept_mk, State.kept_eta, implies_true, ↓foldl_kept, ↓State.evictWay_kept, ↓State.mirrorDrop_kept, ↓State.ring_kept, ↓State.setDrain_kept, ↓State.settle_kept])

theorem State.filterWalk_kept (s : State) (h : Nat) :
    (State.filterWalk s h).kept = s.kept := by
  simp only [State.filterWalk] <;>
    repeat' (first | with_reducible rfl | with_reducible assumption | with_reducible refine (foldl_fst_kept _ (fun s a => ?_) _ _).trans ?_ | with_reducible refine (foldl_kept _ (fun s a => ?_) _ _).trans ?_ | with_reducible refine ite_kept ?_ ?_ | with_reducible refine ite_eq_of ?_ ?_ | split | simp only [↓apply_ite State.kept, ite_self, ↓State.kept_mk, State.kept_eta, implies_true, ↓foldl_kept, ↓State.enter_kept, ↓State.ring_kept, ↓State.setDrain_kept, ↓State.settle_kept, ↓State.start_kept])

theorem State.qosFromRec_kept (s : State) (sl : Nat) (r : SliceRec) (fresh : Bool) :
    (State.qosFromRec s sl r fresh).kept = s.kept := by
  simp only [State.qosFromRec] <;>
    repeat' (first | with_reducible rfl | with_reducible assumption | with_reducible refine (State.fresh_kept' (by assumption)).trans ?_ | with_reducible refine (foldl_fst_kept _ (fun s a => ?_) _ _).trans ?_ | with_reducible refine (foldl_kept _ (fun s a => ?_) _ _).trans ?_ | with_reducible refine (kept_of_eq (by assumption)).trans ?_ | with_reducible refine (kept_of_eq2 (by assumption)).trans ?_ | with_reducible refine ite_kept ?_ ?_ | with_reducible refine ite_eq_of ?_ ?_ | split | simp only [↓apply_ite State.kept, ite_self, ↓State.kept_mk, State.kept_eta, implies_true, ↓foldl_kept, ↓apply_ite Prod.fst, ↓apply_ite Prod.snd, ↓State.fresh_kept])

theorem State.qosDrop_kept (s : State) (sl : Nat) :
    (State.qosDrop s sl).kept = s.kept := by
  simp only [State.qosDrop] <;>
    repeat' (first | with_reducible rfl | with_reducible assumption | with_reducible refine ite_kept ?_ ?_ | with_reducible refine ite_eq_of ?_ ?_ | split | simp only [↓apply_ite State.kept, ite_self, ↓State.kept_mk, State.kept_eta])

theorem State.retireStranded_kept (s : State) (old : ImgCfg) :
    (State.retireStranded s old).kept = s.kept := by
  simp only [State.retireStranded] <;>
    repeat' (first | with_reducible rfl | with_reducible assumption | with_reducible refine (foldl_fst_kept _ (fun s a => ?_) _ _).trans ?_ | with_reducible refine (foldl_kept _ (fun s a => ?_) _ _).trans ?_ | with_reducible refine ite_kept ?_ ?_ | with_reducible refine ite_eq_of ?_ ?_ | split | simp only [↓apply_ite State.kept, ite_self, ↓State.kept_mk, State.kept_eta, implies_true, ↓foldl_kept])

theorem State.strandTransfers_kept (s : State) (old : ImgCfg) :
    (State.strandTransfers s old).kept = s.kept := by
  simp only [State.strandTransfers] <;>
    repeat' (first | with_reducible rfl | with_reducible assumption | with_reducible refine (foldl_fst_kept _ (fun s a => ?_) _ _).trans ?_ | with_reducible refine (foldl_kept _ (fun s a => ?_) _ _).trans ?_ | with_reducible refine ite_kept ?_ ?_ | with_reducible refine ite_eq_of ?_ ?_ | split | simp only [↓apply_ite State.kept, ite_self, ↓State.kept_mk, State.kept_eta, implies_true, ↓foldl_kept, ↓State.abandon_kept])

theorem State.shiftWork_kept (s : State) (f : Nat → Nat) :
    (State.shiftWork s f).kept = s.kept := by
  simp only [State.shiftWork] <;>
    repeat' (first | with_reducible rfl | with_reducible assumption | with_reducible refine ite_kept ?_ ?_ | with_reducible refine ite_eq_of ?_ ?_ | split | simp only [↓apply_ite State.kept, ite_self, ↓State.kept_mk, State.kept_eta, ↓State.start_kept])

theorem State.shiftLinks_kept (s : State) (f : Nat → Nat) :
    (State.shiftLinks s f).kept = s.kept := by
  simp only [State.shiftLinks] <;>
    repeat' (first | with_reducible rfl | with_reducible assumption | with_reducible refine ite_kept ?_ ?_ | with_reducible refine ite_eq_of ?_ ?_ | split | simp only [↓apply_ite State.kept, ite_self, ↓State.kept_mk, State.kept_eta])

theorem State.shiftRest_kept (s : State) (f : Nat → Nat) :
    (State.shiftRest s f).kept = s.kept := by
  simp only [State.shiftRest] <;>
    repeat' (first | with_reducible rfl | with_reducible assumption | with_reducible refine ite_kept ?_ ?_ | with_reducible refine ite_eq_of ?_ ?_ | split | simp only [↓apply_ite State.kept, ite_self, ↓State.kept_mk, State.kept_eta])

theorem State.discover_kept (s : State) (t : Nat) :
    (State.discover s t).kept = s.kept := by
  simp only [State.discover] <;>
    repeat' (first | with_reducible rfl | with_reducible assumption | with_reducible refine ite_kept ?_ ?_ | with_reducible refine ite_eq_of ?_ ?_ | split | simp only [↓apply_ite State.kept, ite_self, ↓State.kept_mk, State.kept_eta, ↓State.emitCtl_kept, ↓State.setTine_kept])

theorem State.linkUp_kept (s : State) (t : Nat) (fast : Bool) :
    (State.linkUp s t fast).kept = s.kept := by
  simp only [State.linkUp] <;>
    repeat' (first | with_reducible rfl | with_reducible assumption | with_reducible refine ite_kept ?_ ?_ | with_reducible refine ite_eq_of ?_ ?_ | split | simp only [↓apply_ite State.kept, ite_self, ↓State.kept_mk, State.kept_eta, ↓State.discover_kept, ↓State.setTine_kept, ↓State.use_kept])

theorem State.tineGood_kept (s : State) (t carries : Nat) (joined : Bool) :
    (State.tineGood s t carries joined).kept = s.kept := by
  simp only [State.tineGood] <;>
    repeat' (first | with_reducible rfl | with_reducible assumption | with_reducible refine ite_kept ?_ ?_ | with_reducible refine ite_eq_of ?_ ?_ | split | simp only [↓apply_ite State.kept, ite_self, ↓State.kept_mk, State.kept_eta, ↓State.raise_kept, ↓State.setTine_kept])

theorem State.tineIsolate_kept (s : State) (t kind : Nat) :
    (State.tineIsolate s t kind).kept = s.kept := by
  simp only [State.tineIsolate] <;>
    repeat' (first | with_reducible rfl | with_reducible assumption | with_reducible refine ite_kept ?_ ?_ | with_reducible refine ite_eq_of ?_ ?_ | split | simp only [↓apply_ite State.kept, ite_self, ↓State.kept_mk, State.kept_eta, ↓State.isolate_kept, ↓State.respray_kept, ↓State.setTine_kept])

theorem State.discovered_kept (s : State) (t : Nat) (d : Discovery) :
    (State.discovered s t d).kept = s.kept := by
  simp only [State.discovered] <;>
    repeat' (first | with_reducible rfl | with_reducible assumption | with_reducible refine ite_kept ?_ ?_ | with_reducible refine ite_eq_of ?_ ?_ | split | simp only [↓apply_ite State.kept, ite_self, ↓State.kept_mk, State.kept_eta, ↓State.linkUp_kept, ↓State.setTine_kept, ↓State.tineGood_kept, ↓State.tineIsolate_kept])

theorem State.discoveryLate_kept (s : State) (t : Nat) :
    (State.discoveryLate s t).kept = s.kept := by
  simp only [State.discoveryLate] <;>
    repeat' (first | with_reducible rfl | with_reducible assumption | with_reducible refine ite_kept ?_ ?_ | with_reducible refine ite_eq_of ?_ ?_ | split | simp only [↓apply_ite State.kept, ite_self, ↓State.kept_mk, State.kept_eta, ↓State.linkUp_kept, ↓State.raise_kept, ↓State.setTine_kept, ↓State.tineFails_kept])

theorem State.linkFell_kept (s : State) (t : Nat) :
    (State.linkFell s t).kept = s.kept := by
  simp only [State.linkFell] <;>
    repeat' (first | with_reducible rfl | with_reducible assumption | with_reducible refine ite_kept ?_ ?_ | with_reducible refine ite_eq_of ?_ ?_ | split | simp only [↓apply_ite State.kept, ite_self, ↓State.kept_mk, State.kept_eta, ↓State.linkUp_kept, ↓State.setTine_kept, ↓State.tineDown_kept])

theorem State.tineBack_kept (s : State) (t : Nat) :
    (State.tineBack s t).kept = s.kept := by
  simp only [State.tineBack] <;>
    repeat' (first | with_reducible rfl | with_reducible assumption | with_reducible refine (foldl_fst_kept _ (fun s a => ?_) _ _).trans ?_ | with_reducible refine (foldl_kept _ (fun s a => ?_) _ _).trans ?_ | with_reducible refine ite_kept ?_ ?_ | with_reducible refine ite_eq_of ?_ ?_ | split | simp only [↓apply_ite State.kept, ite_self, ↓State.kept_mk, State.kept_eta, implies_true, ↓foldl_kept, ↓State.pump_kept, ↓State.setTine_kept])

theorem State.tineTick_kept (s : State) (t : Nat) :
    (State.tineTick s t).kept = s.kept := by
  simp only [State.tineTick] <;>
    repeat' (first | with_reducible rfl | with_reducible assumption | with_reducible refine ite_kept ?_ ?_ | with_reducible refine ite_eq_of ?_ ?_ | split | simp only [↓apply_ite State.kept, ite_self, ↓State.kept_mk, State.kept_eta, ↓State.linkUp_kept, ↓State.setTine_kept, ↓State.tineBack_kept])

theorem State.dropChipSnoops_kept (s : State) (c : Nat) :
    (State.dropChipSnoops s c).kept = s.kept := by
  simp only [State.dropChipSnoops] <;>
    repeat' (first | with_reducible rfl | with_reducible assumption | with_reducible refine (foldl_fst_kept _ (fun s a => ?_) _ _).trans ?_ | with_reducible refine (foldl_kept _ (fun s a => ?_) _ _).trans ?_ | with_reducible refine ite_kept ?_ ?_ | with_reducible refine ite_eq_of ?_ ?_ | split | simp only [↓apply_ite State.kept, ite_self, ↓State.kept_mk, State.kept_eta, implies_true, ↓foldl_kept, ↓State.poisonTxn_kept, ↓State.setFilt_kept, ↓State.setTxn_kept, ↓State.settle_kept])

theorem State.dropChipLines_kept (s : State) (c : Nat) :
    (State.dropChipLines s c).kept = s.kept := by
  simp only [State.dropChipLines] <;>
    repeat' (first | with_reducible rfl | with_reducible assumption | with_reducible refine (foldl_fst_kept _ (fun s a => ?_) _ _).trans ?_ | with_reducible refine (foldl_kept _ (fun s a => ?_) _ _).trans ?_ | with_reducible refine ite_kept ?_ ?_ | with_reducible refine ite_eq_of ?_ ?_ | split | simp only [↓apply_ite State.kept, ite_self, ↓State.kept_mk, State.kept_eta, implies_true, ↓foldl_kept, ↓State.poisonLine_kept, ↓State.setFilt_kept])

theorem State.chipLost_kept (s : State) (c : Nat) :
    (State.chipLost s c).kept = s.kept := by
  simp only [State.chipLost] <;>
    repeat' (first | with_reducible rfl | with_reducible assumption | with_reducible refine (foldl_fst_kept _ (fun s a => ?_) _ _).trans ?_ | with_reducible refine (foldl_kept _ (fun s a => ?_) _ _).trans ?_ | with_reducible refine ite_kept ?_ ?_ | with_reducible refine ite_eq_of ?_ ?_ | split | simp only [↓apply_ite State.kept, ite_self, ↓State.kept_mk, State.kept_eta, implies_true, ↓foldl_kept, ↓State.dropChipLines_kept, ↓State.dropChipSnoops_kept, ↓State.flushChip_kept, ↓State.raise_kept, ↓State.remoteEnd_kept, ↓State.settle_kept, ↓State.walkLine_kept])

theorem State.chipCheck_kept (s : State) (c : Nat) :
    (State.chipCheck s c).kept = s.kept := by
  simp only [State.chipCheck] <;>
    repeat' (first | with_reducible rfl | with_reducible assumption | with_reducible refine ite_kept ?_ ?_ | with_reducible refine ite_eq_of ?_ ?_ | split | simp only [↓apply_ite State.kept, ite_self, ↓State.kept_mk, State.kept_eta, ↓State.chipLost_kept])

theorem State.membersTick_kept (s : State) :
    (State.membersTick s).kept = s.kept := by
  simp only [State.membersTick] <;>
    repeat' (first | with_reducible rfl | with_reducible assumption | with_reducible refine (foldl_fst_kept _ (fun s a => ?_) _ _).trans ?_ | with_reducible refine (foldl_kept _ (fun s a => ?_) _ _).trans ?_ | with_reducible refine ite_kept ?_ ?_ | with_reducible refine ite_eq_of ?_ ?_ | split | simp only [↓apply_ite State.kept, ite_self, ↓State.kept_mk, State.kept_eta, implies_true, ↓foldl_kept, ↓State.chipCheck_kept])

theorem State.refTick_kept (s : State) :
    (State.refTick s).kept = s.kept := by
  simp only [State.refTick] <;>
    repeat' (first | with_reducible rfl | with_reducible assumption | with_reducible refine ite_kept ?_ ?_ | with_reducible refine ite_eq_of ?_ ?_ | split | simp only [↓apply_ite State.kept, ite_self, ↓State.kept_mk, State.kept_eta, ↓State.raise_kept])

theorem State.timeAsk_kept (s : State) :
    (State.timeAsk s).kept = s.kept := by
  simp only [State.timeAsk] <;>
    repeat' (first | with_reducible rfl | with_reducible assumption | with_reducible refine ite_kept ?_ ?_ | with_reducible refine ite_eq_of ?_ ?_ | split | simp only [↓apply_ite State.kept, ite_self, ↓State.kept_mk, State.kept_eta, ↓State.emitCtl_kept])

theorem State.timeAsked_kept (s : State) (t num stamp : Nat) :
    (State.timeAsked s t num stamp).kept = s.kept := by
  simp only [State.timeAsked] <;>
    repeat' (first | with_reducible rfl | with_reducible assumption | with_reducible refine ite_kept ?_ ?_ | with_reducible refine ite_eq_of ?_ ?_ | split | simp only [↓apply_ite State.kept, ite_self, ↓State.kept_mk, State.kept_eta, ↓State.emitCtl_kept])

theorem State.onExchange_kept (s : State) (t num : Nat) (f : Exchange → Exchange) :
    (State.onExchange s t num f).kept = s.kept := by
  simp only [State.onExchange] <;>
    repeat' (first | with_reducible rfl | with_reducible assumption | with_reducible refine ite_kept ?_ ?_ | with_reducible refine ite_eq_of ?_ ?_ | split | simp only [↓apply_ite State.kept, ite_self, ↓State.kept_mk, State.kept_eta])

theorem State.exchangeDone_kept (s : State) (t num : Nat) :
    (State.exchangeDone s t num).kept = s.kept := by
  simp only [State.exchangeDone] <;>
    repeat' (first | with_reducible rfl | with_reducible assumption | with_reducible refine ite_kept ?_ ?_ | with_reducible refine ite_eq_of ?_ ?_ | split | simp only [↓apply_ite State.kept, ite_self, ↓State.kept_mk, State.kept_eta])

theorem State.egress_kept (s : State) (t id stamp phase : Nat) :
    (State.egress s t id stamp phase).kept = s.kept := by
  simp only [State.egress] <;>
    repeat' (first | with_reducible rfl | with_reducible assumption | with_reducible refine ite_kept ?_ ?_ | with_reducible refine ite_eq_of ?_ ?_ | split | simp only [↓apply_ite State.kept, ite_self, ↓State.kept_mk, State.kept_eta, ↓State.emitCtl_kept, ↓State.exchangeDone_kept, ↓State.onExchange_kept, ↓State.setTine_kept])

theorem State.timeAnswered_kept (s : State) (t num stamp : Nat) :
    (State.timeAnswered s t num stamp).kept = s.kept := by
  simp only [State.timeAnswered] <;>
    repeat' (first | with_reducible rfl | with_reducible assumption | with_reducible refine ite_kept ?_ ?_ | with_reducible refine ite_eq_of ?_ ?_ | split | simp only [↓apply_ite State.kept, ite_self, ↓State.kept_mk, State.kept_eta, ↓State.exchangeDone_kept, ↓State.onExchange_kept])

theorem State.exchangeLate_kept (s : State) (num : Nat) :
    (State.exchangeLate s num).kept = s.kept := by
  simp only [State.exchangeLate] <;>
    repeat' (first | with_reducible rfl | with_reducible assumption | with_reducible refine ite_kept ?_ ?_ | with_reducible refine ite_eq_of ?_ ?_ | split | simp only [↓apply_ite State.kept, ite_self, ↓State.kept_mk, State.kept_eta])

theorem State.joinAlone_kept (s : State) :
    (State.joinAlone s).kept = s.kept := by
  simp only [State.joinAlone] <;>
    repeat' (first | with_reducible rfl | with_reducible assumption | with_reducible refine ite_kept ?_ ?_ | with_reducible refine ite_eq_of ?_ ?_ | split | simp only [↓apply_ite State.kept, ite_self, ↓State.kept_mk, State.kept_eta])

theorem State.alert_kept (s : State) (m : Msg) :
    (State.alert s m).kept = s.kept := by
  simp only [State.alert] <;>
    repeat' (first | with_reducible rfl | with_reducible assumption | with_reducible refine ite_kept ?_ ?_ | with_reducible refine ite_eq_of ?_ ?_ | split | simp only [↓apply_ite State.kept, ite_self, ↓State.kept_mk, State.kept_eta, ↓State.emit_kept])

theorem State.alertRelease_kept (s : State) :
    (State.alertRelease s).kept = s.kept := by
  simp only [State.alertRelease] <;>
    repeat' (first | with_reducible rfl | with_reducible assumption | with_reducible refine ite_kept ?_ ?_ | with_reducible refine ite_eq_of ?_ ?_ | split | simp only [↓apply_ite State.kept, ite_self, ↓State.kept_mk, State.kept_eta, ↓State.emit_kept])

theorem State.event_kept (s : State) (type arg : Nat) :
    (State.event s type arg).kept = s.kept := by
  simp only [State.event] <;>
    repeat' (first | with_reducible rfl | with_reducible assumption | with_reducible refine ite_kept ?_ ?_ | with_reducible refine ite_eq_of ?_ ?_ | split | simp only [↓apply_ite State.kept, ite_self, ↓State.kept_mk, State.kept_eta, ↓State.emit_kept])

theorem State.limit_kept (s : State) (m : Msg) :
    (State.limit s m).1.kept = s.kept := by
  simp only [State.limit] <;>
    repeat' (first | with_reducible rfl | with_reducible assumption | with_reducible refine ite_kept ?_ ?_ | with_reducible refine ite_eq_of ?_ ?_ | split | simp only [↓apply_ite State.kept, ite_self, ↓State.kept_mk, State.kept_eta, ↓apply_ite Prod.fst, ↓apply_ite Prod.snd])

theorem State.limit_kept' {s : State} {m : Msg} {t₁} {x₁} (hc : State.limit s m = (t₁, x₁)) :
    t₁.kept = s.kept := by
  have e := State.limit_kept s m
  rw [hc] at e
  exact e

theorem State.limitHit_kept (s : State) (m : Msg) :
    (State.limitHit s m).kept = s.kept := by
  simp only [State.limitHit] <;>
    repeat' (first | with_reducible rfl | with_reducible assumption | with_reducible refine ite_kept ?_ ?_ | with_reducible refine ite_eq_of ?_ ?_ | split | simp only [↓apply_ite State.kept, ite_self, ↓State.kept_mk, State.kept_eta, ↓State.addRepair_kept, ↓State.raise_kept])

theorem State.stopOnFault_kept (s : State) (cls : Nat) :
    (State.stopOnFault s cls).kept = s.kept := by
  simp only [State.stopOnFault] <;>
    repeat' (first | with_reducible rfl | with_reducible assumption | with_reducible refine ite_kept ?_ ?_ | with_reducible refine ite_eq_of ?_ ?_ | split | simp only [↓apply_ite State.kept, ite_self, ↓State.kept_mk, State.kept_eta])

theorem State.arrive_kept (s : State) (m : Msg) :
    (State.arrive s m).kept = s.kept := by
  unfold State.arrive
  extract_lets s1
  have h1 : s1.kept = s.kept := by simp only [s1, State.kept_mk, State.kept_eta]
  clear_value s1
  split
  rename_i s2 hit hl
  have h2 := State.limit_kept' hl
  clear hl
  extract_lets s3 same go m' low full first ends s4 s5 s6
  have h3 : s3.kept = s.kept := (ite_kept (State.limitHit_kept _ _) rfl).trans (h2.trans h1)
  clear_value s3 same go m' low full first ends
  refine ite_kept (by simp only [State.kept_mk, State.kept_eta, h3]) ?_
  have h4 : s4.kept = s.kept := by simp only [s4, State.kept_mk, State.kept_eta, h3]
  have h5 : s5.kept = s.kept := (ite_kept (State.mgIrq_kept _ _) rfl).trans h4
  have h6 : s6.kept = s.kept := (State.stopOnFault_kept _ _).trans ((State.alert_kept _ _).trans h5)
  exact ite_kept ((State.event_kept _ _ _).trans h6) h6

theorem State.deliver_kept (s : State) (d : Nat) :
    (State.deliver s d).kept = s.kept := by
  simp only [State.deliver] <;>
    repeat' (first | with_reducible rfl | with_reducible assumption | with_reducible refine ite_kept ?_ ?_ | with_reducible refine ite_eq_of ?_ ?_ | split | simp only [↓apply_ite State.kept, ite_self, ↓State.kept_mk, State.kept_eta, ↓State.arrive_kept])

theorem State.deliverAll_kept (s : State) :
    (State.deliverAll s).kept = s.kept := by
  simp only [State.deliverAll] <;>
    repeat' (first | with_reducible rfl | with_reducible assumption | with_reducible refine (foldl_fst_kept _ (fun s a => ?_) _ _).trans ?_ | with_reducible refine (foldl_kept _ (fun s a => ?_) _ _).trans ?_ | with_reducible refine ite_kept ?_ ?_ | with_reducible refine ite_eq_of ?_ ?_ | split | simp only [↓apply_ite State.kept, ite_self, ↓State.kept_mk, State.kept_eta, implies_true, ↓foldl_kept, ↓State.deliver_kept])

theorem State.handlingEnds_kept (s : State) :
    (State.handlingEnds s).kept = s.kept := by
  simp only [State.handlingEnds] <;>
    repeat' (first | with_reducible rfl | with_reducible assumption | with_reducible refine ite_kept ?_ ?_ | with_reducible refine ite_eq_of ?_ ?_ | split | simp only [↓apply_ite State.kept, ite_self, ↓State.kept_mk, State.kept_eta])

theorem State.failAll_kept (s : State) :
    (State.failAll s).kept = s.kept := by
  simp only [State.failAll] <;>
    repeat' (first | with_reducible rfl | with_reducible assumption | with_reducible refine (foldl_fst_kept _ (fun s a => ?_) _ _).trans ?_ | with_reducible refine (foldl_kept _ (fun s a => ?_) _ _).trans ?_ | with_reducible refine ite_kept ?_ ?_ | with_reducible refine ite_eq_of ?_ ?_ | split | simp only [↓apply_ite State.kept, ite_self, ↓State.kept_mk, State.kept_eta, implies_true, ↓foldl_kept, ↓State.hostRsp_kept, ↓State.kbAck_kept, ↓State.setTile_kept, ↓State.tileRsp_kept])

theorem State.fatalEnter_kept (s : State) (kind : Nat) :
    (State.fatalEnter s kind).kept = s.kept := by
  simp only [State.fatalEnter] <;>
    repeat' (first | with_reducible rfl | with_reducible assumption | with_reducible refine ite_kept ?_ ?_ | with_reducible refine ite_eq_of ?_ ?_ | split | simp only [↓apply_ite State.kept, ite_self, ↓State.kept_mk, State.kept_eta, ↓State.emit_kept, ↓State.failAll_kept, ↓State.mgIrq_kept, ↓State.power_kept])

theorem State.entryLost_kept (s : State) (cls u array element : Nat) :
    (State.entryLost s cls u array element).kept = s.kept := by
  simp only [State.entryLost] <;>
    repeat' (first | with_reducible rfl | with_reducible assumption | with_reducible refine ite_kept ?_ ?_ | with_reducible refine ite_eq_of ?_ ?_ | split | simp only [↓apply_ite State.kept, ite_self, ↓State.kept_mk, State.kept_eta, ↓State.setJob_kept, ↓State.setSeqw_kept])

theorem State.injectFlip_kept (s : State) (u loc : Nat) (two : Bool) :
    (State.injectFlip s u loc two).kept = s.kept := by
  simp only [State.injectFlip] <;>
    repeat' (first | with_reducible rfl | with_reducible assumption | with_reducible refine ite_kept ?_ ?_ | with_reducible refine ite_eq_of ?_ ?_ | split | simp only [↓apply_ite State.kept, ite_self, ↓State.kept_mk, State.kept_eta, ↓State.arrayError_kept, ↓State.entryLost_kept, ↓State.filterLost_kept])

theorem State.mgRead_kept (s : State) (v : State → Reg) (after : State → State) (h_after : ∀ s, (after s).kept = s.kept) :
    (State.mgRead s v after).kept = s.kept := by
  simp only [State.mgRead] <;>
    repeat' (first | with_reducible rfl | with_reducible assumption | with_reducible refine ite_kept ?_ ?_ | with_reducible refine ite_eq_of ?_ ?_ | split | simp only [↓apply_ite State.kept, ite_self, ↓State.kept_mk, State.kept_eta, ↓State.mgRsp_kept, h_after])

theorem State.fltCountClear_kept (s : State) :
    (State.fltCountClear s).kept = s.kept := by
  simp only [State.fltCountClear] <;>
    repeat' (first | with_reducible rfl | with_reducible assumption | with_reducible refine ite_kept ?_ ?_ | with_reducible refine ite_eq_of ?_ ?_ | split | simp only [↓apply_ite State.kept, ite_self, ↓State.kept_mk, State.kept_eta])

theorem State.mptErrClear_kept (s : State) (p : Nat) :
    (State.mptErrClear s p).kept = s.kept := by
  simp only [State.mptErrClear] <;>
    repeat' (first | with_reducible rfl | with_reducible assumption | with_reducible refine ite_kept ?_ ?_ | with_reducible refine ite_eq_of ?_ ?_ | split | simp only [↓apply_ite State.kept, ite_self, ↓State.kept_mk, State.kept_eta, ↓State.setMp_kept])

theorem State.unitFails_kept (s : State) (u : Nat) :
    (State.unitFails s u).kept = s.kept := by
  simp only [State.unitFails] <;>
    repeat' (first | with_reducible rfl | with_reducible assumption | with_reducible refine ite_kept ?_ ?_ | with_reducible refine ite_eq_of ?_ ?_ | split | simp only [↓apply_ite State.kept, ite_self, ↓State.kept_mk, State.kept_eta, ↓State.raise_kept, ↓State.setUnit_kept, ↓State.tineDown_kept, ↓State.vaultFatal_kept])

theorem State.setRec_kept (s : State) (r : Nat) (x : Recovery) :
    (State.setRec s r x).kept = s.kept := by
  simp only [State.setRec] <;>
    repeat' (first | with_reducible rfl | with_reducible assumption | with_reducible refine ite_kept ?_ ?_ | with_reducible refine ite_eq_of ?_ ?_ | split | simp only [↓apply_ite State.kept, ite_self, ↓State.kept_mk, State.kept_eta])

theorem State.recOpen_kept (s : State) (x : Recovery) :
    (State.recOpen s x).kept = s.kept := by
  simp only [State.recOpen] <;>
    repeat' (first | with_reducible rfl | with_reducible assumption | with_reducible refine ite_kept ?_ ?_ | with_reducible refine ite_eq_of ?_ ?_ | split | simp only [↓apply_ite State.kept, ite_self, ↓State.kept_mk, State.kept_eta, ↓State.mgIrq_kept, ↓State.setRec_kept])

theorem State.recEnd_kept (s : State) (r : Nat) :
    (State.recEnd s r).kept = s.kept := by
  simp only [State.recEnd] <;>
    repeat' (first | with_reducible rfl | with_reducible assumption | with_reducible refine ite_kept ?_ ?_ | with_reducible refine ite_eq_of ?_ ?_ | split | simp only [↓apply_ite State.kept, ite_self, ↓State.kept_mk, State.kept_eta, ↓State.mgIrq_kept, ↓State.setRec_kept])

theorem State.recLate_kept (s : State) (r : Nat) :
    (State.recLate s r).kept = s.kept := by
  simp only [State.recLate] <;>
    repeat' (first | with_reducible rfl | with_reducible assumption | with_reducible refine ite_kept ?_ ?_ | with_reducible refine ite_eq_of ?_ ?_ | split | simp only [↓apply_ite State.kept, ite_self, ↓State.kept_mk, State.kept_eta, ↓State.raise_kept, ↓State.setRec_kept])

theorem State.taintAt_kept (s : State) (h : Nat) :
    (State.taintAt s h).kept = s.kept := by
  simp only [State.taintAt] <;>
    repeat' (first | with_reducible rfl | with_reducible assumption | with_reducible refine ite_kept ?_ ?_ | with_reducible refine ite_eq_of ?_ ?_ | split | simp only [↓apply_ite State.kept, ite_self, ↓State.kept_mk, State.kept_eta])

theorem State.homeLeaves_kept (s : State) (h : Nat) :
    (State.homeLeaves s h).kept = s.kept := by
  simp only [State.homeLeaves] <;>
    repeat' (first | with_reducible rfl | with_reducible assumption | with_reducible refine (foldl_fst_kept _ (fun s a => ?_) _ _).trans ?_ | with_reducible refine (foldl_kept _ (fun s a => ?_) _ _).trans ?_ | with_reducible refine ite_kept ?_ ?_ | with_reducible refine ite_eq_of ?_ ?_ | split | simp only [↓apply_ite State.kept, ite_self, ↓State.kept_mk, State.kept_eta, implies_true, ↓foldl_kept, ↓State.cleanLine_kept, ↓State.raise_kept, ↓State.ring_kept, ↓State.setHome_kept, ↓State.taintAt_kept])

theorem State.resolveHome_kept (s : State) (h dst : Nat) (log : List (Origin × BitVec 64)) (st : Status) (t : Txn) :
    (State.resolveHome s h dst log st t).kept = s.kept := by
  simp only [State.resolveHome] <;>
    repeat' (first | with_reducible rfl | with_reducible assumption | with_reducible refine ite_kept ?_ ?_ | with_reducible refine ite_eq_of ?_ ?_ | split | simp only [↓apply_ite State.kept, ite_self, ↓State.kept_mk, State.kept_eta, ↓State.answer_kept, ↓State.move_kept, ↓State.setFilt_kept, ↓State.setTxn_kept])

theorem State.homeEmpty_kept (s : State) (h dst : Nat) (st : Status) :
    (State.homeEmpty s h dst st).kept = s.kept := by
  simp only [State.homeEmpty] <;>
    repeat' (first | with_reducible rfl | with_reducible assumption | with_reducible refine (foldl_fst_kept _ (fun s a => ?_) _ _).trans ?_ | with_reducible refine (foldl_kept _ (fun s a => ?_) _ _).trans ?_ | with_reducible refine ite_kept ?_ ?_ | with_reducible refine ite_eq_of ?_ ?_ | split | simp only [↓apply_ite State.kept, ite_self, ↓State.kept_mk, State.kept_eta, implies_true, ↓foldl_kept, ↓State.closeWindow_kept, ↓State.resolveHome_kept, ↓State.setHome_kept])

theorem State.unserved_kept (s : State) (h n : Nat) :
    (State.unserved s h n).kept = s.kept := by
  simp only [State.unserved] <;>
    repeat' (first | with_reducible rfl | with_reducible assumption | with_reducible refine (foldl_fst_kept _ (fun s a => ?_) _ _).trans ?_ | with_reducible refine (foldl_kept _ (fun s a => ?_) _ _).trans ?_ | with_reducible refine ite_kept ?_ ?_ | with_reducible refine ite_eq_of ?_ ?_ | split | simp only [↓apply_ite State.kept, ite_self, ↓State.kept_mk, State.kept_eta, implies_true, ↓foldl_kept, ↓State.raise_kept, ↓State.setHome_kept])

theorem State.claim_kept (s : State) (x : Recovery) (h : Nat) (st : Status) :
    (State.claim s x h st).1.kept = s.kept := by
  simp only [State.claim] <;>
    repeat' (first | with_reducible rfl | with_reducible assumption | with_reducible refine ite_kept ?_ ?_ | with_reducible refine ite_eq_of ?_ ?_ | split | simp only [↓apply_ite State.kept, ite_self, ↓State.kept_mk, State.kept_eta, ↓apply_ite Prod.fst, ↓apply_ite Prod.snd, ↓State.homeEmpty_kept, ↓State.unserved_kept])

theorem State.claim_kept' {s : State} {x : Recovery} {h : Nat} {st : Status} {t₁} {x₁} (hc : State.claim s x h st = (t₁, x₁)) :
    t₁.kept = s.kept := by
  have e := State.claim_kept s x h st
  rw [hc] at e
  exact e

theorem State.mirrorLost_kept (s : State) (r : Nat) :
    (State.mirrorLost s r).kept = s.kept := by
  simp only [State.mirrorLost] <;>
    repeat' (first | with_reducible rfl | with_reducible assumption | with_reducible refine (foldl_fst_kept _ (fun s a => ?_) _ _).trans ?_ | with_reducible refine (foldl_kept _ (fun s a => ?_) _ _).trans ?_ | with_reducible refine ite_kept ?_ ?_ | with_reducible refine ite_eq_of ?_ ?_ | split | simp only [↓apply_ite State.kept, ite_self, ↓State.kept_mk, State.kept_eta, implies_true, ↓foldl_kept, ↓State.poisonLine_kept, ↓State.setRec_kept])

theorem State.spareFails_kept (s : State) (r h : Nat) :
    (State.spareFails s r h).kept = s.kept := by
  simp only [State.spareFails] <;>
    repeat' (first | with_reducible rfl | with_reducible assumption | with_reducible refine (State.claim_kept' (by assumption)).trans ?_ | with_reducible refine (kept_of_eq (by assumption)).trans ?_ | with_reducible refine (kept_of_eq2 (by assumption)).trans ?_ | with_reducible refine ite_kept ?_ ?_ | with_reducible refine ite_eq_of ?_ ?_ | split | simp only [↓apply_ite State.kept, ite_self, ↓State.kept_mk, State.kept_eta, ↓apply_ite Prod.fst, ↓apply_ite Prod.snd, ↓State.claim_kept, ↓State.recEnd_kept, ↓State.ring_kept, ↓State.setHome_kept, ↓State.setRec_kept])

theorem State.homeDeclare_kept (s : State) (h : Nat) :
    (State.homeDeclare s h).kept = s.kept := by
  simp only [State.homeDeclare] <;>
    repeat' (first | with_reducible rfl | with_reducible assumption | with_reducible refine (State.claim_kept' (by assumption)).trans ?_ | with_reducible refine (kept_of_eq (by assumption)).trans ?_ | with_reducible refine (kept_of_eq2 (by assumption)).trans ?_ | with_reducible refine ite_kept ?_ ?_ | with_reducible refine ite_eq_of ?_ ?_ | split | simp only [↓apply_ite State.kept, ite_self, ↓State.kept_mk, State.kept_eta, ↓apply_ite Prod.fst, ↓apply_ite Prod.snd, ↓State.claim_kept, ↓State.homeLeaves_kept, ↓State.mirrorLost_kept, ↓State.recEnd_kept, ↓State.recOpen_kept, ↓State.setHome_kept, ↓State.spareFails_kept])

theorem State.copyLine_kept (s : State) (x : Recovery) (sp line : Nat) (bad : Bool) :
    (State.copyLine s x sp line bad).kept = s.kept := by
  simp only [State.copyLine] <;>
    repeat' (first | with_reducible rfl | with_reducible assumption | with_reducible refine (State.allocate_kept' (by assumption)).trans ?_ | with_reducible refine (State.allocate_kept' (of_ite_none (by assumption))).trans ?_ | with_reducible refine (State.allocate_kept' (of_ite_none' (by assumption))).trans ?_ | with_reducible refine (kept_of_eq (by assumption)).trans ?_ | with_reducible refine (kept_of_eq2 (by assumption)).trans ?_ | with_reducible refine ite_kept ?_ ?_ | with_reducible refine ite_eq_of ?_ ?_ | split | simp only [↓apply_ite State.kept, ite_self, ↓State.kept_mk, State.kept_eta, ↓apply_ite Prod.fst, ↓apply_ite Prod.snd, ↓State.poisonQuiet_kept, ↓State.raise_kept, ↓State.setHome_kept, ↓State.wbPush_kept])

theorem State.copyPiece_kept (s : State) (r : Nat) (bad : Option Nat) :
    (State.copyPiece s r bad).kept = s.kept := by
  simp only [State.copyPiece] <;>
    repeat' (first | with_reducible rfl | with_reducible assumption | with_reducible refine (foldl_fst_kept _ (fun s a => ?_) _ _).trans ?_ | with_reducible refine (foldl_kept _ (fun s a => ?_) _ _).trans ?_ | with_reducible refine ite_kept ?_ ?_ | with_reducible refine ite_eq_of ?_ ?_ | split | simp only [↓apply_ite State.kept, ite_self, ↓State.kept_mk, State.kept_eta, implies_true, ↓foldl_kept, ↓State.copyLine_kept, ↓State.ring_kept, ↓State.setRec_kept, ↓State.settle_kept])

theorem State.serve_kept (s : State) (r : Nat) :
    (State.serve s r).kept = s.kept := by
  simp only [State.serve] <;>
    repeat' (first | with_reducible rfl | with_reducible assumption | with_reducible refine ite_kept ?_ ?_ | with_reducible refine ite_eq_of ?_ ?_ | split | simp only [↓apply_ite State.kept, ite_self, ↓State.kept_mk, State.kept_eta, ↓State.addRepair_kept, ↓State.recEnd_kept, ↓State.setHome_kept])

theorem State.stackDeclare_kept (s : State) (p : Nat) (say : Bool) :
    (State.stackDeclare s p say).kept = s.kept := by
  simp only [State.stackDeclare] <;>
    repeat' (first | with_reducible rfl | with_reducible assumption | with_reducible refine ite_kept ?_ ?_ | with_reducible refine ite_eq_of ?_ ?_ | split | simp only [↓apply_ite State.kept, ite_self, ↓State.kept_mk, State.kept_eta, ↓State.loseStack_kept, ↓State.recOpen_kept])

theorem State.tineDeclare_kept (s : State) (t : Nat) :
    (State.tineDeclare s t).kept = s.kept := by
  simp only [State.tineDeclare] <;>
    repeat' (first | with_reducible rfl | with_reducible assumption | with_reducible refine ite_kept ?_ ?_ | with_reducible refine ite_eq_of ?_ ?_ | split | simp only [↓apply_ite State.kept, ite_self, ↓State.kept_mk, State.kept_eta, ↓State.recOpen_kept, ↓State.respray_kept, ↓State.tineFails_kept])

theorem State.keyLeaves_kept (s : State) (e : Nat) (x : Recovery) :
    (State.keyLeaves s e x).kept = s.kept := by
  simp only [State.keyLeaves] <;>
    repeat' (first | with_reducible rfl | with_reducible assumption | with_reducible refine ite_kept ?_ ?_ | with_reducible refine ite_eq_of ?_ ?_ | split | simp only [↓apply_ite State.kept, ite_self, ↓State.kept_mk, State.kept_eta, ↓State.isolateOnly_kept, ↓State.recOpen_kept, ↓State.stackDeclare_kept])

theorem State.keyDeclare_kept (s : State) (e : Nat) :
    (State.keyDeclare s e).kept = s.kept := by
  simp only [State.keyDeclare] <;>
    repeat' (first | with_reducible rfl | with_reducible assumption | with_reducible refine ite_kept ?_ ?_ | with_reducible refine ite_eq_of ?_ ?_ | split | simp only [↓apply_ite State.kept, ite_self, ↓State.kept_mk, State.kept_eta, ↓State.keyLeaves_kept, ↓State.ring_kept, ↓State.setUnit_kept])

theorem State.jobsLeave_kept (s : State) (e : Nat) :
    (State.jobsLeave s e).kept = s.kept := by
  simp only [State.jobsLeave] <;>
    repeat' (first | with_reducible rfl | with_reducible assumption | with_reducible refine (foldl_fst_kept _ (fun s a => ?_) _ _).trans ?_ | with_reducible refine (foldl_kept _ (fun s a => ?_) _ _).trans ?_ | with_reducible refine ite_kept ?_ ?_ | with_reducible refine ite_eq_of ?_ ?_ | split | simp only [↓apply_ite State.kept, ite_self, ↓State.kept_mk, State.kept_eta, implies_true, ↓foldl_kept, ↓State.raise_kept, ↓State.seqStop_kept, ↓State.setJob_kept])

theorem State.engineLeaves_kept (s : State) (e : Nat) :
    (State.engineLeaves s e).kept = s.kept := by
  simp only [State.engineLeaves] <;>
    repeat' (first | with_reducible rfl | with_reducible assumption | with_reducible refine ite_kept ?_ ?_ | with_reducible refine ite_eq_of ?_ ?_ | split | simp only [↓apply_ite State.kept, ite_self, ↓State.kept_mk, State.kept_eta, ↓State.ring_kept, ↓State.setEngine_kept])

theorem State.jobDeclare_kept (s : State) (e : Nat) :
    (State.jobDeclare s e).kept = s.kept := by
  simp only [State.jobDeclare] <;>
    repeat' (first | with_reducible rfl | with_reducible assumption | with_reducible refine ite_kept ?_ ?_ | with_reducible refine ite_eq_of ?_ ?_ | split | simp only [↓apply_ite State.kept, ite_self, ↓State.kept_mk, State.kept_eta, ↓State.addRepair_kept, ↓State.engineLeaves_kept, ↓State.jobsLeave_kept, ↓State.recOpen_kept])

theorem State.declare_kept (s : State) (m : Msg) :
    (State.declare s m).kept = s.kept := by
  simp only [State.declare] <;>
    repeat' (first | with_reducible rfl | with_reducible assumption | with_reducible refine ite_kept ?_ ?_ | with_reducible refine ite_eq_of ?_ ?_ | split | simp only [↓apply_ite State.kept, ite_self, ↓State.kept_mk, State.kept_eta, ↓State.fatalEnter_kept, ↓State.homeDeclare_kept, ↓State.isolateOnly_kept, ↓State.jobDeclare_kept, ↓State.keyDeclare_kept, ↓State.stackDeclare_kept, ↓State.tineDeclare_kept])

theorem State.declareIf_kept (s : State) (p : Msg → Bool) :
    (State.declareIf s p).kept = s.kept := by
  simp only [State.declareIf] <;>
    repeat' (first | with_reducible rfl | with_reducible assumption | with_reducible refine (foldl_fst_kept _ (fun s a => ?_) _ _).trans ?_ | with_reducible refine (foldl_kept _ (fun s a => ?_) _ _).trans ?_ | with_reducible refine ite_kept ?_ ?_ | with_reducible refine ite_eq_of ?_ ?_ | split | simp only [↓apply_ite State.kept, ite_self, ↓State.kept_mk, State.kept_eta, implies_true, ↓foldl_kept, ↓State.declare_kept])

theorem State.takeOffline_kept (s : State) (u : Nat) :
    (State.takeOffline s u).kept = s.kept := by
  simp only [State.takeOffline] <;>
    repeat' (first | with_reducible rfl | with_reducible assumption | with_reducible refine ite_kept ?_ ?_ | with_reducible refine ite_eq_of ?_ ?_ | split | simp only [↓apply_ite State.kept, ite_self, ↓State.kept_mk, State.kept_eta, ↓State.engineLeaves_kept, ↓State.homeLeaves_kept, ↓State.recOpen_kept, ↓State.ring_kept, ↓State.setUnit_kept, ↓State.tineFails_kept])

theorem State.bringOnline_kept (s : State) (u : Nat) :
    (State.bringOnline s u).kept = s.kept := by
  simp only [State.bringOnline] <;>
    repeat' (first | with_reducible rfl | with_reducible assumption | with_reducible refine ite_kept ?_ ?_ | with_reducible refine ite_eq_of ?_ ?_ | split | simp only [↓apply_ite State.kept, ite_self, ↓State.kept_mk, State.kept_eta, ↓State.linkUp_kept, ↓State.ring_kept, ↓State.setEngine_kept, ↓State.setMp_kept, ↓State.setTine_kept, ↓State.setUnit_kept])

theorem State.unitApply_kept (s : State) :
    (State.unitApply s).kept = s.kept := by
  simp only [State.unitApply] <;>
    repeat' (first | with_reducible rfl | with_reducible assumption | with_reducible refine ite_kept ?_ ?_ | with_reducible refine ite_eq_of ?_ ?_ | split | simp only [↓apply_ite State.kept, ite_self, ↓State.kept_mk, State.kept_eta, ↓State.bringOnline_kept, ↓State.takeOffline_kept])

theorem State.unitCommand_kept (s : State) (op u : Nat) :
    (State.unitCommand s op u).kept = s.kept := by
  simp only [State.unitCommand] <;>
    repeat' (first | with_reducible rfl | with_reducible assumption | with_reducible refine ite_kept ?_ ?_ | with_reducible refine ite_eq_of ?_ ?_ | split | simp only [↓apply_ite State.kept, ite_self, ↓State.kept_mk, State.kept_eta])

theorem State.limitOffline_kept (s : State) :
    (State.limitOffline s).kept = s.kept := by
  simp only [State.limitOffline] <;>
    repeat' (first | with_reducible rfl | with_reducible assumption | with_reducible refine (foldl_fst_kept _ (fun s a => ?_) _ _).trans ?_ | with_reducible refine (foldl_kept _ (fun s a => ?_) _ _).trans ?_ | with_reducible refine ite_kept ?_ ?_ | with_reducible refine ite_eq_of ?_ ?_ | split | simp only [↓apply_ite State.kept, ite_self, ↓State.kept_mk, State.kept_eta, implies_true, ↓foldl_kept, ↓State.takeOffline_kept])

theorem State.offlineNext_kept (s : State) (r : Nat) :
    (State.offlineNext s r).kept = s.kept := by
  simp only [State.offlineNext] <;>
    repeat' (first | with_reducible rfl | with_reducible assumption | with_reducible refine (State.claim_kept' (by assumption)).trans ?_ | with_reducible refine (foldl_fst_kept _ (fun s a => ?_) _ _).trans ?_ | with_reducible refine (foldl_kept _ (fun s a => ?_) _ _).trans ?_ | with_reducible refine (kept_of_eq (by assumption)).trans ?_ | with_reducible refine (kept_of_eq2 (by assumption)).trans ?_ | with_reducible refine ite_kept ?_ ?_ | with_reducible refine ite_eq_of ?_ ?_ | split | simp only [↓apply_ite State.kept, ite_self, ↓State.kept_mk, State.kept_eta, implies_true, ↓foldl_kept, ↓apply_ite Prod.fst, ↓apply_ite Prod.snd, ↓State.claim_kept, ↓State.jobsLeave_kept, ↓State.raise_kept, ↓State.recEnd_kept, ↓State.respray_kept, ↓State.seqStop_kept, ↓State.setRec_kept])

theorem State.recStart_kept (s : State) (r : Nat) :
    (State.recStart s r).kept = s.kept := by
  simp only [State.recStart] <;>
    repeat' (first | with_reducible rfl | with_reducible assumption | with_reducible refine (State.claim_kept' (by assumption)).trans ?_ | with_reducible refine (kept_of_eq (by assumption)).trans ?_ | with_reducible refine (kept_of_eq2 (by assumption)).trans ?_ | with_reducible refine ite_kept ?_ ?_ | with_reducible refine ite_eq_of ?_ ?_ | split | simp only [↓apply_ite State.kept, ite_self, ↓State.kept_mk, State.kept_eta, ↓apply_ite Prod.fst, ↓apply_ite Prod.snd, ↓State.claim_kept, ↓State.recEnd_kept, ↓State.setRec_kept])

theorem State.recPromote_kept (s : State) :
    (State.recPromote s).kept = s.kept := by
  simp only [State.recPromote] <;>
    repeat' (first | with_reducible rfl | with_reducible assumption | with_reducible refine ite_kept ?_ ?_ | with_reducible refine ite_eq_of ?_ ?_ | split | simp only [↓apply_ite State.kept, ite_self, ↓State.kept_mk, State.kept_eta, ↓State.mgIrq_kept, ↓State.recStart_kept, ↓State.setRec_kept])

theorem State.recStep_kept (s : State) (r : Nat) :
    (State.recStep s r).kept = s.kept := by
  simp only [State.recStep] <;>
    repeat' (first | with_reducible rfl | with_reducible assumption | with_reducible refine ite_kept ?_ ?_ | with_reducible refine ite_eq_of ?_ ?_ | split | simp only [↓apply_ite State.kept, ite_self, ↓State.kept_mk, State.kept_eta, ↓State.flushStart_kept, ↓State.offlineNext_kept, ↓State.recEnd_kept, ↓State.recStart_kept, ↓State.serve_kept, ↓State.setHome_kept, ↓State.setMp_kept, ↓State.setRec_kept])

theorem State.recTick_kept (s : State) :
    (State.recTick s).kept = s.kept := by
  simp only [State.recTick] <;>
    repeat' (first | with_reducible rfl | with_reducible assumption | with_reducible refine (foldl_fst_kept _ (fun s a => ?_) _ _).trans ?_ | with_reducible refine (foldl_kept _ (fun s a => ?_) _ _).trans ?_ | with_reducible refine ite_kept ?_ ?_ | with_reducible refine ite_eq_of ?_ ?_ | split | simp only [↓apply_ite State.kept, ite_self, ↓State.kept_mk, State.kept_eta, implies_true, ↓foldl_kept, ↓State.raise_kept, ↓State.recLate_kept, ↓State.recPromote_kept, ↓State.recStep_kept])

theorem State.declareAll_kept (s : State) :
    (State.declareAll s).kept = s.kept := by
  simp only [State.declareAll] <;>
    repeat' (first | with_reducible rfl | with_reducible assumption | with_reducible refine (foldl_fst_kept _ (fun s a => ?_) _ _).trans ?_ | with_reducible refine (foldl_kept _ (fun s a => ?_) _ _).trans ?_ | with_reducible refine ite_kept ?_ ?_ | with_reducible refine ite_eq_of ?_ ?_ | split | simp only [↓apply_ite State.kept, ite_self, ↓State.kept_mk, State.kept_eta, implies_true, ↓foldl_kept, ↓State.declareIf_kept, ↓State.limitOffline_kept, ↓State.stackDeclare_kept, ↓State.unitApply_kept])

theorem State.bridgeFails_kept (s : State) (b : BridgeCheck) :
    (State.bridgeFails s b).kept = s.kept := by
  simp only [State.bridgeFails] <;>
    repeat' (first | with_reducible rfl | with_reducible assumption | with_reducible refine ite_kept ?_ ?_ | with_reducible refine ite_eq_of ?_ ?_ | split | simp only [↓apply_ite State.kept, ite_self, ↓State.kept_mk, State.kept_eta, ↓State.raise_kept])

end Sys2Proof.Machine
end

