-- ==== Sys2Proof/Laws/KeptFawn.lean ====
section
/-! SUPPORT. The operations of Fawn, the pair, the sideband, observability and the boundary keep `State.kept`. -/

set_option maxRecDepth 4000
set_option linter.all false

namespace Sys2Proof.Machine

theorem State.notice_kept (s : State) :
    (State.notice s).kept = s.kept := by
  simp only [State.notice] <;>
    repeat' (first | with_reducible rfl | with_reducible assumption | with_reducible refine ite_kept ?_ ?_ | with_reducible refine ite_eq_of ?_ ?_ | split | simp only [↓apply_ite State.kept, ite_self, ↓State.kept_mk, State.kept_eta, ↓State.event_kept])

theorem State.setPhase_kept (s : State) (p : Nat) :
    (State.setPhase s p).kept = s.kept := by
  simp only [State.setPhase] <;>
    repeat' (first | with_reducible rfl | with_reducible assumption | with_reducible refine ite_kept ?_ ?_ | with_reducible refine ite_eq_of ?_ ?_ | split | simp only [↓apply_ite State.kept, ite_self, ↓State.kept_mk, State.kept_eta, ↓State.notice_kept, ↓State.ring_kept])

theorem State.startFails_kept (s : State) (kind : Nat) :
    (State.startFails s kind).kept = s.kept := by
  simp only [State.startFails] <;>
    repeat' (first | with_reducible rfl | with_reducible assumption | with_reducible refine ite_kept ?_ ?_ | with_reducible refine ite_eq_of ?_ ?_ | split | simp only [↓apply_ite State.kept, ite_self, ↓State.kept_mk, State.kept_eta, ↓State.deliverAll_kept, ↓State.fatalEnter_kept, ↓State.setPhase_kept])

theorem State.fclkStart_kept (s : State) (p : Nat) :
    (State.fclkStart s p).kept = s.kept := by
  simp only [State.fclkStart] <;>
    repeat' (first | with_reducible rfl | with_reducible assumption | with_reducible refine ite_kept ?_ ?_ | with_reducible refine ite_eq_of ?_ ?_ | split | simp only [↓apply_ite State.kept, ite_self, ↓State.kept_mk, State.kept_eta, ↓State.power_kept, ↓State.xoffAll_kept])

theorem State.fclkWant_kept (s : State) (p : Nat) :
    (State.fclkWant s p).kept = s.kept := by
  simp only [State.fclkWant] <;>
    repeat' (first | with_reducible rfl | with_reducible assumption | with_reducible refine ite_kept ?_ ?_ | with_reducible refine ite_eq_of ?_ ?_ | split | simp only [↓apply_ite State.kept, ite_self, ↓State.kept_mk, State.kept_eta])

theorem State.fclkBoundary_kept (s : State) :
    (State.fclkBoundary s).kept = s.kept := by
  simp only [State.fclkBoundary] <;>
    repeat' (first | with_reducible rfl | with_reducible assumption | with_reducible refine ite_kept ?_ ?_ | with_reducible refine ite_eq_of ?_ ?_ | split | simp only [↓apply_ite State.kept, ite_self, ↓State.kept_mk, State.kept_eta, ↓State.fclkStart_kept])

theorem State.fclkIsStable_kept (s : State) :
    (State.fclkIsStable s).kept = s.kept := by
  simp only [State.fclkIsStable] <;>
    repeat' (first | with_reducible rfl | with_reducible assumption | with_reducible refine (foldl_fst_kept _ (fun s a => ?_) _ _).trans ?_ | with_reducible refine (foldl_kept _ (fun s a => ?_) _ _).trans ?_ | with_reducible refine ite_kept ?_ ?_ | with_reducible refine ite_eq_of ?_ ?_ | split | simp only [↓apply_ite State.kept, ite_self, ↓State.kept_mk, State.kept_eta, implies_true, ↓foldl_kept, ↓State.emit_kept, ↓State.setMp_kept, ↓State.xoffAll_kept])

theorem State.fclkFails_kept (s : State) :
    (State.fclkFails s).kept = s.kept := by
  simp only [State.fclkFails] <;>
    repeat' (first | with_reducible rfl | with_reducible assumption | with_reducible refine ite_kept ?_ ?_ | with_reducible refine ite_eq_of ?_ ?_ | split | simp only [↓apply_ite State.kept, ite_self, ↓State.kept_mk, State.kept_eta, ↓State.raise_kept, ↓State.startFails_kept])

theorem State.setSensor_kept (s : State) (k : Nat) (x : SensorSt) :
    (State.setSensor s k x).kept = s.kept := by
  simp only [State.setSensor] <;>
    repeat' (first | with_reducible rfl | with_reducible assumption | with_reducible refine ite_kept ?_ ?_ | with_reducible refine ite_eq_of ?_ ?_ | split | simp only [↓apply_ite State.kept, ite_self, ↓State.kept_mk, State.kept_eta])

theorem State.setSupply_kept (s : State) (m : Nat) (x : SupplySt) :
    (State.setSupply s m x).kept = s.kept := by
  simp only [State.setSupply] <;>
    repeat' (first | with_reducible rfl | with_reducible assumption | with_reducible refine ite_kept ?_ ?_ | with_reducible refine ite_eq_of ?_ ?_ | split | simp only [↓apply_ite State.kept, ite_self, ↓State.kept_mk, State.kept_eta])

theorem State.parkTrip_kept (s : State) :
    (State.parkTrip s).kept = s.kept := by
  simp only [State.parkTrip] <;>
    repeat' (first | with_reducible rfl | with_reducible assumption | with_reducible refine ite_kept ?_ ?_ | with_reducible refine ite_eq_of ?_ ?_ | split | simp only [↓apply_ite State.kept, ite_self, ↓State.kept_mk, State.kept_eta, ↓State.fclkWant_kept, ↓State.power_kept, ↓State.raise_kept, ↓State.xoffAll_kept])

theorem State.thermalUp_kept (s : State) :
    (State.thermalUp s).kept = s.kept := by
  simp only [State.thermalUp] <;>
    repeat' (first | with_reducible rfl | with_reducible assumption | with_reducible refine ite_kept ?_ ?_ | with_reducible refine ite_eq_of ?_ ?_ | split | simp only [↓apply_ite State.kept, ite_self, ↓State.kept_mk, State.kept_eta, ↓State.fclkWant_kept])

theorem State.thermalDown_kept (s : State) :
    (State.thermalDown s).kept = s.kept := by
  simp only [State.thermalDown] <;>
    repeat' (first | with_reducible rfl | with_reducible assumption | with_reducible refine ite_kept ?_ ?_ | with_reducible refine ite_eq_of ?_ ?_ | split | simp only [↓apply_ite State.kept, ite_self, ↓State.kept_mk, State.kept_eta, ↓State.fclkWant_kept])

theorem State.thermalTick_kept (s : State) :
    (State.thermalTick s).kept = s.kept := by
  simp only [State.thermalTick] <;>
    repeat' (first | with_reducible rfl | with_reducible assumption | with_reducible refine ite_kept ?_ ?_ | with_reducible refine ite_eq_of ?_ ?_ | split | simp only [↓apply_ite State.kept, ite_self, ↓State.kept_mk, State.kept_eta, ↓State.parkTrip_kept, ↓State.raise_kept, ↓State.thermalDown_kept, ↓State.thermalUp_kept])

theorem State.sensorOut_kept (s : State) (k : Nat) (x : SensorSt) :
    (State.sensorOut s k x).kept = s.kept := by
  simp only [State.sensorOut] <;>
    repeat' (first | with_reducible rfl | with_reducible assumption | with_reducible refine ite_kept ?_ ?_ | with_reducible refine ite_eq_of ?_ ?_ | split | simp only [↓apply_ite State.kept, ite_self, ↓State.kept_mk, State.kept_eta, ↓State.parkTrip_kept, ↓State.raise_kept, ↓State.setSensor_kept])

theorem State.thermalSample_kept (s : State) (k : Nat) (v : Int) :
    (State.thermalSample s k v).kept = s.kept := by
  simp only [State.thermalSample] <;>
    repeat' (first | with_reducible rfl | with_reducible assumption | with_reducible refine ite_kept ?_ ?_ | with_reducible refine ite_eq_of ?_ ?_ | split | simp only [↓apply_ite State.kept, ite_self, ↓State.kept_mk, State.kept_eta, ↓State.parkTrip_kept, ↓State.sensorOut_kept, ↓State.setSensor_kept])

theorem State.supplySample_kept (s : State) (m v : Nat) :
    (State.supplySample s m v).kept = s.kept := by
  simp only [State.supplySample] <;>
    repeat' (first | with_reducible rfl | with_reducible assumption | with_reducible refine ite_kept ?_ ?_ | with_reducible refine ite_eq_of ?_ ?_ | split | simp only [↓apply_ite State.kept, ite_self, ↓State.kept_mk, State.kept_eta, ↓State.raise_kept, ↓State.setSupply_kept])

theorem State.sensorStale_kept (s : State) (supply : Bool) (k : Nat) :
    (State.sensorStale s supply k).kept = s.kept := by
  simp only [State.sensorStale] <;>
    repeat' (first | with_reducible rfl | with_reducible assumption | with_reducible refine ite_kept ?_ ?_ | with_reducible refine ite_eq_of ?_ ?_ | split | simp only [↓apply_ite State.kept, ite_self, ↓State.kept_mk, State.kept_eta, ↓State.raise_kept, ↓State.sensorOut_kept, ↓State.setSupply_kept])

theorem State.timebaseGone_kept (s : State) :
    (State.timebaseGone s).kept = s.kept := by
  simp only [State.timebaseGone] <;>
    repeat' (first | with_reducible rfl | with_reducible assumption | with_reducible refine ite_kept ?_ ?_ | with_reducible refine ite_eq_of ?_ ?_ | split | simp only [↓apply_ite State.kept, ite_self, ↓State.kept_mk, State.kept_eta, ↓State.deliverAll_kept, ↓State.fatalEnter_kept, ↓State.raise_kept])

theorem State.offsetHigh_kept (s : State) :
    (State.offsetHigh s).kept = s.kept := by
  simp only [State.offsetHigh] <;>
    repeat' (first | with_reducible rfl | with_reducible assumption | with_reducible refine ite_kept ?_ ?_ | with_reducible refine ite_eq_of ?_ ?_ | split | simp only [↓apply_ite State.kept, ite_self, ↓State.kept_mk, State.kept_eta, ↓State.raise_kept])

theorem State.offsetTickWatch_kept (s : State) :
    (State.offsetTickWatch s).kept = s.kept := by
  simp only [State.offsetTickWatch] <;>
    repeat' (first | with_reducible rfl | with_reducible assumption | with_reducible refine ite_kept ?_ ?_ | with_reducible refine ite_eq_of ?_ ?_ | split | simp only [↓apply_ite State.kept, ite_self, ↓State.kept_mk, State.kept_eta, ↓State.offsetHigh_kept])

theorem State.bootCmds_kept (s : State) (b : BootRead) :
    (State.bootCmds s b).kept = s.kept := by
  simp only [State.bootCmds] <;>
    repeat' (first | with_reducible rfl | with_reducible assumption | with_reducible refine (foldl_fst_kept _ (fun s a => ?_) _ _).trans ?_ | with_reducible refine (foldl_kept _ (fun s a => ?_) _ _).trans ?_ | with_reducible refine ite_kept ?_ ?_ | with_reducible refine ite_eq_of ?_ ?_ | split | simp only [↓apply_ite State.kept, ite_self, ↓State.kept_mk, State.kept_eta, implies_true, ↓foldl_kept, ↓State.emit_kept, ↓State.hoofprint_kept])

theorem State.bootRead_kept (s : State) (b : BootRead) :
    (State.bootRead s b).kept = s.kept := by
  simp only [State.bootRead] <;>
    repeat' (first | with_reducible rfl | with_reducible assumption | with_reducible refine ite_kept ?_ ?_ | with_reducible refine ite_eq_of ?_ ?_ | split | simp only [↓apply_ite State.kept, ite_self, ↓State.kept_mk, State.kept_eta, ↓State.bootCmds_kept, ↓State.hoofprint_kept, ↓State.power_kept, ↓State.raise_kept, ↓State.setPhase_kept])

theorem State.fabricLate_kept (s : State) :
    (State.fabricLate s).kept = s.kept := by
  simp only [State.fabricLate] <;>
    repeat' (first | with_reducible rfl | with_reducible assumption | with_reducible refine ite_kept ?_ ?_ | with_reducible refine ite_eq_of ?_ ?_ | split | simp only [↓apply_ite State.kept, ite_self, ↓State.kept_mk, State.kept_eta, ↓State.power_kept, ↓State.raise_kept])

theorem State.retireHome_kept (s : State) (h : Nat) :
    (State.retireHome s h).kept = s.kept := by
  simp only [State.retireHome] <;>
    repeat' (first | with_reducible rfl | with_reducible assumption | with_reducible refine ite_kept ?_ ?_ | with_reducible refine ite_eq_of ?_ ?_ | split | simp only [↓apply_ite State.kept, ite_self, ↓State.kept_mk, State.kept_eta, ↓State.setHome_kept, ↓State.unserved_kept])

theorem State.repairEntry_kept (s : State) (e : Nat) :
    (State.repairEntry s e).kept = s.kept := by
  simp only [State.repairEntry] <;>
    repeat' (first | with_reducible rfl | with_reducible assumption | with_reducible refine ite_kept ?_ ?_ | with_reducible refine ite_eq_of ?_ ?_ | split | simp only [↓apply_ite State.kept, ite_self, ↓State.kept_mk, State.kept_eta, ↓State.retireHome_kept, ↓State.setEngine_kept, ↓State.setHome_kept])

theorem State.repairApply_kept (s : State) :
    (State.repairApply s).kept = s.kept := by
  simp only [State.repairApply] <;>
    repeat' (first | with_reducible rfl | with_reducible assumption | with_reducible refine (foldl_fst_kept _ (fun s a => ?_) _ _).trans ?_ | with_reducible refine (foldl_kept _ (fun s a => ?_) _ _).trans ?_ | with_reducible refine ite_kept ?_ ?_ | with_reducible refine ite_eq_of ?_ ?_ | split | simp only [↓apply_ite State.kept, ite_self, ↓State.kept_mk, State.kept_eta, implies_true, ↓foldl_kept, ↓State.raise_kept, ↓State.repairEntry_kept])

theorem State.selfTested_kept (s : State) (failed : List Nat) :
    (State.selfTested s failed).kept = s.kept := by
  simp only [State.selfTested] <;>
    repeat' (first | with_reducible rfl | with_reducible assumption | with_reducible refine (foldl_fst_kept _ (fun s a => ?_) _ _).trans ?_ | with_reducible refine (foldl_kept _ (fun s a => ?_) _ _).trans ?_ | with_reducible refine ite_kept ?_ ?_ | with_reducible refine ite_eq_of ?_ ?_ | split | simp only [↓apply_ite State.kept, ite_self, ↓State.kept_mk, State.kept_eta, implies_true, ↓foldl_kept, ↓State.repairApply_kept, ↓State.setPhase_kept, ↓State.startFails_kept, ↓State.unitFails_kept])

theorem State.initialized_kept (s : State) :
    (State.initialized s).kept = s.kept := by
  simp only [State.initialized] <;>
    repeat' (first | with_reducible rfl | with_reducible assumption | with_reducible refine ite_kept ?_ ?_ | with_reducible refine ite_eq_of ?_ ?_ | split | simp only [↓apply_ite State.kept, ite_self, ↓State.kept_mk, State.kept_eta, ↓State.mgIrq_kept, ↓State.notice_kept, ↓State.setPhase_kept])

theorem State.fwSet_kept (s : State) (st res : Nat) :
    (State.fwSet s st res).kept = s.kept := by
  simp only [State.fwSet] <;>
    repeat' (first | with_reducible rfl | with_reducible assumption | with_reducible refine ite_kept ?_ ?_ | with_reducible refine ite_eq_of ?_ ?_ | split | simp only [↓apply_ite State.kept, ite_self, ↓State.kept_mk, State.kept_eta, ↓State.mgIrq_kept])

theorem State.fwCheck_kept (s : State) :
    (State.fwCheck s).kept = s.kept := by
  simp only [State.fwCheck] <;>
    repeat' (first | with_reducible rfl | with_reducible assumption | with_reducible refine ite_kept ?_ ?_ | with_reducible refine ite_eq_of ?_ ?_ | split | simp only [↓apply_ite State.kept, ite_self, ↓State.kept_mk, State.kept_eta, ↓State.fwSet_kept, ↓State.raise_kept])

theorem State.fwOp_kept (s : State) (op : Nat) :
    (State.fwOp s op).kept = s.kept := by
  simp only [State.fwOp] <;>
    repeat' (first | with_reducible rfl | with_reducible assumption | with_reducible refine ite_kept ?_ ?_ | with_reducible refine ite_eq_of ?_ ?_ | split | simp only [↓apply_ite State.kept, ite_self, ↓State.kept_mk, State.kept_eta, ↓State.fwSet_kept, ↓State.setPhase_kept])

theorem State.fwData_kept (s : State) (d : Reg) :
    (State.fwData s d).kept = s.kept := by
  simp only [State.fwData] <;>
    repeat' (first | with_reducible rfl | with_reducible assumption | with_reducible refine ite_kept ?_ ?_ | with_reducible refine ite_eq_of ?_ ?_ | split | simp only [↓apply_ite State.kept, ite_self, ↓State.kept_mk, State.kept_eta, ↓State.fwSet_kept])

theorem State.firmwareKeys_kept (s : State) :
    (State.firmwareKeys s).kept = s.kept := by
  simp only [State.firmwareKeys] <;>
    repeat' (first | with_reducible rfl | with_reducible assumption | with_reducible refine ite_kept ?_ ?_ | with_reducible refine ite_eq_of ?_ ?_ | split | simp only [↓apply_ite State.kept, ite_self, ↓State.kept_mk, State.kept_eta, ↓State.deriveMeasured_kept])

theorem State.handover_kept (s : State) :
    (State.handover s).kept = s.kept := by
  simp only [State.handover] <;>
    repeat' (first | with_reducible rfl | with_reducible assumption | with_reducible refine ite_kept ?_ ?_ | with_reducible refine ite_eq_of ?_ ?_ | split | simp only [↓apply_ite State.kept, ite_self, ↓State.kept_mk, State.kept_eta, ↓State.firmwareKeys_kept, ↓State.fwSet_kept])

theorem State.heartbeat_kept (s : State) :
    (State.heartbeat s).kept = s.kept := by
  simp only [State.heartbeat] <;>
    repeat' (first | with_reducible rfl | with_reducible assumption | with_reducible refine ite_kept ?_ ?_ | with_reducible refine ite_eq_of ?_ ?_ | split | simp only [↓apply_ite State.kept, ite_self, ↓State.kept_mk, State.kept_eta, ↓State.fwSet_kept])

theorem State.fwRevert_kept (s : State) :
    (State.fwRevert s).kept = s.kept := by
  simp only [State.fwRevert] <;>
    repeat' (first | with_reducible rfl | with_reducible assumption | with_reducible refine ite_kept ?_ ?_ | with_reducible refine ite_eq_of ?_ ?_ | split | simp only [↓apply_ite State.kept, ite_self, ↓State.kept_mk, State.kept_eta, ↓State.fwSet_kept, ↓State.raise_kept, ↓State.setPhase_kept])

theorem State.revertStep_kept (s : State) :
    (State.revertStep s).kept = s.kept := by
  simp only [State.revertStep] <;>
    repeat' (first | with_reducible rfl | with_reducible assumption | with_reducible refine ite_kept ?_ ?_ | with_reducible refine ite_eq_of ?_ ?_ | split | simp only [↓apply_ite State.kept, ite_self, ↓State.kept_mk, State.kept_eta, ↓State.firmwareKeys_kept])

theorem State.fawnFails_kept (s : State) :
    (State.fawnFails s).kept = s.kept := by
  simp only [State.fawnFails] <;>
    repeat' (first | with_reducible rfl | with_reducible assumption | with_reducible refine ite_kept ?_ ?_ | with_reducible refine ite_eq_of ?_ ?_ | split | simp only [↓apply_ite State.kept, ite_self, ↓State.kept_mk, State.kept_eta, ↓State.raise_kept])

theorem State.heartbeatTick_kept (s : State) :
    (State.heartbeatTick s).kept = s.kept := by
  simp only [State.heartbeatTick] <;>
    repeat' (first | with_reducible rfl | with_reducible assumption | with_reducible refine ite_kept ?_ ?_ | with_reducible refine ite_eq_of ?_ ?_ | split | simp only [↓apply_ite State.kept, ite_self, ↓State.kept_mk, State.kept_eta, ↓State.fawnFails_kept, ↓State.fwRevert_kept])

theorem State.powerWrite_kept (s : State) (v : Nat) :
    (State.powerWrite s v).kept = s.kept := by
  simp only [State.powerWrite] <;>
    repeat' (first | with_reducible rfl | with_reducible assumption | with_reducible refine ite_kept ?_ ?_ | with_reducible refine ite_eq_of ?_ ?_ | split | simp only [↓apply_ite State.kept, ite_self, ↓State.kept_mk, State.kept_eta])

theorem State.powerRefuse_kept (s : State) :
    (State.powerRefuse s).kept = s.kept := by
  simp only [State.powerRefuse] <;>
    repeat' (first | with_reducible rfl | with_reducible assumption | with_reducible refine (foldl_fst_kept _ (fun s a => ?_) _ _).trans ?_ | with_reducible refine (foldl_kept _ (fun s a => ?_) _ _).trans ?_ | with_reducible refine ite_kept ?_ ?_ | with_reducible refine ite_eq_of ?_ ?_ | split | simp only [↓apply_ite State.kept, ite_self, ↓State.kept_mk, State.kept_eta, implies_true, ↓foldl_kept, ↓State.emit_kept, ↓State.setMp_kept, ↓State.xoffAll_kept])

theorem State.selfRefreshAll_kept (s : State) :
    (State.selfRefreshAll s).kept = s.kept := by
  simp only [State.selfRefreshAll] <;>
    repeat' (first | with_reducible rfl | with_reducible assumption | with_reducible refine (foldl_fst_kept _ (fun s a => ?_) _ _).trans ?_ | with_reducible refine (foldl_kept _ (fun s a => ?_) _ _).trans ?_ | with_reducible refine ite_kept ?_ ?_ | with_reducible refine ite_eq_of ?_ ?_ | split | simp only [↓apply_ite State.kept, ite_self, ↓State.kept_mk, State.kept_eta, implies_true, ↓foldl_kept, ↓State.emit_kept, ↓State.setMp_kept])

theorem State.enterDoze_kept (s : State) :
    (State.enterDoze s).kept = s.kept := by
  simp only [State.enterDoze] <;>
    repeat' (first | with_reducible rfl | with_reducible assumption | with_reducible refine ite_kept ?_ ?_ | with_reducible refine ite_eq_of ?_ ?_ | split | simp only [↓apply_ite State.kept, ite_self, ↓State.kept_mk, State.kept_eta, ↓State.mgIrq_kept, ↓State.notice_kept, ↓State.power_kept])

theorem State.selfRefreshCheck_kept (s : State) (acks : BitVec 16) :
    (State.selfRefreshCheck s acks).kept = s.kept := by
  simp only [State.selfRefreshCheck] <;>
    repeat' (first | with_reducible rfl | with_reducible assumption | with_reducible refine (foldl_fst_kept _ (fun s a => ?_) _ _).trans ?_ | with_reducible refine (foldl_kept _ (fun s a => ?_) _ _).trans ?_ | with_reducible refine ite_kept ?_ ?_ | with_reducible refine ite_eq_of ?_ ?_ | split | simp only [↓apply_ite State.kept, ite_self, ↓State.kept_mk, State.kept_eta, implies_true, ↓foldl_kept, ↓State.powerRefuse_kept, ↓State.setMp_kept])

theorem State.wakeUp_kept (s : State) (src : WakeSource) :
    (State.wakeUp s src).kept = s.kept := by
  simp only [State.wakeUp] <;>
    repeat' (first | with_reducible rfl | with_reducible assumption | with_reducible refine ite_kept ?_ ?_ | with_reducible refine ite_eq_of ?_ ?_ | split | simp only [↓apply_ite State.kept, ite_self, ↓State.kept_mk, State.kept_eta, ↓State.fclkStart_kept, ↓State.power_kept, ↓State.setPhase_kept])

theorem State.wakeDone_kept (s : State) (trained : BitVec 16) :
    (State.wakeDone s trained).kept = s.kept := by
  simp only [State.wakeDone] <;>
    repeat' (first | with_reducible rfl | with_reducible assumption | with_reducible refine (foldl_fst_kept _ (fun s a => ?_) _ _).trans ?_ | with_reducible refine (foldl_kept _ (fun s a => ?_) _ _).trans ?_ | with_reducible refine ite_kept ?_ ?_ | with_reducible refine ite_eq_of ?_ ?_ | split | simp only [↓apply_ite State.kept, ite_self, ↓State.kept_mk, State.kept_eta, implies_true, ↓foldl_kept, ↓State.mgIrq_kept, ↓State.notice_kept, ↓State.power_kept, ↓State.setMp_kept, ↓State.xoffAll_kept])

theorem State.powerOp_kept (s : State) (op arg : Nat) :
    (State.powerOp s op arg).kept = s.kept := by
  simp only [State.powerOp] <;>
    repeat' (first | with_reducible rfl | with_reducible assumption | with_reducible refine ite_kept ?_ ?_ | with_reducible refine ite_eq_of ?_ ?_ | split | simp only [↓apply_ite State.kept, ite_self, ↓State.kept_mk, State.kept_eta, ↓State.power_kept])

theorem State.pairCollect_kept (s : State) :
    (State.pairCollect s).kept = s.kept := by
  simp only [State.pairCollect] <;>
    repeat' (first | with_reducible rfl | with_reducible assumption | with_reducible refine (foldl_fst_kept _ (fun s a => ?_) _ _).trans ?_ | with_reducible refine (foldl_kept _ (fun s a => ?_) _ _).trans ?_ | with_reducible refine ite_kept ?_ ?_ | with_reducible refine ite_eq_of ?_ ?_ | split | simp only [↓apply_ite State.kept, ite_self, ↓State.kept_mk, State.kept_eta, implies_true, ↓foldl_kept])

theorem State.mirrorOut_kept (s : State) (i : Nat) (f : MirrorFrame) :
    (State.mirrorOut s i f).kept = s.kept := by
  simp only [State.mirrorOut] <;>
    repeat' (first | with_reducible rfl | with_reducible assumption | with_reducible refine (State.sealFrame_kept' (by assumption)).trans ?_ | with_reducible refine (kept_of_eq (by assumption)).trans ?_ | with_reducible refine (kept_of_eq2 (by assumption)).trans ?_ | with_reducible refine ite_kept ?_ ?_ | with_reducible refine ite_eq_of ?_ ?_ | split | simp only [↓apply_ite State.kept, ite_self, ↓State.kept_mk, State.kept_eta, ↓apply_ite Prod.fst, ↓apply_ite Prod.snd, ↓State.emitCtl_kept, ↓State.sealFrame_kept])

theorem State.mirrorSend_kept (s : State) :
    (State.mirrorSend s).kept = s.kept := by
  simp only [State.mirrorSend] <;>
    repeat' (first | with_reducible rfl | with_reducible assumption | with_reducible refine (foldl_fst_kept _ (fun s a => ?_) _ _).trans ?_ | with_reducible refine (foldl_kept _ (fun s a => ?_) _ _).trans ?_ | with_reducible refine ite_kept ?_ ?_ | with_reducible refine ite_eq_of ?_ ?_ | split | simp only [↓apply_ite State.kept, ite_self, ↓State.kept_mk, State.kept_eta, implies_true, ↓foldl_kept, ↓State.mirrorOut_kept])

theorem State.pairGo_kept (s : State) (st : Nat) :
    (State.pairGo s st).kept = s.kept := by
  simp only [State.pairGo] <;>
    repeat' (first | with_reducible rfl | with_reducible assumption | with_reducible refine ite_kept ?_ ?_ | with_reducible refine ite_eq_of ?_ ?_ | split | simp only [↓apply_ite State.kept, ite_self, ↓State.kept_mk, State.kept_eta, ↓State.mgIrq_kept, ↓State.notice_kept])

theorem State.pairWrite_kept (s : State) (op : Nat) :
    (State.pairWrite s op).kept = s.kept := by
  simp only [State.pairWrite] <;>
    repeat' (first | with_reducible rfl | with_reducible assumption | with_reducible refine ite_kept ?_ ?_ | with_reducible refine ite_eq_of ?_ ?_ | split | simp only [↓apply_ite State.kept, ite_self, ↓State.kept_mk, State.kept_eta])

theorem State.syncStart_kept (s : State) :
    (State.syncStart s).kept = s.kept := by
  simp only [State.syncStart] <;>
    repeat' (first | with_reducible rfl | with_reducible assumption | with_reducible refine ite_kept ?_ ?_ | with_reducible refine ite_eq_of ?_ ?_ | split | simp only [↓apply_ite State.kept, ite_self, ↓State.kept_mk, State.kept_eta, ↓State.pairGo_kept])

theorem State.fenceTaken_kept (s : State) (i : Nat) :
    (State.fenceTaken s i).kept = s.kept := by
  simp only [State.fenceTaken] <;>
    repeat' (first | with_reducible rfl | with_reducible assumption | with_reducible refine ite_kept ?_ ?_ | with_reducible refine ite_eq_of ?_ ?_ | split | simp only [↓apply_ite State.kept, ite_self, ↓State.kept_mk, State.kept_eta, ↓State.fencePageIrq_kept, ↓State.setFence_kept])

theorem State.pairLost_kept (s : State) :
    (State.pairLost s).kept = s.kept := by
  simp only [State.pairLost] <;>
    repeat' (first | with_reducible rfl | with_reducible assumption | with_reducible refine ite_kept ?_ ?_ | with_reducible refine ite_eq_of ?_ ?_ | split | simp only [↓apply_ite State.kept, ite_self, ↓State.kept_mk, State.kept_eta, ↓State.pairGo_kept, ↓State.raise_kept])

theorem State.pairLag_kept (s : State) :
    (State.pairLag s).kept = s.kept := by
  simp only [State.pairLag] <;>
    repeat' (first | with_reducible rfl | with_reducible assumption | with_reducible refine ite_kept ?_ ?_ | with_reducible refine ite_eq_of ?_ ?_ | split | simp only [↓apply_ite State.kept, ite_self, ↓State.kept_mk, State.kept_eta, ↓State.raise_kept])

theorem State.mirrorCtx_kept (s : State) (x : Nat) (w0 w1 w2 : Reg) :
    (State.mirrorCtx s x w0 w1 w2).kept = s.kept := by
  simp only [State.mirrorCtx] <;>
    repeat' (first | with_reducible rfl | with_reducible assumption | with_reducible refine ite_kept ?_ ?_ | with_reducible refine ite_eq_of ?_ ?_ | split | simp only [↓apply_ite State.kept, ite_self, ↓State.kept_mk, State.kept_eta, ↓State.setCtx_kept, ↓State.setSlot_kept])

theorem State.mirrorKey_kept (s : State) (k fn st : Nat) :
    (State.mirrorKey s k fn st).kept = s.kept := by
  simp only [State.mirrorKey] <;>
    repeat' (first | with_reducible rfl | with_reducible assumption | with_reducible refine ite_kept ?_ ?_ | with_reducible refine ite_eq_of ?_ ?_ | split | simp only [↓apply_ite State.kept, ite_self, ↓State.kept_mk, State.kept_eta, ↓State.markKey_kept, ↓State.stageKey_kept])

theorem State.sweepBegins_kept (s : State) :
    (State.sweepBegins s).kept = s.kept := by
  simp only [State.sweepBegins] <;>
    repeat' (first | with_reducible rfl | with_reducible assumption | with_reducible refine ite_kept ?_ ?_ | with_reducible refine ite_eq_of ?_ ?_ | split | simp only [↓apply_ite State.kept, ite_self, ↓State.kept_mk, State.kept_eta, ↓State.pairGo_kept])

theorem State.rxPut_kept (s : State) (f : MirrorFrame) :
    (State.rxPut s f).kept = s.kept := by
  simp only [State.rxPut] <;>
    repeat' (first | with_reducible rfl | with_reducible assumption | with_reducible refine ite_kept ?_ ?_ | with_reducible refine ite_eq_of ?_ ?_ | split | simp only [↓apply_ite State.kept, ite_self, ↓State.kept_mk, State.kept_eta])

theorem State.mirrorRx_kept (s : State) (f : MirrorFrame) :
    (State.mirrorRx s f).kept = s.kept := by
  simp only [State.mirrorRx] <;>
    repeat' (first | with_reducible rfl | with_reducible assumption | with_reducible refine ite_kept ?_ ?_ | with_reducible refine ite_eq_of ?_ ?_ | split | simp only [↓apply_ite State.kept, ite_self, ↓State.kept_mk, State.kept_eta, ↓State.raise_kept, ↓State.rxPut_kept])

theorem State.mirrorIn_kept (s : State) (t : Nat) (f : Frame) :
    (State.mirrorIn s t f).kept = s.kept := by
  simp only [State.mirrorIn] <;>
    repeat' (first | with_reducible rfl | with_reducible assumption | with_reducible refine (State.judgeFrame_kept' (by assumption)).trans ?_ | with_reducible refine (kept_of_eq (by assumption)).trans ?_ | with_reducible refine (kept_of_eq2 (by assumption)).trans ?_ | with_reducible refine ite_kept ?_ ?_ | with_reducible refine ite_eq_of ?_ ?_ | split | simp only [↓apply_ite State.kept, ite_self, ↓State.kept_mk, State.kept_eta, ↓apply_ite Prod.fst, ↓apply_ite Prod.snd, ↓State.frameDrop_kept, ↓State.judgeFrame_kept, ↓State.mirrorRx_kept])

theorem State.syncDone_kept (s : State) :
    (State.syncDone s).kept = s.kept := by
  simp only [State.syncDone] <;>
    repeat' (first | with_reducible rfl | with_reducible assumption | with_reducible refine ite_kept ?_ ?_ | with_reducible refine ite_eq_of ?_ ?_ | split | simp only [↓apply_ite State.kept, ite_self, ↓State.kept_mk, State.kept_eta, ↓State.pairGo_kept])

theorem State.sbAnswer_kept (s : State) (code : Nat) (args : List Nat) :
    (State.sbAnswer s code args).kept = s.kept := by
  simp only [State.sbAnswer] <;>
    repeat' (first | with_reducible rfl | with_reducible assumption | with_reducible refine ite_kept ?_ ?_ | with_reducible refine ite_eq_of ?_ ?_ | split | simp only [↓apply_ite State.kept, ite_self, ↓State.kept_mk, State.kept_eta, ↓State.emit_kept, ↓State.power_kept])

theorem State.pldm_kept (s : State) (code bad : Nat) (vals : Option (List Nat)) :
    (State.pldm s code bad vals).kept = s.kept := by
  simp only [State.pldm] <;>
    repeat' (first | with_reducible rfl | with_reducible assumption | with_reducible refine ite_kept ?_ ?_ | with_reducible refine ite_eq_of ?_ ?_ | split | simp only [↓apply_ite State.kept, ite_self, ↓State.kept_mk, State.kept_eta, ↓State.sbAnswer_kept])

theorem State.askReenable_kept (s : State) (i : Nat) :
    (State.askReenable s i).kept = s.kept := by
  simp only [State.askReenable] <;>
    repeat' (first | with_reducible rfl | with_reducible assumption | with_reducible refine ite_kept ?_ ?_ | with_reducible refine ite_eq_of ?_ ?_ | split | simp only [↓apply_ite State.kept, ite_self, ↓State.kept_mk, State.kept_eta, ↓State.setPort_kept])

theorem State.effecterWrite_kept (s : State) (id v : Nat) :
    (State.effecterWrite s id v).kept = s.kept := by
  simp only [State.effecterWrite] <;>
    repeat' (first | with_reducible rfl | with_reducible assumption | with_reducible refine ite_kept ?_ ?_ | with_reducible refine ite_eq_of ?_ ?_ | split | simp only [↓apply_ite State.kept, ite_self, ↓State.kept_mk, State.kept_eta, ↓State.askReenable_kept, ↓State.powerWrite_kept, ↓State.wakeUp_kept])

theorem State.pollEvent_kept (s : State) :
    (State.pollEvent s).kept = s.kept := by
  simp only [State.pollEvent] <;>
    repeat' (first | with_reducible rfl | with_reducible assumption | with_reducible refine ite_kept ?_ ?_ | with_reducible refine ite_eq_of ?_ ?_ | split | simp only [↓apply_ite State.kept, ite_self, ↓State.kept_mk, State.kept_eta, ↓State.sbAnswer_kept])

theorem State.sbServes_kept (s : State) (f : State → State) (h_f : ∀ s, (f s).kept = s.kept) :
    (State.sbServes s f).kept = s.kept := by
  simp only [State.sbServes] <;>
    repeat' (first | with_reducible rfl | with_reducible assumption | with_reducible refine ite_kept ?_ ?_ | with_reducible refine ite_eq_of ?_ ?_ | split | simp only [↓apply_ite State.kept, ite_self, ↓State.kept_mk, State.kept_eta, ↓State.power_kept, h_f])

theorem State.spdmError_kept (s : State) (code : Nat) :
    (State.spdmError s code).kept = s.kept := by
  simp only [State.spdmError] <;>
    repeat' (first | with_reducible rfl | with_reducible assumption | with_reducible refine ite_kept ?_ ?_ | with_reducible refine ite_eq_of ?_ ?_ | split | simp only [↓apply_ite State.kept, ite_self, ↓State.kept_mk, State.kept_eta, ↓State.sbAnswer_kept])

theorem State.spdm_kept (s : State) (f : State → State) (h_f : ∀ s, (f s).kept = s.kept) :
    (State.spdm s f).kept = s.kept := by
  simp only [State.spdm] <;>
    repeat' (first | with_reducible rfl | with_reducible assumption | with_reducible refine ite_kept ?_ ?_ | with_reducible refine ite_eq_of ?_ ?_ | split | simp only [↓apply_ite State.kept, ite_self, ↓State.kept_mk, State.kept_eta, ↓State.power_kept, h_f])

theorem State.spdmRooted_kept (s : State) (f : State → State) (h_f : ∀ s, (f s).kept = s.kept) :
    (State.spdmRooted s f).kept = s.kept := by
  simp only [State.spdmRooted] <;>
    repeat' (first | with_reducible rfl | with_reducible assumption | with_reducible refine (State.spdm_kept _ _ (fun s => ?_)).trans ?_ | with_reducible refine ite_kept ?_ ?_ | with_reducible refine ite_eq_of ?_ ?_ | split | simp only [↓apply_ite State.kept, ite_self, ↓State.kept_mk, State.kept_eta, implies_true, ↓State.spdm_kept, ↓State.spdmError_kept, h_f])

theorem State.spdmChallenge_kept (s : State) (slot : Nat) (nonce : BitVec 256) :
    (State.spdmChallenge s slot nonce).kept = s.kept := by
  simp only [State.spdmChallenge] <;>
    repeat' (first | with_reducible rfl | with_reducible assumption | with_reducible refine (State.draw_kept' (by assumption)).trans ?_ | with_reducible refine (kept_of_eq (by assumption)).trans ?_ | with_reducible refine (kept_of_eq2 (by assumption)).trans ?_ | with_reducible refine ite_kept ?_ ?_ | with_reducible refine ite_eq_of ?_ ?_ | split | simp only [↓apply_ite State.kept, ite_self, ↓State.kept_mk, State.kept_eta, ↓apply_ite Prod.fst, ↓apply_ite Prod.snd, ↓State.draw_kept, ↓State.sbAnswer_kept, ↓State.spdmError_kept])

theorem State.spdmMeasure_kept (s : State) (index : Nat) (signed : Bool) (nonce : BitVec 256) :
    (State.spdmMeasure s index signed nonce).kept = s.kept := by
  simp only [State.spdmMeasure] <;>
    repeat' (first | with_reducible rfl | with_reducible assumption | with_reducible refine (State.draw_kept' (by assumption)).trans ?_ | with_reducible refine (kept_of_eq (by assumption)).trans ?_ | with_reducible refine (kept_of_eq2 (by assumption)).trans ?_ | with_reducible refine ite_kept ?_ ?_ | with_reducible refine ite_eq_of ?_ ?_ | split | simp only [↓apply_ite State.kept, ite_self, ↓State.kept_mk, State.kept_eta, ↓apply_ite Prod.fst, ↓apply_ite Prod.snd, ↓State.draw_kept, ↓State.sbAnswer_kept, ↓State.spdmError_kept])

theorem State.mctpControl_kept (s : State) (b : List Byte) :
    (State.mctpControl s b).kept = s.kept := by
  simp only [State.mctpControl] <;>
    repeat' (first | with_reducible rfl | with_reducible assumption | with_reducible refine ite_kept ?_ ?_ | with_reducible refine ite_eq_of ?_ ?_ | split | simp only [↓apply_ite State.kept, ite_self, ↓State.kept_mk, State.kept_eta, ↓State.sbAnswer_kept])

theorem State.ringAll_kept (s : State) (code arg : Nat) :
    (State.ringAll s code arg).kept = s.kept := by
  simp only [State.ringAll] <;>
    repeat' (first | with_reducible rfl | with_reducible assumption | with_reducible refine (foldl_fst_kept _ (fun s a => ?_) _ _).trans ?_ | with_reducible refine (foldl_kept _ (fun s a => ?_) _ _).trans ?_ | with_reducible refine ite_kept ?_ ?_ | with_reducible refine ite_eq_of ?_ ?_ | split | simp only [↓apply_ite State.kept, ite_self, ↓State.kept_mk, State.kept_eta, implies_true, ↓foldl_kept, ↓State.ring_kept])

theorem State.publish_kept (s : State) :
    (State.publish s).kept = s.kept := by
  simp only [State.publish] <;>
    repeat' (first | with_reducible rfl | with_reducible assumption | with_reducible refine (foldl_fst_kept _ (fun s a => ?_) _ _).trans ?_ | with_reducible refine (foldl_kept _ (fun s a => ?_) _ _).trans ?_ | with_reducible refine ite_kept ?_ ?_ | with_reducible refine ite_eq_of ?_ ?_ | split | simp only [↓apply_ite State.kept, ite_self, ↓State.kept_mk, State.kept_eta, implies_true, ↓foldl_kept])

theorem State.selApply_kept (s : State) :
    (State.selApply s).kept = s.kept := by
  simp only [State.selApply] <;>
    repeat' (first | with_reducible rfl | with_reducible assumption | with_reducible refine (foldl_fst_kept _ (fun s a => ?_) _ _).trans ?_ | with_reducible refine (foldl_kept _ (fun s a => ?_) _ _).trans ?_ | with_reducible refine ite_kept ?_ ?_ | with_reducible refine ite_eq_of ?_ ?_ | split | simp only [↓apply_ite State.kept, ite_self, ↓State.kept_mk, State.kept_eta, implies_true, ↓foldl_kept])

theorem State.setTrace_kept (s : State) (c : Nat) (t : TraceSt) :
    (State.setTrace s c t).kept = s.kept := by
  simp only [State.setTrace] <;>
    repeat' (first | with_reducible rfl | with_reducible assumption | with_reducible refine ite_kept ?_ ?_ | with_reducible refine ite_eq_of ?_ ?_ | split | simp only [↓apply_ite State.kept, ite_self, ↓State.kept_mk, State.kept_eta, ↓State.setSlot_kept])

theorem State.traceDrop_kept (s : State) (c : Nat) :
    (State.traceDrop s c).kept = s.kept := by
  simp only [State.traceDrop] <;>
    repeat' (first | with_reducible rfl | with_reducible assumption | with_reducible refine ite_kept ?_ ?_ | with_reducible refine ite_eq_of ?_ ?_ | split | simp only [↓apply_ite State.kept, ite_self, ↓State.kept_mk, State.kept_eta, ↓State.count_kept, ↓State.setTrace_kept])

theorem State.traceQueue_kept (s : State) (c type tile pc stall fclk : Nat) (mark : BitVec 32) :
    (State.traceQueue s c type tile pc stall fclk mark).kept = s.kept := by
  simp only [State.traceQueue] <;>
    repeat' (first | with_reducible rfl | with_reducible assumption | with_reducible refine ite_kept ?_ ?_ | with_reducible refine ite_eq_of ?_ ?_ | split | simp only [↓apply_ite State.kept, ite_self, ↓State.kept_mk, State.kept_eta, ↓State.setTrace_kept, ↓State.traceDrop_kept])

theorem State.traceLine_kept (s : State) (c : Nat) :
    (State.traceLine s c).kept = s.kept := by
  simp only [State.traceLine] <;>
    repeat' (first | with_reducible rfl | with_reducible assumption | with_reducible refine (foldl_fst_kept _ (fun s a => ?_) _ _).trans ?_ | with_reducible refine (foldl_kept _ (fun s a => ?_) _ _).trans ?_ | with_reducible refine ite_kept ?_ ?_ | with_reducible refine ite_eq_of ?_ ?_ | split | simp only [↓apply_ite State.kept, ite_self, ↓State.kept_mk, State.kept_eta, implies_true, ↓foldl_kept, ↓State.accept_kept, ↓State.count_kept, ↓State.hostIrq_kept, ↓State.setTrace_kept, ↓State.start_kept])

theorem State.traceFlush_kept (s : State) :
    (State.traceFlush s).kept = s.kept := by
  simp only [State.traceFlush] <;>
    repeat' (first | with_reducible rfl | with_reducible assumption | with_reducible refine (foldl_fst_kept _ (fun s a => ?_) _ _).trans ?_ | with_reducible refine (foldl_kept _ (fun s a => ?_) _ _).trans ?_ | with_reducible refine ite_kept ?_ ?_ | with_reducible refine ite_eq_of ?_ ?_ | split | simp only [↓apply_ite State.kept, ite_self, ↓State.kept_mk, State.kept_eta, implies_true, ↓foldl_kept, ↓State.traceLine_kept])

theorem State.traceApply_kept (s : State) (c : Nat) :
    (State.traceApply s c).kept = s.kept := by
  simp only [State.traceApply] <;>
    repeat' (first | with_reducible rfl | with_reducible assumption | with_reducible refine ite_kept ?_ ?_ | with_reducible refine ite_eq_of ?_ ?_ | split | simp only [↓apply_ite State.kept, ite_self, ↓State.kept_mk, State.kept_eta, ↓State.denied_kept, ↓State.setTrace_kept])

theorem State.markerReq_kept (s : State) (port : Nat) (r : TpReq) (fclk : Nat) :
    (State.markerReq s port r fclk).kept = s.kept := by
  simp only [State.markerReq] <;>
    repeat' (first | with_reducible rfl | with_reducible assumption | with_reducible refine ite_kept ?_ ?_ | with_reducible refine ite_eq_of ?_ ?_ | split | simp only [↓apply_ite State.kept, ite_self, ↓State.kept_mk, State.kept_eta, ↓State.brokenBeat_kept, ↓State.count_kept, ↓State.denied_kept, ↓State.note_kept, ↓State.portEvent_kept, ↓State.reqFault_kept, ↓State.setTile_kept, ↓State.tileSay_kept, ↓State.traceQueue_kept])

theorem State.debugSample_kept (s : State) (tile pc stall fclk : Nat) :
    (State.debugSample s tile pc stall fclk).kept = s.kept := by
  simp only [State.debugSample] <;>
    repeat' (first | with_reducible rfl | with_reducible assumption | with_reducible refine ite_kept ?_ ?_ | with_reducible refine ite_eq_of ?_ ?_ | split | simp only [↓apply_ite State.kept, ite_self, ↓State.kept_mk, State.kept_eta, ↓State.count_kept, ↓State.note_kept, ↓State.traceQueue_kept])

theorem State.wfgLatch_kept (s : State) (atStop : Bool) :
    (State.wfgLatch s atStop).kept = s.kept := by
  simp only [State.wfgLatch] <;>
    repeat' (first | with_reducible rfl | with_reducible assumption | with_reducible refine ite_kept ?_ ?_ | with_reducible refine ite_eq_of ?_ ?_ | split | simp only [↓apply_ite State.kept, ite_self, ↓State.kept_mk, State.kept_eta])

theorem State.wfgReady_kept (s : State) :
    (State.wfgReady s).kept = s.kept := by
  simp only [State.wfgReady] <;>
    repeat' (first | with_reducible rfl | with_reducible assumption | with_reducible refine ite_kept ?_ ?_ | with_reducible refine ite_eq_of ?_ ?_ | split | simp only [↓apply_ite State.kept, ite_self, ↓State.kept_mk, State.kept_eta, ↓State.mgIrq_kept])

theorem State.wfgAsk_kept (s : State) :
    (State.wfgAsk s).kept = s.kept := by
  simp only [State.wfgAsk] <;>
    repeat' (first | with_reducible rfl | with_reducible assumption | with_reducible refine ite_kept ?_ ?_ | with_reducible refine ite_eq_of ?_ ?_ | split | simp only [↓apply_ite State.kept, ite_self, ↓State.kept_mk, State.kept_eta])

theorem State.stopDisarm_kept (s : State) :
    (State.stopDisarm s).kept = s.kept := by
  simp only [State.stopDisarm] <;>
    repeat' (first | with_reducible rfl | with_reducible assumption | with_reducible refine ite_kept ?_ ?_ | with_reducible refine ite_eq_of ?_ ?_ | split | simp only [↓apply_ite State.kept, ite_self, ↓State.kept_mk, State.kept_eta])

theorem State.stopBegin_kept (s : State) :
    (State.stopBegin s).kept = s.kept := by
  simp only [State.stopBegin] <;>
    repeat' (first | with_reducible rfl | with_reducible assumption | with_reducible refine ite_kept ?_ ?_ | with_reducible refine ite_eq_of ?_ ?_ | split | simp only [↓apply_ite State.kept, ite_self, ↓State.kept_mk, State.kept_eta, ↓State.mgIrq_kept, ↓State.ringAll_kept, ↓State.smear_kept, ↓State.stopDisarm_kept, ↓State.wfgLatch_kept, ↓State.xoffAll_kept])

theorem State.stopSettled_kept (s : State) :
    (State.stopSettled s).kept = s.kept := by
  simp only [State.stopSettled] <;>
    repeat' (first | with_reducible rfl | with_reducible assumption | with_reducible refine ite_kept ?_ ?_ | with_reducible refine ite_eq_of ?_ ?_ | split | simp only [↓apply_ite State.kept, ite_self, ↓State.kept_mk, State.kept_eta])

theorem State.takeLanded_kept (s : State) (c : Instr) :
    (State.takeLanded s c).kept = s.kept := by
  simp only [State.takeLanded] <;>
    repeat' (first | with_reducible rfl | with_reducible assumption | with_reducible refine ite_kept ?_ ?_ | with_reducible refine ite_eq_of ?_ ?_ | split | simp only [↓apply_ite State.kept, ite_self, ↓State.kept_mk, State.kept_eta, ↓State.ackIn_kept, ↓State.dataIn_kept, ↓State.evictCleanReq_kept, ↓State.evictDirtyBeat_kept, ↓State.flushDoneReq_kept, ↓State.memAckd_kept, ↓State.memReturn_kept, ↓State.srsp_kept])

theorem State.replayLanded_kept (s : State) :
    (State.replayLanded s).kept = s.kept := by
  simp only [State.replayLanded] <;>
    repeat' (first | with_reducible rfl | with_reducible assumption | with_reducible refine (foldl_fst_kept _ (fun s a => ?_) _ _).trans ?_ | with_reducible refine (foldl_kept _ (fun s a => ?_) _ _).trans ?_ | with_reducible refine ite_kept ?_ ?_ | with_reducible refine ite_eq_of ?_ ?_ | split | simp only [↓apply_ite State.kept, ite_self, ↓State.kept_mk, State.kept_eta, implies_true, ↓foldl_kept, ↓State.takeLanded_kept])

theorem State.stopRelease_kept (s : State) :
    (State.stopRelease s).kept = s.kept := by
  simp only [State.stopRelease] <;>
    repeat' (first | with_reducible rfl | with_reducible assumption | with_reducible refine ite_kept ?_ ?_ | with_reducible refine ite_eq_of ?_ ?_ | split | simp only [↓apply_ite State.kept, ite_self, ↓State.kept_mk, State.kept_eta, ↓State.mgIrq_kept, ↓State.replayLanded_kept, ↓State.ringAll_kept, ↓State.xoffAll_kept])

theorem State.wfgAdvance_kept (s : State) :
    (State.wfgAdvance s).kept = s.kept := by
  simp only [State.wfgAdvance] <;>
    repeat' (first | with_reducible rfl | with_reducible assumption | with_reducible refine ite_kept ?_ ?_ | with_reducible refine ite_eq_of ?_ ?_ | split | simp only [↓apply_ite State.kept, ite_self, ↓State.kept_mk, State.kept_eta])

theorem State.dumpWrite_kept (s : State) (ok : Bool) :
    (State.dumpWrite s ok).kept = s.kept := by
  simp only [State.dumpWrite] <;>
    repeat' (first | with_reducible rfl | with_reducible assumption | with_reducible refine ite_kept ?_ ?_ | with_reducible refine ite_eq_of ?_ ?_ | split | simp only [↓apply_ite State.kept, ite_self, ↓State.kept_mk, State.kept_eta])

theorem State.dumpComplete_kept (s : State) :
    (State.dumpComplete s).kept = s.kept := by
  simp only [State.dumpComplete] <;>
    repeat' (first | with_reducible rfl | with_reducible assumption | with_reducible refine ite_kept ?_ ?_ | with_reducible refine ite_eq_of ?_ ?_ | split | simp only [↓apply_ite State.kept, ite_self, ↓State.kept_mk, State.kept_eta, ↓State.mgIrq_kept])

theorem State.dumpTick_kept (s : State) :
    (State.dumpTick s).kept = s.kept := by
  simp only [State.dumpTick] <;>
    repeat' (first | with_reducible rfl | with_reducible assumption | with_reducible refine ite_kept ?_ ?_ | with_reducible refine ite_eq_of ?_ ?_ | split | simp only [↓apply_ite State.kept, ite_self, ↓State.kept_mk, State.kept_eta, ↓State.dumpComplete_kept])

theorem State.dumpAdvance_kept (s : State) :
    (State.dumpAdvance s).kept = s.kept := by
  simp only [State.dumpAdvance] <;>
    repeat' (first | with_reducible rfl | with_reducible assumption | with_reducible refine ite_kept ?_ ?_ | with_reducible refine ite_eq_of ?_ ?_ | split | simp only [↓apply_ite State.kept, ite_self, ↓State.kept_mk, State.kept_eta])

theorem State.writePort_kept (s : State) (i : Nat) (d : Reg) :
    (State.writePort s i d).kept = s.kept := by
  simp only [State.writePort] <;>
    repeat' (first | with_reducible rfl | with_reducible assumption | with_reducible refine ite_kept ?_ ?_ | with_reducible refine ite_eq_of ?_ ?_ | split | simp only [↓apply_ite State.kept, ite_self, ↓State.kept_mk, State.kept_eta, ↓State.askReenable_kept, ↓State.setPort_kept])

theorem State.writePower_kept (s : State) (d : Reg) :
    (State.writePower s d).kept = s.kept := by
  simp only [State.writePower] <;>
    repeat' (first | with_reducible rfl | with_reducible assumption | with_reducible refine ite_kept ?_ ?_ | with_reducible refine ite_eq_of ?_ ?_ | split | simp only [↓apply_ite State.kept, ite_self, ↓State.kept_mk, State.kept_eta, ↓State.powerWrite_kept])

theorem State.writeImg_kept (s : State) (o : Nat) (d : Reg) :
    (State.writeImg s o d).kept = s.kept := by
  simp only [State.writeImg] <;>
    repeat' (first | with_reducible rfl | with_reducible assumption | with_reducible refine ite_kept ?_ ?_ | with_reducible refine ite_eq_of ?_ ?_ | split | simp only [↓apply_ite State.kept, ite_self, ↓State.kept_mk, State.kept_eta, ↓State.imgData_kept, ↓State.imgOp_kept])

theorem State.writeSlc_kept (s : State) (o : Nat) (d : Reg) :
    (State.writeSlc s o d).kept = s.kept := by
  simp only [State.writeSlc] <;>
    repeat' (first | with_reducible rfl | with_reducible assumption | with_reducible refine ite_kept ?_ ?_ | with_reducible refine ite_eq_of ?_ ?_ | split | simp only [↓apply_ite State.kept, ite_self, ↓State.kept_mk, State.kept_eta, ↓State.ownWrite_kept])

theorem State.writeMpt_kept (s : State) (o : Nat) (d : Reg) :
    (State.writeMpt s o d).kept = s.kept := by
  simp only [State.writeMpt] <;>
    repeat' (first | with_reducible rfl | with_reducible assumption | with_reducible refine ite_kept ?_ ?_ | with_reducible refine ite_eq_of ?_ ?_ | split | simp only [↓apply_ite State.kept, ite_self, ↓State.kept_mk, State.kept_eta, ↓State.retireWrite_kept])

theorem State.writePrio_kept (s : State) (d : Reg) :
    (State.writePrio s d).kept = s.kept := by
  simp only [State.writePrio] <;>
    repeat' (first | with_reducible rfl | with_reducible assumption | with_reducible refine ite_kept ?_ ?_ | with_reducible refine ite_eq_of ?_ ?_ | split | simp only [↓apply_ite State.kept, ite_self, ↓State.kept_mk, State.kept_eta])

theorem State.writeTine_kept (s : State) (t k : Nat) (d : Reg) :
    (State.writeTine s t k d).kept = s.kept := by
  simp only [State.writeTine] <;>
    repeat' (first | with_reducible rfl | with_reducible assumption | with_reducible refine ite_kept ?_ ?_ | with_reducible refine ite_eq_of ?_ ?_ | split | simp only [↓apply_ite State.kept, ite_self, ↓State.kept_mk, State.kept_eta, ↓State.setTine_kept])

theorem State.writeSa_kept (s : State) (n k : Nat) (d : Reg) :
    (State.writeSa s n k d).kept = s.kept := by
  simp only [State.writeSa] <;>
    repeat' (first | with_reducible rfl | with_reducible assumption | with_reducible refine ite_kept ?_ ?_ | with_reducible refine ite_eq_of ?_ ?_ | split | simp only [↓apply_ite State.kept, ite_self, ↓State.kept_mk, State.kept_eta, ↓State.setSa_kept])

theorem State.writeTin_kept (s : State) (o : Nat) (d : Reg) :
    (State.writeTin s o d).kept = s.kept := by
  simp only [State.writeTin] <;>
    repeat' (first | with_reducible rfl | with_reducible assumption | with_reducible refine ite_kept ?_ ?_ | with_reducible refine ite_eq_of ?_ ?_ | split | simp only [↓apply_ite State.kept, ite_self, ↓State.kept_mk, State.kept_eta, ↓State.saCommand_kept, ↓State.writePrio_kept, ↓State.writeSa_kept, ↓State.writeTine_kept])

theorem State.writeArm_kept (s : State) (d : Reg) :
    (State.writeArm s d).kept = s.kept := by
  simp only [State.writeArm] <;>
    repeat' (first | with_reducible rfl | with_reducible assumption | with_reducible refine ite_kept ?_ ?_ | with_reducible refine ite_eq_of ?_ ?_ | split | simp only [↓apply_ite State.kept, ite_self, ↓State.kept_mk, State.kept_eta, ↓State.qosArm_kept, ↓State.qosDiscard_kept])

theorem State.writeQos_kept (s : State) (o : Nat) (d : Reg) :
    (State.writeQos s o d).kept = s.kept := by
  simp only [State.writeQos] <;>
    repeat' (first | with_reducible rfl | with_reducible assumption | with_reducible refine ite_kept ?_ ?_ | with_reducible refine ite_eq_of ?_ ?_ | split | simp only [↓apply_ite State.kept, ite_self, ↓State.kept_mk, State.kept_eta, ↓State.setMp_kept, ↓State.stageClass_kept, ↓State.stageSlice_kept, ↓State.writeArm_kept])

theorem State.writeVlt_kept (s : State) (o : Nat) (d : Reg) :
    (State.writeVlt s o d).kept = s.kept := by
  simp only [State.writeVlt] <;>
    repeat' (first | with_reducible rfl | with_reducible assumption | with_reducible refine ite_kept ?_ ?_ | with_reducible refine ite_eq_of ?_ ?_ | split | simp only [↓apply_ite State.kept, ite_self, ↓State.kept_mk, State.kept_eta, ↓State.agreeWrite_kept, ↓State.enrollWrite_kept, ↓State.keyCmdWrite_kept, ↓State.saLoadWrite_kept])

theorem State.writeFirst_kept (s : State) (d : Reg) :
    (State.writeFirst s d).kept = s.kept := by
  simp only [State.writeFirst] <;>
    repeat' (first | with_reducible rfl | with_reducible assumption | with_reducible refine ite_kept ?_ ?_ | with_reducible refine ite_eq_of ?_ ?_ | split | simp only [↓apply_ite State.kept, ite_self, ↓State.kept_mk, State.kept_eta])

theorem State.writeInject_kept (s : State) (d : Reg) :
    (State.writeInject s d).kept = s.kept := by
  simp only [State.writeInject] <;>
    repeat' (first | with_reducible rfl | with_reducible assumption | with_reducible refine ite_kept ?_ ?_ | with_reducible refine ite_eq_of ?_ ?_ | split | simp only [↓apply_ite State.kept, ite_self, ↓State.kept_mk, State.kept_eta, ↓State.injectFlip_kept, ↓State.raise_kept])

theorem State.writeFlt_kept (s : State) (o : Nat) (d : Reg) :
    (State.writeFlt s o d).kept = s.kept := by
  simp only [State.writeFlt] <;>
    repeat' (first | with_reducible rfl | with_reducible assumption | with_reducible refine ite_kept ?_ ?_ | with_reducible refine ite_eq_of ?_ ?_ | split | simp only [↓apply_ite State.kept, ite_self, ↓State.kept_mk, State.kept_eta, ↓State.unitCommand_kept, ↓State.writeFirst_kept, ↓State.writeInject_kept])

theorem State.writeStop_kept (s : State) (d : Reg) :
    (State.writeStop s d).kept = s.kept := by
  simp only [State.writeStop] <;>
    repeat' (first | with_reducible rfl | with_reducible assumption | with_reducible refine ite_kept ?_ ?_ | with_reducible refine ite_eq_of ?_ ?_ | split | simp only [↓apply_ite State.kept, ite_self, ↓State.kept_mk, State.kept_eta, ↓State.stopDisarm_kept])

theorem State.writeObs_kept (s : State) (o : Nat) (d : Reg) :
    (State.writeObs s o d).kept = s.kept := by
  simp only [State.writeObs] <;>
    repeat' (first | with_reducible rfl | with_reducible assumption | with_reducible refine ite_kept ?_ ?_ | with_reducible refine ite_eq_of ?_ ?_ | split | simp only [↓apply_ite State.kept, ite_self, ↓State.kept_mk, State.kept_eta, ↓State.wfgAsk_kept, ↓State.writeStop_kept])

theorem State.writeSeq_kept (s : State) (sl k : Nat) (d : Reg) :
    (State.writeSeq s sl k d).kept = s.kept := by
  simp only [State.writeSeq] <;>
    repeat' (first | with_reducible rfl | with_reducible assumption | with_reducible refine ite_kept ?_ ?_ | with_reducible refine ite_eq_of ?_ ?_ | split | simp only [↓apply_ite State.kept, ite_self, ↓State.kept_mk, State.kept_eta, ↓State.seqCmd_kept, ↓State.setSeqw_kept])

theorem State.writeFwn_kept (s : State) (o : Nat) (d : Reg) :
    (State.writeFwn s o d).kept = s.kept := by
  simp only [State.writeFwn] <;>
    repeat' (first | with_reducible rfl | with_reducible assumption | with_reducible refine ite_kept ?_ ?_ | with_reducible refine ite_eq_of ?_ ?_ | split | simp only [↓apply_ite State.kept, ite_self, ↓State.kept_mk, State.kept_eta, ↓State.fwData_kept, ↓State.fwOp_kept, ↓State.setSupply_kept])

theorem State.readEffect_kept (s : State) (a : Nat) :
    (State.readEffect s a).kept = s.kept := by
  simp only [State.readEffect] <;>
    repeat' (first | with_reducible rfl | with_reducible assumption | with_reducible refine ite_kept ?_ ?_ | with_reducible refine ite_eq_of ?_ ?_ | split | simp only [↓apply_ite State.kept, ite_self, ↓State.kept_mk, State.kept_eta, ↓State.dumpAdvance_kept, ↓State.fltCountClear_kept, ↓State.mptErrClear_kept, ↓State.wfgAdvance_kept])

theorem State.each_kept {α : Type} (s : State) (m : Map α) (f : State → Nat → State) (h_f : ∀ s a0, (f s a0).kept = s.kept) :
    (State.each s m f).kept = s.kept := by
  simp only [State.each] <;>
    repeat' (first | with_reducible rfl | with_reducible assumption | with_reducible refine (foldl_fst_kept _ (fun s a => ?_) _ _).trans ?_ | with_reducible refine (foldl_kept _ (fun s a => ?_) _ _).trans ?_ | with_reducible refine ite_kept ?_ ?_ | with_reducible refine ite_eq_of ?_ ?_ | split | simp only [↓apply_ite State.kept, ite_self, ↓State.kept_mk, State.kept_eta, implies_true, ↓foldl_kept, h_f])

theorem State.upTo_kept (s : State) (n : Nat) (f : State → Nat → State) (h_f : ∀ s a0, (f s a0).kept = s.kept) :
    (State.upTo s n f).kept = s.kept := by
  simp only [State.upTo] <;>
    repeat' (first | with_reducible rfl | with_reducible assumption | with_reducible refine (foldl_fst_kept _ (fun s a => ?_) _ _).trans ?_ | with_reducible refine (foldl_kept _ (fun s a => ?_) _ _).trans ?_ | with_reducible refine ite_kept ?_ ?_ | with_reducible refine ite_eq_of ?_ ?_ | split | simp only [↓apply_ite State.kept, ite_self, ↓State.kept_mk, State.kept_eta, implies_true, ↓foldl_kept, h_f])

theorem State.tickClose_kept (s : State) :
    (State.tickClose s).kept = s.kept := by
  simp only [State.tickClose] <;>
    repeat' (first | with_reducible rfl | with_reducible assumption | with_reducible refine ite_kept ?_ ?_ | with_reducible refine ite_eq_of ?_ ?_ | split | simp only [↓apply_ite State.kept, ite_self, ↓State.kept_mk, State.kept_eta, ↓State.deliverAll_kept, ↓State.mirrorSend_kept, ↓State.pairCollect_kept])

theorem State.initTick_kept (s : State) :
    (State.initTick s).kept = s.kept := by
  simp only [State.initTick] <;>
    repeat' (first | with_reducible rfl | with_reducible assumption | with_reducible refine ite_kept ?_ ?_ | with_reducible refine ite_eq_of ?_ ?_ | split | simp only [↓apply_ite State.kept, ite_self, ↓State.kept_mk, State.kept_eta, ↓State.initialized_kept])

theorem State.stateEvents_kept (s : State) :
    (State.stateEvents s).kept = s.kept := by
  simp only [State.stateEvents] <;>
    repeat' (first | with_reducible rfl | with_reducible assumption | with_reducible refine (foldl_fst_kept _ (fun s a => ?_) _ _).trans ?_ | with_reducible refine (foldl_kept _ (fun s a => ?_) _ _).trans ?_ | with_reducible refine ite_kept ?_ ?_ | with_reducible refine ite_eq_of ?_ ?_ | split | simp only [↓apply_ite State.kept, ite_self, ↓State.kept_mk, State.kept_eta, implies_true, ↓foldl_kept, ↓State.ring_kept])

theorem State.slowRequests_kept (s : State) :
    (State.slowRequests s).kept = s.kept := by
  simp only [State.slowRequests] <;>
    repeat' (first | with_reducible rfl | with_reducible assumption | with_reducible refine (foldl_fst_kept _ (fun s a => ?_) _ _).trans ?_ | with_reducible refine (foldl_kept _ (fun s a => ?_) _ _).trans ?_ | with_reducible refine ite_kept ?_ ?_ | with_reducible refine ite_eq_of ?_ ?_ | split | simp only [↓apply_ite State.kept, ite_self, ↓State.kept_mk, State.kept_eta, implies_true, ↓foldl_kept, ↓State.ring_kept])

theorem State.throttleNote_kept (s : State) (p : Nat) :
    (State.throttleNote s p).kept = s.kept := by
  simp only [State.throttleNote] <;>
    repeat' (first | with_reducible rfl | with_reducible assumption | with_reducible refine ite_kept ?_ ?_ | with_reducible refine ite_eq_of ?_ ?_ | split | simp only [↓apply_ite State.kept, ite_self, ↓State.kept_mk, State.kept_eta, ↓State.note_kept])

theorem State.snapshot_kept (s : State) :
    (State.snapshot s).kept = s.kept := by
  simp only [State.snapshot] <;>
    repeat' (first | with_reducible rfl | with_reducible assumption | with_reducible refine (State.upTo_kept _ _ _ (fun s a0 => ?_)).trans ?_ | with_reducible refine ite_kept ?_ ?_ | with_reducible refine ite_eq_of ?_ ?_ | split | simp only [↓apply_ite State.kept, ite_self, ↓State.kept_mk, State.kept_eta, implies_true, ↓State.initTick_kept, ↓State.measureAll_kept, ↓State.mpTick_kept, ↓State.publish_kept, ↓State.slowRequests_kept, ↓State.stateEvents_kept, ↓State.throttleNote_kept, ↓State.upTo_kept, ↓State.wfgLatch_kept])

theorem State.loseUnread_kept (s : State) :
    (State.loseUnread s).kept = s.kept := by
  simp only [State.loseUnread] <;>
    repeat' (first | with_reducible rfl | with_reducible assumption | with_reducible refine (foldl_fst_kept _ (fun s a => ?_) _ _).trans ?_ | with_reducible refine (foldl_kept _ (fun s a => ?_) _ _).trans ?_ | with_reducible refine ite_kept ?_ ?_ | with_reducible refine ite_eq_of ?_ ?_ | split | simp only [↓apply_ite State.kept, ite_self, ↓State.kept_mk, State.kept_eta, implies_true, ↓foldl_kept, ↓State.ctxStateLost_kept])

theorem State.abandonFirst_kept (s : State) (f : Nat) :
    (State.abandonFirst s f).kept = s.kept := by
  simp only [State.abandonFirst] <;>
    repeat' (first | with_reducible rfl | with_reducible assumption | with_reducible refine ite_kept ?_ ?_ | with_reducible refine ite_eq_of ?_ ?_ | split | simp only [↓apply_ite State.kept, ite_self, ↓State.kept_mk, State.kept_eta, ↓State.ctxApply_kept])

theorem State.loseAll_kept (s : State) :
    (State.loseAll s).kept = s.kept := by
  simp only [State.loseAll] <;>
    repeat' (first | with_reducible rfl | with_reducible assumption | with_reducible refine (foldl_fst_kept _ (fun s a => ?_) _ _).trans ?_ | with_reducible refine (foldl_kept _ (fun s a => ?_) _ _).trans ?_ | with_reducible refine ite_kept ?_ ?_ | with_reducible refine ite_eq_of ?_ ?_ | split | simp only [↓apply_ite State.kept, ite_self, ↓State.kept_mk, State.kept_eta, implies_true, ↓foldl_kept, ↓State.loseContext_kept])

theorem State.shareApply_kept (s : State) :
    (State.shareApply s).kept = s.kept := by
  simp only [State.shareApply] <;>
    repeat' (first | with_reducible rfl | with_reducible assumption | with_reducible refine (foldl_fst_kept _ (fun s a => ?_) _ _).trans ?_ | with_reducible refine (foldl_kept _ (fun s a => ?_) _ _).trans ?_ | with_reducible refine ite_kept ?_ ?_ | with_reducible refine ite_eq_of ?_ ?_ | split | simp only [↓apply_ite State.kept, ite_self, ↓State.kept_mk, State.kept_eta, implies_true, ↓foldl_kept])

theorem State.tinApply_kept (s : State) :
    (State.tinApply s).kept = s.kept := by
  simp only [State.tinApply] <;>
    repeat' (first | with_reducible rfl | with_reducible assumption | with_reducible refine ite_kept ?_ ?_ | with_reducible refine ite_eq_of ?_ ?_ | split | simp only [↓apply_ite State.kept, ite_self, ↓State.kept_mk, State.kept_eta, ↓State.rto_kept])

theorem State.swapStaged_kept (s : State) (k : Nat) :
    (State.swapStaged s k).kept = s.kept := by
  simp only [State.swapStaged] <;>
    repeat' (first | with_reducible rfl | with_reducible assumption | with_reducible refine ite_kept ?_ ?_ | with_reducible refine ite_eq_of ?_ ?_ | split | simp only [↓apply_ite State.kept, ite_self, ↓State.kept_mk, State.kept_eta, ↓State.keySwap_kept])

theorem State.commitKeys_kept (s : State) :
    (State.commitKeys s).kept = s.kept := by
  simp only [State.commitKeys] <;>
    repeat' (first | with_reducible rfl | with_reducible assumption | with_reducible refine (State.each_kept _ _ _ (fun s a0 => ?_)).trans ?_ | with_reducible refine ite_kept ?_ ?_ | with_reducible refine ite_eq_of ?_ ?_ | split | simp only [↓apply_ite State.kept, ite_self, ↓State.kept_mk, State.kept_eta, implies_true, ↓State.agreeApply_kept, ↓State.doomStep_kept, ↓State.each_kept, ↓State.enrollApply_kept, ↓State.keyCmdApply_kept, ↓State.keyZeroize_kept, ↓State.retireApply_kept, ↓State.saApply_kept, ↓State.saLoadApply_kept, ↓State.swapStaged_kept])

theorem State.portsTick_kept (s : State) :
    (State.portsTick s).kept = s.kept := by
  simp only [State.portsTick] <;>
    repeat' (first | with_reducible rfl | with_reducible assumption | with_reducible refine (State.each_kept _ _ _ (fun s a0 => ?_)).trans ?_ | with_reducible refine ite_kept ?_ ?_ | with_reducible refine ite_eq_of ?_ ?_ | split | simp only [↓apply_ite State.kept, ite_self, ↓State.kept_mk, State.kept_eta, implies_true, ↓State.each_kept, ↓State.reenablePort_kept])

theorem State.startFatal_kept (s : State) :
    (State.startFatal s).kept = s.kept := by
  simp only [State.startFatal] <;>
    repeat' (first | with_reducible rfl | with_reducible assumption | with_reducible refine ite_kept ?_ ?_ | with_reducible refine ite_eq_of ?_ ?_ | split | simp only [↓apply_ite State.kept, ite_self, ↓State.kept_mk, State.kept_eta, ↓State.setPhase_kept])

theorem State.stopEnds_kept (s : State) :
    (State.stopEnds s).kept = s.kept := by
  simp only [State.stopEnds] <;>
    repeat' (first | with_reducible rfl | with_reducible assumption | with_reducible refine ite_kept ?_ ?_ | with_reducible refine ite_eq_of ?_ ?_ | split | simp only [↓apply_ite State.kept, ite_self, ↓State.kept_mk, State.kept_eta, ↓State.stopRelease_kept])

theorem State.windowsLate_kept (s : State) :
    (State.windowsLate s).kept = s.kept := by
  simp only [State.windowsLate] <;>
    repeat' (first | with_reducible rfl | with_reducible assumption | with_reducible refine (State.each_kept _ _ _ (fun s a0 => ?_)).trans ?_ | with_reducible refine ite_kept ?_ ?_ | with_reducible refine ite_eq_of ?_ ?_ | split | simp only [↓apply_ite State.kept, ite_self, ↓State.kept_mk, State.kept_eta, implies_true, ↓State.closeWindow_kept, ↓State.each_kept])

theorem State.deadlinesKept_kept (s : State) :
    (State.deadlinesKept s).kept = s.kept := by
  simp only [State.deadlinesKept] <;>
    repeat' (first | with_reducible rfl | with_reducible assumption | with_reducible refine (State.each_kept _ _ _ (fun s a0 => ?_)).trans ?_ | with_reducible refine (State.upTo_kept _ _ _ (fun s a0 => ?_)).trans ?_ | with_reducible refine ite_kept ?_ ?_ | with_reducible refine ite_eq_of ?_ ?_ | split | simp only [↓apply_ite State.kept, ite_self, ↓State.kept_mk, State.kept_eta, implies_true, ↓State.each_kept, ↓State.grantLocks_kept, ↓State.keyForced_kept, ↓State.keyRelease_kept, ↓State.membersTick_kept, ↓State.refTick_kept, ↓State.saFree_kept, ↓State.saQuarantine_kept, ↓State.tagHoldEnd_kept, ↓State.tineTick_kept, ↓State.upTo_kept, ↓State.urgTicks_kept, ↓State.xoffAll_kept])

theorem State.fawnTick_kept (s : State) :
    (State.fawnTick s).kept = s.kept := by
  simp only [State.fawnTick] <;>
    repeat' (first | with_reducible rfl | with_reducible assumption | with_reducible refine ite_kept ?_ ?_ | with_reducible refine ite_eq_of ?_ ?_ | split | simp only [↓apply_ite State.kept, ite_self, ↓State.kept_mk, State.kept_eta, ↓State.alertRelease_kept, ↓State.handlingEnds_kept, ↓State.heartbeatTick_kept, ↓State.offsetTickWatch_kept])

theorem State.dropFills_kept (s : State) :
    (State.dropFills s).kept = s.kept := by
  simp only [State.dropFills] <;>
    repeat' (first | with_reducible rfl | with_reducible assumption | with_reducible refine ite_kept ?_ ?_ | with_reducible refine ite_eq_of ?_ ?_ | split | simp only [↓apply_ite State.kept, ite_self, ↓State.kept_mk, State.kept_eta])

end Sys2Proof.Machine
end

