-- ==== Sys2Proof/Laws/Moves.lean ====
section
/-! SUPPORT. What the operations that change part of `State.kept` leave of it, once for each: they leave the queue, keep the
ownership table and the function records in rising order of their keys, and keep the registers of R36, R173 and R276 legal
(`Kept.Tame`); all but a few leave the tick as well (`Kept.Calm`). -/

set_option maxRecDepth 4000
set_option linter.all false

namespace Sys2Proof.Machine

/-- The ownership table and the function records have rising keys. -/
def Kept.InOrder (k : Kept) : Prop := mapSorted k.own = true ∧ mapSorted k.fncs = true

/-- The three registers whose illegal writes are discarded hold legal values. -/
def Kept.Legal (k : Kept) : Prop :=
  1 ≤ k.homeTimeout.localTicks ∧ k.homeTimeout.localTicks + 1 ≤ k.homeTimeout.remoteTicks ∧ k.homeTimeout.remoteTicks ≤ 7 ∧
    k.shadowWays ≤ 4 ∧ k.fclkLimit ≤ 8

/-- What every operation of the block keeps. -/
structure Kept.Tame (a b : Kept) : Prop where
  queue : b.pending = a.pending
  order : a.InOrder → b.InOrder
  legal : a.Legal → b.Legal

/-- What all but a few keep. -/
structure Kept.Calm (a b : Kept) : Prop where
  tame : Kept.Tame a b
  tick : b.tick = a.tick

theorem Kept.Tame.refl (a : Kept) : Kept.Tame a a := ⟨rfl, id, id⟩
theorem Kept.Calm.refl (a : Kept) : Kept.Calm a a := ⟨Kept.Tame.refl a, rfl⟩

/-- What comes after keeps it, so both do. -/
theorem Kept.Tame.after {a b c : Kept} (h : Kept.Tame b c) (g : Kept.Tame a b) : Kept.Tame a c :=
  ⟨h.queue.trans g.queue, fun x => h.order (g.order x), fun x => h.legal (g.legal x)⟩
theorem Kept.Calm.after {a b c : Kept} (h : Kept.Calm b c) (g : Kept.Calm a b) : Kept.Calm a c :=
  ⟨h.tame.after g.tame, h.tick.trans g.tick⟩

theorem Kept.Tame.of_eq {a b c : Kept} (h : c = b) (g : Kept.Tame a b) : Kept.Tame a c := h ▸ g
theorem Kept.Calm.of_eq {a b c : Kept} (h : c = b) (g : Kept.Calm a b) : Kept.Calm a c := h ▸ g

theorem ite_tame {c : Prop} [Decidable c] {k : Kept} {a b : State} (ha : Kept.Tame k a.kept) (hb : Kept.Tame k b.kept) :
    Kept.Tame k (if c then a else b).kept := by
  split <;> assumption
theorem ite_calm {c : Prop} [Decidable c] {k : Kept} {a b : State} (ha : Kept.Calm k a.kept) (hb : Kept.Calm k b.kept) :
    Kept.Calm k (if c then a else b).kept := by
  split <;> assumption

theorem foldl_tame {α : Type} (f : State → α → State) (h : ∀ s a, Kept.Tame s.kept (f s a).kept) (l : List α) {k : Kept}
    {s : State} (hs : Kept.Tame k s.kept) : Kept.Tame k (l.foldl f s).kept := by
  induction l generalizing s with
  | nil => exact hs
  | cons a l ih => exact ih ((h s a).after hs)
theorem foldl_calm {α : Type} (f : State → α → State) (h : ∀ s a, Kept.Calm s.kept (f s a).kept) (l : List α) {k : Kept}
    {s : State} (hs : Kept.Calm k s.kept) : Kept.Calm k (l.foldl f s).kept := by
  induction l generalizing s with
  | nil => exact hs
  | cons a l ih => exact ih ((h s a).after hs)

theorem foldl_fst_calm {α β : Type} (f : State × β → α → State × β) (h : ∀ p a, Kept.Calm p.1.kept (f p a).1.kept) (l : List α)
    {k : Kept} {p : State × β} (hs : Kept.Calm k p.1.kept) : Kept.Calm k (l.foldl f p).1.kept := by
  induction l generalizing p with
  | nil => exact hs
  | cons a l ih => exact ih ((h p a).after hs)
theorem foldl_fst_tame {α β : Type} (f : State × β → α → State × β) (h : ∀ p a, Kept.Tame p.1.kept (f p a).1.kept) (l : List α)
    {k : Kept} {p : State × β} (hs : Kept.Tame k p.1.kept) : Kept.Tame k (l.foldl f p).1.kept := by
  induction l generalizing p with
  | nil => exact hs
  | cons a l ih => exact ih ((h p a).after hs)

theorem each_calm {α : Type} {s : State} (m : Map α) {f : State → Nat → State} (h : ∀ s a, Kept.Calm s.kept (f s a).kept) {k : Kept}
    (hs : Kept.Calm k s.kept) : Kept.Calm k (s.each m f).kept := by
  unfold State.each
  exact foldl_calm (fun s e => f s e.1) (fun s e => h s e.1) m hs
theorem each_tame {α : Type} {s : State} (m : Map α) {f : State → Nat → State} (h : ∀ s a, Kept.Tame s.kept (f s a).kept) {k : Kept}
    (hs : Kept.Tame k s.kept) : Kept.Tame k (s.each m f).kept := by
  unfold State.each
  exact foldl_tame (fun s e => f s e.1) (fun s e => h s e.1) m hs

theorem upTo_calm {s : State} (n : Nat) {f : State → Nat → State} (h : ∀ s a, Kept.Calm s.kept (f s a).kept) {k : Kept}
    (hs : Kept.Calm k s.kept) : Kept.Calm k (s.upTo n f).kept := by
  unfold State.upTo
  exact foldl_calm f h _ hs
theorem upTo_tame {s : State} (n : Nat) {f : State → Nat → State} (h : ∀ s a, Kept.Tame s.kept (f s a).kept) {k : Kept}
    (hs : Kept.Tame k s.kept) : Kept.Tame k (s.upTo n f).kept := by
  unfold State.upTo
  exact foldl_tame f h _ hs

/-- An operation that leaves all of it but the tables, which it keeps in order. -/
theorem Kept.Calm.of_order {a b : Kept} (h : b = { a with own := b.own, fncs := b.fncs, active := b.active, test := b.test })
    (o : a.InOrder → b.InOrder) : Kept.Calm a b := by
  refine ⟨⟨?_, o, ?_⟩, ?_⟩
  · rw [h]
  · intro l
    rw [h]
    exact l
  · rw [h]

theorem mapSorted_map {α β : Type} (m : Map α) (f : Nat × α → Nat × β) (hf : ∀ e, (f e).1 = e.1) (h : mapSorted m = true) :
    mapSorted (m.map f) = true := by
  induction m with
  | nil => rfl
  | cons e m ih =>
    obtain ⟨a, v⟩ := e
    obtain ⟨h1, h2⟩ := (mapSorted_cons a v m).mp h
    rw [List.map_cons]
    have h3 : f (a, v) = (a, (f (a, v)).2) := by rw [Prod.ext_iff]; exact ⟨hf _, rfl⟩
    rw [h3, mapSorted_cons]
    refine ⟨?_, ih h2⟩
    intro e he
    obtain ⟨x, hx, rfl⟩ := List.mem_map.mp he
    rw [hf]
    exact h1 x hx

theorem mapSorted_filter {α : Type} (m : Map α) (p : Nat × α → Bool) (h : mapSorted m = true) : mapSorted (m.filter p) = true := by
  induction m with
  | nil => rfl
  | cons e m ih =>
    obtain ⟨a, v⟩ := e
    obtain ⟨h1, h2⟩ := (mapSorted_cons a v m).mp h
    rw [List.filter_cons]
    split
    · rw [mapSorted_cons]
      exact ⟨fun e he => h1 e (List.mem_of_mem_filter he), ih h2⟩
    · exact ih h2

theorem forRange_calm (f : Nat → State → State) (h : ∀ s i, Kept.Calm s.kept (f i s).kept) (lo n : Nat) {k : Kept} {s : State}
    (hs : Kept.Calm k s.kept) : Kept.Calm k (forRange lo f n s).kept := by
  induction n generalizing lo s with
  | zero => exact hs
  | succ n ih => exact ih _ ((h s lo).after hs)

/-- The image in force and the test port may change. -/
theorem calm_mk {k : Kept} {a : State} {act : ImgCfg} {test : TestPort} (h : Kept.Calm k a.kept) :
    Kept.Calm k (Kept.mk a.homeTimeout a.rw.shadowWays a.blk.fclkLimit a.blk.tick a.pending a.own act a.fncs test) :=
  ⟨⟨h.tame.queue, h.tame.order, h.tame.legal⟩, h.tick⟩
/-- So may the tick. -/
theorem tame_mk {k : Kept} {a : State} {n : Nat} {act : ImgCfg} {test : TestPort} (h : Kept.Tame k a.kept) :
    Kept.Tame k (Kept.mk a.homeTimeout a.rw.shadowWays a.blk.fclkLimit n a.pending a.own act a.fncs test) :=
  ⟨h.queue, h.order, h.legal⟩

/-- The tables may change where they stay in order. -/
theorem calm_tables {k : Kept} {a : State} {own : Map OwnEntry} {fncs : Map FncRec} {act : ImgCfg} {test : TestPort}
    (ho : mapSorted a.own = true → mapSorted own = true) (hf : mapSorted a.fncs = true → mapSorted fncs = true)
    (h : Kept.Calm k a.kept) :
    Kept.Calm k (Kept.mk a.homeTimeout a.rw.shadowWays a.blk.fclkLimit a.blk.tick a.pending own act fncs test) :=
  ⟨⟨h.tame.queue, fun x => ⟨ho (h.tame.order x).1, hf (h.tame.order x).2⟩, h.tame.legal⟩, h.tick⟩

theorem State.setOwn_calm (s : State) (g : Nat) (e : OwnEntry) : Kept.Calm s.kept (s.setOwn g e).kept :=
  Kept.Calm.of_order rfl fun h => ⟨mapSorted_tset _ _ _ _ h.1, h.2⟩

theorem State.setFnc_calm (s : State) (f : Nat) (r : FncRec) : Kept.Calm s.kept (s.setFnc f r).kept :=
  Kept.Calm.of_order rfl fun h => ⟨h.1, mapSorted_tset _ _ _ _ h.2⟩

theorem State.testIr_calm (s : State) (code : Nat) (value : BitVec 32) : Kept.Calm s.kept (s.testIr code value).kept :=
  Kept.Calm.of_order rfl id

theorem State.samplePins_calm (s : State) (pins preload : List Bool) : Kept.Calm s.kept (State.samplePins s pins preload).kept := by
  unfold State.samplePins
  try dsimp only
  repeat' (first | with_reducible assumption | with_reducible exact Kept.Calm.refl _ | with_reducible refine (State.testIr_calm _ _ _).after ?_ | with_reducible refine ite_calm ?_ ?_ | split | simp only [↓State.kept_mk, State.kept_eta, ↓State.emit_kept] | with_reducible refine calm_mk ?_)

theorem State.driveBoundary_calm (s : State) : Kept.Calm s.kept (State.driveBoundary s).kept := by
  unfold State.driveBoundary
  try dsimp only
  repeat' (first | with_reducible assumption | with_reducible exact Kept.Calm.refl _ | with_reducible refine (State.testIr_calm _ _ _).after ?_ | with_reducible refine ite_calm ?_ ?_ | split | simp only [↓State.kept_mk, State.kept_eta, ↓State.emit_kept] | with_reducible refine calm_mk ?_)

theorem State.instrument_calm (s : State) (inst : Nat) (write reveals : Bool) (data : Reg) : Kept.Calm s.kept (State.instrument s inst write reveals data).kept := by
  unfold State.instrument
  try dsimp only
  repeat' (first | with_reducible assumption | with_reducible exact Kept.Calm.refl _ | with_reducible refine (State.testIr_calm _ _ _).after ?_ | with_reducible refine ite_calm ?_ ?_ | split | simp only [↓State.kept_mk, State.kept_eta, ↓State.emit_kept] | with_reducible refine calm_mk ?_)

theorem State.objGstate_calm (s : State) (o : ObjRec) (old dst : Nat) : Kept.Calm s.kept (s.objGstate o old dst).kept :=
  Kept.Calm.of_order rfl fun h => ⟨mapSorted_map _ _ (fun e => by split <;> rfl) h.1, h.2⟩

theorem State.freeObj_calm (s : State) (o : Nat) : Kept.Calm s.kept (State.freeObj s o).kept := by
  unfold State.freeObj
  try dsimp only
  repeat' (first | with_reducible assumption | with_reducible exact Kept.Calm.refl _ | with_reducible refine (State.objGstate_calm _ _ _ _).after ?_ | with_reducible refine ite_calm ?_ ?_ | split | simp only [↓State.kept_mk, State.kept_eta, ↓State.count_kept, ↓State.discardRange_kept, ↓State.setObj_kept] | with_reducible refine calm_mk ?_)

theorem State.objFree_calm (s : State) (f o gen : Nat) : Kept.Calm s.kept (State.objFree s f o gen).1.kept := by
  unfold State.objFree
  try dsimp only
  repeat' (first | with_reducible assumption | with_reducible exact Kept.Calm.refl _ | with_reducible refine (State.freeObj_calm _ _).after ?_ | with_reducible refine ite_calm ?_ ?_ | split | simp only [↓State.kept_mk, State.kept_eta, ↓State.denied_kept, ↓State.objLost_kept] | with_reducible refine calm_mk ?_)

theorem State.objFree_calm' {s : State} {f o gen : Nat} {t₁ x₁} (hc : State.objFree s f o gen = (t₁, x₁)) : Kept.Calm s.kept t₁.kept := by
  have e := State.objFree_calm s f o gen
  rw [hc] at e
  exact e

theorem State.objApply_calm (s : State) (f : Nat) : Kept.Calm s.kept (State.objApply s f).kept := by
  unfold State.objApply
  try dsimp only
  repeat' (first | with_reducible assumption | with_reducible exact Kept.Calm.refl _ | with_reducible refine Kept.Calm.of_eq (State.objCreate_kept' (by assumption)) ?_ | with_reducible refine (State.objFree_calm' (by assumption)).after ?_ | with_reducible refine (State.objFree_calm _ _ _ _).after ?_ | with_reducible refine ite_calm ?_ ?_ | split | simp only [↓State.kept_mk, State.kept_eta, ↓State.hostRsp_kept, ↓State.objCreate_kept, ↓State.setView_kept] | with_reducible refine calm_mk ?_)

theorem State.objDrained_calm (s : State) (o : Nat) : Kept.Calm s.kept (State.objDrained s o).kept := by
  unfold State.objDrained
  try dsimp only
  repeat' (first | with_reducible assumption | with_reducible exact Kept.Calm.refl _ | with_reducible refine (State.objGstate_calm _ _ _ _).after ?_ | with_reducible refine ite_calm ?_ ?_ | split | simp only [↓State.kept_mk, State.kept_eta, ↓State.count_kept, ↓State.setObj_kept, ↓State.setView_kept] | with_reducible refine calm_mk ?_)

theorem State.ownApply_calm (s : State) : Kept.Calm s.kept (State.ownApply s).kept := by
  unfold State.ownApply
  try dsimp only
  repeat' (first | with_reducible assumption | with_reducible exact Kept.Calm.refl _ | with_reducible refine (State.setOwn_calm _ _ _).after ?_ | with_reducible refine foldl_calm _ (fun s a => ?_) _ ?_ | with_reducible refine foldl_fst_calm _ (fun s a => ?_) _ ?_ | with_reducible refine ite_calm ?_ ?_ | split | simp only [↓State.kept_mk, State.kept_eta, ↓foldl_kept, implies_true, ↓State.count_kept, ↓State.discardRange_kept, ↓State.dropOwn_kept, ↓State.ownDone_kept, ↓State.queueClean_kept] | with_reducible refine calm_mk ?_)

theorem State.granuleCleaned_calm (s : State) (g : Nat) : Kept.Calm s.kept (State.granuleCleaned s g).kept := by
  unfold State.granuleCleaned
  try dsimp only
  repeat' (first | with_reducible assumption | with_reducible exact Kept.Calm.refl _ | with_reducible refine (State.setOwn_calm _ _ _).after ?_ | with_reducible refine ite_calm ?_ ?_ | split | simp only [↓State.kept_mk, State.kept_eta, ↓State.dropOwn_kept, ↓State.ownDone_kept] | with_reducible refine calm_mk ?_)

theorem State.fncCmd_calm (s : State) (f op : Nat) (erase : Bool) : Kept.Calm s.kept (State.fncCmd s f op erase).kept := by
  unfold State.fncCmd
  try dsimp only
  repeat' (first | with_reducible assumption | with_reducible exact Kept.Calm.refl _ | with_reducible refine (State.setFnc_calm _ _ _).after ?_ | with_reducible refine ite_calm ?_ ?_ | split | simp only [↓State.kept_mk, State.kept_eta] | with_reducible refine calm_mk ?_)

theorem State.fncGo_calm (s : State) (f st : Nat) : Kept.Calm s.kept (State.fncGo s f st).kept := by
  unfold State.fncGo
  try dsimp only
  repeat' (first | with_reducible assumption | with_reducible exact Kept.Calm.refl _ | with_reducible refine (State.setFnc_calm _ _ _).after ?_ | with_reducible refine ite_calm ?_ ?_ | split | simp only [↓State.kept_mk, State.kept_eta] | with_reducible refine calm_mk ?_)

theorem State.fncDone_calm (s : State) (f res : Nat) : Kept.Calm s.kept (State.fncDone s f res).kept := by
  unfold State.fncDone
  try dsimp only
  repeat' (first | with_reducible assumption | with_reducible exact Kept.Calm.refl _ | with_reducible refine (State.setFnc_calm _ _ _).after ?_ | with_reducible refine ite_calm ?_ ?_ | split | simp only [↓State.kept_mk, State.kept_eta, ↓State.mgIrq_kept] | with_reducible refine calm_mk ?_)

theorem State.tearStart_calm (s : State) (f : Nat) (remove erase : Bool) : Kept.Calm s.kept (State.tearStart s f remove erase).kept := by
  unfold State.tearStart
  try dsimp only
  repeat' (first | with_reducible assumption | with_reducible exact Kept.Calm.refl _ | with_reducible refine (State.setFnc_calm _ _ _).after ?_ | with_reducible refine (State.freeObj_calm _ _).after ?_ | with_reducible refine (State.fncGo_calm _ _ _).after ?_ | with_reducible refine foldl_calm _ (fun s a => ?_) _ ?_ | with_reducible refine foldl_fst_calm _ (fun s a => ?_) _ ?_ | with_reducible refine ite_calm ?_ ?_ | split | simp only [↓State.kept_mk, State.kept_eta, ↓foldl_kept, implies_true, ↓State.freeSlot_kept, ↓State.loseBinding_kept, ↓State.loseContext_kept, ↓State.seqCloseNow_kept] | with_reducible refine calm_mk ?_)

theorem State.fncApply_calm (s : State) (f : Nat) : Kept.Calm s.kept (State.fncApply s f).kept := by
  unfold State.fncApply
  try dsimp only
  repeat' (first | with_reducible assumption | with_reducible exact Kept.Calm.refl _ | with_reducible refine (State.setFnc_calm _ _ _).after ?_ | with_reducible refine (State.fncGo_calm _ _ _).after ?_ | with_reducible refine (State.fncDone_calm _ _ _).after ?_ | with_reducible refine (State.tearStart_calm _ _ _ _).after ?_ | with_reducible refine ite_calm ?_ ?_ | split | simp only [↓State.kept_mk, State.kept_eta] | with_reducible refine calm_mk ?_)

theorem State.quiesceDrained_calm (s : State) (f : Nat) : Kept.Calm s.kept (State.quiesceDrained s f).kept := by
  unfold State.quiesceDrained
  try dsimp only
  repeat' (first | with_reducible assumption | with_reducible exact Kept.Calm.refl _ | with_reducible refine (State.fncGo_calm _ _ _).after ?_ | with_reducible refine (State.fncDone_calm _ _ _).after ?_ | with_reducible refine ite_calm ?_ ?_ | split | simp only [↓State.kept_mk, State.kept_eta] | with_reducible refine calm_mk ?_)

theorem State.quiesceForce_calm (s : State) (f : Nat) : Kept.Calm s.kept (State.quiesceForce s f).kept := by
  unfold State.quiesceForce
  try dsimp only
  repeat' (first | with_reducible assumption | with_reducible exact Kept.Calm.refl _ | with_reducible refine (State.setFnc_calm _ _ _).after ?_ | with_reducible refine foldl_calm _ (fun s a => ?_) _ ?_ | with_reducible refine foldl_fst_calm _ (fun s a => ?_) _ ?_ | with_reducible refine ite_calm ?_ ?_ | split | simp only [↓State.kept_mk, State.kept_eta, ↓foldl_kept, implies_true, ↓State.loseContext_kept] | with_reducible refine calm_mk ?_)

theorem State.quiesceForced_calm (s : State) (f : Nat) : Kept.Calm s.kept (State.quiesceForced s f).kept := by
  unfold State.quiesceForced
  try dsimp only
  repeat' (first | with_reducible assumption | with_reducible exact Kept.Calm.refl _ | with_reducible refine (State.fncGo_calm _ _ _).after ?_ | with_reducible refine (State.fncDone_calm _ _ _).after ?_ | with_reducible refine ite_calm ?_ ?_ | split | simp only [↓State.kept_mk, State.kept_eta] | with_reducible refine calm_mk ?_)

theorem State.tearEnd_calm (s : State) (f st : Nat) : Kept.Calm s.kept (State.tearEnd s f st).kept := by
  unfold State.tearEnd
  try dsimp only
  repeat' (first | with_reducible assumption | with_reducible exact Kept.Calm.refl _ | with_reducible refine (State.setFnc_calm _ _ _).after ?_ | with_reducible refine (State.fncGo_calm _ _ _).after ?_ | with_reducible refine (State.fncDone_calm _ _ _).after ?_ | with_reducible refine foldl_calm _ (fun s a => ?_) _ ?_ | with_reducible refine foldl_fst_calm _ (fun s a => ?_) _ ?_ | with_reducible refine ite_calm ?_ ?_ | split | simp only [↓State.kept_mk, State.kept_eta, ↓foldl_kept, implies_true, ↓State.setKey_kept, ↓State.setView_kept] | with_reducible refine calm_mk ?_)

theorem State.discardAll_calm (s : State) (f : Nat) (kind : CleanKind) : Kept.Calm s.kept (State.discardAll s f kind).kept := by
  unfold State.discardAll
  try dsimp only
  repeat' (first | with_reducible assumption | with_reducible exact Kept.Calm.refl _ | with_reducible refine Kept.Calm.of_eq (State.fresh_kept' (by assumption)) ?_ | with_reducible refine (State.setOwn_calm _ _ _).after ?_ | with_reducible refine foldl_calm _ (fun s a => ?_) _ ?_ | with_reducible refine foldl_fst_calm _ (fun s a => ?_) _ ?_ | with_reducible refine ite_calm ?_ ?_ | split | simp only [↓State.kept_mk, State.kept_eta, ↓foldl_kept, implies_true, ↓State.discardRange_kept, ↓State.dropOwn_kept, ↓State.fresh_kept, ↓State.queueClean_kept] | with_reducible refine calm_mk ?_)

theorem State.replaceKey_calm (s : State) (f k : Nat) : Kept.Calm s.kept (s.replaceKey f k).kept := by
  unfold State.replaceKey
  dsimp only
  refine ite_calm (Kept.Calm.refl _) ?_
  split
  · rename_i n _
    simp only [↓State.markKey_kept, ↓State.kept_mk]
    refine calm_tables (a := s.stageFresh n f) (mapSorted_map _ _ fun e => ?_) id ?_
    · split <;> rfl
    · simp only [↓State.stageFresh_kept]
      exact Kept.Calm.refl _
  · simp only [↓State.markKey_kept]
    exact Kept.Calm.refl _

theorem State.eraseStep_calm (s : State) (f : Nat) : Kept.Calm s.kept (State.eraseStep s f).kept := by
  unfold State.eraseStep
  try dsimp only
  repeat' (first | with_reducible assumption | with_reducible exact Kept.Calm.refl _ | with_reducible refine (State.setFnc_calm _ _ _).after ?_ | with_reducible refine (State.tearEnd_calm _ _ _).after ?_ | with_reducible refine (State.discardAll_calm _ _ _).after ?_ | with_reducible refine (State.replaceKey_calm _ _ _).after ?_ | with_reducible refine foldl_calm _ (fun s a => ?_) _ ?_ | with_reducible refine foldl_fst_calm _ (fun s a => ?_) _ ?_ | with_reducible refine ite_calm ?_ ?_ | split | simp only [↓State.kept_mk, State.kept_eta, ↓foldl_kept, implies_true, ↓State.restageKeys_kept] | with_reducible refine calm_mk ?_)

theorem State.removeStep_calm (s : State) (f : Nat) : Kept.Calm s.kept (State.removeStep s f).kept := by
  unfold State.removeStep
  try dsimp only
  repeat' (first | with_reducible assumption | with_reducible exact Kept.Calm.refl _ | with_reducible refine (State.setFnc_calm _ _ _).after ?_ | with_reducible refine (State.tearEnd_calm _ _ _).after ?_ | with_reducible refine (State.discardAll_calm _ _ _).after ?_ | with_reducible refine foldl_calm _ (fun s a => ?_) _ ?_ | with_reducible refine foldl_fst_calm _ (fun s a => ?_) _ ?_ | with_reducible refine ite_calm ?_ ?_ | split | simp only [↓State.kept_mk, State.kept_eta, ↓foldl_kept, implies_true, ↓State.doomStep_kept, ↓State.setKey_kept] | with_reducible refine calm_mk ?_)

theorem State.tearStep_calm (s : State) (f : Nat) : Kept.Calm s.kept (State.tearStep s f).kept := by
  unfold State.tearStep
  try dsimp only
  repeat' (first | with_reducible assumption | with_reducible exact Kept.Calm.refl _ | with_reducible refine (State.tearEnd_calm _ _ _).after ?_ | with_reducible refine (State.eraseStep_calm _ _).after ?_ | with_reducible refine (State.removeStep_calm _ _).after ?_ | with_reducible refine ite_calm ?_ ?_ | split | simp only [↓State.kept_mk, State.kept_eta] | with_reducible refine calm_mk ?_)

theorem State.ownCommit_calm (s : State) (old new : ImgCfg) : Kept.Calm s.kept (State.ownCommit s old new).kept := by
  unfold State.ownCommit
  try dsimp only
  repeat' (first | with_reducible assumption | with_reducible exact Kept.Calm.refl _ | with_reducible refine (State.setOwn_calm _ _ _).after ?_ | with_reducible refine foldl_calm _ (fun s a => ?_) _ ?_ | with_reducible refine foldl_fst_calm _ (fun s a => ?_) _ ?_ | with_reducible refine forRange_calm _ (fun s i => ?_) _ _ ?_ | with_reducible refine ite_calm ?_ ?_ | split | simp only [↓State.kept_mk, State.kept_eta, ↓foldl_kept, implies_true, ↓State.count_kept, ↓State.dropOwn_kept] | with_reducible refine calm_mk ?_)

theorem State.putCfg_calm (s : State) (d : Staged) : Kept.Calm s.kept (State.putCfg s d).kept := by
  unfold State.putCfg
  try dsimp only
  repeat' (first | with_reducible assumption | with_reducible exact Kept.Calm.refl _ | with_reducible refine foldl_calm _ (fun s a => ?_) _ ?_ | with_reducible refine foldl_fst_calm _ (fun s a => ?_) _ ?_ | with_reducible refine ite_calm ?_ ?_ | split | simp only [↓State.kept_mk, State.kept_eta, ↓foldl_kept, implies_true, ↓State.qosDrop_kept, ↓State.qosFromRec_kept] | with_reducible refine calm_mk ?_)

theorem State.imgCommit_calm (s : State) : Kept.Calm s.kept (State.imgCommit s).kept := by
  unfold State.imgCommit
  try dsimp only
  repeat' (first | with_reducible assumption | with_reducible exact Kept.Calm.refl _ | with_reducible refine (State.ownCommit_calm _ _ _).after ?_ | with_reducible refine (State.putCfg_calm _ _).after ?_ | with_reducible refine ite_calm ?_ ?_ | split | simp only [↓State.kept_mk, State.kept_eta, ↓State.imgEmpty_kept, ↓State.imgEvent_kept, ↓State.imgFailAt_kept, ↓State.mgIrq_kept, ↓State.raise_kept, ↓State.retireStranded_kept, ↓State.settle_kept, ↓State.strandTransfers_kept] | with_reducible refine calm_mk ?_)

theorem State.ownFull_calm (s : State) (c : ImgCfg) : Kept.Calm s.kept (s.ownFull c).kept := by
  unfold State.ownFull
  try dsimp only
  refine foldl_calm _ (fun s a => ?_) _ ?_
  · refine forRange_calm _ (fun s i => ?_) _ _ (Kept.Calm.refl _)
    exact ite_calm (State.setOwn_calm _ _ _) (State.setOwn_calm _ _ _)
  · exact calm_tables (a := s) (fun _ => rfl) id (Kept.Calm.refl _)

theorem State.imgApply_calm (s : State) : Kept.Calm s.kept (State.imgApply s).kept := by
  unfold State.imgApply
  try dsimp only
  repeat' (first | with_reducible assumption | with_reducible exact Kept.Calm.refl _ | with_reducible refine (State.putCfg_calm _ _).after ?_ | with_reducible refine (State.ownFull_calm _ _).after ?_ | with_reducible refine ite_calm ?_ ?_ | split | simp only [↓State.kept_mk, State.kept_eta, ↓State.imgEmpty_kept, ↓State.vaultApply_kept] | with_reducible refine calm_mk ?_)

theorem State.chipJoin_tame (s : State) (refTick : Nat) : Kept.Tame s.kept (State.chipJoin s refTick).kept := by
  unfold State.chipJoin
  try dsimp only
  repeat' (first | with_reducible assumption | with_reducible exact Kept.Tame.refl _ | with_reducible refine ite_tame ?_ ?_ | split | simp only [↓State.kept_mk, State.kept_eta, ↓State.refTick_kept, ↓State.shiftLinks_kept, ↓State.shiftRest_kept, ↓State.shiftWork_kept] | with_reducible refine tame_mk ?_)

theorem State.coldReset_tame (s : State) : Kept.Tame s.kept s.coldReset.kept := by
  refine ⟨rfl, fun _ => ⟨rfl, rfl⟩, fun _ => ?_⟩
  show 1 ≤ 4 ∧ 4 + 1 ≤ 6 ∧ 6 ≤ 7 ∧ 2 ≤ 4 ∧ 0 ≤ 8
  decide

theorem State.fawnReset_tame (s : State) : Kept.Tame s.kept s.fawnReset.kept := by
  refine ⟨rfl, fun _ => ⟨rfl, rfl⟩, fun _ => ?_⟩
  show 1 ≤ 4 ∧ 4 + 1 ≤ 6 ∧ 6 ≤ 7 ∧ 2 ≤ 4 ∧ 0 ≤ 8
  decide

theorem State.fabricReleased_tame (s : State) (tp : BitVec 256) (mp : BitVec 16) (lp : BitVec 64) : Kept.Tame s.kept (State.fabricReleased s tp mp lp).kept := by
  unfold State.fabricReleased
  try dsimp only
  repeat' (first | with_reducible assumption | with_reducible exact Kept.Tame.refl _ | with_reducible refine foldl_tame _ (fun s a => ?_) _ ?_ | with_reducible refine foldl_fst_tame _ (fun s a => ?_) _ ?_ | with_reducible refine ite_tame ?_ ?_ | split | simp only [↓State.kept_mk, State.kept_eta, ↓foldl_kept, implies_true, ↓State.emit_kept, ↓State.power_kept, ↓State.setPhase_kept, ↓State.setPort_kept, ↓State.setTine_kept] | with_reducible refine tame_mk ?_)

theorem State.enterStandby_tame (s : State) : Kept.Tame s.kept (State.enterStandby s).kept := by
  unfold State.enterStandby
  try dsimp only
  repeat' (first | with_reducible assumption | with_reducible exact Kept.Tame.refl _ | with_reducible refine (State.coldReset_tame _).after ?_ | with_reducible refine ite_tame ?_ ?_ | split | simp only [↓State.kept_mk, State.kept_eta, ↓State.emit_kept, ↓State.notice_kept, ↓State.power_kept] | with_reducible refine tame_mk ?_)

theorem State.powerTick_tame (s : State) : Kept.Tame s.kept (State.powerTick s).kept := by
  unfold State.powerTick
  try dsimp only
  repeat' (first | with_reducible assumption | with_reducible exact Kept.Tame.refl _ | with_reducible refine (State.enterStandby_tame _).after ?_ | with_reducible refine ite_tame ?_ ?_ | split | simp only [↓State.kept_mk, State.kept_eta, ↓State.enterDoze_kept, ↓State.powerRefuse_kept, ↓State.selfRefreshAll_kept, ↓State.xoffAll_kept] | with_reducible refine tame_mk ?_)

theorem State.powerGone_tame (s : State) : Kept.Tame s.kept s.powerGone.kept := by
  refine ⟨rfl, fun _ => ⟨rfl, rfl⟩, fun _ => ?_⟩
  show 1 ≤ 4 ∧ 4 + 1 ≤ 6 ∧ 6 ≤ 7 ∧ 2 ≤ 4 ∧ 0 ≤ 8
  decide

theorem State.takeover_calm (s : State) : Kept.Calm s.kept (State.takeover s).kept := by
  unfold State.takeover
  try dsimp only
  repeat' (first | with_reducible assumption | with_reducible exact Kept.Calm.refl _ | with_reducible refine (State.setOwn_calm _ _ _).after ?_ | with_reducible refine (State.objGstate_calm _ _ _ _).after ?_ | with_reducible refine (State.tearStart_calm _ _ _ _).after ?_ | with_reducible refine foldl_calm _ (fun s a => ?_) _ ?_ | with_reducible refine foldl_fst_calm _ (fun s a => ?_) _ ?_ | with_reducible refine ite_calm ?_ ?_ | split | simp only [↓State.kept_mk, State.kept_eta, ↓foldl_kept, implies_true, ↓State.dropOwn_kept, ↓State.fenceTaken_kept, ↓State.imgEmpty_kept, ↓State.pairGo_kept, ↓State.queueClean_kept, ↓State.setObj_kept] | with_reducible refine calm_mk ?_)

theorem State.pairApply_calm (s : State) : Kept.Calm s.kept (State.pairApply s).kept := by
  unfold State.pairApply
  try dsimp only
  repeat' (first | with_reducible assumption | with_reducible exact Kept.Calm.refl _ | with_reducible refine (State.takeover_calm _).after ?_ | with_reducible refine ite_calm ?_ ?_ | split | simp only [↓State.kept_mk, State.kept_eta, ↓State.syncStart_kept] | with_reducible refine calm_mk ?_)

theorem State.mirrorImage_calm (s : State) (b : List Byte) : Kept.Calm s.kept (State.mirrorImage s b).kept := by
  unfold State.mirrorImage
  try dsimp only
  repeat' (first | with_reducible assumption | with_reducible exact Kept.Calm.refl _ | with_reducible refine (State.putCfg_calm _ _).after ?_ | with_reducible refine ite_calm ?_ ?_ | split | simp only [↓State.kept_mk, State.kept_eta, ↓State.imgEmpty_kept, ↓State.raise_kept, ↓State.settle_kept] | with_reducible refine calm_mk ?_)

theorem State.mirrorReg_calm (s : State) (o : Nat) (d : Reg) : Kept.Calm s.kept (State.mirrorReg s o d).kept := by
  unfold State.mirrorReg
  try dsimp only
  repeat' (first | with_reducible assumption | with_reducible exact Kept.Calm.refl _ | with_reducible refine (State.setFnc_calm _ _ _).after ?_ | with_reducible refine ite_calm ?_ ?_ | split | simp only [↓State.kept_mk, State.kept_eta] | with_reducible refine calm_mk ?_)

theorem State.mirrorRec_calm (s : State) (r : MirrorRec) : Kept.Calm s.kept (State.mirrorRec s r).kept := by
  unfold State.mirrorRec
  try dsimp only
  repeat' (first | with_reducible assumption | with_reducible exact Kept.Calm.refl _ | with_reducible refine (State.setOwn_calm _ _ _).after ?_ | with_reducible refine (State.setFnc_calm _ _ _).after ?_ | with_reducible refine (State.mirrorImage_calm _ _).after ?_ | with_reducible refine (State.mirrorReg_calm _ _ _).after ?_ | with_reducible refine forRange_calm _ (fun s i => ?_) _ _ ?_ | with_reducible refine ite_calm ?_ ?_ | split | simp only [↓State.kept_mk, State.kept_eta, ↓State.mirrorCtx_kept, ↓State.mirrorKey_kept, ↓State.setFence_kept, ↓State.setFpage_kept, ↓State.setObj_kept] | with_reducible refine calm_mk ?_)

theorem State.mirrorEmpty_calm (s : State) : Kept.Calm s.kept s.mirrorEmpty.kept := by
  unfold State.mirrorEmpty
  extract_lets s1
  have h : s1.kept = s.kept := ite_kept (State.imgEmpty_kept _ _) rfl
  clear_value s1
  simp only [↓State.kept_mk]
  refine calm_tables (fun _ => rfl) (mapSorted_filter _ _) ?_
  rw [h]
  exact Kept.Calm.refl _

theorem State.mirrorApplyOne_calm (s : State) : Kept.Calm s.kept (State.mirrorApplyOne s).kept := by
  unfold State.mirrorApplyOne
  try dsimp only
  repeat' (first | with_reducible assumption | with_reducible exact Kept.Calm.refl _ | with_reducible refine (State.mirrorRec_calm _ _).after ?_ | with_reducible refine (State.mirrorEmpty_calm _).after ?_ | with_reducible refine foldl_calm _ (fun s a => ?_) _ ?_ | with_reducible refine foldl_fst_calm _ (fun s a => ?_) _ ?_ | with_reducible refine ite_calm ?_ ?_ | split | simp only [↓State.kept_mk, State.kept_eta, ↓foldl_kept, implies_true, ↓State.mirrorOut_kept, ↓State.pairGo_kept] | with_reducible refine calm_mk ?_)

theorem State.mirrorApply_calm (s : State) : Kept.Calm s.kept (State.mirrorApply s).kept := by
  unfold State.mirrorApply
  try dsimp only
  repeat' (first | with_reducible assumption | with_reducible exact Kept.Calm.refl _ | with_reducible refine (State.mirrorApplyOne_calm _).after ?_ | with_reducible refine foldl_calm _ (fun s a => ?_) _ ?_ | with_reducible refine foldl_fst_calm _ (fun s a => ?_) _ ?_ | with_reducible refine ite_calm ?_ ?_ | split | simp only [↓State.kept_mk, State.kept_eta, ↓foldl_kept, implies_true, ↓State.sweepBegins_kept] | with_reducible refine calm_mk ?_)

theorem State.pairTick_calm (s : State) : Kept.Calm s.kept (State.pairTick s).kept := by
  unfold State.pairTick
  try dsimp only
  repeat' (first | with_reducible assumption | with_reducible exact Kept.Calm.refl _ | with_reducible refine (State.pairApply_calm _).after ?_ | with_reducible refine (State.mirrorApply_calm _).after ?_ | with_reducible refine ite_calm ?_ ?_ | split | simp only [↓State.kept_mk, State.kept_eta, ↓State.pairLag_kept, ↓State.pairLost_kept, ↓State.syncDone_kept] | with_reducible refine calm_mk ?_)

theorem State.limitWrite_calm (s : State) (v : Nat) : Kept.Calm s.kept (s.limitWrite v).kept := by
  unfold State.limitWrite
  split
  · rename_i h
    exact ⟨⟨rfl, id, fun ⟨a, b, c, d, _⟩ => ⟨a, b, c, d, h⟩⟩, rfl⟩
  · exact Kept.Calm.refl _

theorem State.writeBlk_calm (s : State) (o : Nat) (d : Reg) : Kept.Calm s.kept (State.writeBlk s o d).kept := by
  unfold State.writeBlk
  try dsimp only
  repeat' (first | with_reducible assumption | with_reducible exact Kept.Calm.refl _ | with_reducible refine (State.limitWrite_calm _ _).after ?_ | with_reducible refine ite_calm ?_ ?_ | split | simp only [↓State.kept_mk, State.kept_eta, ↓State.writePort_kept, ↓State.writePower_kept] | with_reducible refine calm_mk ?_)

theorem State.writeCfg_calm (s : State) (f : Nat) (d : Reg) : Kept.Calm s.kept (State.writeCfg s f d).kept := by
  unfold State.writeCfg
  try dsimp only
  repeat' (first | with_reducible assumption | with_reducible exact Kept.Calm.refl _ | with_reducible refine (State.setFnc_calm _ _ _).after ?_ | with_reducible refine ite_calm ?_ ?_ | split | simp only [↓State.kept_mk, State.kept_eta] | with_reducible refine calm_mk ?_)

theorem State.writeFnc_calm (s : State) (o : Nat) (d : Reg) : Kept.Calm s.kept (State.writeFnc s o d).kept := by
  unfold State.writeFnc
  try dsimp only
  repeat' (first | with_reducible assumption | with_reducible exact Kept.Calm.refl _ | with_reducible refine (State.fncCmd_calm _ _ _ _).after ?_ | with_reducible refine (State.writeCfg_calm _ _ _).after ?_ | with_reducible refine ite_calm ?_ ?_ | split | simp only [↓State.kept_mk, State.kept_eta] | with_reducible refine calm_mk ?_)

theorem State.writeTimeout_calm (s : State) (d : Reg) : Kept.Calm s.kept (s.writeTimeout d).kept := by
  unfold State.writeTimeout
  extract_lets l r
  clear_value l r
  split
  · exact Kept.Calm.refl _
  · rename_i h
    simp only [Bool.or_eq_true, decide_eq_true_eq, not_or, Nat.not_lt] at h
    refine ⟨⟨rfl, id, fun ⟨_, _, _, e, f⟩ => ⟨?_, ?_, ?_, e, f⟩⟩, rfl⟩ <;> simp only [State.kept_mk] <;> omega

theorem State.writeRwCtrl_calm (s : State) (d : Reg) : Kept.Calm s.kept (s.writeRwCtrl d).kept := by
  unfold State.writeRwCtrl
  extract_lets w
  clear_value w
  refine ⟨⟨rfl, id, fun ⟨a, b, c, e, f⟩ => ⟨a, b, c, ?_, f⟩⟩, rfl⟩
  simp only [State.kept_mk]
  split <;> assumption

theorem State.writeHsl_calm (s : State) (o : Nat) (d : Reg) : Kept.Calm s.kept (State.writeHsl s o d).kept := by
  unfold State.writeHsl
  try dsimp only
  repeat' (first | with_reducible assumption | with_reducible exact Kept.Calm.refl _ | with_reducible refine (State.writeTimeout_calm _ _).after ?_ | with_reducible refine (State.writeRwCtrl_calm _ _).after ?_ | with_reducible refine ite_calm ?_ ?_ | split | simp only [↓State.kept_mk, State.kept_eta] | with_reducible refine calm_mk ?_)

theorem State.writeDepth_calm (s : State) (f : Nat) (d : Reg) : Kept.Calm s.kept (State.writeDepth s f d).kept := by
  unfold State.writeDepth
  try dsimp only
  repeat' (first | with_reducible assumption | with_reducible exact Kept.Calm.refl _ | with_reducible refine (State.setFnc_calm _ _ _).after ?_ | with_reducible refine foldl_calm _ (fun s a => ?_) _ ?_ | with_reducible refine foldl_fst_calm _ (fun s a => ?_) _ ?_ | with_reducible refine ite_calm ?_ ?_ | split | simp only [↓State.kept_mk, State.kept_eta, ↓foldl_kept, implies_true] | with_reducible refine calm_mk ?_)

theorem State.writeJob_calm (s : State) (o : Nat) (d : Reg) : Kept.Calm s.kept (State.writeJob s o d).kept := by
  unfold State.writeJob
  try dsimp only
  repeat' (first | with_reducible assumption | with_reducible exact Kept.Calm.refl _ | with_reducible refine (State.writeDepth_calm _ _ _).after ?_ | with_reducible refine ite_calm ?_ ?_ | split | simp only [↓State.kept_mk, State.kept_eta, ↓State.writeSeq_kept] | with_reducible refine calm_mk ?_)

theorem State.regSet_calm (s : State) (a : Nat) (d : Reg) : Kept.Calm s.kept (State.regSet s a d).kept := by
  unfold State.regSet
  try dsimp only
  repeat' (first | with_reducible assumption | with_reducible exact Kept.Calm.refl _ | with_reducible refine (State.writeBlk_calm _ _ _).after ?_ | with_reducible refine (State.writeFnc_calm _ _ _).after ?_ | with_reducible refine (State.writeHsl_calm _ _ _).after ?_ | with_reducible refine (State.writeJob_calm _ _ _).after ?_ | with_reducible refine ite_calm ?_ ?_ | split | simp only [↓State.kept_mk, State.kept_eta, ↓State.fpageCmd_kept, ↓State.pairWrite_kept, ↓State.writeFlt_kept, ↓State.writeFwn_kept, ↓State.writeImg_kept, ↓State.writeMpt_kept, ↓State.writeObs_kept, ↓State.writeQos_kept, ↓State.writeSlc_kept, ↓State.writeTin_kept, ↓State.writeVlt_kept] | with_reducible refine calm_mk ?_)

theorem State.mgSet_calm (s : State) (a : Nat) (wide : Bool) (d : Reg) : Kept.Calm s.kept (State.mgSet s a wide d).kept := by
  unfold State.mgSet
  try dsimp only
  repeat' (first | with_reducible assumption | with_reducible exact Kept.Calm.refl _ | with_reducible refine (State.regSet_calm _ _ _).after ?_ | with_reducible refine ite_calm ?_ ?_ | split | simp only [↓State.kept_mk, State.kept_eta] | with_reducible refine calm_mk ?_)

theorem State.mgServe_calm (s : State) (r : MgReq) (st : Status) : Kept.Calm s.kept (State.mgServe s r st).kept := by
  unfold State.mgServe
  try dsimp only
  repeat' (first | with_reducible assumption | with_reducible exact Kept.Calm.refl _ | with_reducible refine (State.mgSet_calm _ _ _ _).after ?_ | with_reducible refine ite_calm ?_ ?_ | split | simp only [↓State.kept_mk, State.kept_eta, ↓State.mgRsp_kept, ↓State.readEffect_kept] | with_reducible refine calm_mk ?_)

theorem State.driverReq_calm (s : State) (r : MgReq) : Kept.Calm s.kept (State.driverReq s r).kept := by
  unfold State.driverReq
  try dsimp only
  repeat' (first | with_reducible assumption | with_reducible exact Kept.Calm.refl _ | with_reducible refine (State.mgServe_calm _ _ _).after ?_ | with_reducible refine ite_calm ?_ ?_ | split | simp only [↓State.kept_mk, State.kept_eta, ↓State.portEvent_kept] | with_reducible refine calm_mk ?_)

theorem State.fawnWrite_calm (s : State) (a : Nat) (wide : Bool) (d : Reg) : Kept.Calm s.kept (State.fawnWrite s a wide d).kept := by
  unfold State.fawnWrite
  try dsimp only
  repeat' (first | with_reducible assumption | with_reducible exact Kept.Calm.refl _ | with_reducible refine (State.mgSet_calm _ _ _ _).after ?_ | with_reducible refine ite_calm ?_ ?_ | split | simp only [↓State.kept_mk, State.kept_eta] | with_reducible refine calm_mk ?_)

theorem State.boardWrite_calm (s : State) (a : Nat) (d : Reg) : Kept.Calm s.kept (State.boardWrite s a d).kept := by
  unfold State.boardWrite
  try dsimp only
  repeat' (first | with_reducible assumption | with_reducible exact Kept.Calm.refl _ | with_reducible refine (State.limitWrite_calm _ _).after ?_ | with_reducible refine ite_calm ?_ ?_ | split | simp only [↓State.kept_mk, State.kept_eta, ↓State.askReenable_kept, ↓State.effecterWrite_kept] | with_reducible refine calm_mk ?_)

theorem State.nextTick_tame (s : State) : Kept.Tame s.kept (State.nextTick s).kept := by
  unfold State.nextTick
  try dsimp only
  repeat' (first | with_reducible assumption | with_reducible exact Kept.Tame.refl _ | with_reducible refine ite_tame ?_ ?_ | split | simp only [↓State.kept_mk, State.kept_eta, ↓State.emit_kept] | with_reducible refine tame_mk ?_)

theorem State.holdClocks_calm (s : State) : Kept.Calm s.kept s.holdClocks.kept := by
  unfold State.holdClocks
  dsimp only
  refine ite_calm ?_ (ite_calm ?_ (Kept.Calm.refl _))
  · simp only [↓State.kept_mk]
    have h : ((s.shiftWork fun x => x + 1).shiftLinks fun x => x + 1).kept = s.kept := by
      simp only [↓State.shiftLinks_kept, ↓State.shiftWork_kept]
    refine calm_tables id (fun e => mapSorted_map _ _ (fun x => by split <;> rfl) ?_) ?_
    · have h2 : ((s.shiftWork fun x => x + 1).shiftLinks fun x => x + 1).fncs = s.fncs := congrArg Kept.fncs h
      rw [← h2]
      exact e
    · rw [h]
      exact Kept.Calm.refl _
  · simp only [↓State.shiftWork_kept]
    exact Kept.Calm.refl _

theorem State.harvestApply_calm (s : State) (f : Nat) : Kept.Calm s.kept (State.harvestApply s f).kept := by
  unfold State.harvestApply
  try dsimp only
  repeat' (first | with_reducible assumption | with_reducible exact Kept.Calm.refl _ | with_reducible refine (State.setFnc_calm _ _ _).after ?_ | with_reducible refine ite_calm ?_ ?_ | split | simp only [↓State.kept_mk, State.kept_eta] | with_reducible refine calm_mk ?_)

theorem State.commitOwn_calm (s : State) : Kept.Calm s.kept (State.commitOwn s).kept := by
  unfold State.commitOwn
  try dsimp only
  repeat' (first | with_reducible assumption | with_reducible exact Kept.Calm.refl _ | with_reducible refine (State.objApply_calm _ _).after ?_ | with_reducible refine (State.objDrained_calm _ _).after ?_ | with_reducible refine (State.ownApply_calm _).after ?_ | with_reducible refine (State.granuleCleaned_calm _ _).after ?_ | with_reducible refine (State.fncApply_calm _ _).after ?_ | with_reducible refine (State.quiesceDrained_calm _ _).after ?_ | with_reducible refine (State.quiesceForced_calm _ _).after ?_ | with_reducible refine (State.tearStep_calm _ _).after ?_ | with_reducible refine foldl_calm _ (fun s a => ?_) _ ?_ | with_reducible refine foldl_fst_calm _ (fun s a => ?_) _ ?_ | with_reducible refine each_calm _ (fun s a => ?_) ?_ | with_reducible refine ite_calm ?_ ?_ | split | simp only [↓State.kept_mk, State.kept_eta, ↓foldl_kept, implies_true, ↓State.ctxApply_kept, ↓State.fpageApply_kept, ↓State.loseAll_kept, ↓State.loseUnread_kept, ↓State.usageCapture_kept] | with_reducible refine calm_mk ?_)

theorem State.commitRates_calm (s : State) : Kept.Calm s.kept (State.commitRates s).kept := by
  unfold State.commitRates
  try dsimp only
  repeat' (first | with_reducible assumption | with_reducible exact Kept.Calm.refl _ | with_reducible refine (State.harvestApply_calm _ _).after ?_ | with_reducible refine each_calm _ (fun s a => ?_) ?_ | with_reducible refine ite_calm ?_ ?_ | split | simp only [↓State.kept_mk, State.kept_eta, ↓State.qosApply_kept, ↓State.selApply_kept, ↓State.seqApply_kept, ↓State.shareApply_kept, ↓State.tinApply_kept, ↓State.traceApply_kept] | with_reducible refine calm_mk ?_)

theorem State.commit_tame (s : State) : Kept.Tame s.kept (State.commit s).kept := by
  unfold State.commit
  try dsimp only
  repeat' (first | with_reducible assumption | with_reducible exact Kept.Tame.refl _ | with_reducible refine (State.imgCommit_calm _).tame.after ?_ | with_reducible refine (State.imgApply_calm _).tame.after ?_ | with_reducible refine (State.powerTick_tame _).after ?_ | with_reducible refine (State.pairTick_calm _).tame.after ?_ | with_reducible refine (State.commitOwn_calm _).tame.after ?_ | with_reducible refine (State.commitRates_calm _).tame.after ?_ | with_reducible refine each_tame _ (fun s a => ?_) ?_ | with_reducible refine upTo_tame _ (fun s a => ?_) ?_ | with_reducible refine ite_tame ?_ ?_ | split | simp only [↓State.kept_mk, State.kept_eta, ↓State.abandonFirst_kept, ↓State.commitKeys_kept, ↓State.declareAll_kept, ↓State.drainStart_kept, ↓State.fclkBoundary_kept, ↓State.handover_kept, ↓State.imgClose_kept, ↓State.loseAll_kept, ↓State.portsTick_kept, ↓State.reportCapture_kept, ↓State.restoreFb_kept, ↓State.revertStep_kept, ↓State.startFatal_kept, ↓State.stopBegin_kept, ↓State.stopEnds_kept, ↓State.stopSettled_kept, ↓State.thermalTick_kept] | with_reducible refine tame_mk ?_)

theorem State.deadlinesOpen_calm (s : State) : Kept.Calm s.kept (State.deadlinesOpen s).kept := by
  unfold State.deadlinesOpen
  try dsimp only
  repeat' (first | with_reducible assumption | with_reducible exact Kept.Calm.refl _ | with_reducible refine (State.quiesceForce_calm _ _).after ?_ | with_reducible refine foldl_calm _ (fun s a => ?_) _ ?_ | with_reducible refine foldl_fst_calm _ (fun s a => ?_) _ ?_ | with_reducible refine each_calm _ (fun s a => ?_) ?_ | with_reducible refine upTo_calm _ (fun s a => ?_) ?_ | with_reducible refine ite_calm ?_ ?_ | split | simp only [↓State.kept_mk, State.kept_eta, ↓foldl_kept, implies_true, ↓State.ctlRelease_kept, ↓State.flushTick_kept, ↓State.holdAges_kept, ↓State.inboxAges_kept, ↓State.openGates_kept, ↓State.pageTimeout_kept, ↓State.pumpAll_kept, ↓State.recTick_kept, ↓State.seqPump_kept, ↓State.seqSave_kept, ↓State.tablePiece_kept, ↓State.windowRedo_kept, ↓State.windowsGrow_kept] | with_reducible refine calm_mk ?_)

theorem State.deadlines_calm (s : State) : Kept.Calm s.kept (State.deadlines s).kept := by
  unfold State.deadlines
  try dsimp only
  repeat' (first | with_reducible assumption | with_reducible exact Kept.Calm.refl _ | with_reducible refine (State.deadlinesOpen_calm _).after ?_ | with_reducible refine ite_calm ?_ ?_ | split | simp only [↓State.kept_mk, State.kept_eta, ↓State.deadlinesKept_kept, ↓State.dropFills_kept, ↓State.dumpTick_kept, ↓State.fawnTick_kept, ↓State.fclkFails_kept, ↓State.notice_kept, ↓State.replayLanded_kept, ↓State.traceFlush_kept, ↓State.wfgReady_kept, ↓State.windowsLate_kept] | with_reducible refine calm_mk ?_)

theorem State.boundary_tame (s : State) : Kept.Tame s.kept (State.boundary s).kept := by
  unfold State.boundary
  try dsimp only
  repeat' (first | with_reducible assumption | with_reducible exact Kept.Tame.refl _ | with_reducible refine (State.nextTick_tame _).after ?_ | with_reducible refine (State.holdClocks_calm _).tame.after ?_ | with_reducible refine (State.commit_tame _).after ?_ | with_reducible refine (State.deadlines_calm _).tame.after ?_ | with_reducible refine ite_tame ?_ ?_ | split | simp only [↓State.kept_mk, State.kept_eta, ↓State.refill_kept, ↓State.snapshot_kept, ↓State.tickClose_kept] | with_reducible refine tame_mk ?_)

theorem State.dozeBoundary_tame (s : State) : Kept.Tame s.kept (State.dozeBoundary s).kept := by
  unfold State.dozeBoundary
  try dsimp only
  repeat' (first | with_reducible assumption | with_reducible exact Kept.Tame.refl _ | with_reducible refine (State.nextTick_tame _).after ?_ | with_reducible refine ite_tame ?_ ?_ | split | simp only [↓State.kept_mk, State.kept_eta, ↓State.declareIf_kept, ↓State.deliverAll_kept, ↓State.fawnTick_kept, ↓State.fclkFails_kept, ↓State.notice_kept, ↓State.thermalTick_kept, ↓State.wakeUp_kept] | with_reducible refine tame_mk ?_)

end Sys2Proof.Machine
end

