-- ==== Sys2Proof/Laws/Exec.lean ====
section
/-! SUPPORT. What each command leaves, once for each: most leave all of `State.kept`, those that change the structure keep it tame
(`Kept.Calm`, `Kept.Tame`). -/

set_option maxRecDepth 4000
set_option linter.all false

namespace Sys2Proof.Machine

theorem execPortRespTimeout_kept (port : BitVec 9) (s : State) : ∃ s₁, execPortRespTimeout port s = .next s₁ ∧ s₁.kept = s.kept := by
  refine ⟨_, rfl, ?_⟩
  repeat' (first | with_reducible rfl | with_reducible assumption | with_reducible refine ite_kept ?_ ?_ | split | simp only [↓apply_ite State.kept, ite_self, ↓State.kept_mk, State.kept_eta, implies_true, ↓State.portEvent_kept] | dsimp only)

theorem execPortStuckReady_kept (port : BitVec 9) (paused : Bool) (s : State) : ∃ s₁, execPortStuckReady port paused s = .next s₁ ∧ s₁.kept = s.kept := by
  refine ⟨_, rfl, ?_⟩
  repeat' (first | with_reducible rfl | with_reducible assumption | with_reducible refine ite_kept ?_ ?_ | split | simp only [↓apply_ite State.kept, ite_self, ↓State.kept_mk, State.kept_eta, implies_true, ↓State.isolate_kept] | dsimp only)

theorem execPortStuckValid_kept (port : BitVec 9) (s : State) : ∃ s₁, execPortStuckValid port s = .next s₁ ∧ s₁.kept = s.kept := by
  refine ⟨_, rfl, ?_⟩
  repeat' (first | with_reducible rfl | with_reducible assumption | with_reducible refine ite_kept ?_ ?_ | split | simp only [↓apply_ite State.kept, ite_self, ↓State.kept_mk, State.kept_eta, implies_true, ↓State.isolate_kept] | dsimp only)

theorem execPortKeepaliveLost_kept (port : BitVec 9) (s : State) : ∃ s₁, execPortKeepaliveLost port s = .next s₁ ∧ s₁.kept = s.kept := by
  refine ⟨_, rfl, ?_⟩
  repeat' (first | with_reducible rfl | with_reducible assumption | with_reducible refine ite_kept ?_ ?_ | split | simp only [↓apply_ite State.kept, ite_self, ↓State.kept_mk, State.kept_eta, implies_true, ↓State.isolate_kept, ↓State.setPort_kept] | dsimp only)

theorem execPortLeaveReset_kept (port : BitVec 9) (s : State) : ∃ s₁, execPortLeaveReset port s = .next s₁ ∧ s₁.kept = s.kept := by
  refine ⟨_, rfl, ?_⟩
  repeat' (first | with_reducible rfl | with_reducible assumption | with_reducible refine ite_kept ?_ ?_ | split | simp only [↓apply_ite State.kept, ite_self, ↓State.kept_mk, State.kept_eta, implies_true, ↓State.leaveReset_kept] | dsimp only)

theorem execPortReenable_kept (port : BitVec 9) (s : State) : ∃ s₁, execPortReenable port s = .next s₁ ∧ s₁.kept = s.kept := by
  refine ⟨_, rfl, ?_⟩
  repeat' (first | with_reducible rfl | with_reducible assumption | with_reducible refine ite_kept ?_ ?_ | split | simp only [↓apply_ite State.kept, ite_self, ↓State.kept_mk, State.kept_eta, implies_true, ↓State.reenablePort_kept] | dsimp only)

theorem execTagReuseHoldEnd_kept (port : BitVec 9) (s : State) : ∃ s₁, execTagReuseHoldEnd port s = .next s₁ ∧ s₁.kept = s.kept := by
  refine ⟨_, rfl, ?_⟩
  repeat' (first | with_reducible rfl | with_reducible assumption | with_reducible refine ite_kept ?_ ?_ | split | simp only [↓apply_ite State.kept, ite_self, ↓State.kept_mk, State.kept_eta, implies_true, ↓State.tagHoldEnd_kept] | dsimp only)

theorem execFactoryTest_calm (s : State) : ∃ s₁, execFactoryTest s = .next s₁ ∧ Kept.Calm s.kept s₁.kept := by
  refine ⟨_, rfl, ?_⟩
  repeat' (first | with_reducible assumption | with_reducible exact Kept.Calm.refl _ | with_reducible refine (State.testIr_calm _ _ _).after ?_ | with_reducible refine ite_calm ?_ ?_ | split | simp only [↓State.kept_mk, State.kept_eta] | dsimp only | with_reducible refine calm_mk ?_)

theorem execIdcode_calm (s : State) : ∃ s₁, execIdcode s = .next s₁ ∧ Kept.Calm s.kept s₁.kept := by
  refine ⟨_, rfl, ?_⟩
  repeat' (first | with_reducible assumption | with_reducible exact Kept.Calm.refl _ | with_reducible refine (State.testIr_calm _ _ _).after ?_ | with_reducible refine ite_calm ?_ ?_ | split | simp only [↓State.kept_mk, State.kept_eta] | dsimp only | with_reducible refine calm_mk ?_)

theorem execSamplePreload_calm (pins preload : List Bool) (s : State) : ∃ s₁, execSamplePreload pins preload s = .next s₁ ∧ Kept.Calm s.kept s₁.kept := by
  refine ⟨_, rfl, ?_⟩
  repeat' (first | with_reducible assumption | with_reducible exact Kept.Calm.refl _ | with_reducible refine (State.samplePins_calm _ _ _).after ?_ | with_reducible refine ite_calm ?_ ?_ | split | simp only [↓State.kept_mk, State.kept_eta] | dsimp only | with_reducible refine calm_mk ?_)

theorem execExtest_calm (s : State) : ∃ s₁, execExtest s = .next s₁ ∧ Kept.Calm s.kept s₁.kept := by
  refine ⟨_, rfl, ?_⟩
  repeat' (first | with_reducible assumption | with_reducible exact Kept.Calm.refl _ | with_reducible refine (State.driveBoundary_calm _).after ?_ | with_reducible refine ite_calm ?_ ?_ | split | simp only [↓State.kept_mk, State.kept_eta] | dsimp only | with_reducible refine calm_mk ?_)

theorem execIjtagAccess_calm (inst : BitVec 16) (write reveals : Bool) (data : Reg) (s : State) : ∃ s₁, execIjtagAccess inst write reveals data s = .next s₁ ∧ Kept.Calm s.kept s₁.kept := by
  refine ⟨_, rfl, ?_⟩
  repeat' (first | with_reducible assumption | with_reducible exact Kept.Calm.refl _ | with_reducible refine (State.instrument_calm _ _ _ _ _).after ?_ | with_reducible refine ite_calm ?_ ?_ | split | simp only [↓State.kept_mk, State.kept_eta] | dsimp only | with_reducible refine calm_mk ?_)

theorem execBypass_calm (code : BitVec 8) (s : State) : ∃ s₁, execBypass code s = .next s₁ ∧ Kept.Calm s.kept s₁.kept := by
  refine ⟨_, rfl, ?_⟩
  repeat' (first | with_reducible assumption | with_reducible exact Kept.Calm.refl _ | with_reducible refine (State.testIr_calm _ _ _).after ?_ | with_reducible refine ite_calm ?_ ?_ | split | simp only [↓State.kept_mk, State.kept_eta] | dsimp only | with_reducible refine calm_mk ?_)

theorem execMemoryRequestIssue_kept (p : BitVec 4) (s : State) : ∃ s₁, execMemoryRequestIssue p s = .next s₁ ∧ s₁.kept = s.kept := by
  refine ⟨_, rfl, ?_⟩
  repeat' (first | with_reducible rfl | with_reducible assumption | with_reducible refine ite_kept ?_ ?_ | split | simp only [↓apply_ite State.kept, ite_self, ↓State.kept_mk, State.kept_eta, implies_true, ↓State.issueNext_kept] | dsimp only)

theorem execMemoryReadReturn_kept (p : BitVec 4) (r : MpReturn) (s : State) : ∃ s₁, execMemoryReadReturn p r s = .next s₁ ∧ s₁.kept = s.kept := by
  refine ⟨_, rfl, ?_⟩
  repeat' (first | with_reducible rfl | with_reducible assumption | with_reducible refine (State.orLand_kept _ _ _ (fun s => ?_)).trans ?_ | with_reducible refine ite_kept ?_ ?_ | split | simp only [↓apply_ite State.kept, ite_self, ↓State.kept_mk, State.kept_eta, implies_true, ↓State.memReturn_kept, ↓State.orLand_kept] | dsimp only)

theorem execMemoryWriteAck_kept (p : BitVec 4) (tag : BitVec 8) (cparOk inGrant : Bool) (s : State) : ∃ s₁, execMemoryWriteAck p tag cparOk inGrant s = .next s₁ ∧ s₁.kept = s.kept := by
  refine ⟨_, rfl, ?_⟩
  repeat' (first | with_reducible rfl | with_reducible assumption | with_reducible refine (State.orLand_kept _ _ _ (fun s => ?_)).trans ?_ | with_reducible refine ite_kept ?_ ?_ | split | simp only [↓apply_ite State.kept, ite_self, ↓State.kept_mk, State.kept_eta, implies_true, ↓State.memAckd_kept, ↓State.orLand_kept] | dsimp only)

theorem execStripeLockGrant_kept (p : BitVec 4) (s : State) : ∃ s₁, execStripeLockGrant p s = .next s₁ ∧ s₁.kept = s.kept := by
  refine ⟨_, rfl, ?_⟩
  repeat' (first | with_reducible rfl | with_reducible assumption | with_reducible refine (State.unlessStopped_kept _ _ (fun s => ?_)).trans ?_ | with_reducible refine ite_kept ?_ ?_ | split | simp only [↓apply_ite State.kept, ite_self, ↓State.kept_mk, State.kept_eta, implies_true, ↓State.grantLocks_kept, ↓State.unlessStopped_kept] | dsimp only)

theorem execParityRewrite_kept (group : BitVec 16) (offset : BitVec 15) (s : State) : ∃ s₁, execParityRewrite group offset s = .next s₁ ∧ s₁.kept = s.kept := by
  refine ⟨_, rfl, ?_⟩
  repeat' (first | with_reducible rfl | with_reducible assumption | with_reducible refine (State.fresh_kept' (by assumption)).trans ?_ | with_reducible refine ite_kept ?_ ?_ | split | simp only [↓apply_ite State.kept, ite_self, ↓State.kept_mk, State.kept_eta, implies_true, ↓State.fresh_kept, ↓State.guardBegin_kept] | dsimp only)

theorem execMpTrainedFall_kept (p : BitVec 4) (s : State) : ∃ s₁, execMpTrainedFall p s = .next s₁ ∧ s₁.kept = s.kept := by
  refine ⟨_, rfl, ?_⟩
  repeat' (first | with_reducible rfl | with_reducible assumption | with_reducible refine ite_kept ?_ ?_ | split | simp only [↓apply_ite State.kept, ite_self, ↓State.kept_mk, State.kept_eta, implies_true, ↓State.trainedFall_kept] | dsimp only)

theorem execMpTrainedRise_kept (p : BitVec 4) (s : State) : ∃ s₁, execMpTrainedRise p s = .next s₁ ∧ s₁.kept = s.kept := by
  refine ⟨_, rfl, ?_⟩
  repeat' (first | with_reducible rfl | with_reducible assumption | with_reducible refine ite_kept ?_ ?_ | split | simp only [↓apply_ite State.kept, ite_self, ↓State.kept_mk, State.kept_eta, implies_true, ↓State.setMp_kept] | dsimp only)

theorem execMpTrainedLost_kept (p : BitVec 4) (s : State) : ∃ s₁, execMpTrainedLost p s = .next s₁ ∧ s₁.kept = s.kept := by
  refine ⟨_, rfl, ?_⟩
  repeat' (first | with_reducible rfl | with_reducible assumption | with_reducible refine ite_kept ?_ ?_ | split | simp only [↓apply_ite State.kept, ite_self, ↓State.kept_mk, State.kept_eta, implies_true, ↓State.isolate_kept] | dsimp only)

theorem execMpHealthyLost_kept (p : BitVec 4) (s : State) : ∃ s₁, execMpHealthyLost p s = .next s₁ ∧ s₁.kept = s.kept := by
  refine ⟨_, rfl, ?_⟩
  repeat' (first | with_reducible rfl | with_reducible assumption | with_reducible refine ite_kept ?_ ?_ | split | simp only [↓apply_ite State.kept, ite_self, ↓State.kept_mk, State.kept_eta, implies_true, ↓State.isolate_kept, ↓State.mpGap_kept, ↓State.setMp_kept] | dsimp only)

theorem execGrantAbove8_kept (p grant : BitVec 4) (s : State) : ∃ s₁, execGrantAbove8 p grant s = .next s₁ ∧ s₁.kept = s.kept := by
  refine ⟨_, rfl, ?_⟩
  repeat' (first | with_reducible rfl | with_reducible assumption | with_reducible refine ite_kept ?_ ?_ | split | simp only [↓apply_ite State.kept, ite_self, ↓State.kept_mk, State.kept_eta, implies_true, ↓State.driveGrant_kept] | dsimp only)

theorem execSnoopResponse_kept (port : BitVec 8) (r : SnpResp) (s : State) : ∃ s₁, execSnoopResponse port r s = .next s₁ ∧ s₁.kept = s.kept := by
  refine ⟨_, rfl, ?_⟩
  repeat' (first | with_reducible rfl | with_reducible assumption | with_reducible refine (State.orLand_kept _ _ _ (fun s => ?_)).trans ?_ | with_reducible refine ite_kept ?_ ?_ | split | simp only [↓apply_ite State.kept, ite_self, ↓State.kept_mk, State.kept_eta, implies_true, ↓State.orLand_kept, ↓State.srsp_kept] | dsimp only)

theorem execSnoopTimeout_kept (port : BitVec 8) (id : BitVec 10) (s : State) : ∃ s₁, execSnoopTimeout port id s = .next s₁ ∧ s₁.kept = s.kept := by
  refine ⟨_, rfl, ?_⟩
  repeat' (first | with_reducible rfl | with_reducible assumption | with_reducible refine ite_kept ?_ ?_ | split | simp only [↓apply_ite State.kept, ite_self, ↓State.kept_mk, State.kept_eta, implies_true, ↓State.snoopLate_kept] | dsimp only)

theorem execFlushDoneTimeout_kept (name port : BitVec 8) (s : State) : ∃ s₁, execFlushDoneTimeout name port s = .next s₁ ∧ s₁.kept = s.kept := by
  refine ⟨_, rfl, ?_⟩
  repeat' (first | with_reducible rfl | with_reducible assumption | with_reducible refine ite_kept ?_ ?_ | split | simp only [↓apply_ite State.kept, ite_self, ↓State.kept_mk, State.kept_eta, implies_true, ↓State.flushLate_kept] | dsimp only)

theorem execSfUncorrectable_kept (home : BitVec 8) (fset : BitVec 13) (s : State) : ∃ s₁, execSfUncorrectable home fset s = .next s₁ ∧ s₁.kept = s.kept := by
  refine ⟨_, rfl, ?_⟩
  repeat' (first | with_reducible rfl | with_reducible assumption | with_reducible refine ite_kept ?_ ?_ | split | simp only [↓apply_ite State.kept, ite_self, ↓State.kept_mk, State.kept_eta, implies_true, ↓State.filterLost_kept] | dsimp only)

theorem execDataArrayError_kept (home : BitVec 8) (set : BitVec 11) (way : BitVec 4) (tagError mirrorBad : Bool) (s : State) : ∃ s₁, execDataArrayError home set way tagError mirrorBad s = .next s₁ ∧ s₁.kept = s.kept := by
  refine ⟨_, rfl, ?_⟩
  repeat' (first | with_reducible rfl | with_reducible assumption | with_reducible refine ite_kept ?_ ?_ | split | simp only [↓apply_ite State.kept, ite_self, ↓State.kept_mk, State.kept_eta, implies_true, ↓State.arrayError_kept] | dsimp only)

theorem execReservationExpiry_kept (home : BitVec 8) (origin : BitVec 9) (s : State) : ∃ s₁, execReservationExpiry home origin s = .next s₁ ∧ s₁.kept = s.kept := by
  refine ⟨_, rfl, ?_⟩
  repeat' (first | with_reducible rfl | with_reducible assumption | with_reducible refine ite_kept ?_ ?_ | split | simp only [↓apply_ite State.kept, ite_self, ↓State.kept_mk, State.kept_eta, implies_true, ↓State.reservationExpire_kept] | dsimp only)

theorem execRdShared_kept (port : BitVec 8) (r : TpReq) (s : State) : ∃ s₁, execRdShared port r s = .next s₁ ∧ s₁.kept = s.kept := by
  refine ⟨_, rfl, ?_⟩
  repeat' (first | with_reducible rfl | with_reducible assumption | with_reducible refine (State.tileReq_kept _ _ _ _ _ _ _ (fun s a0 => ?_)).trans ?_ | with_reducible refine ite_kept ?_ ?_ | split | simp only [↓apply_ite State.kept, ite_self, ↓State.kept_mk, State.kept_eta, implies_true, ↓State.serveRead_kept, ↓State.tileReq_kept] | dsimp only)

theorem execRdUnique_kept (port : BitVec 8) (r : TpReq) (s : State) : ∃ s₁, execRdUnique port r s = .next s₁ ∧ s₁.kept = s.kept := by
  refine ⟨_, rfl, ?_⟩
  repeat' (first | with_reducible rfl | with_reducible assumption | with_reducible refine (State.tileReq_kept _ _ _ _ _ _ _ (fun s a0 => ?_)).trans ?_ | with_reducible refine ite_kept ?_ ?_ | split | simp only [↓apply_ite State.kept, ite_self, ↓State.kept_mk, State.kept_eta, implies_true, ↓State.serveRead_kept, ↓State.tileReq_kept] | dsimp only)

theorem execRdOnce_kept (port : BitVec 8) (r : TpReq) (s : State) : ∃ s₁, execRdOnce port r s = .next s₁ ∧ s₁.kept = s.kept := by
  refine ⟨_, rfl, ?_⟩
  repeat' (first | with_reducible rfl | with_reducible assumption | with_reducible refine (State.tileReq_kept _ _ _ _ _ _ _ (fun s a0 => ?_)).trans ?_ | with_reducible refine ite_kept ?_ ?_ | split | simp only [↓apply_ite State.kept, ite_self, ↓State.kept_mk, State.kept_eta, implies_true, ↓State.serveRead_kept, ↓State.tileReq_kept] | dsimp only)

theorem execRdSeq_kept (port : BitVec 8) (r : TpReq) (s : State) : ∃ s₁, execRdSeq port r s = .next s₁ ∧ s₁.kept = s.kept := by
  refine ⟨_, rfl, ?_⟩
  repeat' (first | with_reducible rfl | with_reducible assumption | with_reducible refine (State.tileReq_kept _ _ _ _ _ _ _ (fun s a0 => ?_)).trans ?_ | with_reducible refine ite_kept ?_ ?_ | split | simp only [↓apply_ite State.kept, ite_self, ↓State.kept_mk, State.kept_eta, implies_true, ↓State.serveSeq_kept, ↓State.tileReq_kept] | dsimp only)

theorem execEvictDirty_kept (port : BitVec 8) (r : TpReq) (s : State) : ∃ s₁, execEvictDirty port r s = .next s₁ ∧ s₁.kept = s.kept := by
  refine ⟨_, rfl, ?_⟩
  repeat' (first | with_reducible rfl | with_reducible assumption | with_reducible refine (State.orLand_kept _ _ _ (fun s => ?_)).trans ?_ | with_reducible refine ite_kept ?_ ?_ | split | simp only [↓apply_ite State.kept, ite_self, ↓State.kept_mk, State.kept_eta, implies_true, ↓State.evictDirtyBeat_kept, ↓State.orLand_kept] | dsimp only)

theorem execEvictClean_kept (port : BitVec 8) (r : TpReq) (s : State) : ∃ s₁, execEvictClean port r s = .next s₁ ∧ s₁.kept = s.kept := by
  refine ⟨_, rfl, ?_⟩
  repeat' (first | with_reducible rfl | with_reducible assumption | with_reducible refine (State.orLand_kept _ _ _ (fun s => ?_)).trans ?_ | with_reducible refine ite_kept ?_ ?_ | split | simp only [↓apply_ite State.kept, ite_self, ↓State.kept_mk, State.kept_eta, implies_true, ↓State.evictCleanReq_kept, ↓State.orLand_kept] | dsimp only)

theorem execWrSector_kept (port : BitVec 8) (r : TpReq) (s : State) : ∃ s₁, execWrSector port r s = .next s₁ ∧ s₁.kept = s.kept := by
  refine ⟨_, rfl, ?_⟩
  repeat' (first | with_reducible rfl | with_reducible assumption | with_reducible refine (State.tileReq_kept _ _ _ _ _ _ _ (fun s a0 => ?_)).trans ?_ | with_reducible refine ite_kept ?_ ?_ | split | simp only [↓apply_ite State.kept, ite_self, ↓State.kept_mk, State.kept_eta, implies_true, ↓State.serveWrite_kept, ↓State.tileReq_kept] | dsimp only)

theorem execAtomicHome_kept (port : BitVec 8) (r : TpReq) (s : State) : ∃ s₁, execAtomicHome port r s = .next s₁ ∧ s₁.kept = s.kept := by
  refine ⟨_, rfl, ?_⟩
  repeat' (first | with_reducible rfl | with_reducible assumption | with_reducible refine (State.tileReq_kept _ _ _ _ _ _ _ (fun s a0 => ?_)).trans ?_ | with_reducible refine ite_kept ?_ ?_ | split | simp only [↓apply_ite State.kept, ite_self, ↓State.kept_mk, State.kept_eta, implies_true, ↓State.serveAtomic_kept, ↓State.tileReq_kept] | dsimp only)

theorem execAtomicMem_kept (port : BitVec 8) (r : TpReq) (s : State) : ∃ s₁, execAtomicMem port r s = .next s₁ ∧ s₁.kept = s.kept := by
  refine ⟨_, rfl, ?_⟩
  repeat' (first | with_reducible rfl | with_reducible assumption | with_reducible refine (State.tileReq_kept _ _ _ _ _ _ _ (fun s a0 => ?_)).trans ?_ | with_reducible refine ite_kept ?_ ?_ | split | simp only [↓apply_ite State.kept, ite_self, ↓State.kept_mk, State.kept_eta, implies_true, ↓State.serveAtomic_kept, ↓State.tileReq_kept] | dsimp only)

theorem execFlushDone_kept (port : BitVec 8) (r : TpReq) (s : State) : ∃ s₁, execFlushDone port r s = .next s₁ ∧ s₁.kept = s.kept := by
  refine ⟨_, rfl, ?_⟩
  repeat' (first | with_reducible rfl | with_reducible assumption | with_reducible refine (State.orLand_kept _ _ _ (fun s => ?_)).trans ?_ | with_reducible refine ite_kept ?_ ?_ | split | simp only [↓apply_ite State.kept, ite_self, ↓State.kept_mk, State.kept_eta, implies_true, ↓State.flushDoneReq_kept, ↓State.orLand_kept] | dsimp only)

theorem execReduceOpen_kept (port : BitVec 8) (r : TpReq) (s : State) : ∃ s₁, execReduceOpen port r s = .next s₁ ∧ s₁.kept = s.kept := by
  refine ⟨_, rfl, ?_⟩
  repeat' (first | with_reducible rfl | with_reducible assumption | with_reducible refine ite_kept ?_ ?_ | split | simp only [↓apply_ite State.kept, ite_self, ↓State.kept_mk, State.kept_eta, implies_true, ↓State.reduceWr_kept] | dsimp only)

theorem execReduceClose_kept (port : BitVec 8) (r : TpReq) (s : State) : ∃ s₁, execReduceClose port r s = .next s₁ ∧ s₁.kept = s.kept := by
  refine ⟨_, rfl, ?_⟩
  repeat' (first | with_reducible rfl | with_reducible assumption | with_reducible refine ite_kept ?_ ?_ | split | simp only [↓apply_ite State.kept, ite_self, ↓State.kept_mk, State.kept_eta, implies_true, ↓State.reduceWr_kept] | dsimp only)

theorem execReduceContribution_kept (port : BitVec 8) (r : TpReq) (s : State) : ∃ s₁, execReduceContribution port r s = .next s₁ ∧ s₁.kept = s.kept := by
  refine ⟨_, rfl, ?_⟩
  repeat' (first | with_reducible rfl | with_reducible assumption | with_reducible refine ite_kept ?_ ?_ | split | simp only [↓apply_ite State.kept, ite_self, ↓State.kept_mk, State.kept_eta, implies_true, ↓State.reduceWr_kept] | dsimp only)

theorem execMergeForward_kept (die : BitVec 3) (i : BitVec 8) (s : State) : ∃ s₁, execMergeForward die i s = .next s₁ ∧ s₁.kept = s.kept := by
  refine ⟨_, rfl, ?_⟩
  repeat' (first | with_reducible rfl | with_reducible assumption | with_reducible refine (State.unlessStopped_kept _ _ (fun s => ?_)).trans ?_ | with_reducible refine ite_kept ?_ ?_ | split | simp only [↓apply_ite State.kept, ite_self, ↓State.kept_mk, State.kept_eta, implies_true, ↓State.mergeForward_kept, ↓State.unlessStopped_kept] | dsimp only)

theorem execWindowOpened_kept (w : BitVec 11) (s : State) : ∃ s₁, execWindowOpened w s = .next s₁ ∧ s₁.kept = s.kept := by
  refine ⟨_, rfl, ?_⟩
  repeat' (first | with_reducible rfl | with_reducible assumption | with_reducible refine (State.unlessStopped_kept _ _ (fun s => ?_)).trans ?_ | with_reducible refine ite_kept ?_ ?_ | split | simp only [↓apply_ite State.kept, ite_self, ↓State.kept_mk, State.kept_eta, implies_true, ↓State.unlessStopped_kept, ↓State.windowOpened_kept] | dsimp only)

theorem execWindowConvert_kept (w : BitVec 11) (s : State) : ∃ s₁, execWindowConvert w s = .next s₁ ∧ s₁.kept = s.kept := by
  refine ⟨_, rfl, ?_⟩
  repeat' (first | with_reducible rfl | with_reducible assumption | with_reducible refine (State.unlessStopped_kept _ _ (fun s => ?_)).trans ?_ | with_reducible refine ite_kept ?_ ?_ | split | simp only [↓apply_ite State.kept, ite_self, ↓State.kept_mk, State.kept_eta, implies_true, ↓State.unlessStopped_kept, ↓State.windowConvert_kept] | dsimp only)

theorem execWindowComplete_kept (w : BitVec 11) (s : State) : ∃ s₁, execWindowComplete w s = .next s₁ ∧ s₁.kept = s.kept := by
  refine ⟨_, rfl, ?_⟩
  repeat' (first | with_reducible rfl | with_reducible assumption | with_reducible refine (State.unlessStopped_kept _ _ (fun s => ?_)).trans ?_ | with_reducible refine ite_kept ?_ ?_ | split | simp only [↓apply_ite State.kept, ite_self, ↓State.kept_mk, State.kept_eta, implies_true, ↓State.unlessStopped_kept, ↓State.windowComplete_kept] | dsimp only)

theorem execWindowDeadline_kept (w : BitVec 11) (s : State) : ∃ s₁, execWindowDeadline w s = .next s₁ ∧ s₁.kept = s.kept := by
  refine ⟨_, rfl, ?_⟩
  repeat' (first | with_reducible rfl | with_reducible assumption | with_reducible refine ite_kept ?_ ?_ | split | simp only [↓apply_ite State.kept, ite_self, ↓State.kept_mk, State.kept_eta, implies_true, ↓State.closeWindow_kept] | dsimp only)

theorem execJobSubmit_kept (port : BitVec 8) (r : TpReq) (s : State) : ∃ s₁, execJobSubmit port r s = .next s₁ ∧ s₁.kept = s.kept := by
  refine ⟨_, rfl, ?_⟩
  repeat' (first | with_reducible rfl | with_reducible assumption | with_reducible refine (State.tileReq_kept _ _ _ _ _ _ _ (fun s a0 => ?_)).trans ?_ | with_reducible refine ite_kept ?_ ?_ | split | simp only [↓apply_ite State.kept, ite_self, ↓State.kept_mk, State.kept_eta, implies_true, ↓State.tileReq_kept, ↓State.tileSubmit_kept] | dsimp only)

theorem execJobStart_kept (id : Nat) (s : State) : ∃ s₁, execJobStart id s = .next s₁ ∧ s₁.kept = s.kept := by
  refine ⟨_, rfl, ?_⟩
  repeat' (first | with_reducible rfl | with_reducible assumption | with_reducible refine (State.unlessStopped_kept _ _ (fun s => ?_)).trans ?_ | with_reducible refine ite_kept ?_ ?_ | split | simp only [↓apply_ite State.kept, ite_self, ↓State.kept_mk, State.kept_eta, implies_true, ↓State.jobStart_kept, ↓State.unlessStopped_kept] | dsimp only)

theorem execJobPiece_kept (e : BitVec 5) (pick : Nat) (s : State) : ∃ s₁, execJobPiece e pick s = .next s₁ ∧ s₁.kept = s.kept := by
  refine ⟨_, rfl, ?_⟩
  repeat' (first | with_reducible rfl | with_reducible assumption | with_reducible refine ite_kept ?_ ?_ | split | simp only [↓apply_ite State.kept, ite_self, ↓State.kept_mk, State.kept_eta, implies_true, ↓State.jobRun_kept] | dsimp only)

theorem execCopy_kept (id : Nat) (s : State) : ∃ s₁, execCopy id s = .next s₁ ∧ s₁.kept = s.kept := by
  refine ⟨_, rfl, ?_⟩
  repeat' (first | with_reducible rfl | with_reducible assumption | with_reducible refine ite_kept ?_ ?_ | split | simp only [↓apply_ite State.kept, ite_self, ↓State.kept_mk, State.kept_eta, implies_true, ↓State.jobOfType_kept] | dsimp only)

theorem execTranscodeCopy_kept (id : Nat) (s : State) : ∃ s₁, execTranscodeCopy id s = .next s₁ ∧ s₁.kept = s.kept := by
  refine ⟨_, rfl, ?_⟩
  repeat' (first | with_reducible rfl | with_reducible assumption | with_reducible refine ite_kept ?_ ?_ | split | simp only [↓apply_ite State.kept, ite_self, ↓State.kept_mk, State.kept_eta, implies_true, ↓State.jobOfType_kept] | dsimp only)

theorem execGather_kept (id : Nat) (s : State) : ∃ s₁, execGather id s = .next s₁ ∧ s₁.kept = s.kept := by
  refine ⟨_, rfl, ?_⟩
  repeat' (first | with_reducible rfl | with_reducible assumption | with_reducible refine ite_kept ?_ ?_ | split | simp only [↓apply_ite State.kept, ite_self, ↓State.kept_mk, State.kept_eta, implies_true, ↓State.jobOfType_kept] | dsimp only)

theorem execScatterReduce_kept (id : Nat) (s : State) : ∃ s₁, execScatterReduce id s = .next s₁ ∧ s₁.kept = s.kept := by
  refine ⟨_, rfl, ?_⟩
  repeat' (first | with_reducible rfl | with_reducible assumption | with_reducible refine ite_kept ?_ ?_ | split | simp only [↓apply_ite State.kept, ite_self, ↓State.kept_mk, State.kept_eta, implies_true, ↓State.jobOfType_kept] | dsimp only)

theorem execEmbedBag_kept (id : Nat) (s : State) : ∃ s₁, execEmbedBag id s = .next s₁ ∧ s₁.kept = s.kept := by
  refine ⟨_, rfl, ?_⟩
  repeat' (first | with_reducible rfl | with_reducible assumption | with_reducible refine ite_kept ?_ ?_ | split | simp only [↓apply_ite State.kept, ite_self, ↓State.kept_mk, State.kept_eta, implies_true, ↓State.jobOfType_kept] | dsimp only)

theorem execKvAppend_kept (id : Nat) (s : State) : ∃ s₁, execKvAppend id s = .next s₁ ∧ s₁.kept = s.kept := by
  refine ⟨_, rfl, ?_⟩
  repeat' (first | with_reducible rfl | with_reducible assumption | with_reducible refine ite_kept ?_ ?_ | split | simp only [↓apply_ite State.kept, ite_self, ↓State.kept_mk, State.kept_eta, implies_true, ↓State.jobOfType_kept] | dsimp only)

theorem execKvGather_kept (id : Nat) (s : State) : ∃ s₁, execKvGather id s = .next s₁ ∧ s₁.kept = s.kept := by
  refine ⟨_, rfl, ?_⟩
  repeat' (first | with_reducible rfl | with_reducible assumption | with_reducible refine ite_kept ?_ ?_ | split | simp only [↓apply_ite State.kept, ite_self, ↓State.kept_mk, State.kept_eta, implies_true, ↓State.jobOfType_kept] | dsimp only)

theorem execKvAge_kept (id : Nat) (s : State) : ∃ s₁, execKvAge id s = .next s₁ ∧ s₁.kept = s.kept := by
  refine ⟨_, rfl, ?_⟩
  repeat' (first | with_reducible rfl | with_reducible assumption | with_reducible refine ite_kept ?_ ?_ | split | simp only [↓apply_ite State.kept, ite_self, ↓State.kept_mk, State.kept_eta, implies_true, ↓State.jobOfType_kept] | dsimp only)

theorem execKvFork_kept (id : Nat) (s : State) : ∃ s₁, execKvFork id s = .next s₁ ∧ s₁.kept = s.kept := by
  refine ⟨_, rfl, ?_⟩
  repeat' (first | with_reducible rfl | with_reducible assumption | with_reducible refine ite_kept ?_ ?_ | split | simp only [↓apply_ite State.kept, ite_self, ↓State.kept_mk, State.kept_eta, implies_true, ↓State.jobOfType_kept] | dsimp only)

theorem execKvTruncate_kept (id : Nat) (s : State) : ∃ s₁, execKvTruncate id s = .next s₁ ∧ s₁.kept = s.kept := by
  refine ⟨_, rfl, ?_⟩
  repeat' (first | with_reducible rfl | with_reducible assumption | with_reducible refine ite_kept ?_ ?_ | split | simp only [↓apply_ite State.kept, ite_self, ↓State.kept_mk, State.kept_eta, implies_true, ↓State.jobOfType_kept] | dsimp only)

theorem execRekeyCopy_kept (id : Nat) (s : State) : ∃ s₁, execRekeyCopy id s = .next s₁ ∧ s₁.kept = s.kept := by
  refine ⟨_, rfl, ?_⟩
  repeat' (first | with_reducible rfl | with_reducible assumption | with_reducible refine ite_kept ?_ ?_ | split | simp only [↓apply_ite State.kept, ite_self, ↓State.kept_mk, State.kept_eta, implies_true, ↓State.jobOfType_kept] | dsimp only)

theorem execZero_kept (id : Nat) (s : State) : ∃ s₁, execZero id s = .next s₁ ∧ s₁.kept = s.kept := by
  refine ⟨_, rfl, ?_⟩
  repeat' (first | with_reducible rfl | with_reducible assumption | with_reducible refine ite_kept ?_ ?_ | split | simp only [↓apply_ite State.kept, ite_self, ↓State.kept_mk, State.kept_eta, implies_true, ↓State.jobOfType_kept] | dsimp only)

theorem execScrub_kept (id : Nat) (s : State) : ∃ s₁, execScrub id s = .next s₁ ∧ s₁.kept = s.kept := by
  refine ⟨_, rfl, ?_⟩
  repeat' (first | with_reducible rfl | with_reducible assumption | with_reducible refine ite_kept ?_ ?_ | split | simp only [↓apply_ite State.kept, ite_self, ↓State.kept_mk, State.kept_eta, implies_true, ↓State.jobOfType_kept] | dsimp only)

theorem execDirtyHarvest_kept (id : Nat) (s : State) : ∃ s₁, execDirtyHarvest id s = .next s₁ ∧ s₁.kept = s.kept := by
  refine ⟨_, rfl, ?_⟩
  repeat' (first | with_reducible rfl | with_reducible assumption | with_reducible refine ite_kept ?_ ?_ | split | simp only [↓apply_ite State.kept, ite_self, ↓State.kept_mk, State.kept_eta, implies_true, ↓State.jobOfType_kept] | dsimp only)

theorem execJobComplete_kept (id : Nat) (s : State) : ∃ s₁, execJobComplete id s = .next s₁ ∧ s₁.kept = s.kept := by
  refine ⟨_, rfl, ?_⟩
  repeat' (first | with_reducible rfl | with_reducible assumption | with_reducible refine (State.unlessStopped_kept _ _ (fun s => ?_)).trans ?_ | with_reducible refine ite_kept ?_ ?_ | split | simp only [↓apply_ite State.kept, ite_self, ↓State.kept_mk, State.kept_eta, implies_true, ↓State.jobComplete_kept, ↓State.unlessStopped_kept] | dsimp only)

theorem execPageWaitTimeout_kept (id : Nat) (s : State) : ∃ s₁, execPageWaitTimeout id s = .next s₁ ∧ s₁.kept = s.kept := by
  refine ⟨_, rfl, ?_⟩
  repeat' (first | with_reducible rfl | with_reducible assumption | with_reducible refine ite_kept ?_ ?_ | split | simp only [↓apply_ite State.kept, ite_self, ↓State.kept_mk, State.kept_eta, implies_true, ↓State.pageTimeout_kept] | dsimp only)

theorem execSeqOpen_kept (sl : BitVec 7) (s : State) : ∃ s₁, execSeqOpen sl s = .next s₁ ∧ s₁.kept = s.kept := by
  refine ⟨_, rfl, ?_⟩
  repeat' (first | with_reducible rfl | with_reducible assumption | with_reducible refine (State.mgWrite_kept _ _ _ (fun s => ?_)).trans ?_ | with_reducible refine ite_kept ?_ ?_ | split | simp only [↓apply_ite State.kept, ite_self, ↓State.kept_mk, State.kept_eta, implies_true, ↓State.mgWrite_kept, ↓State.seqCmd_kept] | dsimp only)

theorem execSeqWindowOpened_kept (sl : BitVec 7) (s : State) : ∃ s₁, execSeqWindowOpened sl s = .next s₁ ∧ s₁.kept = s.kept := by
  refine ⟨_, rfl, ?_⟩
  repeat' (first | with_reducible rfl | with_reducible assumption | with_reducible refine (State.unlessStopped_kept _ _ (fun s => ?_)).trans ?_ | with_reducible refine ite_kept ?_ ?_ | split | simp only [↓apply_ite State.kept, ite_self, ↓State.kept_mk, State.kept_eta, implies_true, ↓State.seqOpened_kept, ↓State.unlessStopped_kept] | dsimp only)

theorem execSeqClose_kept (sl : BitVec 7) (s : State) : ∃ s₁, execSeqClose sl s = .next s₁ ∧ s₁.kept = s.kept := by
  refine ⟨_, rfl, ?_⟩
  repeat' (first | with_reducible rfl | with_reducible assumption | with_reducible refine (State.mgWrite_kept _ _ _ (fun s => ?_)).trans ?_ | with_reducible refine ite_kept ?_ ?_ | split | simp only [↓apply_ite State.kept, ite_self, ↓State.kept_mk, State.kept_eta, implies_true, ↓State.mgWrite_kept, ↓State.seqCmd_kept] | dsimp only)

theorem execCtxCreate_kept (f : BitVec 12) (tag : BitVec 10) (s : State) : ∃ s₁, execCtxCreate f tag s = .next s₁ ∧ s₁.kept = s.kept := by
  refine ⟨_, rfl, ?_⟩
  repeat' (first | with_reducible rfl | with_reducible assumption | with_reducible refine (State.ctxCreate_kept' (by assumption)).trans ?_ | with_reducible refine (State.hostCmd_kept _ _ _ _ _ (fun s => ?_)).trans ?_ | with_reducible refine ite_kept ?_ ?_ | split | simp only [↓apply_ite State.kept, ite_self, ↓State.kept_mk, State.kept_eta, implies_true, ↓State.ctxCmd_kept, ↓State.ctxCreate_kept, ↓State.hostCmd_kept] | dsimp only)

theorem execCtxLoad_kept (f : BitVec 12) (tag : BitVec 10) (s : State) : ∃ s₁, execCtxLoad f tag s = .next s₁ ∧ s₁.kept = s.kept := by
  refine ⟨_, rfl, ?_⟩
  repeat' (first | with_reducible rfl | with_reducible assumption | with_reducible refine (State.ctxLoad_kept' (by assumption)).trans ?_ | with_reducible refine (State.hostCmd_kept _ _ _ _ _ (fun s => ?_)).trans ?_ | with_reducible refine ite_kept ?_ ?_ | split | simp only [↓apply_ite State.kept, ite_self, ↓State.kept_mk, State.kept_eta, implies_true, ↓State.ctxCmd_kept, ↓State.ctxLoad_kept, ↓State.hostCmd_kept] | dsimp only)

theorem execCtxUnload_kept (f : BitVec 12) (tag : BitVec 10) (s : State) : ∃ s₁, execCtxUnload f tag s = .next s₁ ∧ s₁.kept = s.kept := by
  refine ⟨_, rfl, ?_⟩
  repeat' (first | with_reducible rfl | with_reducible assumption | with_reducible refine (State.hostCmd_kept _ _ _ _ _ (fun s => ?_)).trans ?_ | with_reducible refine ite_kept ?_ ?_ | split | simp only [↓apply_ite State.kept, ite_self, ↓State.kept_mk, State.kept_eta, implies_true, ↓State.ctxCmd_kept, ↓State.hostCmd_kept] | dsimp only)

theorem execCtxAbandon_kept (f : BitVec 12) (tag : BitVec 10) (s : State) : ∃ s₁, execCtxAbandon f tag s = .next s₁ ∧ s₁.kept = s.kept := by
  refine ⟨_, rfl, ?_⟩
  repeat' (first | with_reducible rfl | with_reducible assumption | with_reducible refine (State.hostCmd_kept _ _ _ _ _ (fun s => ?_)).trans ?_ | with_reducible refine ite_kept ?_ ?_ | split | simp only [↓apply_ite State.kept, ite_self, ↓State.kept_mk, State.kept_eta, implies_true, ↓State.ctxCmd_kept, ↓State.hostCmd_kept] | dsimp only)

theorem execCtxDestroy_kept (f : BitVec 12) (tag : BitVec 10) (s : State) : ∃ s₁, execCtxDestroy f tag s = .next s₁ ∧ s₁.kept = s.kept := by
  refine ⟨_, rfl, ?_⟩
  repeat' (first | with_reducible rfl | with_reducible assumption | with_reducible refine (State.hostCmd_kept _ _ _ _ _ (fun s => ?_)).trans ?_ | with_reducible refine ite_kept ?_ ?_ | split | simp only [↓apply_ite State.kept, ite_self, ↓State.kept_mk, State.kept_eta, implies_true, ↓State.ctxCmd_kept, ↓State.hostCmd_kept] | dsimp only)

theorem execSetKey_kept (f : BitVec 12) (tag : BitVec 10) (s : State) : ∃ s₁, execSetKey f tag s = .next s₁ ∧ s₁.kept = s.kept := by
  refine ⟨_, rfl, ?_⟩
  repeat' (first | with_reducible rfl | with_reducible assumption | with_reducible refine (State.hostCmd_kept _ _ _ _ _ (fun s => ?_)).trans ?_ | with_reducible refine ite_kept ?_ ?_ | split | simp only [↓apply_ite State.kept, ite_self, ↓State.kept_mk, State.kept_eta, implies_true, ↓State.ctxCmd_kept, ↓State.hostCmd_kept, ↓State.setKey_kept] | dsimp only)

theorem execObjCreate_kept (f : BitVec 12) (tag : BitVec 10) (s : State) : ∃ s₁, execObjCreate f tag s = .next s₁ ∧ s₁.kept = s.kept := by
  refine ⟨_, rfl, ?_⟩
  repeat' (first | with_reducible rfl | with_reducible assumption | with_reducible refine (State.objCreate_kept' (by assumption)).trans ?_ | with_reducible refine (State.hostCmd_kept _ _ _ _ _ (fun s => ?_)).trans ?_ | with_reducible refine ite_kept ?_ ?_ | split | simp only [↓apply_ite State.kept, ite_self, ↓State.kept_mk, State.kept_eta, implies_true, ↓State.hostCmd_kept, ↓State.objCmd_kept, ↓State.objCreate_kept] | dsimp only)

theorem execObjFree_kept (f : BitVec 12) (tag : BitVec 10) (object : BitVec 22) (gen : BitVec 16) (s : State) : ∃ s₁, execObjFree f tag object gen s = .next s₁ ∧ s₁.kept = s.kept := by
  refine ⟨_, rfl, ?_⟩
  repeat' (first | with_reducible rfl | with_reducible assumption | with_reducible refine (State.hostCmd_kept _ _ _ _ _ (fun s => ?_)).trans ?_ | with_reducible refine ite_kept ?_ ?_ | split | simp only [↓apply_ite State.kept, ite_self, ↓State.kept_mk, State.kept_eta, implies_true, ↓State.hostCmd_kept, ↓State.objCmd_kept] | dsimp only)

theorem execObjectDrained_calm (object : BitVec 22) (s : State) : ∃ s₁, execObjectDrained object s = .next s₁ ∧ Kept.Calm s.kept s₁.kept := by
  refine ⟨_, rfl, ?_⟩
  repeat' (first | with_reducible assumption | with_reducible exact Kept.Calm.refl _ | with_reducible refine (State.objDrained_calm _ _).after ?_ | with_reducible refine ite_calm ?_ ?_ | split | simp only [↓State.kept_mk, State.kept_eta] | dsimp only | with_reducible refine calm_mk ?_)

theorem execObjDrainedRead_kept (f : BitVec 12) (tag : BitVec 10) (s : State) : ∃ s₁, execObjDrainedRead f tag s = .next s₁ ∧ s₁.kept = s.kept := by
  refine ⟨_, rfl, ?_⟩
  repeat' (first | with_reducible rfl | with_reducible assumption | with_reducible refine (State.hostCmd_kept _ _ _ _ _ (fun s => ?_)).trans ?_ | with_reducible refine ite_kept ?_ ?_ | split | simp only [↓apply_ite State.kept, ite_self, ↓State.kept_mk, State.kept_eta, implies_true, ↓State.drainedRsp_kept, ↓State.hostCmd_kept] | dsimp only)

theorem execKfenceArm_kept (f : BitVec 12) (tag : BitVec 10) (c : BitVec 7) (fence : BitVec 20) (s : State) : ∃ s₁, execKfenceArm f tag c fence s = .next s₁ ∧ s₁.kept = s.kept := by
  refine ⟨_, rfl, ?_⟩
  repeat' (first | with_reducible rfl | with_reducible assumption | with_reducible refine (State.hostCmd_kept _ _ _ _ _ (fun s => ?_)).trans ?_ | with_reducible refine ite_kept ?_ ?_ | split | simp only [↓apply_ite State.kept, ite_self, ↓State.kept_mk, State.kept_eta, implies_true, ↓State.hostCmd_kept, ↓State.kfenceArm_kept] | dsimp only)

theorem execCtxFpageCmd_kept (cmd : Reg) (s : State) : ∃ s₁, execCtxFpageCmd cmd s = .next s₁ ∧ s₁.kept = s.kept := by
  refine ⟨_, rfl, ?_⟩
  repeat' (first | with_reducible rfl | with_reducible assumption | with_reducible refine (State.mgWrite_kept _ _ _ (fun s => ?_)).trans ?_ | with_reducible refine ite_kept ?_ ?_ | split | simp only [↓apply_ite State.kept, ite_self, ↓State.kept_mk, State.kept_eta, implies_true, ↓State.fpageCmd_kept, ↓State.mgWrite_kept] | dsimp only)

theorem execFenceRecordRepair_kept (i : BitVec 20) (s : State) : ∃ s₁, execFenceRecordRepair i s = .next s₁ ∧ s₁.kept = s.kept := by
  refine ⟨_, rfl, ?_⟩
  repeat' (first | with_reducible rfl | with_reducible assumption | with_reducible refine ite_kept ?_ ?_ | split | simp only [↓apply_ite State.kept, ite_self, ↓State.kept_mk, State.kept_eta, implies_true, ↓State.fenceRepair_kept] | dsimp only)

theorem execUsageQuery_kept (f : BitVec 12) (tag : BitVec 10) (ctx : BitVec 16) (s : State) : ∃ s₁, execUsageQuery f tag ctx s = .next s₁ ∧ s₁.kept = s.kept := by
  refine ⟨_, rfl, ?_⟩
  repeat' (first | with_reducible rfl | with_reducible assumption | with_reducible refine (State.hostCmd_kept _ _ _ _ _ (fun s => ?_)).trans ?_ | with_reducible refine ite_kept ?_ ?_ | split | simp only [↓apply_ite State.kept, ite_self, ↓State.kept_mk, State.kept_eta, implies_true, ↓State.hostCmd_kept, ↓State.usageReq_kept] | dsimp only)

theorem execKbStart_kept (k : KbReq) (s : State) : ∃ s₁, execKbStart k s = .next s₁ ∧ s₁.kept = s.kept := by
  refine ⟨_, rfl, ?_⟩
  repeat' (first | with_reducible rfl | with_reducible assumption | with_reducible refine (State.kbEnter_kept' (by assumption)).trans ?_ | with_reducible refine ite_kept ?_ ?_ | split | simp only [↓apply_ite State.kept, ite_self, ↓State.kept_mk, State.kept_eta, implies_true, ↓State.kbEnter_kept, ↓State.kbStart_kept] | dsimp only)

theorem execKbEnd_kept (k : KbReq) (s : State) : ∃ s₁, execKbEnd k s = .next s₁ ∧ s₁.kept = s.kept := by
  refine ⟨_, rfl, ?_⟩
  repeat' (first | with_reducible rfl | with_reducible assumption | with_reducible refine (State.kbEnter_kept' (by assumption)).trans ?_ | with_reducible refine ite_kept ?_ ?_ | split | simp only [↓apply_ite State.kept, ite_self, ↓State.kept_mk, State.kept_eta, implies_true, ↓State.kbEnd_kept, ↓State.kbEnter_kept] | dsimp only)

theorem execEndComplete_kept (slot : BitVec 7) (s : State) : ∃ s₁, execEndComplete slot s = .next s₁ ∧ s₁.kept = s.kept := by
  refine ⟨_, rfl, ?_⟩
  repeat' (first | with_reducible rfl | with_reducible assumption | with_reducible refine (State.unlessStopped_kept _ _ (fun s => ?_)).trans ?_ | with_reducible refine ite_kept ?_ ?_ | split | simp only [↓apply_ite State.kept, ite_self, ↓State.kept_mk, State.kept_eta, implies_true, ↓State.endComplete_kept, ↓State.unlessStopped_kept] | dsimp only)

theorem execEndTimeout_kept (slot : BitVec 7) (s : State) : ∃ s₁, execEndTimeout slot s = .next s₁ ∧ s₁.kept = s.kept := by
  refine ⟨_, rfl, ?_⟩
  repeat' (first | with_reducible rfl | with_reducible assumption | with_reducible refine ite_kept ?_ ?_ | split | simp only [↓apply_ite State.kept, ite_self, ↓State.kept_mk, State.kept_eta, implies_true, ↓State.endTimeout_kept] | dsimp only)

theorem execKbAbort_kept (k : KbReq) (s : State) : ∃ s₁, execKbAbort k s = .next s₁ ∧ s₁.kept = s.kept := by
  refine ⟨_, rfl, ?_⟩
  repeat' (first | with_reducible rfl | with_reducible assumption | with_reducible refine (State.kbEnter_kept' (by assumption)).trans ?_ | with_reducible refine ite_kept ?_ ?_ | split | simp only [↓apply_ite State.kept, ite_self, ↓State.kept_mk, State.kept_eta, implies_true, ↓State.kbAbort_kept, ↓State.kbEnter_kept] | dsimp only)

theorem execHoofprintReceived_kept (s : State) : ∃ s₁, execHoofprintReceived s = .next s₁ ∧ s₁.kept = s.kept := by
  refine ⟨_, rfl, ?_⟩
  repeat' (first | with_reducible rfl | with_reducible assumption | with_reducible refine ite_kept ?_ ?_ | split | simp only [↓apply_ite State.kept, ite_self, ↓State.kept_mk, State.kept_eta, implies_true, ↓State.hoofprint_kept] | dsimp only)

theorem execRootTry_kept (response : BitVec 3577) (s : State) : ∃ s₁, execRootTry response s = .next s₁ ∧ s₁.kept = s.kept := by
  refine ⟨_, rfl, ?_⟩
  repeat' (first | with_reducible rfl | with_reducible assumption | with_reducible refine ite_kept ?_ ?_ | split | simp only [↓apply_ite State.kept, ite_self, ↓State.kept_mk, State.kept_eta, implies_true, ↓State.rootTry_kept] | dsimp only)

theorem execRootRetry_kept (s : State) : ∃ s₁, execRootRetry s = .next s₁ ∧ s₁.kept = s.kept := by
  refine ⟨_, rfl, ?_⟩
  repeat' (first | with_reducible rfl | with_reducible assumption | with_reducible refine ite_kept ?_ ?_ | split | simp only [↓apply_ite State.kept, ite_self, ↓State.kept_mk, State.kept_eta, implies_true, ↓State.rootRetry_kept] | dsimp only)

theorem execEnroll_kept (s : State) : ∃ s₁, execEnroll s = .next s₁ ∧ s₁.kept = s.kept := by
  refine ⟨_, rfl, ?_⟩
  repeat' (first | with_reducible rfl | with_reducible assumption | with_reducible refine (State.mgWrite_kept _ _ _ (fun s => ?_)).trans ?_ | with_reducible refine ite_kept ?_ ?_ | split | simp only [↓apply_ite State.kept, ite_self, ↓State.kept_mk, State.kept_eta, implies_true, ↓State.enrollWrite_kept, ↓State.mgWrite_kept] | dsimp only)

theorem execEnrollComplete_kept (stable cells : BitVec 8192) (s : State) : ∃ s₁, execEnrollComplete stable cells s = .next s₁ ∧ s₁.kept = s.kept := by
  refine ⟨_, rfl, ?_⟩
  repeat' (first | with_reducible rfl | with_reducible assumption | with_reducible refine ite_kept ?_ ?_ | split | simp only [↓apply_ite State.kept, ite_self, ↓State.kept_mk, State.kept_eta, implies_true, ↓State.enrollDone_kept] | dsimp only)

theorem execAllocate_kept (k : BitVec 13) (fn : BitVec 12) (s : State) : ∃ s₁, execAllocate k fn s = .next s₁ ∧ s₁.kept = s.kept := by
  refine ⟨_, rfl, ?_⟩
  repeat' (first | with_reducible rfl | with_reducible assumption | with_reducible refine (State.mgWrite_kept _ _ _ (fun s => ?_)).trans ?_ | with_reducible refine ite_kept ?_ ?_ | split | simp only [↓apply_ite State.kept, ite_self, ↓State.kept_mk, State.kept_eta, implies_true, ↓State.keyCmdWrite_kept, ↓State.mgWrite_kept] | dsimp only)

theorem execReplace_kept (k : BitVec 13) (fn : BitVec 12) (s : State) : ∃ s₁, execReplace k fn s = .next s₁ ∧ s₁.kept = s.kept := by
  refine ⟨_, rfl, ?_⟩
  repeat' (first | with_reducible rfl | with_reducible assumption | with_reducible refine (State.mgWrite_kept _ _ _ (fun s => ?_)).trans ?_ | with_reducible refine ite_kept ?_ ?_ | split | simp only [↓apply_ite State.kept, ite_self, ↓State.kept_mk, State.kept_eta, implies_true, ↓State.keyCmdWrite_kept, ↓State.mgWrite_kept] | dsimp only)

theorem execKeyLoadSwap_kept (k : BitVec 13) (differs : Option (BitVec 4)) (s : State) : ∃ s₁, execKeyLoadSwap k differs s = .next s₁ ∧ s₁.kept = s.kept := by
  refine ⟨_, rfl, ?_⟩
  repeat' (first | with_reducible rfl | with_reducible assumption | with_reducible refine ite_kept ?_ ?_ | split | simp only [↓apply_ite State.kept, ite_self, ↓State.kept_mk, State.kept_eta, implies_true, ↓State.keySwap_kept] | dsimp only)

theorem execLoadAgreed_kept (slot : BitVec 8) (peer : BitVec 4) (gen : BitVec 16) (s : State) : ∃ s₁, execLoadAgreed slot peer gen s = .next s₁ ∧ s₁.kept = s.kept := by
  refine ⟨_, rfl, ?_⟩
  repeat' (first | with_reducible rfl | with_reducible assumption | with_reducible refine (State.mgWrite_kept _ _ _ (fun s => ?_)).trans ?_ | with_reducible refine ite_kept ?_ ?_ | split | simp only [↓apply_ite State.kept, ite_self, ↓State.kept_mk, State.kept_eta, implies_true, ↓State.mgWrite_kept, ↓State.saLoadWrite_kept] | dsimp only)

theorem execLoadImported_kept (slot : BitVec 8) (s : State) : ∃ s₁, execLoadImported slot s = .next s₁ ∧ s₁.kept = s.kept := by
  refine ⟨_, rfl, ?_⟩
  repeat' (first | with_reducible rfl | with_reducible assumption | with_reducible refine (State.mgWrite_kept _ _ _ (fun s => ?_)).trans ?_ | with_reducible refine ite_kept ?_ ?_ | split | simp only [↓apply_ite State.kept, ite_self, ↓State.kept_mk, State.kept_eta, implies_true, ↓State.mgWrite_kept, ↓State.saLoadWrite_kept] | dsimp only)

theorem execLoadNone_kept (slot : BitVec 8) (s : State) : ∃ s₁, execLoadNone slot s = .next s₁ ∧ s₁.kept = s.kept := by
  refine ⟨_, rfl, ?_⟩
  repeat' (first | with_reducible rfl | with_reducible assumption | with_reducible refine (State.mgWrite_kept _ _ _ (fun s => ?_)).trans ?_ | with_reducible refine ite_kept ?_ ?_ | split | simp only [↓apply_ite State.kept, ite_self, ↓State.kept_mk, State.kept_eta, implies_true, ↓State.mgWrite_kept, ↓State.saLoadWrite_kept] | dsimp only)

theorem execOffer_kept (peer : BitVec 4) (s : State) : ∃ s₁, execOffer peer s = .next s₁ ∧ s₁.kept = s.kept := by
  refine ⟨_, rfl, ?_⟩
  repeat' (first | with_reducible rfl | with_reducible assumption | with_reducible refine (State.mgWrite_kept _ _ _ (fun s => ?_)).trans ?_ | with_reducible refine ite_kept ?_ ?_ | split | simp only [↓apply_ite State.kept, ite_self, ↓State.kept_mk, State.kept_eta, implies_true, ↓State.agreeWrite_kept, ↓State.mgWrite_kept] | dsimp only)

theorem execAccept_kept (peer : BitVec 4) (s : State) : ∃ s₁, execAccept peer s = .next s₁ ∧ s₁.kept = s.kept := by
  refine ⟨_, rfl, ?_⟩
  repeat' (first | with_reducible rfl | with_reducible assumption | with_reducible refine (State.mgWrite_kept _ _ _ (fun s => ?_)).trans ?_ | with_reducible refine ite_kept ?_ ?_ | split | simp only [↓apply_ite State.kept, ite_self, ↓State.kept_mk, State.kept_eta, implies_true, ↓State.agreeWrite_kept, ↓State.mgWrite_kept] | dsimp only)

theorem execForget_kept (peer : BitVec 4) (s : State) : ∃ s₁, execForget peer s = .next s₁ ∧ s₁.kept = s.kept := by
  refine ⟨_, rfl, ?_⟩
  repeat' (first | with_reducible rfl | with_reducible assumption | with_reducible refine (State.mgWrite_kept _ _ _ (fun s => ?_)).trans ?_ | with_reducible refine ite_kept ?_ ?_ | split | simp only [↓apply_ite State.kept, ite_self, ↓State.kept_mk, State.kept_eta, implies_true, ↓State.agreeWrite_kept, ↓State.mgWrite_kept] | dsimp only)

theorem execSlotCheckSweep_kept (engine : BitVec 5) (k : BitVec 13) (checkOk corrected : Bool) (s : State) : ∃ s₁, execSlotCheckSweep engine k checkOk corrected s = .next s₁ ∧ s₁.kept = s.kept := by
  refine ⟨_, rfl, ?_⟩
  repeat' (first | with_reducible rfl | with_reducible assumption | with_reducible refine ite_kept ?_ ?_ | split | simp only [↓apply_ite State.kept, ite_self, ↓State.kept_mk, State.kept_eta, implies_true, ↓State.slotSweep_kept] | dsimp only)

theorem execEntropyHealthFail_kept (s : State) : ∃ s₁, execEntropyHealthFail s = .next s₁ ∧ s₁.kept = s.kept := by
  refine ⟨_, rfl, ?_⟩
  repeat' (first | with_reducible rfl | with_reducible assumption | with_reducible refine ite_kept ?_ ?_ | split | simp only [↓apply_ite State.kept, ite_self, ↓State.kept_mk, State.kept_eta, implies_true, ↓State.vltRaise_kept] | dsimp only)

theorem execEntropyTestsPass_kept (s : State) : ∃ s₁, execEntropyTestsPass s = .next s₁ ∧ s₁.kept = s.kept := by
  refine ⟨_, rfl, ?_⟩
  repeat' (first | with_reducible rfl | with_reducible assumption | with_reducible refine ite_kept ?_ ?_ | split | simp only [↓apply_ite State.kept, ite_self, ↓State.kept_mk, State.kept_eta, implies_true] | dsimp only)

theorem execKeyRetire_kept (k : BitVec 13) (fn : BitVec 12) (s : State) : ∃ s₁, execKeyRetire k fn s = .next s₁ ∧ s₁.kept = s.kept := by
  refine ⟨_, rfl, ?_⟩
  repeat' (first | with_reducible rfl | with_reducible assumption | with_reducible refine (State.mgWrite_kept _ _ _ (fun s => ?_)).trans ?_ | with_reducible refine ite_kept ?_ ?_ | split | simp only [↓apply_ite State.kept, ite_self, ↓State.kept_mk, State.kept_eta, implies_true, ↓State.mgWrite_kept, ↓State.retireWrite_kept] | dsimp only)

theorem execRetireWalkPiece_kept (h : BitVec 8) (s : State) : ∃ s₁, execRetireWalkPiece h s = .next s₁ ∧ s₁.kept = s.kept := by
  refine ⟨_, rfl, ?_⟩
  repeat' (first | with_reducible rfl | with_reducible assumption | with_reducible refine ite_kept ?_ ?_ | split | simp only [↓apply_ite State.kept, ite_self, ↓State.kept_mk, State.kept_eta, implies_true, ↓State.retirePiece_kept] | dsimp only)

theorem execKeyZeroize_kept (k : BitVec 13) (s : State) : ∃ s₁, execKeyZeroize k s = .next s₁ ∧ s₁.kept = s.kept := by
  refine ⟨_, rfl, ?_⟩
  repeat' (first | with_reducible rfl | with_reducible assumption | with_reducible refine ite_kept ?_ ?_ | split | simp only [↓apply_ite State.kept, ite_self, ↓State.kept_mk, State.kept_eta, implies_true, ↓State.keyZeroize_kept] | dsimp only)

theorem execKeyRetireForced_kept (k : BitVec 13) (s : State) : ∃ s₁, execKeyRetireForced k s = .next s₁ ∧ s₁.kept = s.kept := by
  refine ⟨_, rfl, ?_⟩
  repeat' (first | with_reducible rfl | with_reducible assumption | with_reducible refine ite_kept ?_ ?_ | split | simp only [↓apply_ite State.kept, ite_self, ↓State.kept_mk, State.kept_eta, implies_true, ↓State.keyForced_kept] | dsimp only)

theorem execKeyQuarantineEnd_kept (k : BitVec 13) (s : State) : ∃ s₁, execKeyQuarantineEnd k s = .next s₁ ∧ s₁.kept = s.kept := by
  refine ⟨_, rfl, ?_⟩
  repeat' (first | with_reducible rfl | with_reducible assumption | with_reducible refine ite_kept ?_ ?_ | split | simp only [↓apply_ite State.kept, ite_self, ↓State.kept_mk, State.kept_eta, implies_true, ↓State.keyRelease_kept] | dsimp only)

theorem execAssign_kept (first : BitVec 20) (count : BitVec 21) (fn : BitVec 12) (s : State) : ∃ s₁, execAssign first count fn s = .next s₁ ∧ s₁.kept = s.kept := by
  refine ⟨_, rfl, ?_⟩
  repeat' (first | with_reducible rfl | with_reducible assumption | with_reducible refine (State.mgWrite_kept _ _ _ (fun s => ?_)).trans ?_ | with_reducible refine ite_kept ?_ ?_ | split | simp only [↓apply_ite State.kept, ite_self, ↓State.kept_mk, State.kept_eta, implies_true, ↓State.count_kept, ↓State.mgWrite_kept, ↓State.ownWrite_kept] | dsimp only)

theorem execRelease_kept (first : BitVec 20) (count : BitVec 21) (fn : BitVec 12) (s : State) : ∃ s₁, execRelease first count fn s = .next s₁ ∧ s₁.kept = s.kept := by
  refine ⟨_, rfl, ?_⟩
  repeat' (first | with_reducible rfl | with_reducible assumption | with_reducible refine (State.mgWrite_kept _ _ _ (fun s => ?_)).trans ?_ | with_reducible refine ite_kept ?_ ?_ | split | simp only [↓apply_ite State.kept, ite_self, ↓State.kept_mk, State.kept_eta, implies_true, ↓State.count_kept, ↓State.mgWrite_kept, ↓State.ownWrite_kept] | dsimp only)

theorem execSetAccess_kept (first : BitVec 20) (count : BitVec 21) (fn : BitVec 12) (s : State) : ∃ s₁, execSetAccess first count fn s = .next s₁ ∧ s₁.kept = s.kept := by
  refine ⟨_, rfl, ?_⟩
  repeat' (first | with_reducible rfl | with_reducible assumption | with_reducible refine (State.mgWrite_kept _ _ _ (fun s => ?_)).trans ?_ | with_reducible refine ite_kept ?_ ?_ | split | simp only [↓apply_ite State.kept, ite_self, ↓State.kept_mk, State.kept_eta, implies_true, ↓State.count_kept, ↓State.mgWrite_kept, ↓State.ownWrite_kept] | dsimp only)

theorem execSetFormat_kept (first : BitVec 20) (count : BitVec 21) (fn : BitVec 12) (s : State) : ∃ s₁, execSetFormat first count fn s = .next s₁ ∧ s₁.kept = s.kept := by
  refine ⟨_, rfl, ?_⟩
  repeat' (first | with_reducible rfl | with_reducible assumption | with_reducible refine (State.mgWrite_kept _ _ _ (fun s => ?_)).trans ?_ | with_reducible refine ite_kept ?_ ?_ | split | simp only [↓apply_ite State.kept, ite_self, ↓State.kept_mk, State.kept_eta, implies_true, ↓State.count_kept, ↓State.mgWrite_kept, ↓State.ownWrite_kept] | dsimp only)

theorem execCleaningPiece_kept (e : BitVec 5) (s : State) : ∃ s₁, execCleaningPiece e s = .next s₁ ∧ s₁.kept = s.kept := by
  refine ⟨_, rfl, ?_⟩
  repeat' (first | with_reducible rfl | with_reducible assumption | with_reducible refine ite_kept ?_ ?_ | split | simp only [↓apply_ite State.kept, ite_self, ↓State.kept_mk, State.kept_eta, implies_true, ↓State.cleanPiece_kept] | dsimp only)

theorem execGranuleCleaned_calm (g : BitVec 20) (s : State) : ∃ s₁, execGranuleCleaned g s = .next s₁ ∧ Kept.Calm s.kept s₁.kept := by
  refine ⟨_, rfl, ?_⟩
  repeat' (first | with_reducible assumption | with_reducible exact Kept.Calm.refl _ | with_reducible refine (State.granuleCleaned_calm _ _).after ?_ | unfold State.unlessStopped | with_reducible refine ite_calm ?_ ?_ | split | simp only [↓State.kept_mk, State.kept_eta] | dsimp only | with_reducible refine calm_mk ?_)

theorem execFncCreate_calm (f : BitVec 12) (s : State) : ∃ s₁, execFncCreate f s = .next s₁ ∧ Kept.Calm s.kept s₁.kept := by
  refine ⟨_, rfl, ?_⟩
  repeat' (first | with_reducible assumption | with_reducible exact Kept.Calm.refl _ | with_reducible refine (State.fncCmd_calm _ _ _ _).after ?_ | unfold State.mgWrite | with_reducible refine ite_calm ?_ ?_ | split | simp only [↓State.kept_mk, State.kept_eta, ↓State.mgRsp_kept] | dsimp only | with_reducible refine calm_mk ?_)

theorem execFncEnable_calm (f : BitVec 12) (s : State) : ∃ s₁, execFncEnable f s = .next s₁ ∧ Kept.Calm s.kept s₁.kept := by
  refine ⟨_, rfl, ?_⟩
  repeat' (first | with_reducible assumption | with_reducible exact Kept.Calm.refl _ | with_reducible refine (State.fncCmd_calm _ _ _ _).after ?_ | unfold State.mgWrite | with_reducible refine ite_calm ?_ ?_ | split | simp only [↓State.kept_mk, State.kept_eta, ↓State.mgRsp_kept] | dsimp only | with_reducible refine calm_mk ?_)

theorem execFncQuiesce_calm (f : BitVec 12) (s : State) : ∃ s₁, execFncQuiesce f s = .next s₁ ∧ Kept.Calm s.kept s₁.kept := by
  refine ⟨_, rfl, ?_⟩
  repeat' (first | with_reducible assumption | with_reducible exact Kept.Calm.refl _ | with_reducible refine (State.fncCmd_calm _ _ _ _).after ?_ | unfold State.mgWrite | with_reducible refine ite_calm ?_ ?_ | split | simp only [↓State.kept_mk, State.kept_eta, ↓State.mgRsp_kept] | dsimp only | with_reducible refine calm_mk ?_)

theorem execQuiesceDrained_calm (f : BitVec 12) (s : State) : ∃ s₁, execQuiesceDrained f s = .next s₁ ∧ Kept.Calm s.kept s₁.kept := by
  refine ⟨_, rfl, ?_⟩
  repeat' (first | with_reducible assumption | with_reducible exact Kept.Calm.refl _ | with_reducible refine (State.quiesceDrained_calm _ _).after ?_ | with_reducible refine ite_calm ?_ ?_ | split | simp only [↓State.kept_mk, State.kept_eta] | dsimp only | with_reducible refine calm_mk ?_)

theorem execQuiesceDeadline_calm (f : BitVec 12) (s : State) : ∃ s₁, execQuiesceDeadline f s = .next s₁ ∧ Kept.Calm s.kept s₁.kept := by
  refine ⟨_, rfl, ?_⟩
  repeat' (first | with_reducible assumption | with_reducible exact Kept.Calm.refl _ | with_reducible refine (State.quiesceForce_calm _ _).after ?_ | with_reducible refine ite_calm ?_ ?_ | split | simp only [↓State.kept_mk, State.kept_eta] | dsimp only | with_reducible refine calm_mk ?_)

theorem execQuiesceForcedDone_calm (f : BitVec 12) (s : State) : ∃ s₁, execQuiesceForcedDone f s = .next s₁ ∧ Kept.Calm s.kept s₁.kept := by
  refine ⟨_, rfl, ?_⟩
  repeat' (first | with_reducible assumption | with_reducible exact Kept.Calm.refl _ | with_reducible refine (State.quiesceForced_calm _ _).after ?_ | with_reducible refine ite_calm ?_ ?_ | split | simp only [↓State.kept_mk, State.kept_eta] | dsimp only | with_reducible refine calm_mk ?_)

theorem execFncResume_calm (f : BitVec 12) (s : State) : ∃ s₁, execFncResume f s = .next s₁ ∧ Kept.Calm s.kept s₁.kept := by
  refine ⟨_, rfl, ?_⟩
  repeat' (first | with_reducible assumption | with_reducible exact Kept.Calm.refl _ | with_reducible refine (State.fncCmd_calm _ _ _ _).after ?_ | unfold State.mgWrite | with_reducible refine ite_calm ?_ ?_ | split | simp only [↓State.kept_mk, State.kept_eta, ↓State.mgRsp_kept] | dsimp only | with_reducible refine calm_mk ?_)

theorem execFncReset_calm (f : BitVec 12) (erase : Bool) (s : State) : ∃ s₁, execFncReset f erase s = .next s₁ ∧ Kept.Calm s.kept s₁.kept := by
  refine ⟨_, rfl, ?_⟩
  repeat' (first | with_reducible assumption | with_reducible exact Kept.Calm.refl _ | with_reducible refine (State.fncCmd_calm _ _ _ _).after ?_ | unfold State.mgWrite | with_reducible refine ite_calm ?_ ?_ | split | simp only [↓State.kept_mk, State.kept_eta, ↓State.mgRsp_kept] | dsimp only | with_reducible refine calm_mk ?_)

theorem execResetComplete_calm (f : BitVec 12) (s : State) : ∃ s₁, execResetComplete f s = .next s₁ ∧ Kept.Calm s.kept s₁.kept := by
  refine ⟨_, rfl, ?_⟩
  repeat' (first | with_reducible assumption | with_reducible exact Kept.Calm.refl _ | with_reducible refine (State.tearStep_calm _ _).after ?_ | with_reducible refine ite_calm ?_ ?_ | split | simp only [↓State.kept_mk, State.kept_eta] | dsimp only | with_reducible refine calm_mk ?_)

theorem execFncRemove_calm (f : BitVec 12) (s : State) : ∃ s₁, execFncRemove f s = .next s₁ ∧ Kept.Calm s.kept s₁.kept := by
  refine ⟨_, rfl, ?_⟩
  repeat' (first | with_reducible assumption | with_reducible exact Kept.Calm.refl _ | with_reducible refine (State.fncCmd_calm _ _ _ _).after ?_ | unfold State.mgWrite | with_reducible refine ite_calm ?_ ?_ | split | simp only [↓State.kept_mk, State.kept_eta, ↓State.mgRsp_kept] | dsimp only | with_reducible refine calm_mk ?_)

theorem execRemoveComplete_calm (f : BitVec 12) (s : State) : ∃ s₁, execRemoveComplete f s = .next s₁ ∧ Kept.Calm s.kept s₁.kept := by
  refine ⟨_, rfl, ?_⟩
  repeat' (first | with_reducible assumption | with_reducible exact Kept.Calm.refl _ | with_reducible refine (State.tearStep_calm _ _).after ?_ | with_reducible refine ite_calm ?_ ?_ | split | simp only [↓State.kept_mk, State.kept_eta] | dsimp only | with_reducible refine calm_mk ?_)

theorem execReportRequest_kept (f : BitVec 12) (tag : BitVec 10) (s : State) : ∃ s₁, execReportRequest f tag s = .next s₁ ∧ s₁.kept = s.kept := by
  refine ⟨_, rfl, ?_⟩
  repeat' (first | with_reducible rfl | with_reducible assumption | with_reducible refine (State.hostCmd_kept _ _ _ _ _ (fun s => ?_)).trans ?_ | with_reducible refine ite_kept ?_ ?_ | split | simp only [↓apply_ite State.kept, ite_self, ↓State.kept_mk, State.kept_eta, implies_true, ↓State.hostCmd_kept, ↓State.reportReq_kept] | dsimp only)

theorem execReportCapture_kept (f : BitVec 12) (s : State) : ∃ s₁, execReportCapture f s = .next s₁ ∧ s₁.kept = s.kept := by
  refine ⟨_, rfl, ?_⟩
  repeat' (first | with_reducible rfl | with_reducible assumption | with_reducible refine ite_kept ?_ ?_ | split | simp only [↓apply_ite State.kept, ite_self, ↓State.kept_mk, State.kept_eta, implies_true, ↓State.reportCapture_kept] | dsimp only)

theorem execReportReady_kept (f : BitVec 12) (s : State) : ∃ s₁, execReportReady f s = .next s₁ ∧ s₁.kept = s.kept := by
  refine ⟨_, rfl, ?_⟩
  repeat' (first | with_reducible rfl | with_reducible assumption | with_reducible refine ite_kept ?_ ?_ | split | simp only [↓apply_ite State.kept, ite_self, ↓State.kept_mk, State.kept_eta, implies_true, ↓State.reportReady_kept] | dsimp only)

theorem execHostRead_kept (r : HostReq) (s : State) : ∃ s₁, execHostRead r s = .next s₁ ∧ s₁.kept = s.kept := by
  refine ⟨_, rfl, ?_⟩
  repeat' (first | with_reducible rfl | with_reducible assumption | with_reducible refine ite_kept ?_ ?_ | split | simp only [↓apply_ite State.kept, ite_self, ↓State.kept_mk, State.kept_eta, implies_true, ↓State.hostReq_kept] | dsimp only)

theorem execHostWrite_kept (r : HostReq) (s : State) : ∃ s₁, execHostWrite r s = .next s₁ ∧ s₁.kept = s.kept := by
  refine ⟨_, rfl, ?_⟩
  repeat' (first | with_reducible rfl | with_reducible assumption | with_reducible refine ite_kept ?_ ?_ | split | simp only [↓apply_ite State.kept, ite_self, ↓State.kept_mk, State.kept_eta, implies_true, ↓State.hostReq_kept] | dsimp only)

theorem execHostFetchAdd_kept (r : HostReq) (s : State) : ∃ s₁, execHostFetchAdd r s = .next s₁ ∧ s₁.kept = s.kept := by
  refine ⟨_, rfl, ?_⟩
  repeat' (first | with_reducible rfl | with_reducible assumption | with_reducible refine ite_kept ?_ ?_ | split | simp only [↓apply_ite State.kept, ite_self, ↓State.kept_mk, State.kept_eta, implies_true, ↓State.hostReq_kept] | dsimp only)

theorem execHostCompareSwap_kept (r : HostReq) (s : State) : ∃ s₁, execHostCompareSwap r s = .next s₁ ∧ s₁.kept = s.kept := by
  refine ⟨_, rfl, ?_⟩
  repeat' (first | with_reducible rfl | with_reducible assumption | with_reducible refine ite_kept ?_ ?_ | split | simp only [↓apply_ite State.kept, ite_self, ↓State.kept_mk, State.kept_eta, implies_true, ↓State.hostReq_kept] | dsimp only)

theorem execJobDescSubmit_kept (f : BitVec 12) (tag : BitVec 10) (c : BitVec 7) (word7 : Reg) (s : State) : ∃ s₁, execJobDescSubmit f tag c word7 s = .next s₁ ∧ s₁.kept = s.kept := by
  refine ⟨_, rfl, ?_⟩
  repeat' (first | with_reducible rfl | with_reducible assumption | with_reducible refine (State.hostCmd_kept _ _ _ _ _ (fun s => ?_)).trans ?_ | with_reducible refine ite_kept ?_ ?_ | split | simp only [↓apply_ite State.kept, ite_self, ↓State.kept_mk, State.kept_eta, implies_true, ↓State.hostCmd_kept, ↓State.submitDesc_kept] | dsimp only)

theorem execTraceEnable_kept (f : BitVec 12) (tag : BitVec 10) (c : BitVec 7) (ctrl : Reg) (s : State) : ∃ s₁, execTraceEnable f tag c ctrl s = .next s₁ ∧ s₁.kept = s.kept := by
  refine ⟨_, rfl, ?_⟩
  repeat' (first | with_reducible rfl | with_reducible assumption | with_reducible refine (State.hostCmd_kept _ _ _ _ _ (fun s => ?_)).trans ?_ | with_reducible refine ite_kept ?_ ?_ | split | simp only [↓apply_ite State.kept, ite_self, ↓State.kept_mk, State.kept_eta, implies_true, ↓State.hostCmd_kept, ↓State.traceReq_kept] | dsimp only)

theorem execThrottleRise_kept (p qlevel : BitVec 4) (s : State) : ∃ s₁, execThrottleRise p qlevel s = .next s₁ ∧ s₁.kept = s.kept := by
  refine ⟨_, rfl, ?_⟩
  repeat' (first | with_reducible rfl | with_reducible assumption | with_reducible refine ite_kept ?_ ?_ | split | simp only [↓apply_ite State.kept, ite_self, ↓State.kept_mk, State.kept_eta, implies_true, ↓State.throttleRise_kept] | dsimp only)

theorem execThrottleFall_kept (p qlevel : BitVec 4) (s : State) : ∃ s₁, execThrottleFall p qlevel s = .next s₁ ∧ s₁.kept = s.kept := by
  refine ⟨_, rfl, ?_⟩
  repeat' (first | with_reducible rfl | with_reducible assumption | with_reducible refine ite_kept ?_ ?_ | split | simp only [↓apply_ite State.kept, ite_self, ↓State.kept_mk, State.kept_eta, implies_true, ↓State.throttleFall_kept] | dsimp only)

theorem execHoldAgeExpiry_kept (port : BitVec 9) (tag : BitVec 10) (s : State) : ∃ s₁, execHoldAgeExpiry port tag s = .next s₁ ∧ s₁.kept = s.kept := by
  refine ⟨_, rfl, ?_⟩
  repeat' (first | with_reducible rfl | with_reducible assumption | with_reducible refine ite_kept ?_ ?_ | split | simp only [↓apply_ite State.kept, ite_self, ↓State.kept_mk, State.kept_eta, implies_true, ↓State.heldLate_kept] | dsimp only)

theorem execTargetUnmet_kept (sl : BitVec 7) (t : BitVec 2) (s : State) : ∃ s₁, execTargetUnmet sl t s = .next s₁ ∧ s₁.kept = s.kept := by
  refine ⟨_, rfl, ?_⟩
  repeat' (first | with_reducible rfl | with_reducible assumption | with_reducible refine ite_kept ?_ ?_ | split | simp only [↓apply_ite State.kept, ite_self, ↓State.kept_mk, State.kept_eta, implies_true, ↓State.targetUnmet_kept] | dsimp only)

theorem execFeedbackImplausible_kept (p : BitVec 4) (s : State) : ∃ s₁, execFeedbackImplausible p s = .next s₁ ∧ s₁.kept = s.kept := by
  refine ⟨_, rfl, ?_⟩
  repeat' (first | with_reducible rfl | with_reducible assumption | with_reducible refine ite_kept ?_ ?_ | split | simp only [↓apply_ite State.kept, ite_self, ↓State.kept_mk, State.kept_eta, implies_true, ↓State.implausible_kept] | dsimp only)

theorem execRestoreFeedback_kept (p : BitVec 4) (s : State) : ∃ s₁, execRestoreFeedback p s = .next s₁ ∧ s₁.kept = s.kept := by
  refine ⟨_, rfl, ?_⟩
  repeat' (first | with_reducible rfl | with_reducible assumption | with_reducible refine ite_kept ?_ ?_ | split | simp only [↓apply_ite State.kept, ite_self, ↓State.kept_mk, State.kept_eta, implies_true, ↓State.restoreFb_kept] | dsimp only)

theorem execUrgencyLevel_kept (n : BitVec 4) (level : BitVec 3) (s : State) : ∃ s₁, execUrgencyLevel n level s = .next s₁ ∧ s₁.kept = s.kept := by
  refine ⟨_, rfl, ?_⟩
  repeat' (first | with_reducible rfl | with_reducible assumption | with_reducible refine ite_kept ?_ ?_ | split | simp only [↓apply_ite State.kept, ite_self, ↓State.kept_mk, State.kept_eta, implies_true, ↓State.urgLevel_kept] | dsimp only)

theorem execUrgencyStarved_kept (n : BitVec 4) (s : State) : ∃ s₁, execUrgencyStarved n s = .next s₁ ∧ s₁.kept = s.kept := by
  refine ⟨_, rfl, ?_⟩
  repeat' (first | with_reducible rfl | with_reducible assumption | with_reducible refine ite_kept ?_ ?_ | split | simp only [↓apply_ite State.kept, ite_self, ↓State.kept_mk, State.kept_eta, implies_true, ↓State.urgStarved_kept] | dsimp only)

theorem execQosArm_kept (s : State) : ∃ s₁, execQosArm s = .next s₁ ∧ s₁.kept = s.kept := by
  refine ⟨_, rfl, ?_⟩
  repeat' (first | with_reducible rfl | with_reducible assumption | with_reducible refine (State.mgWrite_kept _ _ _ (fun s => ?_)).trans ?_ | with_reducible refine ite_kept ?_ ?_ | split | simp only [↓apply_ite State.kept, ite_self, ↓State.kept_mk, State.kept_eta, implies_true, ↓State.mgWrite_kept, ↓State.qosArm_kept] | dsimp only)

theorem execQosDiscard_kept (s : State) : ∃ s₁, execQosDiscard s = .next s₁ ∧ s₁.kept = s.kept := by
  refine ⟨_, rfl, ?_⟩
  repeat' (first | with_reducible rfl | with_reducible assumption | with_reducible refine (State.mgWrite_kept _ _ _ (fun s => ?_)).trans ?_ | with_reducible refine ite_kept ?_ ?_ | split | simp only [↓apply_ite State.kept, ite_self, ↓State.kept_mk, State.kept_eta, implies_true, ↓State.mgWrite_kept, ↓State.qosDiscard_kept] | dsimp only)

theorem execQosApply_kept (s : State) : ∃ s₁, execQosApply s = .next s₁ ∧ s₁.kept = s.kept := by
  refine ⟨_, rfl, ?_⟩
  repeat' (first | with_reducible rfl | with_reducible assumption | with_reducible refine ite_kept ?_ ?_ | split | simp only [↓apply_ite State.kept, ite_self, ↓State.kept_mk, State.kept_eta, implies_true, ↓State.qosApply_kept] | dsimp only)

theorem execDataFrameReceive_kept (t : BitVec 6) (f : Frame) (s : State) : ∃ s₁, execDataFrameReceive t f s = .next s₁ ∧ s₁.kept = s.kept := by
  refine ⟨_, rfl, ?_⟩
  repeat' (first | with_reducible rfl | with_reducible assumption | with_reducible refine (State.orLand_kept _ _ _ (fun s => ?_)).trans ?_ | with_reducible refine ite_kept ?_ ?_ | split | simp only [↓apply_ite State.kept, ite_self, ↓State.kept_mk, State.kept_eta, implies_true, ↓State.dataIn_kept, ↓State.orLand_kept, ↓State.smear_kept] | dsimp only)

theorem execAckReceive_kept (t : BitVec 6) (f : Frame) (s : State) : ∃ s₁, execAckReceive t f s = .next s₁ ∧ s₁.kept = s.kept := by
  refine ⟨_, rfl, ?_⟩
  repeat' (first | with_reducible rfl | with_reducible assumption | with_reducible refine (State.orLand_kept _ _ _ (fun s => ?_)).trans ?_ | with_reducible refine ite_kept ?_ ?_ | split | simp only [↓apply_ite State.kept, ite_self, ↓State.kept_mk, State.kept_eta, implies_true, ↓State.ackIn_kept, ↓State.orLand_kept] | dsimp only)

theorem execAckSend_kept (n : BitVec 8) (path : BitVec 8) (s : State) : ∃ s₁, execAckSend n path s = .next s₁ ∧ s₁.kept = s.kept := by
  refine ⟨_, rfl, ?_⟩
  repeat' (first | with_reducible rfl | with_reducible assumption | with_reducible refine ite_kept ?_ ?_ | split | simp only [↓apply_ite State.kept, ite_self, ↓State.kept_mk, State.kept_eta, implies_true, ↓State.ackSend_kept] | dsimp only)

theorem execRtoExpiry_kept (n : BitVec 8) (msn : BitVec 32) (s : State) : ∃ s₁, execRtoExpiry n msn s = .next s₁ ∧ s₁.kept = s.kept := by
  refine ⟨_, rfl, ?_⟩
  repeat' (first | with_reducible rfl | with_reducible assumption | with_reducible refine ite_kept ?_ ?_ | split | simp only [↓apply_ite State.kept, ite_self, ↓State.kept_mk, State.kept_eta, implies_true, ↓State.rto_kept] | dsimp only)

theorem execTransferDeadlineExpiry_kept (n : BitVec 8) (msn : BitVec 32) (s : State) : ∃ s₁, execTransferDeadlineExpiry n msn s = .next s₁ ∧ s₁.kept = s.kept := by
  refine ⟨_, rfl, ?_⟩
  repeat' (first | with_reducible rfl | with_reducible assumption | with_reducible refine ite_kept ?_ ?_ | split | simp only [↓apply_ite State.kept, ite_self, ↓State.kept_mk, State.kept_eta, implies_true, ↓State.transferLate_kept] | dsimp only)

theorem execReadMessage_kept (i : Nat) (s : State) : ∃ s₁, execReadMessage i s = .next s₁ ∧ s₁.kept = s.kept := by
  refine ⟨_, rfl, ?_⟩
  repeat' (first | with_reducible rfl | with_reducible assumption | with_reducible refine (State.onMsg_kept _ _ _ _ (fun s a0 => ?_)).trans ?_ | with_reducible refine ite_kept ?_ ?_ | split | simp only [↓apply_ite State.kept, ite_self, ↓State.kept_mk, State.kept_eta, implies_true, ↓State.msgRead_kept, ↓State.onMsg_kept] | dsimp only)

theorem execWriteMessage_kept (i : Nat) (s : State) : ∃ s₁, execWriteMessage i s = .next s₁ ∧ s₁.kept = s.kept := by
  refine ⟨_, rfl, ?_⟩
  repeat' (first | with_reducible rfl | with_reducible assumption | with_reducible refine (State.onMsg_kept _ _ _ _ (fun s a0 => ?_)).trans ?_ | with_reducible refine ite_kept ?_ ?_ | split | simp only [↓apply_ite State.kept, ite_self, ↓State.kept_mk, State.kept_eta, implies_true, ↓State.msgWrite_kept, ↓State.onMsg_kept] | dsimp only)

theorem execEvictMessage_kept (i : Nat) (s : State) : ∃ s₁, execEvictMessage i s = .next s₁ ∧ s₁.kept = s.kept := by
  refine ⟨_, rfl, ?_⟩
  repeat' (first | with_reducible rfl | with_reducible assumption | with_reducible refine (State.onMsg_kept _ _ _ _ (fun s a0 => ?_)).trans ?_ | with_reducible refine ite_kept ?_ ?_ | split | simp only [↓apply_ite State.kept, ite_self, ↓State.kept_mk, State.kept_eta, implies_true, ↓State.msgEvict_kept, ↓State.onMsg_kept] | dsimp only)

theorem execAtomicMessage_kept (i : Nat) (s : State) : ∃ s₁, execAtomicMessage i s = .next s₁ ∧ s₁.kept = s.kept := by
  refine ⟨_, rfl, ?_⟩
  repeat' (first | with_reducible rfl | with_reducible assumption | with_reducible refine (State.onMsg_kept _ _ _ _ (fun s a0 => ?_)).trans ?_ | with_reducible refine ite_kept ?_ ?_ | split | simp only [↓apply_ite State.kept, ite_self, ↓State.kept_mk, State.kept_eta, implies_true, ↓State.msgAtomic_kept, ↓State.onMsg_kept] | dsimp only)

theorem execContribMessage_kept (i : Nat) (s : State) : ∃ s₁, execContribMessage i s = .next s₁ ∧ s₁.kept = s.kept := by
  refine ⟨_, rfl, ?_⟩
  repeat' (first | with_reducible rfl | with_reducible assumption | with_reducible refine (State.onMsg_kept _ _ _ _ (fun s a0 => ?_)).trans ?_ | with_reducible refine ite_kept ?_ ?_ | split | simp only [↓apply_ite State.kept, ite_self, ↓State.kept_mk, State.kept_eta, implies_true, ↓State.msgContrib_kept, ↓State.onMsg_kept] | dsimp only)

theorem execSnoopMessage_kept (i : Nat) (s : State) : ∃ s₁, execSnoopMessage i s = .next s₁ ∧ s₁.kept = s.kept := by
  refine ⟨_, rfl, ?_⟩
  repeat' (first | with_reducible rfl | with_reducible assumption | with_reducible refine (State.onMsg_kept _ _ _ _ (fun s a0 => ?_)).trans ?_ | with_reducible refine ite_kept ?_ ?_ | split | simp only [↓apply_ite State.kept, ite_self, ↓State.kept_mk, State.kept_eta, implies_true, ↓State.msgSnoop_kept, ↓State.onMsg_kept] | dsimp only)

theorem execProxySnoopDeadline_kept (id : Nat) (s : State) : ∃ s₁, execProxySnoopDeadline id s = .next s₁ ∧ s₁.kept = s.kept := by
  refine ⟨_, rfl, ?_⟩
  repeat' (first | with_reducible rfl | with_reducible assumption | with_reducible refine ite_kept ?_ ?_ | split | simp only [↓apply_ite State.kept, ite_self, ↓State.kept_mk, State.kept_eta, implies_true, ↓State.proxyLate_kept] | dsimp only)

theorem execSnoopRespMessage_kept (i : Nat) (s : State) : ∃ s₁, execSnoopRespMessage i s = .next s₁ ∧ s₁.kept = s.kept := by
  refine ⟨_, rfl, ?_⟩
  repeat' (first | with_reducible rfl | with_reducible assumption | with_reducible refine (State.onMsg_kept _ _ _ _ (fun s a0 => ?_)).trans ?_ | with_reducible refine ite_kept ?_ ?_ | split | simp only [↓apply_ite State.kept, ite_self, ↓State.kept_mk, State.kept_eta, implies_true, ↓State.msgSnoopResp_kept, ↓State.onMsg_kept] | dsimp only)

theorem execRemoteSnoopTimeout_kept (chip : BitVec 3) (id : Nat) (s : State) : ∃ s₁, execRemoteSnoopTimeout chip id s = .next s₁ ∧ s₁.kept = s.kept := by
  refine ⟨_, rfl, ?_⟩
  repeat' (first | with_reducible rfl | with_reducible assumption | with_reducible refine ite_kept ?_ ?_ | split | simp only [↓apply_ite State.kept, ite_self, ↓State.kept_mk, State.kept_eta, implies_true, ↓State.remoteSnoopLate_kept] | dsimp only)

theorem execResponseMessage_kept (i : Nat) (s : State) : ∃ s₁, execResponseMessage i s = .next s₁ ∧ s₁.kept = s.kept := by
  refine ⟨_, rfl, ?_⟩
  repeat' (first | with_reducible rfl | with_reducible assumption | with_reducible refine (State.onMsg_kept _ _ _ _ (fun s a0 => ?_)).trans ?_ | with_reducible refine ite_kept ?_ ?_ | split | simp only [↓apply_ite State.kept, ite_self, ↓State.kept_mk, State.kept_eta, implies_true, ↓State.msgResponse_kept, ↓State.onMsg_kept] | dsimp only)

theorem execPerformedMessage_kept (i : Nat) (s : State) : ∃ s₁, execPerformedMessage i s = .next s₁ ∧ s₁.kept = s.kept := by
  refine ⟨_, rfl, ?_⟩
  repeat' (first | with_reducible rfl | with_reducible assumption | with_reducible refine (State.onMsg_kept _ _ _ _ (fun s a0 => ?_)).trans ?_ | with_reducible refine ite_kept ?_ ?_ | split | simp only [↓apply_ite State.kept, ite_self, ↓State.kept_mk, State.kept_eta, implies_true, ↓State.msgPerformed_kept, ↓State.onMsg_kept] | dsimp only)

theorem execFlushMessage_kept (i : Nat) (s : State) : ∃ s₁, execFlushMessage i s = .next s₁ ∧ s₁.kept = s.kept := by
  refine ⟨_, rfl, ?_⟩
  repeat' (first | with_reducible rfl | with_reducible assumption | with_reducible refine (State.onMsg_kept _ _ _ _ (fun s a0 => ?_)).trans ?_ | with_reducible refine ite_kept ?_ ?_ | split | simp only [↓apply_ite State.kept, ite_self, ↓State.kept_mk, State.kept_eta, implies_true, ↓State.msgFlush_kept, ↓State.onMsg_kept] | dsimp only)

theorem execFlushDoneMessage_kept (i : Nat) (s : State) : ∃ s₁, execFlushDoneMessage i s = .next s₁ ∧ s₁.kept = s.kept := by
  refine ⟨_, rfl, ?_⟩
  repeat' (first | with_reducible rfl | with_reducible assumption | with_reducible refine (State.onMsg_kept _ _ _ _ (fun s a0 => ?_)).trans ?_ | with_reducible refine ite_kept ?_ ?_ | split | simp only [↓apply_ite State.kept, ite_self, ↓State.kept_mk, State.kept_eta, implies_true, ↓State.msgFlushDone_kept, ↓State.onMsg_kept] | dsimp only)

theorem execRemoteFlushTimeout_kept (chip : BitVec 3) (die : BitVec 3) (s : State) : ∃ s₁, execRemoteFlushTimeout chip die s = .next s₁ ∧ s₁.kept = s.kept := by
  refine ⟨_, rfl, ?_⟩
  repeat' (first | with_reducible rfl | with_reducible assumption | with_reducible refine ite_kept ?_ ?_ | split | simp only [↓apply_ite State.kept, ite_self, ↓State.kept_mk, State.kept_eta, implies_true, ↓State.remoteFlushLate_kept] | dsimp only)

theorem execLinkFence_kept (port : BitVec 8) (r : TpReq) (s : State) : ∃ s₁, execLinkFence port r s = .next s₁ ∧ s₁.kept = s.kept := by
  refine ⟨_, rfl, ?_⟩
  repeat' (first | with_reducible rfl | with_reducible assumption | with_reducible refine ite_kept ?_ ?_ | split | simp only [↓apply_ite State.kept, ite_self, ↓State.kept_mk, State.kept_eta, implies_true, ↓State.fenceOn_kept] | dsimp only)

theorem execLinkFenceComplete_kept (port : BitVec 8) (s : State) : ∃ s₁, execLinkFenceComplete port s = .next s₁ ∧ s₁.kept = s.kept := by
  refine ⟨_, rfl, ?_⟩
  repeat' (first | with_reducible rfl | with_reducible assumption | with_reducible refine (State.unlessStopped_kept _ _ (fun s => ?_)).trans ?_ | with_reducible refine ite_kept ?_ ?_ | split | simp only [↓apply_ite State.kept, ite_self, ↓State.kept_mk, State.kept_eta, implies_true, ↓State.fenceOff_kept, ↓State.unlessStopped_kept] | dsimp only)

theorem execSaActivate_kept (n : BitVec 8) (s : State) : ∃ s₁, execSaActivate n s = .next s₁ ∧ s₁.kept = s.kept := by
  refine ⟨_, rfl, ?_⟩
  repeat' (first | with_reducible rfl | with_reducible assumption | with_reducible refine (State.mgWrite_kept _ _ _ (fun s => ?_)).trans ?_ | with_reducible refine ite_kept ?_ ?_ | split | simp only [↓apply_ite State.kept, ite_self, ↓State.kept_mk, State.kept_eta, implies_true, ↓State.mgWrite_kept, ↓State.saCommand_kept] | dsimp only)

theorem execSaRetire_kept (n : BitVec 8) (s : State) : ∃ s₁, execSaRetire n s = .next s₁ ∧ s₁.kept = s.kept := by
  refine ⟨_, rfl, ?_⟩
  repeat' (first | with_reducible rfl | with_reducible assumption | with_reducible refine (State.mgWrite_kept _ _ _ (fun s => ?_)).trans ?_ | with_reducible refine ite_kept ?_ ?_ | split | simp only [↓apply_ite State.kept, ite_self, ↓State.kept_mk, State.kept_eta, implies_true, ↓State.mgWrite_kept, ↓State.saCommand_kept] | dsimp only)

theorem execSaRelease_kept (n : BitVec 8) (s : State) : ∃ s₁, execSaRelease n s = .next s₁ ∧ s₁.kept = s.kept := by
  refine ⟨_, rfl, ?_⟩
  repeat' (first | with_reducible rfl | with_reducible assumption | with_reducible refine (State.mgWrite_kept _ _ _ (fun s => ?_)).trans ?_ | with_reducible refine ite_kept ?_ ?_ | split | simp only [↓apply_ite State.kept, ite_self, ↓State.kept_mk, State.kept_eta, implies_true, ↓State.mgWrite_kept, ↓State.saCommand_kept] | dsimp only)

theorem execSaQuarantine_kept (n : BitVec 8) (s : State) : ∃ s₁, execSaQuarantine n s = .next s₁ ∧ s₁.kept = s.kept := by
  refine ⟨_, rfl, ?_⟩
  repeat' (first | with_reducible rfl | with_reducible assumption | with_reducible refine ite_kept ?_ ?_ | split | simp only [↓apply_ite State.kept, ite_self, ↓State.kept_mk, State.kept_eta, implies_true, ↓State.saQuarantine_kept] | dsimp only)

theorem execSaFree_kept (n : BitVec 8) (s : State) : ∃ s₁, execSaFree n s = .next s₁ ∧ s₁.kept = s.kept := by
  refine ⟨_, rfl, ?_⟩
  repeat' (first | with_reducible rfl | with_reducible assumption | with_reducible refine ite_kept ?_ ?_ | split | simp only [↓apply_ite State.kept, ite_self, ↓State.kept_mk, State.kept_eta, implies_true, ↓State.saFree_kept] | dsimp only)

theorem execImgOpen_kept (s : State) : ∃ s₁, execImgOpen s = .next s₁ ∧ s₁.kept = s.kept := by
  refine ⟨_, rfl, ?_⟩
  repeat' (first | with_reducible rfl | with_reducible assumption | with_reducible refine (State.mgWrite_kept _ _ _ (fun s => ?_)).trans ?_ | with_reducible refine ite_kept ?_ ?_ | split | simp only [↓apply_ite State.kept, ite_self, ↓State.kept_mk, State.kept_eta, implies_true, ↓State.imgOp_kept, ↓State.mgWrite_kept] | dsimp only)

theorem execImgData_kept (d : Reg) (s : State) : ∃ s₁, execImgData d s = .next s₁ ∧ s₁.kept = s.kept := by
  refine ⟨_, rfl, ?_⟩
  repeat' (first | with_reducible rfl | with_reducible assumption | with_reducible refine (State.mgWrite_kept _ _ _ (fun s => ?_)).trans ?_ | with_reducible refine ite_kept ?_ ?_ | split | simp only [↓apply_ite State.kept, ite_self, ↓State.kept_mk, State.kept_eta, implies_true, ↓State.imgData_kept, ↓State.mgWrite_kept] | dsimp only)

theorem execImgClose_kept (s : State) : ∃ s₁, execImgClose s = .next s₁ ∧ s₁.kept = s.kept := by
  refine ⟨_, rfl, ?_⟩
  repeat' (first | with_reducible rfl | with_reducible assumption | with_reducible refine (State.mgWrite_kept _ _ _ (fun s => ?_)).trans ?_ | with_reducible refine ite_kept ?_ ?_ | split | simp only [↓apply_ite State.kept, ite_self, ↓State.kept_mk, State.kept_eta, implies_true, ↓State.imgOp_kept, ↓State.mgWrite_kept] | dsimp only)

theorem execImgCheckComplete_kept (s : State) : ∃ s₁, execImgCheckComplete s = .next s₁ ∧ s₁.kept = s.kept := by
  refine ⟨_, rfl, ?_⟩
  repeat' (first | with_reducible rfl | with_reducible assumption | with_reducible refine ite_kept ?_ ?_ | split | simp only [↓apply_ite State.kept, ite_self, ↓State.kept_mk, State.kept_eta, implies_true, ↓State.imgCheckDone_kept] | dsimp only)

theorem execImgArm_kept (s : State) : ∃ s₁, execImgArm s = .next s₁ ∧ s₁.kept = s.kept := by
  refine ⟨_, rfl, ?_⟩
  repeat' (first | with_reducible rfl | with_reducible assumption | with_reducible refine (State.mgWrite_kept _ _ _ (fun s => ?_)).trans ?_ | with_reducible refine ite_kept ?_ ?_ | split | simp only [↓apply_ite State.kept, ite_self, ↓State.kept_mk, State.kept_eta, implies_true, ↓State.imgOp_kept, ↓State.mgWrite_kept] | dsimp only)

theorem execImgCancel_kept (s : State) : ∃ s₁, execImgCancel s = .next s₁ ∧ s₁.kept = s.kept := by
  refine ⟨_, rfl, ?_⟩
  repeat' (first | with_reducible rfl | with_reducible assumption | with_reducible refine (State.mgWrite_kept _ _ _ (fun s => ?_)).trans ?_ | with_reducible refine ite_kept ?_ ?_ | split | simp only [↓apply_ite State.kept, ite_self, ↓State.kept_mk, State.kept_eta, implies_true, ↓State.imgOp_kept, ↓State.mgWrite_kept] | dsimp only)

theorem execImgApply_kept (s : State) : ∃ s₁, execImgApply s = .next s₁ ∧ s₁.kept = s.kept := by
  refine ⟨_, rfl, ?_⟩
  repeat' (first | with_reducible rfl | with_reducible assumption | with_reducible refine (State.mgWrite_kept _ _ _ (fun s => ?_)).trans ?_ | with_reducible refine ite_kept ?_ ?_ | split | simp only [↓apply_ite State.kept, ite_self, ↓State.kept_mk, State.kept_eta, implies_true, ↓State.imgOp_kept, ↓State.mgWrite_kept] | dsimp only)

theorem execDrainStart_kept (s : State) : ∃ s₁, execDrainStart s = .next s₁ ∧ s₁.kept = s.kept := by
  refine ⟨_, rfl, ?_⟩
  repeat' (first | with_reducible rfl | with_reducible assumption | with_reducible refine ite_kept ?_ ?_ | split | simp only [↓apply_ite State.kept, ite_self, ↓State.kept_mk, State.kept_eta, implies_true, ↓State.drainStart_kept] | dsimp only)

theorem execTagWalkPiece_kept (h : BitVec 8) (s : State) : ∃ s₁, execTagWalkPiece h s = .next s₁ ∧ s₁.kept = s.kept := by
  refine ⟨_, rfl, ?_⟩
  repeat' (first | with_reducible rfl | with_reducible assumption | with_reducible refine ite_kept ?_ ?_ | split | simp only [↓apply_ite State.kept, ite_self, ↓State.kept_mk, State.kept_eta, implies_true, ↓State.tagWalk_kept] | dsimp only)

theorem execFilterWalkPiece_kept (h : BitVec 8) (s : State) : ∃ s₁, execFilterWalkPiece h s = .next s₁ ∧ s₁.kept = s.kept := by
  refine ⟨_, rfl, ?_⟩
  repeat' (first | with_reducible rfl | with_reducible assumption | with_reducible refine ite_kept ?_ ?_ | split | simp only [↓apply_ite State.kept, ite_self, ↓State.kept_mk, State.kept_eta, implies_true, ↓State.filterWalk_kept] | dsimp only)

theorem execImgCommit_calm (s : State) : ∃ s₁, execImgCommit s = .next s₁ ∧ Kept.Calm s.kept s₁.kept := by
  refine ⟨_, rfl, ?_⟩
  repeat' (first | with_reducible assumption | with_reducible exact Kept.Calm.refl _ | with_reducible refine (State.imgCommit_calm _).after ?_ | with_reducible refine ite_calm ?_ ?_ | split | simp only [↓State.kept_mk, State.kept_eta] | dsimp only | with_reducible refine calm_mk ?_)

theorem execHerdChipLost_kept (chip : BitVec 3) (s : State) : ∃ s₁, execHerdChipLost chip s = .next s₁ ∧ s₁.kept = s.kept := by
  refine ⟨_, rfl, ?_⟩
  repeat' (first | with_reducible rfl | with_reducible assumption | with_reducible refine ite_kept ?_ ?_ | split | simp only [↓apply_ite State.kept, ite_self, ↓State.kept_mk, State.kept_eta, implies_true, ↓State.chipCheck_kept] | dsimp only)

theorem execLinkUpRise_kept (t : BitVec 6) (fast : Bool) (s : State) : ∃ s₁, execLinkUpRise t fast s = .next s₁ ∧ s₁.kept = s.kept := by
  refine ⟨_, rfl, ?_⟩
  repeat' (first | with_reducible rfl | with_reducible assumption | with_reducible refine ite_kept ?_ ?_ | split | simp only [↓apply_ite State.kept, ite_self, ↓State.kept_mk, State.kept_eta, implies_true, ↓State.linkUp_kept] | dsimp only)

theorem execDiscoverySend_kept (t : BitVec 6) (s : State) : ∃ s₁, execDiscoverySend t s = .next s₁ ∧ s₁.kept = s.kept := by
  refine ⟨_, rfl, ?_⟩
  repeat' (first | with_reducible rfl | with_reducible assumption | with_reducible refine ite_kept ?_ ?_ | split | simp only [↓apply_ite State.kept, ite_self, ↓State.kept_mk, State.kept_eta, implies_true, ↓State.discover_kept, ↓State.linkUp_kept] | dsimp only)

theorem execDiscoveryReceive_kept (t : BitVec 6) (d : Discovery) (s : State) : ∃ s₁, execDiscoveryReceive t d s = .next s₁ ∧ s₁.kept = s.kept := by
  refine ⟨_, rfl, ?_⟩
  repeat' (first | with_reducible rfl | with_reducible assumption | with_reducible refine ite_kept ?_ ?_ | split | simp only [↓apply_ite State.kept, ite_self, ↓State.kept_mk, State.kept_eta, implies_true, ↓State.discovered_kept] | dsimp only)

theorem execDiscoveryTimeout_kept (t : BitVec 6) (s : State) : ∃ s₁, execDiscoveryTimeout t s = .next s₁ ∧ s₁.kept = s.kept := by
  refine ⟨_, rfl, ?_⟩
  repeat' (first | with_reducible rfl | with_reducible assumption | with_reducible refine ite_kept ?_ ?_ | split | simp only [↓apply_ite State.kept, ite_self, ↓State.kept_mk, State.kept_eta, implies_true, ↓State.discoveryLate_kept] | dsimp only)

theorem execLinkDown_kept (t : BitVec 6) (s : State) : ∃ s₁, execLinkDown t s = .next s₁ ∧ s₁.kept = s.kept := by
  refine ⟨_, rfl, ?_⟩
  repeat' (first | with_reducible rfl | with_reducible assumption | with_reducible refine ite_kept ?_ ?_ | split | simp only [↓apply_ite State.kept, ite_self, ↓State.kept_mk, State.kept_eta, implies_true, ↓State.linkFell_kept] | dsimp only)

theorem execTineReturn_kept (t : BitVec 6) (s : State) : ∃ s₁, execTineReturn t s = .next s₁ ∧ s₁.kept = s.kept := by
  refine ⟨_, rfl, ?_⟩
  repeat' (first | with_reducible rfl | with_reducible assumption | with_reducible refine ite_kept ?_ ?_ | split | simp only [↓apply_ite State.kept, ite_self, ↓State.kept_mk, State.kept_eta, implies_true, ↓State.tineBack_kept] | dsimp only)

theorem execTimeReqSend_kept (s : State) : ∃ s₁, execTimeReqSend s = .next s₁ ∧ s₁.kept = s.kept := by
  refine ⟨_, rfl, ?_⟩
  repeat' (first | with_reducible rfl | with_reducible assumption | with_reducible refine ite_kept ?_ ?_ | split | simp only [↓apply_ite State.kept, ite_self, ↓State.kept_mk, State.kept_eta, implies_true, ↓State.timeAsk_kept] | dsimp only)

theorem execTimeReq_kept (t : BitVec 6) (exch : BitVec 16) (_chip : BitVec 3) (stamp : Reg) (rsvd : Bool) (s : State) : ∃ s₁, execTimeReq t exch _chip stamp rsvd s = .next s₁ ∧ s₁.kept = s.kept := by
  refine ⟨_, rfl, ?_⟩
  repeat' (first | with_reducible rfl | with_reducible assumption | with_reducible refine ite_kept ?_ ?_ | split | simp only [↓apply_ite State.kept, ite_self, ↓State.kept_mk, State.kept_eta, implies_true, ↓State.timeAsked_kept] | dsimp only)

theorem execTimeResp_kept (t : BitVec 6) (exch : BitVec 16) (stamp : Reg) (rsvd : Bool) (s : State) : ∃ s₁, execTimeResp t exch stamp rsvd s = .next s₁ ∧ s₁.kept = s.kept := by
  refine ⟨_, rfl, ?_⟩
  repeat' (first | with_reducible rfl | with_reducible assumption | with_reducible refine ite_kept ?_ ?_ | split | simp only [↓apply_ite State.kept, ite_self, ↓State.kept_mk, State.kept_eta, implies_true, ↓State.timeAnswered_kept] | dsimp only)

theorem execTimeFollowUp_kept (t : BitVec 6) (exch : BitVec 16) (t2 t3 : Reg) (rsvd : Bool) (s : State) : ∃ s₁, execTimeFollowUp t exch t2 t3 rsvd s = .next s₁ ∧ s₁.kept = s.kept := by
  refine ⟨_, rfl, ?_⟩
  repeat' (first | with_reducible rfl | with_reducible assumption | with_reducible refine ite_kept ?_ ?_ | split | simp only [↓apply_ite State.kept, ite_self, ↓State.kept_mk, State.kept_eta, implies_true, ↓State.exchangeDone_kept, ↓State.onExchange_kept] | dsimp only)

theorem execTimeExchangeTimeout_kept (exch : BitVec 16) (s : State) : ∃ s₁, execTimeExchangeTimeout exch s = .next s₁ ∧ s₁.kept = s.kept := by
  refine ⟨_, rfl, ?_⟩
  repeat' (first | with_reducible rfl | with_reducible assumption | with_reducible refine ite_kept ?_ ?_ | split | simp only [↓apply_ite State.kept, ite_self, ↓State.kept_mk, State.kept_eta, implies_true, ↓State.exchangeLate_kept] | dsimp only)

theorem execChipJoin_tame (refTick : Reg) (s : State) : ∃ s₁, execChipJoin refTick s = .next s₁ ∧ Kept.Tame s.kept s₁.kept := by
  refine ⟨_, rfl, ?_⟩
  repeat' (first | with_reducible assumption | with_reducible exact Kept.Tame.refl _ | with_reducible refine (State.chipJoin_tame _ _).after ?_ | with_reducible refine ite_tame ?_ ?_ | split | simp only [↓State.kept_mk, State.kept_eta, ↓State.refTick_kept] | dsimp only | with_reducible refine tame_mk ?_)

theorem execJoinAlone_kept (s : State) : ∃ s₁, execJoinAlone s = .next s₁ ∧ s₁.kept = s.kept := by
  refine ⟨_, rfl, ?_⟩
  repeat' (first | with_reducible rfl | with_reducible assumption | with_reducible refine ite_kept ?_ ?_ | split | simp only [↓apply_ite State.kept, ite_self, ↓State.kept_mk, State.kept_eta, implies_true, ↓State.joinAlone_kept] | dsimp only)

theorem execEgressTimestamp_kept (t : BitVec 6) (id : BitVec 8) (stamp : Reg) (phase : BitVec 10) (s : State) : ∃ s₁, execEgressTimestamp t id stamp phase s = .next s₁ ∧ s₁.kept = s.kept := by
  refine ⟨_, rfl, ?_⟩
  repeat' (first | with_reducible rfl | with_reducible assumption | with_reducible refine ite_kept ?_ ?_ | split | simp only [↓apply_ite State.kept, ite_self, ↓State.kept_mk, State.kept_eta, implies_true, ↓State.egress_kept] | dsimp only)

theorem execFaultMessage_kept (die : BitVec 3) (s : State) : ∃ s₁, execFaultMessage die s = .next s₁ ∧ s₁.kept = s.kept := by
  refine ⟨_, rfl, ?_⟩
  repeat' (first | with_reducible rfl | with_reducible assumption | with_reducible refine ite_kept ?_ ?_ | split | simp only [↓apply_ite State.kept, ite_self, ↓State.kept_mk, State.kept_eta, implies_true, ↓State.deliver_kept] | dsimp only)

theorem execAlertRelease_kept (s : State) : ∃ s₁, execAlertRelease s = .next s₁ ∧ s₁.kept = s.kept := by
  refine ⟨_, rfl, ?_⟩
  repeat' (first | with_reducible rfl | with_reducible assumption | with_reducible refine ite_kept ?_ ?_ | split | simp only [↓apply_ite State.kept, ite_self, ↓State.kept_mk, State.kept_eta, implies_true, ↓State.alertRelease_kept] | dsimp only)

theorem execAlertHoldClear_kept (s : State) : ∃ s₁, execAlertHoldClear s = .next s₁ ∧ s₁.kept = s.kept := by
  refine ⟨_, rfl, ?_⟩
  repeat' (first | with_reducible rfl | with_reducible assumption | with_reducible refine (State.mgWrite_kept _ _ _ (fun s => ?_)).trans ?_ | with_reducible refine ite_kept ?_ ?_ | split | simp only [↓apply_ite State.kept, ite_self, ↓State.kept_mk, State.kept_eta, implies_true, ↓State.mgWrite_kept] | dsimp only)

theorem execFirstErrorClear_kept (s : State) : ∃ s₁, execFirstErrorClear s = .next s₁ ∧ s₁.kept = s.kept := by
  refine ⟨_, rfl, ?_⟩
  repeat' (first | with_reducible rfl | with_reducible assumption | with_reducible refine (State.mgWrite_kept _ _ _ (fun s => ?_)).trans ?_ | with_reducible refine ite_kept ?_ ?_ | split | simp only [↓apply_ite State.kept, ite_self, ↓State.kept_mk, State.kept_eta, implies_true, ↓State.mgWrite_kept] | dsimp only)

theorem execFltCountRead_kept (s : State) : ∃ s₁, execFltCountRead s = .next s₁ ∧ s₁.kept = s.kept := by
  refine ⟨_, rfl, ?_⟩
  repeat' (first | with_reducible rfl | with_reducible assumption | with_reducible refine (State.mgRead_kept _ _ _ (fun s => ?_)).trans ?_ | with_reducible refine ite_kept ?_ ?_ | split | simp only [↓apply_ite State.kept, ite_self, ↓State.kept_mk, State.kept_eta, implies_true, ↓State.fltCountClear_kept, ↓State.mgRead_kept] | dsimp only)

theorem execMptErrCountRead_kept (p : BitVec 4) (s : State) : ∃ s₁, execMptErrCountRead p s = .next s₁ ∧ s₁.kept = s.kept := by
  refine ⟨_, rfl, ?_⟩
  repeat' (first | with_reducible rfl | with_reducible assumption | with_reducible refine (State.mgRead_kept _ _ _ (fun s => ?_)).trans ?_ | with_reducible refine ite_kept ?_ ?_ | split | simp only [↓apply_ite State.kept, ite_self, ↓State.kept_mk, State.kept_eta, implies_true, ↓State.mgRead_kept, ↓State.mptErrClear_kept] | dsimp only)

theorem execInjectRaiseKind_kept (u : BitVec 12) (kind : BitVec 8) (s : State) : ∃ s₁, execInjectRaiseKind u kind s = .next s₁ ∧ s₁.kept = s.kept := by
  refine ⟨_, rfl, ?_⟩
  repeat' (first | with_reducible rfl | with_reducible assumption | with_reducible refine (State.mgWrite_kept _ _ _ (fun s => ?_)).trans ?_ | with_reducible refine ite_kept ?_ ?_ | split | simp only [↓apply_ite State.kept, ite_self, ↓State.kept_mk, State.kept_eta, implies_true, ↓State.mgWrite_kept, ↓State.raise_kept] | dsimp only)

theorem execInjectFlipOneBit_kept (u : BitVec 12) (location : BitVec 36) (s : State) : ∃ s₁, execInjectFlipOneBit u location s = .next s₁ ∧ s₁.kept = s.kept := by
  refine ⟨_, rfl, ?_⟩
  repeat' (first | with_reducible rfl | with_reducible assumption | with_reducible refine (State.mgWrite_kept _ _ _ (fun s => ?_)).trans ?_ | with_reducible refine ite_kept ?_ ?_ | split | simp only [↓apply_ite State.kept, ite_self, ↓State.kept_mk, State.kept_eta, implies_true, ↓State.injectFlip_kept, ↓State.mgWrite_kept] | dsimp only)

theorem execInjectFlipTwoBits_kept (u : BitVec 12) (location : BitVec 36) (s : State) : ∃ s₁, execInjectFlipTwoBits u location s = .next s₁ ∧ s₁.kept = s.kept := by
  refine ⟨_, rfl, ?_⟩
  repeat' (first | with_reducible rfl | with_reducible assumption | with_reducible refine (State.mgWrite_kept _ _ _ (fun s => ?_)).trans ?_ | with_reducible refine ite_kept ?_ ?_ | split | simp only [↓apply_ite State.kept, ite_self, ↓State.kept_mk, State.kept_eta, implies_true, ↓State.injectFlip_kept, ↓State.mgWrite_kept] | dsimp only)

theorem execHeartbeatMissed_kept (u : BitVec 12) (s : State) : ∃ s₁, execHeartbeatMissed u s = .next s₁ ∧ s₁.kept = s.kept := by
  refine ⟨_, rfl, ?_⟩
  repeat' (first | with_reducible rfl | with_reducible assumption | with_reducible refine ite_kept ?_ ?_ | split | simp only [↓apply_ite State.kept, ite_self, ↓State.kept_mk, State.kept_eta, implies_true, ↓State.unitFails_kept] | dsimp only)

theorem execUnitCheckFailed_kept (u : BitVec 12) (bridge : Option BridgeCheck) (s : State) : ∃ s₁, execUnitCheckFailed u bridge s = .next s₁ ∧ s₁.kept = s.kept := by
  refine ⟨_, rfl, ?_⟩
  repeat' (first | with_reducible rfl | with_reducible assumption | with_reducible refine ite_kept ?_ ?_ | split | simp only [↓apply_ite State.kept, ite_self, ↓State.kept_mk, State.kept_eta, implies_true, ↓State.bridgeFails_kept, ↓State.unitFails_kept] | dsimp only)

theorem execHomeSliceRecovery_kept (name : BitVec 8) (s : State) : ∃ s₁, execHomeSliceRecovery name s = .next s₁ ∧ s₁.kept = s.kept := by
  refine ⟨_, rfl, ?_⟩
  repeat' (first | with_reducible rfl | with_reducible assumption | with_reducible refine ite_kept ?_ ?_ | split | simp only [↓apply_ite State.kept, ite_self, ↓State.kept_mk, State.kept_eta, implies_true, ↓State.declareIf_kept] | dsimp only)

theorem execMirrorCopyPiece_kept (r : BitVec 3) (bad : Option (BitVec 12)) (s : State) : ∃ s₁, execMirrorCopyPiece r bad s = .next s₁ ∧ s₁.kept = s.kept := by
  refine ⟨_, rfl, ?_⟩
  repeat' (first | with_reducible rfl | with_reducible assumption | with_reducible refine (State.unlessStopped_kept _ _ (fun s => ?_)).trans ?_ | with_reducible refine ite_kept ?_ ?_ | split | simp only [↓apply_ite State.kept, ite_self, ↓State.kept_mk, State.kept_eta, implies_true, ↓State.copyPiece_kept, ↓State.unlessStopped_kept] | dsimp only)

theorem execStandInServe_kept (r : BitVec 3) (s : State) : ∃ s₁, execStandInServe r s = .next s₁ ∧ s₁.kept = s.kept := by
  refine ⟨_, rfl, ?_⟩
  repeat' (first | with_reducible rfl | with_reducible assumption | with_reducible refine (State.unlessStopped_kept _ _ (fun s => ?_)).trans ?_ | with_reducible refine ite_kept ?_ ?_ | split | simp only [↓apply_ite State.kept, ite_self, ↓State.kept_mk, State.kept_eta, implies_true, ↓State.serve_kept, ↓State.unlessStopped_kept] | dsimp only)

theorem execStackRecovery_kept (p : BitVec 4) (s : State) : ∃ s₁, execStackRecovery p s = .next s₁ ∧ s₁.kept = s.kept := by
  refine ⟨_, rfl, ?_⟩
  repeat' (first | with_reducible rfl | with_reducible assumption | with_reducible refine ite_kept ?_ ?_ | split | simp only [↓apply_ite State.kept, ite_self, ↓State.kept_mk, State.kept_eta, implies_true, ↓State.declareIf_kept, ↓State.stackDeclare_kept] | dsimp only)

theorem execTineRecovery_kept (t : BitVec 6) (s : State) : ∃ s₁, execTineRecovery t s = .next s₁ ∧ s₁.kept = s.kept := by
  refine ⟨_, rfl, ?_⟩
  repeat' (first | with_reducible rfl | with_reducible assumption | with_reducible refine ite_kept ?_ ?_ | split | simp only [↓apply_ite State.kept, ite_self, ↓State.kept_mk, State.kept_eta, implies_true, ↓State.declareIf_kept] | dsimp only)

theorem execKeyEngineHandover_kept (p : BitVec 4) (s : State) : ∃ s₁, execKeyEngineHandover p s = .next s₁ ∧ s₁.kept = s.kept := by
  refine ⟨_, rfl, ?_⟩
  repeat' (first | with_reducible rfl | with_reducible assumption | with_reducible refine ite_kept ?_ ?_ | split | simp only [↓apply_ite State.kept, ite_self, ↓State.kept_mk, State.kept_eta, implies_true, ↓State.declareIf_kept] | dsimp only)

theorem execJobEngineRecovery_kept (e : BitVec 5) (s : State) : ∃ s₁, execJobEngineRecovery e s = .next s₁ ∧ s₁.kept = s.kept := by
  refine ⟨_, rfl, ?_⟩
  repeat' (first | with_reducible rfl | with_reducible assumption | with_reducible refine ite_kept ?_ ?_ | split | simp only [↓apply_ite State.kept, ite_self, ↓State.kept_mk, State.kept_eta, implies_true, ↓State.declareIf_kept] | dsimp only)

theorem execRecoveryOverrun_kept (r : BitVec 3) (s : State) : ∃ s₁, execRecoveryOverrun r s = .next s₁ ∧ s₁.kept = s.kept := by
  refine ⟨_, rfl, ?_⟩
  repeat' (first | with_reducible rfl | with_reducible assumption | with_reducible refine ite_kept ?_ ?_ | split | simp only [↓apply_ite State.kept, ite_self, ↓State.kept_mk, State.kept_eta, implies_true, ↓State.recLate_kept] | dsimp only)

theorem execOffline_kept (u : BitVec 12) (s : State) : ∃ s₁, execOffline u s = .next s₁ ∧ s₁.kept = s.kept := by
  refine ⟨_, rfl, ?_⟩
  repeat' (first | with_reducible rfl | with_reducible assumption | with_reducible refine (State.mgWrite_kept _ _ _ (fun s => ?_)).trans ?_ | with_reducible refine ite_kept ?_ ?_ | split | simp only [↓apply_ite State.kept, ite_self, ↓State.kept_mk, State.kept_eta, implies_true, ↓State.mgWrite_kept, ↓State.unitCommand_kept] | dsimp only)

theorem execOnline_kept (u : BitVec 12) (s : State) : ∃ s₁, execOnline u s = .next s₁ ∧ s₁.kept = s.kept := by
  refine ⟨_, rfl, ?_⟩
  repeat' (first | with_reducible rfl | with_reducible assumption | with_reducible refine (State.mgWrite_kept _ _ _ (fun s => ?_)).trans ?_ | with_reducible refine ite_kept ?_ ?_ | split | simp only [↓apply_ite State.kept, ite_self, ↓State.kept_mk, State.kept_eta, implies_true, ↓State.mgWrite_kept, ↓State.unitCommand_kept] | dsimp only)

theorem execOfflineDeadline_kept (u : BitVec 12) (s : State) : ∃ s₁, execOfflineDeadline u s = .next s₁ ∧ s₁.kept = s.kept := by
  refine ⟨_, rfl, ?_⟩
  repeat' (first | with_reducible rfl | with_reducible assumption | with_reducible refine (State.unlessStopped_kept _ _ (fun s => ?_)).trans ?_ | with_reducible refine ite_kept ?_ ?_ | split | simp only [↓apply_ite State.kept, ite_self, ↓State.kept_mk, State.kept_eta, implies_true, ↓State.offlineNext_kept, ↓State.unlessStopped_kept] | dsimp only)

theorem execTimebaseLost_kept (s : State) : ∃ s₁, execTimebaseLost s = .next s₁ ∧ s₁.kept = s.kept := by
  refine ⟨_, rfl, ?_⟩
  repeat' (first | with_reducible rfl | with_reducible assumption | with_reducible refine ite_kept ?_ ?_ | split | simp only [↓apply_ite State.kept, ite_self, ↓State.kept_mk, State.kept_eta, implies_true, ↓State.timebaseGone_kept] | dsimp only)

theorem execTickOffsetHigh_kept (s : State) : ∃ s₁, execTickOffsetHigh s = .next s₁ ∧ s₁.kept = s.kept := by
  refine ⟨_, rfl, ?_⟩
  repeat' (first | with_reducible rfl | with_reducible assumption | with_reducible refine ite_kept ?_ ?_ | split | simp only [↓apply_ite State.kept, ite_self, ↓State.kept_mk, State.kept_eta, implies_true, ↓State.offsetHigh_kept] | dsimp only)

theorem execFclkChange_kept (point : BitVec 4) (s : State) : ∃ s₁, execFclkChange point s = .next s₁ ∧ s₁.kept = s.kept := by
  refine ⟨_, rfl, ?_⟩
  repeat' (first | with_reducible rfl | with_reducible assumption | with_reducible refine ite_kept ?_ ?_ | split | simp only [↓apply_ite State.kept, ite_self, ↓State.kept_mk, State.kept_eta, implies_true, ↓State.fclkBoundary_kept, ↓State.fclkWant_kept, ↓State.power_kept] | dsimp only)

theorem execFclkStable_kept (s : State) : ∃ s₁, execFclkStable s = .next s₁ ∧ s₁.kept = s.kept := by
  refine ⟨_, rfl, ?_⟩
  repeat' (first | with_reducible rfl | with_reducible assumption | with_reducible refine ite_kept ?_ ?_ | split | simp only [↓apply_ite State.kept, ite_self, ↓State.kept_mk, State.kept_eta, implies_true, ↓State.fclkIsStable_kept] | dsimp only)

theorem execFclkUnstable_kept (s : State) : ∃ s₁, execFclkUnstable s = .next s₁ ∧ s₁.kept = s.kept := by
  refine ⟨_, rfl, ?_⟩
  repeat' (first | with_reducible rfl | with_reducible assumption | with_reducible refine ite_kept ?_ ?_ | split | simp only [↓apply_ite State.kept, ite_self, ↓State.kept_mk, State.kept_eta, implies_true, ↓State.fclkFails_kept] | dsimp only)

theorem execThermalRaise_kept (s : State) : ∃ s₁, execThermalRaise s = .next s₁ ∧ s₁.kept = s.kept := by
  refine ⟨_, rfl, ?_⟩
  repeat' (first | with_reducible rfl | with_reducible assumption | with_reducible refine ite_kept ?_ ?_ | split | simp only [↓apply_ite State.kept, ite_self, ↓State.kept_mk, State.kept_eta, implies_true, ↓State.fclkBoundary_kept, ↓State.thermalUp_kept] | dsimp only)

theorem execThermalThrottle_kept (s : State) : ∃ s₁, execThermalThrottle s = .next s₁ ∧ s₁.kept = s.kept := by
  refine ⟨_, rfl, ?_⟩
  repeat' (first | with_reducible rfl | with_reducible assumption | with_reducible refine ite_kept ?_ ?_ | split | simp only [↓apply_ite State.kept, ite_self, ↓State.kept_mk, State.kept_eta, implies_true, ↓State.fclkBoundary_kept, ↓State.thermalDown_kept] | dsimp only)

theorem execThermalPark_kept (s : State) : ∃ s₁, execThermalPark s = .next s₁ ∧ s₁.kept = s.kept := by
  refine ⟨_, rfl, ?_⟩
  repeat' (first | with_reducible rfl | with_reducible assumption | with_reducible refine ite_kept ?_ ?_ | split | simp only [↓apply_ite State.kept, ite_self, ↓State.kept_mk, State.kept_eta, implies_true, ↓State.parkTrip_kept] | dsimp only)

theorem execThermalTrip_kept (s : State) : ∃ s₁, execThermalTrip s = .next s₁ ∧ s₁.kept = s.kept := by
  refine ⟨_, rfl, ?_⟩
  repeat' (first | with_reducible rfl | with_reducible assumption | with_reducible refine ite_kept ?_ ?_ | split | simp only [↓apply_ite State.kept, ite_self, ↓State.kept_mk, State.kept_eta, implies_true, ↓State.parkTrip_kept] | dsimp only)

theorem execThermalSample_kept (k : BitVec 6) (v : BitVec 12) (s : State) : ∃ s₁, execThermalSample k v s = .next s₁ ∧ s₁.kept = s.kept := by
  refine ⟨_, rfl, ?_⟩
  repeat' (first | with_reducible rfl | with_reducible assumption | with_reducible refine ite_kept ?_ ?_ | split | simp only [↓apply_ite State.kept, ite_self, ↓State.kept_mk, State.kept_eta, implies_true, ↓State.power_kept, ↓State.thermalSample_kept] | dsimp only)

theorem execSupplySample_kept (m : BitVec 5) (v : BitVec 12) (s : State) : ∃ s₁, execSupplySample m v s = .next s₁ ∧ s₁.kept = s.kept := by
  refine ⟨_, rfl, ?_⟩
  repeat' (first | with_reducible rfl | with_reducible assumption | with_reducible refine ite_kept ?_ ?_ | split | simp only [↓apply_ite State.kept, ite_self, ↓State.kept_mk, State.kept_eta, implies_true, ↓State.power_kept, ↓State.supplySample_kept] | dsimp only)

theorem execSensorStale_kept (supply : Bool) (k : BitVec 6) (s : State) : ∃ s₁, execSensorStale supply k s = .next s₁ ∧ s₁.kept = s.kept := by
  refine ⟨_, rfl, ?_⟩
  repeat' (first | with_reducible rfl | with_reducible assumption | with_reducible refine ite_kept ?_ ?_ | split | simp only [↓apply_ite State.kept, ite_self, ↓State.kept_mk, State.kept_eta, implies_true, ↓State.power_kept, ↓State.sensorStale_kept] | dsimp only)

theorem execFawnPowerOnReset_tame (s : State) : ∃ s₁, execFawnPowerOnReset s = .next s₁ ∧ Kept.Tame s.kept s₁.kept := by
  refine ⟨_, rfl, ?_⟩
  repeat' (first | with_reducible assumption | with_reducible exact Kept.Tame.refl _ | with_reducible refine (State.fawnReset_tame _).after ?_ | with_reducible refine ite_tame ?_ ?_ | split | simp only [↓State.kept_mk, State.kept_eta] | dsimp only | with_reducible refine tame_mk ?_)

theorem execBootStoreRead_kept (b : BootRead) (s : State) : ∃ s₁, execBootStoreRead b s = .next s₁ ∧ s₁.kept = s.kept := by
  refine ⟨_, rfl, ?_⟩
  repeat' (first | with_reducible rfl | with_reducible assumption | with_reducible refine ite_kept ?_ ?_ | split | simp only [↓apply_ite State.kept, ite_self, ↓State.kept_mk, State.kept_eta, implies_true, ↓State.bootRead_kept] | dsimp only)

theorem execFabricGood_tame (tp : BitVec 256) (mp : BitVec 16) (lp : BitVec 64) (s : State) : ∃ s₁, execFabricGood tp mp lp s = .next s₁ ∧ Kept.Tame s.kept s₁.kept := by
  refine ⟨_, rfl, ?_⟩
  repeat' (first | with_reducible assumption | with_reducible exact Kept.Tame.refl _ | with_reducible refine (State.fabricReleased_tame _ _ _ _).after ?_ | with_reducible refine ite_tame ?_ ?_ | split | simp only [↓State.kept_mk, State.kept_eta] | dsimp only | with_reducible refine tame_mk ?_)

theorem execFabricGoodTimeout_kept (s : State) : ∃ s₁, execFabricGoodTimeout s = .next s₁ ∧ s₁.kept = s.kept := by
  refine ⟨_, rfl, ?_⟩
  repeat' (first | with_reducible rfl | with_reducible assumption | with_reducible refine ite_kept ?_ ?_ | split | simp only [↓apply_ite State.kept, ite_self, ↓State.kept_mk, State.kept_eta, implies_true, ↓State.fabricLate_kept] | dsimp only)

theorem execSelfTestComplete_kept (failed : List (BitVec 12)) (s : State) : ∃ s₁, execSelfTestComplete failed s = .next s₁ ∧ s₁.kept = s.kept := by
  refine ⟨_, rfl, ?_⟩
  repeat' (first | with_reducible rfl | with_reducible assumption | with_reducible refine ite_kept ?_ ?_ | split | simp only [↓apply_ite State.kept, ite_self, ↓State.kept_mk, State.kept_eta, implies_true, ↓State.selfTested_kept] | dsimp only)

theorem execInitializationComplete_kept (s : State) : ∃ s₁, execInitializationComplete s = .next s₁ ∧ s₁.kept = s.kept := by
  refine ⟨_, rfl, ?_⟩
  repeat' (first | with_reducible rfl | with_reducible assumption | with_reducible refine ite_kept ?_ ?_ | split | simp only [↓apply_ite State.kept, ite_self, ↓State.kept_mk, State.kept_eta, implies_true, ↓State.initialized_kept] | dsimp only)

theorem execFclkPoint_kept (arg : BitVec 4) (s : State) : ∃ s₁, execFclkPoint arg s = .next s₁ ∧ s₁.kept = s.kept := by
  refine ⟨_, rfl, ?_⟩
  repeat' (first | with_reducible rfl | with_reducible assumption | with_reducible refine ite_kept ?_ ?_ | split | simp only [↓apply_ite State.kept, ite_self, ↓State.kept_mk, State.kept_eta, implies_true, ↓State.fclkWant_kept, ↓State.power_kept] | dsimp only)

theorem execFabricRetention_kept (s : State) : ∃ s₁, execFabricRetention s = .next s₁ ∧ s₁.kept = s.kept := by
  refine ⟨_, rfl, ?_⟩
  repeat' (first | with_reducible rfl | with_reducible assumption | with_reducible refine ite_kept ?_ ?_ | split | simp only [↓apply_ite State.kept, ite_self, ↓State.kept_mk, State.kept_eta, implies_true, ↓State.powerOp_kept] | dsimp only)

theorem execFabricNominal_kept (s : State) : ∃ s₁, execFabricNominal s = .next s₁ ∧ s₁.kept = s.kept := by
  refine ⟨_, rfl, ?_⟩
  repeat' (first | with_reducible rfl | with_reducible assumption | with_reducible refine ite_kept ?_ ?_ | split | simp only [↓apply_ite State.kept, ite_self, ↓State.kept_mk, State.kept_eta, implies_true, ↓State.powerOp_kept] | dsimp only)

theorem execFabricOff_kept (s : State) : ∃ s₁, execFabricOff s = .next s₁ ∧ s₁.kept = s.kept := by
  refine ⟨_, rfl, ?_⟩
  repeat' (first | with_reducible rfl | with_reducible assumption | with_reducible refine ite_kept ?_ ?_ | split | simp only [↓apply_ite State.kept, ite_self, ↓State.kept_mk, State.kept_eta, implies_true, ↓State.powerOp_kept] | dsimp only)

theorem execSupplyRemove_kept (s : State) : ∃ s₁, execSupplyRemove s = .next s₁ ∧ s₁.kept = s.kept := by
  refine ⟨_, rfl, ?_⟩
  repeat' (first | with_reducible rfl | with_reducible assumption | with_reducible refine ite_kept ?_ ?_ | split | simp only [↓apply_ite State.kept, ite_self, ↓State.kept_mk, State.kept_eta, implies_true, ↓State.powerOp_kept] | dsimp only)

theorem execFwOpen_kept (s : State) : ∃ s₁, execFwOpen s = .next s₁ ∧ s₁.kept = s.kept := by
  refine ⟨_, rfl, ?_⟩
  repeat' (first | with_reducible rfl | with_reducible assumption | with_reducible refine (State.mgWrite_kept _ _ _ (fun s => ?_)).trans ?_ | with_reducible refine ite_kept ?_ ?_ | split | simp only [↓apply_ite State.kept, ite_self, ↓State.kept_mk, State.kept_eta, implies_true, ↓State.fwOp_kept, ↓State.mgWrite_kept] | dsimp only)

theorem execFwData_kept (d : Reg) (s : State) : ∃ s₁, execFwData d s = .next s₁ ∧ s₁.kept = s.kept := by
  refine ⟨_, rfl, ?_⟩
  repeat' (first | with_reducible rfl | with_reducible assumption | with_reducible refine (State.mgWrite_kept _ _ _ (fun s => ?_)).trans ?_ | with_reducible refine ite_kept ?_ ?_ | split | simp only [↓apply_ite State.kept, ite_self, ↓State.kept_mk, State.kept_eta, implies_true, ↓State.fwData_kept, ↓State.mgWrite_kept] | dsimp only)

theorem execFwClose_kept (s : State) : ∃ s₁, execFwClose s = .next s₁ ∧ s₁.kept = s.kept := by
  refine ⟨_, rfl, ?_⟩
  repeat' (first | with_reducible rfl | with_reducible assumption | with_reducible refine (State.mgWrite_kept _ _ _ (fun s => ?_)).trans ?_ | with_reducible refine ite_kept ?_ ?_ | split | simp only [↓apply_ite State.kept, ite_self, ↓State.kept_mk, State.kept_eta, implies_true, ↓State.fwOp_kept, ↓State.mgWrite_kept] | dsimp only)

theorem execFwCheckComplete_kept (s : State) : ∃ s₁, execFwCheckComplete s = .next s₁ ∧ s₁.kept = s.kept := by
  refine ⟨_, rfl, ?_⟩
  repeat' (first | with_reducible rfl | with_reducible assumption | with_reducible refine ite_kept ?_ ?_ | split | simp only [↓apply_ite State.kept, ite_self, ↓State.kept_mk, State.kept_eta, implies_true, ↓State.fwCheck_kept] | dsimp only)

theorem execFwStart_kept (s : State) : ∃ s₁, execFwStart s = .next s₁ ∧ s₁.kept = s.kept := by
  refine ⟨_, rfl, ?_⟩
  repeat' (first | with_reducible rfl | with_reducible assumption | with_reducible refine (State.mgWrite_kept _ _ _ (fun s => ?_)).trans ?_ | with_reducible refine ite_kept ?_ ?_ | split | simp only [↓apply_ite State.kept, ite_self, ↓State.kept_mk, State.kept_eta, implies_true, ↓State.fwOp_kept, ↓State.mgWrite_kept] | dsimp only)

theorem execFwArm_kept (s : State) : ∃ s₁, execFwArm s = .next s₁ ∧ s₁.kept = s.kept := by
  refine ⟨_, rfl, ?_⟩
  repeat' (first | with_reducible rfl | with_reducible assumption | with_reducible refine (State.mgWrite_kept _ _ _ (fun s => ?_)).trans ?_ | with_reducible refine ite_kept ?_ ?_ | split | simp only [↓apply_ite State.kept, ite_self, ↓State.kept_mk, State.kept_eta, implies_true, ↓State.fwOp_kept, ↓State.mgWrite_kept] | dsimp only)

theorem execFwCancel_kept (s : State) : ∃ s₁, execFwCancel s = .next s₁ ∧ s₁.kept = s.kept := by
  refine ⟨_, rfl, ?_⟩
  repeat' (first | with_reducible rfl | with_reducible assumption | with_reducible refine (State.mgWrite_kept _ _ _ (fun s => ?_)).trans ?_ | with_reducible refine ite_kept ?_ ?_ | split | simp only [↓apply_ite State.kept, ite_self, ↓State.kept_mk, State.kept_eta, implies_true, ↓State.fwOp_kept, ↓State.mgWrite_kept] | dsimp only)

theorem execFwHandover_kept (s : State) : ∃ s₁, execFwHandover s = .next s₁ ∧ s₁.kept = s.kept := by
  refine ⟨_, rfl, ?_⟩
  repeat' (first | with_reducible rfl | with_reducible assumption | with_reducible refine ite_kept ?_ ?_ | split | simp only [↓apply_ite State.kept, ite_self, ↓State.kept_mk, State.kept_eta, implies_true, ↓State.handover_kept] | dsimp only)

theorem execFawnHeartbeat_kept (s : State) : ∃ s₁, execFawnHeartbeat s = .next s₁ ∧ s₁.kept = s.kept := by
  refine ⟨_, rfl, ?_⟩
  repeat' (first | with_reducible rfl | with_reducible assumption | with_reducible refine ite_kept ?_ ?_ | split | simp only [↓apply_ite State.kept, ite_self, ↓State.kept_mk, State.kept_eta, implies_true, ↓State.heartbeat_kept] | dsimp only)

theorem execFwRevert_kept (s : State) : ∃ s₁, execFwRevert s = .next s₁ ∧ s₁.kept = s.kept := by
  refine ⟨_, rfl, ?_⟩
  repeat' (first | with_reducible rfl | with_reducible assumption | with_reducible refine ite_kept ?_ ?_ | split | simp only [↓apply_ite State.kept, ite_self, ↓State.kept_mk, State.kept_eta, implies_true, ↓State.fwRevert_kept] | dsimp only)

theorem execFawnFailed_kept (s : State) : ∃ s₁, execFawnFailed s = .next s₁ ∧ s₁.kept = s.kept := by
  refine ⟨_, rfl, ?_⟩
  repeat' (first | with_reducible rfl | with_reducible assumption | with_reducible refine ite_kept ?_ ?_ | split | simp only [↓apply_ite State.kept, ite_self, ↓State.kept_mk, State.kept_eta, implies_true, ↓State.fawnFails_kept] | dsimp only)

theorem execDozeRequest_kept (s : State) : ∃ s₁, execDozeRequest s = .next s₁ ∧ s₁.kept = s.kept := by
  refine ⟨_, rfl, ?_⟩
  repeat' (first | with_reducible rfl | with_reducible assumption | with_reducible refine (State.mgWrite_kept _ _ _ (fun s => ?_)).trans ?_ | with_reducible refine ite_kept ?_ ?_ | split | simp only [↓apply_ite State.kept, ite_self, ↓State.kept_mk, State.kept_eta, implies_true, ↓State.mgWrite_kept, ↓State.powerWrite_kept] | dsimp only)

theorem execDozeSelfRefreshCheck_kept (acks : BitVec 16) (s : State) : ∃ s₁, execDozeSelfRefreshCheck acks s = .next s₁ ∧ s₁.kept = s.kept := by
  refine ⟨_, rfl, ?_⟩
  repeat' (first | with_reducible rfl | with_reducible assumption | with_reducible refine ite_kept ?_ ?_ | split | simp only [↓apply_ite State.kept, ite_self, ↓State.kept_mk, State.kept_eta, implies_true, ↓State.selfRefreshCheck_kept] | dsimp only)

theorem execStandbyRequest_kept (s : State) : ∃ s₁, execStandbyRequest s = .next s₁ ∧ s₁.kept = s.kept := by
  refine ⟨_, rfl, ?_⟩
  repeat' (first | with_reducible rfl | with_reducible assumption | with_reducible refine (State.mgWrite_kept _ _ _ (fun s => ?_)).trans ?_ | with_reducible refine ite_kept ?_ ?_ | split | simp only [↓apply_ite State.kept, ite_self, ↓State.kept_mk, State.kept_eta, implies_true, ↓State.mgWrite_kept, ↓State.powerWrite_kept] | dsimp only)

theorem execWake_kept (src : WakeSource) (s : State) : ∃ s₁, execWake src s = .next s₁ ∧ s₁.kept = s.kept := by
  refine ⟨_, rfl, ?_⟩
  repeat' (first | with_reducible rfl | with_reducible assumption | with_reducible refine ite_kept ?_ ?_ | split | simp only [↓apply_ite State.kept, ite_self, ↓State.kept_mk, State.kept_eta, implies_true, ↓State.wakeUp_kept] | dsimp only)

theorem execWakeComplete_kept (trained : BitVec 16) (s : State) : ∃ s₁, execWakeComplete trained s = .next s₁ ∧ s₁.kept = s.kept := by
  refine ⟨_, rfl, ?_⟩
  repeat' (first | with_reducible rfl | with_reducible assumption | with_reducible refine ite_kept ?_ ?_ | split | simp only [↓apply_ite State.kept, ite_self, ↓State.kept_mk, State.kept_eta, implies_true, ↓State.wakeDone_kept] | dsimp only)

theorem execPowerRemoval_tame (s : State) : ∃ s₁, execPowerRemoval s = .next s₁ ∧ Kept.Tame s.kept s₁.kept := by
  refine ⟨_, rfl, ?_⟩
  repeat' (first | with_reducible assumption | with_reducible exact Kept.Tame.refl _ | with_reducible refine (State.powerGone_tame _).after ?_ | with_reducible refine ite_tame ?_ ?_ | split | simp only [↓State.kept_mk, State.kept_eta] | dsimp only | with_reducible refine tame_mk ?_)

theorem execPairSync_kept (s : State) : ∃ s₁, execPairSync s = .next s₁ ∧ s₁.kept = s.kept := by
  refine ⟨_, rfl, ?_⟩
  repeat' (first | with_reducible rfl | with_reducible assumption | with_reducible refine (State.mgWrite_kept _ _ _ (fun s => ?_)).trans ?_ | with_reducible refine ite_kept ?_ ?_ | split | simp only [↓apply_ite State.kept, ite_self, ↓State.kept_mk, State.kept_eta, implies_true, ↓State.mgWrite_kept, ↓State.pairWrite_kept] | dsimp only)

theorem execPairTakeover_kept (s : State) : ∃ s₁, execPairTakeover s = .next s₁ ∧ s₁.kept = s.kept := by
  refine ⟨_, rfl, ?_⟩
  repeat' (first | with_reducible rfl | with_reducible assumption | with_reducible refine (State.mgWrite_kept _ _ _ (fun s => ?_)).trans ?_ | with_reducible refine ite_kept ?_ ?_ | split | simp only [↓apply_ite State.kept, ite_self, ↓State.kept_mk, State.kept_eta, implies_true, ↓State.mgWrite_kept, ↓State.pairWrite_kept] | dsimp only)

theorem execMirrorSetSend_kept (s : State) : ∃ s₁, execMirrorSetSend s = .next s₁ ∧ s₁.kept = s.kept := by
  refine ⟨_, rfl, ?_⟩
  repeat' (first | with_reducible rfl | with_reducible assumption | with_reducible refine ite_kept ?_ ?_ | split | simp only [↓apply_ite State.kept, ite_self, ↓State.kept_mk, State.kept_eta, implies_true, ↓State.mirrorSend_kept] | dsimp only)

theorem execMirrorFrame_kept (t : BitVec 6) (f : Frame) (s : State) : ∃ s₁, execMirrorFrame t f s = .next s₁ ∧ s₁.kept = s.kept := by
  refine ⟨_, rfl, ?_⟩
  repeat' (first | with_reducible rfl | with_reducible assumption | with_reducible refine ite_kept ?_ ?_ | split | simp only [↓apply_ite State.kept, ite_self, ↓State.kept_mk, State.kept_eta, implies_true, ↓State.mirrorIn_kept] | dsimp only)

theorem execMirrorSetApply_calm (s : State) : ∃ s₁, execMirrorSetApply s = .next s₁ ∧ Kept.Calm s.kept s₁.kept := by
  refine ⟨_, rfl, ?_⟩
  repeat' (first | with_reducible assumption | with_reducible exact Kept.Calm.refl _ | with_reducible refine (State.mirrorApply_calm _).after ?_ | with_reducible refine ite_calm ?_ ?_ | split | simp only [↓State.kept_mk, State.kept_eta] | dsimp only | with_reducible refine calm_mk ?_)

theorem execPairMirrorLag_kept (s : State) : ∃ s₁, execPairMirrorLag s = .next s₁ ∧ s₁.kept = s.kept := by
  refine ⟨_, rfl, ?_⟩
  repeat' (first | with_reducible rfl | with_reducible assumption | with_reducible refine ite_kept ?_ ?_ | split | simp only [↓apply_ite State.kept, ite_self, ↓State.kept_mk, State.kept_eta, implies_true, ↓State.pairLag_kept] | dsimp only)

theorem execPairPartnerLost_kept (s : State) : ∃ s₁, execPairPartnerLost s = .next s₁ ∧ s₁.kept = s.kept := by
  refine ⟨_, rfl, ?_⟩
  repeat' (first | with_reducible rfl | with_reducible assumption | with_reducible refine ite_kept ?_ ?_ | split | simp only [↓apply_ite State.kept, ite_self, ↓State.kept_mk, State.kept_eta, implies_true, ↓State.pairLost_kept] | dsimp only)

theorem execMctpPacket_kept (p : MctpPkt) (s : State) : ∃ s₁, execMctpPacket p s = .next s₁ ∧ s₁.kept = s.kept := by
  refine ⟨_, rfl, ?_⟩
  repeat' (first | with_reducible rfl | with_reducible assumption | with_reducible refine (State.sbServes_kept _ _ (fun s => ?_)).trans ?_ | with_reducible refine ite_kept ?_ ?_ | split | simp only [↓apply_ite State.kept, ite_self, ↓State.kept_mk, State.kept_eta, implies_true, ↓State.mctpControl_kept, ↓State.sbAnswer_kept, ↓State.sbServes_kept] | dsimp only)

theorem execGetTid_kept (s : State) : ∃ s₁, execGetTid s = .next s₁ ∧ s₁.kept = s.kept := by
  refine ⟨_, rfl, ?_⟩
  repeat' (first | with_reducible rfl | with_reducible assumption | with_reducible refine ite_kept ?_ ?_ | split | simp only [↓apply_ite State.kept, ite_self, ↓State.kept_mk, State.kept_eta, implies_true, ↓State.sbAnswer_kept] | dsimp only)

theorem execGetPdr_kept (id : BitVec 16) (s : State) : ∃ s₁, execGetPdr id s = .next s₁ ∧ s₁.kept = s.kept := by
  refine ⟨_, rfl, ?_⟩
  repeat' (first | with_reducible rfl | with_reducible assumption | with_reducible refine ite_kept ?_ ?_ | split | simp only [↓apply_ite State.kept, ite_self, ↓State.kept_mk, State.kept_eta, implies_true, ↓State.pldm_kept] | dsimp only)

theorem execGetSensorReading_kept (id : BitVec 16) (s : State) : ∃ s₁, execGetSensorReading id s = .next s₁ ∧ s₁.kept = s.kept := by
  refine ⟨_, rfl, ?_⟩
  repeat' (first | with_reducible rfl | with_reducible assumption | with_reducible refine ite_kept ?_ ?_ | split | simp only [↓apply_ite State.kept, ite_self, ↓State.kept_mk, State.kept_eta, implies_true, ↓State.pldm_kept] | dsimp only)

theorem execGetStateSensorReadings_kept (id : BitVec 16) (s : State) : ∃ s₁, execGetStateSensorReadings id s = .next s₁ ∧ s₁.kept = s.kept := by
  refine ⟨_, rfl, ?_⟩
  repeat' (first | with_reducible rfl | with_reducible assumption | with_reducible refine ite_kept ?_ ?_ | split | simp only [↓apply_ite State.kept, ite_self, ↓State.kept_mk, State.kept_eta, implies_true, ↓State.pldm_kept] | dsimp only)

theorem execSetNumericEffecterValue_calm (id : BitVec 16) (v : BitVec 8) (s : State) : ∃ s₁, execSetNumericEffecterValue id v s = .next s₁ ∧ Kept.Calm s.kept s₁.kept := by
  refine ⟨_, rfl, ?_⟩
  repeat' (first | with_reducible assumption | with_reducible exact Kept.Calm.refl _ | with_reducible refine (State.limitWrite_calm _ _).after ?_ | unfold State.sbServes | with_reducible refine ite_calm ?_ ?_ | split | simp only [↓State.kept_mk, State.kept_eta, ↓State.pldm_kept] | dsimp only | with_reducible refine calm_mk ?_)

theorem execGetNumericEffecterValue_kept (id : BitVec 16) (s : State) : ∃ s₁, execGetNumericEffecterValue id s = .next s₁ ∧ s₁.kept = s.kept := by
  refine ⟨_, rfl, ?_⟩
  repeat' (first | with_reducible rfl | with_reducible assumption | with_reducible refine ite_kept ?_ ?_ | split | simp only [↓apply_ite State.kept, ite_self, ↓State.kept_mk, State.kept_eta, implies_true, ↓State.pldm_kept] | dsimp only)

theorem execSetStateEffecterStates_kept (id : BitVec 16) (v : BitVec 8) (s : State) : ∃ s₁, execSetStateEffecterStates id v s = .next s₁ ∧ s₁.kept = s.kept := by
  refine ⟨_, rfl, ?_⟩
  repeat' (first | with_reducible rfl | with_reducible assumption | with_reducible refine (State.sbServes_kept _ _ (fun s => ?_)).trans ?_ | with_reducible refine ite_kept ?_ ?_ | split | simp only [↓apply_ite State.kept, ite_self, ↓State.kept_mk, State.kept_eta, implies_true, ↓State.effecterWrite_kept, ↓State.pldm_kept, ↓State.sbServes_kept] | dsimp only)

theorem execGetStateEffecterStates_kept (id : BitVec 16) (s : State) : ∃ s₁, execGetStateEffecterStates id s = .next s₁ ∧ s₁.kept = s.kept := by
  refine ⟨_, rfl, ?_⟩
  repeat' (first | with_reducible rfl | with_reducible assumption | with_reducible refine ite_kept ?_ ?_ | split | simp only [↓apply_ite State.kept, ite_self, ↓State.kept_mk, State.kept_eta, implies_true, ↓State.pldm_kept] | dsimp only)

theorem execPollForPlatformEventMessage_kept (s : State) : ∃ s₁, execPollForPlatformEventMessage s = .next s₁ ∧ s₁.kept = s.kept := by
  refine ⟨_, rfl, ?_⟩
  repeat' (first | with_reducible rfl | with_reducible assumption | with_reducible refine (State.sbServes_kept _ _ (fun s => ?_)).trans ?_ | with_reducible refine ite_kept ?_ ?_ | split | simp only [↓apply_ite State.kept, ite_self, ↓State.kept_mk, State.kept_eta, implies_true, ↓State.pollEvent_kept, ↓State.sbServes_kept] | dsimp only)

theorem execSpdmGetVersion_kept (s : State) : ∃ s₁, execSpdmGetVersion s = .next s₁ ∧ s₁.kept = s.kept := by
  refine ⟨_, rfl, ?_⟩
  repeat' (first | with_reducible rfl | with_reducible assumption | with_reducible refine (State.spdm_kept _ _ (fun s => ?_)).trans ?_ | with_reducible refine ite_kept ?_ ?_ | split | simp only [↓apply_ite State.kept, ite_self, ↓State.kept_mk, State.kept_eta, implies_true, ↓State.sbAnswer_kept, ↓State.spdm_kept] | dsimp only)

theorem execSpdmGetCapabilities_kept (s : State) : ∃ s₁, execSpdmGetCapabilities s = .next s₁ ∧ s₁.kept = s.kept := by
  refine ⟨_, rfl, ?_⟩
  repeat' (first | with_reducible rfl | with_reducible assumption | with_reducible refine (State.spdm_kept _ _ (fun s => ?_)).trans ?_ | with_reducible refine ite_kept ?_ ?_ | split | simp only [↓apply_ite State.kept, ite_self, ↓State.kept_mk, State.kept_eta, implies_true, ↓State.sbAnswer_kept, ↓State.spdm_kept] | dsimp only)

theorem execSpdmNegotiateAlgorithms_kept (s : State) : ∃ s₁, execSpdmNegotiateAlgorithms s = .next s₁ ∧ s₁.kept = s.kept := by
  refine ⟨_, rfl, ?_⟩
  repeat' (first | with_reducible rfl | with_reducible assumption | with_reducible refine (State.spdm_kept _ _ (fun s => ?_)).trans ?_ | with_reducible refine ite_kept ?_ ?_ | split | simp only [↓apply_ite State.kept, ite_self, ↓State.kept_mk, State.kept_eta, implies_true, ↓State.sbAnswer_kept, ↓State.spdm_kept] | dsimp only)

theorem execSpdmGetDigests_kept (s : State) : ∃ s₁, execSpdmGetDigests s = .next s₁ ∧ s₁.kept = s.kept := by
  refine ⟨_, rfl, ?_⟩
  repeat' (first | with_reducible rfl | with_reducible assumption | with_reducible refine (State.spdmRooted_kept _ _ (fun s => ?_)).trans ?_ | with_reducible refine ite_kept ?_ ?_ | split | simp only [↓apply_ite State.kept, ite_self, ↓State.kept_mk, State.kept_eta, implies_true, ↓State.sbAnswer_kept, ↓State.spdmRooted_kept] | dsimp only)

theorem execSpdmGetCertificate_kept (slot : BitVec 4) (offset len : BitVec 16) (s : State) : ∃ s₁, execSpdmGetCertificate slot offset len s = .next s₁ ∧ s₁.kept = s.kept := by
  refine ⟨_, rfl, ?_⟩
  repeat' (first | with_reducible rfl | with_reducible assumption | with_reducible refine (State.spdmRooted_kept _ _ (fun s => ?_)).trans ?_ | with_reducible refine ite_kept ?_ ?_ | split | simp only [↓apply_ite State.kept, ite_self, ↓State.kept_mk, State.kept_eta, implies_true, ↓State.sbAnswer_kept, ↓State.spdmError_kept, ↓State.spdmRooted_kept] | dsimp only)

theorem execSpdmChallenge_kept (slot : BitVec 4) (nonce : BitVec 256) (s : State) : ∃ s₁, execSpdmChallenge slot nonce s = .next s₁ ∧ s₁.kept = s.kept := by
  refine ⟨_, rfl, ?_⟩
  repeat' (first | with_reducible rfl | with_reducible assumption | with_reducible refine (State.spdmRooted_kept _ _ (fun s => ?_)).trans ?_ | with_reducible refine ite_kept ?_ ?_ | split | simp only [↓apply_ite State.kept, ite_self, ↓State.kept_mk, State.kept_eta, implies_true, ↓State.spdmChallenge_kept, ↓State.spdmRooted_kept] | dsimp only)

theorem execSpdmGetMeasurements_kept (index : BitVec 8) (signed : Bool) (nonce : BitVec 256) (s : State) : ∃ s₁, execSpdmGetMeasurements index signed nonce s = .next s₁ ∧ s₁.kept = s.kept := by
  refine ⟨_, rfl, ?_⟩
  repeat' (first | with_reducible rfl | with_reducible assumption | with_reducible refine (State.spdmRooted_kept _ _ (fun s => ?_)).trans ?_ | with_reducible refine ite_kept ?_ ?_ | split | simp only [↓apply_ite State.kept, ite_self, ↓State.kept_mk, State.kept_eta, implies_true, ↓State.spdmMeasure_kept, ↓State.spdmRooted_kept] | dsimp only)

theorem execSpdmUnsupportedRequest_kept (code : BitVec 8) (s : State) : ∃ s₁, execSpdmUnsupportedRequest code s = .next s₁ ∧ s₁.kept = s.kept := by
  refine ⟨_, rfl, ?_⟩
  repeat' (first | with_reducible rfl | with_reducible assumption | with_reducible refine (State.spdm_kept _ _ (fun s => ?_)).trans ?_ | with_reducible refine ite_kept ?_ ?_ | split | simp only [↓apply_ite State.kept, ite_self, ↓State.kept_mk, State.kept_eta, implies_true, ↓State.sbAnswer_kept, ↓State.spdm_kept, ↓State.spdmError_kept] | dsimp only)

theorem execMarker_kept (port : BitVec 8) (r : TpReq) (fclk : BitVec 12) (s : State) : ∃ s₁, execMarker port r fclk s = .next s₁ ∧ s₁.kept = s.kept := by
  refine ⟨_, rfl, ?_⟩
  repeat' (first | with_reducible rfl | with_reducible assumption | with_reducible refine ite_kept ?_ ?_ | split | simp only [↓apply_ite State.kept, ite_self, ↓State.kept_mk, State.kept_eta, implies_true, ↓State.markerReq_kept] | dsimp only)

theorem execDebugSample_kept (_lane : BitVec 2) (tile : BitVec 8) (pc : BitVec 48) (stall : BitVec 4) (cpar : Bool) (fclk : BitVec 12) (s : State) : ∃ s₁, execDebugSample _lane tile pc stall cpar fclk s = .next s₁ ∧ s₁.kept = s.kept := by
  refine ⟨_, rfl, ?_⟩
  repeat' (first | with_reducible rfl | with_reducible assumption | with_reducible refine ite_kept ?_ ?_ | split | simp only [↓apply_ite State.kept, ite_self, ↓State.kept_mk, State.kept_eta, implies_true, ↓State.debugSample_kept, ↓State.portEvent_kept] | dsimp only)

theorem execTraceLineWrite_kept (c : BitVec 7) (s : State) : ∃ s₁, execTraceLineWrite c s = .next s₁ ∧ s₁.kept = s.kept := by
  refine ⟨_, rfl, ?_⟩
  repeat' (first | with_reducible rfl | with_reducible assumption | with_reducible refine (State.unlessStopped_kept _ _ (fun s => ?_)).trans ?_ | with_reducible refine ite_kept ?_ ?_ | split | simp only [↓apply_ite State.kept, ite_self, ↓State.kept_mk, State.kept_eta, implies_true, ↓State.traceLine_kept, ↓State.unlessStopped_kept] | dsimp only)

theorem execWfgAssemble_kept (s : State) : ∃ s₁, execWfgAssemble s = .next s₁ ∧ s₁.kept = s.kept := by
  refine ⟨_, rfl, ?_⟩
  repeat' (first | with_reducible rfl | with_reducible assumption | with_reducible refine (State.mgWrite_kept _ _ _ (fun s => ?_)).trans ?_ | with_reducible refine ite_kept ?_ ?_ | split | simp only [↓apply_ite State.kept, ite_self, ↓State.kept_mk, State.kept_eta, implies_true, ↓State.mgWrite_kept, ↓State.wfgAsk_kept] | dsimp only)

theorem execWfgReady_kept (s : State) : ∃ s₁, execWfgReady s = .next s₁ ∧ s₁.kept = s.kept := by
  refine ⟨_, rfl, ?_⟩
  repeat' (first | with_reducible rfl | with_reducible assumption | with_reducible refine ite_kept ?_ ?_ | split | simp only [↓apply_ite State.kept, ite_self, ↓State.kept_mk, State.kept_eta, implies_true, ↓State.wfgReady_kept] | dsimp only)

theorem execObsWfgDataRead_kept (s : State) : ∃ s₁, execObsWfgDataRead s = .next s₁ ∧ s₁.kept = s.kept := by
  refine ⟨_, rfl, ?_⟩
  repeat' (first | with_reducible rfl | with_reducible assumption | with_reducible refine (State.mgRead_kept _ _ _ (fun s => ?_)).trans ?_ | with_reducible refine ite_kept ?_ ?_ | split | simp only [↓apply_ite State.kept, ite_self, ↓State.kept_mk, State.kept_eta, implies_true, ↓State.mgRead_kept, ↓State.wfgAdvance_kept] | dsimp only)

theorem execGlobalStop_kept (s : State) : ∃ s₁, execGlobalStop s = .next s₁ ∧ s₁.kept = s.kept := by
  refine ⟨_, rfl, ?_⟩
  repeat' (first | with_reducible rfl | with_reducible assumption | with_reducible refine ite_kept ?_ ?_ | split | simp only [↓apply_ite State.kept, ite_self, ↓State.kept_mk, State.kept_eta, implies_true, ↓State.stopBegin_kept] | dsimp only)

theorem execStopSettled_kept (s : State) : ∃ s₁, execStopSettled s = .next s₁ ∧ s₁.kept = s.kept := by
  refine ⟨_, rfl, ?_⟩
  repeat' (first | with_reducible rfl | with_reducible assumption | with_reducible refine ite_kept ?_ ?_ | split | simp only [↓apply_ite State.kept, ite_self, ↓State.kept_mk, State.kept_eta, implies_true, ↓State.stopSettled_kept] | dsimp only)

theorem execStopResume_kept (s : State) : ∃ s₁, execStopResume s = .next s₁ ∧ s₁.kept = s.kept := by
  refine ⟨_, rfl, ?_⟩
  repeat' (first | with_reducible rfl | with_reducible assumption | with_reducible refine (State.mgWrite_kept _ _ _ (fun s => ?_)).trans ?_ | with_reducible refine ite_kept ?_ ?_ | split | simp only [↓apply_ite State.kept, ite_self, ↓State.kept_mk, State.kept_eta, implies_true, ↓State.mgWrite_kept] | dsimp only)

theorem execStopMaxTicks_kept (s : State) : ∃ s₁, execStopMaxTicks s = .next s₁ ∧ s₁.kept = s.kept := by
  refine ⟨_, rfl, ?_⟩
  repeat' (first | with_reducible rfl | with_reducible assumption | with_reducible refine ite_kept ?_ ?_ | split | simp only [↓apply_ite State.kept, ite_self, ↓State.kept_mk, State.kept_eta, implies_true, ↓State.stopRelease_kept] | dsimp only)

theorem execStopDisarm_kept (s : State) : ∃ s₁, execStopDisarm s = .next s₁ ∧ s₁.kept = s.kept := by
  refine ⟨_, rfl, ?_⟩
  repeat' (first | with_reducible rfl | with_reducible assumption | with_reducible refine (State.mgWrite_kept _ _ _ (fun s => ?_)).trans ?_ | with_reducible refine ite_kept ?_ ?_ | split | simp only [↓apply_ite State.kept, ite_self, ↓State.kept_mk, State.kept_eta, implies_true, ↓State.mgWrite_kept, ↓State.stopDisarm_kept] | dsimp only)

theorem execDumpWrite_kept (ok : Bool) (s : State) : ∃ s₁, execDumpWrite ok s = .next s₁ ∧ s₁.kept = s.kept := by
  refine ⟨_, rfl, ?_⟩
  repeat' (first | with_reducible rfl | with_reducible assumption | with_reducible refine ite_kept ?_ ?_ | split | simp only [↓apply_ite State.kept, ite_self, ↓State.kept_mk, State.kept_eta, implies_true, ↓State.dumpWrite_kept] | dsimp only)

theorem execDumpComplete_kept (s : State) : ∃ s₁, execDumpComplete s = .next s₁ ∧ s₁.kept = s.kept := by
  refine ⟨_, rfl, ?_⟩
  repeat' (first | with_reducible rfl | with_reducible assumption | with_reducible refine ite_kept ?_ ?_ | split | simp only [↓apply_ite State.kept, ite_self, ↓State.kept_mk, State.kept_eta, implies_true, ↓State.dumpComplete_kept] | dsimp only)

theorem execFltDumpDataRead_kept (s : State) : ∃ s₁, execFltDumpDataRead s = .next s₁ ∧ s₁.kept = s.kept := by
  refine ⟨_, rfl, ?_⟩
  repeat' (first | with_reducible rfl | with_reducible assumption | with_reducible refine (State.mgRead_kept _ _ _ (fun s => ?_)).trans ?_ | with_reducible refine ite_kept ?_ ?_ | split | simp only [↓apply_ite State.kept, ite_self, ↓State.kept_mk, State.kept_eta, implies_true, ↓State.dumpAdvance_kept, ↓State.mgRead_kept] | dsimp only)

theorem execRegisterWrite_calm (src : MgSource) (r : MgReq) (s : State) : ∃ s₁, execRegisterWrite src r s = .next s₁ ∧ Kept.Calm s.kept s₁.kept := by
  refine ⟨_, rfl, ?_⟩
  repeat' (first | with_reducible assumption | with_reducible exact Kept.Calm.refl _ | with_reducible refine (State.driverReq_calm _ _).after ?_ | with_reducible refine (State.fawnWrite_calm _ _ _ _).after ?_ | with_reducible refine (State.boardWrite_calm _ _ _).after ?_ | with_reducible refine ite_calm ?_ ?_ | split | simp only [↓State.kept_mk, State.kept_eta] | dsimp only | with_reducible refine calm_mk ?_)

theorem execTickBoundary_tame (s : State) : ∃ s₁, execTickBoundary s = .next s₁ ∧ Kept.Tame s.kept s₁.kept := by
  refine ⟨_, rfl, ?_⟩
  repeat' (first | with_reducible assumption | with_reducible exact Kept.Tame.refl _ | with_reducible refine (State.boundary_tame _).after ?_ | with_reducible refine (State.dozeBoundary_tame _).after ?_ | with_reducible refine ite_tame ?_ ?_ | split | simp only [↓State.kept_mk, State.kept_eta, ↓State.power_kept] | dsimp only | with_reducible refine tame_mk ?_)

end Sys2Proof.Machine
end

