-- ==== Sys2Proof/Laws/Ops.lean ====
section
/-! SUPPORT. What each shared operation over the state may touch, said once: one lemma for each operation, and one for
each field it leaves. -/

namespace Sys2Proof.Machine

variable (s : State)

/-! ### `State.ring` -/

/-- An event ring is part of `obs`. -/
theorem State.ring_eq (u c a : Nat) : s.ring u c a = { s with obs := (s.ring u c a).obs } := by
  unfold State.ring
  split <;> rfl

@[simp] theorem State.ring_blk (u c a : Nat) : (s.ring u c a).blk = s.blk := by rw [State.ring_eq]
@[simp] theorem State.ring_ports (u c a : Nat) : (s.ring u c a).ports = s.ports := by rw [State.ring_eq]
@[simp] theorem State.ring_tiles (u c a : Nat) : (s.ring u c a).tiles = s.tiles := by rw [State.ring_eq]
@[simp] theorem State.ring_bindings (u c a : Nat) : (s.ring u c a).bindings = s.bindings := by rw [State.ring_eq]
@[simp] theorem State.ring_losing (u c a : Nat) : (s.ring u c a).losing = s.losing := by rw [State.ring_eq]
@[simp] theorem State.ring_hostTags (u c a : Nat) : (s.ring u c a).hostTags = s.hostTags := by rw [State.ring_eq]
@[simp] theorem State.ring_reqs (u c a : Nat) : (s.ring u c a).reqs = s.reqs := by rw [State.ring_eq]
@[simp] theorem State.ring_test (u c a : Nat) : (s.ring u c a).test = s.test := by rw [State.ring_eq]
@[simp] theorem State.ring_mem (u c a : Nat) : (s.ring u c a).mem = s.mem := by rw [State.ring_eq]
@[simp] theorem State.ring_held (u c a : Nat) : (s.ring u c a).held = s.held := by rw [State.ring_eq]
@[simp] theorem State.ring_own (u c a : Nat) : (s.ring u c a).own = s.own := by rw [State.ring_eq]
@[simp] theorem State.ring_cleaning (u c a : Nat) : (s.ring u c a).cleaning = s.cleaning := by rw [State.ring_eq]
@[simp] theorem State.ring_slc (u c a : Nat) : (s.ring u c a).slc = s.slc := by rw [State.ring_eq]
@[simp] theorem State.ring_fncs (u c a : Nat) : (s.ring u c a).fncs = s.fncs := by rw [State.ring_eq]
@[simp] theorem State.ring_views (u c a : Nat) : (s.ring u c a).views = s.views := by rw [State.ring_eq]
@[simp] theorem State.ring_dirty (u c a : Nat) : (s.ring u c a).dirty = s.dirty := by rw [State.ring_eq]
@[simp] theorem State.ring_img (u c a : Nat) : (s.ring u c a).img = s.img := by rw [State.ring_eq]
@[simp] theorem State.ring_homes (u c a : Nat) : (s.ring u c a).homes = s.homes := by rw [State.ring_eq]
@[simp] theorem State.ring_txns (u c a : Nat) : (s.ring u c a).txns = s.txns := by rw [State.ring_eq]
@[simp] theorem State.ring_flushes (u c a : Nat) : (s.ring u c a).flushes = s.flushes := by rw [State.ring_eq]
@[simp] theorem State.ring_homeTimeout (u c a : Nat) : (s.ring u c a).homeTimeout = s.homeTimeout := by rw [State.ring_eq]
@[simp] theorem State.ring_qos (u c a : Nat) : (s.ring u c a).qos = s.qos := by rw [State.ring_eq]
@[simp] theorem State.ring_keys (u c a : Nat) : (s.ring u c a).keys = s.keys := by rw [State.ring_eq]
@[simp] theorem State.ring_mpt (u c a : Nat) : (s.ring u c a).mpt = s.mpt := by rw [State.ring_eq]
@[simp] theorem State.ring_guardOps (u c a : Nat) : (s.ring u c a).guardOps = s.guardOps := by rw [State.ring_eq]
@[simp] theorem State.ring_rw (u c a : Nat) : (s.ring u c a).rw = s.rw := by rw [State.ring_eq]
@[simp] theorem State.ring_jobs (u c a : Nat) : (s.ring u c a).jobs = s.jobs := by rw [State.ring_eq]
@[simp] theorem State.ring_engines (u c a : Nat) : (s.ring u c a).engines = s.engines := by rw [State.ring_eq]
@[simp] theorem State.ring_seqs (u c a : Nat) : (s.ring u c a).seqs = s.seqs := by rw [State.ring_eq]
@[simp] theorem State.ring_seqTlb (u c a : Nat) : (s.ring u c a).seqTlb = s.seqTlb := by rw [State.ring_eq]
@[simp] theorem State.ring_tin (u c a : Nat) : (s.ring u c a).tin = s.tin := by rw [State.ring_eq]
@[simp] theorem State.ring_tines (u c a : Nat) : (s.ring u c a).tines = s.tines := by rw [State.ring_eq]
@[simp] theorem State.ring_sas (u c a : Nat) : (s.ring u c a).sas = s.sas := by rw [State.ring_eq]
@[simp] theorem State.ring_paths (u c a : Nat) : (s.ring u c a).paths = s.paths := by rw [State.ring_eq]
@[simp] theorem State.ring_inbox (u c a : Nat) : (s.ring u c a).inbox = s.inbox := by rw [State.ring_eq]
@[simp] theorem State.ring_remotes (u c a : Nat) : (s.ring u c a).remotes = s.remotes := by rw [State.ring_eq]
@[simp] theorem State.ring_proxies (u c a : Nat) : (s.ring u c a).proxies = s.proxies := by rw [State.ring_eq]
@[simp] theorem State.ring_linkFences (u c a : Nat) : (s.ring u c a).linkFences = s.linkFences := by rw [State.ring_eq]
@[simp] theorem State.ring_ctxs (u c a : Nat) : (s.ring u c a).ctxs = s.ctxs := by rw [State.ring_eq]
@[simp] theorem State.ring_objs (u c a : Nat) : (s.ring u c a).objs = s.objs := by rw [State.ring_eq]
@[simp] theorem State.ring_fences (u c a : Nat) : (s.ring u c a).fences = s.fences := by rw [State.ring_eq]
@[simp] theorem State.ring_badFences (u c a : Nat) : (s.ring u c a).badFences = s.badFences := by rw [State.ring_eq]
@[simp] theorem State.ring_fpages (u c a : Nat) : (s.ring u c a).fpages = s.fpages := by rw [State.ring_eq]
@[simp] theorem State.ring_ctxWin (u c a : Nat) : (s.ring u c a).ctxWin = s.ctxWin := by rw [State.ring_eq]
@[simp] theorem State.ring_slots (u c a : Nat) : (s.ring u c a).slots = s.slots := by rw [State.ring_eq]
@[simp] theorem State.ring_fills (u c a : Nat) : (s.ring u c a).fills = s.fills := by rw [State.ring_eq]
@[simp] theorem State.ring_vault (u c a : Nat) : (s.ring u c a).vault = s.vault := by rw [State.ring_eq]
@[simp] theorem State.ring_flt (u c a : Nat) : (s.ring u c a).flt = s.flt := by rw [State.ring_eq]
@[simp] theorem State.ring_units (u c a : Nat) : (s.ring u c a).units = s.units := by rw [State.ring_eq]
@[simp] theorem State.ring_fawn (u c a : Nat) : (s.ring u c a).fawn = s.fawn := by rw [State.ring_eq]
@[simp] theorem State.ring_pair (u c a : Nat) : (s.ring u c a).pair = s.pair := by rw [State.ring_eq]
@[simp] theorem State.ring_sink (u c a : Nat) : (s.ring u c a).sink = s.sink := by rw [State.ring_eq]
@[simp] theorem State.ring_out (u c a : Nat) : (s.ring u c a).out = s.out := by rw [State.ring_eq]
@[simp] theorem State.ring_freeCount (u c a : Nat) : (s.ring u c a).freeCount = s.freeCount := by rw [State.ring_eq]
@[simp] theorem State.ring_nextId (u c a : Nat) : (s.ring u c a).nextId = s.nextId := by rw [State.ring_eq]
@[simp] theorem State.ring_mgTag (u c a : Nat) : (s.ring u c a).mgTag = s.mgTag := by rw [State.ring_eq]
@[simp] theorem State.ring_pending (u c a : Nat) : (s.ring u c a).pending = s.pending := by rw [State.ring_eq]

/-! ### `State.count` -/

/-- A slice counter is part of `obs`. -/
theorem State.count_eq (sl k n : Nat) : s.count sl k n = { s with obs := (s.count sl k n).obs } := rfl

@[simp] theorem State.count_blk (sl k n : Nat) : (s.count sl k n).blk = s.blk := by rw [State.count_eq]
@[simp] theorem State.count_ports (sl k n : Nat) : (s.count sl k n).ports = s.ports := by rw [State.count_eq]
@[simp] theorem State.count_tiles (sl k n : Nat) : (s.count sl k n).tiles = s.tiles := by rw [State.count_eq]
@[simp] theorem State.count_bindings (sl k n : Nat) : (s.count sl k n).bindings = s.bindings := by rw [State.count_eq]
@[simp] theorem State.count_losing (sl k n : Nat) : (s.count sl k n).losing = s.losing := by rw [State.count_eq]
@[simp] theorem State.count_hostTags (sl k n : Nat) : (s.count sl k n).hostTags = s.hostTags := by rw [State.count_eq]
@[simp] theorem State.count_reqs (sl k n : Nat) : (s.count sl k n).reqs = s.reqs := by rw [State.count_eq]
@[simp] theorem State.count_test (sl k n : Nat) : (s.count sl k n).test = s.test := by rw [State.count_eq]
@[simp] theorem State.count_mem (sl k n : Nat) : (s.count sl k n).mem = s.mem := by rw [State.count_eq]
@[simp] theorem State.count_held (sl k n : Nat) : (s.count sl k n).held = s.held := by rw [State.count_eq]
@[simp] theorem State.count_own (sl k n : Nat) : (s.count sl k n).own = s.own := by rw [State.count_eq]
@[simp] theorem State.count_cleaning (sl k n : Nat) : (s.count sl k n).cleaning = s.cleaning := by rw [State.count_eq]
@[simp] theorem State.count_slc (sl k n : Nat) : (s.count sl k n).slc = s.slc := by rw [State.count_eq]
@[simp] theorem State.count_fncs (sl k n : Nat) : (s.count sl k n).fncs = s.fncs := by rw [State.count_eq]
@[simp] theorem State.count_views (sl k n : Nat) : (s.count sl k n).views = s.views := by rw [State.count_eq]
@[simp] theorem State.count_dirty (sl k n : Nat) : (s.count sl k n).dirty = s.dirty := by rw [State.count_eq]
@[simp] theorem State.count_img (sl k n : Nat) : (s.count sl k n).img = s.img := by rw [State.count_eq]
@[simp] theorem State.count_homes (sl k n : Nat) : (s.count sl k n).homes = s.homes := by rw [State.count_eq]
@[simp] theorem State.count_txns (sl k n : Nat) : (s.count sl k n).txns = s.txns := by rw [State.count_eq]
@[simp] theorem State.count_flushes (sl k n : Nat) : (s.count sl k n).flushes = s.flushes := by rw [State.count_eq]
@[simp] theorem State.count_homeTimeout (sl k n : Nat) : (s.count sl k n).homeTimeout = s.homeTimeout := by rw [State.count_eq]
@[simp] theorem State.count_qos (sl k n : Nat) : (s.count sl k n).qos = s.qos := by rw [State.count_eq]
@[simp] theorem State.count_keys (sl k n : Nat) : (s.count sl k n).keys = s.keys := by rw [State.count_eq]
@[simp] theorem State.count_mpt (sl k n : Nat) : (s.count sl k n).mpt = s.mpt := by rw [State.count_eq]
@[simp] theorem State.count_guardOps (sl k n : Nat) : (s.count sl k n).guardOps = s.guardOps := by rw [State.count_eq]
@[simp] theorem State.count_rw (sl k n : Nat) : (s.count sl k n).rw = s.rw := by rw [State.count_eq]
@[simp] theorem State.count_jobs (sl k n : Nat) : (s.count sl k n).jobs = s.jobs := by rw [State.count_eq]
@[simp] theorem State.count_engines (sl k n : Nat) : (s.count sl k n).engines = s.engines := by rw [State.count_eq]
@[simp] theorem State.count_seqs (sl k n : Nat) : (s.count sl k n).seqs = s.seqs := by rw [State.count_eq]
@[simp] theorem State.count_seqTlb (sl k n : Nat) : (s.count sl k n).seqTlb = s.seqTlb := by rw [State.count_eq]
@[simp] theorem State.count_tin (sl k n : Nat) : (s.count sl k n).tin = s.tin := by rw [State.count_eq]
@[simp] theorem State.count_tines (sl k n : Nat) : (s.count sl k n).tines = s.tines := by rw [State.count_eq]
@[simp] theorem State.count_sas (sl k n : Nat) : (s.count sl k n).sas = s.sas := by rw [State.count_eq]
@[simp] theorem State.count_paths (sl k n : Nat) : (s.count sl k n).paths = s.paths := by rw [State.count_eq]
@[simp] theorem State.count_inbox (sl k n : Nat) : (s.count sl k n).inbox = s.inbox := by rw [State.count_eq]
@[simp] theorem State.count_remotes (sl k n : Nat) : (s.count sl k n).remotes = s.remotes := by rw [State.count_eq]
@[simp] theorem State.count_proxies (sl k n : Nat) : (s.count sl k n).proxies = s.proxies := by rw [State.count_eq]
@[simp] theorem State.count_linkFences (sl k n : Nat) : (s.count sl k n).linkFences = s.linkFences := by rw [State.count_eq]
@[simp] theorem State.count_ctxs (sl k n : Nat) : (s.count sl k n).ctxs = s.ctxs := by rw [State.count_eq]
@[simp] theorem State.count_objs (sl k n : Nat) : (s.count sl k n).objs = s.objs := by rw [State.count_eq]
@[simp] theorem State.count_fences (sl k n : Nat) : (s.count sl k n).fences = s.fences := by rw [State.count_eq]
@[simp] theorem State.count_badFences (sl k n : Nat) : (s.count sl k n).badFences = s.badFences := by rw [State.count_eq]
@[simp] theorem State.count_fpages (sl k n : Nat) : (s.count sl k n).fpages = s.fpages := by rw [State.count_eq]
@[simp] theorem State.count_ctxWin (sl k n : Nat) : (s.count sl k n).ctxWin = s.ctxWin := by rw [State.count_eq]
@[simp] theorem State.count_slots (sl k n : Nat) : (s.count sl k n).slots = s.slots := by rw [State.count_eq]
@[simp] theorem State.count_fills (sl k n : Nat) : (s.count sl k n).fills = s.fills := by rw [State.count_eq]
@[simp] theorem State.count_vault (sl k n : Nat) : (s.count sl k n).vault = s.vault := by rw [State.count_eq]
@[simp] theorem State.count_flt (sl k n : Nat) : (s.count sl k n).flt = s.flt := by rw [State.count_eq]
@[simp] theorem State.count_units (sl k n : Nat) : (s.count sl k n).units = s.units := by rw [State.count_eq]
@[simp] theorem State.count_fawn (sl k n : Nat) : (s.count sl k n).fawn = s.fawn := by rw [State.count_eq]
@[simp] theorem State.count_pair (sl k n : Nat) : (s.count sl k n).pair = s.pair := by rw [State.count_eq]
@[simp] theorem State.count_sink (sl k n : Nat) : (s.count sl k n).sink = s.sink := by rw [State.count_eq]
@[simp] theorem State.count_out (sl k n : Nat) : (s.count sl k n).out = s.out := by rw [State.count_eq]
@[simp] theorem State.count_freeCount (sl k n : Nat) : (s.count sl k n).freeCount = s.freeCount := by rw [State.count_eq]
@[simp] theorem State.count_nextId (sl k n : Nat) : (s.count sl k n).nextId = s.nextId := by rw [State.count_eq]
@[simp] theorem State.count_mgTag (sl k n : Nat) : (s.count sl k n).mgTag = s.mgTag := by rw [State.count_eq]
@[simp] theorem State.count_pending (sl k n : Nat) : (s.count sl k n).pending = s.pending := by rw [State.count_eq]

/-! ### `State.outcome` -/

/-- An outcome is counted in `obs`. -/
theorem State.outcome_eq (sl t e : Nat) : s.outcome sl t e = { s with obs := (s.outcome sl t e).obs } := rfl

@[simp] theorem State.outcome_blk (sl t e : Nat) : (s.outcome sl t e).blk = s.blk := by rw [State.outcome_eq]
@[simp] theorem State.outcome_ports (sl t e : Nat) : (s.outcome sl t e).ports = s.ports := by rw [State.outcome_eq]
@[simp] theorem State.outcome_tiles (sl t e : Nat) : (s.outcome sl t e).tiles = s.tiles := by rw [State.outcome_eq]
@[simp] theorem State.outcome_bindings (sl t e : Nat) : (s.outcome sl t e).bindings = s.bindings := by rw [State.outcome_eq]
@[simp] theorem State.outcome_losing (sl t e : Nat) : (s.outcome sl t e).losing = s.losing := by rw [State.outcome_eq]
@[simp] theorem State.outcome_hostTags (sl t e : Nat) : (s.outcome sl t e).hostTags = s.hostTags := by rw [State.outcome_eq]
@[simp] theorem State.outcome_reqs (sl t e : Nat) : (s.outcome sl t e).reqs = s.reqs := by rw [State.outcome_eq]
@[simp] theorem State.outcome_test (sl t e : Nat) : (s.outcome sl t e).test = s.test := by rw [State.outcome_eq]
@[simp] theorem State.outcome_mem (sl t e : Nat) : (s.outcome sl t e).mem = s.mem := by rw [State.outcome_eq]
@[simp] theorem State.outcome_held (sl t e : Nat) : (s.outcome sl t e).held = s.held := by rw [State.outcome_eq]
@[simp] theorem State.outcome_own (sl t e : Nat) : (s.outcome sl t e).own = s.own := by rw [State.outcome_eq]
@[simp] theorem State.outcome_cleaning (sl t e : Nat) : (s.outcome sl t e).cleaning = s.cleaning := by rw [State.outcome_eq]
@[simp] theorem State.outcome_slc (sl t e : Nat) : (s.outcome sl t e).slc = s.slc := by rw [State.outcome_eq]
@[simp] theorem State.outcome_fncs (sl t e : Nat) : (s.outcome sl t e).fncs = s.fncs := by rw [State.outcome_eq]
@[simp] theorem State.outcome_views (sl t e : Nat) : (s.outcome sl t e).views = s.views := by rw [State.outcome_eq]
@[simp] theorem State.outcome_dirty (sl t e : Nat) : (s.outcome sl t e).dirty = s.dirty := by rw [State.outcome_eq]
@[simp] theorem State.outcome_img (sl t e : Nat) : (s.outcome sl t e).img = s.img := by rw [State.outcome_eq]
@[simp] theorem State.outcome_homes (sl t e : Nat) : (s.outcome sl t e).homes = s.homes := by rw [State.outcome_eq]
@[simp] theorem State.outcome_txns (sl t e : Nat) : (s.outcome sl t e).txns = s.txns := by rw [State.outcome_eq]
@[simp] theorem State.outcome_flushes (sl t e : Nat) : (s.outcome sl t e).flushes = s.flushes := by rw [State.outcome_eq]
@[simp] theorem State.outcome_homeTimeout (sl t e : Nat) : (s.outcome sl t e).homeTimeout = s.homeTimeout := by rw [State.outcome_eq]
@[simp] theorem State.outcome_qos (sl t e : Nat) : (s.outcome sl t e).qos = s.qos := by rw [State.outcome_eq]
@[simp] theorem State.outcome_keys (sl t e : Nat) : (s.outcome sl t e).keys = s.keys := by rw [State.outcome_eq]
@[simp] theorem State.outcome_mpt (sl t e : Nat) : (s.outcome sl t e).mpt = s.mpt := by rw [State.outcome_eq]
@[simp] theorem State.outcome_guardOps (sl t e : Nat) : (s.outcome sl t e).guardOps = s.guardOps := by rw [State.outcome_eq]
@[simp] theorem State.outcome_rw (sl t e : Nat) : (s.outcome sl t e).rw = s.rw := by rw [State.outcome_eq]
@[simp] theorem State.outcome_jobs (sl t e : Nat) : (s.outcome sl t e).jobs = s.jobs := by rw [State.outcome_eq]
@[simp] theorem State.outcome_engines (sl t e : Nat) : (s.outcome sl t e).engines = s.engines := by rw [State.outcome_eq]
@[simp] theorem State.outcome_seqs (sl t e : Nat) : (s.outcome sl t e).seqs = s.seqs := by rw [State.outcome_eq]
@[simp] theorem State.outcome_seqTlb (sl t e : Nat) : (s.outcome sl t e).seqTlb = s.seqTlb := by rw [State.outcome_eq]
@[simp] theorem State.outcome_tin (sl t e : Nat) : (s.outcome sl t e).tin = s.tin := by rw [State.outcome_eq]
@[simp] theorem State.outcome_tines (sl t e : Nat) : (s.outcome sl t e).tines = s.tines := by rw [State.outcome_eq]
@[simp] theorem State.outcome_sas (sl t e : Nat) : (s.outcome sl t e).sas = s.sas := by rw [State.outcome_eq]
@[simp] theorem State.outcome_paths (sl t e : Nat) : (s.outcome sl t e).paths = s.paths := by rw [State.outcome_eq]
@[simp] theorem State.outcome_inbox (sl t e : Nat) : (s.outcome sl t e).inbox = s.inbox := by rw [State.outcome_eq]
@[simp] theorem State.outcome_remotes (sl t e : Nat) : (s.outcome sl t e).remotes = s.remotes := by rw [State.outcome_eq]
@[simp] theorem State.outcome_proxies (sl t e : Nat) : (s.outcome sl t e).proxies = s.proxies := by rw [State.outcome_eq]
@[simp] theorem State.outcome_linkFences (sl t e : Nat) : (s.outcome sl t e).linkFences = s.linkFences := by rw [State.outcome_eq]
@[simp] theorem State.outcome_ctxs (sl t e : Nat) : (s.outcome sl t e).ctxs = s.ctxs := by rw [State.outcome_eq]
@[simp] theorem State.outcome_objs (sl t e : Nat) : (s.outcome sl t e).objs = s.objs := by rw [State.outcome_eq]
@[simp] theorem State.outcome_fences (sl t e : Nat) : (s.outcome sl t e).fences = s.fences := by rw [State.outcome_eq]
@[simp] theorem State.outcome_badFences (sl t e : Nat) : (s.outcome sl t e).badFences = s.badFences := by rw [State.outcome_eq]
@[simp] theorem State.outcome_fpages (sl t e : Nat) : (s.outcome sl t e).fpages = s.fpages := by rw [State.outcome_eq]
@[simp] theorem State.outcome_ctxWin (sl t e : Nat) : (s.outcome sl t e).ctxWin = s.ctxWin := by rw [State.outcome_eq]
@[simp] theorem State.outcome_slots (sl t e : Nat) : (s.outcome sl t e).slots = s.slots := by rw [State.outcome_eq]
@[simp] theorem State.outcome_fills (sl t e : Nat) : (s.outcome sl t e).fills = s.fills := by rw [State.outcome_eq]
@[simp] theorem State.outcome_vault (sl t e : Nat) : (s.outcome sl t e).vault = s.vault := by rw [State.outcome_eq]
@[simp] theorem State.outcome_flt (sl t e : Nat) : (s.outcome sl t e).flt = s.flt := by rw [State.outcome_eq]
@[simp] theorem State.outcome_units (sl t e : Nat) : (s.outcome sl t e).units = s.units := by rw [State.outcome_eq]
@[simp] theorem State.outcome_fawn (sl t e : Nat) : (s.outcome sl t e).fawn = s.fawn := by rw [State.outcome_eq]
@[simp] theorem State.outcome_pair (sl t e : Nat) : (s.outcome sl t e).pair = s.pair := by rw [State.outcome_eq]
@[simp] theorem State.outcome_sink (sl t e : Nat) : (s.outcome sl t e).sink = s.sink := by rw [State.outcome_eq]
@[simp] theorem State.outcome_out (sl t e : Nat) : (s.outcome sl t e).out = s.out := by rw [State.outcome_eq]
@[simp] theorem State.outcome_freeCount (sl t e : Nat) : (s.outcome sl t e).freeCount = s.freeCount := by rw [State.outcome_eq]
@[simp] theorem State.outcome_nextId (sl t e : Nat) : (s.outcome sl t e).nextId = s.nextId := by rw [State.outcome_eq]
@[simp] theorem State.outcome_mgTag (sl t e : Nat) : (s.outcome sl t e).mgTag = s.mgTag := by rw [State.outcome_eq]
@[simp] theorem State.outcome_pending (sl t e : Nat) : (s.outcome sl t e).pending = s.pending := by rw [State.outcome_eq]

/-! ### `State.note` -/

/-- A selected event is counted in `obs`. -/
theorem State.note_eq (u ev : Nat) (sl : Option Nat) (n : Nat) : s.note u ev sl n = { s with obs := (s.note u ev sl n).obs } := rfl

@[simp] theorem State.note_blk (u ev : Nat) (sl : Option Nat) (n : Nat) : (s.note u ev sl n).blk = s.blk := by rw [State.note_eq]
@[simp] theorem State.note_ports (u ev : Nat) (sl : Option Nat) (n : Nat) : (s.note u ev sl n).ports = s.ports := by rw [State.note_eq]
@[simp] theorem State.note_tiles (u ev : Nat) (sl : Option Nat) (n : Nat) : (s.note u ev sl n).tiles = s.tiles := by rw [State.note_eq]
@[simp] theorem State.note_bindings (u ev : Nat) (sl : Option Nat) (n : Nat) : (s.note u ev sl n).bindings = s.bindings := by rw [State.note_eq]
@[simp] theorem State.note_losing (u ev : Nat) (sl : Option Nat) (n : Nat) : (s.note u ev sl n).losing = s.losing := by rw [State.note_eq]
@[simp] theorem State.note_hostTags (u ev : Nat) (sl : Option Nat) (n : Nat) : (s.note u ev sl n).hostTags = s.hostTags := by rw [State.note_eq]
@[simp] theorem State.note_reqs (u ev : Nat) (sl : Option Nat) (n : Nat) : (s.note u ev sl n).reqs = s.reqs := by rw [State.note_eq]
@[simp] theorem State.note_test (u ev : Nat) (sl : Option Nat) (n : Nat) : (s.note u ev sl n).test = s.test := by rw [State.note_eq]
@[simp] theorem State.note_mem (u ev : Nat) (sl : Option Nat) (n : Nat) : (s.note u ev sl n).mem = s.mem := by rw [State.note_eq]
@[simp] theorem State.note_held (u ev : Nat) (sl : Option Nat) (n : Nat) : (s.note u ev sl n).held = s.held := by rw [State.note_eq]
@[simp] theorem State.note_own (u ev : Nat) (sl : Option Nat) (n : Nat) : (s.note u ev sl n).own = s.own := by rw [State.note_eq]
@[simp] theorem State.note_cleaning (u ev : Nat) (sl : Option Nat) (n : Nat) : (s.note u ev sl n).cleaning = s.cleaning := by rw [State.note_eq]
@[simp] theorem State.note_slc (u ev : Nat) (sl : Option Nat) (n : Nat) : (s.note u ev sl n).slc = s.slc := by rw [State.note_eq]
@[simp] theorem State.note_fncs (u ev : Nat) (sl : Option Nat) (n : Nat) : (s.note u ev sl n).fncs = s.fncs := by rw [State.note_eq]
@[simp] theorem State.note_views (u ev : Nat) (sl : Option Nat) (n : Nat) : (s.note u ev sl n).views = s.views := by rw [State.note_eq]
@[simp] theorem State.note_dirty (u ev : Nat) (sl : Option Nat) (n : Nat) : (s.note u ev sl n).dirty = s.dirty := by rw [State.note_eq]
@[simp] theorem State.note_img (u ev : Nat) (sl : Option Nat) (n : Nat) : (s.note u ev sl n).img = s.img := by rw [State.note_eq]
@[simp] theorem State.note_homes (u ev : Nat) (sl : Option Nat) (n : Nat) : (s.note u ev sl n).homes = s.homes := by rw [State.note_eq]
@[simp] theorem State.note_txns (u ev : Nat) (sl : Option Nat) (n : Nat) : (s.note u ev sl n).txns = s.txns := by rw [State.note_eq]
@[simp] theorem State.note_flushes (u ev : Nat) (sl : Option Nat) (n : Nat) : (s.note u ev sl n).flushes = s.flushes := by rw [State.note_eq]
@[simp] theorem State.note_homeTimeout (u ev : Nat) (sl : Option Nat) (n : Nat) : (s.note u ev sl n).homeTimeout = s.homeTimeout := by rw [State.note_eq]
@[simp] theorem State.note_qos (u ev : Nat) (sl : Option Nat) (n : Nat) : (s.note u ev sl n).qos = s.qos := by rw [State.note_eq]
@[simp] theorem State.note_keys (u ev : Nat) (sl : Option Nat) (n : Nat) : (s.note u ev sl n).keys = s.keys := by rw [State.note_eq]
@[simp] theorem State.note_mpt (u ev : Nat) (sl : Option Nat) (n : Nat) : (s.note u ev sl n).mpt = s.mpt := by rw [State.note_eq]
@[simp] theorem State.note_guardOps (u ev : Nat) (sl : Option Nat) (n : Nat) : (s.note u ev sl n).guardOps = s.guardOps := by rw [State.note_eq]
@[simp] theorem State.note_rw (u ev : Nat) (sl : Option Nat) (n : Nat) : (s.note u ev sl n).rw = s.rw := by rw [State.note_eq]
@[simp] theorem State.note_jobs (u ev : Nat) (sl : Option Nat) (n : Nat) : (s.note u ev sl n).jobs = s.jobs := by rw [State.note_eq]
@[simp] theorem State.note_engines (u ev : Nat) (sl : Option Nat) (n : Nat) : (s.note u ev sl n).engines = s.engines := by rw [State.note_eq]
@[simp] theorem State.note_seqs (u ev : Nat) (sl : Option Nat) (n : Nat) : (s.note u ev sl n).seqs = s.seqs := by rw [State.note_eq]
@[simp] theorem State.note_seqTlb (u ev : Nat) (sl : Option Nat) (n : Nat) : (s.note u ev sl n).seqTlb = s.seqTlb := by rw [State.note_eq]
@[simp] theorem State.note_tin (u ev : Nat) (sl : Option Nat) (n : Nat) : (s.note u ev sl n).tin = s.tin := by rw [State.note_eq]
@[simp] theorem State.note_tines (u ev : Nat) (sl : Option Nat) (n : Nat) : (s.note u ev sl n).tines = s.tines := by rw [State.note_eq]
@[simp] theorem State.note_sas (u ev : Nat) (sl : Option Nat) (n : Nat) : (s.note u ev sl n).sas = s.sas := by rw [State.note_eq]
@[simp] theorem State.note_paths (u ev : Nat) (sl : Option Nat) (n : Nat) : (s.note u ev sl n).paths = s.paths := by rw [State.note_eq]
@[simp] theorem State.note_inbox (u ev : Nat) (sl : Option Nat) (n : Nat) : (s.note u ev sl n).inbox = s.inbox := by rw [State.note_eq]
@[simp] theorem State.note_remotes (u ev : Nat) (sl : Option Nat) (n : Nat) : (s.note u ev sl n).remotes = s.remotes := by rw [State.note_eq]
@[simp] theorem State.note_proxies (u ev : Nat) (sl : Option Nat) (n : Nat) : (s.note u ev sl n).proxies = s.proxies := by rw [State.note_eq]
@[simp] theorem State.note_linkFences (u ev : Nat) (sl : Option Nat) (n : Nat) : (s.note u ev sl n).linkFences = s.linkFences := by rw [State.note_eq]
@[simp] theorem State.note_ctxs (u ev : Nat) (sl : Option Nat) (n : Nat) : (s.note u ev sl n).ctxs = s.ctxs := by rw [State.note_eq]
@[simp] theorem State.note_objs (u ev : Nat) (sl : Option Nat) (n : Nat) : (s.note u ev sl n).objs = s.objs := by rw [State.note_eq]
@[simp] theorem State.note_fences (u ev : Nat) (sl : Option Nat) (n : Nat) : (s.note u ev sl n).fences = s.fences := by rw [State.note_eq]
@[simp] theorem State.note_badFences (u ev : Nat) (sl : Option Nat) (n : Nat) : (s.note u ev sl n).badFences = s.badFences := by rw [State.note_eq]
@[simp] theorem State.note_fpages (u ev : Nat) (sl : Option Nat) (n : Nat) : (s.note u ev sl n).fpages = s.fpages := by rw [State.note_eq]
@[simp] theorem State.note_ctxWin (u ev : Nat) (sl : Option Nat) (n : Nat) : (s.note u ev sl n).ctxWin = s.ctxWin := by rw [State.note_eq]
@[simp] theorem State.note_slots (u ev : Nat) (sl : Option Nat) (n : Nat) : (s.note u ev sl n).slots = s.slots := by rw [State.note_eq]
@[simp] theorem State.note_fills (u ev : Nat) (sl : Option Nat) (n : Nat) : (s.note u ev sl n).fills = s.fills := by rw [State.note_eq]
@[simp] theorem State.note_vault (u ev : Nat) (sl : Option Nat) (n : Nat) : (s.note u ev sl n).vault = s.vault := by rw [State.note_eq]
@[simp] theorem State.note_flt (u ev : Nat) (sl : Option Nat) (n : Nat) : (s.note u ev sl n).flt = s.flt := by rw [State.note_eq]
@[simp] theorem State.note_units (u ev : Nat) (sl : Option Nat) (n : Nat) : (s.note u ev sl n).units = s.units := by rw [State.note_eq]
@[simp] theorem State.note_fawn (u ev : Nat) (sl : Option Nat) (n : Nat) : (s.note u ev sl n).fawn = s.fawn := by rw [State.note_eq]
@[simp] theorem State.note_pair (u ev : Nat) (sl : Option Nat) (n : Nat) : (s.note u ev sl n).pair = s.pair := by rw [State.note_eq]
@[simp] theorem State.note_sink (u ev : Nat) (sl : Option Nat) (n : Nat) : (s.note u ev sl n).sink = s.sink := by rw [State.note_eq]
@[simp] theorem State.note_out (u ev : Nat) (sl : Option Nat) (n : Nat) : (s.note u ev sl n).out = s.out := by rw [State.note_eq]
@[simp] theorem State.note_freeCount (u ev : Nat) (sl : Option Nat) (n : Nat) : (s.note u ev sl n).freeCount = s.freeCount := by rw [State.note_eq]
@[simp] theorem State.note_nextId (u ev : Nat) (sl : Option Nat) (n : Nat) : (s.note u ev sl n).nextId = s.nextId := by rw [State.note_eq]
@[simp] theorem State.note_mgTag (u ev : Nat) (sl : Option Nat) (n : Nat) : (s.note u ev sl n).mgTag = s.mgTag := by rw [State.note_eq]
@[simp] theorem State.note_pending (u ev : Nat) (sl : Option Nat) (n : Nat) : (s.note u ev sl n).pending = s.pending := by rw [State.note_eq]

/-! ### `State.raise` -/

/-- A fault goes to its aggregator, a counter and a ring; before phase 4 Fawn keeps its kind. -/
theorem State.raise_eq (u k c a b d e : Nat) : s.raise u k c a b d e = { s with flt := (s.raise u k c a b d e).flt, obs := (s.raise u k c a b d e).obs, fawn := (s.raise u k c a b d e).fawn } := by
  unfold State.raise
  extract_lets m d q f1 f2 s1 s2 f3 s3
  have h1 : s1 = { s with flt := s1.flt } := by unfold s1; split <;> rfl
  have h2 : s2 = { s1 with obs := s2.obs } := by unfold s2; split <;> [rfl; (split <;> rfl)]
  have h3 : s3 = { s2 with fawn := s3.fawn } := by unfold s3; split <;> rfl
  rw [State.ring_eq, h3, h2, h1]

@[simp] theorem State.raise_blk (u k c a b d e : Nat) : (s.raise u k c a b d e).blk = s.blk := by rw [State.raise_eq]
@[simp] theorem State.raise_ports (u k c a b d e : Nat) : (s.raise u k c a b d e).ports = s.ports := by rw [State.raise_eq]
@[simp] theorem State.raise_tiles (u k c a b d e : Nat) : (s.raise u k c a b d e).tiles = s.tiles := by rw [State.raise_eq]
@[simp] theorem State.raise_bindings (u k c a b d e : Nat) : (s.raise u k c a b d e).bindings = s.bindings := by rw [State.raise_eq]
@[simp] theorem State.raise_losing (u k c a b d e : Nat) : (s.raise u k c a b d e).losing = s.losing := by rw [State.raise_eq]
@[simp] theorem State.raise_hostTags (u k c a b d e : Nat) : (s.raise u k c a b d e).hostTags = s.hostTags := by rw [State.raise_eq]
@[simp] theorem State.raise_reqs (u k c a b d e : Nat) : (s.raise u k c a b d e).reqs = s.reqs := by rw [State.raise_eq]
@[simp] theorem State.raise_test (u k c a b d e : Nat) : (s.raise u k c a b d e).test = s.test := by rw [State.raise_eq]
@[simp] theorem State.raise_mem (u k c a b d e : Nat) : (s.raise u k c a b d e).mem = s.mem := by rw [State.raise_eq]
@[simp] theorem State.raise_held (u k c a b d e : Nat) : (s.raise u k c a b d e).held = s.held := by rw [State.raise_eq]
@[simp] theorem State.raise_own (u k c a b d e : Nat) : (s.raise u k c a b d e).own = s.own := by rw [State.raise_eq]
@[simp] theorem State.raise_cleaning (u k c a b d e : Nat) : (s.raise u k c a b d e).cleaning = s.cleaning := by rw [State.raise_eq]
@[simp] theorem State.raise_slc (u k c a b d e : Nat) : (s.raise u k c a b d e).slc = s.slc := by rw [State.raise_eq]
@[simp] theorem State.raise_fncs (u k c a b d e : Nat) : (s.raise u k c a b d e).fncs = s.fncs := by rw [State.raise_eq]
@[simp] theorem State.raise_views (u k c a b d e : Nat) : (s.raise u k c a b d e).views = s.views := by rw [State.raise_eq]
@[simp] theorem State.raise_dirty (u k c a b d e : Nat) : (s.raise u k c a b d e).dirty = s.dirty := by rw [State.raise_eq]
@[simp] theorem State.raise_img (u k c a b d e : Nat) : (s.raise u k c a b d e).img = s.img := by rw [State.raise_eq]
@[simp] theorem State.raise_homes (u k c a b d e : Nat) : (s.raise u k c a b d e).homes = s.homes := by rw [State.raise_eq]
@[simp] theorem State.raise_txns (u k c a b d e : Nat) : (s.raise u k c a b d e).txns = s.txns := by rw [State.raise_eq]
@[simp] theorem State.raise_flushes (u k c a b d e : Nat) : (s.raise u k c a b d e).flushes = s.flushes := by rw [State.raise_eq]
@[simp] theorem State.raise_homeTimeout (u k c a b d e : Nat) : (s.raise u k c a b d e).homeTimeout = s.homeTimeout := by rw [State.raise_eq]
@[simp] theorem State.raise_qos (u k c a b d e : Nat) : (s.raise u k c a b d e).qos = s.qos := by rw [State.raise_eq]
@[simp] theorem State.raise_keys (u k c a b d e : Nat) : (s.raise u k c a b d e).keys = s.keys := by rw [State.raise_eq]
@[simp] theorem State.raise_mpt (u k c a b d e : Nat) : (s.raise u k c a b d e).mpt = s.mpt := by rw [State.raise_eq]
@[simp] theorem State.raise_guardOps (u k c a b d e : Nat) : (s.raise u k c a b d e).guardOps = s.guardOps := by rw [State.raise_eq]
@[simp] theorem State.raise_rw (u k c a b d e : Nat) : (s.raise u k c a b d e).rw = s.rw := by rw [State.raise_eq]
@[simp] theorem State.raise_jobs (u k c a b d e : Nat) : (s.raise u k c a b d e).jobs = s.jobs := by rw [State.raise_eq]
@[simp] theorem State.raise_engines (u k c a b d e : Nat) : (s.raise u k c a b d e).engines = s.engines := by rw [State.raise_eq]
@[simp] theorem State.raise_seqs (u k c a b d e : Nat) : (s.raise u k c a b d e).seqs = s.seqs := by rw [State.raise_eq]
@[simp] theorem State.raise_seqTlb (u k c a b d e : Nat) : (s.raise u k c a b d e).seqTlb = s.seqTlb := by rw [State.raise_eq]
@[simp] theorem State.raise_tin (u k c a b d e : Nat) : (s.raise u k c a b d e).tin = s.tin := by rw [State.raise_eq]
@[simp] theorem State.raise_tines (u k c a b d e : Nat) : (s.raise u k c a b d e).tines = s.tines := by rw [State.raise_eq]
@[simp] theorem State.raise_sas (u k c a b d e : Nat) : (s.raise u k c a b d e).sas = s.sas := by rw [State.raise_eq]
@[simp] theorem State.raise_paths (u k c a b d e : Nat) : (s.raise u k c a b d e).paths = s.paths := by rw [State.raise_eq]
@[simp] theorem State.raise_inbox (u k c a b d e : Nat) : (s.raise u k c a b d e).inbox = s.inbox := by rw [State.raise_eq]
@[simp] theorem State.raise_remotes (u k c a b d e : Nat) : (s.raise u k c a b d e).remotes = s.remotes := by rw [State.raise_eq]
@[simp] theorem State.raise_proxies (u k c a b d e : Nat) : (s.raise u k c a b d e).proxies = s.proxies := by rw [State.raise_eq]
@[simp] theorem State.raise_linkFences (u k c a b d e : Nat) : (s.raise u k c a b d e).linkFences = s.linkFences := by rw [State.raise_eq]
@[simp] theorem State.raise_ctxs (u k c a b d e : Nat) : (s.raise u k c a b d e).ctxs = s.ctxs := by rw [State.raise_eq]
@[simp] theorem State.raise_objs (u k c a b d e : Nat) : (s.raise u k c a b d e).objs = s.objs := by rw [State.raise_eq]
@[simp] theorem State.raise_fences (u k c a b d e : Nat) : (s.raise u k c a b d e).fences = s.fences := by rw [State.raise_eq]
@[simp] theorem State.raise_badFences (u k c a b d e : Nat) : (s.raise u k c a b d e).badFences = s.badFences := by rw [State.raise_eq]
@[simp] theorem State.raise_fpages (u k c a b d e : Nat) : (s.raise u k c a b d e).fpages = s.fpages := by rw [State.raise_eq]
@[simp] theorem State.raise_ctxWin (u k c a b d e : Nat) : (s.raise u k c a b d e).ctxWin = s.ctxWin := by rw [State.raise_eq]
@[simp] theorem State.raise_slots (u k c a b d e : Nat) : (s.raise u k c a b d e).slots = s.slots := by rw [State.raise_eq]
@[simp] theorem State.raise_fills (u k c a b d e : Nat) : (s.raise u k c a b d e).fills = s.fills := by rw [State.raise_eq]
@[simp] theorem State.raise_vault (u k c a b d e : Nat) : (s.raise u k c a b d e).vault = s.vault := by rw [State.raise_eq]
@[simp] theorem State.raise_units (u k c a b d e : Nat) : (s.raise u k c a b d e).units = s.units := by rw [State.raise_eq]
@[simp] theorem State.raise_pair (u k c a b d e : Nat) : (s.raise u k c a b d e).pair = s.pair := by rw [State.raise_eq]
@[simp] theorem State.raise_sink (u k c a b d e : Nat) : (s.raise u k c a b d e).sink = s.sink := by rw [State.raise_eq]
@[simp] theorem State.raise_out (u k c a b d e : Nat) : (s.raise u k c a b d e).out = s.out := by rw [State.raise_eq]
@[simp] theorem State.raise_freeCount (u k c a b d e : Nat) : (s.raise u k c a b d e).freeCount = s.freeCount := by rw [State.raise_eq]
@[simp] theorem State.raise_nextId (u k c a b d e : Nat) : (s.raise u k c a b d e).nextId = s.nextId := by rw [State.raise_eq]
@[simp] theorem State.raise_mgTag (u k c a b d e : Nat) : (s.raise u k c a b d e).mgTag = s.mgTag := by rw [State.raise_eq]
@[simp] theorem State.raise_pending (u k c a b d e : Nat) : (s.raise u k c a b d e).pending = s.pending := by rw [State.raise_eq]

/-! ### `State.emitAt` -/

/-- A transfer of a port that drives its outputs. -/
theorem State.emitAt_eq (i : Nat) (o : Output) : s.emitAt i o = { s with out := (s.emitAt i o).out } := by
  unfold State.emitAt
  split <;> rfl

@[simp] theorem State.emitAt_blk (i : Nat) (o : Output) : (s.emitAt i o).blk = s.blk := by rw [State.emitAt_eq]
@[simp] theorem State.emitAt_ports (i : Nat) (o : Output) : (s.emitAt i o).ports = s.ports := by rw [State.emitAt_eq]
@[simp] theorem State.emitAt_tiles (i : Nat) (o : Output) : (s.emitAt i o).tiles = s.tiles := by rw [State.emitAt_eq]
@[simp] theorem State.emitAt_bindings (i : Nat) (o : Output) : (s.emitAt i o).bindings = s.bindings := by rw [State.emitAt_eq]
@[simp] theorem State.emitAt_losing (i : Nat) (o : Output) : (s.emitAt i o).losing = s.losing := by rw [State.emitAt_eq]
@[simp] theorem State.emitAt_hostTags (i : Nat) (o : Output) : (s.emitAt i o).hostTags = s.hostTags := by rw [State.emitAt_eq]
@[simp] theorem State.emitAt_reqs (i : Nat) (o : Output) : (s.emitAt i o).reqs = s.reqs := by rw [State.emitAt_eq]
@[simp] theorem State.emitAt_test (i : Nat) (o : Output) : (s.emitAt i o).test = s.test := by rw [State.emitAt_eq]
@[simp] theorem State.emitAt_mem (i : Nat) (o : Output) : (s.emitAt i o).mem = s.mem := by rw [State.emitAt_eq]
@[simp] theorem State.emitAt_held (i : Nat) (o : Output) : (s.emitAt i o).held = s.held := by rw [State.emitAt_eq]
@[simp] theorem State.emitAt_own (i : Nat) (o : Output) : (s.emitAt i o).own = s.own := by rw [State.emitAt_eq]
@[simp] theorem State.emitAt_cleaning (i : Nat) (o : Output) : (s.emitAt i o).cleaning = s.cleaning := by rw [State.emitAt_eq]
@[simp] theorem State.emitAt_slc (i : Nat) (o : Output) : (s.emitAt i o).slc = s.slc := by rw [State.emitAt_eq]
@[simp] theorem State.emitAt_fncs (i : Nat) (o : Output) : (s.emitAt i o).fncs = s.fncs := by rw [State.emitAt_eq]
@[simp] theorem State.emitAt_views (i : Nat) (o : Output) : (s.emitAt i o).views = s.views := by rw [State.emitAt_eq]
@[simp] theorem State.emitAt_dirty (i : Nat) (o : Output) : (s.emitAt i o).dirty = s.dirty := by rw [State.emitAt_eq]
@[simp] theorem State.emitAt_img (i : Nat) (o : Output) : (s.emitAt i o).img = s.img := by rw [State.emitAt_eq]
@[simp] theorem State.emitAt_homes (i : Nat) (o : Output) : (s.emitAt i o).homes = s.homes := by rw [State.emitAt_eq]
@[simp] theorem State.emitAt_txns (i : Nat) (o : Output) : (s.emitAt i o).txns = s.txns := by rw [State.emitAt_eq]
@[simp] theorem State.emitAt_flushes (i : Nat) (o : Output) : (s.emitAt i o).flushes = s.flushes := by rw [State.emitAt_eq]
@[simp] theorem State.emitAt_homeTimeout (i : Nat) (o : Output) : (s.emitAt i o).homeTimeout = s.homeTimeout := by rw [State.emitAt_eq]
@[simp] theorem State.emitAt_qos (i : Nat) (o : Output) : (s.emitAt i o).qos = s.qos := by rw [State.emitAt_eq]
@[simp] theorem State.emitAt_keys (i : Nat) (o : Output) : (s.emitAt i o).keys = s.keys := by rw [State.emitAt_eq]
@[simp] theorem State.emitAt_mpt (i : Nat) (o : Output) : (s.emitAt i o).mpt = s.mpt := by rw [State.emitAt_eq]
@[simp] theorem State.emitAt_guardOps (i : Nat) (o : Output) : (s.emitAt i o).guardOps = s.guardOps := by rw [State.emitAt_eq]
@[simp] theorem State.emitAt_rw (i : Nat) (o : Output) : (s.emitAt i o).rw = s.rw := by rw [State.emitAt_eq]
@[simp] theorem State.emitAt_jobs (i : Nat) (o : Output) : (s.emitAt i o).jobs = s.jobs := by rw [State.emitAt_eq]
@[simp] theorem State.emitAt_engines (i : Nat) (o : Output) : (s.emitAt i o).engines = s.engines := by rw [State.emitAt_eq]
@[simp] theorem State.emitAt_seqs (i : Nat) (o : Output) : (s.emitAt i o).seqs = s.seqs := by rw [State.emitAt_eq]
@[simp] theorem State.emitAt_seqTlb (i : Nat) (o : Output) : (s.emitAt i o).seqTlb = s.seqTlb := by rw [State.emitAt_eq]
@[simp] theorem State.emitAt_tin (i : Nat) (o : Output) : (s.emitAt i o).tin = s.tin := by rw [State.emitAt_eq]
@[simp] theorem State.emitAt_tines (i : Nat) (o : Output) : (s.emitAt i o).tines = s.tines := by rw [State.emitAt_eq]
@[simp] theorem State.emitAt_sas (i : Nat) (o : Output) : (s.emitAt i o).sas = s.sas := by rw [State.emitAt_eq]
@[simp] theorem State.emitAt_paths (i : Nat) (o : Output) : (s.emitAt i o).paths = s.paths := by rw [State.emitAt_eq]
@[simp] theorem State.emitAt_inbox (i : Nat) (o : Output) : (s.emitAt i o).inbox = s.inbox := by rw [State.emitAt_eq]
@[simp] theorem State.emitAt_remotes (i : Nat) (o : Output) : (s.emitAt i o).remotes = s.remotes := by rw [State.emitAt_eq]
@[simp] theorem State.emitAt_proxies (i : Nat) (o : Output) : (s.emitAt i o).proxies = s.proxies := by rw [State.emitAt_eq]
@[simp] theorem State.emitAt_linkFences (i : Nat) (o : Output) : (s.emitAt i o).linkFences = s.linkFences := by rw [State.emitAt_eq]
@[simp] theorem State.emitAt_ctxs (i : Nat) (o : Output) : (s.emitAt i o).ctxs = s.ctxs := by rw [State.emitAt_eq]
@[simp] theorem State.emitAt_objs (i : Nat) (o : Output) : (s.emitAt i o).objs = s.objs := by rw [State.emitAt_eq]
@[simp] theorem State.emitAt_fences (i : Nat) (o : Output) : (s.emitAt i o).fences = s.fences := by rw [State.emitAt_eq]
@[simp] theorem State.emitAt_badFences (i : Nat) (o : Output) : (s.emitAt i o).badFences = s.badFences := by rw [State.emitAt_eq]
@[simp] theorem State.emitAt_fpages (i : Nat) (o : Output) : (s.emitAt i o).fpages = s.fpages := by rw [State.emitAt_eq]
@[simp] theorem State.emitAt_ctxWin (i : Nat) (o : Output) : (s.emitAt i o).ctxWin = s.ctxWin := by rw [State.emitAt_eq]
@[simp] theorem State.emitAt_slots (i : Nat) (o : Output) : (s.emitAt i o).slots = s.slots := by rw [State.emitAt_eq]
@[simp] theorem State.emitAt_fills (i : Nat) (o : Output) : (s.emitAt i o).fills = s.fills := by rw [State.emitAt_eq]
@[simp] theorem State.emitAt_vault (i : Nat) (o : Output) : (s.emitAt i o).vault = s.vault := by rw [State.emitAt_eq]
@[simp] theorem State.emitAt_flt (i : Nat) (o : Output) : (s.emitAt i o).flt = s.flt := by rw [State.emitAt_eq]
@[simp] theorem State.emitAt_units (i : Nat) (o : Output) : (s.emitAt i o).units = s.units := by rw [State.emitAt_eq]
@[simp] theorem State.emitAt_fawn (i : Nat) (o : Output) : (s.emitAt i o).fawn = s.fawn := by rw [State.emitAt_eq]
@[simp] theorem State.emitAt_pair (i : Nat) (o : Output) : (s.emitAt i o).pair = s.pair := by rw [State.emitAt_eq]
@[simp] theorem State.emitAt_obs (i : Nat) (o : Output) : (s.emitAt i o).obs = s.obs := by rw [State.emitAt_eq]
@[simp] theorem State.emitAt_sink (i : Nat) (o : Output) : (s.emitAt i o).sink = s.sink := by rw [State.emitAt_eq]
@[simp] theorem State.emitAt_freeCount (i : Nat) (o : Output) : (s.emitAt i o).freeCount = s.freeCount := by rw [State.emitAt_eq]
@[simp] theorem State.emitAt_nextId (i : Nat) (o : Output) : (s.emitAt i o).nextId = s.nextId := by rw [State.emitAt_eq]
@[simp] theorem State.emitAt_mgTag (i : Nat) (o : Output) : (s.emitAt i o).mgTag = s.mgTag := by rw [State.emitAt_eq]
@[simp] theorem State.emitAt_pending (i : Nat) (o : Output) : (s.emitAt i o).pending = s.pending := by rw [State.emitAt_eq]

/-! ### `State.mgIrq` -/

/-- An interrupt is a transfer. -/
theorem State.mgIrq_eq (v : Nat) : s.mgIrq v = { s with out := (s.mgIrq v).out } := by
  exact State.emitAt_eq s _ _

@[simp] theorem State.mgIrq_blk (v : Nat) : (s.mgIrq v).blk = s.blk := by rw [State.mgIrq_eq]
@[simp] theorem State.mgIrq_ports (v : Nat) : (s.mgIrq v).ports = s.ports := by rw [State.mgIrq_eq]
@[simp] theorem State.mgIrq_tiles (v : Nat) : (s.mgIrq v).tiles = s.tiles := by rw [State.mgIrq_eq]
@[simp] theorem State.mgIrq_bindings (v : Nat) : (s.mgIrq v).bindings = s.bindings := by rw [State.mgIrq_eq]
@[simp] theorem State.mgIrq_losing (v : Nat) : (s.mgIrq v).losing = s.losing := by rw [State.mgIrq_eq]
@[simp] theorem State.mgIrq_hostTags (v : Nat) : (s.mgIrq v).hostTags = s.hostTags := by rw [State.mgIrq_eq]
@[simp] theorem State.mgIrq_reqs (v : Nat) : (s.mgIrq v).reqs = s.reqs := by rw [State.mgIrq_eq]
@[simp] theorem State.mgIrq_test (v : Nat) : (s.mgIrq v).test = s.test := by rw [State.mgIrq_eq]
@[simp] theorem State.mgIrq_mem (v : Nat) : (s.mgIrq v).mem = s.mem := by rw [State.mgIrq_eq]
@[simp] theorem State.mgIrq_held (v : Nat) : (s.mgIrq v).held = s.held := by rw [State.mgIrq_eq]
@[simp] theorem State.mgIrq_own (v : Nat) : (s.mgIrq v).own = s.own := by rw [State.mgIrq_eq]
@[simp] theorem State.mgIrq_cleaning (v : Nat) : (s.mgIrq v).cleaning = s.cleaning := by rw [State.mgIrq_eq]
@[simp] theorem State.mgIrq_slc (v : Nat) : (s.mgIrq v).slc = s.slc := by rw [State.mgIrq_eq]
@[simp] theorem State.mgIrq_fncs (v : Nat) : (s.mgIrq v).fncs = s.fncs := by rw [State.mgIrq_eq]
@[simp] theorem State.mgIrq_views (v : Nat) : (s.mgIrq v).views = s.views := by rw [State.mgIrq_eq]
@[simp] theorem State.mgIrq_dirty (v : Nat) : (s.mgIrq v).dirty = s.dirty := by rw [State.mgIrq_eq]
@[simp] theorem State.mgIrq_img (v : Nat) : (s.mgIrq v).img = s.img := by rw [State.mgIrq_eq]
@[simp] theorem State.mgIrq_homes (v : Nat) : (s.mgIrq v).homes = s.homes := by rw [State.mgIrq_eq]
@[simp] theorem State.mgIrq_txns (v : Nat) : (s.mgIrq v).txns = s.txns := by rw [State.mgIrq_eq]
@[simp] theorem State.mgIrq_flushes (v : Nat) : (s.mgIrq v).flushes = s.flushes := by rw [State.mgIrq_eq]
@[simp] theorem State.mgIrq_homeTimeout (v : Nat) : (s.mgIrq v).homeTimeout = s.homeTimeout := by rw [State.mgIrq_eq]
@[simp] theorem State.mgIrq_qos (v : Nat) : (s.mgIrq v).qos = s.qos := by rw [State.mgIrq_eq]
@[simp] theorem State.mgIrq_keys (v : Nat) : (s.mgIrq v).keys = s.keys := by rw [State.mgIrq_eq]
@[simp] theorem State.mgIrq_mpt (v : Nat) : (s.mgIrq v).mpt = s.mpt := by rw [State.mgIrq_eq]
@[simp] theorem State.mgIrq_guardOps (v : Nat) : (s.mgIrq v).guardOps = s.guardOps := by rw [State.mgIrq_eq]
@[simp] theorem State.mgIrq_rw (v : Nat) : (s.mgIrq v).rw = s.rw := by rw [State.mgIrq_eq]
@[simp] theorem State.mgIrq_jobs (v : Nat) : (s.mgIrq v).jobs = s.jobs := by rw [State.mgIrq_eq]
@[simp] theorem State.mgIrq_engines (v : Nat) : (s.mgIrq v).engines = s.engines := by rw [State.mgIrq_eq]
@[simp] theorem State.mgIrq_seqs (v : Nat) : (s.mgIrq v).seqs = s.seqs := by rw [State.mgIrq_eq]
@[simp] theorem State.mgIrq_seqTlb (v : Nat) : (s.mgIrq v).seqTlb = s.seqTlb := by rw [State.mgIrq_eq]
@[simp] theorem State.mgIrq_tin (v : Nat) : (s.mgIrq v).tin = s.tin := by rw [State.mgIrq_eq]
@[simp] theorem State.mgIrq_tines (v : Nat) : (s.mgIrq v).tines = s.tines := by rw [State.mgIrq_eq]
@[simp] theorem State.mgIrq_sas (v : Nat) : (s.mgIrq v).sas = s.sas := by rw [State.mgIrq_eq]
@[simp] theorem State.mgIrq_paths (v : Nat) : (s.mgIrq v).paths = s.paths := by rw [State.mgIrq_eq]
@[simp] theorem State.mgIrq_inbox (v : Nat) : (s.mgIrq v).inbox = s.inbox := by rw [State.mgIrq_eq]
@[simp] theorem State.mgIrq_remotes (v : Nat) : (s.mgIrq v).remotes = s.remotes := by rw [State.mgIrq_eq]
@[simp] theorem State.mgIrq_proxies (v : Nat) : (s.mgIrq v).proxies = s.proxies := by rw [State.mgIrq_eq]
@[simp] theorem State.mgIrq_linkFences (v : Nat) : (s.mgIrq v).linkFences = s.linkFences := by rw [State.mgIrq_eq]
@[simp] theorem State.mgIrq_ctxs (v : Nat) : (s.mgIrq v).ctxs = s.ctxs := by rw [State.mgIrq_eq]
@[simp] theorem State.mgIrq_objs (v : Nat) : (s.mgIrq v).objs = s.objs := by rw [State.mgIrq_eq]
@[simp] theorem State.mgIrq_fences (v : Nat) : (s.mgIrq v).fences = s.fences := by rw [State.mgIrq_eq]
@[simp] theorem State.mgIrq_badFences (v : Nat) : (s.mgIrq v).badFences = s.badFences := by rw [State.mgIrq_eq]
@[simp] theorem State.mgIrq_fpages (v : Nat) : (s.mgIrq v).fpages = s.fpages := by rw [State.mgIrq_eq]
@[simp] theorem State.mgIrq_ctxWin (v : Nat) : (s.mgIrq v).ctxWin = s.ctxWin := by rw [State.mgIrq_eq]
@[simp] theorem State.mgIrq_slots (v : Nat) : (s.mgIrq v).slots = s.slots := by rw [State.mgIrq_eq]
@[simp] theorem State.mgIrq_fills (v : Nat) : (s.mgIrq v).fills = s.fills := by rw [State.mgIrq_eq]
@[simp] theorem State.mgIrq_vault (v : Nat) : (s.mgIrq v).vault = s.vault := by rw [State.mgIrq_eq]
@[simp] theorem State.mgIrq_flt (v : Nat) : (s.mgIrq v).flt = s.flt := by rw [State.mgIrq_eq]
@[simp] theorem State.mgIrq_units (v : Nat) : (s.mgIrq v).units = s.units := by rw [State.mgIrq_eq]
@[simp] theorem State.mgIrq_fawn (v : Nat) : (s.mgIrq v).fawn = s.fawn := by rw [State.mgIrq_eq]
@[simp] theorem State.mgIrq_pair (v : Nat) : (s.mgIrq v).pair = s.pair := by rw [State.mgIrq_eq]
@[simp] theorem State.mgIrq_obs (v : Nat) : (s.mgIrq v).obs = s.obs := by rw [State.mgIrq_eq]
@[simp] theorem State.mgIrq_sink (v : Nat) : (s.mgIrq v).sink = s.sink := by rw [State.mgIrq_eq]
@[simp] theorem State.mgIrq_freeCount (v : Nat) : (s.mgIrq v).freeCount = s.freeCount := by rw [State.mgIrq_eq]
@[simp] theorem State.mgIrq_nextId (v : Nat) : (s.mgIrq v).nextId = s.nextId := by rw [State.mgIrq_eq]
@[simp] theorem State.mgIrq_mgTag (v : Nat) : (s.mgIrq v).mgTag = s.mgTag := by rw [State.mgIrq_eq]
@[simp] theorem State.mgIrq_pending (v : Nat) : (s.mgIrq v).pending = s.pending := by rw [State.mgIrq_eq]

/-! ### `State.hostIrq` -/

/-- An interrupt is a transfer. -/
theorem State.hostIrq_eq (f v : Nat) : s.hostIrq f v = { s with out := (s.hostIrq f v).out } := by
  exact State.emitAt_eq s _ _

@[simp] theorem State.hostIrq_blk (f v : Nat) : (s.hostIrq f v).blk = s.blk := by rw [State.hostIrq_eq]
@[simp] theorem State.hostIrq_ports (f v : Nat) : (s.hostIrq f v).ports = s.ports := by rw [State.hostIrq_eq]
@[simp] theorem State.hostIrq_tiles (f v : Nat) : (s.hostIrq f v).tiles = s.tiles := by rw [State.hostIrq_eq]
@[simp] theorem State.hostIrq_bindings (f v : Nat) : (s.hostIrq f v).bindings = s.bindings := by rw [State.hostIrq_eq]
@[simp] theorem State.hostIrq_losing (f v : Nat) : (s.hostIrq f v).losing = s.losing := by rw [State.hostIrq_eq]
@[simp] theorem State.hostIrq_hostTags (f v : Nat) : (s.hostIrq f v).hostTags = s.hostTags := by rw [State.hostIrq_eq]
@[simp] theorem State.hostIrq_reqs (f v : Nat) : (s.hostIrq f v).reqs = s.reqs := by rw [State.hostIrq_eq]
@[simp] theorem State.hostIrq_test (f v : Nat) : (s.hostIrq f v).test = s.test := by rw [State.hostIrq_eq]
@[simp] theorem State.hostIrq_mem (f v : Nat) : (s.hostIrq f v).mem = s.mem := by rw [State.hostIrq_eq]
@[simp] theorem State.hostIrq_held (f v : Nat) : (s.hostIrq f v).held = s.held := by rw [State.hostIrq_eq]
@[simp] theorem State.hostIrq_own (f v : Nat) : (s.hostIrq f v).own = s.own := by rw [State.hostIrq_eq]
@[simp] theorem State.hostIrq_cleaning (f v : Nat) : (s.hostIrq f v).cleaning = s.cleaning := by rw [State.hostIrq_eq]
@[simp] theorem State.hostIrq_slc (f v : Nat) : (s.hostIrq f v).slc = s.slc := by rw [State.hostIrq_eq]
@[simp] theorem State.hostIrq_fncs (f v : Nat) : (s.hostIrq f v).fncs = s.fncs := by rw [State.hostIrq_eq]
@[simp] theorem State.hostIrq_views (f v : Nat) : (s.hostIrq f v).views = s.views := by rw [State.hostIrq_eq]
@[simp] theorem State.hostIrq_dirty (f v : Nat) : (s.hostIrq f v).dirty = s.dirty := by rw [State.hostIrq_eq]
@[simp] theorem State.hostIrq_img (f v : Nat) : (s.hostIrq f v).img = s.img := by rw [State.hostIrq_eq]
@[simp] theorem State.hostIrq_homes (f v : Nat) : (s.hostIrq f v).homes = s.homes := by rw [State.hostIrq_eq]
@[simp] theorem State.hostIrq_txns (f v : Nat) : (s.hostIrq f v).txns = s.txns := by rw [State.hostIrq_eq]
@[simp] theorem State.hostIrq_flushes (f v : Nat) : (s.hostIrq f v).flushes = s.flushes := by rw [State.hostIrq_eq]
@[simp] theorem State.hostIrq_homeTimeout (f v : Nat) : (s.hostIrq f v).homeTimeout = s.homeTimeout := by rw [State.hostIrq_eq]
@[simp] theorem State.hostIrq_qos (f v : Nat) : (s.hostIrq f v).qos = s.qos := by rw [State.hostIrq_eq]
@[simp] theorem State.hostIrq_keys (f v : Nat) : (s.hostIrq f v).keys = s.keys := by rw [State.hostIrq_eq]
@[simp] theorem State.hostIrq_mpt (f v : Nat) : (s.hostIrq f v).mpt = s.mpt := by rw [State.hostIrq_eq]
@[simp] theorem State.hostIrq_guardOps (f v : Nat) : (s.hostIrq f v).guardOps = s.guardOps := by rw [State.hostIrq_eq]
@[simp] theorem State.hostIrq_rw (f v : Nat) : (s.hostIrq f v).rw = s.rw := by rw [State.hostIrq_eq]
@[simp] theorem State.hostIrq_jobs (f v : Nat) : (s.hostIrq f v).jobs = s.jobs := by rw [State.hostIrq_eq]
@[simp] theorem State.hostIrq_engines (f v : Nat) : (s.hostIrq f v).engines = s.engines := by rw [State.hostIrq_eq]
@[simp] theorem State.hostIrq_seqs (f v : Nat) : (s.hostIrq f v).seqs = s.seqs := by rw [State.hostIrq_eq]
@[simp] theorem State.hostIrq_seqTlb (f v : Nat) : (s.hostIrq f v).seqTlb = s.seqTlb := by rw [State.hostIrq_eq]
@[simp] theorem State.hostIrq_tin (f v : Nat) : (s.hostIrq f v).tin = s.tin := by rw [State.hostIrq_eq]
@[simp] theorem State.hostIrq_tines (f v : Nat) : (s.hostIrq f v).tines = s.tines := by rw [State.hostIrq_eq]
@[simp] theorem State.hostIrq_sas (f v : Nat) : (s.hostIrq f v).sas = s.sas := by rw [State.hostIrq_eq]
@[simp] theorem State.hostIrq_paths (f v : Nat) : (s.hostIrq f v).paths = s.paths := by rw [State.hostIrq_eq]
@[simp] theorem State.hostIrq_inbox (f v : Nat) : (s.hostIrq f v).inbox = s.inbox := by rw [State.hostIrq_eq]
@[simp] theorem State.hostIrq_remotes (f v : Nat) : (s.hostIrq f v).remotes = s.remotes := by rw [State.hostIrq_eq]
@[simp] theorem State.hostIrq_proxies (f v : Nat) : (s.hostIrq f v).proxies = s.proxies := by rw [State.hostIrq_eq]
@[simp] theorem State.hostIrq_linkFences (f v : Nat) : (s.hostIrq f v).linkFences = s.linkFences := by rw [State.hostIrq_eq]
@[simp] theorem State.hostIrq_ctxs (f v : Nat) : (s.hostIrq f v).ctxs = s.ctxs := by rw [State.hostIrq_eq]
@[simp] theorem State.hostIrq_objs (f v : Nat) : (s.hostIrq f v).objs = s.objs := by rw [State.hostIrq_eq]
@[simp] theorem State.hostIrq_fences (f v : Nat) : (s.hostIrq f v).fences = s.fences := by rw [State.hostIrq_eq]
@[simp] theorem State.hostIrq_badFences (f v : Nat) : (s.hostIrq f v).badFences = s.badFences := by rw [State.hostIrq_eq]
@[simp] theorem State.hostIrq_fpages (f v : Nat) : (s.hostIrq f v).fpages = s.fpages := by rw [State.hostIrq_eq]
@[simp] theorem State.hostIrq_ctxWin (f v : Nat) : (s.hostIrq f v).ctxWin = s.ctxWin := by rw [State.hostIrq_eq]
@[simp] theorem State.hostIrq_slots (f v : Nat) : (s.hostIrq f v).slots = s.slots := by rw [State.hostIrq_eq]
@[simp] theorem State.hostIrq_fills (f v : Nat) : (s.hostIrq f v).fills = s.fills := by rw [State.hostIrq_eq]
@[simp] theorem State.hostIrq_vault (f v : Nat) : (s.hostIrq f v).vault = s.vault := by rw [State.hostIrq_eq]
@[simp] theorem State.hostIrq_flt (f v : Nat) : (s.hostIrq f v).flt = s.flt := by rw [State.hostIrq_eq]
@[simp] theorem State.hostIrq_units (f v : Nat) : (s.hostIrq f v).units = s.units := by rw [State.hostIrq_eq]
@[simp] theorem State.hostIrq_fawn (f v : Nat) : (s.hostIrq f v).fawn = s.fawn := by rw [State.hostIrq_eq]
@[simp] theorem State.hostIrq_pair (f v : Nat) : (s.hostIrq f v).pair = s.pair := by rw [State.hostIrq_eq]
@[simp] theorem State.hostIrq_obs (f v : Nat) : (s.hostIrq f v).obs = s.obs := by rw [State.hostIrq_eq]
@[simp] theorem State.hostIrq_sink (f v : Nat) : (s.hostIrq f v).sink = s.sink := by rw [State.hostIrq_eq]
@[simp] theorem State.hostIrq_freeCount (f v : Nat) : (s.hostIrq f v).freeCount = s.freeCount := by rw [State.hostIrq_eq]
@[simp] theorem State.hostIrq_nextId (f v : Nat) : (s.hostIrq f v).nextId = s.nextId := by rw [State.hostIrq_eq]
@[simp] theorem State.hostIrq_mgTag (f v : Nat) : (s.hostIrq f v).mgTag = s.mgTag := by rw [State.hostIrq_eq]
@[simp] theorem State.hostIrq_pending (f v : Nat) : (s.hostIrq f v).pending = s.pending := by rw [State.hostIrq_eq]

/-! ### `State.mgRsp` -/

/-- An answer is a transfer. -/
theorem State.mgRsp_eq (st : Status) (d : Reg) : s.mgRsp st d = { s with out := (s.mgRsp st d).out } := by
  unfold State.mgRsp
  try dsimp only
  split <;> rfl

@[simp] theorem State.mgRsp_blk (st : Status) (d : Reg) : (s.mgRsp st d).blk = s.blk := by rw [State.mgRsp_eq]
@[simp] theorem State.mgRsp_ports (st : Status) (d : Reg) : (s.mgRsp st d).ports = s.ports := by rw [State.mgRsp_eq]
@[simp] theorem State.mgRsp_tiles (st : Status) (d : Reg) : (s.mgRsp st d).tiles = s.tiles := by rw [State.mgRsp_eq]
@[simp] theorem State.mgRsp_bindings (st : Status) (d : Reg) : (s.mgRsp st d).bindings = s.bindings := by rw [State.mgRsp_eq]
@[simp] theorem State.mgRsp_losing (st : Status) (d : Reg) : (s.mgRsp st d).losing = s.losing := by rw [State.mgRsp_eq]
@[simp] theorem State.mgRsp_hostTags (st : Status) (d : Reg) : (s.mgRsp st d).hostTags = s.hostTags := by rw [State.mgRsp_eq]
@[simp] theorem State.mgRsp_reqs (st : Status) (d : Reg) : (s.mgRsp st d).reqs = s.reqs := by rw [State.mgRsp_eq]
@[simp] theorem State.mgRsp_test (st : Status) (d : Reg) : (s.mgRsp st d).test = s.test := by rw [State.mgRsp_eq]
@[simp] theorem State.mgRsp_mem (st : Status) (d : Reg) : (s.mgRsp st d).mem = s.mem := by rw [State.mgRsp_eq]
@[simp] theorem State.mgRsp_held (st : Status) (d : Reg) : (s.mgRsp st d).held = s.held := by rw [State.mgRsp_eq]
@[simp] theorem State.mgRsp_own (st : Status) (d : Reg) : (s.mgRsp st d).own = s.own := by rw [State.mgRsp_eq]
@[simp] theorem State.mgRsp_cleaning (st : Status) (d : Reg) : (s.mgRsp st d).cleaning = s.cleaning := by rw [State.mgRsp_eq]
@[simp] theorem State.mgRsp_slc (st : Status) (d : Reg) : (s.mgRsp st d).slc = s.slc := by rw [State.mgRsp_eq]
@[simp] theorem State.mgRsp_fncs (st : Status) (d : Reg) : (s.mgRsp st d).fncs = s.fncs := by rw [State.mgRsp_eq]
@[simp] theorem State.mgRsp_views (st : Status) (d : Reg) : (s.mgRsp st d).views = s.views := by rw [State.mgRsp_eq]
@[simp] theorem State.mgRsp_dirty (st : Status) (d : Reg) : (s.mgRsp st d).dirty = s.dirty := by rw [State.mgRsp_eq]
@[simp] theorem State.mgRsp_img (st : Status) (d : Reg) : (s.mgRsp st d).img = s.img := by rw [State.mgRsp_eq]
@[simp] theorem State.mgRsp_homes (st : Status) (d : Reg) : (s.mgRsp st d).homes = s.homes := by rw [State.mgRsp_eq]
@[simp] theorem State.mgRsp_txns (st : Status) (d : Reg) : (s.mgRsp st d).txns = s.txns := by rw [State.mgRsp_eq]
@[simp] theorem State.mgRsp_flushes (st : Status) (d : Reg) : (s.mgRsp st d).flushes = s.flushes := by rw [State.mgRsp_eq]
@[simp] theorem State.mgRsp_homeTimeout (st : Status) (d : Reg) : (s.mgRsp st d).homeTimeout = s.homeTimeout := by rw [State.mgRsp_eq]
@[simp] theorem State.mgRsp_qos (st : Status) (d : Reg) : (s.mgRsp st d).qos = s.qos := by rw [State.mgRsp_eq]
@[simp] theorem State.mgRsp_keys (st : Status) (d : Reg) : (s.mgRsp st d).keys = s.keys := by rw [State.mgRsp_eq]
@[simp] theorem State.mgRsp_mpt (st : Status) (d : Reg) : (s.mgRsp st d).mpt = s.mpt := by rw [State.mgRsp_eq]
@[simp] theorem State.mgRsp_guardOps (st : Status) (d : Reg) : (s.mgRsp st d).guardOps = s.guardOps := by rw [State.mgRsp_eq]
@[simp] theorem State.mgRsp_rw (st : Status) (d : Reg) : (s.mgRsp st d).rw = s.rw := by rw [State.mgRsp_eq]
@[simp] theorem State.mgRsp_jobs (st : Status) (d : Reg) : (s.mgRsp st d).jobs = s.jobs := by rw [State.mgRsp_eq]
@[simp] theorem State.mgRsp_engines (st : Status) (d : Reg) : (s.mgRsp st d).engines = s.engines := by rw [State.mgRsp_eq]
@[simp] theorem State.mgRsp_seqs (st : Status) (d : Reg) : (s.mgRsp st d).seqs = s.seqs := by rw [State.mgRsp_eq]
@[simp] theorem State.mgRsp_seqTlb (st : Status) (d : Reg) : (s.mgRsp st d).seqTlb = s.seqTlb := by rw [State.mgRsp_eq]
@[simp] theorem State.mgRsp_tin (st : Status) (d : Reg) : (s.mgRsp st d).tin = s.tin := by rw [State.mgRsp_eq]
@[simp] theorem State.mgRsp_tines (st : Status) (d : Reg) : (s.mgRsp st d).tines = s.tines := by rw [State.mgRsp_eq]
@[simp] theorem State.mgRsp_sas (st : Status) (d : Reg) : (s.mgRsp st d).sas = s.sas := by rw [State.mgRsp_eq]
@[simp] theorem State.mgRsp_paths (st : Status) (d : Reg) : (s.mgRsp st d).paths = s.paths := by rw [State.mgRsp_eq]
@[simp] theorem State.mgRsp_inbox (st : Status) (d : Reg) : (s.mgRsp st d).inbox = s.inbox := by rw [State.mgRsp_eq]
@[simp] theorem State.mgRsp_remotes (st : Status) (d : Reg) : (s.mgRsp st d).remotes = s.remotes := by rw [State.mgRsp_eq]
@[simp] theorem State.mgRsp_proxies (st : Status) (d : Reg) : (s.mgRsp st d).proxies = s.proxies := by rw [State.mgRsp_eq]
@[simp] theorem State.mgRsp_linkFences (st : Status) (d : Reg) : (s.mgRsp st d).linkFences = s.linkFences := by rw [State.mgRsp_eq]
@[simp] theorem State.mgRsp_ctxs (st : Status) (d : Reg) : (s.mgRsp st d).ctxs = s.ctxs := by rw [State.mgRsp_eq]
@[simp] theorem State.mgRsp_objs (st : Status) (d : Reg) : (s.mgRsp st d).objs = s.objs := by rw [State.mgRsp_eq]
@[simp] theorem State.mgRsp_fences (st : Status) (d : Reg) : (s.mgRsp st d).fences = s.fences := by rw [State.mgRsp_eq]
@[simp] theorem State.mgRsp_badFences (st : Status) (d : Reg) : (s.mgRsp st d).badFences = s.badFences := by rw [State.mgRsp_eq]
@[simp] theorem State.mgRsp_fpages (st : Status) (d : Reg) : (s.mgRsp st d).fpages = s.fpages := by rw [State.mgRsp_eq]
@[simp] theorem State.mgRsp_ctxWin (st : Status) (d : Reg) : (s.mgRsp st d).ctxWin = s.ctxWin := by rw [State.mgRsp_eq]
@[simp] theorem State.mgRsp_slots (st : Status) (d : Reg) : (s.mgRsp st d).slots = s.slots := by rw [State.mgRsp_eq]
@[simp] theorem State.mgRsp_fills (st : Status) (d : Reg) : (s.mgRsp st d).fills = s.fills := by rw [State.mgRsp_eq]
@[simp] theorem State.mgRsp_vault (st : Status) (d : Reg) : (s.mgRsp st d).vault = s.vault := by rw [State.mgRsp_eq]
@[simp] theorem State.mgRsp_flt (st : Status) (d : Reg) : (s.mgRsp st d).flt = s.flt := by rw [State.mgRsp_eq]
@[simp] theorem State.mgRsp_units (st : Status) (d : Reg) : (s.mgRsp st d).units = s.units := by rw [State.mgRsp_eq]
@[simp] theorem State.mgRsp_fawn (st : Status) (d : Reg) : (s.mgRsp st d).fawn = s.fawn := by rw [State.mgRsp_eq]
@[simp] theorem State.mgRsp_pair (st : Status) (d : Reg) : (s.mgRsp st d).pair = s.pair := by rw [State.mgRsp_eq]
@[simp] theorem State.mgRsp_obs (st : Status) (d : Reg) : (s.mgRsp st d).obs = s.obs := by rw [State.mgRsp_eq]
@[simp] theorem State.mgRsp_sink (st : Status) (d : Reg) : (s.mgRsp st d).sink = s.sink := by rw [State.mgRsp_eq]
@[simp] theorem State.mgRsp_freeCount (st : Status) (d : Reg) : (s.mgRsp st d).freeCount = s.freeCount := by rw [State.mgRsp_eq]
@[simp] theorem State.mgRsp_nextId (st : Status) (d : Reg) : (s.mgRsp st d).nextId = s.nextId := by rw [State.mgRsp_eq]
@[simp] theorem State.mgRsp_mgTag (st : Status) (d : Reg) : (s.mgRsp st d).mgTag = s.mgTag := by rw [State.mgRsp_eq]
@[simp] theorem State.mgRsp_pending (st : Status) (d : Reg) : (s.mgRsp st d).pending = s.pending := by rw [State.mgRsp_eq]

/-! ### `State.latAdd` -/

/-- A read's latency is measured in `qos`. -/
theorem State.latAdd_eq (d sl t n : Nat) : s.latAdd d sl t n = { s with qos := (s.latAdd d sl t n).qos } := rfl

@[simp] theorem State.latAdd_blk (d sl t n : Nat) : (s.latAdd d sl t n).blk = s.blk := by rw [State.latAdd_eq]
@[simp] theorem State.latAdd_ports (d sl t n : Nat) : (s.latAdd d sl t n).ports = s.ports := by rw [State.latAdd_eq]
@[simp] theorem State.latAdd_tiles (d sl t n : Nat) : (s.latAdd d sl t n).tiles = s.tiles := by rw [State.latAdd_eq]
@[simp] theorem State.latAdd_bindings (d sl t n : Nat) : (s.latAdd d sl t n).bindings = s.bindings := by rw [State.latAdd_eq]
@[simp] theorem State.latAdd_losing (d sl t n : Nat) : (s.latAdd d sl t n).losing = s.losing := by rw [State.latAdd_eq]
@[simp] theorem State.latAdd_hostTags (d sl t n : Nat) : (s.latAdd d sl t n).hostTags = s.hostTags := by rw [State.latAdd_eq]
@[simp] theorem State.latAdd_reqs (d sl t n : Nat) : (s.latAdd d sl t n).reqs = s.reqs := by rw [State.latAdd_eq]
@[simp] theorem State.latAdd_test (d sl t n : Nat) : (s.latAdd d sl t n).test = s.test := by rw [State.latAdd_eq]
@[simp] theorem State.latAdd_mem (d sl t n : Nat) : (s.latAdd d sl t n).mem = s.mem := by rw [State.latAdd_eq]
@[simp] theorem State.latAdd_held (d sl t n : Nat) : (s.latAdd d sl t n).held = s.held := by rw [State.latAdd_eq]
@[simp] theorem State.latAdd_own (d sl t n : Nat) : (s.latAdd d sl t n).own = s.own := by rw [State.latAdd_eq]
@[simp] theorem State.latAdd_cleaning (d sl t n : Nat) : (s.latAdd d sl t n).cleaning = s.cleaning := by rw [State.latAdd_eq]
@[simp] theorem State.latAdd_slc (d sl t n : Nat) : (s.latAdd d sl t n).slc = s.slc := by rw [State.latAdd_eq]
@[simp] theorem State.latAdd_fncs (d sl t n : Nat) : (s.latAdd d sl t n).fncs = s.fncs := by rw [State.latAdd_eq]
@[simp] theorem State.latAdd_views (d sl t n : Nat) : (s.latAdd d sl t n).views = s.views := by rw [State.latAdd_eq]
@[simp] theorem State.latAdd_dirty (d sl t n : Nat) : (s.latAdd d sl t n).dirty = s.dirty := by rw [State.latAdd_eq]
@[simp] theorem State.latAdd_img (d sl t n : Nat) : (s.latAdd d sl t n).img = s.img := by rw [State.latAdd_eq]
@[simp] theorem State.latAdd_homes (d sl t n : Nat) : (s.latAdd d sl t n).homes = s.homes := by rw [State.latAdd_eq]
@[simp] theorem State.latAdd_txns (d sl t n : Nat) : (s.latAdd d sl t n).txns = s.txns := by rw [State.latAdd_eq]
@[simp] theorem State.latAdd_flushes (d sl t n : Nat) : (s.latAdd d sl t n).flushes = s.flushes := by rw [State.latAdd_eq]
@[simp] theorem State.latAdd_homeTimeout (d sl t n : Nat) : (s.latAdd d sl t n).homeTimeout = s.homeTimeout := by rw [State.latAdd_eq]
@[simp] theorem State.latAdd_keys (d sl t n : Nat) : (s.latAdd d sl t n).keys = s.keys := by rw [State.latAdd_eq]
@[simp] theorem State.latAdd_mpt (d sl t n : Nat) : (s.latAdd d sl t n).mpt = s.mpt := by rw [State.latAdd_eq]
@[simp] theorem State.latAdd_guardOps (d sl t n : Nat) : (s.latAdd d sl t n).guardOps = s.guardOps := by rw [State.latAdd_eq]
@[simp] theorem State.latAdd_rw (d sl t n : Nat) : (s.latAdd d sl t n).rw = s.rw := by rw [State.latAdd_eq]
@[simp] theorem State.latAdd_jobs (d sl t n : Nat) : (s.latAdd d sl t n).jobs = s.jobs := by rw [State.latAdd_eq]
@[simp] theorem State.latAdd_engines (d sl t n : Nat) : (s.latAdd d sl t n).engines = s.engines := by rw [State.latAdd_eq]
@[simp] theorem State.latAdd_seqs (d sl t n : Nat) : (s.latAdd d sl t n).seqs = s.seqs := by rw [State.latAdd_eq]
@[simp] theorem State.latAdd_seqTlb (d sl t n : Nat) : (s.latAdd d sl t n).seqTlb = s.seqTlb := by rw [State.latAdd_eq]
@[simp] theorem State.latAdd_tin (d sl t n : Nat) : (s.latAdd d sl t n).tin = s.tin := by rw [State.latAdd_eq]
@[simp] theorem State.latAdd_tines (d sl t n : Nat) : (s.latAdd d sl t n).tines = s.tines := by rw [State.latAdd_eq]
@[simp] theorem State.latAdd_sas (d sl t n : Nat) : (s.latAdd d sl t n).sas = s.sas := by rw [State.latAdd_eq]
@[simp] theorem State.latAdd_paths (d sl t n : Nat) : (s.latAdd d sl t n).paths = s.paths := by rw [State.latAdd_eq]
@[simp] theorem State.latAdd_inbox (d sl t n : Nat) : (s.latAdd d sl t n).inbox = s.inbox := by rw [State.latAdd_eq]
@[simp] theorem State.latAdd_remotes (d sl t n : Nat) : (s.latAdd d sl t n).remotes = s.remotes := by rw [State.latAdd_eq]
@[simp] theorem State.latAdd_proxies (d sl t n : Nat) : (s.latAdd d sl t n).proxies = s.proxies := by rw [State.latAdd_eq]
@[simp] theorem State.latAdd_linkFences (d sl t n : Nat) : (s.latAdd d sl t n).linkFences = s.linkFences := by rw [State.latAdd_eq]
@[simp] theorem State.latAdd_ctxs (d sl t n : Nat) : (s.latAdd d sl t n).ctxs = s.ctxs := by rw [State.latAdd_eq]
@[simp] theorem State.latAdd_objs (d sl t n : Nat) : (s.latAdd d sl t n).objs = s.objs := by rw [State.latAdd_eq]
@[simp] theorem State.latAdd_fences (d sl t n : Nat) : (s.latAdd d sl t n).fences = s.fences := by rw [State.latAdd_eq]
@[simp] theorem State.latAdd_badFences (d sl t n : Nat) : (s.latAdd d sl t n).badFences = s.badFences := by rw [State.latAdd_eq]
@[simp] theorem State.latAdd_fpages (d sl t n : Nat) : (s.latAdd d sl t n).fpages = s.fpages := by rw [State.latAdd_eq]
@[simp] theorem State.latAdd_ctxWin (d sl t n : Nat) : (s.latAdd d sl t n).ctxWin = s.ctxWin := by rw [State.latAdd_eq]
@[simp] theorem State.latAdd_slots (d sl t n : Nat) : (s.latAdd d sl t n).slots = s.slots := by rw [State.latAdd_eq]
@[simp] theorem State.latAdd_fills (d sl t n : Nat) : (s.latAdd d sl t n).fills = s.fills := by rw [State.latAdd_eq]
@[simp] theorem State.latAdd_vault (d sl t n : Nat) : (s.latAdd d sl t n).vault = s.vault := by rw [State.latAdd_eq]
@[simp] theorem State.latAdd_flt (d sl t n : Nat) : (s.latAdd d sl t n).flt = s.flt := by rw [State.latAdd_eq]
@[simp] theorem State.latAdd_units (d sl t n : Nat) : (s.latAdd d sl t n).units = s.units := by rw [State.latAdd_eq]
@[simp] theorem State.latAdd_fawn (d sl t n : Nat) : (s.latAdd d sl t n).fawn = s.fawn := by rw [State.latAdd_eq]
@[simp] theorem State.latAdd_pair (d sl t n : Nat) : (s.latAdd d sl t n).pair = s.pair := by rw [State.latAdd_eq]
@[simp] theorem State.latAdd_obs (d sl t n : Nat) : (s.latAdd d sl t n).obs = s.obs := by rw [State.latAdd_eq]
@[simp] theorem State.latAdd_sink (d sl t n : Nat) : (s.latAdd d sl t n).sink = s.sink := by rw [State.latAdd_eq]
@[simp] theorem State.latAdd_out (d sl t n : Nat) : (s.latAdd d sl t n).out = s.out := by rw [State.latAdd_eq]
@[simp] theorem State.latAdd_freeCount (d sl t n : Nat) : (s.latAdd d sl t n).freeCount = s.freeCount := by rw [State.latAdd_eq]
@[simp] theorem State.latAdd_nextId (d sl t n : Nat) : (s.latAdd d sl t n).nextId = s.nextId := by rw [State.latAdd_eq]
@[simp] theorem State.latAdd_mgTag (d sl t n : Nat) : (s.latAdd d sl t n).mgTag = s.mgTag := by rw [State.latAdd_eq]
@[simp] theorem State.latAdd_pending (d sl t n : Nat) : (s.latAdd d sl t n).pending = s.pending := by rw [State.latAdd_eq]

/-! ### `State.reqOpen` -/

/-- A request joins those that await their answer. -/
theorem State.reqOpen_eq (q : OpenReq) : s.reqOpen q = { s with reqs := (s.reqOpen q).reqs } := rfl

@[simp] theorem State.reqOpen_blk (q : OpenReq) : (s.reqOpen q).blk = s.blk := by rw [State.reqOpen_eq]
@[simp] theorem State.reqOpen_ports (q : OpenReq) : (s.reqOpen q).ports = s.ports := by rw [State.reqOpen_eq]
@[simp] theorem State.reqOpen_tiles (q : OpenReq) : (s.reqOpen q).tiles = s.tiles := by rw [State.reqOpen_eq]
@[simp] theorem State.reqOpen_bindings (q : OpenReq) : (s.reqOpen q).bindings = s.bindings := by rw [State.reqOpen_eq]
@[simp] theorem State.reqOpen_losing (q : OpenReq) : (s.reqOpen q).losing = s.losing := by rw [State.reqOpen_eq]
@[simp] theorem State.reqOpen_hostTags (q : OpenReq) : (s.reqOpen q).hostTags = s.hostTags := by rw [State.reqOpen_eq]
@[simp] theorem State.reqOpen_test (q : OpenReq) : (s.reqOpen q).test = s.test := by rw [State.reqOpen_eq]
@[simp] theorem State.reqOpen_mem (q : OpenReq) : (s.reqOpen q).mem = s.mem := by rw [State.reqOpen_eq]
@[simp] theorem State.reqOpen_held (q : OpenReq) : (s.reqOpen q).held = s.held := by rw [State.reqOpen_eq]
@[simp] theorem State.reqOpen_own (q : OpenReq) : (s.reqOpen q).own = s.own := by rw [State.reqOpen_eq]
@[simp] theorem State.reqOpen_cleaning (q : OpenReq) : (s.reqOpen q).cleaning = s.cleaning := by rw [State.reqOpen_eq]
@[simp] theorem State.reqOpen_slc (q : OpenReq) : (s.reqOpen q).slc = s.slc := by rw [State.reqOpen_eq]
@[simp] theorem State.reqOpen_fncs (q : OpenReq) : (s.reqOpen q).fncs = s.fncs := by rw [State.reqOpen_eq]
@[simp] theorem State.reqOpen_views (q : OpenReq) : (s.reqOpen q).views = s.views := by rw [State.reqOpen_eq]
@[simp] theorem State.reqOpen_dirty (q : OpenReq) : (s.reqOpen q).dirty = s.dirty := by rw [State.reqOpen_eq]
@[simp] theorem State.reqOpen_img (q : OpenReq) : (s.reqOpen q).img = s.img := by rw [State.reqOpen_eq]
@[simp] theorem State.reqOpen_homes (q : OpenReq) : (s.reqOpen q).homes = s.homes := by rw [State.reqOpen_eq]
@[simp] theorem State.reqOpen_txns (q : OpenReq) : (s.reqOpen q).txns = s.txns := by rw [State.reqOpen_eq]
@[simp] theorem State.reqOpen_flushes (q : OpenReq) : (s.reqOpen q).flushes = s.flushes := by rw [State.reqOpen_eq]
@[simp] theorem State.reqOpen_homeTimeout (q : OpenReq) : (s.reqOpen q).homeTimeout = s.homeTimeout := by rw [State.reqOpen_eq]
@[simp] theorem State.reqOpen_qos (q : OpenReq) : (s.reqOpen q).qos = s.qos := by rw [State.reqOpen_eq]
@[simp] theorem State.reqOpen_keys (q : OpenReq) : (s.reqOpen q).keys = s.keys := by rw [State.reqOpen_eq]
@[simp] theorem State.reqOpen_mpt (q : OpenReq) : (s.reqOpen q).mpt = s.mpt := by rw [State.reqOpen_eq]
@[simp] theorem State.reqOpen_guardOps (q : OpenReq) : (s.reqOpen q).guardOps = s.guardOps := by rw [State.reqOpen_eq]
@[simp] theorem State.reqOpen_rw (q : OpenReq) : (s.reqOpen q).rw = s.rw := by rw [State.reqOpen_eq]
@[simp] theorem State.reqOpen_jobs (q : OpenReq) : (s.reqOpen q).jobs = s.jobs := by rw [State.reqOpen_eq]
@[simp] theorem State.reqOpen_engines (q : OpenReq) : (s.reqOpen q).engines = s.engines := by rw [State.reqOpen_eq]
@[simp] theorem State.reqOpen_seqs (q : OpenReq) : (s.reqOpen q).seqs = s.seqs := by rw [State.reqOpen_eq]
@[simp] theorem State.reqOpen_seqTlb (q : OpenReq) : (s.reqOpen q).seqTlb = s.seqTlb := by rw [State.reqOpen_eq]
@[simp] theorem State.reqOpen_tin (q : OpenReq) : (s.reqOpen q).tin = s.tin := by rw [State.reqOpen_eq]
@[simp] theorem State.reqOpen_tines (q : OpenReq) : (s.reqOpen q).tines = s.tines := by rw [State.reqOpen_eq]
@[simp] theorem State.reqOpen_sas (q : OpenReq) : (s.reqOpen q).sas = s.sas := by rw [State.reqOpen_eq]
@[simp] theorem State.reqOpen_paths (q : OpenReq) : (s.reqOpen q).paths = s.paths := by rw [State.reqOpen_eq]
@[simp] theorem State.reqOpen_inbox (q : OpenReq) : (s.reqOpen q).inbox = s.inbox := by rw [State.reqOpen_eq]
@[simp] theorem State.reqOpen_remotes (q : OpenReq) : (s.reqOpen q).remotes = s.remotes := by rw [State.reqOpen_eq]
@[simp] theorem State.reqOpen_proxies (q : OpenReq) : (s.reqOpen q).proxies = s.proxies := by rw [State.reqOpen_eq]
@[simp] theorem State.reqOpen_linkFences (q : OpenReq) : (s.reqOpen q).linkFences = s.linkFences := by rw [State.reqOpen_eq]
@[simp] theorem State.reqOpen_ctxs (q : OpenReq) : (s.reqOpen q).ctxs = s.ctxs := by rw [State.reqOpen_eq]
@[simp] theorem State.reqOpen_objs (q : OpenReq) : (s.reqOpen q).objs = s.objs := by rw [State.reqOpen_eq]
@[simp] theorem State.reqOpen_fences (q : OpenReq) : (s.reqOpen q).fences = s.fences := by rw [State.reqOpen_eq]
@[simp] theorem State.reqOpen_badFences (q : OpenReq) : (s.reqOpen q).badFences = s.badFences := by rw [State.reqOpen_eq]
@[simp] theorem State.reqOpen_fpages (q : OpenReq) : (s.reqOpen q).fpages = s.fpages := by rw [State.reqOpen_eq]
@[simp] theorem State.reqOpen_ctxWin (q : OpenReq) : (s.reqOpen q).ctxWin = s.ctxWin := by rw [State.reqOpen_eq]
@[simp] theorem State.reqOpen_slots (q : OpenReq) : (s.reqOpen q).slots = s.slots := by rw [State.reqOpen_eq]
@[simp] theorem State.reqOpen_fills (q : OpenReq) : (s.reqOpen q).fills = s.fills := by rw [State.reqOpen_eq]
@[simp] theorem State.reqOpen_vault (q : OpenReq) : (s.reqOpen q).vault = s.vault := by rw [State.reqOpen_eq]
@[simp] theorem State.reqOpen_flt (q : OpenReq) : (s.reqOpen q).flt = s.flt := by rw [State.reqOpen_eq]
@[simp] theorem State.reqOpen_units (q : OpenReq) : (s.reqOpen q).units = s.units := by rw [State.reqOpen_eq]
@[simp] theorem State.reqOpen_fawn (q : OpenReq) : (s.reqOpen q).fawn = s.fawn := by rw [State.reqOpen_eq]
@[simp] theorem State.reqOpen_pair (q : OpenReq) : (s.reqOpen q).pair = s.pair := by rw [State.reqOpen_eq]
@[simp] theorem State.reqOpen_obs (q : OpenReq) : (s.reqOpen q).obs = s.obs := by rw [State.reqOpen_eq]
@[simp] theorem State.reqOpen_sink (q : OpenReq) : (s.reqOpen q).sink = s.sink := by rw [State.reqOpen_eq]
@[simp] theorem State.reqOpen_out (q : OpenReq) : (s.reqOpen q).out = s.out := by rw [State.reqOpen_eq]
@[simp] theorem State.reqOpen_freeCount (q : OpenReq) : (s.reqOpen q).freeCount = s.freeCount := by rw [State.reqOpen_eq]
@[simp] theorem State.reqOpen_nextId (q : OpenReq) : (s.reqOpen q).nextId = s.nextId := by rw [State.reqOpen_eq]
@[simp] theorem State.reqOpen_mgTag (q : OpenReq) : (s.reqOpen q).mgTag = s.mgTag := by rw [State.reqOpen_eq]
@[simp] theorem State.reqOpen_pending (q : OpenReq) : (s.reqOpen q).pending = s.pending := by rw [State.reqOpen_eq]

/-! ### `State.reqClose` -/

/-- A request leaves those that await their answer; its latency and its outcome are counted. -/
theorem State.reqClose_eq (p tag : Nat) (st : Status) : s.reqClose p tag st = { s with reqs := (s.reqClose p tag st).reqs, qos := (s.reqClose p tag st).qos, obs := (s.reqClose p tag st).obs } := by
  unfold State.reqClose
  try dsimp only
  split
  · rfl
  · split
    · rfl
    · split <;> rfl

@[simp] theorem State.reqClose_blk (p tag : Nat) (st : Status) : (s.reqClose p tag st).blk = s.blk := by rw [State.reqClose_eq]
@[simp] theorem State.reqClose_ports (p tag : Nat) (st : Status) : (s.reqClose p tag st).ports = s.ports := by rw [State.reqClose_eq]
@[simp] theorem State.reqClose_tiles (p tag : Nat) (st : Status) : (s.reqClose p tag st).tiles = s.tiles := by rw [State.reqClose_eq]
@[simp] theorem State.reqClose_bindings (p tag : Nat) (st : Status) : (s.reqClose p tag st).bindings = s.bindings := by rw [State.reqClose_eq]
@[simp] theorem State.reqClose_losing (p tag : Nat) (st : Status) : (s.reqClose p tag st).losing = s.losing := by rw [State.reqClose_eq]
@[simp] theorem State.reqClose_hostTags (p tag : Nat) (st : Status) : (s.reqClose p tag st).hostTags = s.hostTags := by rw [State.reqClose_eq]
@[simp] theorem State.reqClose_test (p tag : Nat) (st : Status) : (s.reqClose p tag st).test = s.test := by rw [State.reqClose_eq]
@[simp] theorem State.reqClose_mem (p tag : Nat) (st : Status) : (s.reqClose p tag st).mem = s.mem := by rw [State.reqClose_eq]
@[simp] theorem State.reqClose_held (p tag : Nat) (st : Status) : (s.reqClose p tag st).held = s.held := by rw [State.reqClose_eq]
@[simp] theorem State.reqClose_own (p tag : Nat) (st : Status) : (s.reqClose p tag st).own = s.own := by rw [State.reqClose_eq]
@[simp] theorem State.reqClose_cleaning (p tag : Nat) (st : Status) : (s.reqClose p tag st).cleaning = s.cleaning := by rw [State.reqClose_eq]
@[simp] theorem State.reqClose_slc (p tag : Nat) (st : Status) : (s.reqClose p tag st).slc = s.slc := by rw [State.reqClose_eq]
@[simp] theorem State.reqClose_fncs (p tag : Nat) (st : Status) : (s.reqClose p tag st).fncs = s.fncs := by rw [State.reqClose_eq]
@[simp] theorem State.reqClose_views (p tag : Nat) (st : Status) : (s.reqClose p tag st).views = s.views := by rw [State.reqClose_eq]
@[simp] theorem State.reqClose_dirty (p tag : Nat) (st : Status) : (s.reqClose p tag st).dirty = s.dirty := by rw [State.reqClose_eq]
@[simp] theorem State.reqClose_img (p tag : Nat) (st : Status) : (s.reqClose p tag st).img = s.img := by rw [State.reqClose_eq]
@[simp] theorem State.reqClose_homes (p tag : Nat) (st : Status) : (s.reqClose p tag st).homes = s.homes := by rw [State.reqClose_eq]
@[simp] theorem State.reqClose_txns (p tag : Nat) (st : Status) : (s.reqClose p tag st).txns = s.txns := by rw [State.reqClose_eq]
@[simp] theorem State.reqClose_flushes (p tag : Nat) (st : Status) : (s.reqClose p tag st).flushes = s.flushes := by rw [State.reqClose_eq]
@[simp] theorem State.reqClose_homeTimeout (p tag : Nat) (st : Status) : (s.reqClose p tag st).homeTimeout = s.homeTimeout := by rw [State.reqClose_eq]
@[simp] theorem State.reqClose_keys (p tag : Nat) (st : Status) : (s.reqClose p tag st).keys = s.keys := by rw [State.reqClose_eq]
@[simp] theorem State.reqClose_mpt (p tag : Nat) (st : Status) : (s.reqClose p tag st).mpt = s.mpt := by rw [State.reqClose_eq]
@[simp] theorem State.reqClose_guardOps (p tag : Nat) (st : Status) : (s.reqClose p tag st).guardOps = s.guardOps := by rw [State.reqClose_eq]
@[simp] theorem State.reqClose_rw (p tag : Nat) (st : Status) : (s.reqClose p tag st).rw = s.rw := by rw [State.reqClose_eq]
@[simp] theorem State.reqClose_jobs (p tag : Nat) (st : Status) : (s.reqClose p tag st).jobs = s.jobs := by rw [State.reqClose_eq]
@[simp] theorem State.reqClose_engines (p tag : Nat) (st : Status) : (s.reqClose p tag st).engines = s.engines := by rw [State.reqClose_eq]
@[simp] theorem State.reqClose_seqs (p tag : Nat) (st : Status) : (s.reqClose p tag st).seqs = s.seqs := by rw [State.reqClose_eq]
@[simp] theorem State.reqClose_seqTlb (p tag : Nat) (st : Status) : (s.reqClose p tag st).seqTlb = s.seqTlb := by rw [State.reqClose_eq]
@[simp] theorem State.reqClose_tin (p tag : Nat) (st : Status) : (s.reqClose p tag st).tin = s.tin := by rw [State.reqClose_eq]
@[simp] theorem State.reqClose_tines (p tag : Nat) (st : Status) : (s.reqClose p tag st).tines = s.tines := by rw [State.reqClose_eq]
@[simp] theorem State.reqClose_sas (p tag : Nat) (st : Status) : (s.reqClose p tag st).sas = s.sas := by rw [State.reqClose_eq]
@[simp] theorem State.reqClose_paths (p tag : Nat) (st : Status) : (s.reqClose p tag st).paths = s.paths := by rw [State.reqClose_eq]
@[simp] theorem State.reqClose_inbox (p tag : Nat) (st : Status) : (s.reqClose p tag st).inbox = s.inbox := by rw [State.reqClose_eq]
@[simp] theorem State.reqClose_remotes (p tag : Nat) (st : Status) : (s.reqClose p tag st).remotes = s.remotes := by rw [State.reqClose_eq]
@[simp] theorem State.reqClose_proxies (p tag : Nat) (st : Status) : (s.reqClose p tag st).proxies = s.proxies := by rw [State.reqClose_eq]
@[simp] theorem State.reqClose_linkFences (p tag : Nat) (st : Status) : (s.reqClose p tag st).linkFences = s.linkFences := by rw [State.reqClose_eq]
@[simp] theorem State.reqClose_ctxs (p tag : Nat) (st : Status) : (s.reqClose p tag st).ctxs = s.ctxs := by rw [State.reqClose_eq]
@[simp] theorem State.reqClose_objs (p tag : Nat) (st : Status) : (s.reqClose p tag st).objs = s.objs := by rw [State.reqClose_eq]
@[simp] theorem State.reqClose_fences (p tag : Nat) (st : Status) : (s.reqClose p tag st).fences = s.fences := by rw [State.reqClose_eq]
@[simp] theorem State.reqClose_badFences (p tag : Nat) (st : Status) : (s.reqClose p tag st).badFences = s.badFences := by rw [State.reqClose_eq]
@[simp] theorem State.reqClose_fpages (p tag : Nat) (st : Status) : (s.reqClose p tag st).fpages = s.fpages := by rw [State.reqClose_eq]
@[simp] theorem State.reqClose_ctxWin (p tag : Nat) (st : Status) : (s.reqClose p tag st).ctxWin = s.ctxWin := by rw [State.reqClose_eq]
@[simp] theorem State.reqClose_slots (p tag : Nat) (st : Status) : (s.reqClose p tag st).slots = s.slots := by rw [State.reqClose_eq]
@[simp] theorem State.reqClose_fills (p tag : Nat) (st : Status) : (s.reqClose p tag st).fills = s.fills := by rw [State.reqClose_eq]
@[simp] theorem State.reqClose_vault (p tag : Nat) (st : Status) : (s.reqClose p tag st).vault = s.vault := by rw [State.reqClose_eq]
@[simp] theorem State.reqClose_flt (p tag : Nat) (st : Status) : (s.reqClose p tag st).flt = s.flt := by rw [State.reqClose_eq]
@[simp] theorem State.reqClose_units (p tag : Nat) (st : Status) : (s.reqClose p tag st).units = s.units := by rw [State.reqClose_eq]
@[simp] theorem State.reqClose_fawn (p tag : Nat) (st : Status) : (s.reqClose p tag st).fawn = s.fawn := by rw [State.reqClose_eq]
@[simp] theorem State.reqClose_pair (p tag : Nat) (st : Status) : (s.reqClose p tag st).pair = s.pair := by rw [State.reqClose_eq]
@[simp] theorem State.reqClose_sink (p tag : Nat) (st : Status) : (s.reqClose p tag st).sink = s.sink := by rw [State.reqClose_eq]
@[simp] theorem State.reqClose_out (p tag : Nat) (st : Status) : (s.reqClose p tag st).out = s.out := by rw [State.reqClose_eq]
@[simp] theorem State.reqClose_freeCount (p tag : Nat) (st : Status) : (s.reqClose p tag st).freeCount = s.freeCount := by rw [State.reqClose_eq]
@[simp] theorem State.reqClose_nextId (p tag : Nat) (st : Status) : (s.reqClose p tag st).nextId = s.nextId := by rw [State.reqClose_eq]
@[simp] theorem State.reqClose_mgTag (p tag : Nat) (st : Status) : (s.reqClose p tag st).mgTag = s.mgTag := by rw [State.reqClose_eq]
@[simp] theorem State.reqClose_pending (p tag : Nat) (st : Status) : (s.reqClose p tag st).pending = s.pending := by rw [State.reqClose_eq]

/-! ### `State.hostRsp` -/

/-- An answer is a transfer; the tag is free, and the request is closed. -/
theorem State.hostRsp_eq (tag : Nat) (st : Status) (d : Line) : s.hostRsp tag st d = { s with out := (s.hostRsp tag st d).out, hostTags := (s.hostRsp tag st d).hostTags, reqs := (s.hostRsp tag st d).reqs, qos := (s.hostRsp tag st d).qos, obs := (s.hostRsp tag st d).obs } := by
  unfold State.hostRsp
  dsimp only
  rw [State.reqClose_eq]
  split <;> rfl

@[simp] theorem State.hostRsp_blk (tag : Nat) (st : Status) (d : Line) : (s.hostRsp tag st d).blk = s.blk := by rw [State.hostRsp_eq]
@[simp] theorem State.hostRsp_ports (tag : Nat) (st : Status) (d : Line) : (s.hostRsp tag st d).ports = s.ports := by rw [State.hostRsp_eq]
@[simp] theorem State.hostRsp_tiles (tag : Nat) (st : Status) (d : Line) : (s.hostRsp tag st d).tiles = s.tiles := by rw [State.hostRsp_eq]
@[simp] theorem State.hostRsp_bindings (tag : Nat) (st : Status) (d : Line) : (s.hostRsp tag st d).bindings = s.bindings := by rw [State.hostRsp_eq]
@[simp] theorem State.hostRsp_losing (tag : Nat) (st : Status) (d : Line) : (s.hostRsp tag st d).losing = s.losing := by rw [State.hostRsp_eq]
@[simp] theorem State.hostRsp_test (tag : Nat) (st : Status) (d : Line) : (s.hostRsp tag st d).test = s.test := by rw [State.hostRsp_eq]
@[simp] theorem State.hostRsp_mem (tag : Nat) (st : Status) (d : Line) : (s.hostRsp tag st d).mem = s.mem := by rw [State.hostRsp_eq]
@[simp] theorem State.hostRsp_held (tag : Nat) (st : Status) (d : Line) : (s.hostRsp tag st d).held = s.held := by rw [State.hostRsp_eq]
@[simp] theorem State.hostRsp_own (tag : Nat) (st : Status) (d : Line) : (s.hostRsp tag st d).own = s.own := by rw [State.hostRsp_eq]
@[simp] theorem State.hostRsp_cleaning (tag : Nat) (st : Status) (d : Line) : (s.hostRsp tag st d).cleaning = s.cleaning := by rw [State.hostRsp_eq]
@[simp] theorem State.hostRsp_slc (tag : Nat) (st : Status) (d : Line) : (s.hostRsp tag st d).slc = s.slc := by rw [State.hostRsp_eq]
@[simp] theorem State.hostRsp_fncs (tag : Nat) (st : Status) (d : Line) : (s.hostRsp tag st d).fncs = s.fncs := by rw [State.hostRsp_eq]
@[simp] theorem State.hostRsp_views (tag : Nat) (st : Status) (d : Line) : (s.hostRsp tag st d).views = s.views := by rw [State.hostRsp_eq]
@[simp] theorem State.hostRsp_dirty (tag : Nat) (st : Status) (d : Line) : (s.hostRsp tag st d).dirty = s.dirty := by rw [State.hostRsp_eq]
@[simp] theorem State.hostRsp_img (tag : Nat) (st : Status) (d : Line) : (s.hostRsp tag st d).img = s.img := by rw [State.hostRsp_eq]
@[simp] theorem State.hostRsp_homes (tag : Nat) (st : Status) (d : Line) : (s.hostRsp tag st d).homes = s.homes := by rw [State.hostRsp_eq]
@[simp] theorem State.hostRsp_txns (tag : Nat) (st : Status) (d : Line) : (s.hostRsp tag st d).txns = s.txns := by rw [State.hostRsp_eq]
@[simp] theorem State.hostRsp_flushes (tag : Nat) (st : Status) (d : Line) : (s.hostRsp tag st d).flushes = s.flushes := by rw [State.hostRsp_eq]
@[simp] theorem State.hostRsp_homeTimeout (tag : Nat) (st : Status) (d : Line) : (s.hostRsp tag st d).homeTimeout = s.homeTimeout := by rw [State.hostRsp_eq]
@[simp] theorem State.hostRsp_keys (tag : Nat) (st : Status) (d : Line) : (s.hostRsp tag st d).keys = s.keys := by rw [State.hostRsp_eq]
@[simp] theorem State.hostRsp_mpt (tag : Nat) (st : Status) (d : Line) : (s.hostRsp tag st d).mpt = s.mpt := by rw [State.hostRsp_eq]
@[simp] theorem State.hostRsp_guardOps (tag : Nat) (st : Status) (d : Line) : (s.hostRsp tag st d).guardOps = s.guardOps := by rw [State.hostRsp_eq]
@[simp] theorem State.hostRsp_rw (tag : Nat) (st : Status) (d : Line) : (s.hostRsp tag st d).rw = s.rw := by rw [State.hostRsp_eq]
@[simp] theorem State.hostRsp_jobs (tag : Nat) (st : Status) (d : Line) : (s.hostRsp tag st d).jobs = s.jobs := by rw [State.hostRsp_eq]
@[simp] theorem State.hostRsp_engines (tag : Nat) (st : Status) (d : Line) : (s.hostRsp tag st d).engines = s.engines := by rw [State.hostRsp_eq]
@[simp] theorem State.hostRsp_seqs (tag : Nat) (st : Status) (d : Line) : (s.hostRsp tag st d).seqs = s.seqs := by rw [State.hostRsp_eq]
@[simp] theorem State.hostRsp_seqTlb (tag : Nat) (st : Status) (d : Line) : (s.hostRsp tag st d).seqTlb = s.seqTlb := by rw [State.hostRsp_eq]
@[simp] theorem State.hostRsp_tin (tag : Nat) (st : Status) (d : Line) : (s.hostRsp tag st d).tin = s.tin := by rw [State.hostRsp_eq]
@[simp] theorem State.hostRsp_tines (tag : Nat) (st : Status) (d : Line) : (s.hostRsp tag st d).tines = s.tines := by rw [State.hostRsp_eq]
@[simp] theorem State.hostRsp_sas (tag : Nat) (st : Status) (d : Line) : (s.hostRsp tag st d).sas = s.sas := by rw [State.hostRsp_eq]
@[simp] theorem State.hostRsp_paths (tag : Nat) (st : Status) (d : Line) : (s.hostRsp tag st d).paths = s.paths := by rw [State.hostRsp_eq]
@[simp] theorem State.hostRsp_inbox (tag : Nat) (st : Status) (d : Line) : (s.hostRsp tag st d).inbox = s.inbox := by rw [State.hostRsp_eq]
@[simp] theorem State.hostRsp_remotes (tag : Nat) (st : Status) (d : Line) : (s.hostRsp tag st d).remotes = s.remotes := by rw [State.hostRsp_eq]
@[simp] theorem State.hostRsp_proxies (tag : Nat) (st : Status) (d : Line) : (s.hostRsp tag st d).proxies = s.proxies := by rw [State.hostRsp_eq]
@[simp] theorem State.hostRsp_linkFences (tag : Nat) (st : Status) (d : Line) : (s.hostRsp tag st d).linkFences = s.linkFences := by rw [State.hostRsp_eq]
@[simp] theorem State.hostRsp_ctxs (tag : Nat) (st : Status) (d : Line) : (s.hostRsp tag st d).ctxs = s.ctxs := by rw [State.hostRsp_eq]
@[simp] theorem State.hostRsp_objs (tag : Nat) (st : Status) (d : Line) : (s.hostRsp tag st d).objs = s.objs := by rw [State.hostRsp_eq]
@[simp] theorem State.hostRsp_fences (tag : Nat) (st : Status) (d : Line) : (s.hostRsp tag st d).fences = s.fences := by rw [State.hostRsp_eq]
@[simp] theorem State.hostRsp_badFences (tag : Nat) (st : Status) (d : Line) : (s.hostRsp tag st d).badFences = s.badFences := by rw [State.hostRsp_eq]
@[simp] theorem State.hostRsp_fpages (tag : Nat) (st : Status) (d : Line) : (s.hostRsp tag st d).fpages = s.fpages := by rw [State.hostRsp_eq]
@[simp] theorem State.hostRsp_ctxWin (tag : Nat) (st : Status) (d : Line) : (s.hostRsp tag st d).ctxWin = s.ctxWin := by rw [State.hostRsp_eq]
@[simp] theorem State.hostRsp_slots (tag : Nat) (st : Status) (d : Line) : (s.hostRsp tag st d).slots = s.slots := by rw [State.hostRsp_eq]
@[simp] theorem State.hostRsp_fills (tag : Nat) (st : Status) (d : Line) : (s.hostRsp tag st d).fills = s.fills := by rw [State.hostRsp_eq]
@[simp] theorem State.hostRsp_vault (tag : Nat) (st : Status) (d : Line) : (s.hostRsp tag st d).vault = s.vault := by rw [State.hostRsp_eq]
@[simp] theorem State.hostRsp_flt (tag : Nat) (st : Status) (d : Line) : (s.hostRsp tag st d).flt = s.flt := by rw [State.hostRsp_eq]
@[simp] theorem State.hostRsp_units (tag : Nat) (st : Status) (d : Line) : (s.hostRsp tag st d).units = s.units := by rw [State.hostRsp_eq]
@[simp] theorem State.hostRsp_fawn (tag : Nat) (st : Status) (d : Line) : (s.hostRsp tag st d).fawn = s.fawn := by rw [State.hostRsp_eq]
@[simp] theorem State.hostRsp_pair (tag : Nat) (st : Status) (d : Line) : (s.hostRsp tag st d).pair = s.pair := by rw [State.hostRsp_eq]
@[simp] theorem State.hostRsp_sink (tag : Nat) (st : Status) (d : Line) : (s.hostRsp tag st d).sink = s.sink := by rw [State.hostRsp_eq]
@[simp] theorem State.hostRsp_freeCount (tag : Nat) (st : Status) (d : Line) : (s.hostRsp tag st d).freeCount = s.freeCount := by rw [State.hostRsp_eq]
@[simp] theorem State.hostRsp_nextId (tag : Nat) (st : Status) (d : Line) : (s.hostRsp tag st d).nextId = s.nextId := by rw [State.hostRsp_eq]
@[simp] theorem State.hostRsp_mgTag (tag : Nat) (st : Status) (d : Line) : (s.hostRsp tag st d).mgTag = s.mgTag := by rw [State.hostRsp_eq]
@[simp] theorem State.hostRsp_pending (tag : Nat) (st : Status) (d : Line) : (s.hostRsp tag st d).pending = s.pending := by rw [State.hostRsp_eq]

/-! ### `State.tileRsps` -/

/-- An answer is a transfer for each line; the tag is free, and the request is closed. -/
theorem State.tileRsps_eq (p tag : Nat) (st : Status) (g : Nat) (ds : List Line) : s.tileRsps p tag st g ds = { s with out := (s.tileRsps p tag st g ds).out, tiles := (s.tileRsps p tag st g ds).tiles, reqs := (s.tileRsps p tag st g ds).reqs, qos := (s.tileRsps p tag st g ds).qos, obs := (s.tileRsps p tag st g ds).obs } := by
  unfold State.tileRsps
  dsimp only
  split
  · rfl
  · rw [State.reqClose_eq]
    split <;> rfl

@[simp] theorem State.tileRsps_blk (p tag : Nat) (st : Status) (g : Nat) (ds : List Line) : (s.tileRsps p tag st g ds).blk = s.blk := by rw [State.tileRsps_eq]
@[simp] theorem State.tileRsps_ports (p tag : Nat) (st : Status) (g : Nat) (ds : List Line) : (s.tileRsps p tag st g ds).ports = s.ports := by rw [State.tileRsps_eq]
@[simp] theorem State.tileRsps_bindings (p tag : Nat) (st : Status) (g : Nat) (ds : List Line) : (s.tileRsps p tag st g ds).bindings = s.bindings := by rw [State.tileRsps_eq]
@[simp] theorem State.tileRsps_losing (p tag : Nat) (st : Status) (g : Nat) (ds : List Line) : (s.tileRsps p tag st g ds).losing = s.losing := by rw [State.tileRsps_eq]
@[simp] theorem State.tileRsps_hostTags (p tag : Nat) (st : Status) (g : Nat) (ds : List Line) : (s.tileRsps p tag st g ds).hostTags = s.hostTags := by rw [State.tileRsps_eq]
@[simp] theorem State.tileRsps_test (p tag : Nat) (st : Status) (g : Nat) (ds : List Line) : (s.tileRsps p tag st g ds).test = s.test := by rw [State.tileRsps_eq]
@[simp] theorem State.tileRsps_mem (p tag : Nat) (st : Status) (g : Nat) (ds : List Line) : (s.tileRsps p tag st g ds).mem = s.mem := by rw [State.tileRsps_eq]
@[simp] theorem State.tileRsps_held (p tag : Nat) (st : Status) (g : Nat) (ds : List Line) : (s.tileRsps p tag st g ds).held = s.held := by rw [State.tileRsps_eq]
@[simp] theorem State.tileRsps_own (p tag : Nat) (st : Status) (g : Nat) (ds : List Line) : (s.tileRsps p tag st g ds).own = s.own := by rw [State.tileRsps_eq]
@[simp] theorem State.tileRsps_cleaning (p tag : Nat) (st : Status) (g : Nat) (ds : List Line) : (s.tileRsps p tag st g ds).cleaning = s.cleaning := by rw [State.tileRsps_eq]
@[simp] theorem State.tileRsps_slc (p tag : Nat) (st : Status) (g : Nat) (ds : List Line) : (s.tileRsps p tag st g ds).slc = s.slc := by rw [State.tileRsps_eq]
@[simp] theorem State.tileRsps_fncs (p tag : Nat) (st : Status) (g : Nat) (ds : List Line) : (s.tileRsps p tag st g ds).fncs = s.fncs := by rw [State.tileRsps_eq]
@[simp] theorem State.tileRsps_views (p tag : Nat) (st : Status) (g : Nat) (ds : List Line) : (s.tileRsps p tag st g ds).views = s.views := by rw [State.tileRsps_eq]
@[simp] theorem State.tileRsps_dirty (p tag : Nat) (st : Status) (g : Nat) (ds : List Line) : (s.tileRsps p tag st g ds).dirty = s.dirty := by rw [State.tileRsps_eq]
@[simp] theorem State.tileRsps_img (p tag : Nat) (st : Status) (g : Nat) (ds : List Line) : (s.tileRsps p tag st g ds).img = s.img := by rw [State.tileRsps_eq]
@[simp] theorem State.tileRsps_homes (p tag : Nat) (st : Status) (g : Nat) (ds : List Line) : (s.tileRsps p tag st g ds).homes = s.homes := by rw [State.tileRsps_eq]
@[simp] theorem State.tileRsps_txns (p tag : Nat) (st : Status) (g : Nat) (ds : List Line) : (s.tileRsps p tag st g ds).txns = s.txns := by rw [State.tileRsps_eq]
@[simp] theorem State.tileRsps_flushes (p tag : Nat) (st : Status) (g : Nat) (ds : List Line) : (s.tileRsps p tag st g ds).flushes = s.flushes := by rw [State.tileRsps_eq]
@[simp] theorem State.tileRsps_homeTimeout (p tag : Nat) (st : Status) (g : Nat) (ds : List Line) : (s.tileRsps p tag st g ds).homeTimeout = s.homeTimeout := by rw [State.tileRsps_eq]
@[simp] theorem State.tileRsps_keys (p tag : Nat) (st : Status) (g : Nat) (ds : List Line) : (s.tileRsps p tag st g ds).keys = s.keys := by rw [State.tileRsps_eq]
@[simp] theorem State.tileRsps_mpt (p tag : Nat) (st : Status) (g : Nat) (ds : List Line) : (s.tileRsps p tag st g ds).mpt = s.mpt := by rw [State.tileRsps_eq]
@[simp] theorem State.tileRsps_guardOps (p tag : Nat) (st : Status) (g : Nat) (ds : List Line) : (s.tileRsps p tag st g ds).guardOps = s.guardOps := by rw [State.tileRsps_eq]
@[simp] theorem State.tileRsps_rw (p tag : Nat) (st : Status) (g : Nat) (ds : List Line) : (s.tileRsps p tag st g ds).rw = s.rw := by rw [State.tileRsps_eq]
@[simp] theorem State.tileRsps_jobs (p tag : Nat) (st : Status) (g : Nat) (ds : List Line) : (s.tileRsps p tag st g ds).jobs = s.jobs := by rw [State.tileRsps_eq]
@[simp] theorem State.tileRsps_engines (p tag : Nat) (st : Status) (g : Nat) (ds : List Line) : (s.tileRsps p tag st g ds).engines = s.engines := by rw [State.tileRsps_eq]
@[simp] theorem State.tileRsps_seqs (p tag : Nat) (st : Status) (g : Nat) (ds : List Line) : (s.tileRsps p tag st g ds).seqs = s.seqs := by rw [State.tileRsps_eq]
@[simp] theorem State.tileRsps_seqTlb (p tag : Nat) (st : Status) (g : Nat) (ds : List Line) : (s.tileRsps p tag st g ds).seqTlb = s.seqTlb := by rw [State.tileRsps_eq]
@[simp] theorem State.tileRsps_tin (p tag : Nat) (st : Status) (g : Nat) (ds : List Line) : (s.tileRsps p tag st g ds).tin = s.tin := by rw [State.tileRsps_eq]
@[simp] theorem State.tileRsps_tines (p tag : Nat) (st : Status) (g : Nat) (ds : List Line) : (s.tileRsps p tag st g ds).tines = s.tines := by rw [State.tileRsps_eq]
@[simp] theorem State.tileRsps_sas (p tag : Nat) (st : Status) (g : Nat) (ds : List Line) : (s.tileRsps p tag st g ds).sas = s.sas := by rw [State.tileRsps_eq]
@[simp] theorem State.tileRsps_paths (p tag : Nat) (st : Status) (g : Nat) (ds : List Line) : (s.tileRsps p tag st g ds).paths = s.paths := by rw [State.tileRsps_eq]
@[simp] theorem State.tileRsps_inbox (p tag : Nat) (st : Status) (g : Nat) (ds : List Line) : (s.tileRsps p tag st g ds).inbox = s.inbox := by rw [State.tileRsps_eq]
@[simp] theorem State.tileRsps_remotes (p tag : Nat) (st : Status) (g : Nat) (ds : List Line) : (s.tileRsps p tag st g ds).remotes = s.remotes := by rw [State.tileRsps_eq]
@[simp] theorem State.tileRsps_proxies (p tag : Nat) (st : Status) (g : Nat) (ds : List Line) : (s.tileRsps p tag st g ds).proxies = s.proxies := by rw [State.tileRsps_eq]
@[simp] theorem State.tileRsps_linkFences (p tag : Nat) (st : Status) (g : Nat) (ds : List Line) : (s.tileRsps p tag st g ds).linkFences = s.linkFences := by rw [State.tileRsps_eq]
@[simp] theorem State.tileRsps_ctxs (p tag : Nat) (st : Status) (g : Nat) (ds : List Line) : (s.tileRsps p tag st g ds).ctxs = s.ctxs := by rw [State.tileRsps_eq]
@[simp] theorem State.tileRsps_objs (p tag : Nat) (st : Status) (g : Nat) (ds : List Line) : (s.tileRsps p tag st g ds).objs = s.objs := by rw [State.tileRsps_eq]
@[simp] theorem State.tileRsps_fences (p tag : Nat) (st : Status) (g : Nat) (ds : List Line) : (s.tileRsps p tag st g ds).fences = s.fences := by rw [State.tileRsps_eq]
@[simp] theorem State.tileRsps_badFences (p tag : Nat) (st : Status) (g : Nat) (ds : List Line) : (s.tileRsps p tag st g ds).badFences = s.badFences := by rw [State.tileRsps_eq]
@[simp] theorem State.tileRsps_fpages (p tag : Nat) (st : Status) (g : Nat) (ds : List Line) : (s.tileRsps p tag st g ds).fpages = s.fpages := by rw [State.tileRsps_eq]
@[simp] theorem State.tileRsps_ctxWin (p tag : Nat) (st : Status) (g : Nat) (ds : List Line) : (s.tileRsps p tag st g ds).ctxWin = s.ctxWin := by rw [State.tileRsps_eq]
@[simp] theorem State.tileRsps_slots (p tag : Nat) (st : Status) (g : Nat) (ds : List Line) : (s.tileRsps p tag st g ds).slots = s.slots := by rw [State.tileRsps_eq]
@[simp] theorem State.tileRsps_fills (p tag : Nat) (st : Status) (g : Nat) (ds : List Line) : (s.tileRsps p tag st g ds).fills = s.fills := by rw [State.tileRsps_eq]
@[simp] theorem State.tileRsps_vault (p tag : Nat) (st : Status) (g : Nat) (ds : List Line) : (s.tileRsps p tag st g ds).vault = s.vault := by rw [State.tileRsps_eq]
@[simp] theorem State.tileRsps_flt (p tag : Nat) (st : Status) (g : Nat) (ds : List Line) : (s.tileRsps p tag st g ds).flt = s.flt := by rw [State.tileRsps_eq]
@[simp] theorem State.tileRsps_units (p tag : Nat) (st : Status) (g : Nat) (ds : List Line) : (s.tileRsps p tag st g ds).units = s.units := by rw [State.tileRsps_eq]
@[simp] theorem State.tileRsps_fawn (p tag : Nat) (st : Status) (g : Nat) (ds : List Line) : (s.tileRsps p tag st g ds).fawn = s.fawn := by rw [State.tileRsps_eq]
@[simp] theorem State.tileRsps_pair (p tag : Nat) (st : Status) (g : Nat) (ds : List Line) : (s.tileRsps p tag st g ds).pair = s.pair := by rw [State.tileRsps_eq]
@[simp] theorem State.tileRsps_sink (p tag : Nat) (st : Status) (g : Nat) (ds : List Line) : (s.tileRsps p tag st g ds).sink = s.sink := by rw [State.tileRsps_eq]
@[simp] theorem State.tileRsps_freeCount (p tag : Nat) (st : Status) (g : Nat) (ds : List Line) : (s.tileRsps p tag st g ds).freeCount = s.freeCount := by rw [State.tileRsps_eq]
@[simp] theorem State.tileRsps_nextId (p tag : Nat) (st : Status) (g : Nat) (ds : List Line) : (s.tileRsps p tag st g ds).nextId = s.nextId := by rw [State.tileRsps_eq]
@[simp] theorem State.tileRsps_mgTag (p tag : Nat) (st : Status) (g : Nat) (ds : List Line) : (s.tileRsps p tag st g ds).mgTag = s.mgTag := by rw [State.tileRsps_eq]
@[simp] theorem State.tileRsps_pending (p tag : Nat) (st : Status) (g : Nat) (ds : List Line) : (s.tileRsps p tag st g ds).pending = s.pending := by rw [State.tileRsps_eq]

/-! ### `State.tileRsp` -/

/-- An answer of one line. -/
theorem State.tileRsp_eq (p tag : Nat) (st : Status) (g : Nat) (d : Line) : s.tileRsp p tag st g d = { s with out := (s.tileRsp p tag st g d).out, tiles := (s.tileRsp p tag st g d).tiles, reqs := (s.tileRsp p tag st g d).reqs, qos := (s.tileRsp p tag st g d).qos, obs := (s.tileRsp p tag st g d).obs } := by
  exact State.tileRsps_eq s _ _ _ _ _

@[simp] theorem State.tileRsp_blk (p tag : Nat) (st : Status) (g : Nat) (d : Line) : (s.tileRsp p tag st g d).blk = s.blk := by rw [State.tileRsp_eq]
@[simp] theorem State.tileRsp_ports (p tag : Nat) (st : Status) (g : Nat) (d : Line) : (s.tileRsp p tag st g d).ports = s.ports := by rw [State.tileRsp_eq]
@[simp] theorem State.tileRsp_bindings (p tag : Nat) (st : Status) (g : Nat) (d : Line) : (s.tileRsp p tag st g d).bindings = s.bindings := by rw [State.tileRsp_eq]
@[simp] theorem State.tileRsp_losing (p tag : Nat) (st : Status) (g : Nat) (d : Line) : (s.tileRsp p tag st g d).losing = s.losing := by rw [State.tileRsp_eq]
@[simp] theorem State.tileRsp_hostTags (p tag : Nat) (st : Status) (g : Nat) (d : Line) : (s.tileRsp p tag st g d).hostTags = s.hostTags := by rw [State.tileRsp_eq]
@[simp] theorem State.tileRsp_test (p tag : Nat) (st : Status) (g : Nat) (d : Line) : (s.tileRsp p tag st g d).test = s.test := by rw [State.tileRsp_eq]
@[simp] theorem State.tileRsp_mem (p tag : Nat) (st : Status) (g : Nat) (d : Line) : (s.tileRsp p tag st g d).mem = s.mem := by rw [State.tileRsp_eq]
@[simp] theorem State.tileRsp_held (p tag : Nat) (st : Status) (g : Nat) (d : Line) : (s.tileRsp p tag st g d).held = s.held := by rw [State.tileRsp_eq]
@[simp] theorem State.tileRsp_own (p tag : Nat) (st : Status) (g : Nat) (d : Line) : (s.tileRsp p tag st g d).own = s.own := by rw [State.tileRsp_eq]
@[simp] theorem State.tileRsp_cleaning (p tag : Nat) (st : Status) (g : Nat) (d : Line) : (s.tileRsp p tag st g d).cleaning = s.cleaning := by rw [State.tileRsp_eq]
@[simp] theorem State.tileRsp_slc (p tag : Nat) (st : Status) (g : Nat) (d : Line) : (s.tileRsp p tag st g d).slc = s.slc := by rw [State.tileRsp_eq]
@[simp] theorem State.tileRsp_fncs (p tag : Nat) (st : Status) (g : Nat) (d : Line) : (s.tileRsp p tag st g d).fncs = s.fncs := by rw [State.tileRsp_eq]
@[simp] theorem State.tileRsp_views (p tag : Nat) (st : Status) (g : Nat) (d : Line) : (s.tileRsp p tag st g d).views = s.views := by rw [State.tileRsp_eq]
@[simp] theorem State.tileRsp_dirty (p tag : Nat) (st : Status) (g : Nat) (d : Line) : (s.tileRsp p tag st g d).dirty = s.dirty := by rw [State.tileRsp_eq]
@[simp] theorem State.tileRsp_img (p tag : Nat) (st : Status) (g : Nat) (d : Line) : (s.tileRsp p tag st g d).img = s.img := by rw [State.tileRsp_eq]
@[simp] theorem State.tileRsp_homes (p tag : Nat) (st : Status) (g : Nat) (d : Line) : (s.tileRsp p tag st g d).homes = s.homes := by rw [State.tileRsp_eq]
@[simp] theorem State.tileRsp_txns (p tag : Nat) (st : Status) (g : Nat) (d : Line) : (s.tileRsp p tag st g d).txns = s.txns := by rw [State.tileRsp_eq]
@[simp] theorem State.tileRsp_flushes (p tag : Nat) (st : Status) (g : Nat) (d : Line) : (s.tileRsp p tag st g d).flushes = s.flushes := by rw [State.tileRsp_eq]
@[simp] theorem State.tileRsp_homeTimeout (p tag : Nat) (st : Status) (g : Nat) (d : Line) : (s.tileRsp p tag st g d).homeTimeout = s.homeTimeout := by rw [State.tileRsp_eq]
@[simp] theorem State.tileRsp_keys (p tag : Nat) (st : Status) (g : Nat) (d : Line) : (s.tileRsp p tag st g d).keys = s.keys := by rw [State.tileRsp_eq]
@[simp] theorem State.tileRsp_mpt (p tag : Nat) (st : Status) (g : Nat) (d : Line) : (s.tileRsp p tag st g d).mpt = s.mpt := by rw [State.tileRsp_eq]
@[simp] theorem State.tileRsp_guardOps (p tag : Nat) (st : Status) (g : Nat) (d : Line) : (s.tileRsp p tag st g d).guardOps = s.guardOps := by rw [State.tileRsp_eq]
@[simp] theorem State.tileRsp_rw (p tag : Nat) (st : Status) (g : Nat) (d : Line) : (s.tileRsp p tag st g d).rw = s.rw := by rw [State.tileRsp_eq]
@[simp] theorem State.tileRsp_jobs (p tag : Nat) (st : Status) (g : Nat) (d : Line) : (s.tileRsp p tag st g d).jobs = s.jobs := by rw [State.tileRsp_eq]
@[simp] theorem State.tileRsp_engines (p tag : Nat) (st : Status) (g : Nat) (d : Line) : (s.tileRsp p tag st g d).engines = s.engines := by rw [State.tileRsp_eq]
@[simp] theorem State.tileRsp_seqs (p tag : Nat) (st : Status) (g : Nat) (d : Line) : (s.tileRsp p tag st g d).seqs = s.seqs := by rw [State.tileRsp_eq]
@[simp] theorem State.tileRsp_seqTlb (p tag : Nat) (st : Status) (g : Nat) (d : Line) : (s.tileRsp p tag st g d).seqTlb = s.seqTlb := by rw [State.tileRsp_eq]
@[simp] theorem State.tileRsp_tin (p tag : Nat) (st : Status) (g : Nat) (d : Line) : (s.tileRsp p tag st g d).tin = s.tin := by rw [State.tileRsp_eq]
@[simp] theorem State.tileRsp_tines (p tag : Nat) (st : Status) (g : Nat) (d : Line) : (s.tileRsp p tag st g d).tines = s.tines := by rw [State.tileRsp_eq]
@[simp] theorem State.tileRsp_sas (p tag : Nat) (st : Status) (g : Nat) (d : Line) : (s.tileRsp p tag st g d).sas = s.sas := by rw [State.tileRsp_eq]
@[simp] theorem State.tileRsp_paths (p tag : Nat) (st : Status) (g : Nat) (d : Line) : (s.tileRsp p tag st g d).paths = s.paths := by rw [State.tileRsp_eq]
@[simp] theorem State.tileRsp_inbox (p tag : Nat) (st : Status) (g : Nat) (d : Line) : (s.tileRsp p tag st g d).inbox = s.inbox := by rw [State.tileRsp_eq]
@[simp] theorem State.tileRsp_remotes (p tag : Nat) (st : Status) (g : Nat) (d : Line) : (s.tileRsp p tag st g d).remotes = s.remotes := by rw [State.tileRsp_eq]
@[simp] theorem State.tileRsp_proxies (p tag : Nat) (st : Status) (g : Nat) (d : Line) : (s.tileRsp p tag st g d).proxies = s.proxies := by rw [State.tileRsp_eq]
@[simp] theorem State.tileRsp_linkFences (p tag : Nat) (st : Status) (g : Nat) (d : Line) : (s.tileRsp p tag st g d).linkFences = s.linkFences := by rw [State.tileRsp_eq]
@[simp] theorem State.tileRsp_ctxs (p tag : Nat) (st : Status) (g : Nat) (d : Line) : (s.tileRsp p tag st g d).ctxs = s.ctxs := by rw [State.tileRsp_eq]
@[simp] theorem State.tileRsp_objs (p tag : Nat) (st : Status) (g : Nat) (d : Line) : (s.tileRsp p tag st g d).objs = s.objs := by rw [State.tileRsp_eq]
@[simp] theorem State.tileRsp_fences (p tag : Nat) (st : Status) (g : Nat) (d : Line) : (s.tileRsp p tag st g d).fences = s.fences := by rw [State.tileRsp_eq]
@[simp] theorem State.tileRsp_badFences (p tag : Nat) (st : Status) (g : Nat) (d : Line) : (s.tileRsp p tag st g d).badFences = s.badFences := by rw [State.tileRsp_eq]
@[simp] theorem State.tileRsp_fpages (p tag : Nat) (st : Status) (g : Nat) (d : Line) : (s.tileRsp p tag st g d).fpages = s.fpages := by rw [State.tileRsp_eq]
@[simp] theorem State.tileRsp_ctxWin (p tag : Nat) (st : Status) (g : Nat) (d : Line) : (s.tileRsp p tag st g d).ctxWin = s.ctxWin := by rw [State.tileRsp_eq]
@[simp] theorem State.tileRsp_slots (p tag : Nat) (st : Status) (g : Nat) (d : Line) : (s.tileRsp p tag st g d).slots = s.slots := by rw [State.tileRsp_eq]
@[simp] theorem State.tileRsp_fills (p tag : Nat) (st : Status) (g : Nat) (d : Line) : (s.tileRsp p tag st g d).fills = s.fills := by rw [State.tileRsp_eq]
@[simp] theorem State.tileRsp_vault (p tag : Nat) (st : Status) (g : Nat) (d : Line) : (s.tileRsp p tag st g d).vault = s.vault := by rw [State.tileRsp_eq]
@[simp] theorem State.tileRsp_flt (p tag : Nat) (st : Status) (g : Nat) (d : Line) : (s.tileRsp p tag st g d).flt = s.flt := by rw [State.tileRsp_eq]
@[simp] theorem State.tileRsp_units (p tag : Nat) (st : Status) (g : Nat) (d : Line) : (s.tileRsp p tag st g d).units = s.units := by rw [State.tileRsp_eq]
@[simp] theorem State.tileRsp_fawn (p tag : Nat) (st : Status) (g : Nat) (d : Line) : (s.tileRsp p tag st g d).fawn = s.fawn := by rw [State.tileRsp_eq]
@[simp] theorem State.tileRsp_pair (p tag : Nat) (st : Status) (g : Nat) (d : Line) : (s.tileRsp p tag st g d).pair = s.pair := by rw [State.tileRsp_eq]
@[simp] theorem State.tileRsp_sink (p tag : Nat) (st : Status) (g : Nat) (d : Line) : (s.tileRsp p tag st g d).sink = s.sink := by rw [State.tileRsp_eq]
@[simp] theorem State.tileRsp_freeCount (p tag : Nat) (st : Status) (g : Nat) (d : Line) : (s.tileRsp p tag st g d).freeCount = s.freeCount := by rw [State.tileRsp_eq]
@[simp] theorem State.tileRsp_nextId (p tag : Nat) (st : Status) (g : Nat) (d : Line) : (s.tileRsp p tag st g d).nextId = s.nextId := by rw [State.tileRsp_eq]
@[simp] theorem State.tileRsp_mgTag (p tag : Nat) (st : Status) (g : Nat) (d : Line) : (s.tileRsp p tag st g d).mgTag = s.mgTag := by rw [State.tileRsp_eq]
@[simp] theorem State.tileRsp_pending (p tag : Nat) (st : Status) (g : Nat) (d : Line) : (s.tileRsp p tag st g d).pending = s.pending := by rw [State.tileRsp_eq]

/-! ### `State.kbAck` -/

/-- An acknowledgement is a transfer. -/
theorem State.kbAck_eq (q : Nat) (st : Status) : s.kbAck q st = { s with out := (s.kbAck q st).out } := by
  unfold State.kbAck
  try dsimp only
  split <;> rfl

@[simp] theorem State.kbAck_blk (q : Nat) (st : Status) : (s.kbAck q st).blk = s.blk := by rw [State.kbAck_eq]
@[simp] theorem State.kbAck_ports (q : Nat) (st : Status) : (s.kbAck q st).ports = s.ports := by rw [State.kbAck_eq]
@[simp] theorem State.kbAck_tiles (q : Nat) (st : Status) : (s.kbAck q st).tiles = s.tiles := by rw [State.kbAck_eq]
@[simp] theorem State.kbAck_bindings (q : Nat) (st : Status) : (s.kbAck q st).bindings = s.bindings := by rw [State.kbAck_eq]
@[simp] theorem State.kbAck_losing (q : Nat) (st : Status) : (s.kbAck q st).losing = s.losing := by rw [State.kbAck_eq]
@[simp] theorem State.kbAck_hostTags (q : Nat) (st : Status) : (s.kbAck q st).hostTags = s.hostTags := by rw [State.kbAck_eq]
@[simp] theorem State.kbAck_reqs (q : Nat) (st : Status) : (s.kbAck q st).reqs = s.reqs := by rw [State.kbAck_eq]
@[simp] theorem State.kbAck_test (q : Nat) (st : Status) : (s.kbAck q st).test = s.test := by rw [State.kbAck_eq]
@[simp] theorem State.kbAck_mem (q : Nat) (st : Status) : (s.kbAck q st).mem = s.mem := by rw [State.kbAck_eq]
@[simp] theorem State.kbAck_held (q : Nat) (st : Status) : (s.kbAck q st).held = s.held := by rw [State.kbAck_eq]
@[simp] theorem State.kbAck_own (q : Nat) (st : Status) : (s.kbAck q st).own = s.own := by rw [State.kbAck_eq]
@[simp] theorem State.kbAck_cleaning (q : Nat) (st : Status) : (s.kbAck q st).cleaning = s.cleaning := by rw [State.kbAck_eq]
@[simp] theorem State.kbAck_slc (q : Nat) (st : Status) : (s.kbAck q st).slc = s.slc := by rw [State.kbAck_eq]
@[simp] theorem State.kbAck_fncs (q : Nat) (st : Status) : (s.kbAck q st).fncs = s.fncs := by rw [State.kbAck_eq]
@[simp] theorem State.kbAck_views (q : Nat) (st : Status) : (s.kbAck q st).views = s.views := by rw [State.kbAck_eq]
@[simp] theorem State.kbAck_dirty (q : Nat) (st : Status) : (s.kbAck q st).dirty = s.dirty := by rw [State.kbAck_eq]
@[simp] theorem State.kbAck_img (q : Nat) (st : Status) : (s.kbAck q st).img = s.img := by rw [State.kbAck_eq]
@[simp] theorem State.kbAck_homes (q : Nat) (st : Status) : (s.kbAck q st).homes = s.homes := by rw [State.kbAck_eq]
@[simp] theorem State.kbAck_txns (q : Nat) (st : Status) : (s.kbAck q st).txns = s.txns := by rw [State.kbAck_eq]
@[simp] theorem State.kbAck_flushes (q : Nat) (st : Status) : (s.kbAck q st).flushes = s.flushes := by rw [State.kbAck_eq]
@[simp] theorem State.kbAck_homeTimeout (q : Nat) (st : Status) : (s.kbAck q st).homeTimeout = s.homeTimeout := by rw [State.kbAck_eq]
@[simp] theorem State.kbAck_qos (q : Nat) (st : Status) : (s.kbAck q st).qos = s.qos := by rw [State.kbAck_eq]
@[simp] theorem State.kbAck_keys (q : Nat) (st : Status) : (s.kbAck q st).keys = s.keys := by rw [State.kbAck_eq]
@[simp] theorem State.kbAck_mpt (q : Nat) (st : Status) : (s.kbAck q st).mpt = s.mpt := by rw [State.kbAck_eq]
@[simp] theorem State.kbAck_guardOps (q : Nat) (st : Status) : (s.kbAck q st).guardOps = s.guardOps := by rw [State.kbAck_eq]
@[simp] theorem State.kbAck_rw (q : Nat) (st : Status) : (s.kbAck q st).rw = s.rw := by rw [State.kbAck_eq]
@[simp] theorem State.kbAck_jobs (q : Nat) (st : Status) : (s.kbAck q st).jobs = s.jobs := by rw [State.kbAck_eq]
@[simp] theorem State.kbAck_engines (q : Nat) (st : Status) : (s.kbAck q st).engines = s.engines := by rw [State.kbAck_eq]
@[simp] theorem State.kbAck_seqs (q : Nat) (st : Status) : (s.kbAck q st).seqs = s.seqs := by rw [State.kbAck_eq]
@[simp] theorem State.kbAck_seqTlb (q : Nat) (st : Status) : (s.kbAck q st).seqTlb = s.seqTlb := by rw [State.kbAck_eq]
@[simp] theorem State.kbAck_tin (q : Nat) (st : Status) : (s.kbAck q st).tin = s.tin := by rw [State.kbAck_eq]
@[simp] theorem State.kbAck_tines (q : Nat) (st : Status) : (s.kbAck q st).tines = s.tines := by rw [State.kbAck_eq]
@[simp] theorem State.kbAck_sas (q : Nat) (st : Status) : (s.kbAck q st).sas = s.sas := by rw [State.kbAck_eq]
@[simp] theorem State.kbAck_paths (q : Nat) (st : Status) : (s.kbAck q st).paths = s.paths := by rw [State.kbAck_eq]
@[simp] theorem State.kbAck_inbox (q : Nat) (st : Status) : (s.kbAck q st).inbox = s.inbox := by rw [State.kbAck_eq]
@[simp] theorem State.kbAck_remotes (q : Nat) (st : Status) : (s.kbAck q st).remotes = s.remotes := by rw [State.kbAck_eq]
@[simp] theorem State.kbAck_proxies (q : Nat) (st : Status) : (s.kbAck q st).proxies = s.proxies := by rw [State.kbAck_eq]
@[simp] theorem State.kbAck_linkFences (q : Nat) (st : Status) : (s.kbAck q st).linkFences = s.linkFences := by rw [State.kbAck_eq]
@[simp] theorem State.kbAck_ctxs (q : Nat) (st : Status) : (s.kbAck q st).ctxs = s.ctxs := by rw [State.kbAck_eq]
@[simp] theorem State.kbAck_objs (q : Nat) (st : Status) : (s.kbAck q st).objs = s.objs := by rw [State.kbAck_eq]
@[simp] theorem State.kbAck_fences (q : Nat) (st : Status) : (s.kbAck q st).fences = s.fences := by rw [State.kbAck_eq]
@[simp] theorem State.kbAck_badFences (q : Nat) (st : Status) : (s.kbAck q st).badFences = s.badFences := by rw [State.kbAck_eq]
@[simp] theorem State.kbAck_fpages (q : Nat) (st : Status) : (s.kbAck q st).fpages = s.fpages := by rw [State.kbAck_eq]
@[simp] theorem State.kbAck_ctxWin (q : Nat) (st : Status) : (s.kbAck q st).ctxWin = s.ctxWin := by rw [State.kbAck_eq]
@[simp] theorem State.kbAck_slots (q : Nat) (st : Status) : (s.kbAck q st).slots = s.slots := by rw [State.kbAck_eq]
@[simp] theorem State.kbAck_fills (q : Nat) (st : Status) : (s.kbAck q st).fills = s.fills := by rw [State.kbAck_eq]
@[simp] theorem State.kbAck_vault (q : Nat) (st : Status) : (s.kbAck q st).vault = s.vault := by rw [State.kbAck_eq]
@[simp] theorem State.kbAck_flt (q : Nat) (st : Status) : (s.kbAck q st).flt = s.flt := by rw [State.kbAck_eq]
@[simp] theorem State.kbAck_units (q : Nat) (st : Status) : (s.kbAck q st).units = s.units := by rw [State.kbAck_eq]
@[simp] theorem State.kbAck_fawn (q : Nat) (st : Status) : (s.kbAck q st).fawn = s.fawn := by rw [State.kbAck_eq]
@[simp] theorem State.kbAck_pair (q : Nat) (st : Status) : (s.kbAck q st).pair = s.pair := by rw [State.kbAck_eq]
@[simp] theorem State.kbAck_obs (q : Nat) (st : Status) : (s.kbAck q st).obs = s.obs := by rw [State.kbAck_eq]
@[simp] theorem State.kbAck_sink (q : Nat) (st : Status) : (s.kbAck q st).sink = s.sink := by rw [State.kbAck_eq]
@[simp] theorem State.kbAck_freeCount (q : Nat) (st : Status) : (s.kbAck q st).freeCount = s.freeCount := by rw [State.kbAck_eq]
@[simp] theorem State.kbAck_nextId (q : Nat) (st : Status) : (s.kbAck q st).nextId = s.nextId := by rw [State.kbAck_eq]
@[simp] theorem State.kbAck_mgTag (q : Nat) (st : Status) : (s.kbAck q st).mgTag = s.mgTag := by rw [State.kbAck_eq]
@[simp] theorem State.kbAck_pending (q : Nat) (st : Status) : (s.kbAck q st).pending = s.pending := by rw [State.kbAck_eq]

/-! ### `State.charge` -/

/-- What is served is counted in `qos`. -/
theorem State.charge_eq (i sl t n : Nat) : s.charge i sl t n = { s with qos := (s.charge i sl t n).qos } := rfl

@[simp] theorem State.charge_blk (i sl t n : Nat) : (s.charge i sl t n).blk = s.blk := by rw [State.charge_eq]
@[simp] theorem State.charge_ports (i sl t n : Nat) : (s.charge i sl t n).ports = s.ports := by rw [State.charge_eq]
@[simp] theorem State.charge_tiles (i sl t n : Nat) : (s.charge i sl t n).tiles = s.tiles := by rw [State.charge_eq]
@[simp] theorem State.charge_bindings (i sl t n : Nat) : (s.charge i sl t n).bindings = s.bindings := by rw [State.charge_eq]
@[simp] theorem State.charge_losing (i sl t n : Nat) : (s.charge i sl t n).losing = s.losing := by rw [State.charge_eq]
@[simp] theorem State.charge_hostTags (i sl t n : Nat) : (s.charge i sl t n).hostTags = s.hostTags := by rw [State.charge_eq]
@[simp] theorem State.charge_reqs (i sl t n : Nat) : (s.charge i sl t n).reqs = s.reqs := by rw [State.charge_eq]
@[simp] theorem State.charge_test (i sl t n : Nat) : (s.charge i sl t n).test = s.test := by rw [State.charge_eq]
@[simp] theorem State.charge_mem (i sl t n : Nat) : (s.charge i sl t n).mem = s.mem := by rw [State.charge_eq]
@[simp] theorem State.charge_held (i sl t n : Nat) : (s.charge i sl t n).held = s.held := by rw [State.charge_eq]
@[simp] theorem State.charge_own (i sl t n : Nat) : (s.charge i sl t n).own = s.own := by rw [State.charge_eq]
@[simp] theorem State.charge_cleaning (i sl t n : Nat) : (s.charge i sl t n).cleaning = s.cleaning := by rw [State.charge_eq]
@[simp] theorem State.charge_slc (i sl t n : Nat) : (s.charge i sl t n).slc = s.slc := by rw [State.charge_eq]
@[simp] theorem State.charge_fncs (i sl t n : Nat) : (s.charge i sl t n).fncs = s.fncs := by rw [State.charge_eq]
@[simp] theorem State.charge_views (i sl t n : Nat) : (s.charge i sl t n).views = s.views := by rw [State.charge_eq]
@[simp] theorem State.charge_dirty (i sl t n : Nat) : (s.charge i sl t n).dirty = s.dirty := by rw [State.charge_eq]
@[simp] theorem State.charge_img (i sl t n : Nat) : (s.charge i sl t n).img = s.img := by rw [State.charge_eq]
@[simp] theorem State.charge_homes (i sl t n : Nat) : (s.charge i sl t n).homes = s.homes := by rw [State.charge_eq]
@[simp] theorem State.charge_txns (i sl t n : Nat) : (s.charge i sl t n).txns = s.txns := by rw [State.charge_eq]
@[simp] theorem State.charge_flushes (i sl t n : Nat) : (s.charge i sl t n).flushes = s.flushes := by rw [State.charge_eq]
@[simp] theorem State.charge_homeTimeout (i sl t n : Nat) : (s.charge i sl t n).homeTimeout = s.homeTimeout := by rw [State.charge_eq]
@[simp] theorem State.charge_keys (i sl t n : Nat) : (s.charge i sl t n).keys = s.keys := by rw [State.charge_eq]
@[simp] theorem State.charge_mpt (i sl t n : Nat) : (s.charge i sl t n).mpt = s.mpt := by rw [State.charge_eq]
@[simp] theorem State.charge_guardOps (i sl t n : Nat) : (s.charge i sl t n).guardOps = s.guardOps := by rw [State.charge_eq]
@[simp] theorem State.charge_rw (i sl t n : Nat) : (s.charge i sl t n).rw = s.rw := by rw [State.charge_eq]
@[simp] theorem State.charge_jobs (i sl t n : Nat) : (s.charge i sl t n).jobs = s.jobs := by rw [State.charge_eq]
@[simp] theorem State.charge_engines (i sl t n : Nat) : (s.charge i sl t n).engines = s.engines := by rw [State.charge_eq]
@[simp] theorem State.charge_seqs (i sl t n : Nat) : (s.charge i sl t n).seqs = s.seqs := by rw [State.charge_eq]
@[simp] theorem State.charge_seqTlb (i sl t n : Nat) : (s.charge i sl t n).seqTlb = s.seqTlb := by rw [State.charge_eq]
@[simp] theorem State.charge_tin (i sl t n : Nat) : (s.charge i sl t n).tin = s.tin := by rw [State.charge_eq]
@[simp] theorem State.charge_tines (i sl t n : Nat) : (s.charge i sl t n).tines = s.tines := by rw [State.charge_eq]
@[simp] theorem State.charge_sas (i sl t n : Nat) : (s.charge i sl t n).sas = s.sas := by rw [State.charge_eq]
@[simp] theorem State.charge_paths (i sl t n : Nat) : (s.charge i sl t n).paths = s.paths := by rw [State.charge_eq]
@[simp] theorem State.charge_inbox (i sl t n : Nat) : (s.charge i sl t n).inbox = s.inbox := by rw [State.charge_eq]
@[simp] theorem State.charge_remotes (i sl t n : Nat) : (s.charge i sl t n).remotes = s.remotes := by rw [State.charge_eq]
@[simp] theorem State.charge_proxies (i sl t n : Nat) : (s.charge i sl t n).proxies = s.proxies := by rw [State.charge_eq]
@[simp] theorem State.charge_linkFences (i sl t n : Nat) : (s.charge i sl t n).linkFences = s.linkFences := by rw [State.charge_eq]
@[simp] theorem State.charge_ctxs (i sl t n : Nat) : (s.charge i sl t n).ctxs = s.ctxs := by rw [State.charge_eq]
@[simp] theorem State.charge_objs (i sl t n : Nat) : (s.charge i sl t n).objs = s.objs := by rw [State.charge_eq]
@[simp] theorem State.charge_fences (i sl t n : Nat) : (s.charge i sl t n).fences = s.fences := by rw [State.charge_eq]
@[simp] theorem State.charge_badFences (i sl t n : Nat) : (s.charge i sl t n).badFences = s.badFences := by rw [State.charge_eq]
@[simp] theorem State.charge_fpages (i sl t n : Nat) : (s.charge i sl t n).fpages = s.fpages := by rw [State.charge_eq]
@[simp] theorem State.charge_ctxWin (i sl t n : Nat) : (s.charge i sl t n).ctxWin = s.ctxWin := by rw [State.charge_eq]
@[simp] theorem State.charge_slots (i sl t n : Nat) : (s.charge i sl t n).slots = s.slots := by rw [State.charge_eq]
@[simp] theorem State.charge_fills (i sl t n : Nat) : (s.charge i sl t n).fills = s.fills := by rw [State.charge_eq]
@[simp] theorem State.charge_vault (i sl t n : Nat) : (s.charge i sl t n).vault = s.vault := by rw [State.charge_eq]
@[simp] theorem State.charge_flt (i sl t n : Nat) : (s.charge i sl t n).flt = s.flt := by rw [State.charge_eq]
@[simp] theorem State.charge_units (i sl t n : Nat) : (s.charge i sl t n).units = s.units := by rw [State.charge_eq]
@[simp] theorem State.charge_fawn (i sl t n : Nat) : (s.charge i sl t n).fawn = s.fawn := by rw [State.charge_eq]
@[simp] theorem State.charge_pair (i sl t n : Nat) : (s.charge i sl t n).pair = s.pair := by rw [State.charge_eq]
@[simp] theorem State.charge_obs (i sl t n : Nat) : (s.charge i sl t n).obs = s.obs := by rw [State.charge_eq]
@[simp] theorem State.charge_sink (i sl t n : Nat) : (s.charge i sl t n).sink = s.sink := by rw [State.charge_eq]
@[simp] theorem State.charge_out (i sl t n : Nat) : (s.charge i sl t n).out = s.out := by rw [State.charge_eq]
@[simp] theorem State.charge_freeCount (i sl t n : Nat) : (s.charge i sl t n).freeCount = s.freeCount := by rw [State.charge_eq]
@[simp] theorem State.charge_nextId (i sl t n : Nat) : (s.charge i sl t n).nextId = s.nextId := by rw [State.charge_eq]
@[simp] theorem State.charge_mgTag (i sl t n : Nat) : (s.charge i sl t n).mgTag = s.mgTag := by rw [State.charge_eq]
@[simp] theorem State.charge_pending (i sl t n : Nat) : (s.charge i sl t n).pending = s.pending := by rw [State.charge_eq]

/-! ### `State.useFree` -/

/-- A free value is counted. -/
theorem State.useFree_eq : s.useFree = { s with freeCount := (s.useFree).freeCount } := rfl

@[simp] theorem State.useFree_blk : (s.useFree).blk = s.blk := by rw [State.useFree_eq]
@[simp] theorem State.useFree_ports : (s.useFree).ports = s.ports := by rw [State.useFree_eq]
@[simp] theorem State.useFree_tiles : (s.useFree).tiles = s.tiles := by rw [State.useFree_eq]
@[simp] theorem State.useFree_bindings : (s.useFree).bindings = s.bindings := by rw [State.useFree_eq]
@[simp] theorem State.useFree_losing : (s.useFree).losing = s.losing := by rw [State.useFree_eq]
@[simp] theorem State.useFree_hostTags : (s.useFree).hostTags = s.hostTags := by rw [State.useFree_eq]
@[simp] theorem State.useFree_reqs : (s.useFree).reqs = s.reqs := by rw [State.useFree_eq]
@[simp] theorem State.useFree_test : (s.useFree).test = s.test := by rw [State.useFree_eq]
@[simp] theorem State.useFree_mem : (s.useFree).mem = s.mem := by rw [State.useFree_eq]
@[simp] theorem State.useFree_held : (s.useFree).held = s.held := by rw [State.useFree_eq]
@[simp] theorem State.useFree_own : (s.useFree).own = s.own := by rw [State.useFree_eq]
@[simp] theorem State.useFree_cleaning : (s.useFree).cleaning = s.cleaning := by rw [State.useFree_eq]
@[simp] theorem State.useFree_slc : (s.useFree).slc = s.slc := by rw [State.useFree_eq]
@[simp] theorem State.useFree_fncs : (s.useFree).fncs = s.fncs := by rw [State.useFree_eq]
@[simp] theorem State.useFree_views : (s.useFree).views = s.views := by rw [State.useFree_eq]
@[simp] theorem State.useFree_dirty : (s.useFree).dirty = s.dirty := by rw [State.useFree_eq]
@[simp] theorem State.useFree_img : (s.useFree).img = s.img := by rw [State.useFree_eq]
@[simp] theorem State.useFree_homes : (s.useFree).homes = s.homes := by rw [State.useFree_eq]
@[simp] theorem State.useFree_txns : (s.useFree).txns = s.txns := by rw [State.useFree_eq]
@[simp] theorem State.useFree_flushes : (s.useFree).flushes = s.flushes := by rw [State.useFree_eq]
@[simp] theorem State.useFree_homeTimeout : (s.useFree).homeTimeout = s.homeTimeout := by rw [State.useFree_eq]
@[simp] theorem State.useFree_qos : (s.useFree).qos = s.qos := by rw [State.useFree_eq]
@[simp] theorem State.useFree_keys : (s.useFree).keys = s.keys := by rw [State.useFree_eq]
@[simp] theorem State.useFree_mpt : (s.useFree).mpt = s.mpt := by rw [State.useFree_eq]
@[simp] theorem State.useFree_guardOps : (s.useFree).guardOps = s.guardOps := by rw [State.useFree_eq]
@[simp] theorem State.useFree_rw : (s.useFree).rw = s.rw := by rw [State.useFree_eq]
@[simp] theorem State.useFree_jobs : (s.useFree).jobs = s.jobs := by rw [State.useFree_eq]
@[simp] theorem State.useFree_engines : (s.useFree).engines = s.engines := by rw [State.useFree_eq]
@[simp] theorem State.useFree_seqs : (s.useFree).seqs = s.seqs := by rw [State.useFree_eq]
@[simp] theorem State.useFree_seqTlb : (s.useFree).seqTlb = s.seqTlb := by rw [State.useFree_eq]
@[simp] theorem State.useFree_tin : (s.useFree).tin = s.tin := by rw [State.useFree_eq]
@[simp] theorem State.useFree_tines : (s.useFree).tines = s.tines := by rw [State.useFree_eq]
@[simp] theorem State.useFree_sas : (s.useFree).sas = s.sas := by rw [State.useFree_eq]
@[simp] theorem State.useFree_paths : (s.useFree).paths = s.paths := by rw [State.useFree_eq]
@[simp] theorem State.useFree_inbox : (s.useFree).inbox = s.inbox := by rw [State.useFree_eq]
@[simp] theorem State.useFree_remotes : (s.useFree).remotes = s.remotes := by rw [State.useFree_eq]
@[simp] theorem State.useFree_proxies : (s.useFree).proxies = s.proxies := by rw [State.useFree_eq]
@[simp] theorem State.useFree_linkFences : (s.useFree).linkFences = s.linkFences := by rw [State.useFree_eq]
@[simp] theorem State.useFree_ctxs : (s.useFree).ctxs = s.ctxs := by rw [State.useFree_eq]
@[simp] theorem State.useFree_objs : (s.useFree).objs = s.objs := by rw [State.useFree_eq]
@[simp] theorem State.useFree_fences : (s.useFree).fences = s.fences := by rw [State.useFree_eq]
@[simp] theorem State.useFree_badFences : (s.useFree).badFences = s.badFences := by rw [State.useFree_eq]
@[simp] theorem State.useFree_fpages : (s.useFree).fpages = s.fpages := by rw [State.useFree_eq]
@[simp] theorem State.useFree_ctxWin : (s.useFree).ctxWin = s.ctxWin := by rw [State.useFree_eq]
@[simp] theorem State.useFree_slots : (s.useFree).slots = s.slots := by rw [State.useFree_eq]
@[simp] theorem State.useFree_fills : (s.useFree).fills = s.fills := by rw [State.useFree_eq]
@[simp] theorem State.useFree_vault : (s.useFree).vault = s.vault := by rw [State.useFree_eq]
@[simp] theorem State.useFree_flt : (s.useFree).flt = s.flt := by rw [State.useFree_eq]
@[simp] theorem State.useFree_units : (s.useFree).units = s.units := by rw [State.useFree_eq]
@[simp] theorem State.useFree_fawn : (s.useFree).fawn = s.fawn := by rw [State.useFree_eq]
@[simp] theorem State.useFree_pair : (s.useFree).pair = s.pair := by rw [State.useFree_eq]
@[simp] theorem State.useFree_obs : (s.useFree).obs = s.obs := by rw [State.useFree_eq]
@[simp] theorem State.useFree_sink : (s.useFree).sink = s.sink := by rw [State.useFree_eq]
@[simp] theorem State.useFree_out : (s.useFree).out = s.out := by rw [State.useFree_eq]
@[simp] theorem State.useFree_nextId : (s.useFree).nextId = s.nextId := by rw [State.useFree_eq]
@[simp] theorem State.useFree_mgTag : (s.useFree).mgTag = s.mgTag := by rw [State.useFree_eq]
@[simp] theorem State.useFree_pending : (s.useFree).pending = s.pending := by rw [State.useFree_eq]

/-! ### `State.land` -/

/-- A transfer waits in `obs`. -/
theorem State.land_eq (c : Instr) : s.land c = { s with obs := (s.land c).obs } := rfl

@[simp] theorem State.land_blk (c : Instr) : (s.land c).blk = s.blk := by rw [State.land_eq]
@[simp] theorem State.land_ports (c : Instr) : (s.land c).ports = s.ports := by rw [State.land_eq]
@[simp] theorem State.land_tiles (c : Instr) : (s.land c).tiles = s.tiles := by rw [State.land_eq]
@[simp] theorem State.land_bindings (c : Instr) : (s.land c).bindings = s.bindings := by rw [State.land_eq]
@[simp] theorem State.land_losing (c : Instr) : (s.land c).losing = s.losing := by rw [State.land_eq]
@[simp] theorem State.land_hostTags (c : Instr) : (s.land c).hostTags = s.hostTags := by rw [State.land_eq]
@[simp] theorem State.land_reqs (c : Instr) : (s.land c).reqs = s.reqs := by rw [State.land_eq]
@[simp] theorem State.land_test (c : Instr) : (s.land c).test = s.test := by rw [State.land_eq]
@[simp] theorem State.land_mem (c : Instr) : (s.land c).mem = s.mem := by rw [State.land_eq]
@[simp] theorem State.land_held (c : Instr) : (s.land c).held = s.held := by rw [State.land_eq]
@[simp] theorem State.land_own (c : Instr) : (s.land c).own = s.own := by rw [State.land_eq]
@[simp] theorem State.land_cleaning (c : Instr) : (s.land c).cleaning = s.cleaning := by rw [State.land_eq]
@[simp] theorem State.land_slc (c : Instr) : (s.land c).slc = s.slc := by rw [State.land_eq]
@[simp] theorem State.land_fncs (c : Instr) : (s.land c).fncs = s.fncs := by rw [State.land_eq]
@[simp] theorem State.land_views (c : Instr) : (s.land c).views = s.views := by rw [State.land_eq]
@[simp] theorem State.land_dirty (c : Instr) : (s.land c).dirty = s.dirty := by rw [State.land_eq]
@[simp] theorem State.land_img (c : Instr) : (s.land c).img = s.img := by rw [State.land_eq]
@[simp] theorem State.land_homes (c : Instr) : (s.land c).homes = s.homes := by rw [State.land_eq]
@[simp] theorem State.land_txns (c : Instr) : (s.land c).txns = s.txns := by rw [State.land_eq]
@[simp] theorem State.land_flushes (c : Instr) : (s.land c).flushes = s.flushes := by rw [State.land_eq]
@[simp] theorem State.land_homeTimeout (c : Instr) : (s.land c).homeTimeout = s.homeTimeout := by rw [State.land_eq]
@[simp] theorem State.land_qos (c : Instr) : (s.land c).qos = s.qos := by rw [State.land_eq]
@[simp] theorem State.land_keys (c : Instr) : (s.land c).keys = s.keys := by rw [State.land_eq]
@[simp] theorem State.land_mpt (c : Instr) : (s.land c).mpt = s.mpt := by rw [State.land_eq]
@[simp] theorem State.land_guardOps (c : Instr) : (s.land c).guardOps = s.guardOps := by rw [State.land_eq]
@[simp] theorem State.land_rw (c : Instr) : (s.land c).rw = s.rw := by rw [State.land_eq]
@[simp] theorem State.land_jobs (c : Instr) : (s.land c).jobs = s.jobs := by rw [State.land_eq]
@[simp] theorem State.land_engines (c : Instr) : (s.land c).engines = s.engines := by rw [State.land_eq]
@[simp] theorem State.land_seqs (c : Instr) : (s.land c).seqs = s.seqs := by rw [State.land_eq]
@[simp] theorem State.land_seqTlb (c : Instr) : (s.land c).seqTlb = s.seqTlb := by rw [State.land_eq]
@[simp] theorem State.land_tin (c : Instr) : (s.land c).tin = s.tin := by rw [State.land_eq]
@[simp] theorem State.land_tines (c : Instr) : (s.land c).tines = s.tines := by rw [State.land_eq]
@[simp] theorem State.land_sas (c : Instr) : (s.land c).sas = s.sas := by rw [State.land_eq]
@[simp] theorem State.land_paths (c : Instr) : (s.land c).paths = s.paths := by rw [State.land_eq]
@[simp] theorem State.land_inbox (c : Instr) : (s.land c).inbox = s.inbox := by rw [State.land_eq]
@[simp] theorem State.land_remotes (c : Instr) : (s.land c).remotes = s.remotes := by rw [State.land_eq]
@[simp] theorem State.land_proxies (c : Instr) : (s.land c).proxies = s.proxies := by rw [State.land_eq]
@[simp] theorem State.land_linkFences (c : Instr) : (s.land c).linkFences = s.linkFences := by rw [State.land_eq]
@[simp] theorem State.land_ctxs (c : Instr) : (s.land c).ctxs = s.ctxs := by rw [State.land_eq]
@[simp] theorem State.land_objs (c : Instr) : (s.land c).objs = s.objs := by rw [State.land_eq]
@[simp] theorem State.land_fences (c : Instr) : (s.land c).fences = s.fences := by rw [State.land_eq]
@[simp] theorem State.land_badFences (c : Instr) : (s.land c).badFences = s.badFences := by rw [State.land_eq]
@[simp] theorem State.land_fpages (c : Instr) : (s.land c).fpages = s.fpages := by rw [State.land_eq]
@[simp] theorem State.land_ctxWin (c : Instr) : (s.land c).ctxWin = s.ctxWin := by rw [State.land_eq]
@[simp] theorem State.land_slots (c : Instr) : (s.land c).slots = s.slots := by rw [State.land_eq]
@[simp] theorem State.land_fills (c : Instr) : (s.land c).fills = s.fills := by rw [State.land_eq]
@[simp] theorem State.land_vault (c : Instr) : (s.land c).vault = s.vault := by rw [State.land_eq]
@[simp] theorem State.land_flt (c : Instr) : (s.land c).flt = s.flt := by rw [State.land_eq]
@[simp] theorem State.land_units (c : Instr) : (s.land c).units = s.units := by rw [State.land_eq]
@[simp] theorem State.land_fawn (c : Instr) : (s.land c).fawn = s.fawn := by rw [State.land_eq]
@[simp] theorem State.land_pair (c : Instr) : (s.land c).pair = s.pair := by rw [State.land_eq]
@[simp] theorem State.land_sink (c : Instr) : (s.land c).sink = s.sink := by rw [State.land_eq]
@[simp] theorem State.land_out (c : Instr) : (s.land c).out = s.out := by rw [State.land_eq]
@[simp] theorem State.land_freeCount (c : Instr) : (s.land c).freeCount = s.freeCount := by rw [State.land_eq]
@[simp] theorem State.land_nextId (c : Instr) : (s.land c).nextId = s.nextId := by rw [State.land_eq]
@[simp] theorem State.land_mgTag (c : Instr) : (s.land c).mgTag = s.mgTag := by rw [State.land_eq]
@[simp] theorem State.land_pending (c : Instr) : (s.land c).pending = s.pending := by rw [State.land_eq]

/-! ### `State.setFence` -/

/-- A fence record is written unless the block is block-fatal. -/
theorem State.setFence_eq (i : Nat) (v : FenceRec) : s.setFence i v = { s with fences := (s.setFence i v).fences } := by
  unfold State.setFence
  split <;> rfl

@[simp] theorem State.setFence_blk (i : Nat) (v : FenceRec) : (s.setFence i v).blk = s.blk := by rw [State.setFence_eq]
@[simp] theorem State.setFence_ports (i : Nat) (v : FenceRec) : (s.setFence i v).ports = s.ports := by rw [State.setFence_eq]
@[simp] theorem State.setFence_tiles (i : Nat) (v : FenceRec) : (s.setFence i v).tiles = s.tiles := by rw [State.setFence_eq]
@[simp] theorem State.setFence_bindings (i : Nat) (v : FenceRec) : (s.setFence i v).bindings = s.bindings := by rw [State.setFence_eq]
@[simp] theorem State.setFence_losing (i : Nat) (v : FenceRec) : (s.setFence i v).losing = s.losing := by rw [State.setFence_eq]
@[simp] theorem State.setFence_hostTags (i : Nat) (v : FenceRec) : (s.setFence i v).hostTags = s.hostTags := by rw [State.setFence_eq]
@[simp] theorem State.setFence_reqs (i : Nat) (v : FenceRec) : (s.setFence i v).reqs = s.reqs := by rw [State.setFence_eq]
@[simp] theorem State.setFence_test (i : Nat) (v : FenceRec) : (s.setFence i v).test = s.test := by rw [State.setFence_eq]
@[simp] theorem State.setFence_mem (i : Nat) (v : FenceRec) : (s.setFence i v).mem = s.mem := by rw [State.setFence_eq]
@[simp] theorem State.setFence_held (i : Nat) (v : FenceRec) : (s.setFence i v).held = s.held := by rw [State.setFence_eq]
@[simp] theorem State.setFence_own (i : Nat) (v : FenceRec) : (s.setFence i v).own = s.own := by rw [State.setFence_eq]
@[simp] theorem State.setFence_cleaning (i : Nat) (v : FenceRec) : (s.setFence i v).cleaning = s.cleaning := by rw [State.setFence_eq]
@[simp] theorem State.setFence_slc (i : Nat) (v : FenceRec) : (s.setFence i v).slc = s.slc := by rw [State.setFence_eq]
@[simp] theorem State.setFence_fncs (i : Nat) (v : FenceRec) : (s.setFence i v).fncs = s.fncs := by rw [State.setFence_eq]
@[simp] theorem State.setFence_views (i : Nat) (v : FenceRec) : (s.setFence i v).views = s.views := by rw [State.setFence_eq]
@[simp] theorem State.setFence_dirty (i : Nat) (v : FenceRec) : (s.setFence i v).dirty = s.dirty := by rw [State.setFence_eq]
@[simp] theorem State.setFence_img (i : Nat) (v : FenceRec) : (s.setFence i v).img = s.img := by rw [State.setFence_eq]
@[simp] theorem State.setFence_homes (i : Nat) (v : FenceRec) : (s.setFence i v).homes = s.homes := by rw [State.setFence_eq]
@[simp] theorem State.setFence_txns (i : Nat) (v : FenceRec) : (s.setFence i v).txns = s.txns := by rw [State.setFence_eq]
@[simp] theorem State.setFence_flushes (i : Nat) (v : FenceRec) : (s.setFence i v).flushes = s.flushes := by rw [State.setFence_eq]
@[simp] theorem State.setFence_homeTimeout (i : Nat) (v : FenceRec) : (s.setFence i v).homeTimeout = s.homeTimeout := by rw [State.setFence_eq]
@[simp] theorem State.setFence_qos (i : Nat) (v : FenceRec) : (s.setFence i v).qos = s.qos := by rw [State.setFence_eq]
@[simp] theorem State.setFence_keys (i : Nat) (v : FenceRec) : (s.setFence i v).keys = s.keys := by rw [State.setFence_eq]
@[simp] theorem State.setFence_mpt (i : Nat) (v : FenceRec) : (s.setFence i v).mpt = s.mpt := by rw [State.setFence_eq]
@[simp] theorem State.setFence_guardOps (i : Nat) (v : FenceRec) : (s.setFence i v).guardOps = s.guardOps := by rw [State.setFence_eq]
@[simp] theorem State.setFence_rw (i : Nat) (v : FenceRec) : (s.setFence i v).rw = s.rw := by rw [State.setFence_eq]
@[simp] theorem State.setFence_jobs (i : Nat) (v : FenceRec) : (s.setFence i v).jobs = s.jobs := by rw [State.setFence_eq]
@[simp] theorem State.setFence_engines (i : Nat) (v : FenceRec) : (s.setFence i v).engines = s.engines := by rw [State.setFence_eq]
@[simp] theorem State.setFence_seqs (i : Nat) (v : FenceRec) : (s.setFence i v).seqs = s.seqs := by rw [State.setFence_eq]
@[simp] theorem State.setFence_seqTlb (i : Nat) (v : FenceRec) : (s.setFence i v).seqTlb = s.seqTlb := by rw [State.setFence_eq]
@[simp] theorem State.setFence_tin (i : Nat) (v : FenceRec) : (s.setFence i v).tin = s.tin := by rw [State.setFence_eq]
@[simp] theorem State.setFence_tines (i : Nat) (v : FenceRec) : (s.setFence i v).tines = s.tines := by rw [State.setFence_eq]
@[simp] theorem State.setFence_sas (i : Nat) (v : FenceRec) : (s.setFence i v).sas = s.sas := by rw [State.setFence_eq]
@[simp] theorem State.setFence_paths (i : Nat) (v : FenceRec) : (s.setFence i v).paths = s.paths := by rw [State.setFence_eq]
@[simp] theorem State.setFence_inbox (i : Nat) (v : FenceRec) : (s.setFence i v).inbox = s.inbox := by rw [State.setFence_eq]
@[simp] theorem State.setFence_remotes (i : Nat) (v : FenceRec) : (s.setFence i v).remotes = s.remotes := by rw [State.setFence_eq]
@[simp] theorem State.setFence_proxies (i : Nat) (v : FenceRec) : (s.setFence i v).proxies = s.proxies := by rw [State.setFence_eq]
@[simp] theorem State.setFence_linkFences (i : Nat) (v : FenceRec) : (s.setFence i v).linkFences = s.linkFences := by rw [State.setFence_eq]
@[simp] theorem State.setFence_ctxs (i : Nat) (v : FenceRec) : (s.setFence i v).ctxs = s.ctxs := by rw [State.setFence_eq]
@[simp] theorem State.setFence_objs (i : Nat) (v : FenceRec) : (s.setFence i v).objs = s.objs := by rw [State.setFence_eq]
@[simp] theorem State.setFence_badFences (i : Nat) (v : FenceRec) : (s.setFence i v).badFences = s.badFences := by rw [State.setFence_eq]
@[simp] theorem State.setFence_fpages (i : Nat) (v : FenceRec) : (s.setFence i v).fpages = s.fpages := by rw [State.setFence_eq]
@[simp] theorem State.setFence_ctxWin (i : Nat) (v : FenceRec) : (s.setFence i v).ctxWin = s.ctxWin := by rw [State.setFence_eq]
@[simp] theorem State.setFence_slots (i : Nat) (v : FenceRec) : (s.setFence i v).slots = s.slots := by rw [State.setFence_eq]
@[simp] theorem State.setFence_fills (i : Nat) (v : FenceRec) : (s.setFence i v).fills = s.fills := by rw [State.setFence_eq]
@[simp] theorem State.setFence_vault (i : Nat) (v : FenceRec) : (s.setFence i v).vault = s.vault := by rw [State.setFence_eq]
@[simp] theorem State.setFence_flt (i : Nat) (v : FenceRec) : (s.setFence i v).flt = s.flt := by rw [State.setFence_eq]
@[simp] theorem State.setFence_units (i : Nat) (v : FenceRec) : (s.setFence i v).units = s.units := by rw [State.setFence_eq]
@[simp] theorem State.setFence_fawn (i : Nat) (v : FenceRec) : (s.setFence i v).fawn = s.fawn := by rw [State.setFence_eq]
@[simp] theorem State.setFence_pair (i : Nat) (v : FenceRec) : (s.setFence i v).pair = s.pair := by rw [State.setFence_eq]
@[simp] theorem State.setFence_obs (i : Nat) (v : FenceRec) : (s.setFence i v).obs = s.obs := by rw [State.setFence_eq]
@[simp] theorem State.setFence_sink (i : Nat) (v : FenceRec) : (s.setFence i v).sink = s.sink := by rw [State.setFence_eq]
@[simp] theorem State.setFence_out (i : Nat) (v : FenceRec) : (s.setFence i v).out = s.out := by rw [State.setFence_eq]
@[simp] theorem State.setFence_freeCount (i : Nat) (v : FenceRec) : (s.setFence i v).freeCount = s.freeCount := by rw [State.setFence_eq]
@[simp] theorem State.setFence_nextId (i : Nat) (v : FenceRec) : (s.setFence i v).nextId = s.nextId := by rw [State.setFence_eq]
@[simp] theorem State.setFence_mgTag (i : Nat) (v : FenceRec) : (s.setFence i v).mgTag = s.mgTag := by rw [State.setFence_eq]
@[simp] theorem State.setFence_pending (i : Nat) (v : FenceRec) : (s.setFence i v).pending = s.pending := by rw [State.setFence_eq]

end Sys2Proof.Machine
end

