-- ==== Sys2Proof/Laws/Gates.lean ====
section
/-! SUPPORT. The gates of the ports, said once: what a register command, a host command and a piece of block work come to
where their gate is open. -/

namespace Sys2Proof.Machine

/-- An open management port: the write acts and is answered OK. -/
theorem State.mgWrite_of_open {s : State} {free : Bool} (f : State → State) (h : s.MgOpen free) :
    s.mgWrite free f = (f s).mgRsp .ok 0 := by
  obtain ⟨h1, h2, h3⟩ := h
  have h4 : ¬ s.fawn.phase < 3 := by omega
  simp [State.mgWrite, h1, h3, h4]

/-- An open host port: the request takes its tag, awaits its answer, is counted and acts. -/
theorem State.hostCmd_of_open {s : State} {f tag : Nat} (cmd : Instr) (act : State → State) (h : s.HostOpen f tag) :
    ∃ u : State, s.hostCmd f tag cmd act = act u ∧
      u = { s with hostTags := s.hostTags ++ [(tag, f)], reqs := u.reqs, obs := u.obs } ∧ u.obs.stopState = s.obs.stopState := by
  obtain ⟨h1, h2, h3, h4, h5⟩ := h
  unfold State.hostCmd State.hostArrive
  extract_lets dup sl tc said s' s1 s2
  have hd : dup = false := h2
  have hs : said = { s with hostTags := s.hostTags ++ [(tag, f)], reqs := said.reqs } := by
    unfold said
    rw [hd]
    rfl
  have hs' : s' = said := by
    unfold s'
    rw [hd]
    rfl
  have e2 : s2 = { s with hostTags := s.hostTags ++ [(tag, f)], reqs := s2.reqs, obs := s2.obs } := by
    unfold s2 s1
    rw [hs', hs]
    split <;> rfl
  have u1 : s'.portUp hostPort = true := by rw [hs', hs]; exact h1
  have e3 : s2.obs.stopState = s.obs.stopState := by
    unfold s2 s1
    rw [hs', hs]
    split <;> rfl
  have u2 : s2.fatal = false := by rw [e2]; exact h3
  have u3 : s2.fullHold = false := by
    rw [← h4]
    unfold State.fullHold State.stopped
    rw [e3, e2]
  have u4 : (s2.blk.parked && s2.servedClass (s2.fnc f).slice 1 == 3) = false := by rw [e2]; exact h5
  refine ⟨s2, ?_, e2, e3⟩
  clear_value s2
  simp only [h1, u1, hd, u2, u3, Bool.not_true, Bool.false_eq_true, ↓reduceIte, Bool.or_self, State.hostGate, u4]

theorem State.unlessStopped_of_working {s : State} (f : State → State) (h : s.Working) : s.unlessStopped f = f s := by
  obtain ⟨h1, h2, h3⟩ := h
  simp [State.unlessStopped, h1, h2, h3]

theorem State.orLand_of_not_stopped {s : State} (c : Instr) (f : State → State) (h : s.stopped = false) : s.orLand c f = f s := by
  simp [State.orLand, h]

end Sys2Proof.Machine
end

