-- ==== Sys2Proof/Laws/Shared.lean ====
section
/-! SUPPORT. What the shared operations of links, Fawn and faults may touch, each said once. -/

namespace Sys2Proof.Machine

/-- Driving lp_rx_xoff touches the tine and the transfers. -/
theorem State.xoffDrive_eq (s : State) (t : Nat) :
    s.xoffDrive t = { s with tines := (s.xoffDrive t).tines, out := (s.xoffDrive t).out } := by
  unfold State.xoffDrive
  dsimp only
  split <;> rfl

/-- Driving every lp_rx_xoff touches tines and transfers. -/
theorem State.xoffAll_eq (s : State) : s.xoffAll = { s with tines := s.xoffAll.tines, out := s.xoffAll.out } := by
  have h : ∀ (l : List Nat) (u : State), l.foldl (fun (s : State) t => s.xoffDrive t) u =
      { u with tines := (l.foldl (fun (s : State) t => s.xoffDrive t) u).tines,
               out := (l.foldl (fun (s : State) t => s.xoffDrive t) u).out } := by
    intro l
    induction l with
    | nil => intro u; rfl
    | cons a l ih =>
      intro u
      rw [List.foldl_cons]
      have e := ih (u.xoffDrive a)
      rw [State.xoffDrive_eq u a] at e
      rw [State.xoffDrive_eq u a]
      exact e
  exact h _ s

/-- A transfer made before stays made while lp_rx_xoff is driven. -/
theorem State.mem_xoffAll_out (s : State) {o : Output} (h : o ∈ s.out) : o ∈ s.xoffAll.out := by
  have h1 : ∀ (u : State) (t : Nat), o ∈ u.out → o ∈ (u.xoffDrive t).out := by
    intro u t hu
    unfold State.xoffDrive
    dsimp only
    split
    · exact hu
    · exact List.mem_append_left _ hu
  have h2 : ∀ (l : List Nat) (u : State), o ∈ u.out → o ∈ (l.foldl (fun (s : State) t => s.xoffDrive t) u).out := by
    intro l
    induction l with
    | nil => exact fun u hu => hu
    | cons a l ih => exact fun u hu => ih _ (h1 u a hu)
  exact h2 _ s h

/-- A PLDM event touches Fawn's queue and the transfers. -/
theorem State.event_eq (s : State) (a b : Nat) :
    s.event a b = { s with fawn := { s.fawn with events := (s.event a b).fawn.events, eventsLost := (s.event a b).fawn.eventsLost },
                           out := (s.event a b).out } := by
  unfold State.event
  dsimp only
  split <;> rfl

/-- Noticing a change touches Fawn's queue of events and the transfers. -/
theorem State.notice_eq (s : State) :
    s.notice = { s with fawn := { s.fawn with seen := s.notice.fawn.seen, events := s.notice.fawn.events,
                                              eventsLost := s.notice.fawn.eventsLost },
                        out := s.notice.out } := by
  unfold State.notice
  extract_lets now was f s1 s2 s3
  have h1 : ∀ (c : Prop) [Decidable c] (u : State) (a b : Nat),
      (if c then u.event a b else u) = { u with fawn := { u.fawn with events := (if c then u.event a b else u).fawn.events, eventsLost := (if c then u.event a b else u).fawn.eventsLost }, out := (if c then u.event a b else u).out } := by
    intro c _ u a b
    split
    · exact State.event_eq u a b
    · rfl
  rw [h1 _ s3, show s3 = _ from h1 _ s2 _ _, show s2 = _ from h1 _ s1 _ _]

/-- Entering a phase touches Fawn, the rings and the transfers. -/
theorem State.setPhase_eq (s : State) (p : Nat) :
    s.setPhase p = { s with fawn := { s.fawn with phase := p, seen := (s.setPhase p).fawn.seen, events := (s.setPhase p).fawn.events,
                                                  eventsLost := (s.setPhase p).fawn.eventsLost },
                            obs := (s.setPhase p).obs, out := (s.setPhase p).out } := by
  unfold State.setPhase
  rw [State.notice_eq, State.ring_eq]

/-- In the block-fatal state after it is entered. -/
theorem State.fatalEnter_fatal (s : State) (k : Nat) : (s.fatalEnter k).fatal = true := by
  unfold State.fatalEnter
  split
  · assumption
  · unfold State.fatal
    have h : ∀ (c : Prop) [Decidable c] (u : State) (a b : Nat), (if c then u.power a b else u).flt = u.flt := by
      intro c _ u a b
      unfold State.power
      repeat' split
      all_goals rfl
    rw [State.mgIrq_flt, h]
    rfl

end Sys2Proof.Machine
end

