-- ==== Sys2Proof/Tests/Slice0.lean ====
section
/-! SUPPORT. The tests: for each statement with hypotheses a state and operands that meet them, clause by clause; the well-formedness
check; the spec's worked examples; a few single steps. -/

open Sys2Proof Sys2Proof.Machine

namespace Sys2Proof.Tests

set_option Elab.async false

/-- A port that is up. -/
def up : PortSt := { state := 1 }

/-- A working block: in SERVICE at fclk point 0, tick 100; slice 2, its function 1 ENABLED, context 3 resident in slot 0 bound to
tile ports 4 to 7, granule 0 assigned to it under key 5, home names 0 and 1 its home set. -/
def w0 : State :=
  { blk := { fclkPoint := 0, timebaseOk := true, tick := 100, tickRunning := true },
    fawn := { phase := 7, fabricGood := true, fclkStable := true },
    ports := [(4, up), (5, up), (6, up), (256, up), (336, up), (337, up), (338, up), (340, up)],
    bindings := [(0, { first := 4, count := 4 })],
    slots := [(0, { ctx := some 3 })],
    ctxs := [(3, { state := 2, slot := 0, fn := 1, slice := 2, key := 5 })],
    fncs := [(1, { slice := 2, state := 2 })],
    own := [(0, { slice := 2, fn := 1, key := 5, gstate := 1, rd := true, wr := true, amo := true, host := true })],
    keys := [(5, { state := 1, slice := 2, fn := 1 })],
    mem := [(0, { trained := true, healthy := true })],
    homes := [(0, { ownLines := [0] }), (1, { ownLines := [0] })],
    img := { active := { stackTab := [(0, { use := 0, populated := 16 })], jobs := [(3, { use := 0 })], slices := [(2, { jobTotal := 4 })], homes := [(0, { ways := [⟨2, 0xFFFF, true⟩] }), (1, { ways := [⟨2, 0xFFFF, true⟩] })] } },
    qos := { classes := [(8, { bw := 100 }), (9, { bw := 100 }), (10, { bw := 100 }), (11, { bw := 100 })] } }

/-- A line of the test: element 0 is 7. -/
def line7 : Line := 7

/-- The working block with line 4 in the LLC of home 0. -/
def wl (d : Bool) : State :=
  w0.setHome 0 { ownLines := [0], lines := [(16 * 4, { line := 4, slice := 2, key := 5, data := line7, dirty := d })] }

/-- A tile request with good parity. -/
def treq (op : Nat) (r : TpReq) : TpReq :=
  let r := { r with dpar := BitVec.ofNat 8 ((List.range 8).foldl (fun a k =>
    a + (if xorBits ((r.wdata.toNat >>> (64 * k)) % 2 ^ 64) 64 then 0 else 1 <<< k)) 0) }
  if tpCparOk op r then r else { r with cpar := true }

/-- An empty queue. -/
theorem wit_StepTakesTheQueue :
    State.reset.pending = [] := by
  decide +kernel

/-- The clocks run, in the Active state. -/
theorem wit_TickBoundary :
    w0.ticks = true ∧ w0.blk.power = 2 := by
  decide +kernel

/-- A command of the frames that has a next state. -/
theorem wit_FrameOfStructure :
    MovesTick .getTid = false ∧ ChangesStructure .getTid = false ∧ ∃ t, exec .getTid w0 = .next t := by
  exact ⟨rfl, rfl, _, rfl⟩

/-- States that keep the two invariants and take a step. -/
theorem wit_StepKeepsInvariants :
    (State.reset.RegsLegal ∧ mapSorted State.reset.own = true ∧ mapSorted State.reset.fncs = true) ∧
    (w0.RegsLegal ∧ mapSorted w0.own = true ∧ mapSorted w0.fncs = true) := by
  refine ⟨?_, ?_⟩ <;> (unfold State.RegsLegal; decide +kernel)

/-- The working block with an ownership command pending: granule 1, which nobody owns, to function 1. -/
def wOwn (first : Nat) : State :=
  { w0 with slc := { pending := some { op := 3, first := first, count := 1, fn := 1, arg := 0 }, busy := true } }

/-- The command register is free, and it is not. -/
theorem wit_OwnershipCommandsPend :
    (w0.MgOpen false ∧ w0.slc.busy = false) ∧
    ((wOwn 0).MgOpen false ∧ (wOwn 0).slc.busy = true) := by
  refine ⟨?_, ?_⟩ <;> (unfold State.MgOpen; decide +kernel)

/-- A pending command that passes its checks, and one that fails one: its range ends at the table's last granule and past it. -/
theorem wit_OwnershipCommandsApplied :
    ((wOwn 0).slc.pending.isSome = true ∧ (wOwn 0).slc.pending.map (wOwn 0).ownResult = some 0) ∧
    ((wOwn (2 ^ 20)).slc.pending.map (wOwn (2 ^ 20)).ownResult ≠ some 0) := by
  refine ⟨?_, ?_⟩ <;> decide +kernel

/-- The working block cleaning granule 0, with `n` lines written. -/
def wClean (n : Nat) : State := { w0 with cleaning := [{ granule := 0, kind := .zeroing, lines := n }] }

/-- An engine that has not cleaned in this tick and a granule to clean, and a granule whose zeros have all landed. -/
theorem wit_GranulesAreCleaned :
    ((wClean 0).cleanNext 3 = some { granule := 0, kind := .zeroing, lines := 0 } ∧ (wClean 0).stopped = false ∧
    ((wClean 0).engine 3).cleanedTick ≠ some (wClean 0).blk.tick) ∧
    (∀ l ∈ (List.range 448).map (· + granLine 0 + 0 + w0.chip * 2 ^ 34), ((w0.homeName l).bind w0.physOf).isSome = true) ∧
    ((wClean 16384).Working ∧ (wClean 16384).zerosLanded 0 = true ∧
    (wClean 16384).cleaning.find? (fun c => c.granule == 0) = some { granule := 0, kind := .zeroing, lines := 16384 }) := by
  refine ⟨?_, ?_, ?_⟩
  · decide +kernel
  · decide +kernel
  · unfold State.Working; decide +kernel

/-- The working block with function 1 (slice 2) as `r`. -/
def wFn (r : FncRec) : State := { w0 with fncs := [(1, r)], ctxs := [], slots := [], bindings := [], keys := [], own := [] }

/-- The management port is open and no command of function 1 is pending. -/
theorem wit_FunctionCommandPends :
    w0.MgOpen false ∧ (w0.fnc 1).busy = false := by
  unfold State.MgOpen; decide +kernel

/-- A pending command of each operation that passes its checks. -/
theorem wit_FunctionCommandsApplied :
    ((wFn { slice := 2, pending := some (1, false), busy := true }).fncResult 1 1 = 0) ∧
    ((wFn { slice := 2, state := 1 }).fncResult 1 2 = 0) ∧
    ((wFn { slice := 2, state := 2 }).fncResult 1 3 = 0) ∧
    ((wFn { slice := 2, state := 4 }).fncResult 1 4 = 0) ∧
    ((wFn { slice := 2, state := 4 }).fncResult 1 5 = 0) ∧
    ((wFn { slice := 2, state := 1 }).fncResult 1 6 = 0) := by
  refine ⟨?_, ?_, ?_, ?_, ?_, ?_⟩ <;> decide +kernel

/-- A function in each of the states a quiesce and a teardown end in. -/
theorem wit_FunctionEventsComplete :
    ((wFn { state := 3 }).fncQuiet 1 = true ∧ ((wFn { state := 3 }).fnc 1).forced = false) ∧
    (({ w0 with fncs := [(1, { state := 3, quiesceTick := 36, deadline := 0 })] } : State).fncQuiet 1 = false ∧ 36 + 64 ≤ w0.blk.tick) ∧
    ((wFn { state := 3, forced := true }).fncQuiet 1 = true) ∧
    ((wFn { state := 5 }).fncQuiet 1 = true ∧ ((wFn { state := 5 }).fnc 1).erase = false) ∧
    ((wFn { state := 6, tear := .retiring }).fncQuiet 1 = true ∧ ∀ k ∈ (wFn {}).keys, k.2.fn ≠ 1) := by
  refine ⟨?_, ?_, ?_, ?_, ?_⟩ <;> decide +kernel

/-- The working block with a report of function 1 at `v`, the vault ready to sign. -/
def wRep (v : View) : State := { w0 with views := [(1, v)], vault := { state := 2 } }

/-- A report can be requested; it is captured; it is delivered. -/
theorem wit_ReportCommands :
    (w0.HostOpen 1 9 ∧ (w0.fnc 1).state ≠ 0 ∧ (w0.view 1).reportPending = false) ∧
    ((wRep { reportPending := true }).vaultSigns = true ∧ ((wRep { reportPending := true }).view 1).captured = none ∧
    ((wRep { reportPending := true }).fnc 1).state ∈ [2, 3, 4]) ∧
    (((wRep { captured := some ([1], 99) }).view 1).captured = some ([1], 99) ∧ (wRep { captured := some ([1], 99) }).vaultSigns = true) := by
  refine ⟨?_, ?_, ?_⟩
  · unfold State.HostOpen; decide +kernel
  · decide +kernel
  · decide +kernel

/-- The working block with a valid temperature of `f` sixteenths of a degree, as `b` has its clock. -/
def wTemp (f : Int) (b : Blk) : State :=
  { w0 with blk := { b with timebaseOk := true, tickRunning := true, tick := 100 },
            fawn := { w0.fawn with sensors := [(0, { filtered := f, raw := f, valid := true, updateTick := 100, started := true })] } }

/-- A change may start; one is on its way; it has taken 2 ticks. -/
theorem wit_FclkCommands :
    (w0.blk.fclkLimit ≤ 8 ∧ w0.blk.power = 2 ∧ 8 ≠ w0.blk.fclkPoint ∧ w0.mayChange = true) ∧
    ((wTemp 0 { fclkChange := some 3 }).blk.fclkChange = some 3 ∧ (wTemp 0 { fclkChange := some 3 }).fawn.waking = none) ∧
    ((wTemp 0 { fclkChange := some 3, fclkSince := 98 }).fawn.phase ≠ 2 ∧ (wTemp 0 {}).fatal = false ∧ 98 + 2 ≤ (wTemp 0 {}).blk.tick) := by
  refine ⟨?_, ?_, ?_⟩ <;> decide +kernel

/-- Cool for 256 ticks at point 3, hot for 16 at point 7, at the edge of parking, at the edge of the trip. -/
theorem wit_ThermalCommands :
    ((wTemp 1439 { fclkPoint := 3, coolTicks := 256 }).thermalCode = 0 ∧ (wTemp 1439 { fclkPoint := 3 }).pointMoves = false ∧
    (wTemp 1439 { fclkPoint := 3 }).mayChange = true ∧ 0 < 3 ∧ (wTemp 1439 { fclkPoint := 3 }).pointOk (3 - 1) = true) ∧
    ((wTemp 1520 { fclkPoint := 7, hotTicks := 16 }).thermalCode = 2 ∧ (wTemp 1520 { fclkPoint := 7 }).pointMoves = false ∧
    (wTemp 1520 { fclkPoint := 7 }).mayChange = true ∧ (wTemp 1520 { fclkPoint := 7 }).pointOk (7 + 1) = true) ∧
    ((wTemp 1680 {}).thermalCode = 3 ∧ (wTemp 1680 {}).blk.parked = false) ∧
    ((wTemp 1760 {}).thermalCode = 4 ∧ (wTemp 1760 {}).blk.tripped = false) := by
  refine ⟨?_, ?_, ?_, ?_⟩ <;> decide +kernel

/-- Values at the ends of the range of a thermal sample and past them, an input silent for 64 ticks, a lost timebase, a high offset. -/
theorem wit_SensorAndTimebaseCommands :
    (w0.blk.power ≠ 3 ∧ -640 ≤ (0xD80 : BitVec 12).toInt ∧ (0x7D0 : BitVec 12).toInt ≤ 2000) ∧
    ((0xD7F : BitVec 12).toInt < -640 ∧ 2000 < (0x7D1 : BitVec 12).toInt) ∧
    ((w0.sensor 0).updateTick + 64 ≤ w0.blk.tick) ∧
    (w0.blk.timebaseOk = true ∧ 4 ≤ w0.fawn.phase ∧ State.reset.fawn.phase < 4) ∧
    ((wTemp 0 { offsetHighTicks := 16 }).blk.offsetRaised = false ∧ 16 ≤ (wTemp 0 { offsetHighTicks := 16 }).blk.offsetHighTicks) := by
  refine ⟨?_, ?_, ?_, ?_, ?_⟩ <;> decide +kernel

/-- A request of line 4 with good parity. -/
def rq (op : Nat) : TpReq := treq op { tag := 9, addr := 4 * 128, tc := 1 }

/-- The binding of tile port 5. -/
def bnd : Bound := ⟨0, 3, 1, 2, false⟩

/-- The reads of a line that the home has and no tile holds. -/
theorem wit_TileReads :
    (TileTakes (wl false) 5 0x00 (rq 0) bnd ∧ TileTakes (wl false) 5 0x01 (rq 1) bnd ∧ TileTakes (wl false) 5 0x02 (rq 2) bnd) ∧
    (GateOpen (wl false) 4 (rq 0) bnd ∧ HomeTakes (wl false) 4 2 1 .rd false 0 0) ∧
    ((wl false).filt 0 4 = {} ∧ (wl false).homeData 0 4 = some (line7, 0, 3) ∧ ((wl false).ownAt (lineGran 4)).fmt = 0) := by
  refine ⟨?_, ?_, ?_⟩
  · unfold TileTakes; decide +kernel
  · unfold GateOpen HomeTakes; decide +kernel
  · decide +kernel

/-- The working block with the sequence window of slice 2 open: sequence 0 has 300 tokens on two pages, the first of them page 0. -/
def wSeq : State :=
  { wl true with
               seqs := [(2, { first := 0, granules := 1, seqFirst := 0, seqCount := 4, state := 2,
                                entries := [(0, { valid := true, length := 300, dir := 0 })],
                                pages := [(0, { page := 0, fmt := 0, valid := true }), (1, { page := 1, fmt := 0, valid := true })],
                                counts := [(0, 1), (1, 1)], free := [(2, 0), (3, 0)] })],
               seqTlb := [(0, [tlbKey 2 0 0])] }

/-- RD_SEQ of token 4 of sequence 0. -/
def rqSeq : TpReq := treq 3 { tag := 9, addr := 4 * 128, tc := 1 }

/-- RD_SEQ of a line of a sequence. -/
theorem wit_TileReadSeq :
    (wSeq.seqLine 2 rqSeq.addr.toNat = .ok (4, 0) ∧ TileTakes wSeq 5 0x03 rqSeq bnd ∧ HomeTakes wSeq 4 2 1 .rd false 0 0) ∧
    (wSeq.filt 0 4 = {} ∧ wSeq.homeData 0 4 = some (line7, 0, 3) ∧ (wSeq.ownAt (lineGran 4)).fmt = 0 ∧ GateOpen wSeq 4 rqSeq bnd ∧
    (tget [] wSeq.seqTlb (5 / 32)).contains (tlbKey 2 (rqSeq.addr.toNat / 2 ^ 26 % 2 ^ 18) (rqSeq.addr.toNat % 2 ^ 26 / 32768)) = true) := by
  refine ⟨?_, ?_⟩
  · unfold TileTakes HomeTakes; decide +kernel
  · unfold GateOpen; decide +kernel

/-- WR_SECTOR of 2 bytes of line 4, an atomic that adds 5 to its first word. -/
def rqWr : TpReq := treq 0xA { tag := 9, addr := 4 * 128, tc := 1, sector := true, wdata := 0x1234, be := 3 }
def rqAtom (op : Nat) : TpReq := treq op { tag := 9, addr := 4 * 128, tc := 1, wdata := 5 }

/-- The changes of a dirty line of a mirrored home, and ATOMIC_MEM of a line the home does not have. -/
theorem wit_TileChanges :
    (GateOpen (wl true) 4 rqWr bnd ∧ HomeTakes (wl true) 4 2 1 .wr false 0 0 ∧ TileTakes (wl true) 5 0x0A rqWr bnd ∧
    (wl true).mirrored 0 = true ∧ (wl true).keyLive 5 = true ∧ ((wl true).home 0).way? 4 = some (64, { line := 4, slice := 2, key := 5, data := line7, dirty := true })) ∧
    (HomeTakes (wl true) 4 2 1 .amo false 0 0 ∧ TileTakes (wl true) 5 0x10 (rqAtom 0x10) bnd ∧ GateOpen (wl true) 4 (rqAtom 0x10) bnd ∧
    atomOperands (rqAtom 0x10).wdata = some (5, 0, 0, false) ∧ (atomicLine line7 0 0 false 5 0).isSome = true) ∧
    (HomeTakes w0 4 2 1 .amo false 0 0 ∧ TileTakes w0 5 0x11 (rqAtom 0x11) bnd ∧ GateOpen w0 4 (rqAtom 0x11) bnd ∧ (w0.home 0).way? 4 = none ∧ (w0.home 0).wbuf = [] ∧
    w0.keyPasses 5 4 = true ∧ (w0.port (mpPort (granPort (lineGran 4)))).state < 2) := by
  refine ⟨?_, ?_, ?_⟩ <;> (unfold TileTakes GateOpen HomeTakes; decide +kernel)

/-- The working block with line 4 in the LLC of home 0 and tile port 5 its owner. -/
def wOwner : State :=
  w0.setHome 0 { ownLines := [0], lines := [(16 * 4, { line := 4, slice := 2, key := 5, data := line7, dirty := true })],
                 filter := [(4, { st := 3, owner := 5, slice := 2 })] }
def rqEv (k : Bool) : TpReq := treq 8 { tag := 9, addr := 4 * 128, tc := 1, sector := k, wdata := 77 }
def wBeat : State := wOwner.setTile 5 { tags := [9], beat := some ⟨9, 4 * 128, 1, 66, false⟩ }

/-- The two beats of EVICT_DIRTY and an EVICT_CLEAN of the owner. -/
theorem wit_Evictions :
    (wOwner.stopped = false ∧ wOwner.portUp 5 = true ∧ wOwner.fatal = false ∧ tpCparOk 0x08 (rqEv false) = true ∧
    tpDparOk (rqEv false) = true ∧ (wOwner.tile 5).beat = none ∧ tpRsvd (rqEv false) = none ∧ (wOwner.tile 5).tags.contains 9 = false) ∧
    (tpCparOk 0x08 (rqEv true) = true ∧ (wBeat.tile 5).beat = some ⟨9, 4 * 128, 1, 66, false⟩ ∧ wBeat.mirrored 0 = true ∧
    tpDparOk (rqEv true) = true ∧ tpRsvd (rqEv true) = none ∧ (wBeat.tile 5).tags.contains 9 = true ∧ wBeat.keyLive (wBeat.ownAt (lineGran 4)).key = true) ∧
    (HomeTakes wBeat 4 (wBeat.evictAs 5 4).1 (wBeat.evictAs 5 4).2 .none false 0 0) ∧
    ((wBeat.home 0).filter = [(4, { st := 3, owner := 5, slice := 2 })] ∧
    ({ st := 3, owner := 5, slice := 2 } : FiltEntry).ownerAgent = some (false, 5) ∧ ((wBeat.home 0).way? 4).isSome = true) ∧
    (tpCparOk 0x09 (treq 9 { tag := 9, addr := 4 * 128, tc := 1 }) = true ∧
    HomeTakes wOwner 4 (wOwner.evictAs 5 4).1 (wOwner.evictAs 5 4).2 .none false 0 0) := by
  refine ⟨?_, ?_, ?_, ?_, ?_⟩
  · decide +kernel
  · decide +kernel
  · unfold HomeTakes; decide +kernel
  · decide +kernel
  · unfold HomeTakes; decide +kernel

/-- The working block with a LINK_FENCE of tile port 5 that covers a posted message which has been performed. -/
def wFence : State :=
  { (w0.setTile 5 { tags := [8] }) with
            remotes := [{ sa := 4, xid := 9, kind := 1, origin := .tile 5 8, line := 4, port := some 5, done := some .ok }],
            linkFences := [⟨5, 8, [(4, 9)], .ok⟩], flushes := [{ name := 0, home := 0, start := 99, ports := [5] }] }

/-- MARKER, LINK_FENCE, its completion and FLUSH_DONE. -/
theorem wit_TileMarkersFencesAndFlushes :
    (TileTakes w0 5 0x20 (treq 0x20 { tag := 9, wdata := 3 }) bnd) ∧
    (TileTakes wFence 5 0x22 (treq 0x22 { tag := 9 }) bnd) ∧
    (wFence.Working ∧ wFence.portUp 5 = true ∧ wFence.linkFences.find? (·.port == 5) = some ⟨5, 8, [(4, 9)], .ok⟩ ∧ (wFence.tile 5).tags.contains 8 = true ∧
    ∀ x ∈ wFence.remotes, [(4, 9)].contains (x.sa, x.xid) = true → x.done = some .ok) ∧
    (wFence.stopped = false ∧ tpCparOk 0x23 (treq 0x23 { tag := 9 }) = true ∧ (wFence.tile 5).beat = none ∧
    (wFence.tile 5).tags.contains 9 = false ∧ tpRsvd (treq 0x23 { tag := 9 }) = none ∧ wFence.fatal = false ∧ wFence.txns = []) := by
  refine ⟨?_, ?_, ?_, ?_⟩
  · unfold TileTakes; decide +kernel
  · unfold TileTakes; decide +kernel
  · unfold State.Working; decide +kernel
  · decide +kernel

/-- A RD_ONCE of tile port 4 that waits at home 0 for a snoop of tile port 5, which owns line 4; the snoop is 10 ticks old. -/
def snooped : Txn := { id := 0, home := 0, line := 4, op := .rdOnce, origin := .tile 4 9, slice := 2, fn := 1, key := 5, phase := .snooping, snoops := [{ port := 5, id := 3, ty := 2, since := 90 }] }
def wSnoop : State :=
  { (wOwner.setTile 4 { tags := [9] }) with txns := [snooped], flushes := [{ name := 0, home := 0, start := 96, ports := [5] }] }
/-- The answer FWD_ONCE with data 0. -/
def fwdOnce : SnpResp := { id := 3, resp := 8, data := 0, dpar := 0xFFFF, cpar := 0 }
def fwd : SnpResp := { fwdOnce with cpar := if srspCparOk { fwdOnce with cpar := 0 } false then (if srspCparOk { fwdOnce with cpar := 0 } true then 0 else 2) else (if srspCparOk { fwdOnce with cpar := 0 } true then 1 else 3) }

/-- An owner's answer, a snoop past local_ticks, and a flush of another block past its 4 ticks. -/
theorem wit_SnoopsOfAHome :
    (srspCparOk fwd false = true ∧ srspCparOk fwd true = true ∧ srspDparOk fwd = true ∧ wSnoop.portUp 5 = true ∧ wSnoop.portUp 4 = true) ∧
    (wSnoop.stopped = false ∧ wSnoop.txns = [snooped] ∧ (wSnoop.filt 0 4).ownerAgent = some (false, 5) ∧ 2 ≤ (wSnoop.filt 0 4).st ∧
    (wSnoop.tile 4).tags.contains 9 = true ∧ snooped.snoops = [{ port := 5, id := 3, ty := 2, since := 90 }]) ∧
    (90 + wSnoop.homeTimeout.localTicks ≤ wSnoop.blk.tick ∧ snooped.waitLine = none) ∧
    (wFence.txns = [] ∧ ({ wFence with flushes := [{ name := 0, home := 0, start := 96, ports := [5] }] } : State).flushes.find?
    (fun f => f.name == 0 && f.ports.contains 5 && decide (f.start + 4 ≤ 100)) = some { name := 0, home := 0, start := 96, ports := [5] }) := by
  refine ⟨?_, ?_, ?_, ?_⟩ <;> decide +kernel

/-- The working block with home 0's line 4 mirrored at home 1, and two requests in home 0's retry queue. -/
def wMir : State :=
  { w0 with homes := [(0, { ownLines := [0], lines := [(16 * 4, { line := 4, slice := 2, key := 5, data := line7, dirty := true })],
                            retryQ := [⟨4, 9, some 99⟩, ⟨5, 9, none⟩] }),
                      (1, { mirror := [(4, { slice := 2, key := 5, data := line7 })] })] }

/-- A set of the filter that is not held, a dirty line with its mirror entry, a reservation of 1 tick. -/
theorem wit_ErrorsOfAHome :
    ((wMir.home 0).heldSets.contains 8191 = false ∧ (wMir.home 0).role = 0) ∧
    (mget? (wMir.home 0).lines (4 * 16 + 0) = some { line := 4, slice := 2, key := 5, data := line7, dirty := true } ∧ wMir.buddy 0 = some 1 ∧
    mget? (wMir.home 1).mirror 4 = some { slice := 2, key := 5, data := line7 } ∧ (wMir.home 0).tagErrs = []) ∧
    ((wMir.home 0).retryQ = [⟨4, 9, some 99⟩, ⟨5, 9, none⟩] ∧ 99 + 1 ≤ wMir.blk.tick) := by
  refine ⟨?_, ?_, ?_⟩ <;> decide +kernel

/-- The working block with port 0 of memory as `m`. -/
def wMem (m : MemPort) : State := { w0 with mem := [(0, { m with trained := true, healthy := true })] }
def memWrite : MemReq := { tag := 7, write := true, line := 4, key := 5, slice := 2, purpose := .flushed 0 4 }
def wAck : State :=
  (wMem { tags := [memWrite] }).setHome 0 { ownLines := [0], lines := [(64, { line := 4, slice := 2, key := 5, data := line7 })],
                                            wbuf := [{ line := 4, slice := 2, key := 5, data := line7, issued := true }] }
def guardA : GuardOp := { id := 3, kind := .delta, port := 0, stripe := 70, key := 5, slice := 2 }
def wLock : State := { wMem { lockWaiters := [3], locks := [(71, 2)] } with guardOps := [guardA] }

/-- A request that a port may issue, an acknowledged write, a waiter of a stripe lock, a suspect stripe. -/
theorem wit_MemoryPortTransfers :
    ((wMem { waiting := [{ line := 4, key := 5, slice := 2 }] }).mpReady 0 = true ∧
    (wMem { waiting := [{ line := 4, key := 5, slice := 2 }] }).slotFree 0 { line := 4, key := 5, slice := 2 } = true ∧
    (wMem { waiting := [{ line := 4, key := 5, slice := 2 }] }).freeTag 0 = some 0 ∧
    (wMem {}).reqPasses { line := 4, key := 5, slice := 2 } = true ∧ ((wMem {}).mp 0).grantBad = false) ∧
    (wAck.stopped = false ∧ wAck.portUp (mpPort 0) = true ∧ (wAck.mp 0).tags.find? (fun x => x.tag == 7 && x.write == true) = some memWrite ∧
    (wAck.home 0).wbuf = [{ line := 4, slice := 2, key := 5, data := line7, issued := true }] ∧
    (wAck.home 0).way? 4 = some (64, { line := 4, slice := 2, key := 5, data := line7 }) ∧ wAck.txns = []) ∧
    (wLock.Working ∧ (wLock.mp 0).lockWaiters = [3] ∧ (wLock.mp 0).locks.length < 256 ∧ wLock.guardOps.find? (·.id == 3) = some guardA ∧
    (wLock.mp 0).locks.any (·.1 == 70) = false ∧ wLock.mpt.lostMask = 0) ∧
    (({ w0 with mpt := { suspects := [3 * 32768 + 32767] } } : State).mpt.suspects = [(3 : BitVec 16).toNat * 32768 + (32767 : BitVec 15).toNat] ∧
    w0.stopped = false ∧ w0.mpt.lostMask = 0 ∧ w0.guardOps = []) := by
  refine ⟨?_, ?_, ?_, ?_⟩
  · decide +kernel
  · decide +kernel
  · unfold State.Working; decide +kernel
  · decide +kernel

/-- The working block with port index `i` as `p`. -/
def wPort (i : Nat) (p : PortSt) : State := { w0 with ports := [(i, p)] }

/-- A memory port that is up: its training falls, is lost, its health is lost, a grant of 9; an overdue answer; the watches of a port
that is up; a port in reset; a reenable that may be granted and one that may not; tags held back. -/
theorem wit_PortWatch :
    ((w0.mp 0).trained = true ∧ (w0.port (mpPort 0)).state = 1 ∧ w0.portUp (mpPort 0) = true ∧ 8 < (9 : BitVec 4).toNat ∧ (w0.port (mpPort 0)).errs < 3) ∧
    (({ w0 with mem := [(0, { healthy := true, trainedFell := some 95 })] } : State).mp 0 = { healthy := true, trainedFell := some 95 } ∧
    95 + 4 < w0.blk.tick) ∧
    ((wMem { tags := [{ since := 96 }] }).respOverdue 256 = true ∧ ((wMem {}).port 256).state = 1 ∧ ((wMem {}).port 256).errs < 3) ∧
    ((w0.port 336).state = 1 ∧ (w0.tine 0).paused = 0 ∧ ({ w0 with tines := [(0, { paused := 1 })] } : State).tine 0 = { paused := 1 }) ∧
    ((w0.port 7).state = 0 ∧ w0.fawn.fabricGood = true) ∧
    (((wPort 256 { state := 2, reenable := true }).port 256).gap = false ∧ ((wPort 256 {}).mp 0).trained = true ∧
    ((wPort 256 {}).mp 0).healthy = true ∧ ((wPort 256 {}).mp 0).trainedFell = none) ∧
    (((wPort 5 { state := 2, reenable := true, gap := true }).port 5).gap = true) ∧
    (((wPort 5 { state := 1, heldTags := [3], holdEnd := 100 }).port 5).heldTags ≠ [] ∧ 100 ≤ w0.blk.tick) := by
  refine ⟨?_, ?_, ?_, ?_, ?_, ?_, ?_, ?_⟩ <;> decide +kernel

/-- A host request of function 1 with good parity. -/
def hreq (op : Nat) (r : HostReq) : HostReq :=
  let r := { r with fn := 1, tag := 9, dpar := BitVec.ofNat 16 ((List.range 16).foldl (fun a k =>
    a + (if xorBits ((r.wdata.toNat >>> (64 * k)) % 2 ^ 64) 64 then 0 else 1 <<< k)) 0) }
  if hostCparOk op r then r else { r with cpar := true }
/-- Function 1 owns fence page 0. -/
def wHost : State := { w0 with fpages := [(0, { owner := 1 })] }
def hf (op : Nat) : HostReq := hreq op { space := 2, addr := 4080, len := 8, wdata := 3, be := 255 }

/-- The four accesses of the last record of a page that function 1 owns. -/
theorem wit_HostFenceAccesses :
    ((hf 0).space = 2 ∧ inLine (hf 0).addr.toNat (hostLen (hf 0)) = true ∧ hostLen (hf 2) = 8 ∧ (hf 2).addr.toNat % 16 = 0) ∧
    (HostTakes wHost 0 (hf 0) ∧ wHost.fenceStatus 0 (hf 0) = .ok) ∧
    (HostTakes wHost 1 (hf 1) ∧ wHost.fenceStatus 1 (hf 1) = .ok) ∧
    (HostTakes wHost 2 (hf 2) ∧ wHost.fenceStatus 2 (hf 2) = .ok) ∧
    (HostTakes wHost 3 (hf 3) ∧ wHost.fenceStatus 3 (hf 3) = .ok) := by
  refine ⟨?_, ?_, ?_, ?_, ?_⟩
  · decide +kernel
  · unfold HostTakes State.HostOpen; decide +kernel
  · unfold HostTakes State.HostOpen; decide +kernel
  · unfold HostTakes State.HostOpen; decide +kernel
  · unfold HostTakes State.HostOpen; decide +kernel

def hm (op : Nat) : HostReq := hreq op { space := 1, addr := 4 * 128 + 120, len := 8, wdata := 3, be := 255 }

/-- The four accesses of the last 8 bytes of line 4. -/
theorem wit_HostMemoryAccesses :
    ((hm 0).space = 1 ∧ (hm 0).peer = false ∧ inLine (hm 0).addr.toNat (hostLen (hm 0)) = true ∧ lineOf (hm 0).addr.toNat = 4 ∧
    (w0.fnc 1).state = 2 ∧ (wl true).gateShut (some 4) 2 ((wl true).servedClass 2 1) none = false ∧ (wl true).filt 0 4 = {}) ∧
    (HostTakes (wl true) 0 (hm 0) ∧ HomeTakes (wl true) 4 2 1 .rd true 0 0 ∧ (wl true).homeData 0 4 = some (line7, 0, 3)) ∧
    (HostTakes (wl true) 1 (hm 1) ∧ HomeTakes (wl true) 4 2 1 .wr true 0 0 ∧ (wl true).mirrored 0 = true ∧ (wl true).keyLive 5 = true) ∧
    (HomeTakes (wl true) 4 2 1 .amo true 0 0 ∧ hostLen (hm 2) = 8 ∧ (hm 2).addr.toNat % 8 = 0) ∧
    (HostTakes (wl true) 2 (hm 2) ∧ (atomicLine line7 120 2 true 3 0).isSome = true) ∧
    (HostTakes (wl true) 3 (hm 3) ∧ (atomicLine line7 120 1 true 3 0).isSome = true) := by
  refine ⟨?_, ?_, ?_, ?_, ?_, ?_⟩
  · decide +kernel
  · unfold HostTakes State.HostOpen HomeTakes; decide +kernel
  · unfold HostTakes State.HostOpen HomeTakes; decide +kernel
  · unfold HomeTakes; decide +kernel
  · unfold HostTakes State.HostOpen; decide +kernel
  · unfold HostTakes State.HostOpen; decide +kernel

/-- Descriptor of a ZERO of 64 bytes at address 1,024, without a fence, from the tile port's one write. -/
def zeroWords : Sector := BitVec.ofNat 512 (0xB + 2 * 16 + (1024 <<< 128) + (64 <<< 192))
def wJobs : State := { w0 with fncs := [(1, { slice := 2, state := 2, jobDepth := 16 })],
                               views := [(1, { jobDesc := (List.range 7).map fun k => (k, (descWords zeroWords).getD k 0) })] }

/-- A descriptor submitted by the host's doorbell, whose last word is not 0, and by a tile. -/
theorem wit_JobsAreSubmitted :
    (wJobs.HostOpen 1 9 ∧ wJobs.slotOf 1 0 = some 3 ∧ wJobs.pinsStatus 0 = .ok ∧ wJobs.submitStatus 3 (descWords zeroWords) = .ok) ∧
    (TileTakes wJobs 5 0x21 (treq 0x21 { tag := 9, wdata := zeroWords, be := BitVec.allOnes 64 }) bnd ∧ wJobs.blk.parked = false) := by
  refine ⟨?_, ?_⟩
  · unfold State.HostOpen; decide +kernel
  · unfold TileTakes; decide +kernel

def kreq (ty : Nat) (k : KbReq) : KbReq := if kbCparOk ty k then k else { k with cpar := true }
def wKb (e : Option (Nat × Nat)) (l : List RemoteReq) : State :=
  { w0 with bindings := [(0, { first := 4, count := 4, ending := e })], remotes := l }
def wNoBind : State := { w0 with bindings := [] }
def away : RemoteReq := { sa := 4, xid := 9, kind := 1, origin := .tile 5 8, line := 4, port := some 5 }

/-- START of the last range of ports, END, ABORT, an END whose writes have been performed and one whose have not. -/
theorem wit_KernelBoundary :
    (KbTakes wNoBind 0 (kreq 0 { slot := 0, first := 252, count := 4 }) ∧ wNoBind.startStatus 0 252 4 = .ok) ∧
    (mget? w0.bindings 0 = some { first := 4, count := 4 } ∧ (w0.slot 0).ctx = some 3 ∧ w0.ctxLost 3 = false) ∧
    (KbTakes w0 1 (kreq 1 { slot := 0, seq := 7 })) ∧
    (KbTakes w0 2 (kreq 2 { slot := 0, seq := 7 })) ∧
    ((wKb (some (7, 92)) []).Working ∧ (wKb (some (7, 92)) []).writesHome { first := 4, count := 4, ending := some (7, 92) } = true ∧
    (wKb (some (7, 92)) []).portUp hostPort = true) ∧
    (92 + 8 ≤ (wKb (some (7, 92)) [away]).blk.tick ∧
    (wKb (some (7, 92)) [away]).writesHome { first := 4, count := 4, ending := some (7, 92) } = false) := by
  refine ⟨?_, ?_, ?_, ?_, ?_, ?_⟩
  · unfold KbTakes; decide +kernel
  · decide +kernel
  · unfold KbTakes; decide +kernel
  · unfold KbTakes; decide +kernel
  · unfold State.Working; decide +kernel
  · decide +kernel

def wTrace : State := { w0 with slots := [(0, { ctx := some 3, trace := { enable := true } })] }

/-- A sample of a port whose slot is traced. -/
theorem wit_DebugSamplesEnterTheSink :
    wTrace.portUp 338 = true ∧ dbgCparOk 5 0x1000 2 true = true ∧
    (wTrace.port 5).state ≠ 3 ∧ wTrace.bound 5 = some bnd ∧ (wTrace.slot 0).trace.on = true ∧ wTrace.stopped = false ∧
    wTrace.sink.length < 1024 := by
  decide +kernel

def wUrg : State :=
  { w0 with img := { w0.img with active := { w0.img.active with urgs := [(3, { slice := 2 })] } },
            qos := { w0.qos with urgency := [(3, { level := 7, at7 := 8 })] } }
def wFactory (b : Bool) : State := { w0 with test := { factory := b } }

/-- An input's level, an input at level 7 for 8 ticks, the test port inside and outside FACTORY_TEST. -/
theorem wit_UrgencyAndTestPort :
    ((1 : BitVec 3) ≠ 0 ∧ w0.held = []) ∧
    (wUrg.urgRec 3 = some { slice := 2 } ∧ 8 ≤ (wUrg.urg 3).at7 ∧ (wUrg.urg 3).level = 7 ∧ (wUrg.urg 3).floating = false ∧
    (wUrg.urg 3).raised = false) ∧
    ((wFactory true).test.factory = true ∧ (wFactory false).test.factory = false) := by
  refine ⟨?_, ?_, ?_⟩ <;> decide +kernel

/-- A packet of the sideband port with a good PEC. -/
def mctp (type : BitVec 7) (body : List Byte) : MctpPkt := { type := type, body := body, pecOk := true }
/-- The working block with a valid supply 31. -/
def wSup : State := { w0 with fawn := { w0.fawn with supplies := [(31, { median := 1000, valid := true })], events := [(3, 7)] } }

/-- The responder has power; the ends of its ranges of IDs; an event in its queue. -/
theorem wit_PldmResponder :
    (w0.blk.power ≠ 3 ∧ (mctp 2 []).pecOk = true ∧ (mctp 2 []).dst = (mctp 2 []).strap ∧ (mctp 2 []).len.toNat ≤ 64 ∧ (mctp 2 []).type ≠ 0 ∧
    (mctp 2 []).type ≠ 1 ∧ (mctp 2 []).type ≠ 5) ∧
    (128 ≤ (128 : Byte).toNat ∧ (mctp 0 [128, 2]).body = [128, 2] ∧ (mctp 0 [128, 1, 0, 254]).body = [128, 1, 0, 254] ∧ (254 : Byte) ≠ 0 ∧ (254 : Byte) ≠ 255) ∧
    (({ mctp 0 [] with pecOk := false } : MctpPkt).pecOk = false) ∧
    (pdrKind 41 = some [41, 1] ∧ pdrKind 42 = none ∧ (wSup.supply (41 - 10)).valid = true ∧ 41 < (42 : BitVec 16).toNat) ∧
    ((8 : BitVec 8).toNat ≤ 8 ∧ 8 < (9 : BitVec 8).toNat) ∧
    (wSup.fawn.events = [(3, 7)] ∧ w0.fawn.events = []) := by
  refine ⟨?_, ?_, ?_, ?_, ?_, ?_⟩ <;> decide +kernel

/-- The vault with a root, its certificate one byte, and in NO_ROOT. -/
def wVault : State := { w0 with vault := { state := 2, certBuf := [1] } }

/-- The fabric runs; without a root, and with one: the last byte of the chain, another slot, the first and last block. -/
theorem wit_SpdmResponder :
    (w0.blk.power = 2 ∧ 3 ≤ w0.fawn.phase ∧ w0.vault.state < 3 ∧ w0.vaultReady = false) ∧
    (wVault.vaultReady = true ∧ wVault.vaultSigns = true ∧ (0 : BitVec 16).toNat < wVault.vault.certBuf.length ∧ (1 : BitVec 4) ≠ 0 ∧
    1 ≤ (5 : BitVec 8).toNat ∧ (5 : BitVec 8).toNat ≤ 5) := by
  refine ⟨?_, ?_⟩ <;> decide +kernel

/-- A staged image that changes nothing, to commit at `k`, and the window in a state. -/
def stg (delta : Bool) (k : Nat) (base : Digest) : Staged := ⟨delta, k, 4, base, 0, w0.img.active, []⟩
def wImg (i : Img) : State := { w0 with img := { i with active := w0.img.active } }
def wStaged (state : Nat) (d : Staged) : State := wImg { state := state, staged := some d }

/-- Each operation in a state that permits it; the last 8 bytes of staging; a delta whose live checks pass and one whose base is another. -/
theorem wit_ImageOperations :
    ((wImg {}).MgOpen false ∧ (wImg {}).img.applyPending = false ∧ (wImg {}).img.state = 0) ∧
    ((wImg { state := 1 }).img.state = 1 ∧ (2 ^ 20 - 8) + 8 ≤ 2 ^ 20) ∧
    ((wStaged 3 (stg true 300 0)).isMirror = false ∧ (wStaged 3 (stg true 300 0)).liveCheck (stg true 300 0) = none ∧
    (wStaged 3 (stg true 300 0)).tickFail (stg true 300 0) = none) ∧
    (((wStaged 3 (stg true 300 1)).liveCheck (stg true 300 1)).isSome = true) ∧
    ((wStaged 4 (stg true 300 0)).img.state = 4 ∧ (wStaged 5 (stg true 300 0)).txns = []) ∧
    (({ wStaged 3 (stg false 0 0) with fawn := { w0.fawn with phase := 5 } } : State).img.applied = false) := by
  refine ⟨?_, ?_, ?_, ?_, ?_, ?_⟩
  · unfold State.MgOpen; decide +kernel
  · decide +kernel
  · decide +kernel
  · decide +kernel
  · decide +kernel
  · decide +kernel

def drain0 : DrainSt := { home := 0, ways := 3, filter := true }
def wDrain (d : DrainSt) : State := wImg { state := 5, drain := [d] }
def wCommit (b : Digest) : State := wImg { state := 5, staged := some (stg true 100 b), drain := [{ home := 0, tagCur := 32768, filterCur := 32 }] }

/-- A check of an empty image fails; a drain that is due; the walks of a drain; the commit of a drained delta and of one whose base is another. -/
theorem wit_ImageComesIntoForce :
    ((wImg { state := 2 }).imgCheck.isOk = false) ∧
    ((wStaged 4 (stg true 104 0)).isMirror = false ∧ 104 ≤ (wStaged 4 (stg true 104 0)).blk.tick + (stg true 104 0).drainLead) ∧
    ((wDrain drain0).img.drain.find? (fun d => d.home == 0) = some drain0 ∧ (wDrain drain0).stopped = false ∧ drain0.tagCur < 32768 ∧
    drain0.ways ≠ 0 ∧ drain0.tagTick ≠ some (wDrain drain0).blk.tick) ∧
    (drain0.filter = true ∧ drain0.filterCur < 31 ∧ drain0.filterTick ≠ some (wDrain drain0).blk.tick) ∧
    ((wCommit 0).liveCheck (stg true 100 0) = none ∧ (wCommit 0).stopped = false ∧ (wCommit 0).img.drain.all (wCommit 0).drained = true ∧
    (wCommit 0).recoveryMeets (stg true 100 0) = none ∧ (stg true 100 0).commitTick ≤ (wCommit 0).blk.tick) ∧
    (((wCommit 1).liveCheck (stg true 100 1)).isSome = true ∧ (wCommit 1).isMirror = false) := by
  refine ⟨?_, ?_, ?_, ?_, ?_, ?_⟩ <;> decide +kernel

def heldReq : HeldReq := { port := 5, tag := 9, tc := 1, age := 8, cmd := .rdOnce 5 (rq 2) }
def wHeld : State := { (wl false).setTile 5 { tags := [9] } with
                       held := [heldReq] }
def wRamp : State := { w0 with qos := { w0.qos with ramps := [(rampKey 7 2 3, { high := 16 })] } }
def wQos (k : Nat) : State := { w0 with qos := { w0.qos with armed := true, armTick := k }, img := { w0.img with lastCommit := 3 } }

/-- Queue levels at an entry; a request held for hold_age ticks; a class that misses its target on the last die; feedback; the armed values. -/
theorem wit_RegulatorCommands :
    (w0.held = [] ∧ w0.mpMode 0 = 0 ∧ (w0.mp 0).throttle < throttleOf (14 : BitVec 4).toNat) ∧
    (((wMem { throttle := 3 }).mp 0).throttle = 2 + 1 ∧ (11 : BitVec 4).toNat + 3 ≤ throttleEntry (2 + 1) ∧ (wMem { throttle := 3 }).mpMode 0 = 0) ∧
    (wHeld.held = [heldReq] ∧ wHeld.fullHold = false ∧ wHeld.fatal = false ∧ wHeld.holdAge ≤ heldReq.age ∧ wHeld.bound 5 = some bnd ∧
    wHeld.portUp 5 = true ∧ (wHeld.tile 5).tags.contains 9 = true ∧ tpDparOk (rq 2) = true) ∧
    (HomeTakes wHeld 4 2 1 .rd false 0 0 ∧ wHeld.filt 0 4 = {} ∧ wHeld.homeData 0 4 = some (line7, 0, 3) ∧ (wHeld.ownAt (lineGran 4)).fmt = 0) ∧
    (((List.range 8).any fun d => decide (16 ≤ (tget {} wRamp.qos.ramps (rampKey d 2 3)).high)) = true ∧
    (tget {} wRamp.qos.measure (2 * 4 + 3)).unmet = false) ∧
    (((wMem { qBadTicks := 16 }).mp 0).implausible = false ∧ 16 ≤ ((wMem { qBadTicks := 16 }).mp 0).qBadTicks) ∧
    (((wMem { restore := true, goodTicks := 16 }).mp 0).restore = true ∧ 16 ≤ ((wMem { restore := true, goodTicks := 16 }).mp 0).goodTicks) ∧
    (w0.MgOpen false ∧ w0.isMirror = false) ∧
    ((wQos 100).qos.armed = true ∧ (wQos 100).qos.armTick ≤ (wQos 100).blk.tick ∧ (wQos 100).img.lastCommit ≠ (wQos 100).blk.tick) := by
  refine ⟨?_, ?_, ?_, ?_, ?_, ?_, ?_, ?_, ?_⟩
  · decide +kernel
  · decide +kernel
  · decide +kernel
  · unfold HomeTakes; decide +kernel
  · decide +kernel
  · decide +kernel
  · decide +kernel
  · unfold State.MgOpen; decide +kernel
  · decide +kernel

/-- The working block with key 6 as `k`, and command `c` pending for it. -/
def wKey (k : KeySt) (c : Option (Nat × Nat × Nat)) : State := { w0 with keys := [(6, k)], mpt := { keyPending := c } }
def wWalk (cur : Nat) : State :=
  { wKey { state := 2, slice := 2, fn := 1, markTick := 99 } none with
    homes := [(0, { ownLines := [0], retireCur := cur, retireMark := 99, lines := [(70, { line := 4, slice := 2, key := 6, data := line7 })] })] }
def allHomes : List Nat := List.range 136

/-- The command; the mark; the walk's pieces; the end of the walk, its deadline 32 ticks after the mark, and of the quarantine. -/
theorem wit_KeyRetirement :
    ((wKey {} none).MgOpen false ∧ (wKey {} none).mpt.keyPending = none ∧ (wKey {} (some (1, 6, 1))).mpt.keyPending ≠ none) ∧
    ((wKey { state := 1, slice := 2, fn := 1 } (some (1, 6, 1))).retireResult 1 6 1 = 0) ∧
    ((wWalk 15).walkKeys 0 ≠ [] ∧ (wWalk 15).stopped = false ∧ ((wWalk 15).home 0).role = 0 ∧ (wWalk 15).rw.windows = [] ∧
    ((wWalk 15).home 0).retireCur < 16 ∧ ((wWalk 16).home 0).retireCur = 16 ∧
    ((wWalk 15).home 0).retireMark = ((wWalk 15).key (((wWalk 15).walkKeys 0).headD 0)).markTick ∧ ((wWalk 15).home 0).retireTick ≠ (wWalk 15).blk.tick ∧
    ((wWalk 16).home 0).retireMark = ((wWalk 16).key (((wWalk 16).walkKeys 0).headD 0)).markTick) ∧
    ((wKey { state := 2, markTick := 99, walked := allHomes } none).retireDone 6 = true ∧
    ((wKey { state := 2, markTick := 99, walked := allHomes } none).key 6).markTick < 100) ∧
    (((wKey { state := 2, markTick := 68 } none).key 6).markTick + 32 ≤ w0.blk.tick) ∧
    (((wKey { state := 3, zeroTick := 84 } none).key 6).zeroTick + 16 ≤ w0.blk.tick) := by
  refine ⟨?_, ?_, ?_, ?_, ?_, ?_⟩
  · unfold State.MgOpen; decide +kernel
  · decide +kernel
  · decide +kernel
  · decide +kernel
  · decide +kernel
  · decide +kernel

def wCmd (v : Vault) : State := { w0 with vault := v }

/-- No command pending, and one of each register pending. -/
theorem wit_VaultCommandsPend :
    ((wCmd {}).MgOpen false ∧ (wCmd {}).vault.keyCmd.pending = none ∧ (wCmd {}).vault.saCmd.pending = none ∧
    (wCmd {}).vault.agreeCmd.pending = none ∧ (wCmd {}).vault.enrolling = none) ∧
    ((wCmd { keyCmd := { pending := some (1, 6, 1, 0) } }).vault.keyCmd.pending ≠ none) ∧
    ((wCmd { saCmd := { pending := some (1, 6, 1, 0) } }).vault.saCmd.pending ≠ none) ∧
    ((wCmd { agreeCmd := { pending := some (1, 6, 1, 0) } }).vault.agreeCmd.pending ≠ none) := by
  refine ⟨?_, ?_, ?_, ?_⟩
  · unfold State.MgOpen; decide +kernel
  · decide +kernel
  · decide +kernel
  · decide +kernel

/-- The middle of a regeneration. -/
def wRoot (v : Vault) : State := { w0 with vault := { v with state := 1, hoofprint := some [1] } }

/-- A hoofprint that fails its checks; the tries of the root; enough stable cells and one too few; a staged key; a copy. -/
theorem wit_VaultEvents :
    ((wCmd { hoofprint := some [1] }).vault.state = 0 ∧ (wCmd { hoofprint := some [1] }).fawn.fabricGood = true ∧ hoofOk [1] = false) ∧
    ((wRoot { arrayOn := true }).vault.seed = none ∧ (wRoot { arrayOn := true }).vault.state = 1) ∧
    ((wRoot { tryTick := some 84 }).vault.arrayOn = false ∧ 84 + 16 ≤ (wRoot {}).blk.tick) ∧
    (popCount (BitVec.ofNat 8192 (2 ^ 3576 - 1)).toNat 8192 < 3577 ∧ 3577 ≤ popCount (BitVec.ofNat 8192 (2 ^ 3577 - 1)).toNat 8192) ∧
    (((wKey { staged := true } none).key 6).staged = true ∧ ((wKey { staged := true } none).key 6).state < 2 ∧
    ((wKey { staged := true, state := 1 } none).key 6).state = 1) := by
  refine ⟨?_, ?_, ?_, ?_, ?_⟩ <;> decide +kernel

/-- REDUCE_WR with the control descriptor OPEN (1) or CLOSE (2): FP32 to FP32, count 2, fence 0, one block, output at address 2,048. -/
def ctl (op : Nat) : TpReq :=
  treq 0x18 { tag := 9, addr := 512, tc := 1, wdata := BitVec.ofNat 512 (op + 2 <<< 16 + 2048 <<< 128 + 1 <<< 192) }
/-- A contribution to line 4: element 0 gets 1.0, all others 0. -/
def contrib : TpReq := treq 0x18 { tag := 9, addr := 512, tc := 1, wdata := 0x3F800000, be := BitVec.allOnes 64 }
def win (r : Window) : Window :=
  { r with slice := 2, fn := 1, ctx := 3, count := 2, base := 512, outBase := 512, blocks := 1 }
/-- The working block with context 3 owning fence page 0 and window 0 as `x`. -/
def wWin (x : Window) (l : State) : State :=
  { l with ctxs := [(3, { state := 2, slot := 0, fn := 1, slice := 2, key := 5, fenceFirst := 0, fencePages := 1 })],
           fpages := [(0, { owner := 1 })], rw := { windows := if x.state = 0 then [] else [(0, x)] } }
def opened : Window := win { state := 2, shadows := [(0, clearShadow)] }
def fullWin (st : Nat) : Window := win { state := st, shadows := [(0, { clearShadow with lo := 2, hi := 2 })] }

/-- An OPEN that passes every check. -/
theorem wit_ReduceOpen :
    (TileTakes (wWin {} w0) 5 0x18 (ctl 1) bnd ∧ (wWin {} w0).blk.parked = false ∧ (wWin {} w0).txns = [] ∧ (ctl 1).be = 0 ∧ (rwCtl (ctl 1).wdata).op = 1) ∧
    ((wWin {} w0).gate (granOf 512) 2 (some 1) .amo false false = none ∧ (wWin {} w0).gate (granOf 2048) 2 (some 1) .wr false false = none) ∧
    ((rwCtl (ctl 1).wdata).reservedOk = true ∧ (rwCtl (ctl 1).wdata).count = 2 ∧ (rwCtl (ctl 1).wdata).blocks = 1 ∧
    (rwCtl (ctl 1).wdata).inFmt = 0 ∧ (rwCtl (ctl 1).wdata).outFmt = 0) ∧
    ((wWin {} w0).rangesOk { opened with outBase := 2048 } 0 = true ∧ (wWin {} w0).meetsWindow { opened with outBase := 2048 } 0 = false ∧ (wWin {} w0).armStatus 3 0 = .ok) ∧
    ((wWin {} w0).shadowsFit opened ((wWin {} w0).shadowPlaces opened) false = true ∧
    (wWin {} w0).shadowsFit opened ((wWin {} w0).shadowPlaces opened) true = true ∧ (wWin {} w0).freeWindow 0 = some 0 ∧
    0 < tget 16 (wWin {} w0).rw.limits 2) := by
  refine ⟨?_, ?_, ?_, ?_, ?_⟩
  · unfold TileTakes; decide +kernel
  · decide +kernel
  · decide +kernel
  · decide +kernel
  · decide +kernel

/-- A contribution to an open window, and a CLOSE by its function. -/
theorem wit_ReduceContributionAndClose :
    (TileTakes (wWin opened w0) 5 0x18 contrib bnd ∧ contrib.be = BitVec.allOnes 64 ∧ (wWin opened w0).windowAt 512 = some (0, opened) ∧
    (opened.add 0 (sectorVals 0 contrib.wdata) 1).isSome = true) ∧
    (((wWin opened w0).homeName (lineOf 512)).bind (wWin opened w0).physOf = some 0 ∧
    (wWin opened w0).gate (granOf 512) 2 (some 1) .amo false false = none) ∧
    (TileTakes (wWin opened w0) 5 0x18 (ctl 2) bnd ∧ (ctl 2).be = 0 ∧ (rwCtl (ctl 2).wdata).op = 2 ∧ (wWin opened w0).win 0 = opened ∧
    opened.fn = bnd.fn) := by
  refine ⟨?_, ?_, ?_⟩
  · unfold TileTakes; decide +kernel
  · decide +kernel
  · unfold TileTakes; decide +kernel

def merged : Merge := ⟨512, 2, 1, false, sectorVals 0 contrib.wdata, 1, []⟩
def wMerge : State := { wWin opened w0 with rw := { (wWin opened w0).rw with merge := [(0, [merged])] } }
def wArm (x : Window) (l : State) : State := { wWin x l with fences := [(0, { state := 1, armer := 3, pending := 1 })] }

/-- OPENING with nothing to recall, full half blocks, nothing left to write, a deadline reached, a merge entry. -/
theorem wit_ReduceWindowLife :
    ((wWin (win { state := 1, origin := .tile 5 9 }) w0).Working ∧ ((wWin (win { state := 1, origin := .tile 5 9 }) w0).win 0).state = 1 ∧
    (((wWin (win { state := 1, origin := .tile 5 9 }) w0).setTile 5 { tags := [9] }).tile 5).tags.contains 9 = true ∧
    (wWin (win { state := 1, origin := .tile 5 9 }) w0).portUp 5 = true) ∧
    ((wWin (fullWin 2) (wl true)).windowOut 0 (fullWin 2) = [(4, 0, 2 ^ 128 - 1)] ∧ (fullWin 2).full = true) ∧
    ((wWin (fullWin 2) (wl true)).gate (lineGran 4) 0 none .wr false true = none ∧ (wWin (fullWin 2) (wl true)).moving 0 = false ∧
    ((wWin (fullWin 2) (wl true)).home 0).ownLines.contains (tableLine (lineGran 4)) = true ∧ (wWin (fullWin 2) (wl true)).mirrored 0 = true ∧ (wWin (fullWin 2) (wl true)).keyLive 5 = true) ∧
    ((wArm (fullWin 3) w0).win 0 = fullWin 3 ∧ (fullWin 3).writes = [] ∧ (fullWin 3).redo = [] ∧ ((wArm (fullWin 3) w0).fence 0).state = 1 ∧
    ((wArm (fullWin 3) w0).fence 0).pending = 1) ∧
    ((wWin (win { state := 2, deadline := 5, openTick := 95 }) w0).windowLate (win { state := 2, deadline := 5, openTick := 95 }) = true) ∧
    ((tget [] wMerge.rw.merge 0)[0]? = some merged ∧ merged.fn < 4096 ∧ wMerge.windowAt merged.addr = some (0, opened) ∧
    merged.int = isInt opened.inFmt ∧ merged.vals.length = 512 / elemBits opened.inFmt ∧ (opened.add 0 merged.vals merged.count).isSome = true) := by
  refine ⟨?_, ?_, ?_, ?_, ?_, ?_⟩
  · unfold State.Working; decide +kernel
  · decide +kernel
  · decide +kernel
  · decide +kernel
  · decide +kernel
  · decide +kernel

/-- A job of context 3 on engine 3 with descriptor words `d`, its destination line 4, where it has one. -/
def job (d : List Nat) (j : Job) : Job :=
  { j with id := 1, desc := d.map (BitVec.ofNat 64 ·), ctx := 3, fn := 1, slice := 2, tc := 1, port := 5, engine := some 3, firstTick := some 99 }
def j0 : Job := { id := 0, desc := [], ctx := 0, fn := 0, slice := 0 }
/-- The working block with granules 0 and 1 assigned under keys 5 and 6, line 4 dirty in home 0, sequence 0, and job `j`. -/
def wJob (j : Job) : State :=
  { wSeq with jobs := [j], keys := [(5, { state := 1, slice := 2, fn := 1 }), (6, { state := 1, slice := 2, fn := 1 })],
              own := w0.own ++ [(1, { slice := 2, fn := 1, key := 6, gstate := 1, rd := true, wr := true, amo := true, host := true })] }
def dirty4 : LlcLine := { line := 4, slice := 2, key := 5, data := line7, dirty := true }
def jCopy : Job := job [0x1, 0, 1024, 512, 64] { j0 with buf := [(8, (line7, 0))] }
def jRekey : Job := job [0xA, 0, 2097152, 512, 64] { j0 with buf := [(16384, (line7, 0))] }
def jZero : Job := job [0xB, 0, 512, 64] j0
def jGather : Job := job [0x3, 0, 1024, 2048, 512, 1 + 2 ^ 32] { j0 with buf := [(8, (line7, 0)), (16, (0, 0))] }
def jTrans : Job := job [0x2, 0, 1024, 512, 32 + 2 ^ 36] { j0 with buf := [(8, (line7, 0))] }
def jBag (sub n : Nat) : Job :=
  job [0x5, 0, 1024, 1088, 2048, 512, 16 + 2 ^ 32, 0] { j0 with sub := sub, buf := [(8, (line7, 0)), (16, (BitVec.ofNat 1024 (n * 2 ^ 32), 0))], acc := List.replicate 16 0 }
def jKvGather : Job := job [0x7, 0, 1024, 512, 1] { j0 with buf := [(8, (BitVec.ofNat 1024 (8 * 2 ^ 20 + 2 ^ 46), 0))], acc := [0] }
def jHarvest : Job := job [0xD, 0, 0, 2, 512] j0

/-- A unit of each type that writes, with its lines read and its destination a dirty line of home 0. -/
theorem wit_JobsWriteTheirUnits :
    (JobRuns (wJob jCopy) 1 jCopy ∧ Read (wJob jCopy) jCopy 1024 64 ∧ jCopy.bytes 1024 64 = (7, false) ∧ JobWrites (wJob jCopy) jCopy 512 64 0 dirty4 ∧
    dType jCopy.desc = 1 ∧ jCopy.cur < field (dword jCopy.desc 4) 0 38 / 64) ∧
    (JobRuns (wJob jRekey) 1 jRekey ∧ Read (wJob jRekey) jRekey 2097152 64 ∧ jRekey.bytes 2097152 64 = (7, false) ∧
    JobWrites (wJob jRekey) jRekey 512 64 0 dirty4 ∧ dType jRekey.desc = 0xA ∧ (wJob jRekey).rekeyOk jRekey 2097152 512 = true) ∧
    (JobRuns (wJob jZero) 1 jZero ∧ dType jZero.desc = 0xB ∧ jZero.cur < field (dword jZero.desc 3) 0 38 / 64 ∧
    JobWrites (wJob jZero) jZero 512 64 0 dirty4) ∧
    (JobRuns (wJob jGather) 1 jGather ∧ dType jGather.desc = 3 ∧ Read (wJob jGather) jGather 2048 4 ∧ jGather.bytes 2048 4 = (0, false) ∧
    Read (wJob jGather) jGather 1024 64 ∧ jGather.bytes 1024 64 = (7, false) ∧ JobWrites (wJob jGather) jGather 512 64 0 dirty4) ∧
    (JobRuns (wJob jTrans) 1 jTrans ∧ dType jTrans.desc = 2 ∧ field (dword jTrans.desc 4) 32 4 = 0 ∧ field (dword jTrans.desc 4) 36 4 = 1 ∧
    Read (wJob jTrans) jTrans 1024 128 ∧ jTrans.bytes 1024 128 = (7, false) ∧ JobWrites (wJob jTrans) jTrans 512 64 0 dirty4) ∧
    (JobRuns (wJob (jBag 1 1)) 1 (jBag 1 1) ∧ dType (jBag 1 1).desc = 5 ∧ field (dword (jBag 1 1).desc 6) 24 2 = 0 ∧
    Read (wJob (jBag 1 1)) (jBag 1 1) 2048 8 ∧ (jBag 1 1).bytes 2048 8 = (2 ^ 32, false) ∧ JobWrites (wJob (jBag 1 1)) (jBag 1 1) 512 64 0 dirty4) ∧
    (JobRuns (wJob jKvGather) 1 jKvGather ∧ ((wJob jKvGather).seqw 2).badMeta = [] ∧ dType jKvGather.desc = 7 ∧ Read (wJob jKvGather) jKvGather 1024 8 ∧
    jKvGather.bytes 1024 8 = (0 + 8 * 2 ^ 20 + 1 * 2 ^ 46, false) ∧ (wJob jKvGather).seqOk 2 0 = true ∧
    (((wJob jKvGather).seqw 2).seqEnt 0).valid = true ∧ 8 + 1 ≤ (((wJob jKvGather).seqw 2).seqEnt 0).length ∧ ((wJob jKvGather).seqw 2).shift = 0) ∧
    (Read (wJob jKvGather) jKvGather ((wJob jKvGather).pageAddr 0 + 8 % 256 * 128) 128 ∧
    (jKvGather.bytes 1024 128).2 = false ∧ JobWrites (wJob jKvGather) jKvGather 512 128 0 dirty4) ∧
    (JobRuns (wJob jHarvest) 1 jHarvest ∧ dType jHarvest.desc = 0xD ∧ jHarvest.cur < field (dword jHarvest.desc 3) 0 21 ∧
    JobWrites (wJob jHarvest) jHarvest 512 4 0 dirty4 ∧ ((wJob jHarvest).ownAt 0).dirtyLog = false) ∧
    (((List.range 2).all fun k => let e := (wJob jHarvest).ownAt (0 + k); e.gstate == 1 && e.fn == 1 && e.slice == 2) = true) := by
  refine ⟨?_, ?_, ?_, ?_, ?_, ?_, ?_, ?_, ?_, ?_⟩
  · unfold JobRuns State.Working JobWrites HomeTakes Read; and_intros <;> first | decide +kernel | exact ⟨0, by decide +kernel⟩
  · unfold JobRuns State.Working JobWrites HomeTakes Read; and_intros <;> first | decide +kernel | exact ⟨0, by decide +kernel⟩
  · unfold JobRuns State.Working JobWrites HomeTakes; and_intros <;> first | decide +kernel | exact ⟨0, by decide +kernel⟩
  · unfold JobRuns State.Working JobWrites HomeTakes Read; and_intros <;> first | decide +kernel | exact ⟨0, by decide +kernel⟩
  · unfold JobRuns State.Working JobWrites HomeTakes Read; and_intros <;> first | decide +kernel | exact ⟨0, by decide +kernel⟩
  · unfold JobRuns State.Working JobWrites HomeTakes Read; and_intros <;> first | decide +kernel | exact ⟨0, by decide +kernel⟩
  · unfold JobRuns State.Working Read; decide +kernel
  · unfold JobWrites HomeTakes Read; and_intros <;> first | decide +kernel | exact ⟨0, by decide +kernel⟩
  · unfold JobRuns State.Working JobWrites HomeTakes; and_intros <;> first | decide +kernel | exact ⟨0, by decide +kernel⟩
  · decide +kernel

def jScatter : Job := job [0x4, 0, 1024, 2048, 512, 1 + 2 ^ 32] { j0 with buf := [(8, (line7, 0)), (16, (0, 0))] }
def jScrub : Job := job [0xC, 0, 1024, 128] j0
def wScatter : State := { wWin opened w0 with jobs := [jScatter] }

/-- A row of SCATTER_REDUCE, the second row of a bag of two, a line of SCRUB. -/
theorem wit_JobsAddAndCheck :
    (JobRuns wScatter 1 jScatter ∧ dType jScatter.desc = 4 ∧ Read wScatter jScatter 2048 4 ∧ jScatter.bytes 2048 4 = (0, false) ∧
    Read wScatter jScatter 1024 64 ∧ jScatter.bytes 1024 64 = (7, false) ∧ wScatter.windowAt 512 = some (0, opened) ∧
    (opened.add 0 (sectorVals 0 7) 1).isSome = true) ∧
    (JobRuns (wJob (jBag 1 2)) 1 (jBag 1 2) ∧ (jBag 1 2).bytes 2048 8 = (2 * 2 ^ 32, false) ∧ Read (wJob (jBag 1 2)) (jBag 1 2) 1092 4 ∧
    (jBag 1 2).bytes 1092 4 = (0, false) ∧ Read (wJob (jBag 1 2)) (jBag 1 2) 1024 64) ∧
    (JobRuns (wJob jScrub) 1 jScrub ∧ dType jScrub.desc = 0xC ∧ jScrub.cur < field (dword jScrub.desc 3) 0 38 / 128 ∧
    (wJob jScrub).gate (lineGran 8) 2 (some 1) .rd false false = none ∧ (wJob jScrub).keyPasses 5 8 = true ∧
    (wJob jScrub).stackLost (granPort (lineGran 8)) = false ∧ ((wJob jScrub).port (mpPort (granPort (lineGran 8)))).state < 2 ∧
    (wJob jScrub).guarded (lineGran 8) = false) := by
  refine ⟨?_, ?_, ?_⟩
  · unfold JobRuns State.Working Read; decide +kernel
  · unfold JobRuns State.Working Read; decide +kernel
  · unfold JobRuns State.Working; decide +kernel

def jAppend : Job := job [0x6, 0, 0, 1024, 10] { j0 with sub := 2, holds := [0] }
def jAge : Job := job [0x8, 0, 0, 44 + 3 * 2 ^ 32] { j0 with sub := 2, holds := [0], seqPage := some 4 }
def jFork (op : Nat) : Job := job [0x9, 0, 0, 1, 256 + op * 2 ^ 32] { j0 with holds := [0, 1] }

/-- An append of 10 tokens to the 300, an aging of the first page, a fork of 256 tokens, a truncation to 256. -/
theorem wit_SequenceJobs :
    (JobRuns (wJob jAppend) 1 jAppend ∧ ((wJob jAppend).seqw 2).badMeta = [] ∧ dType jAppend.desc = 6 ∧ ((wJob jAppend).seqw 2).perPage = 256 ∧
    ((wJob jAppend).seqw 2).seqEnt 0 = { valid := true, length := 300, dir := 0 } ∧ ((wJob jAppend).seqw 2).pageEnt 0 1 = { page := 1, fmt := 0, valid := true } ∧
    tget 0 ((wJob jAppend).seqw 2).counts 1 ≤ 1) ∧
    (JobRuns (wJob jAge) 1 jAge ∧ ((wJob jAge).seqw 2).badMeta = [] ∧ dType jAge.desc = 8 ∧ (jAge.cur + 1) * 256 ≤ 300 - field (dword jAge.desc 3) 0 26 ∧
    1 ≤ tget 0 ((wJob jAge).seqw 2).counts 0) ∧
    (JobRuns (wJob (jFork 0)) 1 (jFork 0) ∧ ((wJob (jFork 0)).seqw 2).badMeta = [] ∧ dType (jFork 0).desc = 9 ∧ (((wJob (jFork 0)).seqw 2).seqEnt 1).valid = false ∧
    ((wJob (jFork 0)).seqw 2).free = [(2, 0), (3, 0)] ∧
    ((List.range ((256 + 256 - 1) / 256)).all fun p => decide (tget 0 ((wJob (jFork 0)).seqw 2).counts (((wJob (jFork 0)).seqw 2).pageEnt 0 p).page < 65535)) = true) ∧
    (JobRuns (wJob (jFork 1)) 1 (jFork 1) ∧ ((wJob (jFork 1)).seqw 2).badMeta = [] ∧ field (dword (jFork 1).desc 4) 32 2 = 1 ∧ field (dword (jFork 1).desc 4) 0 26 = 256) := by
  refine ⟨?_, ?_, ?_, ?_⟩ <;> (unfold JobRuns State.Working; decide +kernel)

def jWait : Job := { jZero with engine := none }
def jEnded : Job := { jZero with desc := [BitVec.ofNat 64 (0xB + 2 ^ 28), 5], ended := some 0 }
def wEnded : State := { wJob jEnded with fences := [(0, { state := 1, armer := 3, pending := 1 })] }
def wSeqCtl (st : Nat) : State := { w0 with seqs := [(2, { state := st })] }

/-- A job that waits for an engine, one that an engine picks, one that has ended, one that has waited 16 ticks for a page; the window's commands. -/
theorem wit_JobLife :
    ((wJob jWait).Working ∧ (wJob jWait).job? 1 = some jWait ∧ (wJob jWait).pickEngine jWait = some 3) ∧
    ((wJob jZero).jobNextOf 3 0 = some jZero ∧ (wJob jZero).job? 1 = some jZero) ∧
    (wEnded.Working ∧ wEnded.job? 1 = some jEnded ∧ dFenceEn jEnded.desc = true ∧ (wEnded.fence (dFence jEnded.desc)).state = 1 ∧
    (wEnded.fence (dFence jEnded.desc)).pending = 1) ∧
    (((wJob { jAppend with waitSince := some 84 }).job? 1).map (·.waitSince) = some (some 84) ∧ 84 + 16 ≤ (wJob j0).blk.tick) ∧
    ((wSeqCtl 0).MgOpen false ∧ ((wSeqCtl 0).seqw 2).pending = none ∧ ((wSeqCtl 0).seqw 2).state = 0 ∧ (2 : BitVec 7) ≠ 0) ∧
    ((wSeqCtl 1).Working ∧ ((wSeqCtl 1).seqw 2).state = 1 ∧
    ((wSeqCtl 1).seqw 2).tableLines.1 + ((wSeqCtl 1).seqw 2).tableLines.2.1 + ((wSeqCtl 1).seqw 2).tableLines.2.2 ≤ ((wSeqCtl 1).seqw 2).tab) := by
  refine ⟨?_, ?_, ?_, ?_, ?_, ?_⟩
  · unfold State.Working; decide +kernel
  · decide +kernel
  · unfold State.Working; decide +kernel
  · decide +kernel
  · unfold State.MgOpen; decide +kernel
  · unfold State.Working; decide +kernel

/-- The working block with tine 0 up between receive slot 3 and transmit slot 4, and `m` in the ingress buffer. -/
def rec0 : TineRec := { use := 1, owner := 2, peerKind := 0 }
def lt (m : List InMsg) (s : State) : State :=
  { s with ports := (s.ports.filter (·.1 < 272)) ++ [(272, up)] ++ (s.ports.filter (·.1 > 272)),
           tines := [(0, { state := 2, linkUp := true })], inbox := m,
           img := { s.img with active := { s.img.active with tines := [(0, rec0)] } },
           sas := [(3, { cfg := 0x1022, tines := 1, state := 2 }), (4, { cfg := 0x1023, tines := 1, state := 2 })] }
def im (op : Nat) (m : LinkMsg) (herd : Bool) : InMsg :=
  { sa := 3, tine := 0, chip := if herd then 1 else 255, slice := 2, fn := 1, herd := herd, msg := { m with op := BitVec.ofNat 6 op, slice := 2, xid := 9 } }
def sa3 : SaSt := { cfg := 0x1022, tines := 1, state := 2 }
def sa4 : SaSt := { cfg := 0x1023, tines := 1, state := 2 }
def sent : SentMsg := { msn := 2, msg := { op := 1, slice := 2, xid := 9 }, origin := .tile 4 7, first := 90 }
def wSent : State := (lt [] w0).setSa 4 { sa4 with msgs := [sent] }
def fr : Frame := { etype := 0x88B5, msn := 5, psn := 5, msgs := [{ op := 2, len := 64, slice := 2 }] }
def ack : Frame := { etype := 0x88B5, psn := 0, msn := 1 }
def wGot : State := (lt [] w0).setPath 3 0 { sinceAck := 1, nextPsn := 4 }

/-- A DATA frame whose message is next, an ACK frame that covers the one message sent, a path that has received a frame. -/
theorem wit_FramesOfAConnection :
    ((lt [] w0).stopped = false ∧ (lt [] w0).fatal = false ∧ (lt [] w0).portUp (lpPort 0) = true ∧ ((lt [] w0).tine 0).state < 4 ∧
    (lt [] w0).blockRec.ethertype = 0 ∧ fr.version = 1 ∧ fr.sec = none) ∧
    ((lt [] w0).sas.find? (fun a => (!a.2.tx && (a.2.state == 2 || a.2.state == 3)) && a.2.cipher == 1 && a.2.peer == fr.src
    && Nat.testBit a.2.tines.toNat ((lt [] w0).tine 0).carries) = some (3, (lt [] w0).sa 3) ∧ ((lt [] w0).returnSa 3).isSome = true) ∧
    (((lt [] w0).sa 3).kind = 0 ∧ (fr.msgs.all (msgOk 0)) = true ∧ (lt [] w0).msnSeen 3 5 = false ∧ ((lt [] w0).sa 3).msn ≤ 5) ∧
    ((wSent.judgeFrame 0 ack).2 = some 3 ∧ wSent.returnSa 3 = some 4 ∧ (wSent.sa 4).msgs = [sent] ∧ ackCovers ack sent.psn = true ∧
    sent.path = ack.path.toNat ∧ ack.ceCount = 0) ∧
    (wSent.judgeFrame 0 ack = (wSent, some 3)) ∧
    ((wGot.pathOf 3 0).sinceAck ≠ 0 ∧ (wGot.sa 3).tx = false ∧ wGot.returnSa 3 = some 4 ∧ wGot.ackTine 4 = some 0 ∧ (wGot.sa 4).cipher = 1 ∧
    (wGot.tine 0).paused = 0) := by
  refine ⟨?_, ?_, ?_, ?_, ?_, ?_⟩
  · decide +kernel
  · decide +kernel
  · decide +kernel
  · decide +kernel
  · rfl
  · decide +kernel

def readOut : RemoteReq := { sa := 4, xid := 9, kind := 0, origin := .tile 4 7, line := 4 }
def wTimer : State := { (wSent.setTile 4 { tags := [7] }) with remotes := [readOut] }
def prox : ProxySnoop := ⟨7, 3, 9, 0, 4, 2, 99, 90, 2, [{ port := 4, id := 0, ty := 2, since := 98 }], none, false, false⟩
def away1 : Txn := { snooped with snoops := [{ port := 1, chip := true, id := 9, ty := 2, since := 94 }] }
def fl : Flush := { name := 16, home := 0, start := 92, chips := [1] }

/-- A retransmit timeout with another path, a message past its deadline, a proxy's snoop past its own, a silent chip, a silent member. -/
theorem wit_TimersOfTheTransport :
    (wSent.stopped = false ∧ wSent.fatal = false ∧ (wSent.sa 4).msgs.find? (fun m => m.msn == 2 && m.sent) = some sent ∧
    (wSent.pathOf 4 sent.path).retx + 1 < wSent.retxMax ∧
    (wSent.setPath 4 0 { wSent.pathOf 4 0 with retx := 1, window := max (wSent.windowOf 4 0 / 2) 16384 }).choosePath 4 sent.msg.slice.toNat (msgBytes sent.msg) (some 0) = some 0 ∧
    (wSent.tine (0 % 64)).paused = 0) ∧
    ((wTimer.sa 4).msgs.find? (fun m => m.msn == 2 && decide (m.first + wTimer.transferDeadline ≤ wTimer.blk.tick)) = some sent ∧
    sent.msg.op = 1 ∧ readOut.xid = sent.msg.xid.toNat ∧ wTimer.portUp 4 = true ∧ (wTimer.tile 4).tags.contains 7 = true) ∧
    (Linked (lt [] w0) 3 4 sa3 sa4 ∧ prox.deadline ≤ 100 + 1 ∧ ((lt [] w0).port 4).state = 1 ∧ ((lt [] w0).port 4).errs < 3) ∧
    (94 + w0.homeTimeout.remoteTicks ≤ w0.blk.tick ∧ w0.portUp 4 = true ∧ away1.phase = .snooping ∧
    ((w0.setTile 4 { tags := [9] }).tile 4).tags.contains 9 = true) ∧
    (fl.name / 16 = 1 ∧ fl.start + 8 ≤ w0.blk.tick ∧ (w0.home 0).filter = []) := by
  refine ⟨?_, ?_, ?_, ?_, ?_⟩
  · decide +kernel
  · decide +kernel
  · unfold Linked; decide +kernel
  · decide +kernel
  · decide +kernel

def mRd : InMsg := im 1 { addr := 512, sub := 2 } false
def mWr : InMsg := im 2 { addr := 512 + 64, be := 0xFF, data := 5 } false
def mEv : InMsg := im 3 { addr := 512, sub := 0 } true
def mAt : InMsg := im 4 { addr := 512, data := 1 } false
def mCo : InMsg := im 5 { addr := 512, data := 1, count := 1, sub := 6 } false
def wEv : State := lt [mEv] ((wl true).setFilt 0 4 { st := 3, remoteOwner := some 1 })

/-- The five requests at a home that has line 4. -/
theorem wit_RequestsOverATine :
    (Linked (lt [mRd] (wl false)) mRd.sa 4 sa3 sa4 ∧ MsgTakes (lt [mRd] (wl false)) 0 0x01 mRd ∧ HomeTakes (lt [mRd] (wl false)) 4 mRd.slice mRd.fn .rd false 0 0 ∧
    (lt [mRd] (wl false)).filt 0 4 = {} ∧ (lt [mRd] (wl false)).homeData 0 4 = some (line7, 0, 3)) ∧
    (Linked (lt [mWr] (wl true)) mWr.sa 4 sa3 sa4 ∧ MsgTakes (lt [mWr] (wl true)) 0 0x02 mWr ∧ HomeTakes (lt [mWr] (wl true)) 4 mWr.slice mWr.fn .wr false 0 0 ∧
    lineOf mWr.msg.addr.toNat = 4 ∧ (lt [mWr] (wl true)).mirrored 0 = true) ∧
    (Linked wEv mEv.sa 4 sa3 sa4 ∧ MsgTakes wEv 0 0x03 mEv ∧ HomeTakes wEv 4 mEv.slice (wEv.ownAt (lineGran 4)).fn .none false 0 0 ∧
    (wEv.home 0).filter = [(4, { st := 3, remoteOwner := some 1 })] ∧ ({ st := 3, remoteOwner := some 1 } : FiltEntry).ownerAgent = some (true, 1)) ∧
    (Linked (lt [mAt] (wl true)) mAt.sa 4 sa3 sa4 ∧ MsgTakes (lt [mAt] (wl true)) 0 0x04 mAt ∧ HomeTakes (lt [mAt] (wl true)) 4 mAt.slice mAt.fn .amo false 0 0 ∧
    atomOperands (mAt.msg.data.setWidth 512) = some (1, 0, 0, false) ∧ (atomicLine line7 0 0 false 1 0).isSome = true) ∧
    (Linked (lt [mCo] w0) mCo.sa 4 sa3 sa4 ∧ MsgTakes (lt [mCo] w0) 0 0x05 mCo ∧ mCo.msg.sub.toNat ≤ 6 ∧ mCo.msg.count ≠ 0) := by
  refine ⟨?_, ?_, ?_, ?_, ?_⟩
  · unfold HomeTakes Linked MsgTakes; decide +kernel
  · unfold HomeTakes Linked MsgTakes; decide +kernel
  · unfold HomeTakes Linked MsgTakes; decide +kernel
  · unfold HomeTakes Linked MsgTakes; decide +kernel
  · unfold Linked MsgTakes; decide +kernel

def mSn : InMsg := im 8 { addr := 2 ^ 41 + 512, sub := 2, count := 103 } true
def wSn : State := lt [mSn] ((wl true).setFilt 0 (2 ^ 34 + 4) { st := 3, owner := 4 })
def mSr : InMsg := im 9 { addr := 512, sub := 8, data := 77 } true
def wSr : State := { lt [mSr] (((wl true).setTile 4 { tags := [9] }).setFilt 0 4 { st := 3, remoteOwner := some 1 }) with txns := [away1] }
def mRe : InMsg := im 10 { data := 55 } false
def wRe : State := { (lt [mRe] w0).setTile 4 { tags := [7] } with remotes := [readOut] }
def mPe : InMsg := im 11 {} false
def mFl : InMsg := im 12 { sub := 1 } false
def mFd : InMsg := im 13 { sub := 1 } true
/-- A flush whose walk has one piece left. -/
def rf : RemFlush := { chip := 1, die := 2, sa := 3, cur := 3 }
def wFlushed : State := { lt [] w0 with tin := { remoteFlushes := [rf] } }

/-- The answers and control messages, each with what waits for it. -/
theorem wit_AnswersOverATine :
    (Linked wSn mSn.sa 4 sa3 sa4 ∧ MsgTakes wSn 0 0x08 mSn ∧ (wSn.homeName (2 ^ 34 + 4)).bind wSn.physOf = some 0 ∧ lineChip (2 ^ 34 + 4) = mSn.chip ∧
    wSn.snoopOut 0 (2 ^ 34 + 4) = false ∧ lineOf mSn.msg.addr.toNat = 2 ^ 34 + 4 ∧ (wSn.filt 0 (2 ^ 34 + 4)).ownerAgent = some (false, 4) ∧
    wSn.portUp 4 = true) ∧
    (Linked wSr mSr.sa 4 sa3 sa4 ∧ MsgTakes wSr 0 0x09 mSr ∧ wSr.txns = [away1] ∧ (wSr.filt 0 4).ownerAgent = some (true, mSr.chip) ∧
    2 ≤ (wSr.filt 0 4).st ∧ wSr.portUp 4 = true ∧ (wSr.tile 4).tags.contains 9 = true) ∧
    (Linked wRe mRe.sa 4 sa3 sa4 ∧ MsgTakes wRe 0 0x0A mRe ∧ (wRe.tile 4).tags.contains 7 = true ∧ mRe.msg.status = 0 ∧ readOut.sa = 4) ∧
    (MsgTakes { lt [mPe] w0 with remotes := [{ readOut with kind := 1 }] } 0 0x0B mPe ∧ mPe.msg.sub = 0) ∧
    (MsgTakes (lt [mFl] w0) 0 0x0C mFl ∧ (lt [mFl] w0).chipLines mFl.chip (some (mFl.msg.sub.toNat % 8)) = [] ∧ (lt [mFl] w0).tin.remoteFlushes = []) ∧
    (wFlushed.tin.remoteFlushes = [rf] ∧ rf.sa = mFl.sa ∧ 1 ≤ rf.cur ∧ wFlushed.chipLines rf.chip (some rf.die) = [] ∧ Linked wFlushed 3 4 sa3 sa4) ∧
    (MsgTakes { lt [mFd] w0 with flushes := [fl] } 0 0x0D mFd ∧ fl.name / 16 = mFd.msg.sub.toNat % 8 ∧ fl.chips = [mFd.chip]) := by
  refine ⟨?_, ?_, ?_, ?_, ?_, ?_, ?_⟩
  · unfold Linked MsgTakes; decide +kernel
  · unfold Linked MsgTakes; decide +kernel
  · unfold Linked MsgTakes; decide +kernel
  · unfold MsgTakes; decide +kernel
  · unfold MsgTakes; decide +kernel
  · unfold Linked; decide +kernel
  · unfold MsgTakes; decide +kernel

def herdRec : TineRec := { use := 1, owner := 2, peerKind := 1, peerChip := 1, peerTine := 5 }
/-- The working block as chip 0 of a herd of chips 0 and 1, tine 0 leading to tine 5 of chip 1. -/
def wHerd (t : TineSt) : State :=
  { lt [] w0 with tines := [(0, t)],
                  img := { w0.img with active := { w0.img.active with tines := [(0, herdRec)], block := { herdMembers := 3 } } } }
def disc : Discovery := { chip := 1, tine := 5 }
def wLost : State := { ((wHerd {}).setTile 4 { tags := [7] }) with tin := { absent := [(1, 4)] }, remotes := [{ readOut with chip := 1 }] }

/-- A tine whose link rises, one that is due to send, one that receives its peer, one that has heard nothing, one that has failed; a member lost. -/
theorem wit_TinesAndMembers :
    ((wHerd {}).portUp (lpPort 0) = true ∧ ((wHerd {}).tine 0).state < 3 ∧ ((wHerd {}).tineRec 0).use ≠ 3 ∧ ((wHerd {}).tineRec 0).speaks = true ∧
    ((wHerd {}).tine 0).paused = 0 ∧ ((wHerd { linkUp := true, lastSent := 36 }).tine 0).paused = 0) ∧
    (((wHerd { linkUp := true, lastSent := 36 }).tine 0).lastSent + 64 ≤ w0.blk.tick) ∧
    (((wHerd { linkUp := true, state := 1 }).tineRec 0).herd = true ∧ disc.herdId = (wHerd {}).blockRec.herdId ∧ disc.chip.toNat < 8 ∧
    (wHerd {}).inHerd disc.chip.toNat = true ∧ disc.chip.toNat ≠ (wHerd {}).chip ∧ disc.tine.toNat = ((wHerd {}).tineRec 0).peerTine ∧
    disc.chip.toNat = ((wHerd {}).tineRec 0).peerChip ∧ ((wHerd { linkUp := true, state := 1 }).tine 0).carries = 0) ∧
    (((wHerd { linkUp := true, state := 2 }).tine 0).seenTick + 192 ≤ 192 ∧ ({ wHerd { linkUp := true, state := 2 } with blk := { tick := 192 } } : State).blk.tick = 192) ∧
    (((wHerd { state := 3, goodTicks := 16 }).unit (tinUnit 0)).failed = false ∧ ((wHerd {}).unit (tinUnit 0)).offlineAt = none) ∧
    (wLost.inHerd 1 = true ∧ tget 0 wLost.tin.absent 1 ≥ 4 ∧ Nat.testBit wLost.tin.lost.toNat 1 = false ∧ (wLost.tile 4).tags.contains 7 = true ∧ wLost.txns = [] ∧ wLost.flushes = [] ∧
    ∀ h, h < 136 → (wLost.home h).filter = []) := by
  refine ⟨?_, ?_, ?_, ?_, ?_, ?_⟩ <;> decide +kernel

/-- Tine 0 up to chip 1, which has joined. -/
def upTo1 : TineSt := { state := 2, linkUp := true, matching := true, seenChip := 1, seenTine := 5, seenJoined := true, seenTick := 100, macRel := some 0 }
def wTime (t : TinState) (b : Blk) : State :=
  { wHerd upTo1 with tin := t, blk := { b with timebaseOk := true, tickRunning := true, tick := 100 }, fncs := [] }
def exch (e : Exchange) : Exchange := { e with num := 3, tine := 0 }
def e0 : Exchange := { num := 3, tine := 0, tick := 98 }
def wLow : State := { wTime { firstUp := some 0 } {} with blk := { tick := 256 }, tines := [(0, { upTo1 with seenJoined := false })] }

/-- A follower that asks, the reference that answers, a stamp, the two ways an exchange closes, one dropped, the joins. -/
theorem wit_TickAlignment :
    ((wTime { lastReq := 96 } {}).refOf = some (1, false) ∧ (wTime { lastReq := 96 } {}).timeTo 1 = some 0 ∧ 96 + 4 ≤ (wTime {} {}).blk.tick ∧
    (wTime { lastReq := 96 } {}).txPaused 0 (wTime { lastReq := 96 } {}).tin.ctlPrio = false) ∧
    ((wTime { joined := true } {}).refOf = some (0, true) ∧ (wTime { joined := true } {}).takesTime 0 false = true ∧
    (wTime { joined := true } {}).txPaused 0 (wTime { joined := true } {}).tin.ctlPrio = false) ∧
    ((wTime { exchanges := [e0] } {}).tin.answers = [] ∧ (wTime { exchanges := [e0] } {}).tin.exchanges = [e0] ∧ e0.num % 256 = (3 : BitVec 8).toNat) ∧
    (((wTime {} {}).tine 0).macRel = some 0 ∧ (wTime {} {}).takesTime 0 false = true) ∧
    (98 + 2 ≤ (wTime {} {}).blk.tick) ∧
    ((wTime {} { offsetTick := some 99 }).tin.joined = false ∧ (wTime {} { offsetTick := some 99 }).blk.offsetTick ≠ none ∧
    (wTime {} { offsetTick := some 99 }).tenantEnabled = false ∧ (wTime {} {}).refOf = some (1, false)) ∧
    (wLow.tin.firstUp = some 0 ∧ wLow.lowestMember = true ∧ wLow.refOf = none ∧ 0 + 256 ≤ wLow.blk.tick) := by
  refine ⟨?_, ?_, ?_, ?_, ?_, ?_, ?_⟩ <;> decide +kernel

def wSa (c : Option (Nat × Nat)) (st : Nat) : State := { w0 with tin := { saPending := c }, sas := [(7, { state := st, stateTick := 84 })] }

/-- No command pending, one pending, a slot RETIRING and one QUARANTINED for 16 ticks. -/
theorem wit_SaSlotLife :
    ((wSa none 3).MgOpen false ∧ (wSa none 3).tin.saPending = none ∧ (wSa (some (7, 1)) 3).tin.saPending ≠ none) ∧
    (((wSa none 3).sa 7).state = 3 ∧ ((wSa none 3).sa 7).stateTick + 16 ≤ (wSa none 3).blk.tick) ∧
    (((wSa none 4).sa 7).state = 4 ∧ ((wSa none 4).sa 7).stateTick + 16 ≤ (wSa none 4).blk.tick) := by
  refine ⟨?_, ?_, ?_⟩
  · unfold State.MgOpen; decide +kernel
  · decide +kernel
  · decide +kernel

/-- The working block with view 1 as `v`, function 1 with 4 context slots. -/
def wView (v : View) : State := { w0 with views := [(1, v)], fncs := [(1, { slice := 2, state := 2, ctxSlots := 4 })] }
/-- Context 9 of function 1 in a state, and a command pending for it. -/
def wCtx (op st slot slots : Nat) : State :=
  { wView { ctxPending := some (op, 9, 0, 77) } with
    ctxs := w0.ctxs ++ [(9, { state := st, slot := slot, fn := 1, slice := 2, key := 5 })], fncs := [(1, { slice := 2, state := 2, ctxSlots := slots })] }

/-- Nothing pending, and a context and an object command pending. -/
theorem wit_ContextAndObjectCommandsPend :
    ((wView {}).HostOpen 1 9 ∧ ((wView {}).view 1).ctxPending = none ∧ ((wView {}).view 1).objPending = none ∧ (wView {}).isMirror = false) ∧
    (((wView { ctxPending := some (1, 0, 0, 3) }).view 1).ctxPending ≠ none) ∧
    (((wView { objPending := some (1, 0, 0, 0, 3) }).view 1).objPending ≠ none) := by
  refine ⟨?_, ?_, ?_⟩
  · unfold State.HostOpen; decide +kernel
  · decide +kernel
  · decide +kernel

/-- LOAD of an idle context with room and without, DESTROY, a command of a function being reset. -/
theorem wit_ContextCommandsApplied :
    (((wCtx 2 1 127 2).view 1).ctxPending = some (2, 9, 0, 77) ∧ field (9 : Reg) 0 16 = 9 ∧ (wCtx 2 1 127 2).portUp hostPort = true ∧
    ((wCtx 2 1 127 2).ctx 9).state = 1 ∧ (wCtx 2 1 127 2).ctxLost 9 = false ∧ ((wCtx 2 1 127 2).qsl 2).loadRate = 0 ∧
    (wCtx 2 1 127 2).residentOf 1 < 2 ∧ (wCtx 2 1 127 2).freeSlotNo = some 1) ∧
    (1 ≤ (wCtx 2 1 127 1).residentOf 1) ∧
    (((wCtx 5 1 127 4).ctx 9).state = 1 ∧ 96 ≤ ((wCtx 5 1 127 4).ctx 9).slot) ∧
    (({ wCtx 2 1 127 4 with fncs := [(1, { slice := 2, state := 5 })] } : State).fnc 1 = { slice := 2, state := 5 }) := by
  refine ⟨?_, ?_, ?_, ?_⟩ <;> decide +kernel

def wObj : State := { w0 with objs := [(5, { state := 2, fn := 1, gen := 1, first := 0, count := 1, freedAt := 99 })], fpages := [(0, { owner := 1 })],
                              ctxs := [(3, { state := 2, slot := 0, fn := 1, slice := 2, key := 5, fencePages := 1 })] }

/-- A freed object with nothing left in a home; a slot whose context holds a fence page; the last record of the page. -/
theorem wit_ObjectsFencesAndUsage :
    ((wObj.obj 5).state = 2 ∧ (wObj.obj 5).freedAt < wObj.blk.tick ∧ wObj.rangeQuiet 0 1 99 = true) ∧
    (wObj.HostOpen 1 9 ∧ (wObj.fnc 1).state ≠ 0) ∧
    ((wObj.slot 0).ctx = some 3 ∧ (wObj.ctx 3).fn = 1 ∧ (wObj.slot 0).armed = false ∧ wObj.ctxLost 3 = false ∧ wObj.armStatus 3 255 = .ok) ∧
    (wObj.MgOpen false ∧ wObj.flt.fatal = none) := by
  refine ⟨?_, ?_, ?_, ?_⟩
  · decide +kernel
  · unfold State.HostOpen; decide +kernel
  · decide +kernel
  · unfold State.MgOpen; decide +kernel

def wTest : State := { w0 with test := { factory := true } }
def msg (u kind cls : Nat) : Msg := mkMsg u kind cls 3 u 0 0 100
def wAgg (m : Msg) : State := { w0 with flt := { aggs := [(2, [m])] } }
def wFlip : State :=
  { wMir with test := { factory := true } }

/-- Injections inside FACTORY_TEST; a message at the head of an aggregator; an alert that may be released; a dump that is due and one that is written. -/
theorem wit_FaultCollector :
    (wTest.MgOpen true ∧ wTest.injectOn = true ∧ ((0x4F : BitVec 8).toNat ∈ ceOnly ∨ (0x4F : BitVec 8).toNat ∈ cuKinds) ∧
    (tget [] wTest.flt.aggs (dieOfUnit (hslUnit 135))).length < 64) ∧
    (4 ≤ (wAgg (msg 256 0x4F 1)).fawn.phase ∧ tget [] (wAgg (msg 256 0x4F 1)).flt.aggs 2 = [msg 256 0x4F 1] ∧
    ((wAgg (msg 256 0x4F 1)).kindCfg (msgKind (msg 256 0x4F 1))).ceLimit = 0 ∧ (wAgg (msg 256 0x4F 1)).flt.hist = []) ∧
    (({ w0 with flt := { minClass := 1 } } : State).flt.first = none ∧ 1 ≤ msgClass (msg 256 0x4F 1)) ∧
    (({ w0 with flt := { low := true, alertTick := 97 } } : State).flt.hold = false ∧ 97 + 3 ≤ w0.blk.tick) ∧
    (wFlip.MgOpen true ∧ wFlip.injectOn = true ∧ hslUnit 0 < 4096 ∧ (64 * 256) % 256 = 0 ∧ 64 * 256 / 256 % 2 ^ 20 = 64 ∧
    mget? (wFlip.home 0).lines 64 = some { line := 4, slice := 2, key := 5, data := line7, dirty := true } ∧ wFlip.buddy 0 = some 1 ∧
    (mget? (wFlip.home 1).mirror 4).isSome = true ∧ (wFlip.home 0).tagErrs = []) ∧
    (({ w0 with flt := { dump := 1 } } : State).flt.dump = 1 ∧ ({ w0 with flt := { dump := 1, dumpBytes := [1] } } : State).flt.dumpBytes ≠ []) := by
  refine ⟨?_, ?_, ?_, ?_, ?_, ?_⟩
  · unfold State.MgOpen; decide +kernel
  · decide +kernel
  · decide +kernel
  · decide +kernel
  · unfold State.MgOpen; decide +kernel
  · decide +kernel

def wDecl (m : List Msg) (s : State) : State := { s with flt := { s.flt with undeclared := m } }
def wBuddyGone : State := { wDecl [msg (hslUnit 0) 0x4F 1] w0 with homes := [(1, { role := 3 })] }
def wStack : State := { w0 with ports := [(256, { state := 2 }), (337, up)] }
def wTineF : State := { (wDecl [msg (tinUnit 2) 0xC8 1] w0) with tines := [(2, { state := 3 })] }
def wKeyE : State := wDecl [msg (unitId 6 3) 0xAC 1] w0
def wJobE : State := wDecl [msg (jobUnit 2) 0x54 1] w0

/-- A home slice that has not failed, one whose failure is to be declared, an isolated memory port, a failed tine, key engine and job engine. -/
theorem wit_FailuresAreDeclared :
    ((w0.unit (hslUnit 135)).failed = false ∧ (tget [] w0.flt.aggs (dieOfUnit (hslUnit 135))).length < 64 ∧ (hslUnit 135) < 4096) ∧
    (wBuddyGone.flt.undeclared = [msg (hslUnit 0) 0x4F 1] ∧ msgKind (msg (hslUnit 0) 0x4F 1) = 0x4F ∧ msgClass (msg (hslUnit 0) 0x4F 1) = 1 ∧
    msgUnit (msg (hslUnit 0) 0x4F 1) = hslUnit 0 ∧ (wBuddyGone.home 0).role = 0 ∧ wBuddyGone.physOf (0 ^^^ 1) = none ∧
    (wBuddyGone.findSpare 0).isSome = true ∧ wBuddyGone.txns = [] ∧ wBuddyGone.rw.windows = [] ∧ wBuddyGone.flt.recs = []) ∧
    (wStack.flt.undeclared = [] ∧ wStack.stackLost 0 = false ∧ (wStack.port (mpPort 0)).state = 2 ∧ wStack.freeRec = some 0 ∧
    (wStack.mp 0).tags = [] ∧ (wStack.mp 0).waiting = []) ∧
    (msgKind (msg (tinUnit 2) 0xC8 1) = 0xC8 ∧ msgUnit (msg (tinUnit 2) 0xC8 1) = tinUnit 2 ∧ wTineF.inRecovery (tinUnit 2) = false ∧
    (wTineF.tine 2).state = 3 ∧ wTineF.freeRec = some 0 ∧ wTineF.sas = []) ∧
    (msgUnit (msg (unitId 6 3) 0xAC 1) = unitId 6 (1 + 2) ∧ wKeyE.inRecovery (unitId 6 (1 + 2)) = false ∧ wKeyE.engineUp (1 + (2 ^^^ 1)) = true ∧
    wKeyE.freeRec = some 0 ∧ msgClass (msg (unitId 6 3) 0xAC 1) ≠ 3) ∧
    (msgUnit (msg (jobUnit 2) 0x54 1) = jobUnit 2 ∧ (wJobE.engine 2).offline = false ∧ wJobE.startedOn 2 = [] ∧ wJobE.freeRec = some 0) := by
  refine ⟨?_, ?_, ?_, ?_, ?_, ?_⟩ <;> decide +kernel

def rc (step : Nat) (left : List Nat) : Recovery := { state := 1, kind := 1, unit := 256, name := 0, step := step, spare := some 132, left := left }
def wRec (r : Recovery) : State :=
  { w0 with homes := [(0, { role := 4 }), (1, { mirror := [(4, { slice := 2, key := 5, data := 9 })] }), (132, { role := 2, standsFor := 0, mirrorOk := true })],
            flt := { recs := [(0, r)] } }
def flS : Flush := { name := 0, home := 132, start := 90, standIn := true }
def wServe : State := { wRec (rc 4 []) with flushes := [flS] }
def r6 : Recovery := { state := 1, kind := 6, unit := tinUnit 1, step := 1, age := 8 }

/-- A mirror entry to copy, a stand-in whose flush is answered, a recovery at its budget, the unit commands, a planned OFFLINE of a tine. -/
theorem wit_RecoverySteps :
    ((wRec (rc 3 [4])).Working ∧ (wRec (rc 3 [4])).physOf (0 ^^^ 1) = some 1 ∧ mget? ((wRec (rc 3 [4])).home 1).mirror 4 = some { slice := 2, key := 5, data := 9 } ∧
    (wRec (rc 3 [4])).keyLive 5 = true ∧ ((wRec (rc 3 [4])).home 132).lines = [] ∧ ((wRec (rc 3 [4])).home 132).role = 2 ∧
    ((wRec (rc 3 [4])).pickWay 132 (setOf 4) 2).isSome = true) ∧
    (wServe.Working ∧ wServe.flt.recs = [(0, rc 4 [])] ∧ (wServe.home 132).role = 2 ∧ wServe.flushes = [flS] ∧ flS.name = (rc 4 []).name) ∧
    (((wRec { rc 4 [] with age := (rc 4 []).budget }).recAt 0).budget ≤ ((wRec { rc 4 [] with age := (rc 4 []).budget }).recAt 0).age ∧
    (tget [] (wRec (rc 4 [])).flt.aggs (dieOfUnit fltUnit)).length < 64) ∧
    (w0.MgOpen true ∧ w0.flt.unitCmd = none ∧ w0.flt.unitRunning = false) ∧
    (({ w0 with flt := { unitCmd := some (1, 770) } } : State).flt.unitCmd ≠ none) ∧
    (({ w0 with flt := { recs := [(0, r6)] } } : State).Working ∧ 8 ≤ r6.age ∧ r6.unit / 256 = 3) := by
  refine ⟨?_, ?_, ?_, ?_, ?_, ?_⟩
  · unfold State.Working; decide +kernel
  · unfold State.Working; decide +kernel
  · decide +kernel
  · unfold State.MgOpen; decide +kernel
  · decide +kernel
  · unfold State.Working; decide +kernel

def wPhase (p : Nat) (f : Fawn) : State := { w0 with fawn := { f with phase := p } }

/-- Each phase of a cold start that a command ends. -/
theorem wit_ColdStart :
    ((wPhase 1 {}).fawn.phase ≤ 1 ∧ (wPhase 1 {}).blk.power ≠ 3 ∧ (wPhase 1 {}).fawn.fabricGood = false ∧ (wPhase 2 {}).fawn.phase = 2) ∧
    ((wPhase 3 { fabricGood := true }).fawn.boot.repair = none) ∧
    ((wPhase 6 { fabricGood := true }).fatal = false ∧ (wPhase 6 {}).blockRec.pairRole = 0) := by
  refine ⟨?_, ?_, ?_⟩ <;> decide +kernel

def wFw (p st : Nat) (f : Fawn) : State := { w0 with fawn := { f with phase := p, fwState := st, fabricGood := true, fclkStable := true } }

/-- Each state of the firmware window that a command needs; the last 8 bytes of staging; a failing check; a handover that is due; 16 ticks of silence. -/
theorem wit_Firmware :
    ((wFw 7 0 {}).MgOpen true ∧ (wFw 7 1 {}).MgOpen true ∧ (wFw 4 3 {}).MgOpen true ∧ (65536 - 8) + 8 ≤ 65536) ∧
    ((wFw 7 3 { fwTick := 102 }).MgOpen true ∧ w0.blk.tick + 2 ≤ (wFw 7 3 { fwTick := 102 }).fawn.fwTick ∧ (wFw 7 4 {}).MgOpen true) ∧
    ((wFw 7 2 {}).fawn.fwState = 2 ∧ (fwFault []).isSome = true) ∧
    ((wFw 7 4 { fwTick := 100 }).fawn.fwState = 4 ∧ (wFw 7 4 { fwTick := 100 }).fawn.fwTick ≤ w0.blk.tick) ∧
    ((wFw 7 5 { running := true, missed := 16, prevDigest := some 3 }).fawn.prevDigest = some 3 ∧ (wFw 7 5 { running := true }).fawn.running = true) ∧
    ((wFw 7 0 { running := true, missed := 16 }).fawn.fwState ≠ 5 ∧ (tget [] w0.flt.aggs (dieOfUnit fwnUnit)).length < 64) := by
  refine ⟨?_, ?_, ?_, ?_, ?_, ?_⟩
  · unfold State.MgOpen; decide +kernel
  · unfold State.MgOpen; decide +kernel
  · decide +kernel
  · decide +kernel
  · decide +kernel
  · decide +kernel

def wDoze (f : Fawn) (p : Nat) (m : MemPort) : State :=
  { w0 with fawn := { f with phase := 7, fabricGood := true }, blk := { power := p, tick := 100, timebaseOk := true, tickRunning := true }, mem := [(0, m)] }

/-- A request; an entry 4 ticks old with and without the acknowledgement; the wakes; the requests of the power-control port. -/
theorem wit_PowerStates :
    (w0.MgOpen false) ∧
    ((wDoze { dozeAt := some 96 } 2 { srReq := true }).fawn.dozeAt = some 96 ∧ 96 + 4 ≤ (wDoze {} 2 {}).blk.tick ∧
    (∀ k, k < 16 → (wDoze {} 2 { srReq := true }).portUp (mpPort k) = true →
    ((wDoze {} 2 { srReq := true }).mp k).srReq = true ∧ (1 : BitVec 16).getLsbD k = true)) ∧
    (((wDoze {} 2 { srReq := true }).mp 0).srReq = true ∧ (wDoze {} 2 { srReq := true }).portUp (mpPort 0) = true ∧ (0 : BitVec 16).getLsbD 0 = false) ∧
    ((wDoze {} 1 {}).wakeEnabled .effecter = true ∧ (wDoze {} 1 {}).fawn.waking = none ∧ ((wDoze {} 1 {}).port pcPort).state ≠ 2 ∧ (wDoze {} 0 {}).wakeEnabled .mgRequest = true) ∧
    ((wDoze { timerWake := true, wakeTick := 100 } 1 {}).wakeEnabled .timer = true) ∧
    ((wDoze { waking := some 98 } 1 {}).fawn.waking ≠ none ∧ (wDoze { waking := some 98 } 1 {}).blk.fclkChange = none) ∧
    (w0.pointOk (8 : BitVec 4).toNat = true ∧ w0.blk.power ≠ 3 ∧ w0.fawn.pcReg ≠ 1 ∧ (w0.port pcPort).state ≠ 2) ∧
    (({ w0 with blk := { w0.blk with fclkWanted := some 8 } } : State).mayChange = true ∧ 8 ≠ w0.blk.fclkPoint) := by
  refine ⟨?_, ?_, ?_, ?_, ?_, ?_, ?_, ?_⟩
  · unfold State.MgOpen; decide +kernel
  · decide +kernel
  · decide +kernel
  · decide +kernel
  · decide +kernel
  · decide +kernel
  · decide +kernel
  · decide +kernel

/-- The working block as a primary (1) or mirror (2), tine 0 its mirror tine. -/
def wPair (role : Nat) (p : PairSt) : State :=
  { w0 with ports := w0.ports.filter (·.1 < 272) ++ [(272, up)] ++ w0.ports.filter (·.1 > 272),
            img := { w0.img with active := { w0.img.active with block := { pairRole := role, tineA := 0, tineB := 1 } } },
            tines := [(0, { state := 2, linkUp := true })],
            sas := [(3, { cfg := 0x1022 + 2 ^ 25, state := 2, tines := 1 }), (4, { cfg := 0x1023 + 2 ^ 25, state := 2, tines := 1 })], pair := p }
def rx : RxSet := { tick := 6, frames := [(0, [])], lastIndex := some 0 }
def mf : MirrorFrame := { setTick := 99, last := true }
def mfr : Frame := { etype := 0x88B5, mirror := some mf }

/-- No command pending and one; a closed set to send; a frame at the primary and at the mirror; a set to apply; the watches. -/
theorem wit_MirroredPair :
    ((wPair 1 {}).MgOpen false ∧ (wPair 1 {}).pair.pending = none ∧ (wPair 1 { pending := some 1 }).pair.pending ≠ none) ∧
    ((wPair 1 { state := 3, changes := [(99, [{}])] }).mirroring = true ∧ (wPair 1 {}).mirrorTines = [0] ∧ (wPair 1 {}).pairSaUp true = true ∧
    (wPair 1 {}).pairSa = some 4 ∧ PairSends (wPair 1 {}) 0 4) ∧
    ((wPair 2 { state := 3, lastSet := 98 }).judgeFrame 0 mfr = (wPair 2 { state := 3, lastSet := 98 }, some 3) ∧ mfr.mirror = some mf ∧
    ((wPair 2 {}).sa 3).kind = 2 ∧ (wPair 2 {}).mirrorTines.contains 0 = true ∧ (wPair 2 {}).fatal = false) ∧
    ((wPair 1 { state := 3 }).judgeFrame 0 mfr = (wPair 1 { state := 3 }, some 3)) ∧
    ((wPair 2 { state := 3, lastSet := 98 }).pair.lastSet < mf.setTick.toNat ∧ mf.last = true ∧ mf.index = 0) ∧
    (rx.tick = (wPair 2 { state := 3, lastSet := 5, rxSets := [rx] }).pair.lastSet + 1 ∧ rx.complete = true ∧ rx.ends = false ∧ rx.recs = []) ∧
    ((wPair 2 { state := 3, lastSet := 94 }).pair.lastSet + 6 ≤ w0.blk.tick ∧ (tget [] w0.flt.aggs (dieOfUnit pairUnit)).length < 64) ∧
    ((wPair 1 { state := 3, lastFrameTick := 95 }).pair.lastFrameTick + 5 ≤ w0.blk.tick ∧
    (wPair 2 { state := 3, lastSetTick := 95 }).pair.lastSetTick + 5 ≤ w0.blk.tick) := by
  refine ⟨?_, ?_, ?_, ?_, ?_, ?_, ?_, ?_⟩
  · unfold State.MgOpen; decide +kernel
  · unfold PairSends; decide +kernel
  · decide +kernel
  · decide +kernel
  · decide +kernel
  · decide +kernel
  · decide +kernel
  · decide +kernel

def tr (k : Nat) : TraceRec := ⟨0, BitVec.ofNat 64 k, 1, 2, 3⟩
def wSink : State :=
  { wl true with sink := [tr 1, tr 2, tr 3, tr 4], slots := [(0, { ctx := some 3, trace := { base := 512, enable := true } })] }

/-- A slot's control, four records of a slot whose line its home has, a graph asked for and one being assembled. -/
theorem wit_TracesAndGraphs :
    (w0.HostOpen 1 9 ∧ w0.slotOf 1 0 = some 3) ∧
    (wSink.Working ∧ (wSink.slot 0).ctx = some 3 ∧ (wSink.slot 0).trace.on = true ∧ (∀ r ∈ wSink.sink, r.slot = 0) ∧
    (wSink.slot 0).trace.offset + 128 < 2 ^ (wSink.slot 0).trace.sizeLog2) ∧
    (HomeTakes wSink 4 2 1 .wr false 0 0 ∧ wSink.filt 0 4 = {} ∧ wSink.mirrored 0 = true ∧ wSink.keyLive 5 = true) ∧
    (w0.MgOpen false ∧ w0.inService = true ∧ w0.flt.dump ≠ 3) ∧
    (({ w0 with obs := { wfgState := 1 } } : State).obs.wfgState = 1) := by
  refine ⟨?_, ?_, ?_, ?_, ?_⟩
  · unfold State.HostOpen; decide +kernel
  · unfold State.Working; decide +kernel
  · unfold HomeTakes; decide +kernel
  · unfold State.MgOpen; decide +kernel
  · decide +kernel

def wStop (o : Obs) (p : Nat) : State := { w0 with obs := o, fawn := { w0.fawn with phase := p } }
/-- A management request with good parity, and one with bad data parity. -/
def mgq (r : MgReq) : MgReq :=
  let r := if mgDparOk r then r else { r with dpar := !r.dpar }
  if mgCparOk r then r else { r with cpar := !r.cpar }
def badq (r : MgReq) : MgReq := { mgq r with dpar := !(mgq r).dpar }

/-- A trigger that has fired in SERVICE and below it, a tick trigger, a stop, its release after max_ticks. -/
theorem wit_GlobalStops :
    ((wStop { stopState := 1, fired := true } 7).stopFires = true ∧ (wStop { stopState := 1, fired := true } 7).inService = true ∧
    (wStop { stopState := 1, fired := true } 7).fatal = false) ∧
    ((wStop { stopState := 1, tickEn := true, stopTick := 100 } 6).stopFires = true ∧ (wStop {} 6).inService = false) ∧
    ((wStop { stopState := 3 } 7).MgOpen false ∧ (wStop { stopState := 3 } 7).stopped = true) ∧
    ((wStop { stopState := 3, maxTicks := 4, stopAt := 96 } 7).stopExpired = true) := by
  refine ⟨?_, ?_, ?_, ?_⟩
  · decide +kernel
  · decide +kernel
  · unfold State.MgOpen; decide +kernel
  · decide +kernel

/-- Requests with good and bad parity: aligned, of a wrong alignment, in phase 3, reads of both sizes; Fawn's window and another; the board's fields. -/
theorem wit_RegisterWrites :
    (w0.portUp mgPort = true ∧ 3 ≤ w0.fawn.phase ∧ w0.mgWaits true 0x10 = false ∧ 0x10 % 8 = 0 ∧ 0x11 % 8 ≠ 0 ∧ (w0.port mgPort).errs < 3) ∧
    (mgCparOk (mgq { addr := 0x10, wdata := 0x800 }) = true ∧ mgDparOk (mgq { addr := 0x10, wdata := 0x800 }) = true ∧
    mgCparOk (mgq { addr := 0x11 }) = true ∧ mgDparOk (mgq { addr := 0x11 }) = true) ∧
    (mgCparOk (badq { addr := 0x10 }) = true ∧ mgDparOk (badq { addr := 0x10 }) = false) ∧
    ((wPhase 3 {}).fawn.phase = 3 ∧ (wPhase 3 {}).portUp mgPort = true) ∧
    (mgCparOk (mgq { write := false, addr := 0 }) = true ∧ mgCparOk (mgq { write := false, wide := false, addr := 4 }) = true) ∧
    (mgCparOk { mgq {} with cpar := !(mgq {}).cpar } = false ∧ (mgWindow 0x10).1 ≠ 13 ∧ mgWindow 0xF00020 = (12, 0x20) ∧ mgWindow 0x1000020 = (13, 0x20)) ∧
    (field (0x800 : Reg) 8 4 ≤ 8 ∧ field (0x100 : Reg) 8 2 < 2 ∧ bit (0x10000 : Reg).toNat 16 = true) := by
  refine ⟨?_, ?_, ?_, ?_, ?_, ?_, ?_⟩ <;> decide +kernel

def wArmed (st n : Nat) : State := { w0 with fences := [(7, { state := st, armer := 3, pending := n, value := 5 })] }
def wRepeat : State := { w0 with flt := { aggs := [(2, [msg 256 0x4F 1])], hist := [msg 256 0x4F 1] } }

/-- The last completion of an armed fence, and one of several. -/
theorem wit_FenceCompletesOk :
    ((wArmed 1 1).fatal = false ∧ ((wArmed 1 1).fence 7).state ≠ 3 ∧ 0 < ((wArmed 1 1).fence 7).pending) ∧
    (((wArmed 1 255).fence 7).state ≠ 3 ∧ ((wArmed 1 255).fence 7).pending ≠ 1) := by
  refine ⟨?_, ?_⟩ <;> decide +kernel

/-- A message in the history whose like is at the head of an aggregator. -/
theorem wit_RepeatedMessagesAreOne :
    4 ≤ wRepeat.fawn.phase ∧ tget [] wRepeat.flt.aggs 2 = [msg 256 0x4F 1] ∧ (wRepeat.kindCfg (msgKind (msg 256 0x4F 1))).ceLimit = 0 ∧
    wRepeat.flt.hist = [msg 256 0x4F 1] := by
  decide +kernel

/-- A parked block, and a block with power. -/
theorem wit_ParkHoldsTheClass :
    ({ w0 with blk := { w0.blk with parked := true } } : State).blk.parked = true ∧ w0.blk.power ≠ 3 := by
  decide +kernel

/-! ### Hypotheses about bytes that carry a digest -/

theorem leNat_leBytes (k : Nat) : ∀ v, leNat (leBytes v k) = v % 256 ^ k := by
  induction k with
  | zero => intro v; simp [leBytes, leNat, Nat.mod_one]
  | succ k ih =>
    intro v
    have e : 256 ^ (k + 1) = 256 * 256 ^ k := Nat.pow_succ'
    show (BitVec.ofNat 8 v).toNat + 256 * leNat (leBytes (v / 256) k) = _
    rw [ih, BitVec.toNat_ofNat, e, Nat.mod_mul]

theorem leBytes_length (k : Nat) : ∀ v, (leBytes v k).length = k := by
  induction k with
  | zero => intro v; rfl
  | succ k ih => intro v; simp [leBytes, ih]

theorem leNat_digest (d : Digest) : leNat (leBytes d.toNat 48) = d.toNat := by
  rw [leNat_leBytes]
  refine Nat.mod_eq_of_lt (Nat.lt_of_lt_of_le d.isLt ?_)
  rw [show (384 : Nat) = 8 * 48 from rfl, Nat.pow_mul]

/-- A hoofprint: its header, zeros, and its digest. -/
def hoofBody : List Byte := leBytes 0x464F4F48 4 ++ leBytes 1 2 ++ leBytes 3577 2 ++ List.replicate 1496 0
def hoof : List Byte := hoofBody ++ leBytes (Config.sha384 hoofBody).toNat 48

/-- A hoofprint that passes its checks. -/
theorem wit_hoofOk : hoofOk hoof = true := by
  have h0 : hoofBody.length = 0x5E0 := by decide +kernel
  have h1 : hoof.take 0x5E0 = hoofBody := by unfold hoof; rw [List.take_append_of_le_length (by omega), List.take_of_length_le (by omega)]
  have h2 : slice hoof 0x5E0 48 = leBytes (Config.sha384 hoofBody).toNat 48 := by
    unfold slice hoof
    rw [List.drop_append_of_le_length (by omega), List.drop_of_length_le (by omega), List.nil_append, List.take_of_length_le (by rw [leBytes_length])]
  have h3 : hoof.length = 1552 := by unfold hoof; rw [List.length_append, leBytes_length, h0]
  have h4 : leAt hoof 0 4 = 0x464F4F48 ∧ leAt hoof 4 2 = 1 ∧ leAt hoof 6 2 = 3577 := ⟨rfl, rfl, rfl⟩
  unfold hoofOk
  rw [h1, h2, h3, h4.1, h4.2.1, h4.2.2, leNat_digest]
  simp

/-- A firmware image that passes its checks. -/
def fwBody : List Byte := leBytes 0x4E574146 4 ++ leBytes 1 2 ++ [0, 0] ++ leBytes 0x50 4 ++ List.replicate 4 0 ++ [0, 3] ++ List.replicate 14 0
def fwImage : List Byte := fwBody ++ leBytes (Config.sha384 fwBody).toNat 48

theorem wit_fwFault : fwFault fwImage = none := by
  have h0 : fwBody.length = 32 := by decide +kernel
  have h1 : fwImage.take 32 = fwBody := by unfold fwImage; rw [List.take_append_of_le_length (by omega), List.take_of_length_le (by omega)]
  have h2 : slice fwImage 32 48 = leBytes (Config.sha384 fwBody).toNat 48 := by
    unfold slice fwImage
    rw [List.drop_append_of_le_length (by omega), List.drop_of_length_le (by omega), List.nil_append, List.take_of_length_le (by rw [leBytes_length])]
  have h3 : fwImage.length = 80 := by unfold fwImage; rw [List.length_append, leBytes_length, h0]
  have h4 : leAt fwImage 0 4 = 0x4E574146 ∧ leAt fwImage 4 2 = 1 ∧ leAt fwImage 6 2 = 0 ∧ leAt fwImage 8 4 = 0x50 ∧ leAt fwImage 0x12 6 = 0 ∧
    leAt fwImage 0x11 1 = 3 ∧ leAt fwImage 0x10 1 = 0 := ⟨rfl, rfl, rfl, rfl, rfl, rfl, rfl⟩
  unfold fwFault
  simp only [h1, h2, h3, h4.1, h4.2.1, h4.2.2.1, h4.2.2.2.1, h4.2.2.2.2.1, h4.2.2.2.2.2.1, h4.2.2.2.2.2.2, leNat_digest]
  simp

/-- A configuration whose system region is guarded, and the delta over it that changes nothing. -/
def cfgA : ImgCfg :=
  { block := { ownBase := 2 ^ 21, dirtyBase := 5 * 2 ^ 21, ctxBase := 2 ^ 24, dumpBase := 2 ^ 27 },
    stackTab := (List.range 16).map fun p => (p, { use := 0, populated := 8 }), runs := [⟨0, 128, 0, true⟩] }
def deltaHead : List Byte :=
  leBytes 0x4E584947 4 ++ leBytes 1 2 ++ [1, 0] ++ leBytes 184 4 ++ leBytes 0 4 ++ [0, 3] ++ List.replicate 6 0 ++ leBytes 300 8 ++ leBytes 4 2 ++ List.replicate 6 0
def deltaBody : List Byte := deltaHead ++ List.replicate 48 0 ++ leBytes cfgA.digest.toNat 48
def delta : List Byte := deltaBody ++ leBytes (Config.sha384 deltaBody).toNat 48
def wDelta : State := { w0 with img := { state := 2, staging := delta, active := cfgA } }

/-- A delta that passes its checks. -/
theorem wit_imgCheck : ∃ d, wDelta.imgCheck = .ok d := by
  have h0 : deltaHead.length = 40 := by decide +kernel
  have hb : deltaBody.length = 136 := by unfold deltaBody; simp only [List.length_append, leBytes_length, h0, List.length_replicate]
  have h3 : delta.length = 184 := by unfold delta; rw [List.length_append, leBytes_length, hb]
  have h1 : delta.take 136 = deltaBody := by unfold delta; rw [List.take_append_of_le_length (by omega), List.take_of_length_le (by omega)]
  have h2 : leAt delta 136 48 = (Config.sha384 deltaBody).toNat := by
    unfold leAt slice delta
    rw [List.drop_append_of_le_length (by omega), List.drop_of_length_le (by omega), List.nil_append, List.take_of_length_le (by rw [leBytes_length]), leNat_digest]
  have h4 : leAt delta 88 48 = cfgA.digest.toNat := by
    have hd : deltaBody.drop 88 = leBytes cfgA.digest.toNat 48 := by
      unfold deltaBody
      rw [List.drop_append_of_le_length (by simp [h0]), List.drop_of_length_le (by simp [h0]), List.nil_append]
    unfold leAt slice delta
    rw [List.drop_append_of_le_length (by omega), hd, List.take_append_of_le_length (by rw [leBytes_length]),
      List.take_of_length_le (by rw [leBytes_length]), leNat_digest]
  have hz : leAt delta 0x28 48 = 0 := rfl
  have hh : headerFail delta (some 0) = none := by
    unfold headerFail
    have e : leAt delta 0 4 = 0x4E584947 ∧ leAt delta 4 2 = 1 ∧ leAt delta 6 1 = 1 ∧ leAt delta 7 1 = 0 ∧ leAt delta 8 4 = 184 ∧
      leAt delta 0x12 6 = 0 ∧ leAt delta 0x22 6 = 0 ∧ leAt delta 0xC 4 = 0 := ⟨rfl, rfl, rfl, rfl, rfl, rfl, rfl, rfl⟩
    simp [h3, e.1, e.2.1, e.2.2.1, e.2.2.2.1, e.2.2.2.2.1, e.2.2.2.2.2.1, e.2.2.2.2.2.2.1, e.2.2.2.2.2.2.2]
  have hv : leAt delta 6 1 = 1 ∧ leAt delta 0x11 1 = 3 ∧ leAt delta 0x10 1 = 0 := ⟨rfl, rfl, rfl⟩
  have hw : imgWalk delta 136 (184 / 8) 136 = ([], none) := rfl
  have hc : wDelta.absentFail [] = none ∧ wDelta.placement cfgA = none ∧ cfgA.waysFail = none ∧ cfgA.holderFail = none ∧
      wDelta.poolFail cfgA = none ∧ blockFixed wDelta.img.active.block cfgA.block = true := by decide +kernel
  have hs : wDelta.img.staging = delta := rfl
  have ha : wDelta.img.active = cfgA := rfl
  have hg : wDelta.img.activeDigest = 0 := rfl
  have h384 : ∀ x : Digest, BitVec.ofNat 384 x.toNat = x := fun x => by rw [BitVec.ofNat_toNat, BitVec.setWidth_eq]
  refine ⟨⟨true, leAt delta 0x18 8, leAt delta 0x20 2, 0, cfgA.digest, cfgA, []⟩, ?_⟩
  unfold State.imgCheck imgRecsOf
  have hf : (184 - 48 : Nat) = 136 := rfl
  have hk : blockFixed cfgA.block cfgA.block = true := hc.2.2.2.2.2
  simp only [hs, h3, hf, hw, Option.isNone_none, List.length_nil, if_true, hh, h1, h2, h4, hz, hv.1, hv.2.1, hv.2.2, ha, hg,
    List.foldl_nil, List.find?_nil, hc.1, hc.2.1, hc.2.2.1, hc.2.2.2.1, hc.2.2.2.2.1, h384, hk, beq_self_eq_true, bne_self_eq_false]
  simp

/-- A read return for a tile's RD_ONCE of line 4, whose two sectors were stored under key 5. -/
def readTxn : Txn := { id := 3, home := 0, line := 4, op := .rdOnce, origin := .tile 4 9, slice := 2, fn := 1, key := 5, phase := .reading }
def readReq : MemReq := { tag := 7, line := 4, key := 5, slice := 2, purpose := .fill 3 }
def wReturn : State := { (wMem { tags := [readReq] }).setTile 4 { tags := [9] } with txns := [readTxn] }
def sbOf (k : Nat) : BitVec 64 := sideband 0 (wReturn.sideOf 5 (sectorIx 4 k) 0 false false)
def ret : MpReturn := { tag := 7, data := 0, sb := BitVec.ofNat 128 ((sbOf 0).toNat + (sbOf 1).toNat * 2 ^ 64) }

theorem pack_low (a b : BitVec 64) : BitVec.ofNat 64 (BitVec.ofNat 128 (a.toNat + b.toNat * 2 ^ 64)).toNat = a := by
  have h0 := a.isLt
  have h1 := b.isLt
  apply BitVec.eq_of_toNat_eq
  simp only [BitVec.toNat_ofNat]
  omega

theorem pack_high (a b : BitVec 64) : BitVec.ofNat 64 ((BitVec.ofNat 128 (a.toNat + b.toNat * 2 ^ 64)).toNat >>> 64) = b := by
  have h0 := a.isLt
  have h1 := b.isLt
  apply BitVec.eq_of_toNat_eq
  simp only [BitVec.toNat_ofNat, Nat.shiftRight_eq_div_pow]
  omega

theorem wit_MemoryReadReturn :
    (wReturn.stopped = false ∧ wReturn.portUp (mpPort 0) = true ∧ ret.inGrant = true ∧ ret.cparOk = true ∧ ret.bad = 0 ∧
      (wReturn.mp 0).tags.find? (fun x => x.tag == 7 && x.write == false) = some readReq ∧ wReturn.keyUsable 5 = true ∧
      wReturn.guardOps = [] ∧ wReturn.txns = [readTxn] ∧ wReturn.portUp 4 = true ∧ (wReturn.tile 4).tags.contains 9 = true) ∧
    wReturn.judge 5 (sectorIx 4 0) false (lineSector ret.data 0) (BitVec.ofNat 64 ret.sb.toNat)
      = .good (wReturn.plainOf 5 (sectorIx 4 0) 0) false 0 (wReturn.sideOf 5 (sectorIx 4 0) 0 false false) ∧
    wReturn.judge 5 (sectorIx 4 1) false (lineSector ret.data 1) (BitVec.ofNat 64 (ret.sb.toNat >>> 64))
      = .good (wReturn.plainOf 5 (sectorIx 4 1) 0) false 0 (wReturn.sideOf 5 (sectorIx 4 1) 0 false false) := by
  have e0 : BitVec.ofNat 64 ret.sb.toNat = sbOf 0 := by simp only [ret]; exact pack_low (sbOf 0) (sbOf 1)
  have e1 : BitVec.ofNat 64 (ret.sb.toNat >>> 64) = sbOf 1 := by simp only [ret]; exact pack_high (sbOf 0) (sbOf 1)
  have d0 : lineSector ret.data 0 = 0 := by decide +kernel
  have d1 : lineSector ret.data 1 = 0 := by decide +kernel
  refine ⟨⟨by decide +kernel, by decide +kernel, rfl, rfl, rfl, by decide +kernel, by decide +kernel, rfl, rfl, by decide +kernel, by decide +kernel⟩, ?_, ?_⟩
  · rw [e0, d0]; exact State.judge_stored wReturn 5 (sectorIx 4 0) 0 false
  · rw [e1, d1]; exact State.judge_stored wReturn 5 (sectorIx 4 1) 0 false

/-- The commands that check bytes with a digest, in the states they need. -/
theorem wit_checkedBytes :
    (wCmd { hoofprint := some hoof }).vault.state = 0 ∧ (wCmd {}).fawn.fabricGood = true ∧ hoofOk hoof = true ∧
    (wFw 7 2 { staging := fwImage }).fawn.fwState = 2 ∧ fwFault fwImage = none ∧ wDelta.img.state = 2 :=
  ⟨rfl, rfl, wit_hoofOk, rfl, wit_fwFault, rfl⟩

/-! ### Well-formed commands: an ill-formed one for each check -/

/-- The operands that name no hardware of the block are refused by the check, the last that does is not. -/
theorem test_wf_port : (Instr.portLeaveReset 357).wf = true ∧ (Instr.portLeaveReset 358).wf = false := by decide
theorem test_wf_origin : (Instr.reservationExpiry 0 352).wf = true ∧ (Instr.reservationExpiry 0 353).wf = false := by decide
theorem test_wf_name : (Instr.flushDoneTimeout 127 0).wf = true ∧ (Instr.flushDoneTimeout 128 0).wf = false := by decide
theorem test_wf_home : (Instr.retireWalkPiece 135).wf = true ∧ (Instr.retireWalkPiece 136).wf = false := by decide
theorem test_wf_slot : (Instr.endComplete 95).wf = true ∧ (Instr.endComplete 96).wf = false := by decide
theorem test_wf_unit : (Instr.heartbeatMissed 0x187).wf = true ∧ (Instr.heartbeatMissed 0x188).wf = false ∧ (Instr.heartbeatMissed 0x000).wf = false := by decide
theorem test_wf_point : (Instr.fclkChange 8).wf = true ∧ (Instr.fclkChange 9).wf = false ∧ (Instr.fclkPoint 9).wf = false := by decide
theorem test_wf_supply : (Instr.sensorStale true 31).wf = true ∧ (Instr.sensorStale true 32).wf = false ∧ (Instr.sensorStale false 63).wf = true := by decide
theorem test_wf_engine : (Instr.slotCheckSweep 16 0 true true).wf = true ∧ (Instr.slotCheckSweep 17 0 true true).wf = false := by decide
theorem test_wf_lists : (Instr.selfTestComplete [0x000]).wf = false ∧ (Instr.mirrorCopyPiece 0 (some 448)).wf = false ∧
    (Instr.mirrorCopyPiece 0 (some 447)).wf = true := by decide

/-- No row of the table gives bits, so no word spells a command. -/
theorem test_no_word : decodeTableWord 32 0xFFFFFFFF = none := rfl

/-! ### The spec's worked examples -/

/-- 01 R23: home slice 131 is unit 0x183, the spare on base die 7. -/
theorem test_unit_id : hslUnit 131 = 0x183 ∧ dieOfUnit 0x183 = 7 := by decide +kernel

/-- Slice 3 with home slices 96 to 111 on base die 6, as in the example of 05 R152. -/
def wDay : State :=
  { own := [(76, { slice := 3, gstate := 1 })],
    img := { active := { slices := [(3, {})], homes := (List.range 16).map fun k => (96 + k, { excl := true, owner := 3 }) } } }

/-- 05 R149 to R152: local address 0x0_098A_BC80 lies in granule 76 on port 12, at line address 71,033 of its stack, its home is
home slice 97, its set 0x71B. -/
theorem test_home_of_address :
    granOf 0x098ABC80 = 76 ∧ granPort 76 = 12 ∧ mpAddr (lineOf 0x098ABC80) = 0x11579 ∧ granDie 76 = 6 ∧
      wDay.homeName (lineOf 0x098ABC80) = some 97 ∧ setOf (lineOf 0x098ABC80) = 0x71B := by decide +kernel

/-- 07 R236: granule 291 lies on stack 3, in stripe group 18, whose parity granule is 290. -/
theorem test_stripe : granOf 0x024600000 = 291 ∧ granPort 291 = 3 ∧ 291 / 16 = 18 ∧ parityPort (stripeOf (granLine 291) 0) = 2 ∧
    isParity 290 = true ∧ (stripeLine (stripeOf (granLine 291 + 500) 0) 3).1 = granLine 291 + 500 := by decide +kernel

/-- 08 R256: 13.7, −0.8, 2.3 and 5.0 as MXFP4 with saturation have the scale byte 0x80 and the elements 6, −0.5, 1 and 2, which read
back as 12, −1, 2 and 4. -/
theorem test_mx_block :
    mxBlock 11 true (fun _ => none) ([0x415B3333, 0xBF4CCCCD, 0x40133333, 0x40A00000] ++ List.replicate 28 0)
      = (0x80, [7, 9, 2, 4] ++ List.replicate 28 0) := by decide +kernel

theorem test_mx_read_back :
    [7, 9, 2, 4].map (fun w => toFp32 (mxValue 11 w 0x80)) = [0x41400000, 0xBF800000, 0x40000000, 0x40800000] := by decide +kernel

/-- 01 R43: 16,384 lines of 8 ways take 37 pieces of 448 lines: after 36 the walk stands below its end, after 37 it has passed it. -/
def walk (n : Nat) : DrainSt := (List.range n).foldl (fun d _ => { d with tagCur := d.tagNext 448 }) { home := 0, ways := 0xFF }
theorem test_drain_walk : (walk 36).tagCur < 32768 ∧ (walk 37).tagCur = 32768 := by decide +kernel

/-- 07 R218: the check symbols of a sector of zeros are 0. -/
theorem test_rs_zero : rsCode 0 0 = 0 := by decide +kernel

/-! ### Single steps -/

/-- The transfers a step sends, and a field of the state it leaves. -/
def sends (i : Instr) (u : State) : List Output := match exec i u with | .next t => t.out | _ => []

/-- 05 R162: RD_SHARED of a line that no tile holds is granted E. -/
theorem test_rd_shared : sends (.rdShared 5 (rq 0)) (wl false) = [.tileRsp 5 9 .ok 3 line7] := by decide +kernel

/-- 05 R162: RD_ONCE grants nothing. -/
theorem test_rd_once : sends (.rdOnce 5 (rq 2)) (wl false) = [.tileRsp 5 9 .ok 0 line7] := by decide +kernel

/-- 03 R100: a read of a granule that the slice does not hold is DENIED. -/
theorem test_rd_denied : sends (.rdOnce 5 (treq 2 { tag := 9, addr := 2 ^ 21, tc := 1 })) { w0 with homes := [(4, { ownLines := [0] })] } = [.tileRsp 5 9 .denied 0 0] := by decide +kernel

/-- 02 R83: a request with wrong control parity is discarded. -/
theorem test_rd_parity : sends (.rdOnce 5 { rq 2 with cpar := !(rq 2).cpar }) (wl false) = [] := by decide +kernel

/-- 11 R349: a host write signals the fence it names. -/
theorem test_host_fence : sends (.hostWrite (hf 1)) wHost = [.hostRsp 9 .ok 0] := by decide +kernel

/-- 02 R81: EXTEST is refused outside FACTORY_TEST. -/
theorem test_extest : sends .extest w0 = [.testCapture 0x03 0] := by decide +kernel

/-- 15 R470: at reset no unit has a change of state to enter. -/
theorem test_ring_states : (allUnits.all fun u => State.reset.unitState u == unitStateInit u) = true := by decide +kernel

end Sys2Proof.Tests
end

section
/-! The frame of the commands and the writes of registers (the statements of 00_scope.md): what every command answers,
what most commands leave, and the transfers of the management port. -/

namespace Sys2Proof.Machine

/-! ### What every command answers, and what most leave -/

/-- A command outside `ChangesStructure` answers a state with the same `State.kept`: one row of `Laws/Exec.lean` for each. -/
theorem exec_kept_of_not_changesStructure {c : Instr} (hc : ChangesStructure c = false) (s : State) :
    ∃ t, exec c s = .next t ∧ t.kept = s.kept := by
  cases c with
  | tickBoundary | registerWrite | factoryTest | idcode | samplePreload | extest | ijtagAccess | bypass
  | setNumericEffecterValue | granuleCleaned | fncCreate | fncEnable | fncQuiesce | quiesceDrained | quiesceDeadline
  | quiesceForcedDone | fncResume | fncReset | resetComplete | fncRemove | removeComplete | imgCommit | chipJoin
  | objectDrained | fawnPowerOnReset | fabricGood | mirrorSetApply | powerRemoval =>
    exact Bool.noConfusion hc
  | timebaseLost => exact execTimebaseLost_kept s
  | tickOffsetHigh => exact execTickOffsetHigh_kept s
  | fclkChange point => exact execFclkChange_kept point s
  | fclkStable => exact execFclkStable_kept s
  | fclkUnstable => exact execFclkUnstable_kept s
  | thermalRaise => exact execThermalRaise_kept s
  | thermalThrottle => exact execThermalThrottle_kept s
  | thermalPark => exact execThermalPark_kept s
  | thermalTrip => exact execThermalTrip_kept s
  | thermalSample k v => exact execThermalSample_kept k v s
  | supplySample m v => exact execSupplySample_kept m v s
  | sensorStale supply k => exact execSensorStale_kept supply k s
  | rdShared port r => exact execRdShared_kept port r s
  | rdUnique port r => exact execRdUnique_kept port r s
  | rdOnce port r => exact execRdOnce_kept port r s
  | rdSeq port r => exact execRdSeq_kept port r s
  | evictDirty port r => exact execEvictDirty_kept port r s
  | evictClean port r => exact execEvictClean_kept port r s
  | wrSector port r => exact execWrSector_kept port r s
  | atomicHome port r => exact execAtomicHome_kept port r s
  | atomicMem port r => exact execAtomicMem_kept port r s
  | reduceOpen port r => exact execReduceOpen_kept port r s
  | reduceClose port r => exact execReduceClose_kept port r s
  | reduceContribution port r => exact execReduceContribution_kept port r s
  | marker port r fclk => exact execMarker_kept port r fclk s
  | jobSubmit port r => exact execJobSubmit_kept port r s
  | linkFence port r => exact execLinkFence_kept port r s
  | linkFenceComplete port => exact execLinkFenceComplete_kept port s
  | flushDone port r => exact execFlushDone_kept port r s
  | snoopResponse port r => exact execSnoopResponse_kept port r s
  | snoopTimeout port id => exact execSnoopTimeout_kept port id s
  | flushDoneTimeout name port => exact execFlushDoneTimeout_kept name port s
  | sfUncorrectable home fset => exact execSfUncorrectable_kept home fset s
  | dataArrayError home set way tagError mirrorBad => exact execDataArrayError_kept home set way tagError mirrorBad s
  | reservationExpiry home origin => exact execReservationExpiry_kept home origin s
  | memoryRequestIssue p => exact execMemoryRequestIssue_kept p s
  | memoryReadReturn p r => exact execMemoryReadReturn_kept p r s
  | memoryWriteAck p tag cparOk inGrant => exact execMemoryWriteAck_kept p tag cparOk inGrant s
  | stripeLockGrant p => exact execStripeLockGrant_kept p s
  | parityRewrite group offset => exact execParityRewrite_kept group offset s
  | mpTrainedFall p => exact execMpTrainedFall_kept p s
  | mpTrainedRise p => exact execMpTrainedRise_kept p s
  | mpTrainedLost p => exact execMpTrainedLost_kept p s
  | mpHealthyLost p => exact execMpHealthyLost_kept p s
  | portRespTimeout port => exact execPortRespTimeout_kept port s
  | portStuckReady port paused => exact execPortStuckReady_kept port paused s
  | portStuckValid port => exact execPortStuckValid_kept port s
  | portKeepaliveLost port => exact execPortKeepaliveLost_kept port s
  | portLeaveReset port => exact execPortLeaveReset_kept port s
  | portReenable port => exact execPortReenable_kept port s
  | tagReuseHoldEnd port => exact execTagReuseHoldEnd_kept port s
  | hostRead r => exact execHostRead_kept r s
  | hostWrite r => exact execHostWrite_kept r s
  | hostFetchAdd r => exact execHostFetchAdd_kept r s
  | hostCompareSwap r => exact execHostCompareSwap_kept r s
  | kbStart k => exact execKbStart_kept k s
  | kbEnd k => exact execKbEnd_kept k s
  | endComplete slot => exact execEndComplete_kept slot s
  | endTimeout slot => exact execEndTimeout_kept slot s
  | kbAbort k => exact execKbAbort_kept k s
  | debugSample lane tile pc stall cpar fclk => exact execDebugSample_kept lane tile pc stall cpar fclk s
  | urgencyLevel n level => exact execUrgencyLevel_kept n level s
  | urgencyStarved n => exact execUrgencyStarved_kept n s
  | mctpPacket p => exact execMctpPacket_kept p s
  | getTid => exact execGetTid_kept s
  | getPdr id => exact execGetPdr_kept id s
  | getSensorReading id => exact execGetSensorReading_kept id s
  | getStateSensorReadings id => exact execGetStateSensorReadings_kept id s
  | getNumericEffecterValue id => exact execGetNumericEffecterValue_kept id s
  | setStateEffecterStates id v => exact execSetStateEffecterStates_kept id v s
  | getStateEffecterStates id => exact execGetStateEffecterStates_kept id s
  | pollForPlatformEventMessage => exact execPollForPlatformEventMessage_kept s
  | spdmGetVersion => exact execSpdmGetVersion_kept s
  | spdmGetCapabilities => exact execSpdmGetCapabilities_kept s
  | spdmNegotiateAlgorithms => exact execSpdmNegotiateAlgorithms_kept s
  | spdmGetDigests => exact execSpdmGetDigests_kept s
  | spdmGetCertificate slot offset len => exact execSpdmGetCertificate_kept slot offset len s
  | spdmChallenge slot nonce => exact execSpdmChallenge_kept slot nonce s
  | spdmGetMeasurements index signed nonce => exact execSpdmGetMeasurements_kept index signed nonce s
  | spdmUnsupportedRequest code => exact execSpdmUnsupportedRequest_kept code s
  | assign first count fn => exact execAssign_kept first count fn s
  | release first count fn => exact execRelease_kept first count fn s
  | setAccess first count fn => exact execSetAccess_kept first count fn s
  | setFormat first count fn => exact execSetFormat_kept first count fn s
  | cleaningPiece e => exact execCleaningPiece_kept e s
  | reportRequest f tag => exact execReportRequest_kept f tag s
  | reportCapture f => exact execReportCapture_kept f s
  | reportReady f => exact execReportReady_kept f s
  | imgOpen => exact execImgOpen_kept s
  | imgData d => exact execImgData_kept d s
  | imgClose => exact execImgClose_kept s
  | imgCheckComplete => exact execImgCheckComplete_kept s
  | imgArm => exact execImgArm_kept s
  | imgCancel => exact execImgCancel_kept s
  | imgApply => exact execImgApply_kept s
  | drainStart => exact execDrainStart_kept s
  | tagWalkPiece h => exact execTagWalkPiece_kept h s
  | filterWalkPiece h => exact execFilterWalkPiece_kept h s
  | throttleRise p qlevel => exact execThrottleRise_kept p qlevel s
  | throttleFall p qlevel => exact execThrottleFall_kept p qlevel s
  | holdAgeExpiry port tag => exact execHoldAgeExpiry_kept port tag s
  | targetUnmet sl t => exact execTargetUnmet_kept sl t s
  | feedbackImplausible p => exact execFeedbackImplausible_kept p s
  | restoreFeedback p => exact execRestoreFeedback_kept p s
  | qosArm => exact execQosArm_kept s
  | qosDiscard => exact execQosDiscard_kept s
  | qosApply => exact execQosApply_kept s
  | keyRetire k fn => exact execKeyRetire_kept k fn s
  | retireWalkPiece h => exact execRetireWalkPiece_kept h s
  | keyZeroize k => exact execKeyZeroize_kept k s
  | keyRetireForced k => exact execKeyRetireForced_kept k s
  | keyQuarantineEnd k => exact execKeyQuarantineEnd_kept k s
  | mergeForward die n => exact execMergeForward_kept die n s
  | windowOpened w => exact execWindowOpened_kept w s
  | windowConvert w => exact execWindowConvert_kept w s
  | windowComplete w => exact execWindowComplete_kept w s
  | windowDeadline w => exact execWindowDeadline_kept w s
  | jobDescSubmit f tag c word7 => exact execJobDescSubmit_kept f tag c word7 s
  | traceEnable f tag c ctrl => exact execTraceEnable_kept f tag c ctrl s
  | jobStart id => exact execJobStart_kept id s
  | jobPiece e pick => exact execJobPiece_kept e pick s
  | copy id => exact execCopy_kept id s
  | transcodeCopy id => exact execTranscodeCopy_kept id s
  | gather id => exact execGather_kept id s
  | scatterReduce id => exact execScatterReduce_kept id s
  | embedBag id => exact execEmbedBag_kept id s
  | kvAppend id => exact execKvAppend_kept id s
  | kvGather id => exact execKvGather_kept id s
  | kvAge id => exact execKvAge_kept id s
  | kvFork id => exact execKvFork_kept id s
  | kvTruncate id => exact execKvTruncate_kept id s
  | rekeyCopy id => exact execRekeyCopy_kept id s
  | zero id => exact execZero_kept id s
  | scrub id => exact execScrub_kept id s
  | dirtyHarvest id => exact execDirtyHarvest_kept id s
  | jobComplete id => exact execJobComplete_kept id s
  | pageWaitTimeout id => exact execPageWaitTimeout_kept id s
  | seqOpen sl => exact execSeqOpen_kept sl s
  | seqWindowOpened sl => exact execSeqWindowOpened_kept sl s
  | seqClose sl => exact execSeqClose_kept sl s
  | dataFrameReceive t f => exact execDataFrameReceive_kept t f s
  | ackReceive t f => exact execAckReceive_kept t f s
  | ackSend n path => exact execAckSend_kept n path s
  | rtoExpiry n msn => exact execRtoExpiry_kept n msn s
  | transferDeadlineExpiry n msn => exact execTransferDeadlineExpiry_kept n msn s
  | readMessage n => exact execReadMessage_kept n s
  | writeMessage n => exact execWriteMessage_kept n s
  | evictMessage n => exact execEvictMessage_kept n s
  | atomicMessage n => exact execAtomicMessage_kept n s
  | contribMessage n => exact execContribMessage_kept n s
  | snoopMessage n => exact execSnoopMessage_kept n s
  | proxySnoopDeadline id => exact execProxySnoopDeadline_kept id s
  | snoopRespMessage n => exact execSnoopRespMessage_kept n s
  | remoteSnoopTimeout chip id => exact execRemoteSnoopTimeout_kept chip id s
  | responseMessage n => exact execResponseMessage_kept n s
  | performedMessage n => exact execPerformedMessage_kept n s
  | flushMessage n => exact execFlushMessage_kept n s
  | flushDoneMessage n => exact execFlushDoneMessage_kept n s
  | remoteFlushTimeout chip die => exact execRemoteFlushTimeout_kept chip die s
  | herdChipLost chip => exact execHerdChipLost_kept chip s
  | linkUpRise t fast => exact execLinkUpRise_kept t fast s
  | discoverySend t => exact execDiscoverySend_kept t s
  | discoveryReceive t d => exact execDiscoveryReceive_kept t d s
  | discoveryTimeout t => exact execDiscoveryTimeout_kept t s
  | linkDown t => exact execLinkDown_kept t s
  | tineReturn t => exact execTineReturn_kept t s
  | saActivate n => exact execSaActivate_kept n s
  | saRetire n => exact execSaRetire_kept n s
  | saRelease n => exact execSaRelease_kept n s
  | saQuarantine n => exact execSaQuarantine_kept n s
  | saFree n => exact execSaFree_kept n s
  | timeReqSend => exact execTimeReqSend_kept s
  | timeReq t exch chip stamp rsvd => exact execTimeReq_kept t exch chip stamp rsvd s
  | timeResp t exch stamp rsvd => exact execTimeResp_kept t exch stamp rsvd s
  | timeFollowUp t exch t2 t3 rsvd => exact execTimeFollowUp_kept t exch t2 t3 rsvd s
  | timeExchangeTimeout exch => exact execTimeExchangeTimeout_kept exch s
  | joinAlone => exact execJoinAlone_kept s
  | ctxCreate f tag => exact execCtxCreate_kept f tag s
  | ctxLoad f tag => exact execCtxLoad_kept f tag s
  | ctxUnload f tag => exact execCtxUnload_kept f tag s
  | ctxAbandon f tag => exact execCtxAbandon_kept f tag s
  | ctxDestroy f tag => exact execCtxDestroy_kept f tag s
  | setKey f tag => exact execSetKey_kept f tag s
  | objCreate f tag => exact execObjCreate_kept f tag s
  | objFree f tag object gen => exact execObjFree_kept f tag object gen s
  | objDrainedRead f tag => exact execObjDrainedRead_kept f tag s
  | kfenceArm f tag c fence => exact execKfenceArm_kept f tag c fence s
  | ctxFpageCmd cmd => exact execCtxFpageCmd_kept cmd s
  | fenceRecordRepair n => exact execFenceRecordRepair_kept n s
  | usageQuery f tag ctx => exact execUsageQuery_kept f tag ctx s
  | hoofprintReceived => exact execHoofprintReceived_kept s
  | rootTry response => exact execRootTry_kept response s
  | rootRetry => exact execRootRetry_kept s
  | enroll => exact execEnroll_kept s
  | allocate k fn => exact execAllocate_kept k fn s
  | replace k fn => exact execReplace_kept k fn s
  | keyLoadSwap k differs => exact execKeyLoadSwap_kept k differs s
  | loadAgreed slot peer gen => exact execLoadAgreed_kept slot peer gen s
  | loadImported slot => exact execLoadImported_kept slot s
  | loadNone slot => exact execLoadNone_kept slot s
  | offer peer => exact execOffer_kept peer s
  | accept peer => exact execAccept_kept peer s
  | forget peer => exact execForget_kept peer s
  | slotCheckSweep engine k checkOk corrected => exact execSlotCheckSweep_kept engine k checkOk corrected s
  | entropyHealthFail => exact execEntropyHealthFail_kept s
  | faultMessage die => exact execFaultMessage_kept die s
  | alertRelease => exact execAlertRelease_kept s
  | alertHoldClear => exact execAlertHoldClear_kept s
  | firstErrorClear => exact execFirstErrorClear_kept s
  | fltCountRead => exact execFltCountRead_kept s
  | mptErrCountRead p => exact execMptErrCountRead_kept p s
  | heartbeatMissed u => exact execHeartbeatMissed_kept u s
  | unitCheckFailed u bridge => exact execUnitCheckFailed_kept u bridge s
  | homeSliceRecovery name => exact execHomeSliceRecovery_kept name s
  | mirrorCopyPiece r bad => exact execMirrorCopyPiece_kept r bad s
  | standInServe r => exact execStandInServe_kept r s
  | stackRecovery p => exact execStackRecovery_kept p s
  | tineRecovery t => exact execTineRecovery_kept t s
  | keyEngineHandover p => exact execKeyEngineHandover_kept p s
  | jobEngineRecovery e => exact execJobEngineRecovery_kept e s
  | recoveryOverrun r => exact execRecoveryOverrun_kept r s
  | offline u => exact execOffline_kept u s
  | online u => exact execOnline_kept u s
  | offlineDeadline u => exact execOfflineDeadline_kept u s
  | injectRaiseKind u kind => exact execInjectRaiseKind_kept u kind s
  | injectFlipOneBit u location => exact execInjectFlipOneBit_kept u location s
  | injectFlipTwoBits u location => exact execInjectFlipTwoBits_kept u location s
  | dumpWrite ok => exact execDumpWrite_kept ok s
  | fltDumpDataRead => exact execFltDumpDataRead_kept s
  | bootStoreRead b => exact execBootStoreRead_kept b s
  | fabricGoodTimeout => exact execFabricGoodTimeout_kept s
  | selfTestComplete failed => exact execSelfTestComplete_kept failed s
  | initializationComplete => exact execInitializationComplete_kept s
  | fclkPoint arg => exact execFclkPoint_kept arg s
  | fabricRetention => exact execFabricRetention_kept s
  | fabricNominal => exact execFabricNominal_kept s
  | fabricOff => exact execFabricOff_kept s
  | supplyRemove => exact execSupplyRemove_kept s
  | fwOpen => exact execFwOpen_kept s
  | fwData d => exact execFwData_kept d s
  | fwClose => exact execFwClose_kept s
  | fwCheckComplete => exact execFwCheckComplete_kept s
  | fwStart => exact execFwStart_kept s
  | fwArm => exact execFwArm_kept s
  | fwCancel => exact execFwCancel_kept s
  | fwHandover => exact execFwHandover_kept s
  | fawnHeartbeat => exact execFawnHeartbeat_kept s
  | fwRevert => exact execFwRevert_kept s
  | fawnFailed => exact execFawnFailed_kept s
  | dozeRequest => exact execDozeRequest_kept s
  | dozeSelfRefreshCheck acks => exact execDozeSelfRefreshCheck_kept acks s
  | standbyRequest => exact execStandbyRequest_kept s
  | wake src => exact execWake_kept src s
  | wakeComplete trained => exact execWakeComplete_kept trained s
  | pairSync => exact execPairSync_kept s
  | pairTakeover => exact execPairTakeover_kept s
  | mirrorSetSend => exact execMirrorSetSend_kept s
  | mirrorFrame t f => exact execMirrorFrame_kept t f s
  | pairMirrorLag => exact execPairMirrorLag_kept s
  | pairPartnerLost => exact execPairPartnerLost_kept s
  | traceLineWrite c => exact execTraceLineWrite_kept c s
  | wfgAssemble => exact execWfgAssemble_kept s
  | wfgReady => exact execWfgReady_kept s
  | obsWfgDataRead => exact execObsWfgDataRead_kept s
  | globalStop => exact execGlobalStop_kept s
  | stopSettled => exact execStopSettled_kept s
  | stopResume => exact execStopResume_kept s
  | stopMaxTicks => exact execStopMaxTicks_kept s
  | stopDisarm => exact execStopDisarm_kept s
  | entropyTestsPass => exact execEntropyTestsPass_kept s
  | enrollComplete stable cells => exact execEnrollComplete_kept stable cells s
  | dumpComplete => exact execDumpComplete_kept s
  | egressTimestamp t id stamp phase => exact execEgressTimestamp_kept t id stamp phase s
  | grantAbove8 p grant => exact execGrantAbove8_kept p grant s

/-- Equal `State.kept` is equality field by field. -/
theorem State.kept_eq_iff {s t : State} : t.kept = s.kept ↔
    t.homeTimeout = s.homeTimeout ∧ t.rw.shadowWays = s.rw.shadowWays ∧ t.blk.fclkLimit = s.blk.fclkLimit ∧
      t.blk.tick = s.blk.tick ∧ t.pending = s.pending ∧ t.own = s.own ∧ t.img.active = s.img.active ∧
      t.fncs = s.fncs ∧ t.test = s.test := by
  simp only [State.kept, Kept.mk.injEq]

/-- Settles O6: the state that a command outside `ChangesStructure` answers has the same `State.kept`. -/
theorem frameOfStructure : Obligations.FrameOfStructure := by
  unfold Obligations.FrameOfStructure
  intro c s t hc h
  obtain ⟨u, hu, hk⟩ := exec_kept_of_not_changesStructure hc s
  obtain rfl : u = t := Host.Outcome.next.inj (hu.symm.trans h)
  obtain ⟨htimeout, hways, hlimit, htick, -, hown, himg, hfncs, htest⟩ := State.kept_eq_iff.mp hk
  exact ⟨hown, hfncs, himg, htest, htimeout, hways, hlimit, htick⟩

/-- Settles O2: each arm of `exec` is a meaning that answers `.next` of a state, whatever its operands. -/
theorem everyCommandHasNextState : Obligations.EveryCommandHasNextState := by
  unfold Obligations.EveryCommandHasNextState
  intro c s
  cases c <;> exact ⟨_, rfl⟩

/-! ### Transfers of the management port -/

/-- The answer on a port that is up. -/
theorem State.mgRsp_of_portUp {s : State} (h : s.portUp mgPort = true) (st : Status) (d : Reg) :
    s.mgRsp st d = { s with out := s.out ++ [.mgRsp s.mgTag st d] } := by
  simp only [State.mgRsp, h, if_true, State.emit]

/-- A service that answers another status than OK does nothing else. -/
theorem State.mgServe_of_ne_ok {s : State} {st : Status} (r : MgReq) (hup : s.portUp mgPort = true) (hst : st ≠ .ok) :
    s.mgServe r st = { s with out := s.out ++ [.mgRsp r.tag.toNat st 0], mgTag := 0 } := by
  have htagged : ({ s with mgTag := r.tag.toNat } : State).portUp mgPort = true := hup
  simp [State.mgServe, hst, State.mgRsp_of_portUp htagged]

theorem State.mgServe_write_ok (s : State) {r : MgReq} (hw : r.write = true) (hwide : r.wide = true) :
    s.mgServe r .ok = { ({ s with mgTag := r.tag.toNat }.regSet r.addr.toNat r.wdata).mgRsp .ok 0 with mgTag := 0 } := by
  simp [State.mgServe, hw, hwide, State.mgSet]

/-- An aligned write of 64 bits with good parity waits or acts, as the phase says. -/
theorem State.mgStatus_write {s : State} {r : MgReq} (hw : r.write = true) (hwide : r.wide = true) (hdpar : mgDparOk r = true)
    (hal : r.addr.toNat % 8 = 0) : s.mgStatus r = if s.mgWaits true r.addr.toNat then .retry else .ok := by
  simp [State.mgStatus, State.mgAccessOk, hw, hwide, hdpar, hal]

theorem State.mgStatus_misaligned {s : State} {r : MgReq} (hwide : r.wide = true) (hal : r.addr.toNat % 8 ≠ 0) :
    s.mgStatus r = .denied := by
  simp [State.mgStatus, State.mgAccessOk, hwide, hal]

theorem State.mgStatus_badData {s : State} {r : MgReq} (hw : r.write = true) (hwide : r.wide = true) (hdpar : mgDparOk r = false)
    (hal : r.addr.toNat % 8 = 0) : s.mgStatus r = .poison := by
  simp [State.mgStatus, State.mgAccessOk, hw, hwide, hdpar, hal]

theorem State.mgWaits_write_phase3 {s : State} (a : Nat) (h : s.fawn.phase = 3) : s.mgWaits true a = true := by
  simp [State.mgWaits, h]

/-- Bad control parity: the transfer counts as an event of the port and is not answered (02 R83). -/
theorem execRegisterWrite_driver_cparBad {s : State} {r : MgReq} (hup : s.portUp mgPort = true) (hphase : 3 ≤ s.fawn.phase)
    (hcpar : mgCparOk r = false) : execRegisterWrite .driver r s = .next (s.portEvent mgPort 0x63) := by
  simp [execRegisterWrite, State.driverReq, hup, hcpar, Nat.not_lt.mpr hphase]

/-- Good control parity: bad data parity counts, and the request is served with its status (02 R83). -/
theorem execRegisterWrite_driver {s : State} {r : MgReq} (hup : s.portUp mgPort = true) (hphase : 3 ≤ s.fawn.phase)
    (hcpar : mgCparOk r = true) : execRegisterWrite .driver r s =
      .next ((if r.write && !mgDparOk r then s.portEvent mgPort 0x64 else s).mgServe r (s.mgStatus r)) := by
  simp [execRegisterWrite, State.driverReq, hup, hcpar, Nat.not_lt.mpr hphase]

/-! ### The BLK window: BLK_VERSION and BLK_CLOCK -/

/-- The BLK window is the offsets below 0x10000 (16 R479). -/
theorem mgWindow_of_lt {a : Nat} (h : a < 0x10000) : mgWindow a = (0, a) := by
  have hrest : (windowBases.drop 1).filter (· ≤ a) = [] := by
    rw [List.filter_eq_nil_iff]
    simp [windowBases]
    omega
  have hall : windowBases.filter (· ≤ a) = [0] := by
    rw [show windowBases = 0 :: windowBases.drop 1 from rfl, List.filter_cons, hrest]
    simp
  simp only [mgWindow, hall]
  rfl

/-- No register of the BLK window is read with an effect. -/
theorem State.readEffect_of_lt (s : State) {a : Nat} (h : a < 0x10000) : s.readEffect a = s := by
  simp [State.readEffect, mgWindow_of_lt h]

/-- A read of BLK_VERSION is taken in every phase (14 R438). -/
theorem State.mgStatus_version {s : State} {r : MgReq} (hr : r.write = false) (ha : r.addr.toNat < 8)
    (hok : s.mgAccessOk r.addr.toNat r.wide = true) : s.mgStatus r = .ok := by
  simp [State.mgStatus, State.mgWaits, hr, hok, Nat.div_eq_of_lt ha]

/-- A read of BLK_VERSION, or of a half of it, answers the value read and does nothing else (log entry 157). -/
theorem execRegisterWrite_driver_version {s : State} {r : MgReq} {v : Reg} (hup : s.portUp mgPort = true)
    (hphase : 3 ≤ s.fawn.phase) (hcpar : mgCparOk r = true) (hr : r.write = false) (ha : r.addr.toNat < 8)
    (hok : s.mgAccessOk r.addr.toNat r.wide = true)
    (hv : ({ s with mgTag := r.tag.toNat } : State).mgValue r.addr.toNat r.wide = some v) :
    execRegisterWrite .driver r s = .next { s with out := s.out ++ [.mgRsp r.tag.toNat .ok v], mgTag := 0 } := by
  have htagged : ({ s with mgTag := r.tag.toNat } : State).portUp mgPort = true := hup
  have hlow : r.addr.toNat < 0x10000 := by omega
  rw [execRegisterWrite_driver hup hphase hcpar, State.mgStatus_version hr ha hok]
  simp [State.mgServe, hr, hv, State.readEffect_of_lt _ hlow, State.mgRsp_of_portUp htagged]

/-- A write of fclk_limit_point touches the limit alone, and takes 0 to 8 (01 R36). -/
theorem State.limitWrite_eq (s : State) (v : Nat) :
    s.limitWrite v = { s with blk := { s.blk with fclkLimit := if v ≤ 8 then v else s.blk.fclkLimit } } := by
  unfold State.limitWrite
  split <;> rfl

/-- A write of BLK_CLOCK is a write of fclk_limit_point. -/
theorem State.regSet_clock (s : State) (d : Reg) : s.regSet 0x10 d = s.limitWrite (field d 8 4) := by
  rfl

/-! ### Events of the management port -/

theorem State.raise_port (s : State) (u k c a b d e i : Nat) : (s.raise u k c a b d e).port i = s.port i := by
  simp only [State.port, State.raise_ports]

/-- An event of the management port that does not isolate it: one more is counted, and its kind is raised (02 R83, R84). -/
theorem State.portEvent_mgPort {s : State} (kind : Nat) (hstate : (s.port mgPort).state = 1) (herrs : (s.port mgPort).errs < 3) :
    s.portEvent mgPort kind =
      (s.setPort mgPort { s.port mgPort with errs := (s.port mgPort).errs + 1 }).raise (unitOfPort mgPort) kind 2 2 mgPort 0 0 := by
  have hfew : ¬ 4 ≤ (s.port mgPort).errs + 1 := by omega
  have hraise : ∀ u : State, u.portRaise mgPort kind false = u.raise (unitOfPort mgPort) kind 2 2 mgPort 0 0 := fun _ => rfl
  simp [State.portEvent, hstate, hfew, hraise]

/-- Bad data parity on an aligned write: the event is counted, nothing is written, and the answer is POISON (02 R83). -/
theorem execRegisterWrite_driver_dparBad {s : State} {r : MgReq} (hup : s.portUp mgPort = true) (hphase : 3 ≤ s.fawn.phase)
    (hcpar : mgCparOk r = true) (hw : r.write = true) (hwide : r.wide = true) (hdpar : mgDparOk r = false)
    (hal : r.addr.toNat % 8 = 0) (herrs : (s.port mgPort).errs < 3) :
    ∃ t, execRegisterWrite .driver r s = .next t ∧ t.out = s.out ++ [.mgRsp r.tag.toNat .poison 0] ∧
      t.port mgPort = { s.port mgPort with errs := (s.port mgPort).errs + 1 } ∧ t.blk = s.blk ∧ t.own = s.own := by
  have hstate : (s.port mgPort).state = 1 := by
    simp only [State.portUp, Bool.and_eq_true, beq_iff_eq] at hup
    exact hup.1
  have hport : (s.portEvent mgPort 0x64).port mgPort = { s.port mgPort with errs := (s.port mgPort).errs + 1 } := by
    rw [State.portEvent_mgPort _ hstate herrs, State.raise_port, State.setPort_port]
  have hblk : (s.portEvent mgPort 0x64).blk = s.blk := by simp [State.portEvent_mgPort _ hstate herrs]
  have hout : (s.portEvent mgPort 0x64).out = s.out := by simp [State.portEvent_mgPort _ hstate herrs]
  have hown : (s.portEvent mgPort 0x64).own = s.own := by simp [State.portEvent_mgPort _ hstate herrs]
  have hup' : (s.portEvent mgPort 0x64).portUp mgPort = true := by
    simpa only [State.portUp, hport, hblk] using hup
  refine ⟨(s.portEvent mgPort 0x64).mgServe r .poison, ?_, ?_⟩
  · rw [execRegisterWrite_driver hup hphase hcpar, State.mgStatus_badData hw hwide hdpar hal]
    simp [hw, hdpar]
  · rw [State.mgServe_of_ne_ok r hup' (by decide)]
    exact ⟨by rw [hout], hport, hblk, hown⟩

/-! ### Fawn and the board controller -/

/-- Fawn's write outside its own window does nothing (14 R426, 16 R482). -/
theorem State.fawnWrite_of_other_window {s : State} {a : Nat} (h : (mgWindow a).1 ≠ 13) (wide : Bool) (d : Reg) :
    s.fawnWrite a wide d = s := by
  simp [State.fawnWrite, h]

/-- A window's base and the offset in it give the address. -/
theorem eq_base_add_of_mgWindow {a n o : Nat} (h : mgWindow a = (n, o)) (ho : o ≠ 0) : a = windowBases.getD n 0 + o := by
  have hn : (mgWindow a).1 = n := by rw [h]
  have hsub : a - windowBases.getD (mgWindow a).1 0 = o := congrArg Prod.snd h
  rw [hn] at hsub
  omega

/-- Fawn's write of FWN_TICK, 64 bits at 0x1000020. -/
theorem State.fawnWrite_fwTick (s : State) (d : Reg) :
    s.fawnWrite 0x1000020 true d = { s with fawn := { s.fawn with fwTick := d.toNat } } := by
  rfl

/-- The board's write of BLK_POWER.request, 0 or 1 (01 R46, 16 R483). -/
theorem State.boardWrite_power {s : State} {d : Reg} (h : field d 8 2 < 2) :
    s.boardWrite 0x20 d = { s with blk := { s.blk with powerRequest := field d 8 2, powerPending := true } } := by
  have h2 : field d 8 2 ≠ 2 := by omega
  have h3 : field d 8 2 ≠ 3 := by omega
  simp [State.boardWrite, State.effecterWrite, State.powerWrite, h2, h3]

/-- The board's write of the management port's reenable (02 R87, 16 R483). -/
theorem State.boardWrite_reenable {s : State} {d : Reg} (h : bit d.toNat 16 = true) :
    s.boardWrite (0x1000 + 8 * mgPort) d = s.setPort mgPort { s.port mgPort with reenable := true } := by
  simp [State.boardWrite, mgPort, State.askReenable, h]

/-! ### REGISTER_WRITE -/

/-- A transfer with good control and data parity is served with its status. -/
theorem execRegisterWrite_driver_parityOk {s : State} {r : MgReq} (hup : s.portUp mgPort = true) (hphase : 3 ≤ s.fawn.phase)
    (hcpar : mgCparOk r = true) (hdpar : mgDparOk r = true) :
    execRegisterWrite .driver r s = .next (s.mgServe r (s.mgStatus r)) := by
  rw [execRegisterWrite_driver hup hphase hcpar]
  simp [hdpar]

/-- Settles O57: the status of the request decides its answer, and each register named has its own equation
(log entries 156, 157 and 170). -/
theorem registerWrites : Obligations.RegisterWrites := by
  unfold Obligations.RegisterWrites
  intro s r
  refine ⟨fun hup hphase hcpar => ⟨fun hw hwide hdpar => ⟨?acts, ?clock, ?misaligned, ?waits⟩, ?dparBad,
      fun hr ha => ⟨?version, ?half⟩⟩,
    execRegisterWrite_driver_cparBad, ?fawnOther, ?fwTick, fun hw => ⟨?limit, ?power, ?reenable⟩⟩
  case acts =>
    intro hal hgo
    change execRegisterWrite .driver r s = _
    rw [execRegisterWrite_driver_parityOk hup hphase hcpar hdpar, State.mgStatus_write hw hwide hdpar hal, hgo,
      if_neg Bool.false_ne_true, State.mgServe_write_ok s hw hwide]
  case clock =>
    intro ha hgo
    refine ⟨_, (execRegisterWrite_driver_parityOk hup hphase hcpar hdpar : exec (.registerWrite .driver r) s = _), ?_⟩
    have hup' : (({ s with mgTag := r.tag.toNat } : State).limitWrite (field r.wdata 8 4)).portUp mgPort = true := by
      rw [State.limitWrite_eq]
      exact hup
    rw [State.mgStatus_write hw hwide hdpar (by rw [ha]), ha, hgo, if_neg Bool.false_ne_true, State.mgServe_write_ok s hw hwide,
      ha, State.regSet_clock, State.mgRsp_of_portUp hup', State.limitWrite_eq]
    exact ⟨rfl, rfl⟩
  case misaligned =>
    intro hal
    change execRegisterWrite .driver r s = _
    rw [execRegisterWrite_driver_parityOk hup hphase hcpar hdpar, State.mgStatus_misaligned hwide hal,
      State.mgServe_of_ne_ok r hup (by decide)]
  case waits =>
    intro hal h3
    change execRegisterWrite .driver r s = _
    rw [execRegisterWrite_driver_parityOk hup hphase hcpar hdpar, State.mgStatus_write hw hwide hdpar hal,
      State.mgWaits_write_phase3 _ h3, if_pos rfl, State.mgServe_of_ne_ok r hup (by decide)]
  case dparBad =>
    intro hw hwide hdpar hal herrs
    exact execRegisterWrite_driver_dparBad hup hphase hcpar hw hwide hdpar hal herrs
  case version =>
    intro hwide ha0
    have haddr : r.addr.toNat = 0 := by rw [ha0]; rfl
    apply execRegisterWrite_driver_version hup hphase hcpar hr ha
    · rw [haddr, hwide]; rfl
    · rw [haddr, hwide]; rfl
  case half =>
    intro hnarrow hal
    have haddr : r.addr.toNat = 0 ∨ r.addr.toNat = 4 := by omega
    apply execRegisterWrite_driver_version hup hphase hcpar hr ha
    · rcases haddr with haddr | haddr <;> rw [haddr, hnarrow] <;> rfl
    · rcases haddr with haddr | haddr <;> rw [haddr, hnarrow] <;> rfl
  case fawnOther =>
    intro hwin
    simp only [exec, execRegisterWrite, State.fawnWrite_of_other_window hwin, ite_self]
  case fwTick =>
    intro hw hwide hwin
    have haddr : r.addr.toNat = 0x1000020 := eq_base_add_of_mgWindow hwin (by decide)
    simp only [exec, execRegisterWrite, hw, hwide, haddr, State.fawnWrite_fwTick, if_true]
  case limit =>
    intro haddr
    simp only [exec, execRegisterWrite, hw, haddr, if_true, State.boardWrite, State.limitWrite]
  case power =>
    intro haddr hlt
    simp only [exec, execRegisterWrite, hw, haddr, if_true, State.boardWrite_power hlt]
  case reenable =>
    intro haddr hbit
    simp only [exec, execRegisterWrite, hw, haddr, if_true, State.boardWrite_reenable hbit]

end Sys2Proof.Machine
end

section
/-! The block's step, its queue and its tick: what a step takes, what no command touches, and the state after reset (the
statements of 01_block_anatomy.md). -/

namespace Sys2Proof.Machine

/-! ### The step -/

theorem step_of_pending_cons {s : State} {c : Instr} {rest : List Instr} (h : s.pending = c :: rest) :
    step s = exec c { s with pending := rest } := by
  rw [step, h]

theorem step_of_pending_nil {s : State} (h : s.pending = []) : step s = .next s := by
  rw [step, h]

/-- Settles O1. -/
theorem stepTakesTheQueue : Obligations.StepTakesTheQueue := by
  unfold Obligations.StepTakesTheQueue
  exact ⟨fun _ _ _ => step_of_pending_cons rfl, fun _ => step_of_pending_nil⟩

/-! ### What no command touches -/

/-- A command outside `MovesTick` keeps the tick and whatever every command keeps: where it leaves the structure, all of
`State.kept`, and otherwise by its row of `Laws/Exec.lean`. -/
theorem exec_calm_of_not_movesTick {c : Instr} (hc : MovesTick c = false) (s : State) :
    ∃ t, exec c s = .next t ∧ Kept.Calm s.kept t.kept := by
  by_cases hs : ChangesStructure c = false
  · obtain ⟨t, ht, hk⟩ := exec_kept_of_not_changesStructure hs s
    exact ⟨t, ht, .of_eq hk (.refl _)⟩
  · cases c with
    | registerWrite src r => exact execRegisterWrite_calm src r s
    | factoryTest => exact execFactoryTest_calm s
    | idcode => exact execIdcode_calm s
    | samplePreload pins preload => exact execSamplePreload_calm pins preload s
    | extest => exact execExtest_calm s
    | ijtagAccess inst write reveals data => exact execIjtagAccess_calm inst write reveals data s
    | bypass code => exact execBypass_calm code s
    | setNumericEffecterValue id v => exact execSetNumericEffecterValue_calm id v s
    | granuleCleaned g => exact execGranuleCleaned_calm g s
    | fncCreate f => exact execFncCreate_calm f s
    | fncEnable f => exact execFncEnable_calm f s
    | fncQuiesce f => exact execFncQuiesce_calm f s
    | quiesceDrained f => exact execQuiesceDrained_calm f s
    | quiesceDeadline f => exact execQuiesceDeadline_calm f s
    | quiesceForcedDone f => exact execQuiesceForcedDone_calm f s
    | fncResume f => exact execFncResume_calm f s
    | fncReset f erase => exact execFncReset_calm f erase s
    | resetComplete f => exact execResetComplete_calm f s
    | fncRemove f => exact execFncRemove_calm f s
    | removeComplete f => exact execRemoveComplete_calm f s
    | imgCommit => exact execImgCommit_calm s
    | objectDrained object => exact execObjectDrained_calm object s
    | mirrorSetApply => exact execMirrorSetApply_calm s
    | tickBoundary | chipJoin | fawnPowerOnReset | fabricGood | powerRemoval => exact Bool.noConfusion hc
    | _ => exact absurd rfl hs

/-- Every command keeps the queue, the order of the tables and the legal registers. -/
theorem exec_tame (c : Instr) (s : State) : ∃ t, exec c s = .next t ∧ Kept.Tame s.kept t.kept := by
  by_cases hc : MovesTick c = false
  · obtain ⟨t, ht, hk⟩ := exec_calm_of_not_movesTick hc s
    exact ⟨t, ht, hk.tame⟩
  · cases c with
    | tickBoundary => exact execTickBoundary_tame s
    | chipJoin refTick => exact execChipJoin_tame refTick s
    | fawnPowerOnReset => exact execFawnPowerOnReset_tame s
    | fabricGood tp mp lp => exact execFabricGood_tame tp mp lp s
    | powerRemoval => exact execPowerRemoval_tame s
    | _ => exact absurd rfl hc

/-- Settles O3: what every command keeps (`exec_tame`) has the queue in it. -/
theorem commandsLeaveQueue : Obligations.CommandsLeaveQueue := by
  unfold Obligations.CommandsLeaveQueue
  intro c s t h
  obtain ⟨u, hu, hk⟩ := exec_tame c s
  obtain rfl : u = t := Host.Outcome.next.inj (hu.symm.trans h)
  exact hk.queue

/-- Settles O4: what a command outside `MovesTick` keeps (`exec_calm_of_not_movesTick`) has the tick in it. -/
theorem onlyFiveCommandsMoveTick : Obligations.OnlyFiveCommandsMoveTick := by
  unfold Obligations.OnlyFiveCommandsMoveTick
  intro c s t hc h
  obtain ⟨u, hu, hk⟩ := exec_calm_of_not_movesTick hc s
  obtain rfl : u = t := Host.Outcome.next.inj (hu.symm.trans h)
  exact hk.tick

/-! ### The state after reset -/

/-- The reset values of `HSL_TIMEOUT`, `shadow_ways` and the fclk limit are legal (05 R173, 08 R276, 01 R36). -/
theorem reset_regsLegal : State.reset.RegsLegal := by
  unfold State.RegsLegal
  decide

/-- Settles O9: the registers by `reset_regsLegal`; both tables are empty after reset. -/
theorem resetMeetsTheInvariants : Obligations.ResetMeetsTheInvariants := by
  unfold Obligations.ResetMeetsTheInvariants
  exact ⟨reset_regsLegal, rfl, rfl⟩

end Sys2Proof.Machine
end
section
/-! The pace of the block: the tick, the power state and what was sent on tick_out, of which most operations change nothing.
The sections below say it once for each operation that a tick boundary runs. -/

namespace Sys2Proof.Machine

/-- Whether a transfer is one of tick_out. -/
def Output.isTick : Output → Bool
  | .tick .. => true
  | _ => false

theorem Output.isTick_of_ne {o : Output} (h : ∀ offset valid, o ≠ .tick offset valid) : o.isTick = false := by
  cases o with
  | tick offset valid => exact absurd rfl (h offset valid)
  | _ => rfl

/-- The transfers on tick_out, the tick, the power state, an entry of Doze or Standby under way, and what tb_offset and
tb_offset_valid are read from. -/
structure Pace where
  ticks : List Output
  tick : Nat
  power : Nat
  standby : Bool
  dozeAt : Option Nat
  offsetNs : BitVec 16
  offsetTick : Option Nat
  tickRunning : Bool

/-- `Pace` of a state. -/
def State.pace (s : State) : Pace :=
  { ticks := s.out.filter Output.isTick, tick := s.blk.tick, power := s.blk.power, standby := s.fawn.standby,
    dozeAt := s.fawn.dozeAt, offsetNs := s.blk.offsetNs, offsetTick := s.blk.offsetTick, tickRunning := s.blk.tickRunning }

@[simp] theorem State.pace_mk x0 x1 x2 x3 x4 x5 x6 x7 x8 x9 x10 x11 x12 x13 x14 x15 x16 x17 x18 x19 x20 x21 x22 x23 x24 x25 x26
    x27 x28 x29 x30 x31 x32 x33 x34 x35 x36 x37 x38 x39 x40 x41 x42 x43 x44 x45 x46 x47 x48 x49 x50 x51 x52 x53 x54 x55 x56 x57 :
    State.pace (State.mk x0 x1 x2 x3 x4 x5 x6 x7 x8 x9 x10 x11 x12 x13 x14 x15 x16 x17 x18 x19 x20 x21 x22 x23 x24 x25 x26 x27 x28
      x29 x30 x31 x32 x33 x34 x35 x36 x37 x38 x39 x40 x41 x42 x43 x44 x45 x46 x47 x48 x49 x50 x51 x52 x53 x54 x55 x56 x57) =
      { ticks := x53.filter Output.isTick, tick := x0.tick, power := x0.power, standby := x49.standby, dozeAt := x49.dozeAt,
        offsetNs := x0.offsetNs, offsetTick := x0.offsetTick, tickRunning := x0.tickRunning } :=
  rfl

@[simp] theorem State.pace_eta (s : State) :
    ({ ticks := s.out.filter Output.isTick, tick := s.blk.tick, power := s.blk.power, standby := s.fawn.standby,
       dozeAt := s.fawn.dozeAt, offsetNs := s.blk.offsetNs, offsetTick := s.blk.offsetTick,
       tickRunning := s.blk.tickRunning } : Pace) = s.pace := rfl

@[simp] theorem State.pace_ite {c : Prop} [Decidable c] (a b : State) :
    (if c then a else b).pace = if c then a.pace else b.pace := apply_ite _ _ _ _

/-- A transfer elsewhere than on tick_out. -/
@[simp] theorem State.emit_pace (s : State) {o : Output} (h : ∀ offset valid, o ≠ .tick offset valid) :
    (s.emit o).pace = s.pace := by
  simp only [State.emit, State.pace_mk, List.filter_append, List.filter_singleton, Output.isTick_of_ne h, Bool.cond_false,
    List.append_nil, State.pace_eta]

/-- What each step of a fold keeps, the fold keeps. -/
theorem foldl_keeps {α β : Type} (π : State → β) {f : State → α → State} (h : ∀ s a, π (f s a) = π s) (l : List α) (s : State) :
    π (l.foldl f s) = π s := by
  induction l generalizing s with
  | nil => rfl
  | cons a l ih => rw [List.foldl_cons, ih, h]

@[simp] theorem foldl_pace {α : Type} {f : State → α → State} (h : ∀ s a, (f s a).pace = s.pace) (l : List α) (s : State) :
    (l.foldl f s).pace = s.pace := foldl_keeps State.pace h l s

@[simp] theorem foldl_fst_pace {α β : Type} {f : State × β → α → State × β} (h : ∀ p a, (f p a).1.pace = p.1.pace) (l : List α)
    (p : State × β) : (l.foldl f p).1.pace = p.1.pace := by
  induction l generalizing p with
  | nil => rfl
  | cons a l ih => rw [List.foldl_cons, ih, h]

@[simp] theorem forRange_pace {f : Nat → State → State} (h : ∀ s i, (f i s).pace = s.pace) (lo n : Nat) (s : State) :
    (forRange lo f n s).pace = s.pace := by
  induction n generalizing lo s with
  | zero => rfl
  | succ n ih => rw [forRange, ih, h]

theorem pace_of_eq_fst {α : Type} {p : State × α} {t : State} {x : α} (h : p = (t, x)) : t.pace = p.1.pace := by rw [h]
theorem pace_of_eq_snd {α : Type} {p : α × State} {t : State} {x : α} (h : p = (x, t)) : t.pace = p.2.pace := by rw [h]

end Sys2Proof.Machine
end

section
/-! The operations of ports, homes, the memory path and tiles keep the pace of the block. -/

namespace Sys2Proof.Machine

@[simp] theorem State.setPort_pace (s : State) (i : Nat) (p : PortSt) : (State.setPort s i p).pace = s.pace := by
  simp [State.setPort]

@[simp] theorem State.setTile_pace (s : State) (i : Nat) (p : TileSt) : (State.setTile s i p).pace = s.pace := by
  simp [State.setTile]

@[simp] theorem State.setMp_pace (s : State) (i : Nat) (p : MemPort) : (State.setMp s i p).pace = s.pace := by
  simp [State.setMp]

@[simp] theorem State.dropOwn_pace (s : State) (stale : Nat → Bool) : (State.dropOwn s stale).pace = s.pace := by
  simp [State.dropOwn]

@[simp] theorem State.setView_pace (s : State) (f : Nat) (v : View) : (State.setView s f v).pace = s.pace := by
  simp [State.setView]

@[simp] theorem State.setHome_pace (s : State) (h : Nat) (v : HomeSt) : (State.setHome s h v).pace = s.pace := by
  simp [State.setHome]

@[simp] theorem State.setKey_pace (s : State) (k : Nat) (v : KeySt) : (State.setKey s k v).pace = s.pace := by
  simp [State.setKey]

@[simp] theorem State.setWin_pace (s : State) (w : Nat) (v : Window) : (State.setWin s w v).pace = s.pace := by
  simp [State.setWin]

@[simp] theorem State.setEngine_pace (s : State) (e : Nat) (v : EngineSt) : (State.setEngine s e v).pace = s.pace := by
  simp [State.setEngine]

@[simp] theorem State.setSeqw_pace (s : State) (i : Nat) (v : SeqWin) : (State.setSeqw s i v).pace = s.pace := by
  simp [State.setSeqw]

@[simp] theorem State.setTine_pace (s : State) (t : Nat) (v : TineSt) : (State.setTine s t v).pace = s.pace := by
  simp [State.setTine]

@[simp] theorem State.setSa_pace (s : State) (n : Nat) (v : SaSt) : (State.setSa s n v).pace = s.pace := by
  simp [State.setSa]

@[simp] theorem State.setPath_pace (s : State) (n path : Nat) (v : PathSt) :
    (State.setPath s n path v).pace = s.pace := by
  simp [State.setPath]

@[simp] theorem State.setCtx_pace (s : State) (c : Nat) (v : CtxRec) : (State.setCtx s c v).pace = s.pace := by
  simp [State.setCtx]

@[simp] theorem State.setObj_pace (s : State) (o : Nat) (v : ObjRec) : (State.setObj s o v).pace = s.pace := by
  simp [State.setObj]

@[simp] theorem State.setFence_pace (s : State) (i : Nat) (v : FenceRec) : (State.setFence s i v).pace = s.pace := by
  simp [State.setFence]

@[simp] theorem State.setFpage_pace (s : State) (p : Nat) (v : FPage) : (State.setFpage s p v).pace = s.pace := by
  simp [State.setFpage]

@[simp] theorem State.setSlot_pace (s : State) (c : Nat) (v : SlotSt) : (State.setSlot s c v).pace = s.pace := by
  simp [State.setSlot]

@[simp] theorem State.setUnit_pace (s : State) (u : Nat) (v : UnitSt) : (State.setUnit s u v).pace = s.pace := by
  simp [State.setUnit]

@[simp] theorem State.emitAt_pace (s : State) (i : Nat) {o : Output} (h : ∀ offset valid, o ≠ .tick offset valid) :
    (State.emitAt s i o).pace = s.pace := by
  simp [State.emitAt, h]

@[simp] theorem State.power_pace (s : State) (op arg : Nat) : (State.power s op arg).pace = s.pace := by
  simp [State.power]

@[simp] theorem State.mgIrq_pace (s : State) (vec : Nat) : (State.mgIrq s vec).pace = s.pace := by
  simp [State.mgIrq]

@[simp] theorem State.mgIrq_ticks (s : State) (vec : Nat) :
    (s.mgIrq vec).out.filter Output.isTick = s.out.filter Output.isTick :=
  congrArg Pace.ticks (State.mgIrq_pace s vec)

@[simp] theorem State.hostIrq_pace (s : State) (fn vec : Nat) : (State.hostIrq s fn vec).pace = s.pace := by
  simp [State.hostIrq]

@[simp] theorem State.useFree_pace (s : State) : (State.useFree s).pace = s.pace := by
  simp [State.useFree]

@[simp] theorem State.ring_pace (s : State) (u code : Nat) (arg : Nat) : (State.ring s u code arg).pace = s.pace := by
  simp [State.ring]

@[simp] theorem State.count_pace (s : State) (sl k n : Nat) : (State.count s sl k n).pace = s.pace := by
  simp [State.count]

@[simp] theorem State.note_pace (s : State) (u ev : Nat) (sl : Option Nat) (n : Nat) :
    (State.note s u ev sl n).pace = s.pace := by
  simp [State.note]

@[simp] theorem State.raise_pace (s : State) (u kind cls subType subj sl fn : Nat) :
    (State.raise s u kind cls subType subj sl fn).pace = s.pace := by
  simp [State.raise]

@[simp] theorem State.raise_standby (s : State) (u kind cls subType subj sl fn : Nat) :
    (s.raise u kind cls subType subj sl fn).fawn.standby = s.fawn.standby :=
  congrArg Pace.standby (State.raise_pace s u kind cls subType subj sl fn)

@[simp] theorem State.raise_dozeAt (s : State) (u kind cls subType subj sl fn : Nat) :
    (s.raise u kind cls subType subj sl fn).fawn.dozeAt = s.fawn.dozeAt :=
  congrArg Pace.dozeAt (State.raise_pace s u kind cls subType subj sl fn)

@[simp] theorem State.charge_pace (s : State) (i sl t n : Nat) : (State.charge s i sl t n).pace = s.pace := by
  simp [State.charge]

@[simp] theorem State.emitCtl_pace (s : State) (t : Nat) {o : Output} (h : ∀ offset valid, o ≠ .tick offset valid) :
    (State.emitCtl s t o).pace = s.pace := by
  simp [State.emitCtl, h]

@[simp] theorem State.sealFrame_pace (s : State) (n t : Nat) (f : Frame) :
    (State.sealFrame s n t f).1.pace = s.pace := by
  unfold State.sealFrame
  dsimp only
  repeat' split
  all_goals simp

@[simp] theorem State.transmit_pace (s : State) (n : Nat) (m : SentMsg) (path tc : Nat) :
    (s.transmit n m path tc).pace = s.pace := by
  unfold State.transmit
  dsimp only
  split
  · rfl
  split
  · simp
  split <;> rename_i h <;> simp [pace_of_eq_fst h]

theorem State.pace_of_sendMsg {s t : State} {n tc : Nat} {m : LinkMsg} {o : Origin} (h : s.sendMsg n tc m o = some t) :
    t.pace = s.pace := by
  unfold State.sendMsg at h
  dsimp only at h
  split at h
  · cases h
  · cases h
    split <;> simp

@[simp] theorem State.sendOr_pace (s : State) (n : Option Nat) (tc : Nat) (m : LinkMsg) (o : Origin) :
    (s.sendOr n tc m o).pace = s.pace := by
  unfold State.sendOr
  split
  next k =>
    cases h : s.sendMsg k tc m o with
    | none => rfl
    | some t => exact State.pace_of_sendMsg h
  · rfl

@[simp] theorem State.newXid_pace (s : State) (n : Nat) : (State.newXid s n).2.pace = s.pace := by
  simp [State.newXid]

@[simp] theorem State.fencePageIrq_pace (s : State) (i : Nat) : (State.fencePageIrq s i).pace = s.pace := by
  simp [State.fencePageIrq]

@[simp] theorem State.armFence_pace (s : State) (ctx i : Nat) : (State.armFence s ctx i).pace = s.pace := by
  simp [State.armFence]

@[simp] theorem State.fenceOk_pace (s : State) (i source : Nat) (v : Reg) :
    (State.fenceOk s i source v).pace = s.pace := by
  simp [State.fenceOk]

@[simp] theorem State.fenceErr_pace (s : State) (i source detail : Nat) :
    (State.fenceErr s i source detail).pace = s.pace := by
  simp [State.fenceErr]

@[simp] theorem State.setJob_pace (s : State) (j : Job) : (State.setJob s j).pace = s.pace := by
  simp [State.setJob]

@[simp] theorem State.releaseSeqs_pace (s : State) (j : Job) : (State.releaseSeqs s j).pace = s.pace := by
  simp [State.releaseSeqs]

@[simp] theorem State.finishJob_pace (s : State) (j : Job) (detail : Nat) :
    (State.finishJob s j detail).pace = s.pace := by
  simp [State.finishJob]

@[simp] theorem State.endJob_pace (s : State) (j : Job) (detail : Nat) : (State.endJob s j detail).pace = s.pace := by
  unfold State.endJob
  split <;> simp

@[simp] theorem State.outcome_pace (s : State) (sl t e : Nat) : (State.outcome s sl t e).pace = s.pace := by
  simp [State.outcome]

@[simp] theorem State.latAdd_pace (s : State) (die sl t since : Nat) :
    (State.latAdd s die sl t since).pace = s.pace := by
  simp [State.latAdd]

@[simp] theorem State.reqOpen_pace (s : State) (q : OpenReq) : (State.reqOpen s q).pace = s.pace := by
  simp [State.reqOpen]

@[simp] theorem State.onReq_pace (s : State) (port tag : Nat) (f : OpenReq → OpenReq) :
    (State.onReq s port tag f).pace = s.pace := by
  simp [State.onReq]

@[simp] theorem State.reqClose_pace (s : State) (port tag : Nat) (st : Status) :
    (State.reqClose s port tag st).pace = s.pace := by
  unfold State.reqClose
  split <;> simp

theorem filter_isTick_tileRsps (port tag : Nat) (st : Status) (granted : Nat) (datas : List Line) :
    (datas.map fun d => Output.tileRsp port tag st granted d).filter Output.isTick = [] := by
  simp [List.filter_map, List.filter_eq_nil_iff, Output.isTick]

@[simp] theorem State.tileRsps_pace (s : State) (port tag : Nat) (st : Status) (granted : Nat) (datas : List Line) :
    (s.tileRsps port tag st granted datas).pace = s.pace := by
  simp [State.tileRsps, filter_isTick_tileRsps]

@[simp] theorem State.tileRsp_pace (s : State) (port tag : Nat) (st : Status) (granted : Nat) (data : Line) :
    (State.tileRsp s port tag st granted data).pace = s.pace := by
  simp [State.tileRsp]

@[simp] theorem State.retryNote_pace (s : State) (u sl : Nat) (st : Status) :
    (State.retryNote s u sl st).pace = s.pace := by
  simp [State.retryNote]

@[simp] theorem State.tileRetry_pace (s : State) (port tag : Nat) : (State.tileRetry s port tag).pace = s.pace := by
  simp [State.tileRetry]

@[simp] theorem State.hostRsp_pace (s : State) (tag : Nat) (st : Status) (data : Line) :
    (State.hostRsp s tag st data).pace = s.pace := by
  simp [State.hostRsp]

@[simp] theorem State.closeWindow_pace (s : State) (w reason : Nat) : (State.closeWindow s w reason).pace = s.pace := by
  unfold State.closeWindow
  dsimp only
  repeat' split
  all_goals simp

@[simp] theorem State.kbAck_pace (s : State) (seq : Nat) (st : Status) : (State.kbAck s seq st).pace = s.pace := by
  simp [State.kbAck]

@[simp] theorem State.willLose_pace (s : State) (x cause : Nat) : (State.willLose s x cause).pace = s.pace := by
  simp [State.willLose]

@[simp] theorem State.clearTrace_pace (s : State) (c : Nat) : (State.clearTrace s c).pace = s.pace := by
  simp [State.clearTrace]

@[simp] theorem State.unbind_pace (s : State) (c : Nat) : (State.unbind s c).pace = s.pace := by
  unfold State.unbind
  split <;> simp

@[simp] theorem State.loseBinding_pace (s : State) (c cause : Nat) : (State.loseBinding s c cause).pace = s.pace := by
  unfold State.loseBinding
  repeat' split
  all_goals simp

@[simp] theorem State.loseContext_pace (s : State) (x cause : Nat) : (State.loseContext s x cause).pace = s.pace := by
  simp [State.loseContext]

@[simp] theorem State.freeSlot_pace (s : State) (c : Nat) : (State.freeSlot s c).pace = s.pace := by
  unfold State.freeSlot
  split <;> simp

@[simp] theorem State.setUrg_pace (s : State) (n : Nat) (u : Urgency) : (State.setUrg s n u).pace = s.pace := by
  simp [State.setUrg]

@[simp] theorem State.tineUses_pace (s : State) (tine : Option Nat) (i : Nat) :
    (State.tineUses s tine i).pace = s.pace := by
  unfold State.tineUses
  split <;> simp

@[simp] theorem State.memPut_pace (s : State) (p tag : Nat) (r : MemReq) : (State.memPut s p tag r).pace = s.pace := by
  simp [State.memPut]

@[simp] theorem State.memAsk_pace (s : State) (p : Nat) (r : MemReq) : (State.memAsk s p r).pace = s.pace := by
  unfold State.memAsk
  split <;> simp

@[simp] theorem State.guardRead_pace (s : State) (g : GuardOp) (m step : Nat) :
    (State.guardRead s g m step).pace = s.pace := by
  simp [State.guardRead]

@[simp] theorem State.guardWrite_pace (s : State) (g : GuardOp) (m step : Nat) (c : Sector) (hi : BitVec 32) :
    (State.guardWrite s g m step c hi).pace = s.pace := by
  simp [State.guardWrite]

@[simp] theorem State.setGuard_pace (s : State) (g : GuardOp) : (State.setGuard s g).pace = s.pace := by
  simp [State.setGuard]

@[simp] theorem State.fresh_pace (s : State) : (State.fresh s).2.pace = s.pace := by
  simp [State.fresh]

@[simp] theorem State.rekeyGuard_pace (s : State) (g : GuardOp) : (State.rekeyGuard s g).2.pace = s.pace := by
  simp [State.rekeyGuard]

@[simp] theorem State.toReconstruct_pace (s : State) (g : GuardOp) : (State.toReconstruct s g).pace = s.pace := by
  simp [State.toReconstruct]

@[simp] theorem State.fullStart_pace (s : State) (g : GuardOp) : (State.fullStart s g).pace = s.pace := by
  simp [State.fullStart]

@[simp] theorem State.guardStart_pace (s : State) (g : GuardOp) : (State.guardStart s g).pace = s.pace := by
  unfold State.guardStart
  dsimp only
  repeat' split
  all_goals simp

@[simp] theorem State.grantLocksN_pace (n : Nat) (s : State) (q : Nat) : (State.grantLocksN n s q).pace = s.pace := by
  induction n generalizing s with
  | zero => rfl
  | succ n ih =>
    unfold State.grantLocksN
    dsimp only
    repeat' split
    all_goals simp [ih]

@[simp] theorem State.grantLocks_pace (s : State) (q : Nat) : (State.grantLocks s q).pace = s.pace := by
  simp [State.grantLocks]

@[simp] theorem State.guardBegin_pace (s : State) (g : GuardOp) : (State.guardBegin s g).pace = s.pace := by
  simp [State.guardBegin]

@[simp] theorem State.guardEnd_pace (s : State) (g : GuardOp) : (State.guardEnd s g).pace = s.pace := by
  simp [State.guardEnd]

@[simp] theorem State.raiseRetired_pace (s : State) (p key : Nat) : (State.raiseRetired s p key).pace = s.pace := by
  simp [State.raiseRetired]

@[simp] theorem State.memRead_pace (s : State) (line mask key sl tc : Nat) (internal : Bool) (pur : MPurpose) :
    (State.memRead s line mask key sl tc internal pur).1.pace = s.pace := by
  unfold State.memRead
  dsimp only
  repeat' split
  all_goals simp

@[simp] theorem State.memWrite_pace (s : State) (line mask key sl tc : Nat) (internal : Bool) (plain : Line)
    (poison : Nat) (pur : MPurpose) (job : Option Nat) : (State.memWrite s line mask key sl tc internal plain poison pur job).1.pace = s.pace := by
  unfold State.memWrite
  dsimp only
  repeat' split
  all_goals simp

@[simp] theorem State.denied_pace (s : State) (h g sl k : Nat) : (State.denied s h g sl k).pace = s.pace := by
  simp [State.denied]

@[simp] theorem State.logDirty_pace (s : State) (line : Nat) : (State.logDirty s line).pace = s.pace := by
  simp [State.logDirty]

@[simp] theorem State.mirrorPut_pace (s : State) (h line sl key poison : Nat) (data : Line) :
    (State.mirrorPut s h line sl key poison data).pace = s.pace := by
  unfold State.mirrorPut
  split <;> simp

@[simp] theorem State.mirrorDrop_pace (s : State) (h line : Nat) : (State.mirrorDrop s h line).pace = s.pace := by
  unfold State.mirrorDrop
  split <;> simp

@[simp] theorem State.wbPush_pace (s : State) (h line sl key mask poison : Nat) (data : Line) (job : Option Nat) :
    (State.wbPush s h line sl key mask poison data job).pace = s.pace := by
  simp [State.wbPush]

@[simp] theorem State.cleanLine_pace (s : State) (h k : Nat) : (State.cleanLine s h k).pace = s.pace := by
  unfold State.cleanLine
  split <;> simp

@[simp] theorem State.evictWay_pace (s : State) (h k : Nat) : (State.evictWay s h k).pace = s.pace := by
  simp [State.evictWay]

@[simp] theorem State.roomFor_pace (s : State) (h line sl : Nat) : (State.roomFor s h line sl).1.pace = s.pace := by
  unfold State.roomFor
  dsimp only
  repeat' split
  all_goals simp

@[simp] theorem State.dirtyLine_pace (s : State) (h k : Nat) (l : LlcLine) :
    (State.dirtyLine s h k l).pace = s.pace := by
  simp [State.dirtyLine]

theorem State.pace_of_allocate {s t : State} {h line sl key poison k : Nat} {data : Line} {force : Bool}
    (ha : s.allocate h line sl key poison data force = some (t, k)) : t.pace = s.pace := by
  unfold State.allocate at ha
  split at ha
  · cases ha
  split at ha
  · cases ha
  · cases ha
    simp

@[simp] theorem State.takeDirty_pace (s : State) (h line sl key : Nat) (data : Line) :
    (s.takeDirty h line sl key data).pace = s.pace := by
  unfold State.takeDirty
  dsimp only
  split
  · rfl
  split
  · simp
  split
  next ha =>
    have hp := State.pace_of_allocate (of_ite_none ha)
    split <;> simp [hp]
  · simp

@[simp] theorem State.poisonQuiet_pace (s : State) (h line : Nat) : (State.poisonQuiet s h line).pace = s.pace := by
  unfold State.poisonQuiet
  split <;> simp

@[simp] theorem State.poisonLine_pace (s : State) (h line kind : Nat) :
    (State.poisonLine s h line kind).pace = s.pace := by
  simp [State.poisonLine]

@[simp] theorem State.lateWriteback_pace (s : State) (h line : Nat) (data : Line) :
    (State.lateWriteback s h line data).pace = s.pace := by
  simp [State.lateWriteback]

@[simp] theorem State.setFilt_pace (s : State) (h line : Nat) (e : FiltEntry) :
    (State.setFilt s h line e).pace = s.pace := by
  simp [State.setFilt]

@[simp] theorem State.sendSnoop_pace (s : State) (h line : Nat) (a : Bool × Nat) (ty : Nat) :
    (State.sendSnoop s h line a ty).1.pace = s.pace := by
  unfold State.sendSnoop
  split <;> simp

@[simp] theorem State.use_pace (s : State) (x : Option Nat) (rd wr hsl job : Nat) :
    (State.use s x rd wr hsl job).pace = s.pace := by
  unfold State.use
  split <;> simp

@[simp] theorem State.jobGets_pace (s : State) (id : Nat) (t : Txn) (st : Status) (data : Line) (poison : Nat) :
    (State.jobGets s id t st data poison).pace = s.pace := by
  unfold State.jobGets
  dsimp only
  repeat' split
  all_goals simp

@[simp] theorem State.remoteRsp_pace (s : State) (sa xid : Nat) (t : Txn) (st : Status) (granted : Nat) (data : Line) :
    (State.remoteRsp s sa xid t st granted data).pace = s.pace := by
  simp [State.remoteRsp]

@[simp] theorem State.countDone_pace (s : State) (t : Txn) (st : Status) : (State.countDone s t st).pace = s.pace := by
  unfold State.countDone
  dsimp only
  repeat' split
  all_goals simp

@[simp] theorem State.answer_pace (s : State) (t : Txn) (st : Status) (granted : Nat) (datas : List Line) (poison : Nat) :
    (State.answer s t st granted datas poison).pace = s.pace := by
  unfold State.answer
  split <;> simp

@[simp] theorem State.setTxn_pace (s : State) (t : Txn) : (State.setTxn s t).pace = s.pace := by
  simp [State.setTxn]

@[simp] theorem State.reserve_pace (s : State) (h : Nat) : (State.reserve s h).pace = s.pace := by
  unfold State.reserve
  dsimp only
  repeat' split
  all_goals simp

@[simp] theorem State.finish_pace (s : State) (t : Txn) (st : Status) (granted : Nat) (datas : List Line) (poison : Nat) :
    (State.finish s t st granted datas poison).pace = s.pace := by
  unfold State.finish
  dsimp only
  repeat' split
  all_goals simp

@[simp] theorem State.enter_pace (s : State) (t : Txn) : (State.enter s t).pace = s.pace := by
  simp [State.enter]

@[simp] theorem State.readDone_pace (s : State) (t : Txn) (data : Line) (poison fwd : Nat) (mem : Bool) :
    (s.readDone t data poison fwd mem).pace = s.pace := by
  unfold State.readDone
  extract_lets remote need bad moving fill bypass filled
  have hfilled : ∀ v k, filled = some (v, k) → v.pace = s.pace := fun v k hv => State.pace_of_allocate (of_ite_none' hv)
  clear_value filled
  split
  next u t' h =>
    have hu : u.pace = s.pace := by
      split at h
      · obtain ⟨rfl, -⟩ := Prod.mk.inj h
        simp [State.noteFill, hfilled _ _ rfl]
      · obtain ⟨rfl, -⟩ := Prod.mk.inj h
        rfl
    dsimp only
    repeat' split
    all_goals simp [hu]

@[simp] theorem State.scaleDone_pace (s : State) (t : Txn) : (State.scaleDone s t).pace = s.pace := by
  unfold State.scaleDone
  split <;> simp

@[simp] theorem State.toMemory_pace (s : State) (t : Txn) : (s.toMemory t).pace = s.pace := by
  unfold State.toMemory
  split <;> rename_i h <;> simp [pace_of_eq_fst h]

@[simp] theorem State.changeDone_pace (s : State) (t : Txn) (old : Line) :
    (State.changeDone s t old).pace = s.pace := by
  unfold State.changeDone
  split <;> simp

@[simp] theorem State.writeDone_pace (s : State) (t : Txn) (old : Line) (poison : Nat) :
    (s.writeDone t old poison).pace = s.pace := by
  unfold State.writeDone
  extract_lets key atom need full p' job
  clear_value key atom need full p' job
  split
  · simp
  split
  · simp
  split
  extract_lets res
  clear_value res
  split
  · simp
  split
  next h => simp [pace_of_eq_fst h]
  next u h =>
    have hu : u.pace = s.pace := by simp [pace_of_eq_fst h]
    extract_lets moving inLlc alloc placed m src v
    clear_value inLlc
    have hplaced : ∀ a k l, placed = some (a, k, l) → a.pace = s.pace := by
      intro a k l hp
      unfold placed at hp
      split at hp
      · split at hp <;> cases hp
        exact hu
      · split at hp
        · split at hp
          next ha =>
            obtain ⟨l, -, hl⟩ := Option.map_eq_some_iff.mp hp
            cases hl
            rw [State.pace_of_allocate ha, hu]
          · cases hp
        · cases hp
    have hv : v.pace = s.pace := by
      unfold v
      split <;> simp [hu]
    clear_value placed v
    split
    · simp [hplaced _ _ _ rfl]
    · simp [hv]

@[simp] theorem State.fetch_pace (s : State) (t : Txn) (mask : Nat) : (s.fetch t mask).pace = s.pace := by
  unfold State.fetch
  extract_lets u
  have hu : u.pace = s.pace := by simp [u]
  split <;> rename_i h <;> simp [pace_of_eq_fst h, hu]

@[simp] theorem State.toRemote_pace (s : State) (t : Txn) : (s.toRemote t).pace = s.pace := by
  unfold State.toRemote
  extract_lets a half kind port
  split
  clear_value half port a
  split
  · simp
  split
  next h =>
    have hx := pace_of_eq_snd h
    rw [State.newXid_pace] at hx
    extract_lets base
    clear_value base
    split
    extract_lets data m
    clear_value data m
    split
    · simp [hx]
    next hm =>
      have hu := State.pace_of_sendMsg hm
      extract_lets r v msn t'
      clear_value t'
      have hv : v.pace = s.pace := by simp [v, hu, hx]
      split <;> simp [hv]

theorem State.pace_of_filterRoom {s u : State} {t : Txn} {l : Nat} (h : s.filterRoom t = some (u, l)) :
    u.pace = s.pace := by
  unfold State.filterRoom at h
  extract_lets at h
  split at h
  · cases h
  · obtain ⟨e, -, he⟩ := Option.map_eq_some_iff.mp h
    cases he
    simp

@[simp] theorem State.snoopDirty_pace (s : State) (t : Txn) (d : Line) : (State.snoopDirty s t d).pace = s.pace := by
  simp [State.snoopDirty]

@[simp] theorem State.dirtyWait_pace (s : State) (t : Txn) : (State.dirtyWait s t).1.pace = s.pace := by
  unfold State.dirtyWait
  split <;> simp

@[simp] theorem State.evictFar_pace (s : State) (t : Txn) (d : Line) : (State.evictFar s t d).pace = s.pace := by
  unfold State.evictFar
  split <;> simp

theorem State.gotDirty_pace (s : State) (t : Txn) (f : State → Txn → Line → State) (hf : ∀ s t d, (f s t d).pace = s.pace) :
    (match t.got with
      | some d => if t.gotDirty then f s t d else s
      | none => s).pace = s.pace := by
  split
  · split
    · exact hf s t _
    · rfl
  · rfl

@[simp] theorem State.snooped_pace (s : State) (t : Txn) : (s.snooped t).pace = s.pace := by
  unfold State.snooped
  extract_lets e remote fwd t₁ need
  clear_value e
  split
  next h => simp [pace_of_eq_fst h]
  next u h =>
    have hu : u.pace = s.pace := by simp [pace_of_eq_fst h]
    clear h
    have hdirty := State.gotDirty_pace u t State.snoopDirty State.snoopDirty_pace
    rw [← hu]
    split
    · simp
    split
    · simp
    split
    case h_1 | h_2 | h_3 | h_4 =>
      split
      · rw [State.toRemote_pace, State.setFilt_pace]
        exact State.gotDirty_pace u t State.evictFar State.evictFar_pace
      split
      · rw [State.finish_pace, State.setFilt_pace]
        exact hdirty
      split
      · extract_lets v
        split
        · simp
        · rw [State.readDone_pace]
          unfold v
          split <;> simp
      · split
        · simp
        · split <;> simp
    case h_5 | h_6 =>
      split
      · simp
      · extract_lets v w
        have hw : w.pace = u.pace := by
          refine (State.gotDirty_pace v t State.snoopDirty State.snoopDirty_pace).trans ?_
          simp [v]
        split
        · split <;> simp [hw]
        · split <;> simp [hw]
    case h_7 =>
      split
      · simp
      · extract_lets v w y
        have hw : w.pace = u.pace := by
          refine (State.gotDirty_pace v t State.snoopDirty State.snoopDirty_pace).trans ?_
          simp [v]
        have hy : y.pace = u.pace := by
          unfold y
          split <;> simp [hw]
        split <;> simp [hy]
    case h_8 =>
      rw [State.finish_pace, State.setFilt_pace]
      refine State.gotDirty_pace u t (fun s t d => if remote then s.evictFar t d else s.snoopDirty t d) (fun s t d => ?_)
      show (if remote then s.evictFar t d else s.snoopDirty t d).pace = s.pace
      split <;> simp
    case h_9 =>
      extract_lets v w x y z z'
      have hx : x.pace = u.pace := by
        unfold x
        split <;> simp [v]
      have hz : z'.pace = u.pace := by
        unfold z'
        split <;> simp [z, hx]
      simp [hz]
    all_goals rfl

@[simp] theorem State.evict_pace (s : State) (t : Txn) : (State.evict s t).pace = s.pace := by
  unfold State.evict
  repeat' split
  all_goals simp

@[simp] theorem State.proxyTakes_pace (s : State) (t : Txn) : (State.proxyTakes s t).1.pace = s.pace := by
  unfold State.proxyTakes
  split <;> simp

@[simp] theorem State.start_pace (s : State) (t : Txn) : (s.start t).pace = s.pace := by
  have hroom : ∀ (c : Prop) [Decidable c] u w, (if c then s.roomFor t.home t.line (s.lineSlice t.line) else (s, none)) = (u, w) →
      u.pace = s.pace := by
    intro c _ u w h
    split at h
    · simp [pace_of_eq_fst h]
    · cases h
      rfl
  unfold State.start
  dsimp only
  split
  · split
    · simp
    split
    · simp
    split
    next h => simp [hroom _ _ _ h]
    next h => simp [hroom _ _ _ h]
  · split
    · simp
    split
    · simp
    split
    next h => simp [hroom _ _ _ h]
    next h => simp [hroom _ _ _ h]
  · split
    next h => simp [State.pace_of_filterRoom h]
    · simp

@[simp] theorem State.move_pace (s : State) (t : Txn) : (s.move t).pace = s.pace := by
  unfold State.move
  split
  · rfl
  · simp
  · simp
  · split
    · split <;> simp
    · split
      · split <;> simp
      · simp
  · split
    · split <;> simp
    · rfl
  · simp
  · simp

@[simp] theorem State.settleN_pace (n : Nat) (s : State) : (State.settleN n s).pace = s.pace := by
  induction n generalizing s with
  | zero => rfl
  | succ n ih =>
    unfold State.settleN
    split <;> simp [ih]

@[simp] theorem State.settle_pace (s : State) : (State.settle s).pace = s.pace := by
  simp [State.settle]

@[simp] theorem State.admitTxn_pace (s : State) (t : Txn) (fn : Option Nat) : (s.admitTxn t fn).pace = s.pace := by
  unfold State.admitTxn
  extract_lets remote g evict op e
  clear_value evict op e
  split
  · simp
  extract_lets h0
  split
  · simp
  split
  · simp
  split
  · split
    · dsimp only
      split <;> simp
    · simp
  · split
    · simp
    extract_lets t' cnt isRemote q oi held unclaimed cls early full q' _ s1 inst overB s2 s3 s4 s5 t2 busy owns absorb s6 s7
    have h1 : s1.pace = s.pace := by
      unfold s1
      split <;> simp
    have h2 : s2.pace = s.pace := by
      unfold s2
      split <;> simp [h1]
    have h5 : s5.pace = s.pace := by
      unfold s5 s4 s3
      split <;> simp [h2]
    have h6 : s6.pace = s.pace := by
      unfold s6
      split <;> simp [h5]
    have h7 : s7.pace = s.pace := by
      unfold s7
      split <;> simp [h6]
    clear_value s7
    split <;> simp [h7]

@[simp] theorem State.tableCache_pace (s : State) (h tl : Nat) : (State.tableCache s h tl).pace = s.pace := by
  simp [State.tableCache]

@[simp] theorem State.tableBack_pace (s : State) (h tl : Nat) : (State.tableBack s h tl).pace = s.pace := by
  simp [State.tableBack]

@[simp] theorem State.tableAsk_pace (s : State) (h : Nat) (t : Txn) (fn : Option Nat) :
    (s.tableAsk h t fn).pace = s.pace := by
  unfold State.tableAsk
  dsimp only
  split
  · simp
  · split <;> rename_i hm <;> simp [pace_of_eq_fst hm]

@[simp] theorem State.accept_pace (s : State) (t : Txn) (fn : Option Nat) : (State.accept s t fn).pace = s.pace := by
  unfold State.accept
  dsimp only
  split <;> simp

@[simp] theorem State.tlbPut_pace (s : State) (die k : Nat) : (s.tlbPut die k).pace = s.pace := by
  have hset : ∀ m, ({ s with seqTlb := m } : State).pace = s.pace := fun _ => rfl
  exact hset _

@[simp] theorem State.tlbDrop_pace (s : State) (gone : Nat → Bool) : (State.tlbDrop s gone).pace = s.pace := by
  simp [State.tlbDrop]

@[simp] theorem State.seqGo_pace (s : State) (t : Txn) (a : Nat) : (State.seqGo s t a).pace = s.pace := by
  unfold State.seqGo
  dsimp only
  repeat' split
  all_goals simp

@[simp] theorem State.seqRead_pace (s : State) (t : Txn) (a key : Nat) (second : Bool) :
    (State.seqRead s t a key second).pace = s.pace := by
  unfold State.seqRead
  dsimp only
  repeat' split
  all_goals simp

@[simp] theorem State.seqStep_pace (s : State) (t : Txn) : (State.seqStep s t).pace = s.pace := by
  simp [State.seqStep]

@[simp] theorem State.seqPumpN_pace (n : Nat) (s : State) : (State.seqPumpN n s).pace = s.pace := by
  induction n generalizing s with
  | zero => rfl
  | succ n ih =>
    unfold State.seqPumpN
    split <;> simp [ih]

@[simp] theorem State.seqPump_pace (s : State) : (State.seqPump s).pace = s.pace := by
  simp [State.seqPump]

@[simp] theorem State.seqAsk_pace (s : State) (t : Txn) (a : Nat) : (State.seqAsk s t a).pace = s.pace := by
  simp [State.seqAsk]

@[simp] theorem State.portRaise_pace (s : State) (i kind : Nat) (isolating : Bool) :
    (State.portRaise s i kind isolating).pace = s.pace := by
  unfold State.portRaise
  repeat' split
  all_goals simp

@[simp] theorem State.orphan_pace (s : State) (p : Origin → Bool) : (State.orphan s p).pace = s.pace := by
  simp [State.orphan]

@[simp] theorem State.isolateOnly_pace (s : State) (i kind : Nat) : (State.isolateOnly s i kind).pace = s.pace := by
  unfold State.isolateOnly
  dsimp only
  repeat' split
  all_goals simp

@[simp] theorem State.isolate_pace (s : State) (i kind : Nat) : (State.isolate s i kind).pace = s.pace := by
  simp [State.isolate]

@[simp] theorem State.portEvent_pace (s : State) (i kind : Nat) (loud : Bool) :
    (State.portEvent s i kind loud).pace = s.pace := by
  simp [State.portEvent]

@[simp] theorem State.ctxStateLost_pace (s : State) (x : Nat) : (State.ctxStateLost s x).pace = s.pace := by
  simp [State.ctxStateLost]

@[simp] theorem State.reenablePort_pace (s : State) (i : Nat) : (State.reenablePort s i).pace = s.pace := by
  simp [State.reenablePort]

@[simp] theorem State.tagHoldEnd_pace (s : State) (i : Nat) : (State.tagHoldEnd s i).pace = s.pace := by
  simp [State.tagHoldEnd]

@[simp] theorem State.memCount_pace (s : State) (p kind : Nat) : (State.memCount s p kind).pace = s.pace := by
  simp [State.memCount]

@[simp] theorem State.memRaise_pace (s : State) (line k kind cls : Nat) :
    (State.memRaise s line k kind cls).pace = s.pace := by
  simp [State.memRaise]

@[simp] theorem State.noteFixed_pace (s : State) (line k : Nat) (fixed : Bool) :
    (State.noteFixed s line k fixed).pace = s.pace := by
  simp [State.noteFixed]

@[simp] theorem State.gather_pace (s : State) (pur : MPurpose) (k : Nat) (d : Sector) (bad : Bool) :
    (State.gather s pur k d bad).pace = s.pace := by
  unfold State.gather
  dsimp only
  repeat' split
  all_goals simp

@[simp] theorem State.atomAtMemory_pace (s : State) (t : Txn) (l : Line) (poison : Nat) :
    (s.atomAtMemory t l poison).pace = s.pace := by
  unfold State.atomAtMemory
  dsimp only
  split
  · simp
  split
  · simp
  · split <;> rename_i h <;> simp [pace_of_eq_fst h]

@[simp] theorem State.gathered_pace (s : State) (pur : MPurpose) : (State.gathered s pur).pace = s.pace := by
  unfold State.gathered
  repeat' split
  all_goals simp

@[simp] theorem State.lineWritten_pace (s : State) (h line : Nat) : (State.lineWritten s h line).pace = s.pace := by
  simp [State.lineWritten]

@[simp] theorem State.flushedAck_pace (s : State) (h line : Nat) : (State.flushedAck s h line).pace = s.pace := by
  unfold State.flushedAck
  dsimp only
  repeat' split
  all_goals simp

@[simp] theorem State.written_pace (s : State) (pur : MPurpose) : (State.written s pur).pace = s.pace := by
  unfold State.written
  repeat' split
  all_goals simp

@[simp] theorem State.fullPart_pace (s : State) (stripe m : Nat) : (State.fullPart s stripe m).pace = s.pace := by
  unfold State.fullPart
  split <;> simp

@[simp] theorem State.guardDone_pace (s : State) (g : GuardOp) : (State.guardDone s g).pace = s.pace := by
  unfold State.guardDone
  split <;> simp

@[simp] theorem State.memPoison_pace (s : State) (line mask : Nat) : (State.memPoison s line mask).pace = s.pace := by
  unfold State.memPoison
  split <;> simp

@[simp] theorem State.guardData_pace (s : State) (g : GuardOp) : (State.guardData s g).pace = s.pace := by
  simp [State.guardData]

@[simp] theorem State.guardAlone_pace (s : State) (g : GuardOp) : (State.guardAlone s g).pace = s.pace := by
  simp [State.guardAlone]

@[simp] theorem State.reconstructOr_pace (s : State) (g : GuardOp) : (State.reconstructOr s g).pace = s.pace := by
  simp [State.reconstructOr]

@[simp] theorem State.rebuiltJudge_pace (s : State) (g : GuardOp) (c : Sector) (hi : BitVec 32) :
    (State.rebuiltJudge s g c hi).pace = s.pace := by
  simp [State.rebuiltJudge]

@[simp] theorem State.guardGot_pace (s : State) (g : GuardOp) (step : Nat) (raw : Option (Sector × BitVec 32)) (kind : Nat) :
    (s.guardGot g step raw kind).pace = s.pace := by
  unfold State.guardGot
  split
  split
  · rfl
  · split
    · simp
    · split <;> simp
  · split <;> simp
  · simp
  · extract_lets m par g0
    clear_value m par g0
    split
    extract_lets key fails s1
    have h1 : s1.pace = s.pace := by unfold s1; split <;> simp
    clear_value key fails s1
    split
    extract_lets g2 s2 s3
    have h2 : s2.pace = s.pace := by unfold s2; simp [h1]
    have h3 : s3.pace = s.pace := by unfold s3; simp [h2]
    clear_value g2 s2 s3
    split
    · exact h2
    split
    · split <;> simp [h2]
    · dsimp only
      split <;> simp [h3]
    · rw [foldl_pace, State.guardDone_pace, h2]
      intro s b
      simp
  · dsimp only
    split
    · simp
    split
    · simp
    · split <;> simp
    · split <;> simp

@[simp] theorem State.guardAck_pace (s : State) (g : GuardOp) (step : Nat) :
    (State.guardAck s g step).pace = s.pace := by
  simp [State.guardAck]

@[simp] theorem State.sectorBack_pace (s : State) (r : MemReq) (k : Nat) (bad : Bool) (c : Sector) (sb : BitVec 64) :
    (State.sectorBack s r k bad c sb).pace = s.pace := by
  unfold State.sectorBack
  repeat' split
  all_goals simp

@[simp] theorem State.readBack_pace (s : State) (r : MemReq) (x : MpReturn) : (State.readBack s r x).pace = s.pace := by
  unfold State.readBack
  repeat' split
  all_goals simp

@[simp] theorem State.ackBack_pace (s : State) (r : MemReq) : (State.ackBack s r).pace = s.pace := by
  unfold State.ackBack
  repeat' split
  all_goals simp

@[simp] theorem State.takeTag_pace (s : State) (p tag : Nat) (write : Bool) :
    (State.takeTag s p tag write).1.pace = s.pace := by
  unfold State.takeTag
  dsimp only
  repeat' split
  all_goals simp

@[simp] theorem State.guardOnLoss_pace (s : State) (p : Nat) (g : GuardOp) :
    (State.guardOnLoss s p g).pace = s.pace := by
  unfold State.guardOnLoss
  split <;> simp

@[simp] theorem State.resolveLost_pace (s : State) (p : Nat) (r : MemReq) :
    (State.resolveLost s p r).pace = s.pace := by
  unfold State.resolveLost
  repeat' split
  all_goals simp

@[simp] theorem State.loseStack_pace (s : State) (p : Nat) (say : Bool) : (s.loseStack p say).pace = s.pace := by
  unfold State.loseStack
  split
  · rfl
  · dsimp only
    rw [State.settle_pace, foldl_pace (fun s r => State.resolveLost_pace s p r), foldl_pace]
    · simp
    · intro s id
      split <;> simp

@[simp] theorem State.sampleReturn_pace (s : State) (p q rtt : Nat) (read : Bool) :
    (State.sampleReturn s p q rtt read).pace = s.pace := by
  simp [State.sampleReturn]

@[simp] theorem State.memReturn_pace (s : State) (p : Nat) (r : MpReturn) : (s.memReturn p r).pace = s.pace := by
  unfold State.memReturn
  dsimp only
  split
  · rfl
  split
  · simp
  split
  · simp
  · split <;> rename_i h <;> simp [pace_of_eq_fst h]

@[simp] theorem State.memAckd_pace (s : State) (p tag : Nat) (cparOk inGrant : Bool) :
    (s.memAckd p tag cparOk inGrant).pace = s.pace := by
  unfold State.memAckd
  dsimp only
  split
  · rfl
  split
  · simp
  split
  · simp
  · split <;> rename_i h <;> simp [pace_of_eq_fst h]

@[simp] theorem State.poisonTxn_pace (s : State) (t : Txn) (n : Snoop) (kind : Option Nat) :
    (State.poisonTxn s t n kind).pace = s.pace := by
  unfold State.poisonTxn
  dsimp only
  repeat' split
  all_goals simp

@[simp] theorem State.takeAnswer_pace (s : State) (t : Txn) (n : Snoop) (resp : Nat) (data : Line) :
    (State.takeAnswer s t n resp data).pace = s.pace := by
  simp [State.takeAnswer]

@[simp] theorem State.setProxy_pace (s : State) (x : ProxySnoop) : (State.setProxy s x).pace = s.pace := by
  simp [State.setProxy]

@[simp] theorem State.proxyDone_pace (s : State) (x : ProxySnoop) : (State.proxyDone s x).pace = s.pace := by
  simp [State.proxyDone]

@[simp] theorem State.proxyAnswer_pace (s : State) (x : ProxySnoop) (n : Snoop) (resp : Nat) (data : Line) (bad : Bool) :
    (State.proxyAnswer s x n resp data bad).pace = s.pace := by
  simp [State.proxyAnswer]

@[simp] theorem State.srsp_pace (s : State) (port : Nat) (r : SnpResp) : (State.srsp s port r).pace = s.pace := by
  unfold State.srsp
  dsimp only
  repeat' split
  all_goals simp

@[simp] theorem State.flushStart_pace (s : State) (name h : Nat) (set : Option Nat) (standIn : Bool) :
    (State.flushStart s name h set standIn).pace = s.pace := by
  simp [State.flushStart]

@[simp] theorem State.setFlush_pace (s : State) (f : Flush) : (State.setFlush s f).pace = s.pace := by
  simp [State.setFlush]

@[simp] theorem State.flushEnd_pace (s : State) (f : Flush) : (State.flushEnd s f).pace = s.pace := by
  unfold State.flushEnd
  repeat' split
  all_goals simp

@[simp] theorem State.flushPort_pace (s : State) (name port : Nat) : (State.flushPort s name port).pace = s.pace := by
  simp [State.flushPort]

@[simp] theorem State.addRepair_pace (s : State) (u op array element spare : Nat) :
    (State.addRepair s u op array element spare).pace = s.pace := by
  simp [State.addRepair]

@[simp] theorem State.tileSay_pace (s : State) (port tag : Nat) (st : Status) :
    (State.tileSay s port tag st).pace = s.pace := by
  simp [State.tileSay]

@[simp] theorem State.brokenBeat_pace (s : State) (port : Nat) : (State.brokenBeat s port).pace = s.pace := by
  unfold State.brokenBeat
  split <;> simp

@[simp] theorem State.reqFault_pace (s : State) (port : Nat) (r : TpReq) (proto : Bool) :
    (State.reqFault s port r proto).pace = s.pace := by
  simp [State.reqFault]

@[simp] theorem State.tileOpen_pace (s : State) (port tag tc : Nat) (read : Bool) :
    (State.tileOpen s port tag tc read).pace = s.pace := by
  simp [State.tileOpen]

@[simp] theorem State.tileEnter_pace (s : State) (port op : Nat) (r : TpReq) :
    (State.tileEnter s port op r).1.pace = s.pace := by
  unfold State.tileEnter
  dsimp only
  repeat' split
  all_goals simp

@[simp] theorem State.beyond_pace (s : State) (port tag : Nat) (bad : Bool) (b : Bound) (tc a op sub kind count len : Nat)
    (data : Line)
    (be : BitVec 64) : (s.beyond port tag bad b tc a op sub kind count len data be).pace = s.pace := by
  unfold State.beyond
  dsimp only
  split
  · simp
  split
  · simp
  split
  · simp
  split
  · simp
  next hm => simp [State.pace_of_sendMsg hm]

@[simp] theorem State.serveRead_pace (s : State) (port : Nat) (op : TOp) (r : TpReq) (b : Bound) (held : Bool) :
    (State.serveRead s port op r b held).pace = s.pace := by
  simp [State.serveRead]

@[simp] theorem State.serveSeq_pace (s : State) (port : Nat) (r : TpReq) (b : Bound) (held : Bool) :
    (State.serveSeq s port r b held).pace = s.pace := by
  simp [State.serveSeq]

@[simp] theorem State.serveWrite_pace (s : State) (port : Nat) (r : TpReq) (b : Bound) (held : Bool) :
    (State.serveWrite s port r b held).pace = s.pace := by
  simp [State.serveWrite]

@[simp] theorem State.serveAtomic_pace (s : State) (port : Nat) (op : TOp) (r : TpReq) (b : Bound) (held : Bool) :
    (State.serveAtomic s port op r b held).pace = s.pace := by
  unfold State.serveAtomic
  split <;> simp

@[simp] theorem State.evictGo_pace (s : State) (t : Txn) (asked : Nat) : (State.evictGo s t asked).pace = s.pace := by
  simp [State.evictGo]

@[simp] theorem State.evictDirtyBeat_pace (s : State) (port : Nat) (r : TpReq) :
    (State.evictDirtyBeat s port r).pace = s.pace := by
  unfold State.evictDirtyBeat
  repeat' split
  all_goals simp

@[simp] theorem State.evictCleanReq_pace (s : State) (port : Nat) (r : TpReq) :
    (s.evictCleanReq port r).pace = s.pace := by
  unfold State.evictCleanReq
  split <;> rename_i h <;> simp [pace_of_eq_fst h]

@[simp] theorem State.flushDoneReq_pace (s : State) (port : Nat) (r : TpReq) :
    (s.flushDoneReq port r).pace = s.pace := by
  unfold State.flushDoneReq
  split <;> rename_i h <;> simp [pace_of_eq_fst h]

end Sys2Proof.Machine
end

section
/-! The operations of windows, jobs, sequences, contexts, keys, ownership and the host port keep the pace of the block. -/

namespace Sys2Proof.Machine

@[simp] theorem State.makeShadowRoom_pace (s : State) (x : Window) (places : List (Nat × Nat)) :
    (s.makeShadowRoom x places).pace = s.pace := by
  refine foldl_pace (fun s p => foldl_pace (fun s w => ?_) _ s) _ s
  split <;> simp

@[simp] theorem State.recallRange_pace (s : State) (lo hi sl : Nat) :
    (State.recallRange s lo hi sl).1.pace = s.pace := by
  simp [State.recallRange]

@[simp] theorem State.windowOpen_pace (s : State) (port : Nat) (r : TpReq) (b : Bound) (c : RwCtl) :
    (State.windowOpen s port r b c).pace = s.pace := by
  unfold State.windowOpen
  dsimp only
  repeat' split
  all_goals simp

@[simp] theorem State.windowClose_pace (s : State) (port : Nat) (r : TpReq) (b : Bound) :
    (State.windowClose s port r b).pace = s.pace := by
  unfold State.windowClose
  dsimp only
  repeat' split
  all_goals simp

@[simp] theorem State.contribute_pace (s : State) (a sl : Nat) (fn : Option Nat) (merged : Option (Bool × List
    (BitVec 32))) (sec : Sector) (cnt : Nat) (bad : Bool) : (State.contribute s a sl fn merged sec cnt bad).1.pace = s.pace := by
  unfold State.contribute
  dsimp only
  repeat' split
  all_goals simp

@[simp] theorem State.tileContrib_pace (s : State) (port : Nat) (r : TpReq) (b : Bound) :
    (s.tileContrib port r b).pace = s.pace := by
  unfold State.tileContrib
  dsimp only
  split
  · simp
  split
  · simp
  split
  · split
    · simp
    split
    · simp
    split
    · simp
    next hm => simp [State.pace_of_sendMsg hm]
  · simp

@[simp] theorem State.serveReduce_pace (s : State) (port : Nat) (r : TpReq) (b : Bound) :
    (State.serveReduce s port r b).pace = s.pace := by
  simp [State.serveReduce]

@[simp] theorem State.internalWrite_pace (s : State) (line d be : Nat) (o : Origin) :
    (State.internalWrite s line d be o).1.pace = s.pace := by
  simp [State.internalWrite]

@[simp] theorem State.windowRedo_pace (s : State) (w : Nat) : (s.windowRedo w).pace = s.pace := by
  unfold State.windowRedo
  rw [foldl_pace, State.setWin_pace]
  intro s o
  dsimp only
  split
  · split <;> rename_i h <;> simp [pace_of_eq_fst h]
  · rfl

@[simp] theorem State.mergeForward_pace (s : State) (die i : Nat) : (State.mergeForward s die i).pace = s.pace := by
  unfold State.mergeForward
  dsimp only
  repeat' split
  all_goals simp

@[simp] theorem State.submitJob_pace (s : State) (x port : Nat) (d : List Reg) :
    (State.submitJob s x port d).1.pace = s.pace := by
  unfold State.submitJob
  dsimp only
  repeat' split
  all_goals simp

@[simp] theorem State.jobStop_pace (s : State) (id detail : Nat) : (State.jobStop s id detail).pace = s.pace := by
  unfold State.jobStop
  split <;> simp

@[simp] theorem State.jobWrite_pace (s : State) (id line : Nat) (d : Line) (be : BitVec 128)
    (alloc internal mark : Bool) : (State.jobWrite s id line d be alloc internal mark).pace = s.pace := by
  unfold State.jobWrite
  dsimp only
  repeat' split
  all_goals simp

@[simp] theorem State.jobPut_pace (s : State) (id a n v : Nat) (alloc internal mark : Bool) :
    (State.jobPut s id a n v alloc internal mark).pace = s.pace := by
  simp [State.jobPut]

@[simp] theorem State.dropPage_pace (s : State) (sl p : Nat) : (State.dropPage s sl p).1.pace = s.pace := by
  unfold State.dropPage
  dsimp only
  repeat' split
  all_goals simp

@[simp] theorem State.seqSaveFor_pace (s : State) (sl : Nat) (job : Option Nat) :
    (State.seqSaveFor s sl job).pace = s.pace := by
  unfold State.seqSaveFor
  split <;> simp

@[simp] theorem State.seqSave_pace (s : State) (sl : Nat) : (State.seqSave s sl).pace = s.pace := by
  simp [State.seqSave]

@[simp] theorem State.tablePiece_pace (s : State) (sl : Nat) : (State.tablePiece s sl).pace = s.pace := by
  simp [State.tablePiece]

@[simp] theorem State.seqStop_pace (s : State) (j : Job) (detail : Nat) : (State.seqStop s j detail).pace = s.pace := by
  unfold State.seqStop
  split <;> simp

@[simp] theorem State.pageTimeout_pace (s : State) (id : Nat) : (State.pageTimeout s id).pace = s.pace := by
  unfold State.pageTimeout
  repeat' split
  all_goals simp

@[simp] theorem State.seqLayout_pace (s : State) (sl : Nat) : (State.seqLayout s sl).pace = s.pace := by
  simp [State.seqLayout]

@[simp] theorem State.seqJobsEnd_pace (s : State) (sl : Nat) : (State.seqJobsEnd s sl).pace = s.pace := by
  simp [State.seqJobsEnd]

@[simp] theorem State.seqCloseNow_pace (s : State) (sl : Nat) : (State.seqCloseNow s sl).pace = s.pace := by
  simp [State.seqCloseNow]

@[simp] theorem State.seqApply_pace (s : State) (sl : Nat) : (State.seqApply s sl).pace = s.pace := by
  unfold State.seqApply
  dsimp only
  repeat' split
  all_goals simp

@[simp] theorem State.tileSubmit_pace (s : State) (port : Nat) (r : TpReq) (b : Bound) :
    (State.tileSubmit s port r b).pace = s.pace := by
  simp [State.tileSubmit]

@[simp] theorem State.ctxCreate_pace (s : State) (f a0 : Nat) (arg1 : Reg) :
    (State.ctxCreate s f a0 arg1).1.pace = s.pace := by
  unfold State.ctxCreate
  dsimp only
  repeat' split
  all_goals simp

@[simp] theorem State.ctxLoad_pace (s : State) (f x : Nat) : (State.ctxLoad s f x).1.pace = s.pace := by
  unfold State.ctxLoad
  dsimp only
  repeat' split
  all_goals simp

@[simp] theorem State.ctxOp_pace (s : State) (op x key f : Nat) : (State.ctxOp s op x key f).1.pace = s.pace := by
  unfold State.ctxOp
  dsimp only
  repeat' split
  all_goals simp

@[simp] theorem State.ctxApply_pace (s : State) (f : Nat) : (State.ctxApply s f).pace = s.pace := by
  unfold State.ctxApply
  dsimp only
  repeat' split
  all_goals simp

@[simp] theorem State.ctxCmd_pace (s : State) (f tag op : Nat) : (State.ctxCmd s f tag op).pace = s.pace := by
  simp [State.ctxCmd]

@[simp] theorem State.discardRange_pace (s : State) (first count : Nat) :
    (State.discardRange s first count).pace = s.pace := by
  simp [State.discardRange]

@[simp] theorem State.objLost_pace (s : State) (f : Nat) (ty sub : Nat) : (State.objLost s f ty sub).pace = s.pace := by
  simp [State.objLost]

@[simp] theorem State.objCreate_pace (s : State) (f : Nat) (arg : Reg) : (State.objCreate s f arg).1.pace = s.pace := by
  unfold State.objCreate
  dsimp only
  repeat' split
  all_goals simp

@[simp] theorem State.objCmd_pace (s : State) (f tag op o gen : Nat) :
    (State.objCmd s f tag op o gen).pace = s.pace := by
  simp [State.objCmd]

@[simp] theorem State.drainedRead_pace (s : State) (f : Nat) : (State.drainedRead s f).2.pace = s.pace := by
  simp [State.drainedRead]

@[simp] theorem State.fpageApply_pace (s : State) : (State.fpageApply s).pace = s.pace := by
  unfold State.fpageApply
  split <;> simp

@[simp] theorem State.kfenceArm_pace (s : State) (f tag c fence : Nat) :
    (State.kfenceArm s f tag c fence).pace = s.pace := by
  unfold State.kfenceArm
  split <;> simp

@[simp] theorem State.usageAsk_pace (s : State) (f x : Nat) : (State.usageAsk s f x).pace = s.pace := by
  simp [State.usageAsk]

@[simp] theorem State.usageCapture_pace (s : State) (f : Nat) : (State.usageCapture s f).pace = s.pace := by
  simp [State.usageCapture]

@[simp] theorem State.drainedRsp_pace (s : State) (f tag : Nat) : (State.drainedRsp s f tag).pace = s.pace := by
  simp [State.drainedRsp]

@[simp] theorem State.usageReq_pace (s : State) (f tag ctx : Nat) : (State.usageReq s f tag ctx).pace = s.pace := by
  simp [State.usageReq]

@[simp] theorem State.draw_pace (s : State) : (State.draw s).2.pace = s.pace := by
  simp [State.draw]

@[simp] theorem State.slotMaterialN_pace (fuel : Nat) (s : State) (k n : Nat) :
    (State.slotMaterialN fuel s k n).2.2.pace = s.pace := by
  induction fuel generalizing s n with
  | zero => rfl
  | succ fuel ih =>
    unfold State.slotMaterialN
    dsimp only
    split <;> simp [ih]

@[simp] theorem State.slotMaterial_pace (s : State) (k : Nat) : (State.slotMaterial s k).2.2.pace = s.pace := by
  simp [State.slotMaterial]

@[simp] theorem State.vltRaise_pace (s : State) (kind cls : Nat) (sl : Nat) (sub : Nat) (v : Nat) :
    (State.vltRaise s kind cls sl sub v).pace = s.pace := by
  simp [State.vltRaise]

@[simp] theorem State.deriveMeasured_pace (s : State) : (State.deriveMeasured s).pace = s.pace := by
  simp [State.deriveMeasured]

@[simp] theorem State.loadSystem_pace (s : State) (k : Nat) (m : BitVec 832) (n : Nat) :
    (State.loadSystem s k m n).pace = s.pace := by
  simp [State.loadSystem]

@[simp] theorem State.draw832_pace (s : State) : (State.draw832 s).2.pace = s.pace := by
  simp [State.draw832]

@[simp] theorem State.drawKeyN_pace (n : Nat) (s : State) : (State.drawKeyN n s).2.pace = s.pace := by
  induction n generalizing s with
  | zero => simp [State.drawKeyN]
  | succ n ih =>
    unfold State.drawKeyN
    dsimp only
    split <;> simp [ih]

@[simp] theorem State.vaultApply_pace (s : State) : (State.vaultApply s).pace = s.pace := by
  simp [State.vaultApply]

@[simp] theorem State.keyCmdDone_pace (s : State) (res id : Nat) : (State.keyCmdDone s res id).pace = s.pace := by
  simp [State.keyCmdDone]

@[simp] theorem State.stageKey_pace (s : State) (k fn : Nat) : (State.stageKey s k fn).pace = s.pace := by
  simp [State.stageKey]

@[simp] theorem State.keyCmdApply_pace (s : State) : (State.keyCmdApply s).pace = s.pace := by
  unfold State.keyCmdApply
  split <;> simp

@[simp] theorem State.loadReport_pace (s : State) (k res : Nat) : (State.loadReport s k res).pace = s.pace := by
  unfold State.loadReport
  split <;> simp

@[simp] theorem State.keySwap_pace (s : State) (k : Nat) (differs : Option Nat) :
    (State.keySwap s k differs).pace = s.pace := by
  unfold State.keySwap
  split <;> simp

@[simp] theorem State.zeroizeKey_pace (s : State) (k : Nat) : (State.zeroizeKey s k).pace = s.pace := by
  simp [State.zeroizeKey]

@[simp] theorem State.setPeer_pace (s : State) (p : Nat) (x : PeerSt) : (State.setPeer s p x).pace = s.pace := by
  simp [State.setPeer]

@[simp] theorem State.saLoadDone_pace (s : State) (res id : Nat) : (State.saLoadDone s res id).pace = s.pace := by
  simp [State.saLoadDone]

@[simp] theorem State.saLoadApply_pace (s : State) : (State.saLoadApply s).pace = s.pace := by
  unfold State.saLoadApply
  split <;> simp

@[simp] theorem State.agreeDone_pace (s : State) (res : Nat) : (State.agreeDone s res).pace = s.pace := by
  simp [State.agreeDone]

@[simp] theorem State.offer_pace (s : State) (p : Nat) : (State.offer s p).pace = s.pace := by
  simp [State.offer]

@[simp] theorem State.acceptPeer_pace (s : State) (p : Nat) : (State.acceptPeer s p).1.pace = s.pace := by
  unfold State.acceptPeer
  dsimp only
  repeat' split
  all_goals simp

@[simp] theorem State.agreeApply_pace (s : State) : (State.agreeApply s).pace = s.pace := by
  unfold State.agreeApply
  split <;> simp

@[simp] theorem State.enrollApply_pace (s : State) : (State.enrollApply s).pace = s.pace := by
  simp [State.enrollApply]

@[simp] theorem State.markKey_pace (s : State) (k : Nat) (ofFn : Bool) : (State.markKey s k ofFn).pace = s.pace := by
  simp [State.markKey]

@[simp] theorem State.retireApply_pace (s : State) : (State.retireApply s).pace = s.pace := by
  unfold State.retireApply
  split <;> simp

@[simp] theorem State.zeroizeNow_pace (s : State) (k res : Nat) : (State.zeroizeNow s k res).pace = s.pace := by
  simp [State.zeroizeNow]

@[simp] theorem State.keyZeroize_pace (s : State) (k : Nat) : (State.keyZeroize s k).pace = s.pace := by
  simp [State.keyZeroize]

@[simp] theorem State.keyForced_pace (s : State) (k : Nat) : (State.keyForced s k).pace = s.pace := by
  simp [State.keyForced]

@[simp] theorem State.keyRelease_pace (s : State) (k : Nat) : (State.keyRelease s k).pace = s.pace := by
  simp [State.keyRelease]

@[simp] theorem State.ownDone_pace (s : State) : (State.ownDone s).pace = s.pace := by
  simp [State.ownDone]

@[simp] theorem State.queueClean_pace (s : State) (gs : List Nat) (kind : CleanKind) (cmd : Bool) :
    (State.queueClean s gs kind cmd).pace = s.pace := by
  simp [State.queueClean]

@[simp] theorem State.stageFresh_pace (s : State) (k f : Nat) : (State.stageFresh s k f).pace = s.pace := by
  simp [State.stageFresh]

@[simp] theorem State.restageKeys_pace (s : State) (f : Nat) : (State.restageKeys s f).pace = s.pace := by
  simp [State.restageKeys]

@[simp] theorem State.doomStep_pace (s : State) (k : Nat) : (State.doomStep s k).pace = s.pace := by
  simp [State.doomStep]

@[simp] theorem State.reportAsk_pace (s : State) (f : Nat) : (State.reportAsk s f).pace = s.pace := by
  simp [State.reportAsk]

@[simp] theorem State.reportRefuse_pace (s : State) (f : Nat) : (State.reportRefuse s f).pace = s.pace := by
  simp [State.reportRefuse]

@[simp] theorem State.reportCapture_pace (s : State) (f : Nat) : (State.reportCapture s f).pace = s.pace := by
  simp [State.reportCapture]

@[simp] theorem State.reportReq_pace (s : State) (f tag : Nat) : (State.reportReq s f tag).pace = s.pace := by
  simp [State.reportReq]

@[simp] theorem State.submitDesc_pace (s : State) (f tag c : Nat) (w7 : Reg) :
    (State.submitDesc s f tag c w7).pace = s.pace := by
  unfold State.submitDesc
  split <;> simp

@[simp] theorem State.traceCtrl_pace (s : State) (c : Nat) (d : Reg) : (State.traceCtrl s c d).pace = s.pace := by
  simp [State.traceCtrl]

@[simp] theorem State.viewRead_pace (s : State) (f off : Nat) : (s.viewRead f off).2.pace = s.pace := by
  unfold State.viewRead
  extract_lets o v sl w r
  clear_value r
  split
  · rfl
  split
  · rfl
  split
  · exact State.drainedRead_pace s f
  · rfl

@[simp] theorem State.viewWrite_pace (s : State) (f tag off : Nat) (d : Reg) :
    (State.viewWrite s f tag off d).pace = s.pace := by
  simp [State.viewWrite]

@[simp] theorem State.viewAccess_pace (s : State) (op : Nat) (r : HostReq) :
    (State.viewAccess s op r).pace = s.pace := by
  simp [State.viewAccess]

@[simp] theorem State.serveHost_pace (s : State) (op : Nat) (r : HostReq) (held : Bool) :
    (State.serveHost s op r held).pace = s.pace := by
  simp [State.serveHost]

@[simp] theorem State.fenceSignal_pace (s : State) (i : Nat) (v : Reg) : (State.fenceSignal s i v).pace = s.pace := by
  simp [State.fenceSignal]

@[simp] theorem State.fenceAccess_pace (s : State) (op : Nat) (r : HostReq) :
    (State.fenceAccess s op r).pace = s.pace := by
  unfold State.fenceAccess
  split <;> simp

@[simp] theorem State.hostServe_pace (s : State) (op : Nat) (r : HostReq) (held : Bool) :
    (State.hostServe s op r held).pace = s.pace := by
  simp [State.hostServe]

@[simp] theorem State.traceReq_pace (s : State) (f tag c : Nat) (ctrl : Reg) :
    (State.traceReq s f tag c ctrl).pace = s.pace := by
  simp [State.traceReq]

end Sys2Proof.Machine
end

section
/-! The operations of the image, the regulator, the links, faults and recovery keep the pace of the block. -/

namespace Sys2Proof.Machine

@[simp] theorem State.heldTile_pace (s : State) (port : Nat) (r : TpReq) (serve : State → Bound → State)
    (hs : ∀ s b, (serve s b).pace = s.pace) : (s.heldTile port r serve).pace = s.pace := by
  unfold State.heldTile
  split
  · simp
  · split <;> simp [hs]

@[simp] theorem State.serveHeld_pace (s : State) (h : HeldReq) : (State.serveHeld s h).pace = s.pace := by
  unfold State.serveHeld
  split <;> simp

@[simp] theorem State.letGo_pace (s : State) (h : HeldReq) : (State.letGo s h).pace = s.pace := by
  simp [State.letGo]

@[simp] theorem State.openGates_pace (s : State) : (State.openGates s).pace = s.pace := by
  simp [State.openGates]

@[simp] theorem State.heldLate_pace (s : State) (h : HeldReq) : (State.heldLate s h).pace = s.pace := by
  simp [State.heldLate]

@[simp] theorem State.jobLate_pace (s : State) (j : Job) : (State.jobLate s j).pace = s.pace := by
  simp [State.jobLate]

@[simp] theorem State.jobAges_pace (s : State) : (State.jobAges s).pace = s.pace := by
  simp [State.jobAges]

@[simp] theorem State.holdAges_pace (s : State) : (State.holdAges s).pace = s.pace := by
  simp [State.holdAges]

@[simp] theorem State.measureAll_pace (s : State) : (State.measureAll s).pace = s.pace := by
  simp [State.measureAll]

@[simp] theorem State.targetUnmet_pace (s : State) (sl t : Nat) : (State.targetUnmet s sl t).pace = s.pace := by
  simp [State.targetUnmet]

@[simp] theorem State.rampClass_pace (s : State) (sl t : Nat) : (State.rampClass s sl t).pace = s.pace := by
  simp [State.rampClass]

@[simp] theorem State.rampUpdate_pace (s : State) : (State.rampUpdate s).pace = s.pace := by
  simp [State.rampUpdate]

@[simp] theorem State.markScaled_pace (s : State) (i : Nat) : (State.markScaled s i).pace = s.pace := by
  simp [State.markScaled]

@[simp] theorem State.refill_pace (s : State) : (State.refill s).pace = s.pace := by
  simp [State.refill]

@[simp] theorem State.urgStarved_pace (s : State) (n : Nat) : (State.urgStarved s n).pace = s.pace := by
  unfold State.urgStarved
  split <;> simp

@[simp] theorem State.urgTicks_pace (s : State) : (State.urgTicks s).pace = s.pace := by
  simp [State.urgTicks]

@[simp] theorem State.implausible_pace (s : State) (p : Nat) : (State.implausible s p).pace = s.pace := by
  simp [State.implausible]

@[simp] theorem State.restoreFb_pace (s : State) (p : Nat) : (State.restoreFb s p).pace = s.pace := by
  simp [State.restoreFb]

@[simp] theorem State.mpTick_pace (s : State) (p : Nat) : (State.mpTick s p).pace = s.pace := by
  simp [State.mpTick]

@[simp] theorem State.unstage_pace (s : State) (p : Nat → Bool) : (State.unstage s p).pace = s.pace := by
  simp [State.unstage]

@[simp] theorem State.qosApply_pace (s : State) : (State.qosApply s).pace = s.pace := by
  simp [State.qosApply]

@[simp] theorem State.proxyGrant_pace (s : State) (t : Txn) (st : Status) (state : Nat) (data : Line) :
    (State.proxyGrant s t st state data).pace = s.pace := by
  simp [State.proxyGrant]

@[simp] theorem State.remoteEnd_pace (s : State) (r : RemoteReq) (st : Status) (state : Nat) (data : Line) :
    (State.remoteEnd s r st state data).pace = s.pace := by
  unfold State.remoteEnd
  dsimp only
  repeat' split
  all_goals simp

@[simp] theorem State.abandon_pace (s : State) (n : Nat) (m : SentMsg) : (State.abandon s n m).pace = s.pace := by
  unfold State.abandon
  dsimp only
  repeat' split
  all_goals simp

@[simp] theorem State.resend_pace (s : State) (n : Nat) (m : SentMsg) (avoid : Option Nat) :
    (s.resend n m avoid).pace = s.pace := by
  unfold State.resend
  split
  · rfl
  split <;> simp

@[simp] theorem State.pumpAll_pace (s : State) (ns : List Nat) : (s.pumpAll ns).pace = s.pace := by
  refine foldl_pace (fun s x => ?_) _ s
  split <;> simp

@[simp] theorem State.pump_pace (s : State) (n : Nat) : (State.pump s n).pace = s.pace := by
  simp [State.pump]

@[simp] theorem State.respray_pace (s : State) (t : Nat) : (State.respray s t).pace = s.pace := by
  simp [State.respray]

@[simp] theorem State.tineFails_pace (s : State) (t cause : Nat) : (State.tineFails s t cause).pace = s.pace := by
  simp [State.tineFails]

@[simp] theorem State.ackSend_pace (s : State) (n path : Nat) : (s.ackSend n path).pace = s.pace := by
  unfold State.ackSend
  extract_lets p sack f u
  clear_value sack f
  have hu : u.pace = s.pace := by simp [u]
  clear_value u
  split
  · rfl
  split
  · rfl
  split
  · rfl
  split <;> rename_i h <;> simp [pace_of_eq_fst h, hu]

@[simp] theorem State.psnTaken_pace (s : State) (n path psn : Nat) : (State.psnTaken s n path psn).pace = s.pace := by
  simp [State.psnTaken]

@[simp] theorem State.msnTaken_pace (s : State) (n msn : Nat) : (State.msnTaken s n msn).pace = s.pace := by
  simp [State.msnTaken]

@[simp] theorem State.ackTaken_pace (s : State) (rs : Nat) (f : Frame) : (State.ackTaken s rs f).pace = s.pace := by
  unfold State.ackTaken
  split <;> simp

@[simp] theorem State.windowsGrow_pace (s : State) : (State.windowsGrow s).pace = s.pace := by
  simp [State.windowsGrow]

@[simp] theorem State.xoffDrive_pace (s : State) (t : Nat) : (State.xoffDrive s t).pace = s.pace := by
  simp [State.xoffDrive]

@[simp] theorem State.xoffAll_pace (s : State) : (State.xoffAll s).pace = s.pace := by
  simp [State.xoffAll]

@[simp] theorem State.frameDrop_pace (s : State) (t : Nat) : (State.frameDrop s t).pace = s.pace := by
  simp [State.frameDrop]

@[simp] theorem State.admitRaise_pace (s : State) (t kind : Nat) : (State.admitRaise s t kind).pace = s.pace := by
  simp [State.admitRaise]

@[simp] theorem State.msgIn_pace (s : State) (t n tc path psn msn : Nat) (m : LinkMsg) :
    (State.msgIn s t n tc path psn msn m).1.pace = s.pace := by
  unfold State.msgIn
  dsimp only
  repeat' split
  all_goals simp

@[simp] theorem State.taken_pace (s : State) (m : InMsg) : (State.taken s m).pace = s.pace := by
  simp [State.taken]

@[simp] theorem State.msgAccept_pace (s : State) (m : InMsg) (t : Txn) : (State.msgAccept s m t).pace = s.pace := by
  unfold State.msgAccept
  repeat' split
  all_goals simp

@[simp] theorem State.msgRead_pace (s : State) (m : InMsg) : (State.msgRead s m).pace = s.pace := by
  simp [State.msgRead]

@[simp] theorem State.msgWrite_pace (s : State) (m : InMsg) : (State.msgWrite s m).pace = s.pace := by
  simp [State.msgWrite]

@[simp] theorem State.msgAtomic_pace (s : State) (m : InMsg) : (State.msgAtomic s m).pace = s.pace := by
  unfold State.msgAtomic
  split <;> simp

@[simp] theorem State.msgContrib_pace (s : State) (m : InMsg) : (State.msgContrib s m).pace = s.pace := by
  unfold State.msgContrib
  dsimp only
  repeat' split
  all_goals simp

@[simp] theorem State.walkLine_pace (s : State) (h line : Nat) (op : TOp) :
    (State.walkLine s h line op).pace = s.pace := by
  simp [State.walkLine]

@[simp] theorem State.flushAnswer_pace (s : State) : (State.flushAnswer s).pace = s.pace := by
  simp [State.flushAnswer]

@[simp] theorem State.flushPieces_pace (s : State) (f : RemFlush) : (State.flushPieces s f).pace = s.pace := by
  simp [State.flushPieces]

@[simp] theorem State.flushTick_pace (s : State) : (State.flushTick s).pace = s.pace := by
  simp [State.flushTick]

@[simp] theorem State.flushChip_pace (s : State) (f : Flush) (chip : Nat) :
    (State.flushChip s f chip).pace = s.pace := by
  simp [State.flushChip]

@[simp] theorem State.msgServe_pace (s : State) (m : InMsg) : (State.msgServe s m).pace = s.pace := by
  unfold State.msgServe
  split <;> simp

@[simp] theorem State.inboxAges_pace (s : State) : (State.inboxAges s).pace = s.pace := by
  simp [State.inboxAges]

@[simp] theorem State.dropPaths_pace (s : State) (n : Nat) : (State.dropPaths s n).pace = s.pace := by
  simp [State.dropPaths]

@[simp] theorem State.txActivate_pace (s : State) (n : Nat) : (State.txActivate s n).pace = s.pace := by
  unfold State.txActivate
  dsimp only
  repeat' split
  all_goals simp

@[simp] theorem State.rxActivate_pace (s : State) (n : Nat) : (State.rxActivate s n).pace = s.pace := by
  simp [State.rxActivate]

@[simp] theorem State.saApply_pace (s : State) : (State.saApply s).pace = s.pace := by
  unfold State.saApply
  dsimp only
  repeat' split
  all_goals simp

@[simp] theorem State.saQuarantine_pace (s : State) (n : Nat) : (State.saQuarantine s n).pace = s.pace := by
  simp [State.saQuarantine]

@[simp] theorem State.saFree_pace (s : State) (n : Nat) : (State.saFree s n).pace = s.pace := by
  simp [State.saFree]

@[simp] theorem State.imgFailAt_pace (s : State) (f : ImgFail) : (State.imgFailAt s f).pace = s.pace := by
  simp [State.imgFailAt]

@[simp] theorem State.imgEmpty_pace (s : State) (r : Nat) : (State.imgEmpty s r).pace = s.pace := by
  simp [State.imgEmpty]

@[simp] theorem State.imgClose_pace (s : State) : (State.imgClose s).pace = s.pace := by
  simp [State.imgClose]

@[simp] theorem State.imgEvent_pace (s : State) (e : ImgEvent) : (State.imgEvent s e).pace = s.pace := by
  simp [State.imgEvent]

@[simp] theorem State.drainStart_pace (s : State) : (State.drainStart s).pace = s.pace := by
  unfold State.drainStart
  split <;> simp

@[simp] theorem State.qosFromRec_pace (s : State) (sl : Nat) (r : SliceRec) (fresh : Bool) :
    (State.qosFromRec s sl r fresh).pace = s.pace := by
  simp [State.qosFromRec]

@[simp] theorem State.qosDrop_pace (s : State) (sl : Nat) : (State.qosDrop s sl).pace = s.pace := by
  simp [State.qosDrop]

@[simp] theorem State.retireStranded_pace (s : State) (old : ImgCfg) : (State.retireStranded s old).pace = s.pace := by
  simp [State.retireStranded]

@[simp] theorem State.strandTransfers_pace (s : State) (old : ImgCfg) :
    (State.strandTransfers s old).pace = s.pace := by
  simp [State.strandTransfers]

@[simp] theorem State.shiftWork_pace (s : State) (f : Nat → Nat) : (State.shiftWork s f).pace = s.pace := by
  simp [State.shiftWork]

@[simp] theorem State.shiftLinks_pace (s : State) (f : Nat → Nat) : (State.shiftLinks s f).pace = s.pace := by
  simp [State.shiftLinks]

@[simp] theorem State.tineBack_pace (s : State) (t : Nat) : (State.tineBack s t).pace = s.pace := by
  simp [State.tineBack]

@[simp] theorem State.tineTick_pace (s : State) (t : Nat) : (State.tineTick s t).pace = s.pace := by
  simp [State.tineTick]

@[simp] theorem State.dropChipSnoops_pace (s : State) (c : Nat) : (s.dropChipSnoops c).pace = s.pace := by
  refine foldl_pace (fun s t => ?_) _ s
  split
  · rfl
  dsimp only
  split
  · rfl
  split <;> simp

@[simp] theorem State.dropChipLines_pace (s : State) (c : Nat) : (State.dropChipLines s c).pace = s.pace := by
  simp [State.dropChipLines]

@[simp] theorem State.chipLost_pace (s : State) (c : Nat) : (s.chipLost c).pace = s.pace := by
  unfold State.chipLost
  extract_lets t u _ v w x y z _ a
  have hv : v.pace = s.pace := by simp [v, u]
  have hx : x.pace = s.pace := by simp [x, w, hv]
  have hz : z.pace = s.pace := by simp [z, y, hx]
  simp [a, hz]

@[simp] theorem State.chipCheck_pace (s : State) (c : Nat) : (State.chipCheck s c).pace = s.pace := by
  simp [State.chipCheck]

@[simp] theorem State.membersTick_pace (s : State) : (State.membersTick s).pace = s.pace := by
  simp [State.membersTick]

@[simp] theorem State.alert_pace (s : State) (m : Msg) : (State.alert s m).pace = s.pace := by
  simp [State.alert]

@[simp] theorem State.alertRelease_pace (s : State) : (State.alertRelease s).pace = s.pace := by
  simp [State.alertRelease]

@[simp] theorem State.event_pace (s : State) (type arg : Nat) : (State.event s type arg).pace = s.pace := by
  simp [State.event]

@[simp] theorem State.limit_pace (s : State) (m : Msg) : (State.limit s m).1.pace = s.pace := by
  unfold State.limit
  dsimp only
  repeat' split
  all_goals simp

@[simp] theorem State.limitHit_pace (s : State) (m : Msg) : (State.limitHit s m).pace = s.pace := by
  simp [State.limitHit]

@[simp] theorem State.stopOnFault_pace (s : State) (cls : Nat) : (State.stopOnFault s cls).pace = s.pace := by
  simp [State.stopOnFault]

@[simp] theorem State.arrive_pace (s : State) (m : Msg) : (State.arrive s m).pace = s.pace := by
  simp [State.arrive]

@[simp] theorem State.deliver_pace (s : State) (d : Nat) : (State.deliver s d).pace = s.pace := by
  unfold State.deliver
  split <;> simp

@[simp] theorem State.deliverAll_pace (s : State) : (State.deliverAll s).pace = s.pace := by
  simp [State.deliverAll]

@[simp] theorem State.handlingEnds_pace (s : State) : (State.handlingEnds s).pace = s.pace := by
  simp [State.handlingEnds]

@[simp] theorem State.failAll_pace (s : State) : (s.failAll).pace = s.pace := by
  unfold State.failAll
  extract_lets u
  rw [foldl_pace, foldl_pace (fun s t => State.hostRsp_pace s _ _ _), foldl_pace]
  · simp [u]
  · intro s t
    simp
  · intro s b
    split <;> simp

@[simp] theorem State.fatalEnter_pace (s : State) (kind : Nat) : (State.fatalEnter s kind).pace = s.pace := by
  simp [State.fatalEnter]

@[simp] theorem State.setRec_pace (s : State) (r : Nat) (x : Recovery) : (State.setRec s r x).pace = s.pace := by
  simp [State.setRec]

@[simp] theorem State.recOpen_pace (s : State) (x : Recovery) : (State.recOpen s x).pace = s.pace := by
  unfold State.recOpen
  repeat' split
  all_goals simp

@[simp] theorem State.recEnd_pace (s : State) (r : Nat) : (State.recEnd s r).pace = s.pace := by
  simp [State.recEnd]

@[simp] theorem State.recLate_pace (s : State) (r : Nat) : (State.recLate s r).pace = s.pace := by
  simp [State.recLate]

@[simp] theorem State.taintAt_pace (s : State) (h : Nat) : (State.taintAt s h).pace = s.pace := by
  simp [State.taintAt]

@[simp] theorem State.homeLeaves_pace (s : State) (h : Nat) : (State.homeLeaves s h).pace = s.pace := by
  unfold State.homeLeaves
  dsimp only
  repeat' split
  all_goals simp

@[simp] theorem State.resolveHome_pace (s : State) (h dst : Nat) (log : List (Origin × BitVec 64)) (st : Status)
    (t : Txn) : (State.resolveHome s h dst log st t).pace = s.pace := by
  unfold State.resolveHome
  repeat' split
  all_goals simp

@[simp] theorem State.homeEmpty_pace (s : State) (h dst : Nat) (st : Status) :
    (State.homeEmpty s h dst st).pace = s.pace := by
  simp [State.homeEmpty]

@[simp] theorem State.unserved_pace (s : State) (h n : Nat) : (State.unserved s h n).pace = s.pace := by
  simp [State.unserved]

@[simp] theorem State.claim_pace (s : State) (x : Recovery) (h : Nat) (st : Status) :
    (State.claim s x h st).1.pace = s.pace := by
  unfold State.claim
  split <;> simp

@[simp] theorem State.mirrorLost_pace (s : State) (r : Nat) : (State.mirrorLost s r).pace = s.pace := by
  unfold State.mirrorLost
  dsimp only
  repeat' split
  all_goals simp

@[simp] theorem State.spareFails_pace (s : State) (r h : Nat) : (State.spareFails s r h).pace = s.pace := by
  unfold State.spareFails
  dsimp only
  repeat' split
  all_goals simp

@[simp] theorem State.homeDeclare_pace (s : State) (h : Nat) : (s.homeDeclare h).pace = s.pace := by
  unfold State.homeDeclare
  dsimp only
  split
  · simp
  split
  · simp
  split
  · rfl
  split
  · simp
  split
  · simp
  split
  next hc => simp [pace_of_eq_fst hc]
  next hc => split <;> simp [pace_of_eq_fst hc]

@[simp] theorem State.serve_pace (s : State) (r : Nat) : (State.serve s r).pace = s.pace := by
  unfold State.serve
  dsimp only
  repeat' split
  all_goals simp

@[simp] theorem State.stackDeclare_pace (s : State) (p : Nat) (say : Bool) : (s.stackDeclare p say).pace = s.pace := by
  unfold State.stackDeclare
  split <;> simp

@[simp] theorem State.tineDeclare_pace (s : State) (t : Nat) : (State.tineDeclare s t).pace = s.pace := by
  simp [State.tineDeclare]

@[simp] theorem State.keyLeaves_pace (s : State) (e : Nat) (x : Recovery) : (State.keyLeaves s e x).pace = s.pace := by
  simp [State.keyLeaves]

@[simp] theorem State.keyDeclare_pace (s : State) (e : Nat) : (State.keyDeclare s e).pace = s.pace := by
  simp [State.keyDeclare]

@[simp] theorem State.jobsLeave_pace (s : State) (e : Nat) : (State.jobsLeave s e).pace = s.pace := by
  simp [State.jobsLeave]

@[simp] theorem State.engineLeaves_pace (s : State) (e : Nat) : (State.engineLeaves s e).pace = s.pace := by
  simp [State.engineLeaves]

@[simp] theorem State.jobDeclare_pace (s : State) (e : Nat) : (State.jobDeclare s e).pace = s.pace := by
  simp [State.jobDeclare]

@[simp] theorem State.declare_pace (s : State) (m : Msg) : (State.declare s m).pace = s.pace := by
  unfold State.declare
  dsimp only
  repeat' split
  all_goals simp

@[simp] theorem State.declareIf_pace (s : State) (p : Msg → Bool) : (State.declareIf s p).pace = s.pace := by
  simp [State.declareIf]

@[simp] theorem State.takeOffline_pace (s : State) (u : Nat) : (State.takeOffline s u).pace = s.pace := by
  unfold State.takeOffline
  dsimp only
  repeat' split
  all_goals simp

@[simp] theorem State.bringOnline_pace (s : State) (u : Nat) : (State.bringOnline s u).pace = s.pace := by
  unfold State.bringOnline
  split <;> simp

@[simp] theorem State.unitApply_pace (s : State) : (State.unitApply s).pace = s.pace := by
  unfold State.unitApply
  split <;> simp

@[simp] theorem State.limitOffline_pace (s : State) : (State.limitOffline s).pace = s.pace := by
  simp [State.limitOffline]

@[simp] theorem State.offlineNext_pace (s : State) (r : Nat) : (s.offlineNext r).pace = s.pace := by
  unfold State.offlineNext
  extract_lets x i quiet u y stop v
  have hu : u.pace = s.pace := by
    unfold u
    split <;> simp
  have hstop (s : State) (j : Job) : (stop s j).pace = s.pace := by
    unfold stop
    split <;> simp
  have hv : v.pace = s.pace := by
    unfold v
    split
    · exact hu
    · exact (foldl_pace hstop _ u).trans hu
  split
  · rfl
  split
  · split <;> rename_i h <;> simp [pace_of_eq_fst h, hu]
  · simp [hu]
  · simp [hv]
  · simp [hu]

@[simp] theorem State.recStart_pace (s : State) (r : Nat) : (s.recStart r).pace = s.pace := by
  unfold State.recStart
  dsimp only
  split
  · simp
  split
  · rfl
  · split <;> rename_i h <;> simp [pace_of_eq_fst h]

@[simp] theorem State.recPromote_pace (s : State) : (State.recPromote s).pace = s.pace := by
  unfold State.recPromote
  split <;> simp

@[simp] theorem State.recStep_pace (s : State) (r : Nat) : (State.recStep s r).pace = s.pace := by
  unfold State.recStep
  dsimp only
  repeat' split
  all_goals simp

@[simp] theorem State.recTick_pace (s : State) : (State.recTick s).pace = s.pace := by
  simp [State.recTick]

@[simp] theorem State.declareAll_pace (s : State) : (State.declareAll s).pace = s.pace := by
  simp [State.declareAll]

end Sys2Proof.Machine
end

section
/-! The operations of Fawn, the pair, the sideband, observability and the boundary keep the pace of the block. -/

namespace Sys2Proof.Machine

@[simp] theorem State.notice_pace (s : State) : (State.notice s).pace = s.pace := by
  simp [State.notice]

@[simp] theorem State.setPhase_pace (s : State) (p : Nat) : (State.setPhase s p).pace = s.pace := by
  simp [State.setPhase]

@[simp] theorem State.startFails_pace (s : State) (kind : Nat) : (State.startFails s kind).pace = s.pace := by
  simp [State.startFails]

@[simp] theorem State.fclkStart_pace (s : State) (p : Nat) : (State.fclkStart s p).pace = s.pace := by
  simp [State.fclkStart]

@[simp] theorem State.fclkWant_pace (s : State) (p : Nat) : (State.fclkWant s p).pace = s.pace := by
  simp [State.fclkWant]

@[simp] theorem State.fclkBoundary_pace (s : State) : (State.fclkBoundary s).pace = s.pace := by
  unfold State.fclkBoundary
  split <;> simp

@[simp] theorem State.fclkFails_pace (s : State) : (State.fclkFails s).pace = s.pace := by
  unfold State.fclkFails
  repeat' split
  all_goals simp

@[simp] theorem State.parkTrip_pace (s : State) : (State.parkTrip s).pace = s.pace := by
  simp [State.parkTrip]

@[simp] theorem State.thermalUp_pace (s : State) : (State.thermalUp s).pace = s.pace := by
  simp [State.thermalUp]

@[simp] theorem State.thermalDown_pace (s : State) : (State.thermalDown s).pace = s.pace := by
  simp [State.thermalDown]

@[simp] theorem State.thermalTick_pace (s : State) : (State.thermalTick s).pace = s.pace := by
  simp [State.thermalTick]

@[simp] theorem State.offsetHigh_pace (s : State) : (State.offsetHigh s).pace = s.pace := by
  simp [State.offsetHigh]

@[simp] theorem State.offsetTickWatch_pace (s : State) : (State.offsetTickWatch s).pace = s.pace := by
  simp [State.offsetTickWatch]

@[simp] theorem State.initialized_pace (s : State) : (s.initialized).pace = s.pace := by
  unfold State.initialized
  split
  · rfl
  · extract_lets f u v w x
    have hv : v.pace = s.pace := by simp [v, u, f]
    split
    · exact hv
    · simp [x, w, hv]

@[simp] theorem State.fwSet_pace (s : State) (st res : Nat) : (State.fwSet s st res).pace = s.pace := by
  simp [State.fwSet]

@[simp] theorem State.firmwareKeys_pace (s : State) : (State.firmwareKeys s).pace = s.pace := by
  simp [State.firmwareKeys]

@[simp] theorem State.handover_pace (s : State) : (State.handover s).pace = s.pace := by
  simp [State.handover]

@[simp] theorem State.fwRevert_pace (s : State) : (s.fwRevert).pace = s.pace := by
  unfold State.fwRevert
  split
  · extract_lets u f v g
    have hv : v.pace = s.pace := by simp [v, u, f]
    split <;> simp [g, hv]
  · rfl

@[simp] theorem State.revertStep_pace (s : State) : (State.revertStep s).pace = s.pace := by
  simp [State.revertStep]

@[simp] theorem State.fawnFails_pace (s : State) : (State.fawnFails s).pace = s.pace := by
  simp [State.fawnFails]

@[simp] theorem State.heartbeatTick_pace (s : State) : (State.heartbeatTick s).pace = s.pace := by
  simp [State.heartbeatTick]

@[simp] theorem State.selfRefreshAll_pace (s : State) : (State.selfRefreshAll s).pace = s.pace := by
  simp [State.selfRefreshAll]

@[simp] theorem State.pairCollect_pace (s : State) : (State.pairCollect s).pace = s.pace := by
  simp [State.pairCollect]

@[simp] theorem State.mirrorOut_pace (s : State) (i : Nat) (f : MirrorFrame) : (s.mirrorOut i f).pace = s.pace := by
  unfold State.mirrorOut
  dsimp only
  split
  · split <;> rename_i h <;> simp [pace_of_eq_fst h]
  · rfl

@[simp] theorem State.mirrorSend_pace (s : State) : (State.mirrorSend s).pace = s.pace := by
  unfold State.mirrorSend
  split <;> simp

@[simp] theorem State.pairGo_pace (s : State) (st : Nat) : (State.pairGo s st).pace = s.pace := by
  simp [State.pairGo]

@[simp] theorem State.syncStart_pace (s : State) : (State.syncStart s).pace = s.pace := by
  simp [State.syncStart]

@[simp] theorem State.fenceTaken_pace (s : State) (i : Nat) : (State.fenceTaken s i).pace = s.pace := by
  simp [State.fenceTaken]

@[simp] theorem State.pairLost_pace (s : State) : (s.pairLost).pace = s.pace := by
  unfold State.pairLost
  extract_lets p last u
  clear_value p last
  have hu : u.pace = s.pace := by simp [u]
  split
  · split <;> simp [hu]
  · rfl

@[simp] theorem State.pairLag_pace (s : State) : (State.pairLag s).pace = s.pace := by
  simp [State.pairLag]

@[simp] theorem State.mirrorCtx_pace (s : State) (x : Nat) (w0 w1 w2 : Reg) :
    (State.mirrorCtx s x w0 w1 w2).pace = s.pace := by
  simp [State.mirrorCtx]

@[simp] theorem State.mirrorKey_pace (s : State) (k fn st : Nat) : (State.mirrorKey s k fn st).pace = s.pace := by
  simp [State.mirrorKey]

@[simp] theorem State.sweepBegins_pace (s : State) : (State.sweepBegins s).pace = s.pace := by
  simp [State.sweepBegins]

@[simp] theorem State.syncDone_pace (s : State) : (State.syncDone s).pace = s.pace := by
  unfold State.syncDone
  split <;> simp

@[simp] theorem State.ringAll_pace (s : State) (code arg : Nat) : (State.ringAll s code arg).pace = s.pace := by
  simp [State.ringAll]

@[simp] theorem State.publish_pace (s : State) : (State.publish s).pace = s.pace := by
  simp [State.publish]

@[simp] theorem State.selApply_pace (s : State) : (State.selApply s).pace = s.pace := by
  simp [State.selApply]

@[simp] theorem State.setTrace_pace (s : State) (c : Nat) (t : TraceSt) : (State.setTrace s c t).pace = s.pace := by
  simp [State.setTrace]

@[simp] theorem State.traceLine_pace (s : State) (c : Nat) : (State.traceLine s c).pace = s.pace := by
  unfold State.traceLine
  split <;> simp

@[simp] theorem State.traceFlush_pace (s : State) : (State.traceFlush s).pace = s.pace := by
  simp [State.traceFlush]

@[simp] theorem State.traceApply_pace (s : State) (c : Nat) : (s.traceApply c).pace = s.pace := by
  simp only [State.traceApply]
  split
  · rfl
  split
  · rfl
  split
  · simp only [State.setTrace_pace]
    rfl
  · simp only [State.setTrace_pace]

@[simp] theorem State.wfgLatch_pace (s : State) (atStop : Bool) : (State.wfgLatch s atStop).pace = s.pace := by
  simp [State.wfgLatch]

@[simp] theorem State.wfgReady_pace (s : State) : (State.wfgReady s).pace = s.pace := by
  simp [State.wfgReady]

@[simp] theorem State.stopDisarm_pace (s : State) : (State.stopDisarm s).pace = s.pace := by
  simp [State.stopDisarm]

theorem State.pace_obs (s : State) (o : Obs) : ({ s with obs := o } : State).pace = s.pace := rfl

@[simp] theorem State.stopBegin_pace (s : State) : (s.stopBegin).pace = s.pace := by
  unfold State.stopBegin
  split
  · rfl
  split
  · simp
  · extract_lets u f v w
    have hv : v.pace = s.pace := (State.pace_obs u _).trans (State.ringAll_pace s 0x86 _)
    have hw : w.pace = s.pace := by
      unfold w
      split
      · exact (State.wfgLatch_pace _ _).trans hv
      · exact hv
    exact ((State.mgIrq_pace _ _).trans (State.xoffAll_pace w)).trans hw

@[simp] theorem State.stopSettled_pace (s : State) : (State.stopSettled s).pace = s.pace := by
  simp [State.stopSettled]

@[simp] theorem State.dumpComplete_pace (s : State) : (State.dumpComplete s).pace = s.pace := by
  simp [State.dumpComplete]

@[simp] theorem State.dumpTick_pace (s : State) : (State.dumpTick s).pace = s.pace := by
  unfold State.dumpTick
  split <;> simp

@[simp] theorem State.each_pace {α : Type} (s : State) (m : Map α) {f : State → Nat → State} (h : ∀ s a,
    (f s a).pace = s.pace) :
    (s.each m f).pace = s.pace := by
  simp [State.each, h]

@[simp] theorem State.upTo_pace (s : State) (n : Nat) {f : State → Nat → State} (h : ∀ s a, (f s a).pace = s.pace) :
    (s.upTo n f).pace = s.pace := by
  simp [State.upTo, h]

@[simp] theorem State.tickClose_pace (s : State) : (State.tickClose s).pace = s.pace := by
  simp [State.tickClose]

@[simp] theorem State.initTick_pace (s : State) : (State.initTick s).pace = s.pace := by
  simp [State.initTick]

@[simp] theorem State.stateEvents_pace (s : State) : (State.stateEvents s).pace = s.pace := by
  simp [State.stateEvents]

@[simp] theorem State.slowRequests_pace (s : State) : (State.slowRequests s).pace = s.pace := by
  simp [State.slowRequests]

@[simp] theorem State.throttleNote_pace (s : State) (p : Nat) : (State.throttleNote s p).pace = s.pace := by
  simp [State.throttleNote]

@[simp] theorem State.snapshot_pace (s : State) : (State.snapshot s).pace = s.pace := by
  simp [State.snapshot]

@[simp] theorem State.loseUnread_pace (s : State) : (State.loseUnread s).pace = s.pace := by
  simp [State.loseUnread]

@[simp] theorem State.abandonFirst_pace (s : State) (f : Nat) : (State.abandonFirst s f).pace = s.pace := by
  unfold State.abandonFirst
  split <;> simp

@[simp] theorem State.loseAll_pace (s : State) : (State.loseAll s).pace = s.pace := by
  simp [State.loseAll]

@[simp] theorem State.shareApply_pace (s : State) : (State.shareApply s).pace = s.pace := by
  simp [State.shareApply]

@[simp] theorem State.tinApply_pace (s : State) : (State.tinApply s).pace = s.pace := by
  simp [State.tinApply]

@[simp] theorem State.swapStaged_pace (s : State) (k : Nat) : (State.swapStaged s k).pace = s.pace := by
  simp [State.swapStaged]

@[simp] theorem State.commitKeys_pace (s : State) : (State.commitKeys s).pace = s.pace := by
  simp [State.commitKeys]

@[simp] theorem State.portsTick_pace (s : State) : (State.portsTick s).pace = s.pace := by
  simp [State.portsTick]

@[simp] theorem State.startFatal_pace (s : State) : (State.startFatal s).pace = s.pace := by
  simp [State.startFatal]

@[simp] theorem State.windowsLate_pace (s : State) : (State.windowsLate s).pace = s.pace := by
  simp [State.windowsLate]

@[simp] theorem State.fawnTick_pace (s : State) : (State.fawnTick s).pace = s.pace := by
  simp [State.fawnTick]

@[simp] theorem State.dropFills_pace (s : State) : (State.dropFills s).pace = s.pace := by
  simp [State.dropFills]

@[simp] theorem State.setOwn_pace (s : State) (g : Nat) (e : OwnEntry) : (s.setOwn g e).pace = s.pace := rfl

@[simp] theorem State.setFnc_pace (s : State) (f : Nat) (r : FncRec) : (s.setFnc f r).pace = s.pace := rfl

@[simp] theorem State.objGstate_pace (s : State) (o : ObjRec) (old dst : Nat) :
    (s.objGstate o old dst).pace = s.pace := rfl

@[simp] theorem State.freeObj_pace (s : State) (o : Nat) : (State.freeObj s o).pace = s.pace := by
  simp [State.freeObj]

@[simp] theorem State.objFree_pace (s : State) (f o gen : Nat) : (s.objFree f o gen).1.pace = s.pace := by
  unfold State.objFree
  extract_lets r
  split
  · simp
  split
  · rfl
  split
  · rfl
  · simp

@[simp] theorem State.objApply_pace (s : State) (f : Nat) : (s.objApply f).pace = s.pace := by
  unfold State.objApply
  split
  · rfl
  next op o gen arg tag _ =>
    extract_lets g
    split
    next s1 st1 o1 h1 =>
      have hs1 : s1.pace = s.pace := by
        split at h1
        · simp [pace_of_eq_fst h1]
        · have he : (s.objFree f o gen).1 = s1 := congrArg Prod.fst h1
          rw [← he, State.objFree_pace]
      split
      next s2 st2 o2 h2 =>
        have hs2 : s2.pace = s.pace := by
          split at h2 <;> obtain ⟨rfl, -⟩ := Prod.mk.inj h2
          · exact hs1
          · rfl
        simp [hs2]

@[simp] theorem State.objDrained_pace (s : State) (o : Nat) : (State.objDrained s o).pace = s.pace := by
  simp [State.objDrained]

@[simp] theorem State.ownApply_pace (s : State) : (s.ownApply).pace = s.pace := by
  unfold State.ownApply
  split
  · rfl
  · extract_lets r _ u v w
    have hu : u.pace = s.pace := by simp [u]
    have hv : v.pace = s.pace := (foldl_pace (fun _ _ => State.setOwn_pace _ _ _) _ u).trans hu
    have hw : w.pace = s.pace := by simp [w, hv]
    split
    · simp [hu]
    · repeat' split
      all_goals simp [hw]

@[simp] theorem State.granuleCleaned_pace (s : State) (g : Nat) : (State.granuleCleaned s g).pace = s.pace := by
  unfold State.granuleCleaned
  split <;> simp

@[simp] theorem State.fncGo_pace (s : State) (f st : Nat) : (State.fncGo s f st).pace = s.pace := by
  simp [State.fncGo]

@[simp] theorem State.fncDone_pace (s : State) (f res : Nat) : (State.fncDone s f res).pace = s.pace := by
  simp [State.fncDone]

@[simp] theorem State.tearStart_pace (s : State) (f : Nat) (remove erase : Bool) :
    (State.tearStart s f remove erase).pace = s.pace := by
  simp [State.tearStart]

@[simp] theorem State.fncApply_pace (s : State) (f : Nat) : (State.fncApply s f).pace = s.pace := by
  unfold State.fncApply
  repeat' split
  all_goals simp

@[simp] theorem State.quiesceDrained_pace (s : State) (f : Nat) : (State.quiesceDrained s f).pace = s.pace := by
  simp [State.quiesceDrained]

@[simp] theorem State.quiesceForce_pace (s : State) (f : Nat) : (State.quiesceForce s f).pace = s.pace := by
  simp [State.quiesceForce]

@[simp] theorem State.quiesceForced_pace (s : State) (f : Nat) : (State.quiesceForced s f).pace = s.pace := by
  simp [State.quiesceForced]

@[simp] theorem State.tearEnd_pace (s : State) (f st : Nat) : (State.tearEnd s f st).pace = s.pace := by
  simp [State.tearEnd]

@[simp] theorem State.discardAll_pace (s : State) (f : Nat) (kind : CleanKind) :
    (s.discardAll f kind).pace = s.pace := by
  unfold State.discardAll
  extract_lets gs turn fresh u v w
  have hu : u.pace = s.pace := by simp [u]
  have hv : (gs.foldl (fun s g => s.setOwn g { s.ownAt g with gstate := 3 }) u).pace = s.pace :=
    (foldl_pace (fun _ _ => State.setOwn_pace _ _ _) _ u).trans hu
  simp [w, v, hv]

@[simp] theorem State.replaceKey_pace (s : State) (f k : Nat) : (s.replaceKey f k).pace = s.pace := by
  unfold State.replaceKey
  repeat' split
  all_goals simp

@[simp] theorem State.eraseStep_pace (s : State) (f : Nat) : (State.eraseStep s f).pace = s.pace := by
  unfold State.eraseStep
  dsimp only
  repeat' split
  all_goals simp

@[simp] theorem State.removeStep_pace (s : State) (f : Nat) : (State.removeStep s f).pace = s.pace := by
  unfold State.removeStep
  dsimp only
  repeat' split
  all_goals simp

@[simp] theorem State.tearStep_pace (s : State) (f : Nat) : (State.tearStep s f).pace = s.pace := by
  simp [State.tearStep]

@[simp] theorem State.ownCommit_pace (s : State) (old new : ImgCfg) : (State.ownCommit s old new).pace = s.pace := by
  simp [State.ownCommit]

@[simp] theorem State.putCfg_pace (s : State) (d : Staged) : (State.putCfg s d).pace = s.pace := by
  simp [State.putCfg]

@[simp] theorem State.imgCommit_pace (s : State) : (State.imgCommit s).pace = s.pace := by
  unfold State.imgCommit
  dsimp only
  repeat' split
  all_goals simp

@[simp] theorem State.ownFull_pace (s : State) (c : ImgCfg) : (s.ownFull c).pace = s.pace := by
  simp [State.ownFull]

@[simp] theorem State.imgApply_pace (s : State) : (State.imgApply s).pace = s.pace := by
  unfold State.imgApply
  split <;> simp

@[simp] theorem State.takeover_pace (s : State) : (s.takeover).pace = s.pace := by
  unfold State.takeover
  extract_lets s1 s2 s3 s4 f s5 s6 s7 gs s8
  have h1 : s1.pace = s.pace := foldl_pace (fun _ _ => State.fenceTaken_pace _ _) _ s
  have h2 : s2.pace = s.pace := (foldl_pace (fun _ _ => by simp) _ s1).trans h1
  have h3 : s3.pace = s.pace := h2
  have h4 : s4.pace = s.pace := by
    unfold s4
    split <;> simp [h3]
  have h5 : s5.pace = s.pace := h4
  have h6 : s6.pace = s.pace := by simp [s6, h5]
  have h7 : s7.pace = s.pace := (foldl_pace (fun _ _ => State.tearStart_pace _ _ _ _) _ s6).trans h6
  have h8 : s8.pace = s.pace :=
    (foldl_pace (fun _ _ => State.setOwn_pace _ _ _) _ _).trans ((State.dropOwn_pace _ _).trans h7)
  exact (State.queueClean_pace _ _ _ _).trans h8

@[simp] theorem State.pairApply_pace (s : State) : (State.pairApply s).pace = s.pace := by
  unfold State.pairApply
  split <;> simp

@[simp] theorem State.mirrorImage_pace (s : State) (b : List Byte) : (State.mirrorImage s b).pace = s.pace := by
  unfold State.mirrorImage
  split <;> simp

@[simp] theorem State.mirrorReg_pace (s : State) (o : Nat) (d : Reg) : (State.mirrorReg s o d).pace = s.pace := by
  unfold State.mirrorReg
  split <;> simp

@[simp] theorem State.mirrorRec_pace (s : State) (r : MirrorRec) : (s.mirrorRec r).pace = s.pace := by
  unfold State.mirrorRec
  extract_lets b w old f st x
  split
  case h_3 => exact forRange_pace (fun _ _ => State.setOwn_pace _ _ _) _ _ s
  case h_4 => split; simp; split <;> simp
  all_goals simp

@[simp] theorem State.mirrorEmpty_pace (s : State) : (s.mirrorEmpty).pace = s.pace := by
  simp [State.mirrorEmpty]

@[simp] theorem State.mirrorApplyOne_pace (s : State) : (State.mirrorApplyOne s).pace = s.pace := by
  unfold State.mirrorApplyOne
  split <;> simp

@[simp] theorem State.mirrorApply_pace (s : State) : (State.mirrorApply s).pace = s.pace := by
  simp [State.mirrorApply]

@[simp] theorem State.pairTick_pace (s : State) : (State.pairTick s).pace = s.pace := by
  simp [State.pairTick]

@[simp] theorem State.holdClocks_pace (s : State) : (s.holdClocks).pace = s.pace := by
  simp [State.holdClocks]

@[simp] theorem State.harvestApply_pace (s : State) (f : Nat) : (State.harvestApply s f).pace = s.pace := by
  unfold State.harvestApply
  dsimp only
  repeat' split
  all_goals simp

@[simp] theorem State.commitOwn_pace (s : State) : (State.commitOwn s).pace = s.pace := by
  simp [State.commitOwn]

@[simp] theorem State.commitRates_pace (s : State) : (State.commitRates s).pace = s.pace := by
  simp [State.commitRates]

end Sys2Proof.Machine
end

section
/-! What a pause held back, a tick_out transfer among it, goes out: the operations that let it go only add to what was sent. -/

namespace Sys2Proof.Machine

/-- Transfers on tick_out may have been added; the tick and the power state are as they were. -/
structure Pace.Grows (a b : Pace) : Prop where
  ticks : a.ticks ⊆ b.ticks
  tick : b.tick = a.tick
  power : b.power = a.power

@[simp] theorem Pace.Grows.refl (a : Pace) : a.Grows a := ⟨fun _ h => h, rfl, rfl⟩

theorem Pace.Grows.trans {a b c : Pace} (h : a.Grows b) (h' : b.Grows c) : a.Grows c :=
  ⟨List.Subset.trans h.ticks h'.ticks, h'.tick.trans h.tick, h'.power.trans h.power⟩

theorem foldl_grows {α : Type} {f : State → α → State} (h : ∀ (s : State) a, s.pace.Grows (f s a).pace) (l : List α) (s : State) :
    s.pace.Grows (l.foldl f s).pace := by
  induction l generalizing s with
  | nil => exact .refl _
  | cons a l ih => exact (h s a).trans (ih (f s a))

theorem State.upTo_grows {f : State → Nat → State} (h : ∀ (s : State) i, s.pace.Grows (f s i).pace) (n : Nat) (s : State) :
    s.pace.Grows (s.upTo n f).pace := foldl_grows h _ s

theorem State.emit_grows (s : State) (o : Output) : s.pace.Grows (s.emit o).pace := by
  refine ⟨?_, rfl, rfl⟩
  intro x hx
  simp only [State.pace, State.emit, List.filter_append, List.mem_append] at hx ⊢
  exact .inl hx

theorem State.ctlRelease_grows (s : State) (t : Nat) : s.pace.Grows (s.ctlRelease t).pace := by
  unfold State.ctlRelease
  extract_lets x u
  have hu : u.pace = s.pace := by simp [u]
  split
  · exact .refl _
  split
  · simp [hu]
  · rw [← hu]
    exact foldl_grows State.emit_grows _ u

theorem State.pauseSeen_grows (s : State) (t : Nat) (p : BitVec 8) : s.pace.Grows (s.pauseSeen t p).pace := by
  unfold State.pauseSeen
  split
  · exact .refl _
  · rw [← State.setTine_pace s t { s.tine t with paused := p }]
    exact State.ctlRelease_grows _ t

theorem State.judgeFrame_grows (s : State) (t : Nat) (f : Frame) : s.pace.Grows (s.judgeFrame t f).1.pace := by
  unfold State.judgeFrame
  extract_lets x u y etype rx onTine ours
  have hu : s.pace.Grows u.pace := s.pauseSeen_grows t f.paused
  clear_value u etype ours
  split
  · exact .refl _
  split
  · simpa using hu
  split
  · simpa using hu
  split
  · simpa using hu
  split
  · split
    · simpa using hu
    · split <;> simpa using hu
  · split
    · simpa using hu
    · extract_lets pn hi v
      have hv : v.pace = u.pace := by simp [v]
      repeat' split
      all_goals simpa [hv] using hu

theorem State.dataIn_grows (s : State) (t : Nat) (f : Frame) : s.pace.Grows (s.dataIn t f).pace := by
  have hj := s.judgeFrame_grows t f
  unfold State.dataIn
  split
  next h => rwa [h] at hj
  next u n h =>
    rw [h] at hj
    refine hj.trans ?_
    extract_lets a x path ce v w p y ms go never
    have hy : y.pace = u.pace := by
      unfold y w
      split <;> simp [v]
    have hgo (p : State × Bool) (m : LinkMsg × Nat) : (go p m).1.pace = p.1.pace := by
      simp [go]
    have hfold : (ms.foldl go (y, true)).1.pace = u.pace := (foldl_fst_pace hgo ms _).trans hy
    split
    · simp [hy]
    · generalize ms.foldl go (y, true) = r at hfold ⊢
      dsimp only
      split <;> simp [hfold]

theorem State.ackIn_grows (s : State) (t : Nat) (f : Frame) : s.pace.Grows (s.ackIn t f).pace := by
  have hj := s.judgeFrame_grows t f
  unfold State.ackIn
  split <;> rename_i h <;> rw [h] at hj <;> simpa using hj

theorem State.takeLanded_grows (s : State) (c : Instr) : s.pace.Grows (s.takeLanded c).pace := by
  unfold State.takeLanded
  split
  case h_7 => exact s.dataIn_grows _ _
  case h_8 => exact s.ackIn_grows _ _
  all_goals simp

theorem State.replayLanded_grows (s : State) : s.pace.Grows s.replayLanded.pace := by
  unfold State.replayLanded
  split
  · exact .refl _
  · exact foldl_grows State.takeLanded_grows _ { s with obs := { s.obs with landed := [] } }

theorem State.stopRelease_grows (s : State) : s.pace.Grows s.stopRelease.pace := by
  unfold State.stopRelease
  split
  · exact .refl _
  · extract_lets u f v
    have hv : v.pace = s.pace := (State.pace_obs u _).trans (State.ringAll_pace s 0x87 _)
    rw [State.mgIrq_pace, State.xoffAll_pace, ← hv]
    exact State.replayLanded_grows v

theorem State.stopEnds_grows (s : State) : s.pace.Grows s.stopEnds.pace := by
  unfold State.stopEnds
  split
  · exact s.stopRelease_grows
  · exact .refl _

end Sys2Proof.Machine
end

section
/-! The tick boundary (01 R33, R37, R39, 02 R76, 14 R442). -/

namespace Sys2Proof.Machine

theorem State.deadlinesOpen_grows (s : State) : s.pace.Grows s.deadlinesOpen.pace := by
  unfold State.deadlinesOpen
  extract_lets u v w x y z
  have hu : u.pace = s.pace := by
    unfold u
    split <;> simp
  have hw : w.pace = s.pace := by simp [w, v, hu]
  have hx : x.pace = s.pace := by
    unfold x
    split <;> simp [hw]
  have hy : y.pace = s.pace := by
    unfold y
    split <;> simp [hx]
  have hz : z.pace = s.pace := by
    unfold z
    split <;> simp [hy]
  rw [← hz, State.flushTick_pace, State.openGates_pace, State.windowsGrow_pace]
  exact State.upTo_grows State.ctlRelease_grows _ z

theorem State.refTick_grows (s : State) : s.pace.Grows s.refTick.pace := by
  unfold State.refTick
  split
  · exact ⟨List.Subset.refl _, rfl, rfl⟩
  · dsimp only
    split
    · exact ⟨List.Subset.refl _, rfl, rfl⟩
    split
    · exact ⟨List.Subset.refl _, rfl, rfl⟩
    · rw [State.raise_pace]
      exact ⟨List.Subset.refl _, rfl, rfl⟩
  · exact .refl _

theorem State.deadlinesKept_grows (s : State) : s.pace.Grows s.deadlinesKept.pace := by
  unfold State.deadlinesKept
  extract_lets u v w x y z
  have hz : z.membersTick.pace = s.pace := by simp [z, y, x, w, v, u]
  rw [State.xoffAll_pace, ← hz]
  exact State.refTick_grows _

theorem State.deadlines_grows (s : State) : s.pace.Grows s.deadlines.pace := by
  unfold State.deadlines
  extract_lets u v w x y
  have hu : u.pace = s.pace := by
    unfold u
    split <;> simp
  have hv : u.pace.Grows v.pace := by
    unfold v
    split
    · exact .refl _
    · exact u.deadlinesOpen_grows
  have hw : v.pace.Grows w.pace := by
    unfold w
    rw [State.fawnTick_pace]
    exact v.deadlinesKept_grows
  have hx : x.pace = w.pace := by
    unfold x
    split <;> simp
  have hy : y.pace = w.pace := by
    unfold y
    split <;> simp [hx]
  have hdump : y.traceFlush.dumpTick.pace = w.pace := by simp [hy]
  rw [State.notice_pace, State.dropFills_pace, ← hu]
  refine (hv.trans hw).trans ?_
  rw [← hdump]
  exact State.replayLanded_grows _

/-- What a boundary may make of the state it counted the tick in: the tick stays, or a Standby entry ends with the tick
at 0. -/
structure Pace.Ends (a b : Pace) : Prop where
  ticks : a.ticks ⊆ b.ticks
  tick : b.tick = a.tick ∨ (b.tick = 0 ∧ b.power = 0 ∧ a.standby = true ∧ a.dozeAt ≠ none)

theorem Pace.Ends.grows {a b c : Pace} (h : a.Ends b) (h' : b.Grows c) : a.Ends c := by
  refine ⟨List.Subset.trans h.ticks h'.ticks, ?_⟩
  rw [h'.tick, h'.power]
  exact h.tick

/-- A boundary that leaves the ticks sent and the tick as they are. -/
theorem Pace.Ends.of_eq {a b : Pace} (ht : b.ticks = a.ticks) (hk : b.tick = a.tick) : a.Ends b :=
  ⟨by rw [ht]; exact List.Subset.refl _, .inl hk⟩

theorem State.coldReset_ticks (s : State) : s.coldReset.pace.ticks = s.pace.ticks := rfl

theorem State.enterStandby_pace (s : State) :
    s.enterStandby.pace.ticks = s.pace.ticks ∧ s.enterStandby.pace.tick = 0 ∧ s.enterStandby.pace.power = 0 := by
  have hrest : ((s.power 3 0).coldReset.emit (.bootPins true true)).pace = (s.power 3 0).coldReset.pace := by simp
  unfold State.enterStandby
  rw [State.notice_pace]
  refine ⟨?_, congrArg Pace.tick hrest, rfl⟩
  calc _
    _ = (s.power 3 0).coldReset.pace.ticks := congrArg Pace.ticks hrest
    _ = (s.power 3 0).pace.ticks := State.coldReset_ticks _
    _ = s.pace.ticks := congrArg Pace.ticks (State.power_pace s 3 0)

theorem State.enterDoze_pace_ends (s : State) : s.pace.Ends s.enterDoze.pace := by
  unfold State.enterDoze
  extract_lets u v
  have hu : u.pace = s.pace := by simp [u]
  rw [State.notice_pace, State.mgIrq_pace, ← hu]
  exact .of_eq rfl rfl

theorem State.powerRefuse_pace_ends (s : State) : s.pace.Ends s.powerRefuse.pace := by
  unfold State.powerRefuse
  extract_lets _ _ u v
  have hv : v.pace = u.pace := by
    refine foldl_pace (fun s k => ?_) _ u
    split <;> simp
  rw [State.xoffAll_pace, hv]
  exact .of_eq rfl rfl

theorem State.powerTick_pace_ends (s : State) : s.pace.Ends s.powerTick.pace := by
  unfold State.powerTick
  split
  next e he =>
    split
    next hs =>
      split
      · obtain ⟨hticks, htick, hpower⟩ := s.enterStandby_pace
        refine ⟨by rw [hticks]; exact List.Subset.refl _, .inr ⟨htick, hpower, hs, ?_⟩⟩
        simp [State.pace, he]
      · exact .of_eq rfl rfl
    · split
      · split
        · exact s.enterDoze_pace_ends
        · exact s.powerRefuse_pace_ends
      · split
        · simp [Pace.Ends.of_eq]
        · exact .of_eq rfl rfl
  · split
    · exact .of_eq rfl rfl
    split
    · exact s.powerRefuse_pace_ends
    · rw [State.xoffAll_pace]
      exact .of_eq rfl rfl

theorem State.commit_pace_ends (s : State) : s.pace.Ends s.commit.pace := by
  unfold State.commit
  extract_lets a b c d e f g
  have ha : a.pace = s.pace := by simp [a]
  have hb : b.pace = s.pace := by
    unfold b
    split <;> simp [ha]
  have hc : c.pace = s.pace := by
    unfold c
    split <;> simp [hb]
  have hd : d.declareAll.startFatal.handover.revertStep.pace = s.pace := by simp [d, hc]
  have he : s.pace.Ends e.pace := by
    unfold e
    rw [State.fclkBoundary_pace, State.thermalTick_pace, ← hd]
    exact State.powerTick_pace_ends _
  have hf : f.pace = e.pace := by
    unfold f
    split
    · rfl
    · refine State.each_pace e _ fun s i => ?_
      split <;> simp
  have hg : g.pace = e.pace := by
    unfold g
    split <;> simp [hf]
  refine Pace.Ends.grows ?_ g.stopEnds_grows
  rwa [hg]

/-! ### Counting a tick -/

/-- Whether tb_offset counts. -/
def Pace.offsetValid (a : Pace) : Bool :=
  a.tickRunning && (match a.offsetTick with | some t => decide (a.tick < t + 16) | none => false)

/-- One tick on, and told of on tick_out. -/
def Pace.counted (a : Pace) : Pace :=
  { a with tick := a.tick + 1,
           ticks := a.ticks ++ [.tick a.offsetNs ({ a with tick := a.tick + 1 } : Pace).offsetValid] }

theorem State.nextTick_pace (s : State) : s.nextTick.pace = s.pace.counted := by
  simp only [State.nextTick, State.emit, State.pace, Pace.counted, List.filter_append]
  rfl

theorem State.boundary_pace_ends (s : State) : s.pace.counted.Ends s.boundary.pace := by
  have hcount : s.tickClose.nextTick.holdClocks.snapshot.pace = s.pace.counted := by
    rw [State.snapshot_pace, State.holdClocks_pace, State.nextTick_pace, State.tickClose_pace]
  have hcommit := s.tickClose.nextTick.holdClocks.snapshot.commit_pace_ends
  rw [hcount] at hcommit
  refine hcommit.grows ?_
  rw [← State.refill_pace]
  exact State.deadlines_grows _

theorem State.wakeUp_ticks_tick (s : State) (src : WakeSource) :
    (s.wakeUp src).pace.ticks = s.pace.ticks ∧ (s.wakeUp src).pace.tick = s.pace.tick := by
  unfold State.wakeUp
  split
  · exact ⟨rfl, rfl⟩
  split
  · extract_lets u p b f v
    have hv : v.pace = s.pace := by simp [v, b, f, u]
    rw [State.fclkStart_pace, hv]
    exact ⟨rfl, rfl⟩
  split
  · rw [State.setPhase_pace]
    exact ⟨rfl, rfl⟩
  · exact ⟨rfl, rfl⟩

theorem State.dozeBoundary_ticks_tick (s : State) :
    s.dozeBoundary.pace.ticks = s.pace.counted.ticks ∧ s.dozeBoundary.pace.tick = s.pace.counted.tick := by
  unfold State.dozeBoundary
  extract_lets u v w
  have hu : u.pace = s.pace.counted := by simp [u, State.nextTick_pace]
  have hv : v.pace = s.pace.counted := by
    unfold v
    split <;> simp [hu]
  have hw : w.pace = s.pace.counted := by simp [w, hv]
  rw [State.notice_pace, ← hw]
  exact w.wakeUp_ticks_tick _

theorem State.pace_tick (s : State) : s.pace.tick = s.blk.tick := rfl

theorem State.pace_power (s : State) : s.pace.power = s.blk.power := rfl

theorem State.pace_counted_tick (s : State) : s.pace.counted.tick = s.blk.tick + 1 := rfl

/-- The transfer of tick_out that a boundary makes. -/
theorem State.tick_mem_out {s t : State} (h : s.pace.counted.ticks ⊆ t.pace.ticks) :
    .tick s.blk.offsetNs ({ s with blk := { s.blk with tick := s.blk.tick + 1 } } : State).offsetValid ∈ t.out :=
  List.mem_of_mem_filter (h (List.mem_append_right _ (List.mem_singleton.mpr rfl)))

/-- Settles O5: every operation of a boundary leaves the tick, or only adds to what was sent on tick_out, but for the one
that counts it and for the end of a Standby entry. -/
theorem tickBoundary : Obligations.TickBoundary := by
  unfold Obligations.TickBoundary
  refine ⟨fun s hs => ?_, fun s hs hp => ?_⟩
  · by_cases hp : s.blk.power = 2
    · obtain ⟨hticks, htick⟩ := s.boundary_pace_ends
      rw [State.pace_tick, State.pace_power, State.pace_counted_tick] at htick
      refine ⟨s.boundary, by simp [exec, execTickBoundary, hs, hp], State.tick_mem_out hticks, ?_⟩
      exact htick.imp_right fun ⟨h0, hpower, hstandby, hdoze⟩ => ⟨h0, hpower, hp, hstandby, hdoze⟩
    · obtain ⟨hticks, htick⟩ := s.dozeBoundary_ticks_tick
      rw [State.pace_tick, State.pace_counted_tick] at htick
      refine ⟨s.dozeBoundary, by simp [exec, execTickBoundary, hs, hp], State.tick_mem_out ?_, .inl htick⟩
      rw [hticks]
      exact List.Subset.refl _
  · simp only [exec, execTickBoundary, hs, hp, if_true]
    rfl

end Sys2Proof.Machine
end

section
/-! fclk and power: what the shared operations of `Machine/Fawn.lean` do, the operating points (01 R34, R35), and Doze,
Standby, wake and power control (01 R46, R47, 02 R78, 14 R440 to R442, 16 R484). -/

namespace Sys2Proof.Machine

/-! ### Folds over the ports -/

/-- A fold over distinct memory ports, whose step for `k` makes `g k` of port `k` and leaves the other ports. -/
theorem foldl_mp {f : State → Nat → State} {g : Nat → MemPort → MemPort} (hself : ∀ s k, (f s k).mp k = g k (s.mp k))
    (hne : ∀ s k j, j ≠ k → (f s k).mp j = s.mp j) {l : List Nat} (hl : l.Nodup) (s : State) (j : Nat) :
    (l.foldl f s).mp j = if j ∈ l then g j (s.mp j) else s.mp j := by
  induction l generalizing s with
  | nil => rfl
  | cons k l ih =>
    obtain ⟨hk, hl⟩ := List.nodup_cons.mp hl
    rw [List.foldl_cons, ih hl]
    by_cases hj : j = k
    · subst hj
      simp [hk, hself]
    · simp [hj, hne s k j hj]

/-! ### Driving lp_rx_xoff, power control, and noticing a change -/

@[simp] theorem State.xoffAll_blk (s : State) : s.xoffAll.blk = s.blk := by rw [State.xoffAll_eq]
@[simp] theorem State.xoffAll_fawn (s : State) : s.xoffAll.fawn = s.fawn := by rw [State.xoffAll_eq]

/-- Power control that is not isolated drives the request (02 R53, R78). -/
theorem State.power_of_not_isolated {s : State} (h : (s.port pcPort).state ≠ 2) (op arg : Nat) :
    s.power op arg = { s with fawn := { s.fawn with pcReg := op + arg * 8 }, out := s.out ++ [.powerReq op arg] } := by
  simp [State.power, h, State.emit]

@[simp] theorem State.power_blk (s : State) (op arg : Nat) : (s.power op arg).blk = s.blk := by
  unfold State.power
  split <;> rfl

@[simp] theorem State.power_ports (s : State) (op arg : Nat) : (s.power op arg).ports = s.ports := by
  unfold State.power
  split <;> rfl

@[simp] theorem State.power_fawn (s : State) (op arg : Nat) :
    (s.power op arg).fawn = { s.fawn with pcReg := if (s.port pcPort).state = 2 then s.fawn.pcReg else op + arg * 8 } := by
  unfold State.power
  split <;> rfl

theorem State.powerReq_mem_power_out {s : State} (h : (s.port pcPort).state ≠ 2) (op arg : Nat) :
    .powerReq op arg ∈ (s.power op arg).out := by
  rw [State.power_of_not_isolated h]
  exact List.mem_append_right _ (List.mem_singleton_self _)

theorem State.mem_power_out {s : State} {o : Output} (h : o ∈ s.out) (op arg : Nat) : o ∈ (s.power op arg).out := by
  unfold State.power
  split
  · exact h
  · exact List.mem_append_left _ h

@[simp] theorem State.notice_blk (s : State) : s.notice.blk = s.blk := by rw [State.notice_eq]
@[simp] theorem State.notice_waking (s : State) : s.notice.fawn.waking = s.fawn.waking := by rw [State.notice_eq]

theorem State.mem_event_out {s : State} {o : Output} (h : o ∈ s.out) (type arg : Nat) : o ∈ (s.event type arg).out := by
  unfold State.event
  dsimp only
  split
  · exact List.mem_append_left _ h
  · exact h

/-- A transfer made before a change is noticed stays made. -/
theorem State.mem_notice_out {s : State} {o : Output} (h : o ∈ s.out) : o ∈ s.notice.out := by
  have hite : ∀ (c : Bool) (u : State) (a b : Nat), o ∈ u.out → o ∈ (if c then u.event a b else u).out := by
    intro c u a b hu
    split
    · exact State.mem_event_out hu a b
    · exact hu
  unfold State.notice
  exact hite _ _ _ _ (hite _ _ _ _ (hite _ _ _ _ h))

@[simp] theorem State.setPhase_phase (s : State) (p : Nat) : (s.setPhase p).fawn.phase = p := by rw [State.setPhase_eq]
@[simp] theorem State.setPhase_blk (s : State) (p : Nat) : (s.setPhase p).blk = s.blk := by rw [State.setPhase_eq]

/-! ### A change of the operating point (01 R34, R35) -/

@[simp] theorem State.fclkStart_blk (s : State) (p : Nat) :
    (s.fclkStart p).blk = { s.blk with fclkChange := some p, fclkSince := s.blk.tick, fclkWanted := none } := by
  simp [State.fclkStart]

@[simp] theorem State.fclkStart_fclkStable (s : State) (p : Nat) : (s.fclkStart p).fawn.fclkStable = false := by
  simp [State.fclkStart]

@[simp] theorem State.fclkStart_waking (s : State) (p : Nat) : (s.fclkStart p).fawn.waking = s.fawn.waking := by
  simp [State.fclkStart]

/-- Starting a change asks power control for the point. -/
theorem State.powerReq_mem_fclkStart_out {s : State} (h : (s.port pcPort).state ≠ 2) (p : Nat) :
    .powerReq 0 p ∈ (s.fclkStart p).out := by
  refine State.mem_xoffAll_out _ (State.powerReq_mem_power_out ?_ 0 p)
  exact h

/-- A transfer made before a change starts stays made. -/
theorem State.mem_fclkStart_out {s : State} {o : Output} (h : o ∈ s.out) (p : Nat) : o ∈ (s.fclkStart p).out := by
  refine State.mem_xoffAll_out _ (State.mem_power_out ?_ 0 p)
  exact h

/-- A change may start only while none runs, and with power control not isolated. -/
theorem State.of_mayChange {s : State} (h : s.mayChange = true) : s.blk.fclkChange = none ∧ (s.port pcPort).state ≠ 2 := by
  simp only [State.mayChange, Bool.and_eq_true, Option.isNone_iff_eq_none, bne_iff_ne, ne_eq] at h
  obtain ⟨⟨⟨⟨⟨hnone, -⟩, -⟩, -⟩, -⟩, hpc⟩ := h
  exact ⟨hnone, hpc⟩

/-- A wanted point that may be selected and is not the present one is started where a change may start. -/
theorem State.fclkBoundary_of_mayChange {s : State} {p : Nat} (hw : s.blk.fclkWanted = some p) (hok : s.pointOk p = true)
    (hne : p ≠ s.blk.fclkPoint) (hmay : s.mayChange = true) : s.fclkBoundary = s.fclkStart p := by
  simp [State.fclkBoundary, hw, hok, hne, hmay]

/-- A command for a point that Fawn may not select changes nothing (01 R33, R36, R48). -/
theorem execFclkChange_of_not_pointOk {s : State} {p : BitVec 4} (h : s.pointOk p.toNat = false) :
    exec (.fclkChange p) s = .next s := by
  simp [exec, execFclkChange, h]

/-- A block parked at point 8, as at reset otherwise: every condition of 01 R35 for a change holds. -/
def parkedAtReset : State := { State.reset with blk := { State.reset.blk with parked := true } }

/-- Refutes O17: while the block is parked Fawn selects point 8 alone (01 R48), so FCLK_CHANGE to point 0 changes nothing
in `parkedAtReset`, which meets every hypothesis of the first clause. -/
theorem not_fclkCommands : ¬ Obligations.FclkCommands := by
  unfold Obligations.FclkCommands
  intro h
  obtain ⟨hchange, -, -⟩ := h parkedAtReset
  obtain ⟨t, ht, hbegun, -⟩ := hchange 0 (by decide) (by decide) (by decide) (by decide) (by decide)
  rw [execFclkChange_of_not_pointOk (by decide)] at ht
  obtain rfl : parkedAtReset = t := Host.Outcome.next.inj ht
  exact absurd hbegun (by decide)

/-! ### Doze and Standby (14 R440, R442) -/

/-- A request for Doze or Standby is stored and waits for its boundary (01 R46). -/
theorem State.powerWrite_blk_of_lt {s : State} {v : Nat} (h : v < 2) :
    (s.powerWrite v).blk = { s.blk with powerRequest := v, powerPending := true } := by
  have h3 : v ≠ 3 := by omega
  have h2 : v ≠ 2 := by omega
  simp [State.powerWrite, h3, h2]

/-- The acknowledgements of self-refresh are taken from the ports that were asked (14 R440). -/
def State.takeAcks (s : State) (acks : BitVec 16) : State :=
  (List.range 16).foldl (fun (s : State) k => if (s.mp k).srReq then s.setMp k { s.mp k with srAck := acks.getLsbD k } else s) s

/-- The check of a Doze entry that is due: the acknowledgements are taken, and an absent one refuses the entry. -/
theorem State.selfRefreshCheck_of_due {s : State} {acks : BitVec 16} {e : Nat} (hat : s.fawn.dozeAt = some e)
    (hdoze : s.fawn.standby = false) (hdue : e + 4 ≤ s.blk.tick) :
    s.selfRefreshCheck acks = if (s.takeAcks acks).refreshed then s.takeAcks acks else (s.takeAcks acks).powerRefuse := by
  have hnot : ¬ s.blk.tick < e + 4 := by omega
  simp only [State.selfRefreshCheck, hat, hdoze, hnot, Bool.false_or, decide_false, Bool.false_eq_true, if_false]
  rfl

theorem State.takeAcks_mp (s : State) (acks : BitVec 16) {k : Nat} (hk : k < 16) :
    (s.takeAcks acks).mp k = if (s.mp k).srReq then { s.mp k with srAck := acks.getLsbD k } else s.mp k := by
  have h := foldl_mp (f := fun (s : State) k => if (s.mp k).srReq then s.setMp k { s.mp k with srAck := acks.getLsbD k } else s)
    (g := fun k m => if m.srReq then { m with srAck := acks.getLsbD k } else m)
    (fun s k => by dsimp only; split <;> simp) (fun s k j hj => by dsimp only; split <;> simp [hj])
    (List.nodup_range (n := 16)) s k
  rwa [if_pos (List.mem_range.mpr hk)] at h

@[simp] theorem State.takeAcks_fawn (s : State) (acks : BitVec 16) : (s.takeAcks acks).fawn = s.fawn :=
  foldl_keeps State.fawn (fun s k => by dsimp only; split <;> rfl) _ s

@[simp] theorem State.takeAcks_portUp (s : State) (acks : BitVec 16) (i : Nat) : (s.takeAcks acks).portUp i = s.portUp i :=
  foldl_keeps (fun s => s.portUp i) (fun s k => by dsimp only; split <;> rfl) _ s

/-- Every port in use asked and acknowledged: the entry goes on. -/
theorem State.takeAcks_refreshed {s : State} {acks : BitVec 16}
    (h : ∀ k, k < 16 → s.portUp (mpPort k) = true → (s.mp k).srReq = true ∧ acks.getLsbD k = true) :
    (s.takeAcks acks).refreshed = true := by
  simp only [State.refreshed, List.all_eq_true, List.mem_range, State.takeAcks_portUp]
  intro k hk
  cases hup : s.portUp (mpPort k) with
  | false => rfl
  | true =>
    obtain ⟨hreq, hack⟩ := h k hk hup
    simp [State.takeAcks_mp s acks hk, hreq, hack]

/-- A port in use that was asked and has not acknowledged: the entry is refused. -/
theorem State.takeAcks_not_refreshed {s : State} {acks : BitVec 16} {k : Nat} (hk : k < 16)
    (hup : s.portUp (mpPort k) = true) (hreq : (s.mp k).srReq = true) (hack : acks.getLsbD k = false) :
    (s.takeAcks acks).refreshed = false := by
  rw [State.refreshed, List.all_eq_false]
  exact ⟨k, List.mem_range.mpr hk, by simp [hup, State.takeAcks_mp s acks hk, hreq, hack]⟩

/-- A refused entry has ended and is reported in BLK_POWER (01 R47). -/
theorem State.powerRefuse_ends (s : State) : s.powerRefuse.fawn.dozeAt = none ∧ s.powerRefuse.blk.requestRefused = true := by
  simp only [State.powerRefuse, State.xoffAll_fawn, State.xoffAll_blk]
  constructor
  · rw [foldl_keeps State.fawn (fun s k => by split <;> rfl)]
  · rw [foldl_keeps State.blk (fun s k => by split <;> rfl)]

/-! ### Wake (14 R441, R442) -/

/-- The first step of a wake from Doze: the supply is asked for (14 R441). -/
def State.wakeAsks (s : State) : State :=
  let s := s.power 2 0
  { s with fawn := { s.fawn with waking := some s.blk.tick }, blk := { s.blk with powerRequest := 2 } }

@[simp] theorem State.wakeAsks_blk (s : State) : s.wakeAsks.blk = { s.blk with powerRequest := 2 } := by
  simp [State.wakeAsks]
@[simp] theorem State.wakeAsks_waking (s : State) : s.wakeAsks.fawn.waking = some s.blk.tick := by
  simp [State.wakeAsks]

theorem State.powerReq_mem_wakeAsks_out {s : State} (h : (s.port pcPort).state ≠ 2) : .powerReq 2 0 ∈ s.wakeAsks.out :=
  State.powerReq_mem_power_out h 2 0

/-- Doze wakes with the supply and then fclk. -/
theorem State.wakeUp_of_doze {s : State} {src : WakeSource} (hen : s.wakeEnabled src = true) (hpow : s.blk.power = 1)
    (hnot : s.fawn.waking = none) :
    s.wakeUp src = s.wakeAsks.fclkStart
      (if s.blk.parked then 8 else max s.blk.fclkLimit (max s.fawn.entryPoint (s.blk.fclkWanted.getD 0))) := by
  simp [State.wakeUp, State.wakeAsks, hen, hpow, hnot]

/-- A wake from Standby is a cold start at BOOT_STORE (14 R442). -/
theorem State.wakeUp_of_standby {s : State} {src : WakeSource} (hen : s.wakeEnabled src = true) (hpow : s.blk.power = 0) :
    s.wakeUp src = ({ s with blk := { s.blk with power := 2 } } : State).setPhase 1 := by
  simp [State.wakeUp, hen, hpow]

/-- The ports that have left reset are taken as trained or not at the end of a wake (14 R441 step 4, 02 R63). -/
def State.takeTrained (s : State) (trained : BitVec 16) : State :=
  (List.range 16).foldl (fun (s : State) k =>
    if (s.port (mpPort k)).state != 1 then s
    else if trained.getLsbD k then s.setMp k { s.mp k with trained := true, trainedFell := none }
    else s.setMp k { s.mp k with trained := false, trainedFell := some s.blk.tick }) s

/-- Whatever no memory port is part of stays as it is while the ports are taken. -/
theorem State.takeTrained_keeps {β : Type} (π : State → β) (h : ∀ s k m, π (State.setMp s k m) = π s) (s : State)
    (trained : BitVec 16) : π (s.takeTrained trained) = π s := by
  refine foldl_keeps π (fun s k => ?_) _ s
  dsimp only
  split
  · rfl
  · split <;> exact h _ _ _

@[simp] theorem State.takeTrained_blk (s : State) (trained : BitVec 16) : (s.takeTrained trained).blk = s.blk :=
  s.takeTrained_keeps State.blk (fun _ _ _ => rfl) trained
@[simp] theorem State.takeTrained_fawn (s : State) (trained : BitVec 16) : (s.takeTrained trained).fawn = s.fawn :=
  s.takeTrained_keeps State.fawn (fun _ _ _ => rfl) trained
@[simp] theorem State.takeTrained_drives (s : State) (trained : BitVec 16) (i : Nat) :
    (s.takeTrained trained).drives i = s.drives i :=
  s.takeTrained_keeps (fun s => s.drives i) (fun _ _ _ => rfl) trained

/-- A block that wakes from Doze, Active again. -/
def State.awake (s : State) : State := { s with blk := { s.blk with power := 2 }, fawn := { s.fawn with waking := none } }

theorem State.wakeDone_of_waking {s : State} (trained : BitVec 16) (hpow : s.blk.power = 1) (hwaking : s.fawn.waking ≠ none)
    (hstable : s.blk.fclkChange = none) :
    s.wakeDone trained = (((s.awake.takeTrained trained).mgIrq 0x0F).xoffAll).notice := by
  unfold State.wakeDone
  rw [if_neg (by simp [hpow, hwaking, hstable])]
  rfl

/-- A management interrupt is a transfer where the port drives its outputs. -/
theorem State.mgIrq_mem_out {s : State} (h : s.drives mgPort = true) (vec : Nat) : .mgIrq vec ∈ (s.mgIrq vec).out := by
  rw [State.mgIrq, State.emitAt, if_pos h]
  exact List.mem_append_right _ (List.mem_singleton_self _)

/-! ### Power-control ops (02 R78) -/

/-- An op that is not on the wires already drives its request. -/
theorem State.powerOp_drives {s : State} {op : Nat} (hon : s.blk.power ≠ 3) (hne : s.fawn.pcReg ≠ op)
    (hpc : (s.port pcPort).state ≠ 2) :
    (s.powerOp op 0).out = s.out ++ [.powerReq op 0] ∧ (s.powerOp op 0).fawn.pcReg = op := by
  simp [State.powerOp, hon, hne, State.power_of_not_isolated hpc]

/-- The command of each power-control op without an argument (02 R78). -/
theorem exec_powerOp {c : Instr} {op : Nat}
    (h : (c, op) ∈ [(Instr.fabricRetention, 1), (.fabricNominal, 2), (.fabricOff, 3), (.supplyRemove, 4)]) (s : State) :
    exec c s = .next (s.powerOp op 0) := by
  simp only [List.mem_cons, Prod.mk.injEq, List.not_mem_nil, or_false] at h
  obtain ⟨rfl, rfl⟩ | ⟨rfl, rfl⟩ | ⟨rfl, rfl⟩ | ⟨rfl, rfl⟩ := h <;> rfl

/-- Settles O54, clause by clause through the lemmas above. -/
theorem powerStates : Obligations.PowerStates := by
  unfold Obligations.PowerStates
  intro s
  refine ⟨?request, ?check, ?doze, ?standby, ?complete, ?point, ?boundary, ?op, ?removal⟩
  case request =>
    intro hopen
    refine ⟨⟨_, rfl, ?_⟩, ⟨_, rfl, ?_⟩⟩ <;>
      simp [State.mgWrite_of_open _ hopen, State.powerWrite_blk_of_lt]
  case check =>
    intro acks e hat hdoze hdue
    refine ⟨fun hall => ⟨_, rfl, ?_⟩, fun k hk hup hreq hack => ⟨_, rfl, ?_⟩⟩
    · rw [State.selfRefreshCheck_of_due hat hdoze hdue, if_pos (State.takeAcks_refreshed hall), State.takeAcks_fawn]
      exact ⟨hat, fun k hk hreq => by simp [State.takeAcks_mp s acks hk, hreq]⟩
    · rw [State.selfRefreshCheck_of_due hat hdoze hdue, State.takeAcks_not_refreshed hk hup hreq hack,
        if_neg Bool.false_ne_true]
      exact State.powerRefuse_ends _
  case doze =>
    intro src hen hpow hnot hpc
    refine ⟨_, rfl, ?_⟩
    rw [State.wakeUp_of_doze hen hpow hnot]
    exact ⟨by simp, by simp, State.mem_fclkStart_out (State.powerReq_mem_wakeAsks_out hpc) _, by simp⟩
  case standby =>
    intro src hen hpow
    refine ⟨_, rfl, ?_⟩
    simp [State.wakeUp_of_standby hen hpow]
  case complete =>
    intro trained hpow hwaking hstable
    refine ⟨_, rfl, ?_⟩
    rw [State.wakeDone_of_waking trained hpow hwaking hstable]
    refine ⟨by simp [State.awake], by simp [State.awake], fun hdrives => ?_⟩
    exact State.mem_notice_out (State.mem_xoffAll_out _ (State.mgIrq_mem_out (by rw [State.takeTrained_drives]; exact hdrives) 0x0F))
  case point =>
    intro arg hok hon
    simp [exec, execFclkPoint, hok, hon, State.fclkWant]
  case boundary =>
    intro p hw hok hne hmay
    obtain ⟨-, hpc⟩ := State.of_mayChange hmay
    rw [State.fclkBoundary_of_mayChange hw hok hne hmay]
    exact ⟨State.fclkStart_blk s p, State.fclkStart_fclkStable s p, State.powerReq_mem_fclkStart_out hpc p⟩
  case op =>
    intro c op hmem hon hne hpc
    exact ⟨_, exec_powerOp hmem s, State.powerOp_drives hon hne hpc⟩
  case removal =>
    exact ⟨_, rfl, rfl, rfl, rfl, rfl, rfl, rfl⟩

end Sys2Proof.Machine
end

section
/-! The kernel boundary of the host port: START, END and ABORT (02 R68, R69, 11 R342). -/

namespace Sys2Proof.Machine

/-! ### Acknowledging, unbinding and losing -/

@[simp] theorem State.kbAck_portUp (s : State) (q : Nat) (st : Status) (i : Nat) : (s.kbAck q st).portUp i = s.portUp i := by
  simp [State.portUp, State.port]

/-- A host port that is up drives the acknowledgement. -/
theorem State.kbAck_mem_out {s : State} (h : s.portUp hostPort = true) (q : Nat) (st : Status) :
    .kbAck q st ∈ (s.kbAck q st).out := by
  simp [State.kbAck, h, State.emit]

@[simp] theorem State.unbind_out (s : State) (c : Nat) : (s.unbind c).out = s.out := by
  unfold State.unbind
  split <;> rfl

@[simp] theorem State.unbind_losing (s : State) (c : Nat) : (s.unbind c).losing = s.losing := by
  unfold State.unbind
  split <;> rfl

theorem State.unbind_bindings {s : State} {c : Nat} {b : Binding} (h : mget? s.bindings c = some b) :
    (s.unbind c).bindings = mdel s.bindings c := by
  simp [State.unbind, h]

@[simp] theorem State.willLose_out (s : State) (x cause : Nat) : (s.willLose x cause).out = s.out := by
  unfold State.willLose
  split <;> rfl

@[simp] theorem State.willLose_bindings (s : State) (x cause : Nat) : (s.willLose x cause).bindings = s.bindings := by
  unfold State.willLose
  split <;> rfl

/-- A context that no cause of this boundary has named yet is lost with the cause given (11 R354). -/
theorem State.willLose_losing {s : State} {x : Nat} (h : s.losing.any (·.1 == x) = false) (cause : Nat) :
    (s.willLose x cause).losing = s.losing ++ [(x, cause)] := by
  simp [State.willLose, h]

theorem State.losing_any_of_not_ctxLost {s : State} {x : Nat} (h : s.ctxLost x = false) : s.losing.any (·.1 == x) = false :=
  (Bool.or_eq_false_iff.mp h).2

/-- A page's interrupt is a transfer. -/
theorem State.fencePageIrq_eq (s : State) (i : Nat) : s.fencePageIrq i = { s with out := (s.fencePageIrq i).out } := by
  unfold State.fencePageIrq
  dsimp only
  split
  · exact State.hostIrq_eq ..
  · rfl

/-- A completion touches the fence's record and the transfers. -/
theorem State.fenceOk_eq (s : State) (i source : Nat) (v : Reg) :
    s.fenceOk i source v = { s with fences := (s.fenceOk i source v).fences, out := (s.fenceOk i source v).out } := by
  unfold State.fenceOk
  extract_lets f f'
  split
  · rw [State.setFence_eq]
  · split
    · rw [State.fencePageIrq_eq, State.setFence_eq]
    · rw [State.setFence_eq]

/-! ### START, END and ABORT (02 R68) -/

theorem State.kbEnter_of_kbTakes {s : State} {ty : Nat} {k : KbReq} (h : KbTakes s ty k) : s.kbEnter ty k = (s, true) := by
  obtain ⟨hup, hcpar, hrsvd, hfatal, hhold⟩ := h
  simp [State.kbEnter, hup, hcpar, hrsvd, hfatal, hhold]

theorem exec_kbStart_of_kbTakes {s : State} {k : KbReq} (h : KbTakes s 0 k) : exec (.kbStart k) s = .next (s.kbStart k) := by
  simp only [exec, execKbStart, State.kbEnter_of_kbTakes h]

theorem exec_kbEnd_of_kbTakes {s : State} {k : KbReq} (h : KbTakes s 1 k) : exec (.kbEnd k) s = .next (s.kbEnd k) := by
  simp only [exec, execKbEnd, State.kbEnter_of_kbTakes h]

theorem exec_kbAbort_of_kbTakes {s : State} {k : KbReq} (h : KbTakes s 2 k) : exec (.kbAbort k) s = .next (s.kbAbort k) := by
  simp only [exec, execKbAbort, State.kbEnter_of_kbTakes h]

/-- Writes of a range of tile ports touch the tile ports alone. -/
theorem forRange_setTile_eq (f : Nat → State → TileSt) (lo n : Nat) (s : State) :
    ∃ tiles, forRange lo (fun p s => s.setTile p (f p s)) n s = { s with tiles := tiles } := by
  induction n generalizing lo s with
  | zero => exact ⟨s.tiles, rfl⟩
  | succ n ih =>
    obtain ⟨tiles, h⟩ := ih (lo + 1) (s.setTile lo (f lo s))
    exact ⟨tiles, h⟩

/-- A START that passes its checks binds the range, clears its markers and is acknowledged. -/
theorem State.kbStart_of_ok {s : State} {k : KbReq} (h : s.startStatus k.slot.toNat k.first.toNat k.count.toNat = .ok) :
    ∃ tiles, s.kbStart k = ({ s with bindings := mput s.bindings k.slot.toNat { first := k.first.toNat, count := k.count.toNat },
                                     tiles := tiles } : State).kbAck k.seq.toNat .ok := by
  obtain ⟨tiles, ht⟩ := forRange_setTile_eq (fun p s => { s.tile p with marker := 0 }) k.first.toNat k.count.toNat
    { s with bindings := mput s.bindings k.slot.toNat { first := k.first.toNat, count := k.count.toNat } }
  refine ⟨tiles, ?_⟩
  simp only [State.kbStart, h, if_true, ht]

section Live
variable {s : State} {c x : Nat} {b : Binding}

/-- An END of a live binding waits for the writes of the range. -/
theorem State.kbEnd_of_live {k : KbReq} (hb : mget? s.bindings k.slot.toNat = some b) (hlive : b.lost = false)
    (hx : (s.slot k.slot.toNat).ctx = some x) (hkept : s.ctxLost x = false) (hend : b.ending = none) :
    s.kbEnd k = { s with bindings := mput s.bindings k.slot.toNat { b with ending := some (k.seq.toNat, s.blk.tick) } } := by
  simp [State.kbEnd, hb, hlive, hx, hkept, hend]

/-- An ABORT of a live binding, after an END that waited has been answered LOST: acknowledged, unbound, the context lost. -/
theorem State.kbAbort_of_live {k : KbReq} (hb : mget? s.bindings k.slot.toNat = some b) (hlive : b.lost = false)
    (hx : (s.slot k.slot.toNat).ctx = some x) (hkept : s.ctxLost x = false) :
    ∃ u : State, s.kbAbort k = ((u.kbAck k.seq.toNat .ok).unbind k.slot.toNat).willLose x 2 ∧ u = { s with out := u.out } := by
  cases hend : b.ending with
  | none => exact ⟨s, by simp [State.kbAbort, hb, hlive, hx, hkept, hend], rfl⟩
  | some e => exact ⟨s.kbAck e.1 .lost, by simp [State.kbAbort, hb, hlive, hx, hkept, hend], State.kbAck_eq ..⟩

/-- An END whose writes are home is acknowledged and the range unbound, after what an armed kernel fence of the slot changes
(11 R353): slots, fences and transfers. -/
theorem State.endComplete_of_home {q k : Nat} (hb : mget? s.bindings c = some b) (hlive : b.lost = false)
    (hend : b.ending = some (q, k)) (hhome : s.writesHome b = true) :
    ∃ u : State, s.endComplete c = (u.kbAck q .ok).unbind c ∧ u = { s with slots := u.slots, fences := u.fences, out := u.out } := by
  refine ⟨if (s.slot c).armed then (s.setSlot c { s.slot c with armed := false }).fenceOk (s.slot c).kfence 3 (s.slot c).kvalue
    else s, ?_, ?_⟩
  · simp [State.endComplete, hb, hend, hlive, hhome]
  · split
    · rw [State.fenceOk_eq]
      rfl
    · rfl

/-- An END whose writes are not home after 8 ticks: the binding is lost, END is answered TIMEOUT, and the context is lost. -/
theorem State.endTimeout_of_overdue {q k : Nat} (hb : mget? s.bindings c = some b) (hend : b.ending = some (q, k))
    (hx : (s.slot c).ctx = some x) (hdue : k + 8 ≤ s.blk.tick) (haway : s.writesHome b = false) :
    s.endTimeout c = (({ s with bindings := mput s.bindings c { b with lost := true, ending := none } } : State).kbAck q
      .timeout).willLose x 3 := by
  have hnot : ¬ s.blk.tick < k + 8 := by omega
  have hslot : ∀ u : State, u.slots = s.slots → (u.slot c).ctx = some x := fun u hu => by rw [State.slot, hu]; exact hx
  simp [State.endTimeout, hb, hend, hnot, haway, hslot]

end Live

/-- Settles O27 (ABORT acknowledged OK is log entry 50). -/
theorem kernelBoundary : Obligations.KernelBoundary := by
  unfold Obligations.KernelBoundary
  intro s
  refine ⟨fun k htakes hok => ?start, fun k b x hb hlive hx hkept => ⟨fun htakes hend => ?wait, fun htakes => ?abort⟩,
    fun c b x q k hb hlive hend hx hkept hup => ⟨fun hworking hhome => ?complete, fun hdue haway => ?timeout⟩⟩
  case start =>
    obtain ⟨tiles, hstart⟩ := State.kbStart_of_ok hok
    refine ⟨_, exec_kbStart_of_kbTakes htakes, ?_⟩
    obtain ⟨hup, -⟩ := htakes
    rw [hstart]
    exact ⟨State.kbAck_mem_out (by exact hup) _ _, State.kbAck_bindings ..⟩
  case wait =>
    refine ⟨_, exec_kbEnd_of_kbTakes htakes, ?_⟩
    rw [State.kbEnd_of_live hb hlive hx hkept hend]
    exact ⟨rfl, rfl⟩
  case abort =>
    obtain ⟨u, habort, hu⟩ := State.kbAbort_of_live hb hlive hx hkept
    have hbind : u.bindings = s.bindings := by rw [hu]
    have hlosing : u.losing = s.losing := by rw [hu]
    refine ⟨_, exec_kbAbort_of_kbTakes htakes, ?_⟩
    obtain ⟨hup, -⟩ := htakes
    have hup' : u.portUp hostPort = true := by rw [hu]; exact hup
    rw [habort, State.willLose_losing (by simpa [hlosing] using State.losing_any_of_not_ctxLost hkept), State.willLose_out,
      State.willLose_bindings, State.unbind_out, State.unbind_bindings (by simpa [hbind] using hb), State.kbAck_bindings, hbind]
    exact ⟨State.kbAck_mem_out hup' _ _, rfl, List.mem_append_right _ (List.mem_singleton_self _)⟩
  case complete =>
    obtain ⟨u, hdone, hu⟩ := State.endComplete_of_home hb hlive hend hhome
    have hbind : u.bindings = s.bindings := by rw [hu]
    have hup' : u.portUp hostPort = true := by rw [hu]; exact hup
    refine ⟨_, congrArg Host.Outcome.next (State.unlessStopped_of_working _ hworking), ?_⟩
    rw [hdone, State.unbind_out, State.unbind_bindings (by simpa [hbind] using hb), State.kbAck_bindings, hbind]
    exact ⟨State.kbAck_mem_out hup' _ _, rfl⟩
  case timeout =>
    refine ⟨_, rfl, ?_⟩
    rw [State.endTimeout_of_overdue hb hend hx hdue haway, State.willLose_out,
      State.willLose_losing (by simpa using State.losing_any_of_not_ctxLost hkept)]
    exact ⟨State.kbAck_mem_out (by exact hup) _ _, List.mem_append_right _ (List.mem_singleton_self _)⟩

end Sys2Proof.Machine
end

section
/-! A memory port whose waiting write has no lane (02 R61). -/

namespace Sys2Proof.Machine

/-- A write finds no lane while mp_wr_grant is 0 (02 R61). -/
theorem State.granted_write_of_no_lane {s : State} {p : Nat} {r : MemReq} (hw : r.write = true) (hlane : (s.mp p).grant = 0) :
    s.granted p r = false := by
  simp [State.granted, hw, hlane]

/-- A port that may issue, and whose one waiting request has no lane, issues nothing. -/
theorem State.issueNext_of_not_granted {s : State} {p : Nat} {r : MemReq} (hready : s.mpReady p = true)
    (hwait : (s.mp p).waiting = [r]) (hno : s.granted p r = false) :
    s.issueNext p = s.setMp p { s.mp p with grantBad := false } := by
  have hnone : s.nextWaiting p = none := by simp [State.nextWaiting, hwait, hno]
  simp [State.issueNext, hready, hnone]

/-- A write that waits at a memory port. -/
def waitingWrite : MemReq := { write := true }

/-- Memory port 0 up, trained and healthy, with a write waiting and mp_wr_grant driven to 0. -/
def portWithoutLane : State :=
  { ports := [(mpPort 0, { state := 1 })], mem := [(0, { trained := true, healthy := true, grant := 0, waiting := [waitingWrite] })] }

/-- Refutes O24: the first clause asks of a waiting write that the grant was not above 8, and leaves out that it is not 0. With no
lane (02 R61) the write of `portWithoutLane` stays waiting, though every hypothesis of the clause holds. -/
theorem not_memoryPorts : ¬ Obligations.MemoryPorts := by
  unfold Obligations.MemoryPorts
  rintro ⟨htransfers, -⟩
  obtain ⟨hissue, -⟩ := htransfers portWithoutLane 0
  obtain ⟨t, ht, -, hgone, -⟩ :=
    hissue waitingWrite 0 (by decide) rfl (by decide) (by decide) (by decide) (by decide)
  obtain rfl : portWithoutLane.issueNext 0 = t := Host.Outcome.next.inj ht
  have hstays : ((portWithoutLane.issueNext 0).mp 0).waiting = [waitingWrite] := by
    rw [State.issueNext_of_not_granted (r := waitingWrite) (by decide) rfl (State.granted_write_of_no_lane rfl rfl),
      State.setMp_mp]
    rfl
  exact absurd (hstays.symm.trans hgone) (List.cons_ne_nil _ _)

end Sys2Proof.Machine
end

section
/-! An EVICT_DIRTY whose line finds no room among the dirty lines of its home (05 R155, 06 R205). -/

namespace Sys2Proof.Machine

theorem exec_evictDirty_of_not_stopped {s : State} {port : BitVec 8} {r : TpReq} (h : s.stopped = false) :
    exec (.evictDirty port r) s = .next (s.evictDirtyBeat port.toNat r) :=
  congrArg Host.Outcome.next (State.orLand_of_not_stopped _ _ h)

/-- Line 4, clean in home 0 and owned by tile port 5, beside eight dirty lines of its slice, which may have no more there. -/
def homeAtCap : HomeSt :=
  { ownLines := [0],
    lines := (16 * 4, { line := 4, slice := 2, key := 5, data := 0 }) ::
      (List.range 8).map fun i => (16 * (5 + i), { line := 5 + i, slice := 2, key := 5, dirty := true, dirtySeq := i, data := 0 }),
    filter := [(4, { st := 3, owner := 5, slice := 2 })] }

/-- The first beat of an EVICT_DIRTY of line 4. -/
def waitingBeat : Beat := { tag := 9, addr := 4 * 128, tc := 1, data := 0, bad := false }
/-- The second beat, of data 0 with good parity. -/
def closingBeat : TpReq := { tag := 9, addr := 4 * 128, tc := 1, sector := true, dpar := 0xFF, cpar := true }

/-- Slice 2 shares homes 0 and 1 and may hold eight dirty lines of a home: an occupancy cap of 1/256 (06 R205). Home 0 is
`homeAtCap`, and tile port 5 has sent the first beat. -/
def blockAtCap : State :=
  { ports := [(5, { state := 1 })], tiles := [(5, { tags := [9], beat := some waitingBeat })],
    own := [(0, { slice := 2, fn := 1, key := 5, gstate := 1 })], keys := [(5, { state := 1, slice := 2, fn := 1 })],
    homes := [(0, homeAtCap)],
    img := { active := { slices := [(2, {})], homes := [(0, { ways := [⟨2, 0xFFFF, true⟩] }), (1, { ways := [⟨2, 0xFFFF, true⟩] })] } },
    qos := { slices := [(2, { occCap := 1 })] } }

theorem blockAtCap_homeTakes : HomeTakes blockAtCap 4 (blockAtCap.evictAs 5 4).1 (blockAtCap.evictAs 5 4).2 .none false 0 0 := by
  unfold HomeTakes
  decide +kernel

/-- The second beat makes its eviction wait for the write-back of line 5, the longest dirty; the filter goes on to list the owner. -/
theorem blockAtCap_evictDirty_waits :
    (blockAtCap.evictDirtyBeat 5 closingBeat).txns.map (·.waitLine) = [some 5] ∧
      ((blockAtCap.evictDirtyBeat 5 closingBeat).home 0).filter ≠ [] := by
  decide +kernel

/-- Refutes O21: its second clause leaves out that the line finds room among the dirty lines. In `blockAtCap` every hypothesis of the
clause holds, and the eviction has to wait at its home (05 R155, 06 R205). -/
theorem not_evictions : ¬ Obligations.Evictions := by
  unfold Obligations.Evictions
  intro h
  obtain ⟨-, hsecond, -⟩ := h blockAtCap 5 closingBeat (by decide) (by decide) (by decide)
  obtain ⟨t, ht, -, hforgets, -⟩ := hsecond waitingBeat 0 0 (16 * 4) { line := 4, slice := 2, key := 5, data := 0 }
    { st := 3, owner := 5, slice := 2 } (by decide +kernel) (by decide +kernel) (by decide) rfl (by decide) (by decide) rfl rfl
    (by decide) blockAtCap_homeTakes rfl (by decide) (by decide) rfl (by decide +kernel) (by decide)
  rw [exec_evictDirty_of_not_stopped (by decide)] at ht
  obtain rfl := Host.Outcome.next.inj ht
  obtain ⟨-, hlists⟩ := blockAtCap_evictDirty_waits
  exact hlists hforgets

end Sys2Proof.Machine
end

section
/-! Ownership commands (the statements of 03_slices_and_functions.md, R97 to R110): what the write of SLC_OWN_CMD keeps for the
boundary, and what the boundary makes of it. -/

namespace Sys2Proof.Machine

/-! ### Interrupts on a port that drives its outputs -/

theorem State.emitAt_out_of_drives {s : State} {i : Nat} (h : s.drives i = true) (o : Output) :
    (s.emitAt i o).out = s.out ++ [o] := by
  simp [State.emitAt, h]

/-! ### The order of the tables -/

/-- A step keeps the order of the tables: on an empty queue the block idles, and otherwise its command keeps it (`exec_tame`). -/
theorem step_inOrder {s t : State} (h : step s = .next t) (ho : s.kept.InOrder) : t.kept.InOrder := by
  cases hq : s.pending with
  | nil =>
    rw [step_of_pending_nil hq] at h
    obtain rfl := Host.Outcome.next.inj h
    exact ho
  | cons c rest =>
    rw [step_of_pending_cons hq] at h
    obtain ⟨u, hu, hk⟩ := exec_tame c { s with pending := rest }
    obtain rfl : u = t := Host.Outcome.next.inj (hu.symm.trans h)
    exact hk.order ho

/-- Settles O8: a step keeps the order of both tables (`step_inOrder`). -/
theorem stepKeepsTablesInOrder : Obligations.StepKeepsTablesInOrder := by
  unfold Obligations.StepKeepsTablesInOrder
  exact fun _ _ hown hfncs h => step_inOrder h ⟨hown, hfncs⟩

/-! ### The write of SLC_OWN_CMD -/

theorem State.ownWrite_of_idle {s : State} (h : s.slc.busy = false) (op first count fn : Nat) :
    s.ownWrite op first count fn = { s with slc := { s.slc with
      pending := some { op := op, first := first, count := count, fn := fn, arg := s.slc.arg }, busy := true } } := by
  simp [State.ownWrite, h]

theorem State.ownWrite_of_busy {s : State} (h : s.slc.busy = true) (op first count fn : Nat) :
    s.ownWrite op first count fn = { s with slc := { s.slc with result := 6 } } := by
  simp [State.ownWrite, h]

/-- The four ownership commands on a range, each with its number in SLC_OWN_CMD (03 R107). -/
def ownCommands (first : BitVec 20) (count : BitVec 21) (fn : BitVec 12) : List (Instr × Nat) :=
  [(.assign first count fn, 1), (.release first count fn, 2), (.setAccess first count fn, 3), (.setFormat first count fn, 4)]

/-- Through an open management port each of them is the write of SLC_OWN_CMD, answered OK. -/
theorem exec_of_mem_ownCommands {first : BitVec 20} {count : BitVec 21} {fn : BitVec 12} {p : Instr × Nat}
    (hp : p ∈ ownCommands first count fn) {s : State} (hopen : s.MgOpen false) :
    exec p.1 s = .next ((s.ownWrite p.2 first.toNat count.toNat fn.toNat).mgRsp .ok 0) := by
  have hexec : exec p.1 s = .next (s.mgWrite false fun s => s.ownWrite p.2 first.toNat count.toNat fn.toNat) := by
    simp only [ownCommands, List.mem_cons, List.not_mem_nil, or_false] at hp
    rcases hp with rfl | rfl | rfl | rfl <;> rfl
  rw [hexec, State.mgWrite_of_open _ hopen]

/-- Settles O10: the four commands are one write (`exec_of_mem_ownCommands`), which an idle unit keeps and a busy one refuses. -/
theorem ownershipCommandsPend : Obligations.OwnershipCommandsPend := by
  unfold Obligations.OwnershipCommandsPend
  refine ⟨fun first count fn s hopen hidle p hp => ?idle, fun first count fn s hopen hbusy c hc => ?busy⟩
  case idle =>
    refine ⟨_, exec_of_mem_ownCommands hp hopen, ?_⟩
    rw [State.ownWrite_of_idle hidle]
    simp
  case busy =>
    have hmap : c ∈ (ownCommands first count fn).map Prod.fst := hc
    obtain ⟨p, hp, rfl⟩ := List.mem_map.mp hmap
    refine ⟨_, exec_of_mem_ownCommands hp hopen, ?_⟩
    rw [State.ownWrite_of_busy hbusy]
    simp

/-! ### The boundary -/

theorem mem_granules {g first count : Nat} : g ∈ granules first count ↔ first ≤ g ∧ g < first + count := by
  simp only [granules, List.mem_map, List.mem_range]
  constructor
  · rintro ⟨i, hi, rfl⟩
    omega
  · rintro ⟨hlo, hhi⟩
    exact ⟨g - first, by omega, by omega⟩

theorem nodup_granules (first count : Nat) : (granules first count).Nodup :=
  List.nodup_range.map (add_left_injective first)

/-- A table after each granule of a list got the entry of an operation. -/
def OwnCmd.giveAll (c : OwnCmd) (own : Map OwnEntry) (gs : List Nat) : Map OwnEntry :=
  gs.foldl (fun own g => tset {} own g ((tget {} own g).apply c)) own

theorem OwnCmd.giveAll_cons (c : OwnCmd) (own : Map OwnEntry) (a : Nat) (gs : List Nat) :
    c.giveAll own (a :: gs) = c.giveAll (tset {} own a ((tget {} own a).apply c)) gs := rfl

/-- How `State.ownApply` writes the table. -/
theorem foldl_setOwn_apply (c : OwnCmd) (gs : List Nat) (s : State) :
    gs.foldl (fun (s : State) g => s.setOwn g ((s.ownAt g).apply c)) s = { s with own := c.giveAll s.own gs } := by
  induction gs generalizing s with
  | nil => rfl
  | cons a gs ih => exact ih (s.setOwn a ((s.ownAt a).apply c))

theorem OwnCmd.tget_giveAll_of_notMem (c : OwnCmd) (own : Map OwnEntry) {gs : List Nat} {g : Nat} (h : g ∉ gs) :
    tget {} (c.giveAll own gs) g = tget {} own g := by
  induction gs generalizing own with
  | nil => rfl
  | cons a gs ih =>
    obtain ⟨hne, hrest⟩ := not_or.mp (mt List.mem_cons.mpr h)
    rw [OwnCmd.giveAll_cons, ih _ hrest, tget_tset_ne _ _ _ _ hne]

theorem OwnCmd.tget_giveAll_of_mem (c : OwnCmd) (own : Map OwnEntry) {gs : List Nat} (hnd : gs.Nodup) {g : Nat} (h : g ∈ gs) :
    tget {} (c.giveAll own gs) g = (tget {} own g).apply c := by
  induction gs generalizing own with
  | nil => exact absurd h List.not_mem_nil
  | cons a gs ih =>
    obtain ⟨hfresh, hnd'⟩ := List.nodup_cons.mp hnd
    rw [OwnCmd.giveAll_cons]
    rcases List.mem_cons.mp h with rfl | hmem
    · rw [OwnCmd.tget_giveAll_of_notMem _ _ hfresh, tget_tset_self]
    · have hne : g ≠ a := by
        rintro rfl
        exact hfresh hmem
      rw [ih _ hnd' hmem, tget_tset_ne _ _ _ _ hne]

@[simp] theorem State.ownDone_own (s : State) : s.ownDone.own = s.own := by
  simp [State.ownDone]

@[simp] theorem State.ownDone_slc (s : State) : s.ownDone.slc = { s.slc with busy := false } := by
  simp [State.ownDone]

theorem State.ownDone_out_of_drives {s : State} (h : s.drives mgPort = true) : s.ownDone.out = s.out ++ [.mgIrq 0x05] := by
  rw [State.ownDone, State.mgIrq, State.emitAt_out_of_drives]
  exact h

/-- A command that a check refuses is complete, with the check's code (03 R108). -/
theorem State.ownApply_of_refused {s : State} {c : OwnCmd} (hc : s.slc.pending = some c) (hr : s.ownResult c ≠ 0) :
    s.ownApply = State.ownDone { s with slc := { s.slc with pending := none, result := s.ownResult c, applyTick := s.tick32 } } := by
  simp [State.ownApply, hc, hr]

/-- Of what `State.kept` holds, a command that passes its checks changes the entries of its granules (03 R107). -/
theorem State.ownApply_kept_of_passed {s : State} {c : OwnCmd} (hc : s.slc.pending = some c) (hr : s.ownResult c = 0) :
    s.ownApply.kept = { s.kept with own := c.giveAll s.own (granules c.first c.count) } := by
  simp only [State.ownApply, hc, hr, bne_self_eq_false, Bool.false_eq_true, if_false, foldl_setOwn_apply]
  split_ifs
  · rw [State.queueClean_kept, State.dropOwn_kept]; rfl
  · rw [State.discardRange_kept, State.queueClean_kept, State.dropOwn_kept]; rfl
  · rw [State.ownDone_kept, State.dropOwn_kept]; rfl

/-- Settles O11: a command that passes gives its entry to each granule of its range (`OwnCmd.giveAll`), and one that is refused
completes at once. -/
theorem ownershipCommandsApplied : Obligations.OwnershipCommandsApplied := by
  unfold Obligations.OwnershipCommandsApplied
  refine ⟨fun s c hc hr => ?passed, fun s c hc hr => ?refused⟩
  case passed =>
    have hkept := State.ownApply_kept_of_passed hc hr
    have hown : s.ownApply.own = c.giveAll s.own (granules c.first c.count) := congrArg Kept.own hkept
    have hfncs : s.ownApply.fncs = s.fncs := congrArg Kept.fncs hkept
    refine ⟨fun g hlo hhi => ?_, fun g hout => ?_, hfncs⟩
    · rw [State.ownAt, hown, c.tget_giveAll_of_mem _ (nodup_granules _ _) (mem_granules.mpr ⟨hlo, hhi⟩), State.ownAt]
    · rw [State.ownAt, hown, c.tget_giveAll_of_notMem _ fun hmem => hout (mem_granules.mp hmem), State.ownAt]
  case refused =>
    rw [State.ownApply_of_refused hc hr]
    refine ⟨by simp, by simp, by simp, by simp, fun hdrives => ?_⟩
    rw [State.ownDone_out_of_drives]
    exact hdrives

end Sys2Proof.Machine
end

section
/-! Functions and the geometry report (the statements of 03_slices_and_functions.md, R111 to R128): what FNC_CMD keeps for the
boundary, what the boundary makes of it, why a teardown may stay where it is, and the life of a report. -/

namespace Sys2Proof.Machine

/-! ### Answers and interrupts leave the functions -/

@[simp] theorem State.mgRsp_fnc (s : State) (st : Status) (d : Reg) (i : Nat) : (s.mgRsp st d).fnc i = s.fnc i := by
  simp [State.fnc]

@[simp] theorem State.mgIrq_fnc (s : State) (v i : Nat) : (s.mgIrq v).fnc i = s.fnc i := by
  simp [State.fnc]

/-! ### The write of FNC_CMD -/

theorem State.fncCmd_of_idle {s : State} {f : Nat} (h : (s.fnc f).busy = false) (op : Nat) (erase : Bool) :
    s.fncCmd f op erase = s.setFnc f { s.fnc f with pending := some (op, erase), busy := true } := by
  simp [State.fncCmd, h]

/-- The six function commands, each with its number in FNC_CMD and its erase bit (03 R113). -/
def fncCommands (f : BitVec 12) (erase : Bool) : List (Instr × Nat × Bool) :=
  [(.fncCreate f, 1, false), (.fncEnable f, 2, false), (.fncQuiesce f, 3, false), (.fncResume f, 4, false),
   (.fncReset f erase, 5, erase), (.fncRemove f, 6, false)]

/-- Through an open management port each of them is the write of FNC_CMD, answered OK. -/
theorem exec_of_mem_fncCommands {f : BitVec 12} {erase : Bool} {p : Instr × Nat × Bool} (hp : p ∈ fncCommands f erase) {s : State}
    (hopen : s.MgOpen false) : exec p.1 s = .next ((s.fncCmd f.toNat p.2.1 p.2.2).mgRsp .ok 0) := by
  have hexec : exec p.1 s = .next (s.mgWrite false fun s => s.fncCmd f.toNat p.2.1 p.2.2) := by
    simp only [fncCommands, List.mem_cons, List.not_mem_nil, or_false] at hp
    rcases hp with rfl | rfl | rfl | rfl | rfl | rfl <;> rfl
  rw [hexec, State.mgWrite_of_open _ hopen]

/-- Settles O13: the six commands are one write (`exec_of_mem_fncCommands`), which a function with no command pending keeps. -/
theorem functionCommandPends : Obligations.FunctionCommandPends := by
  unfold Obligations.FunctionCommandPends
  intro f erase s hopen hidle p hp
  refine ⟨_, exec_of_mem_fncCommands hp hopen, ?_⟩
  rw [State.fncCmd_of_idle hidle]
  refine ⟨by simp, fun g hg => by simp [hg], by simp, by simp⟩

/-! ### The boundary -/

@[simp] theorem State.fncGo_fnc (s : State) (f st : Nat) :
    (s.fncGo f st).fnc f = { s.fnc f with state := st, stateTick := s.tick32 } := by
  simp [State.fncGo]

@[simp] theorem State.fncDone_fnc (s : State) (f res : Nat) :
    (s.fncDone f res).fnc f = { s.fnc f with busy := false, result := res } := by
  simp [State.fncDone]

/-- CREATE, ENABLE and RESUME, by their number, take a function to their state and complete at once with DONE (03 R113). -/
theorem State.fncApply_completes {s : State} {f op st : Nat} {erase : Bool} (hop : (op, st) ∈ [(1, 1), (2, 2), (4, 2)])
    (hp : (s.fnc f).pending = some (op, erase)) (hr : s.fncResult f op = 0) :
    ((s.fncApply f).fnc f).state = st ∧ ((s.fncApply f).fnc f).busy = false ∧ ((s.fncApply f).fnc f).result = 0 := by
  have happly : s.fncApply f = ((s.setFnc f { s.fnc f with pending := none }).fncGo f st).fncDone f 0 := by
    simp only [List.mem_cons, Prod.mk.injEq, List.not_mem_nil, or_false] at hop
    rcases hop with ⟨rfl, rfl⟩ | ⟨rfl, rfl⟩ | ⟨rfl, rfl⟩ <;> simp [State.fncApply, hp, hr]
  rw [happly]
  simp

/-- QUIESCE goes on: its deadline runs from this tick and its command stays busy (03 R113, R116). -/
theorem State.fncApply_quiesce {s : State} {f : Nat} {erase : Bool} (hp : (s.fnc f).pending = some (3, erase))
    (hr : s.fncResult f 3 = 0) :
    ((s.fncApply f).fnc f).state = 3 ∧ ((s.fncApply f).fnc f).quiesceTick = s.blk.tick ∧
      ((s.fncApply f).fnc f).busy = (s.fnc f).busy := by
  simp [State.fncApply, hp, hr]

/-- A command that passes its checks is not for function 0, and the function's state permits it (03 R113). -/
theorem State.fncPermits_of_fncResult {s : State} {f op : Nat} (h : s.fncResult f op = 0) :
    f ≠ 0 ∧ fncPermits (s.fnc f).state op = true := by
  unfold State.fncResult at h
  dsimp only at h
  split_ifs at h with hnumber _ hstate
  simp only [Bool.or_eq_true, Bool.not_eq_true', not_or, Bool.not_eq_false, decide_eq_true_eq] at hnumber hstate
  obtain ⟨⟨hf, -⟩, -⟩ := hnumber
  obtain ⟨⟨-, hpermits⟩, -⟩ := hstate
  exact ⟨hf, hpermits⟩

/-- Settles O14: each operation's state and completion (`fncApply_completes`, `fncApply_quiesce`), and the table of `fncPermits`. -/
theorem functionCommandsApplied : Obligations.FunctionCommandsApplied := by
  unfold Obligations.FunctionCommandsApplied
  refine ⟨fun s f op erase hp hr => ⟨?create, ?enable, ?quiesce, ?resume⟩, fun s f op hr => ?permits⟩
  case create =>
    rintro rfl
    exact State.fncApply_completes (by decide) hp hr
  case enable =>
    rintro rfl
    exact State.fncApply_completes (by decide) hp hr
  case quiesce =>
    rintro rfl
    exact State.fncApply_quiesce hp hr
  case resume =>
    rintro rfl
    exact State.fncApply_completes (by decide) hp hr
  case permits =>
    obtain ⟨hf, hpermits⟩ := State.fncPermits_of_fncResult hr
    refine ⟨hf, ?_, ?_, ?_, ?_, ?_, ?_⟩ <;> rintro rfl <;> simpa [fncPermits, or_assoc] using hpermits

/-! ### A removal that still holds granules -/

/-- Past its drains, a removal waits until its function holds no granule (03 R118). -/
theorem State.removeStep_of_granules {s : State} {f : Nat} (htear : (s.fnc f).tear ≠ .draining) (hheld : s.granulesOf f ≠ []) :
    s.removeStep f = s := by
  have hsome : (!(s.granulesOf f).isEmpty) = true := by simpa using hheld
  unfold State.removeStep
  dsimp only
  split
  next hdraining => exact absurd hdraining htear
  next => rw [if_pos hsome]

theorem exec_removeComplete_of_granules {f : BitVec 12} {s : State} (hstate : (s.fnc f.toNat).state = 6)
    (htear : (s.fnc f.toNat).tear ≠ .draining) (hheld : s.granulesOf f.toNat ≠ []) :
    exec (.removeComplete f) s = .next s := by
  have hstep : s.tearStep f.toNat = s := by
    simp [State.tearStep, hstate, State.removeStep_of_granules htear hheld]
  change Host.Outcome.next (if (s.fnc f.toNat).state = 6 then s.tearStep f.toNat else s) = _
  rw [hstep, ite_self]

/-- Function 1 in REMOVING, its work and its keys retired; granule 0 is still its own. -/
def removingWithGranule : State :=
  { fncs := [(1, { state := 6, tear := .retiring })], own := [(0, { fn := 1, gstate := 1 })] }

/-- Refutes O15: its last clause asks that the function holds no key, and leaves out that it holds no granule (03 R118). In
`removingWithGranule` every hypothesis of the clause holds, and the removal waits in REMOVING. -/
theorem not_functionEventsComplete : ¬ Obligations.FunctionEventsComplete := by
  unfold Obligations.FunctionEventsComplete
  intro h
  obtain ⟨-, -, -, -, hremove⟩ := h 1 removingWithGranule
  obtain ⟨t, ht, hfree, -⟩ := hremove (by decide) (by decide) (by decide) (by decide)
  rw [exec_removeComplete_of_granules (by decide) (by decide) (by decide)] at ht
  obtain rfl := Host.Outcome.next.inj ht
  exact absurd hfree (by decide)

/-! ### The geometry report -/

@[simp] theorem State.hostRsp_view (s : State) (tag : Nat) (st : Status) (d : Line) (f : Nat) :
    (s.hostRsp tag st d).view f = s.view f := by
  simp [State.view]

@[simp] theorem State.hostIrq_view (s : State) (fn vec f : Nat) : (s.hostIrq fn vec).view f = s.view f := by
  simp [State.view]

theorem State.reportAsk_of_idle {s : State} {f : Nat} (h : (s.view f).reportPending = false) :
    s.reportAsk f = s.setView f { s.view f with latched := (s.view f).nonce, ready := false, reportPending := true } := by
  simp [State.reportAsk, h]

/-- A requested report is captured and signed where the function is ENABLED, QUIESCING or QUIESCED (03 R127). -/
theorem State.reportCapture_of_requested {s : State} {f : Nat} (hreq : (s.view f).reportPending = true)
    (hnone : (s.view f).captured = none) (hsigns : s.vaultSigns = true) (hstate : (s.fnc f).state ∈ [2, 3, 4]) :
    s.reportCapture f = s.setView f { s.view f with
      captured := some (s.reportBody f ++ padTo (Config.ecdsaSign s.aliasKey (s.reportBody f)) 96, s.blk.tick) } := by
  have hlive : ((s.fnc f).state == 2 || (s.fnc f).state == 3 || (s.fnc f).state == 4) = true := by
    simpa [or_assoc] using hstate
  simp [State.reportCapture, hreq, hnone, hsigns, hlive]

/-- A captured report that the vault has signed replaces the last one (03 R127). -/
theorem State.reportReady_of_captured {s : State} {f n : Nat} {b : List Byte} (hcap : (s.view f).captured = some (b, n))
    (hsigns : s.vaultSigns = true) :
    s.reportReady f = (s.setView f { s.view f with
      captured := none, reportPending := false, ready := true, report := b }).hostIrq f (s.view f).vec := by
  simp [State.reportReady, hcap, hsigns]

/-- Settles O16: what the request, the capture and the signature make of the view (`reportAsk_of_idle`,
`reportCapture_of_requested`, `reportReady_of_captured`); a request takes its tag at the host port first. -/
theorem reportCommands : Obligations.ReportCommands := by
  unfold Obligations.ReportCommands
  refine fun f s => ⟨fun tag hopen hstate hidle => ?request, fun hreq hnone hsigns hstate => ?capture,
    fun b n hcap hsigns => ?ready⟩
  case request =>
    obtain ⟨u, hcmd, hu, -⟩ := State.hostCmd_of_open (.reportRequest f tag) (fun s => s.reportReq f.toNat tag.toNat) hopen
    have hfncs : u.fncs = s.fncs := by rw [hu]
    have hviews : u.views = s.views := by rw [hu]
    have hown : u.own = s.own := by rw [hu]
    have hstate' : (u.fnc f.toNat).state ≠ 0 := by rwa [State.fnc, hfncs]
    have hview : u.view f.toNat = s.view f.toNat := by rw [State.view, hviews, State.view]
    refine ⟨_, congrArg Host.Outcome.next hcmd, ?_⟩
    rw [State.reportReq, if_neg hstate', State.reportAsk_of_idle (by rwa [hview]), hview]
    simp [hfncs, hown]
  case capture =>
    refine ⟨_, congrArg Host.Outcome.next (State.reportCapture_of_requested hreq hnone hsigns hstate), ?_⟩
    simp
  case ready =>
    refine ⟨_, congrArg Host.Outcome.next (State.reportReady_of_captured hcap hsigns), ?_, fun hdrives => ?_, ?_, ?_⟩
    · simp
    · rw [State.hostIrq, State.emitAt_out_of_drives, State.setView_out]
      exact hdrives
    · simp
    · simp

end Sys2Proof.Machine
end

section
/-! The image (the statements of 04_gixon_image.md, R137 to R149): what ARM makes of a delta that passes its checks, on a
chip by itself and on the primary of a pair. -/

namespace Sys2Proof.Machine

/-! ### ARM, and the note of it for the mirror chip (04 R140, R148) -/

/-- A delta that passes the live checks and TICK is armed, and what happened is noted for the mirror (04 R140, R148). -/
theorem State.imgOp_arm_of_passes {s : State} {d : Staged} (hpending : s.img.applyPending = false) (hvalid : s.img.state = 3)
    (hstaged : s.img.staged = some d) (hdelta : d.delta = true) (hmirror : s.isMirror = false) (hlive : s.liveCheck d = none)
    (htick : s.tickFail d = none) :
    s.imgOp 3 = ({ s with img := { s.img with state := 4, result := 0 } } : State).imgEvent
      { op := 1, tick := d.commitTick, digest := d.result, stream := s.img.staging } := by
  simp [State.imgOp, hpending, hvalid, hstaged, hdelta, hmirror, hlive, htick]

theorem State.imgEvent_of_mirroring {s : State} (h : s.mirroring = true) (e : ImgEvent) :
    s.imgEvent e = { s with img := { s.img with events := s.img.events ++ [e] } } := by
  rw [State.imgEvent, if_pos h]

/-- Whether the links carry sets to the mirror rests on the pair, on the active configuration and on the block's being fatal,
none of which the window's own state and result touch. -/
theorem State.mirroring_of_armed (s : State) (st r : Nat) :
    ({ s with img := { s.img with state := st, result := r } } : State).mirroring = s.mirroring := rfl

/-- On a primary whose links carry sets, ARM adds one event to those that wait for the mirror chip (04 R148). -/
theorem exec_imgArm_events_of_mirroring {s : State} {d : Staged} (hopen : s.MgOpen false) (hpending : s.img.applyPending = false)
    (hvalid : s.img.state = 3) (hstaged : s.img.staged = some d) (hdelta : d.delta = true) (hmirror : s.isMirror = false)
    (hlive : s.liveCheck d = none) (htick : s.tickFail d = none) (hmirroring : s.mirroring = true) {t : State}
    (ht : exec .imgArm s = .next t) :
    t.img.events = s.img.events ++ [{ op := 1, tick := d.commitTick, digest := d.result, stream := s.img.staging }] := by
  have hexec : exec .imgArm s = .next ((s.imgOp 3).mgRsp .ok 0) :=
    congrArg Host.Outcome.next (State.mgWrite_of_open (fun s => s.imgOp 3) hopen)
  rw [hexec, State.imgOp_arm_of_passes hpending hvalid hstaged hdelta hmirror hlive htick,
    State.imgEvent_of_mirroring (by rwa [State.mirroring_of_armed])] at ht
  obtain rfl := Host.Outcome.next.inj ht
  rw [State.mgRsp_img]

/-! ### The primary that arms a delta -/

/-- The configuration of the primary of a pair, with no slice defined. -/
def primaryCfg : ImgCfg := { block := { pairRole := 1 } }

/-- A delta that changes nothing, on top of the digest 0, to commit at tick 2. -/
def idleDelta : Staged :=
  { delta := true, commitTick := 2, drainLead := 0, base := 0, result := 0, cfg := primaryCfg, slicesTouched := [] }

/-- A primary in SERVICE whose pair is MIRRORING, with `idleDelta` VALID in its window. -/
def armingPrimary : State :=
  { ports := [(mgPort, { state := 1 })], fawn := { phase := 7 }, pair := { state := 3 },
    img := { state := 3, staged := some idleDelta, active := primaryCfg } }

/-- Refutes O30: its clause of ARM says that nothing of the window changes but its state and result. On a primary whose links
carry sets to the mirror chip ARM is also noted for the mirror (04 R148, `exec_imgArm_events_of_mirroring`), and the clause
does not leave that state out: `armingPrimary` meets each of its hypotheses. -/
theorem not_imageLoading : ¬ Obligations.ImageLoading := by
  unfold Obligations.ImageLoading
  intro h
  have hopen : armingPrimary.MgOpen false := ⟨by decide, by decide, by decide⟩
  have hlive : armingPrimary.liveCheck idleDelta = none := by decide
  have htick : armingPrimary.tickFail idleDelta = none := by decide
  obtain ⟨operations, -⟩ := h
  obtain ⟨-, -, -, arm, -⟩ := operations armingPrimary hopen rfl
  obtain ⟨t, ht, himg⟩ := arm idleDelta rfl rfl rfl (by decide) hlive htick
  have hnoted := exec_imgArm_events_of_mirroring hopen rfl rfl rfl rfl (by decide) hlive htick (by decide) ht
  have hunchanged : t.img.events = armingPrimary.img.events := by rw [himg]
  rw [hunchanged] at hnoted
  exact absurd hnoted (by simp)

end Sys2Proof.Machine
end

section
/-! The registers that ignore an illegal write: HSL_HOME_TIMEOUT (05 R173), HSL_RW_CTRL.shadow_ways (08 R276) and
BLK_CLOCK.fclk_limit_point (01 R36). -/

namespace Sys2Proof.Machine

/-- The three registers are part of `State.kept`, of which `exec_tame` speaks. -/
theorem State.regsLegal_iff (s : State) : s.RegsLegal ↔ s.kept.Legal := Iff.rfl

/-- Every command keeps the registers legal. -/
theorem exec_regsLegal {c : Instr} {s t : State} (h : exec c s = .next t) (hs : s.RegsLegal) : t.RegsLegal := by
  obtain ⟨u, hu, hk⟩ := exec_tame c s
  obtain rfl : u = t := Host.Outcome.next.inj (hu.symm.trans h)
  rw [State.regsLegal_iff] at hs ⊢
  exact hk.legal hs

/-- Settles O7: on an empty queue the block idles, and otherwise its command keeps the registers legal (`exec_regsLegal`); the
queue is none of them. -/
theorem stepKeepsRegistersLegal : Obligations.StepKeepsRegistersLegal := by
  unfold Obligations.StepKeepsRegistersLegal
  intro s t hs h
  cases hq : s.pending with
  | nil =>
    rw [step_of_pending_nil hq] at h
    obtain rfl := Host.Outcome.next.inj h
    exact hs
  | cons c rest =>
    rw [step_of_pending_cons hq] at h
    exact exec_regsLegal h (s := { s with pending := rest }) hs

end Sys2Proof.Machine
end

section
/-! A RD_SHARED whose line needs a filter entry in a full set (05 R152). -/

namespace Sys2Proof.Machine

/-- Line 4, clean in home 0, whose filter lists 16 other lines of the set of line 4, each with tile port 6 as its owner. -/
def homeWithFullSet : HomeSt :=
  { ownLines := [0], lines := [(16 * 4, { line := 4, slice := 2, key := 5, data := 7 })],
    filter := (List.range 16).map fun k => (8192 * (k + 1) + (4 ^^^ (k + 1)), { st := 3, owner := 6, slice := 2 }) }

/-- The context of slice 2 that tile port 5 acts for. -/
def boundOfFullSet : Bound := { slot := 0, ctx := 3, fn := 1, slice := 2, lost := false }

/-- A RD_SHARED of line 4, with good parity. -/
def sharedRead : TpReq := { tag := 9, addr := 4 * 128, tc := 1, dpar := 0xFF, cpar := true }

/-- Slice 2 owns homes 0 and 1, its context is bound to tile ports 4 to 7; home 0 is `homeWithFullSet`. -/
def blockWithFullSet : State :=
  { ports := [(5, { state := 1 }), (6, { state := 1 })], bindings := [(0, { first := 4, count := 4 })],
    slots := [(0, { ctx := some 3 })], ctxs := [(3, { state := 2, slot := 0, fn := 1, slice := 2, key := 5 })],
    own := [(0, { slice := 2, fn := 1, key := 5, gstate := 1, rd := true })], keys := [(5, { state := 1, slice := 2, fn := 1 })],
    homes := [(0, homeWithFullSet)],
    img := { active := { slices := [(2, {})], homes := [(0, { ways := [⟨2, 0xFFFF, true⟩] }), (1, { ways := [⟨2, 0xFFFF, true⟩] })] } } }

/-- The home takes the read at once. -/
theorem blockWithFullSet_homeTakes : HomeTakes blockWithFullSet 4 2 1 .rd false 0 0 := by
  unfold HomeTakes
  decide +kernel

/-- The tile port takes it. -/
theorem blockWithFullSet_tileTakes : TileTakes blockWithFullSet 5 0x00 sharedRead boundOfFullSet := by
  unfold TileTakes
  decide +kernel

/-- What RD_SHARED makes of `blockWithFullSet`. -/
def recallingBlock : State :=
  blockWithFullSet.tileReq 5 0x00 sharedRead (.rdShared 5 sharedRead) (fun _ _ => some (lineOf sharedRead.addr.toNat))
    fun s b => s.serveRead 5 .rdShared sharedRead b false

/-- The home recalls the oldest line of the set from its owner, and the read waits behind that (05 R152): the snoop is all that the
block sends. -/
theorem recallingBlock_out : recallingBlock.out = [.tileSnp 6 4 0 (8197 * 128)] := by
  decide +kernel

/-- Refutes O19: its clauses of RD_SHARED and RD_UNIQUE leave out that the set of the filter has room for the line. In
`blockWithFullSet` every hypothesis holds, and the read has to wait for a recall (05 R152) before it is answered. -/
theorem not_tileReadsOfHeldLines : ¬ Obligations.TileReadsOfHeldLines := by
  unfold Obligations.TileReadsOfHeldLines
  intro h
  obtain ⟨hline, -⟩ := h blockWithFullSet 5 sharedRead boundOfFullSet 0 0 7
  have hgate : GateOpen blockWithFullSet 4 sharedRead boundOfFullSet := by
    unfold GateOpen
    decide +kernel
  obtain ⟨hshared, -⟩ := hline 4 (by decide) hgate blockWithFullSet_homeTakes (by decide +kernel) (by decide +kernel) (by decide)
  obtain ⟨t, ht, hanswer, -⟩ := hshared blockWithFullSet_tileTakes
  obtain rfl : recallingBlock = t := Host.Outcome.next.inj ht
  rw [recallingBlock_out] at hanswer
  simp at hanswer

end Sys2Proof.Machine
end

section
/-! A SNOOP_RESP that brings the line of a read which has yet to ask the line's own chip (10 R321). -/

namespace Sys2Proof.Machine

/-- The receive slot of the connection to chip 1 of the herd (10 R311). -/
def fromChip1 : SaSt := { cfg := 0x5000002, tines := 1, state := 2 }
/-- Its return slot. -/
def toChip1 : SaSt := { cfg := 0x5000003, tines := 1, state := 2 }

/-- A RD_ONCE of tile port 4 for line 4 of chip 1, of which the proxy home lists another slice's copy (10 R321): its snoop of that
copy's owner is out. -/
def foreignRead : Txn :=
  { id := 0, home := 0, line := 2 ^ 34 + 4, op := .rdOnce, origin := .tile 4 9, slice := 2, fn := 1, phase := .snooping, foreign := true,
    snoops := [{ port := 1, chip := true, id := 9, ty := 2, since := 94 }] }

/-- The SNOOP_RESP that brings the line. -/
def broughtLine : InMsg :=
  { sa := 3, tine := 0, chip := 1, slice := 3, fn := 0, herd := true,
    msg := { op := 9, slice := 3, xid := 9, addr := 2 ^ 41 + 512, sub := 8, data := 77 } }

/-- Chip 0 with its connection to chip 1, the read, and the answer in the ingress buffer. -/
def foreignBlock : State :=
  { ports := [(4, { state := 1 })], tiles := [(4, { tags := [9] })], txns := [foreignRead], inbox := [broughtLine],
    homes := [(0, { filter := [(2 ^ 34 + 4, { st := 3, remoteOwner := some 1, slice := 3 })] })], sas := [(3, fromChip1), (4, toChip1)] }

theorem foreignBlock_linked : Linked foreignBlock broughtLine.sa 4 fromChip1 toChip1 := by
  unfold Linked
  decide +kernel

theorem foreignBlock_msgTakes : MsgTakes foreignBlock 0 0x09 broughtLine := by
  unfold MsgTakes
  decide +kernel

/-- The copy was another slice's: the answer takes it from its owner, and the read goes on to chip 1 (10 R321). -/
theorem foreignBlock_read_goes_on : (foreignBlock.onMsg 0 0x09 State.msgSnoopResp).txns.map (·.phase) = [.reading] := by
  decide +kernel

/-- Refutes O43: its clause of SNOOP_RESP leaves out that the read is not foreign. In `foreignBlock` every hypothesis of the clause
holds, and the read is not completed but sent to the line's chip. -/
theorem not_answersOverATine : ¬ Obligations.AnswersOverATine := by
  unfold Obligations.AnswersOverATine
  intro h
  obtain ⟨-, hsnoopResp, -⟩ :=
    h foreignBlock 0 broughtLine 4 (2 ^ 34 + 4) fromChip1 toChip1 foreignBlock_linked (by decide +kernel)
  obtain ⟨t, ht, -, -, hdone⟩ :=
    hsnoopResp foreignRead { port := 1, chip := true, id := 9, ty := 2, since := 94 } 4 9 foreignBlock_msgTakes rfl rfl rfl rfl rfl
      (by decide) (by decide) rfl rfl rfl rfl rfl rfl rfl rfl rfl rfl rfl (by decide +kernel) (by decide +kernel)
  obtain rfl : foreignBlock.onMsg 0 0x09 State.msgSnoopResp = t := Host.Outcome.next.inj ht
  have hphases := foreignBlock_read_goes_on
  rw [hdone] at hphases
  exact absurd hphases (List.cons_ne_nil _ _).symm

end Sys2Proof.Machine
end

section
/-! Changes of a line that its home holds dirty, or does not have (05 R162, R166, R178): how a request passes its port, the gate and the
home's acceptance, what its turn does to the home, and how it is answered. -/

namespace Sys2Proof.Machine

section

/-- What the acceptance of a request touches of a block: the tags and the open requests of the ports, the counters, the charges, the
usage of contexts, the dirty log, and the requests in flight with their numbers. -/
structure Tally where
  tiles : Map TileSt
  reqs : List OpenReq
  selLive : Map Nat
  cntLive : Map Nat
  used : Map Nat
  ctxs : Map CtxRec
  dirty : Map (BitVec 32)
  nextId : Nat
  txns : List Txn

/-- The tally of a state. -/
def State.tally (s : State) : Tally :=
  { tiles := s.tiles, reqs := s.reqs, selLive := s.obs.selLive, cntLive := s.obs.cntLive, used := s.qos.used, ctxs := s.ctxs,
    dirty := s.dirty, nextId := s.nextId, txns := s.txns }

/-- A state with another tally. -/
def State.tallied (s : State) (b : Tally) : State :=
  { s with tiles := b.tiles, reqs := b.reqs, obs := { s.obs with selLive := b.selLive, cntLive := b.cntLive },
           qos := { s.qos with used := b.used }, ctxs := b.ctxs, dirty := b.dirty, nextId := b.nextId, txns := b.txns }

variable {s : State} {port op : Nat} {r : TpReq} {b : Bound}

/-- A port that has taken a request: its tag is outstanding, the request awaits its answer and is counted (02 R56, 06 R190). -/
def State.taking (s : State) (port op : Nat) (r : TpReq) : State :=
  let v := (s.setTile port { s.tile port with tags := (s.tile port).tags ++ [r.tag.toNat] }).tileOpen port r.tag.toNat r.tc.toNat (op ≤ 3)
  v.note (tpUnit port) 0x01 (some (v.tileSlice port)) 1

theorem State.taking_eq_tallied (s : State) (port op : Nat) (r : TpReq) : s.taking port op r = s.tallied (s.taking port op r).tally := rfl

theorem State.taking_tags (s : State) (port op : Nat) (r : TpReq) :
    ((s.taking port op r).tile port).tags = (s.tile port).tags ++ [r.tag.toNat] :=
  congrArg TileSt.tags (State.setTile_tile s port _)

theorem State.tileEnter_of_tileTakes (h : TileTakes s port op r b) (hop : tileExempt op = false) :
    s.tileEnter port op r = (s.taking port op r, true) := by
  obtain ⟨hup, hcpar, hdpar, hrsvd, hbeat, htag, hfatal, hbound, hlost, hhold⟩ := h
  have hnobeat : (s.tile port).beat.isSome = false := by rw [hbeat]; rfl
  have hwhole : s.brokenBeat port = s := by simp [State.brokenBeat, hbeat]
  have hfault : s.reqFault port r false = s := by simp [State.reqFault, hdpar]
  have hfatal' : (s.taking port op r).fatal = false := hfatal
  have hbound' : (s.taking port op r).bound port = some b := hbound
  have hhold' : (s.taking port op r).fullHold = false := hhold
  unfold State.tileEnter
  simp only [hup, hcpar, hnobeat, htag, hrsvd, hwhole, hfault, hop, Option.isSome_none, Bool.or_self, Bool.not_true,
    Bool.false_eq_true, if_false]
  change (if (s.taking port op r).fatal then _ else
    match (s.taking port op r).bound port with | none => _ | some b => _) = _
  rw [hfatal', hbound']
  simp only [hlost, Bool.false_eq_true, if_false]
  change (if (s.taking port op r).fullHold then _ else (s.taking port op r, true)) = _
  rw [hhold', if_neg Bool.false_ne_true]

/-- A request whose class is lowered is counted (06 R184). -/
def State.gated (s : State) (r : TpReq) (b : Bound) : State :=
  if s.servedClass b.slice r.tc.toNat = r.tc.toNat then s else s.outcome b.slice r.tc.toNat 9

theorem State.gated_eq_tallied (s : State) (r : TpReq) (b : Bound) : s.gated r b = s.tallied (s.gated r b).tally := by
  unfold State.gated
  split <;> rfl

theorem State.gated_tiles (s : State) (r : TpReq) (b : Bound) : (s.gated r b).tiles = s.tiles := by
  unfold State.gated
  split <;> rfl

theorem State.gated_txns (s : State) (r : TpReq) (b : Bound) : (s.gated r b).txns = s.txns := by
  unfold State.gated
  split <;> rfl

theorem State.tileGate_of_gateOpen {line : Nat} (hgate : GateOpen s line r b) (cmd : Instr) :
    s.tileGate port r cmd b (some line) = (s.gated r b, true) := by
  have hshut : (s.gated r b).gateShut (some line) b.slice (s.servedClass b.slice r.tc.toNat) none = false := by
    unfold State.gated
    split <;> exact hgate
  change (if (s.gated r b).gateShut (some line) b.slice (s.servedClass b.slice r.tc.toNat) none then _ else (s.gated r b, true)) = _
  rw [hshut, if_neg Bool.false_ne_true]

/-- A request that its port takes and whose gate is open is served. -/
theorem State.tileReq_of_tileTakes (h : TileTakes s port op r b) (hop : tileExempt op = false) {line : Nat}
    (hgate : GateOpen s line r b) (cmd : Instr) (serve : State → Bound → State) :
    ∃ y : Tally, s.tileReq port op r cmd (fun _ _ => some line) serve = serve (s.tallied y) b ∧
      r.tag.toNat ∈ ((s.tallied y).tile port).tags ∧ y.txns = s.txns := by
  have henter := State.tileEnter_of_tileTakes h hop
  obtain ⟨-, -, -, -, -, -, -, hbound, -, -⟩ := h
  have hbound' : (s.taking port op r).bound port = some b := hbound
  have hgate' : GateOpen (s.taking port op r) line r b := hgate
  have heq : (s.taking port op r).gated r b = s.tallied ((s.taking port op r).gated r b).tally := State.gated_eq_tallied ..
  refine ⟨((s.taking port op r).gated r b).tally, ?_, ?_, State.gated_txns ..⟩
  · simp only [State.tileReq, henter, hbound', State.tileGate_of_gateOpen hgate', ← heq]
  · rw [← heq, State.tile, State.gated_tiles]
    exact (State.taking_tags s port op r).symm ▸ List.mem_append_right _ (List.mem_singleton_self _)

/-- An operation that counts: it touches the tally alone, and neither tags nor requests in flight. -/
structure State.Counts (s u : State) : Prop where
  eq : u = s.tallied u.tally
  tiles : u.tiles = s.tiles
  txns : u.txns = s.txns

theorem State.Counts.trans {s u v : State} (h : s.Counts u) (g : u.Counts v) : s.Counts v := by
  refine ⟨?_, g.tiles.trans h.tiles, g.txns.trans h.txns⟩
  calc v = u.tallied v.tally := g.eq
    _ = (s.tallied u.tally).tallied v.tally := by rw [← h.eq]
    _ = s.tallied v.tally := rfl

theorem State.note_counts (s : State) (u ev : Nat) (sl : Option Nat) (n : Nat) : s.Counts (s.note u ev sl n) := ⟨rfl, rfl, rfl⟩

theorem State.charge_counts (s : State) (i sl t n : Nat) : s.Counts (s.charge i sl t n) := ⟨rfl, rfl, rfl⟩

theorem State.use_counts (s : State) (x : Option Nat) (rd wr hsl job : Nat) : s.Counts (s.use x rd wr hsl job) := by
  unfold State.use
  split <;> exact ⟨rfl, rfl, rfl⟩

theorem State.logDirty_counts (s : State) (line : Nat) : s.Counts (s.logDirty line) := by
  unfold State.logDirty
  dsimp only
  split <;> exact ⟨rfl, rfl, rfl⟩

theorem State.Counts.enter {u : State} (h : s.Counts u) {t : Txn} (ht : t.checked = false) :
    u.enter t = s.tallied { u.tally with nextId := u.nextId + 1, txns := s.txns ++ [{ t with id := u.nextId }] } := by
  have hu : u.enter t = u.tallied { u.tally with nextId := u.nextId + 1, txns := u.txns ++ [{ t with id := u.nextId }] } := by
    simp only [State.enter, ht, Bool.false_eq_true, if_false]
    rfl
  calc u.enter t = u.tallied { u.tally with nextId := u.nextId + 1, txns := u.txns ++ [{ t with id := u.nextId }] } := hu
    _ = (s.tallied u.tally).tallied { u.tally with nextId := u.nextId + 1, txns := u.txns ++ [{ t with id := u.nextId }] } := by
      rw [← h.eq]
    _ = _ := by rw [h.txns]; rfl

/-- A write or an atomic of a tile as it comes to the home of its line, and until its snoops are answered. -/
structure Txn.IsChange (t : Txn) (p tag : Nat) : Prop where
  origin : t.origin = .tile p tag
  op : t.op = .write ∨ t.op = .atomicHome ∨ t.op = .atomicMem
  internal : t.internal = false
  hostPort : t.hostPort = false
  checked : t.checked = false
  parBad : t.parBad = false
  absorbed : t.absorbed = false
  phase : t.phase = .behind
  tine : t.tine = none
  waitLine : t.waitLine = none
  snoops : t.snoops = []
  got : t.got = none
  poison : t.poison = 0

theorem Txn.IsChange.evicts {t : Txn} {p tag : Nat} (ht : t.IsChange p tag) : t.evicts = false := by
  rcases ht.op with h | h | h <;> simp [Txn.evicts, h]

theorem Txn.IsChange.isRead {t : Txn} {p tag : Nat} (ht : t.IsChange p tag) : t.op.isRead = false := by
  rcases ht.op with h | h | h <;> simp [h, TOp.isRead]

theorem State.tableMiss_of_homeTakes {t : Txn} {sl fn n h : Nat} {need : Need} {host : Bool}
    (hh : HomeTakes s t.line sl fn need host n h) : s.tableMiss t = none := by
  obtain ⟨hchip, hname, hphys, -, -, -, -, -, -, hown, -⟩ := hh
  simp only [State.tableMiss, hchip, hname, Option.bind_some, hphys, hown, bne_self_eq_false, Bool.false_eq_true, if_false, if_true]

theorem State.stamp_eq (s : State) {t : Txn} (h : t.internal = false) :
    s.stamp t = { t with lvl := (s.stamp t).lvl, aged := (s.stamp t).aged } := by
  simp [State.stamp, h]

/-- What its home makes of a request it enters: `d` bears what the home does not look at before the request is done. -/
def Txn.placed (t d : Txn) (h key : Nat) : Txn :=
  { t with id := d.id, home := h, key := key, fmt := d.fmt, overB := d.overB, lvl := d.lvl, aged := d.aged, cls := 0 }

theorem State.admitTxn_of_homeTakes {t : Txn} {p tag fn n h : Nat} (ht : t.IsChange p tag)
    (hh : HomeTakes s t.line t.slice fn t.op.need false n h) :
    ∃ (y : Tally) (d : Txn), s.admitTxn t (some fn) = (s.tallied y).settle ∧ y.tiles = s.tiles ∧
      y.txns = [d] ∧ d = t.placed d h (s.ownAt (lineGran t.line)).key := by
  obtain ⟨hchip, hname, hphys, hgate, hwin, hlost, hmove, hlmove, htxns, hown, hretry, hheld, hup, hrole⟩ := hh
  have hgateOf : s.gateOf t (some fn) = none := by
    simp only [State.gateOf, hchip, ht.evicts, ht.internal, ht.hostPort, bne_self_eq_false, Bool.false_and, Bool.false_eq_true, if_false]
    exact hgate
  have hbarred : s.barredAt t = none := by
    simp [State.barredAt, hwin, ht.parBad, hlost]
  have hnoread : (t.op == .rdUnique) = false := by
    rcases ht.op with h | h | h <;> simp [h]
  have hwrites : (t.op == .write || t.op == .atomicHome || t.op == .atomicMem) = true := by
    rcases ht.op with h | h | h <;> simp [h]
  simp only [State.admitTxn, hname, hgateOf, hbarred, hphys, hchip, hlmove, hnoread, ht.evicts, htxns, hretry, ht.internal, ht.origin,
    hwrites, ht.isRead, ht.tine, ht.checked, bne_self_eq_false, Bool.and_false, Bool.false_and, Bool.not_false, Bool.false_eq_true,
    if_false, if_true, List.any_nil, List.filter_nil, List.length_nil, List.find?_nil, Bool.and_self, Option.isSome_none, Bool.true_and]
  rw [if_neg (by decide)]
  have hcounts := (((s.charge_counts (instHomeWr h) t.slice t.tc 1).trans (State.note_counts _ (hslUnit h) 0x01 (some t.slice) 1)).trans
    (State.use_counts _ t.ctx 0 0 1 0)).trans (State.logDirty_counts _ t.line)
  refine ⟨_, _, congrArg State.settle (hcounts.enter rfl), hcounts.tiles, by rw [htxns]; exact List.nil_append _, ?_⟩
  simp only [Txn.placed, ht.internal, ht.origin, ht.tine, ht.checked, ht.absorbed, ht.phase]

theorem State.accept_of_homeTakes {t : Txn} {p tag fn n h : Nat} (ht : t.IsChange p tag)
    (hh : HomeTakes s t.line t.slice fn t.op.need false n h) :
    ∃ (y : Tally) (d : Txn), s.accept t (some fn) = (s.tallied y).settle ∧ y.tiles = s.tiles ∧
      y.txns = [d] ∧ d = t.placed d h (s.ownAt (lineGran t.line)).key := by
  obtain ⟨lvl, aged, hstamp⟩ : ∃ lvl aged, s.stamp t = { t with lvl := lvl, aged := aged } := ⟨_, _, s.stamp_eq ht.internal⟩
  have hstamped : Txn.IsChange { t with lvl := lvl, aged := aged } p tag := by
    obtain ⟨ho, hop, hi, hhost, hc, hp, ha, hph, htine, hw, hs, hg, hpo⟩ := ht
    exact ⟨ho, hop, hi, hhost, hc, hp, ha, hph, htine, hw, hs, hg, hpo⟩
  have hmiss : s.tableMiss { t with lvl := lvl, aged := aged } = none := State.tableMiss_of_homeTakes hh
  simp only [State.accept, hstamp, hmiss]
  exact State.admitTxn_of_homeTakes hstamped hh

/-! ### The turn of a change -/

theorem State.settleN_of_no_txns {u : State} (h : u.txns = []) (n : Nat) : State.settleN n u = u := by
  cases n with
  | zero => rfl
  | succ n => simp [State.settleN, State.pickTxn, h]

theorem State.settleN_of_ready {u : State} {d : Txn} (h : u.txns = [d]) (hr : u.ready d = true) (n : Nat) :
    State.settleN (n + 1) u = State.settleN n (u.move d) := by
  simp [State.settleN, State.pickTxn, h, hr]

theorem State.settleN_of_not_ready {u : State} {d : Txn} (h : u.txns = [d]) (hr : u.ready d = false) (n : Nat) :
    State.settleN n u = u := by
  cases n with
  | zero => rfl
  | succ n => simp [State.settleN, State.pickTxn, h, hr]

/-- A change whose turn on its line has come, and which needs no snoop. -/
def Txn.begun (d : Txn) : Txn := { d with phase := .snooping, snoops := [], foreign := false }

theorem State.setTxn_of_txns {u : State} {d : Txn} (h : u.txns = [d]) (c : Txn) (hid : c.id = d.id) :
    u.setTxn c = { u with txns := [c] } := by
  simp [State.setTxn, h, hid]

theorem State.start_of_isChange {u : State} {d : Txn} {p tag : Nat} (ht : d.IsChange p tag) (htxns : u.txns = [d])
    (hchip : lineChip d.line = u.chip) (hfilt : u.filt d.home d.line = {}) : u.start d = { u with txns := [d.begun] } := by
  have hroom : u.filterRoom d = none := by
    rcases ht.op with h | h | h <;> simp [State.filterRoom, h]
  have hplan : u.plan d {} = [] := by
    rcases ht.op with h | h | h <;> simp [State.plan, State.sharerAgents, FiltEntry.ownerAgent, h, bitList]
  have hset : u.setTxn d.begun = { u with txns := [d.begun] } := State.setTxn_of_txns htxns _ rfl
  unfold State.start
  split
  next h => exact absurd ht.evicts (by simp [Txn.evicts, h])
  next h => exact absurd ht.evicts (by simp [Txn.evicts, h])
  next =>
    simp only [hroom, hchip, hfilt, hplan, bne_self_eq_false, Bool.false_and, Bool.false_eq_true, if_false, List.foldl_nil]
    exact hset

theorem State.ready_of_isChange {u : State} {d : Txn} {p tag : Nat} (ht : d.IsChange p tag) (htxns : u.txns = [d])
    (hheld : (u.home d.home).heldSets.contains (fsetOf d.line) = false) : u.ready d = true := by
  have hwaits : u.evictWaits d = false := by rw [State.evictWaits, ht.evicts, Bool.false_and]
  unfold State.ready
  rw [ht.phase]
  simp [ht.waitLine, hheld, hwaits, htxns, -List.contains_eq_mem]

theorem State.settle_of_isChange {u : State} {d : Txn} {p tag : Nat} (ht : d.IsChange p tag) (htxns : u.txns = [d])
    (hchip : lineChip d.line = u.chip) (hfilt : u.filt d.home d.line = {})
    (hheld : (u.home d.home).heldSets.contains (fsetOf d.line) = false) :
    u.settle = State.settleN 18 ({ u with txns := [d.begun] }.snooped d.begun) := by
  have hmove : u.move d = { u with txns := [d.begun] } := by
    rw [State.move, ht.phase]
    exact State.start_of_isChange ht htxns hchip hfilt
  have hready : State.ready { u with txns := [d.begun] } d.begun = true := by
    change (d.begun.snoops.isEmpty && d.begun.waitLine.isNone) = true
    rw [show d.begun.waitLine = none from ht.waitLine]
    rfl
  have hsnooped : State.move { u with txns := [d.begun] } d.begun = State.snooped { u with txns := [d.begun] } d.begun := rfl
  have hfuel : 4 * u.txns.length + 16 = 19 + 1 := by rw [htxns]; rfl
  have hfirst := State.settleN_of_ready htxns (State.ready_of_isChange ht htxns hheld) 19
  have hsecond := State.settleN_of_ready (u := { u with txns := [d.begun] }) rfl hready 18
  rw [State.settle, hfuel, hfirst, hmove]
  rw [hsnooped] at hsecond
  exact hsecond

/-- A change that its home is about to make: of the line `t` names, at home `h`. -/
structure Txn.AtTurn (c t : Txn) (p tag h : Nat) : Prop where
  origin : c.origin = .tile p tag
  home : c.home = h
  line : c.line = t.line
  op : c.op = t.op
  data : c.data = t.data
  be : c.be = t.be
  sector : c.sector = t.sector
  atom : c.atom = t.atom
  got : c.got = none
  poison : c.poison = 0

/-- A change that its home takes comes to its turn there: the block then differs by its counters and the ports' requests alone. -/
theorem State.accept_reaches_turn {t : Txn} {p tag fn n h : Nat} (ht : t.IsChange p tag)
    (hh : HomeTakes s t.line t.slice fn t.op.need false n h) (hfilt : s.filt h t.line = {}) :
    ∃ (y : Tally) (c : Txn), s.accept t (some fn) = State.settleN 18 ((s.tallied y).snooped c) ∧ y.tiles = s.tiles ∧
      y.txns = [c] ∧ c.AtTurn t p tag h ∧ c.key = (s.ownAt (lineGran t.line)).key := by
  obtain ⟨y, d, haccept, htiles, htxns, hd⟩ := State.accept_of_homeTakes ht hh
  obtain ⟨hchip, -, -, -, -, -, -, -, -, -, -, hheld, -, -⟩ := hh
  have hchange : d.IsChange p tag := by
    obtain ⟨ho, hop, hi, hhost, hc, hp, ha, hph, htine, hw, hs, hg, hpo⟩ := ht
    rw [hd]
    exact ⟨ho, hop, hi, hhost, hc, hp, ha, hph, htine, hw, hs, hg, hpo⟩
  have hhome : d.home = h := (congrArg Txn.home hd :)
  have hline : d.line = t.line := (congrArg Txn.line hd :)
  have hsettle := State.settle_of_isChange (u := s.tallied y) hchange htxns (by rw [hline]; exact hchip)
    (by rw [hline, hhome]; exact hfilt) (by rw [hline, hhome]; exact hheld)
  refine ⟨{ y with txns := [d.begun] }, d.begun, haccept.trans hsettle, htiles, rfl, ?_, (congrArg Txn.key hd :)⟩
  exact ⟨hchange.origin, hhome, hline, (congrArg Txn.op hd :), (congrArg Txn.data hd :), (congrArg Txn.be hd :),
    (congrArg Txn.sector hd :), (congrArg Txn.atom hd :), hchange.got, hchange.poison⟩

/-! ### What a home's work leaves alone -/

/-- The part of a home slice that says for which name it serves, and whether its dirty lines are mirrored. -/
def HomeSt.post (x : HomeSt) : Nat × Nat × Bool := (x.role, x.standsFor, x.mirrorOk)

/-- What the answer to a tile and the homes' parts read of a block: its clock, its ports and tags, and the failures. -/
def State.front (s : State) := (s.blk, s.ports, s.tiles, s.flt)

theorem State.portUp_of_front {u : State} (h : u.front = s.front) (p : Nat) : u.portUp p = s.portUp p := by
  have hblk : u.blk = s.blk := congrArg (·.1) h
  have hports : u.ports = s.ports := congrArg (·.2.1) h
  rw [State.portUp, State.portUp, State.port, State.port, hports, hblk]

theorem State.tile_of_front {u : State} (h : u.front = s.front) (p : Nat) : u.tile p = s.tile p := by
  have htiles : u.tiles = s.tiles := congrArg (·.2.2.1) h
  rw [State.tile, State.tile, htiles]

theorem State.setHome_home_eq (s : State) {i j : Nat} {v : HomeSt} {α : Type} (f : HomeSt → α) (hv : f v = f (s.home i)) :
    f ((s.setHome i v).home j) = f (s.home j) := by
  by_cases h : j = i
  · rw [h, State.setHome_home, hv]
  · rw [State.setHome_home_ne s v h]

theorem State.home_of_homes {u : State} (h : u.homes = s.homes) (j : Nat) : u.home j = s.home j := by
  rw [State.home, State.home, h]

theorem State.physOf_congr {u : State} (hpost : ∀ j, (u.home j).post = (s.home j).post) (hflt : u.flt = s.flt) (n : Nat) :
    u.physOf n = s.physOf n := by
  have hrole : ∀ j, (u.home j).role = (s.home j).role := fun j => congrArg Prod.fst (hpost j)
  have hname : ∀ j, (u.home j).standsFor = (s.home j).standsFor := fun j => congrArg (·.2.1) (hpost j)
  simp only [State.physOf, State.comingUp, hrole, hname, hflt]

theorem State.buddy_congr {u : State} (hpost : ∀ j, (u.home j).post = (s.home j).post) (hflt : u.flt = s.flt) (h : Nat) :
    u.buddy h = s.buddy h := by
  have hrole : (u.home h).role = (s.home h).role := congrArg Prod.fst (hpost h)
  have hname : (u.home h).standsFor = (s.home h).standsFor := congrArg (·.2.1) (hpost h)
  simp only [State.buddy, State.nameOfHome, hrole, hname, State.physOf_congr hpost hflt]

theorem State.mirrored_congr {u : State} (hpost : ∀ j, (u.home j).post = (s.home j).post) (hflt : u.flt = s.flt) (h : Nat) :
    u.mirrored h = s.mirrored h := by
  have hok : (u.home h).mirrorOk = (s.home h).mirrorOk := congrArg (·.2.2) (hpost h)
  simp only [State.mirrored, hok, State.buddy_congr hpost hflt]

/-- An operation inside the homes: what the tiles see stays, and each home its part. -/
structure State.HomeWork (s u : State) : Prop where
  front : u.front = s.front
  txns : u.txns = s.txns
  post : ∀ j, (u.home j).post = (s.home j).post

theorem State.HomeWork.trans {u v : State} (h : s.HomeWork u) (g : u.HomeWork v) : s.HomeWork v :=
  ⟨g.front.trans h.front, g.txns.trans h.txns, fun j => (g.post j).trans (h.post j)⟩

theorem State.HomeWork.mirrored {u : State} (h : s.HomeWork u) (j : Nat) : u.mirrored j = s.mirrored j :=
  State.mirrored_congr h.post (congrArg (·.2.2.2) h.front) j

theorem State.setHome_homeWork {i : Nat} {v : HomeSt} (hv : v.post = (s.home i).post) : s.HomeWork (s.setHome i v) :=
  ⟨rfl, rfl, fun _ => State.setHome_home_eq s HomeSt.post hv⟩

theorem State.mirrorPut_homeWork (s : State) (h line sl key poison : Nat) (data : Line) :
    s.HomeWork (s.mirrorPut h line sl key poison data) := by
  unfold State.mirrorPut
  split
  next b _ =>
    have hcharge : s.HomeWork (if sl = 0 then s else s.charge (instHomeWr b) sl 2 1) := by
      split <;> exact ⟨rfl, rfl, fun _ => rfl⟩
    exact hcharge.trans (State.setHome_homeWork rfl)
  · exact ⟨rfl, rfl, fun _ => rfl⟩

theorem State.mirrorPut_lines (s : State) (h line sl key poison : Nat) (data : Line) (j : Nat) :
    ((s.mirrorPut h line sl key poison data).home j).lines = (s.home j).lines := by
  unfold State.mirrorPut
  split
  · split <;> exact State.setHome_home_eq _ HomeSt.lines rfl
  · rfl

theorem State.dirtyLine_homeWork {h : Nat} (hm : s.mirrored h = true) (k : Nat) (l : LlcLine) :
    s.HomeWork (s.dirtyLine h k l) := by
  simp only [State.dirtyLine, hm, if_true]
  refine State.HomeWork.trans ?_ (State.mirrorPut_homeWork ..)
  exact State.setHome_homeWork rfl

theorem State.dirtyLine_lines {h : Nat} (hm : s.mirrored h = true) (k : Nat) (l : LlcLine) :
    ∃ seq, ((s.dirtyLine h k l).home h).lines = mput (s.home h).lines k { l with dirty := true, dirtySeq := seq } := by
  simp only [State.dirtyLine, hm, if_true]
  exact ⟨_, (State.mirrorPut_lines ..).trans (by rw [State.setHome_home])⟩

/-! ### The answer of a change -/

/-- An operation that counts, or takes a reservation: what the tiles see stays, and so do the requests in flight and the lines of
the homes. -/
structure State.Keeps (s u : State) : Prop where
  front : u.front = s.front
  txns : u.txns = s.txns
  lines : ∀ j, (u.home j).lines = (s.home j).lines

theorem State.Keeps.trans {u v : State} (h : s.Keeps u) (g : u.Keeps v) : s.Keeps v :=
  ⟨g.front.trans h.front, g.txns.trans h.txns, fun j => (g.lines j).trans (h.lines j)⟩

theorem State.setHome_keeps {i : Nat} {v : HomeSt} (hv : v.lines = (s.home i).lines) : s.Keeps (s.setHome i v) :=
  ⟨rfl, rfl, fun _ => State.setHome_home_eq s HomeSt.lines hv⟩

theorem State.countDone_keeps (s : State) {c : Txn} {p tag : Nat} (ho : c.origin = .tile p tag) (st : Status) :
    s.Keeps (s.countDone c st) := by
  simp only [State.countDone, ho]
  split
  · split <;> exact ⟨rfl, rfl, fun _ => rfl⟩
  · exact ⟨rfl, rfl, fun _ => rfl⟩

theorem State.use_keeps (s : State) (x : Option Nat) (rd wr hsl job : Nat) : s.Keeps (s.use x rd wr hsl job) := by
  unfold State.use
  split <;> exact ⟨rfl, rfl, fun _ => rfl⟩

theorem State.reserve_keeps (s : State) (h : Nat) : s.Keeps (s.reserve h) := by
  unfold State.reserve
  dsimp only
  split
  · exact State.setHome_keeps rfl
  · exact ⟨rfl, rfl, fun _ => rfl⟩

theorem State.tileRsp_mem_tileRsps {p tag : Nat} {d : Line} (hup : s.portUp p = true) (htag : tag ∈ (s.tile p).tags) (st : Status)
    (granted : Nat) : .tileRsp p tag st granted d ∈ (s.tileRsps p tag st granted [d]).out := by
  have htag' : (s.tile p).tags.contains tag = true := List.contains_iff_mem.mpr htag
  have hup' : ((s.setTile p { s.tile p with tags := (s.tile p).tags.filter (· != tag) }).reqClose p tag st).portUp p = true := by
    rw [State.reqClose_eq]
    exact hup
  simp only [State.tileRsps, htag', Bool.not_true, Bool.false_eq_true, if_false, hup', if_true, List.map_cons, List.map_nil]
  exact List.mem_append_right _ (List.mem_singleton_self _)

/-- A tile's request is over: it is answered OK with a line, and no request is in flight; the lines of the homes are those of `s`. -/
structure State.Answered (s u : State) (p tag : Nat) (d : Line) : Prop where
  out : .tileRsp p tag .ok 0 d ∈ u.out
  txns : u.txns = []
  lines : ∀ j, (u.home j).lines = (s.home j).lines

theorem State.answer_answered {c : Txn} {p tag : Nat} {d : Line} (ho : c.origin = .tile p tag) (hup : s.portUp p = true)
    (htag : tag ∈ (s.tile p).tags) (htxns : s.txns = []) : s.Answered (s.answer c .ok 0 [d] 0) p tag d := by
  obtain ⟨u, hanswer, hkeeps⟩ : ∃ u : State, s.answer c .ok 0 [d] 0 = u.tileRsps p tag .ok 0 [d] ∧ s.Keeps u := by
    simp only [State.answer, ho, State.retryNote]
    exact ⟨_, rfl, (State.countDone_keeps s ho .ok).trans (State.use_keeps ..)⟩
  have hup' : u.portUp p = true := (State.portUp_of_front hkeeps.front p).trans hup
  have htag' : tag ∈ (u.tile p).tags := State.tile_of_front hkeeps.front p ▸ htag
  rw [hanswer]
  refine ⟨State.tileRsp_mem_tileRsps hup' htag' .ok 0, by rw [State.tileRsps_txns, hkeeps.txns, htxns], fun j => ?_⟩
  rw [State.home_of_homes (State.tileRsps_homes ..) j, hkeeps.lines]

theorem State.finish_answered {c c' : Txn} {p tag : Nat} {d : Line} (ho : c.origin = .tile p tag) (hup : s.portUp p = true)
    (htag : tag ∈ (s.tile p).tags) (htxns : s.txns = [c']) (hid : c'.id = c.id) :
    s.Answered (s.finish c .ok 0 [d] 0) p tag d := by
  obtain ⟨u, hfinish, hkeeps⟩ : ∃ u : State, s.finish c .ok 0 [d] 0 = u.answer c .ok 0 [d] 0 ∧
      State.Keeps { s with txns := [] } u := by
    have hnone : (s.txns.filter fun (x : Txn) => x.id != c.id) = [] := by simp [htxns, hid]
    simp only [State.finish, hnone, List.map_nil]
    refine ⟨_, rfl, ?_⟩
    have hreserve : ∀ b, State.Keeps { s with txns := [] } b →
        State.Keeps { s with txns := [] } (if c.cls = 0 || c.cls = 2 then b.reserve c.home else b) := by
      intro b hb
      split
      · exact hb.trans (State.reserve_keeps ..)
      · exact hb
    apply hreserve
    split
    · exact State.setHome_keeps rfl
    · exact ⟨rfl, rfl, fun _ => rfl⟩
  have hup' : u.portUp p = true := (State.portUp_of_front hkeeps.front p).trans hup
  have htag' : tag ∈ (u.tile p).tags := State.tile_of_front hkeeps.front p ▸ htag
  obtain ⟨hout, hnotxns, hlines⟩ := State.answer_answered (d := d) ho hup' htag' hkeeps.txns
  rw [hfinish]
  exact ⟨hout, hnotxns, fun j => (hlines j).trans (hkeeps.lines j)⟩

/-- The buddy notes a change of an origin with the value it found (05 R178). -/
def State.acked (s : State) (c : Txn) (old : Line) : State :=
  match s.buddy c.home with
  | some b => s.setHome b { s.home b with
      ackLog := ((s.home b).ackLog.filter fun (a : Origin × BitVec 64) => a.1 != c.origin) ++ [(c.origin, old.setWidth 64)] }
  | none => s

theorem State.acked_keeps (s : State) (c : Txn) (old : Line) : s.Keeps (s.acked c old) := by
  unfold State.acked
  split
  · exact State.setHome_keeps rfl
  · exact ⟨rfl, rfl, fun _ => rfl⟩

theorem State.acked_homeWork (s : State) (c : Txn) (old : Line) : s.HomeWork (s.acked c old) := by
  unfold State.acked
  split
  · exact State.setHome_homeWork rfl
  · exact ⟨rfl, rfl, fun _ => rfl⟩

theorem State.changeDone_of_mirrored {c : Txn} (hm : s.mirrored c.home = true) (old : Line) :
    s.changeDone c old = ((s.acked c old).use c.ctx 0 0 1 0).finish c .ok 0 [old] 0 := by
  have hm' : ((s.acked c old).use c.ctx 0 0 1 0).mirrored c.home = true := by
    rw [← hm, ← (State.acked_homeWork s c old).mirrored]
    unfold State.use
    split <;> rfl
  change (if (!((s.acked c old).use c.ctx 0 0 1 0).mirrored c.home && _) = true then _ else _) = _
  rw [hm', Bool.not_true, Bool.false_and, if_neg Bool.false_ne_true]
  rfl

/-- A change that is made in a mirrored home is answered. -/
theorem State.changeDone_answered {c c' : Txn} {p tag : Nat} {old : Line} (ho : c.origin = .tile p tag) (hup : s.portUp p = true)
    (htag : tag ∈ (s.tile p).tags) (htxns : s.txns = [c']) (hid : c'.id = c.id) (hm : s.mirrored c.home = true) :
    s.Answered (s.changeDone c old) p tag old := by
  have hkeeps := (State.acked_keeps s c old).trans (State.use_keeps _ c.ctx 0 0 1 0)
  have hup' := (State.portUp_of_front hkeeps.front p).trans hup
  obtain ⟨hout, hnotxns, hlines⟩ := State.finish_answered (d := old) ho hup' (State.tile_of_front hkeeps.front p ▸ htag)
    (hkeeps.txns.trans htxns) hid
  rw [State.changeDone_of_mirrored hm]
  exact ⟨hout, hnotxns, fun j => (hlines j).trans (hkeeps.lines j)⟩

/-! ### A write or an atomic of a dirty line -/

/-- What a write or an ATOMIC_HOME makes of a line: the value it is answered with, and the new line. -/
def Txn.change (c : Txn) (old : Line) : Option (Reg × Line) :=
  if c.op == .atomicHome then atomicLine old c.sector c.atom.1 c.atom.2.1 c.atom.2.2.1 c.atom.2.2.2
  else some (0, mergeLine old c.data c.be)

theorem State.writeDone_of_dirty {c : Txn} {k : Nat} {l : LlcLine} {oldv : Reg} {new : Line}
    (hway : (s.home c.home).way? c.line = some (k, l)) (hdirty : l.dirty = true) (hlive : s.keyLive l.key = true)
    (hmoving : s.moving (s.lineSlice c.line) = false) (hnew : c.change l.data = some (oldv, new)) :
    ∃ p, s.writeDone c l.data 0 =
      (s.dirtyLine c.home k { l with data := new, poison := p }).changeDone c (BitVec.ofNat 1024 oldv.toNat) := by
  have hroom : s.roomFor c.home c.line (s.lineSlice c.line) = (s, none) := by
    have hdirtyRoom : s.dirtyRoom c.home c.line (s.lineSlice c.line) = true := by
      simp only [State.dirtyRoom, hway, hdirty, Bool.true_or]
    simp only [State.roomFor, hdirtyRoom, Bool.true_or, if_true]
  unfold Txn.change at hnew
  unfold State.writeDone
  simp only [hway, hlive, hroom, hmoving, hnew, Nat.zero_and, bne_self_eq_false, Bool.not_true, Bool.false_eq_true, if_false]
  exact ⟨_, rfl⟩

theorem State.snooped_of_held {c t : Txn} {p tag h k : Nat} {l : LlcLine} (hc : c.AtTurn t p tag h)
    (hop : t.op = .write ∨ t.op = .atomicHome) (hchip : lineChip t.line = s.chip)
    (hway : (s.home h).way? t.line = some (k, l)) (hpoison : l.poison = 0) :
    s.snooped c = (s.setFilt h t.line {}).writeDone { c with got := none, gotDirty := false } l.data 0 := by
  obtain ⟨-, hhome, hline, hcop, -, -, -, -, hgot, hcpoison⟩ := hc
  have hdata : (s.setFilt h t.line {}).homeData h t.line = some (l.data, 0, 3) := by
    have hway' : ((s.setFilt h t.line {}).home h).way? t.line = some (k, l) := by
      rw [State.setFilt, State.setHome_home]
      exact hway
    rw [State.homeData, hway', ← hpoison]
  have hwait : s.dirtyWait c = (s, none) := by
    simp [State.dirtyWait, hgot]
  have hread : c.op.isRead = false := by
    rw [hcop]
    rcases hop with h | h <;> rw [h] <;> rfl
  unfold State.snooped
  simp only [hwait, hcpoison, hread, hline, hhome, hchip, hgot, hdata, bne_self_eq_false, Bool.false_and, Bool.false_eq_true, if_false]
  rcases hop with h | h <;> simp [hcop, h]

theorem find?_mput_of_find? {α : Type} {f : α → Bool} {k : Nat} {v w : α} (hw : f w = true) {m : Map α}
    (h : m.find? (fun e => f e.2) = some (k, v)) : (mput m k w).find? (fun e => f e.2) = some (k, w) := by
  induction m with
  | nil => cases h
  | cons e m ih =>
    obtain ⟨a, x⟩ := e
    rw [List.find?_cons] at h
    cases hx : f x with
    | true =>
      simp only [hx, Option.some.injEq, Prod.mk.injEq] at h
      simp [mput, h.1, hw]
    | false =>
      simp only [hx] at h
      simp only [mput]
      split
      · simp [hw]
      · split <;> simp [hw, hx, ih h]

/-- A home with a line of its array changed: the line is found with its new contents, and every other place is as it was. -/
structure State.LineMade (s u : State) (h line k : Nat) (new : Line) : Prop where
  here : ((u.home h).way? line).map (·.2.data) = some new
  elsewhere : ∀ j, j ≠ k → mget? (u.home h).lines j = mget? (s.home h).lines j

theorem State.lineMade_of_lines {u : State} {h line k : Nat} {l l' : LlcLine} (hway : (s.home h).way? line = some (k, l))
    (hlines : (u.home h).lines = mput (s.home h).lines k l') (hline : l'.line = l.line) : s.LineMade u h line k l'.data := by
  have hfound : l.line = line := by
    have := List.find?_some hway
    exact eq_of_beq this
  have hway' : (u.home h).way? line = some (k, l') := by
    rw [HomeSt.way?, hlines]
    exact find?_mput_of_find? (f := fun x : LlcLine => x.line == line) (by simp [hline, hfound]) hway
  exact ⟨by rw [hway']; rfl, fun j hj => by rw [hlines, mget?_mput_ne _ _ hj]⟩

/-- A write or an ATOMIC_HOME of a dirty line of a mirrored home is made in the line, and answered. -/
theorem State.writeDone_makes {d c : Txn} {p tag k : Nat} {l : LlcLine} {oldv : Reg} {new : Line} (ho : d.origin = .tile p tag)
    (htxns : s.txns = [c]) (hid : c.id = d.id) (hup : s.portUp p = true) (htag : tag ∈ (s.tile p).tags)
    (hway : (s.home d.home).way? d.line = some (k, l)) (hdirty : l.dirty = true) (hlive : s.keyLive l.key = true)
    (hm : s.mirrored d.home = true) (hmoving : s.moving (s.lineSlice d.line) = false) (hnew : d.change l.data = some (oldv, new)) :
    .tileRsp p tag .ok 0 (BitVec.ofNat 1024 oldv.toNat) ∈ (s.writeDone d l.data 0).out ∧ (s.writeDone d l.data 0).txns = [] ∧
      s.LineMade (s.writeDone d l.data 0) d.home d.line k new := by
  obtain ⟨q, hdone⟩ := State.writeDone_of_dirty hway hdirty hlive hmoving hnew
  have hwork := State.dirtyLine_homeWork hm k { l with data := new, poison := q }
  obtain ⟨seq, hlines⟩ := State.dirtyLine_lines hm k { l with data := new, poison := q }
  obtain ⟨hout, hnotxns, hkept⟩ := State.changeDone_answered (old := BitVec.ofNat 1024 oldv.toNat) ho
    ((State.portUp_of_front hwork.front p).trans hup) (State.tile_of_front hwork.front p ▸ htag) (hwork.txns.trans htxns) hid
    ((hwork.mirrored d.home).trans hm)
  rw [hdone]
  exact ⟨hout, hnotxns, State.lineMade_of_lines hway ((hkept d.home).trans hlines) rfl⟩

theorem State.accept_of_dirty {t : Txn} {p tag fn n h k : Nat} {l : LlcLine} {oldv : Reg} {new : Line} (ht : t.IsChange p tag)
    (hop : t.op = .write ∨ t.op = .atomicHome) (hh : HomeTakes s t.line t.slice fn t.op.need false n h)
    (hfilt : s.filt h t.line = {}) (hup : s.portUp p = true) (htag : tag ∈ (s.tile p).tags)
    (hway : (s.home h).way? t.line = some (k, l)) (hdirty : l.dirty = true) (hpoison : l.poison = 0)
    (hlive : s.keyLive l.key = true) (hm : s.mirrored h = true) (hnew : t.change l.data = some (oldv, new)) :
    .tileRsp p tag .ok 0 (BitVec.ofNat 1024 oldv.toNat) ∈ (s.accept t (some fn)).out ∧
      s.LineMade (s.accept t (some fn)) h t.line k new := by
  obtain ⟨y, c, haccept, htiles, htxns, hturn, -⟩ := State.accept_reaches_turn ht hh hfilt
  obtain ⟨hchip, -, -, -, -, -, -, hmoving, -, -, -, -, -, -⟩ := hh
  have hsnooped := State.snooped_of_held (s := s.tallied y) hturn hop hchip hway hpoison
  obtain ⟨ho, rfl, hline, hcop, hdata, hbe, hsector, hatom, -, -⟩ := hturn
  rw [← hline] at hway hmoving hsnooped ⊢
  -- the filter has forgotten the line: no more differs from `s` in its home
  have hwork : (s.tallied y).HomeWork ((s.tallied y).setFilt c.home c.line {}) := State.setHome_homeWork rfl
  have hlines : (((s.tallied y).setFilt c.home c.line {}).home c.home).lines = (s.home c.home).lines := by
    rw [State.setFilt, State.setHome_home]
    rfl
  have hfront : ((s.tallied y).setFilt c.home c.line {}).front = s.front := congrArg (fun x => (s.blk, s.ports, x, s.flt)) htiles
  have hnew' : Txn.change { c with got := none, gotDirty := false } l.data = some (oldv, new) := by
    rw [← hnew, Txn.change, Txn.change, hcop, hsector, hatom, hdata, hbe]
  obtain ⟨hout, hnotxns, hhere, helse⟩ := State.writeDone_makes (s := (s.tallied y).setFilt c.home c.line {})
    (d := { c with got := none, gotDirty := false }) ho htxns rfl ((State.portUp_of_front hfront p).trans hup)
    (State.tile_of_front hfront p ▸ htag) (by rw [HomeSt.way?, hlines]; exact hway) hdirty hlive ((hwork.mirrored c.home).trans hm)
    hmoving hnew'
  rw [haccept, hsnooped, State.settleN_of_no_txns hnotxns]
  exact ⟨hout, hhere, fun j hj => (helse j hj).trans (by rw [hlines])⟩

/-! ### An ATOMIC_MEM of a line the home does not have -/

theorem State.tineUses_txns (s : State) (x : Option Nat) (i : Nat) : (s.tineUses x i).txns = s.txns := by
  unfold State.tineUses
  split
  · split <;> rfl
  · rfl

theorem State.memPut_txns (s : State) (p tag : Nat) (q : MemReq) : (s.memPut p tag q).txns = s.txns := by
  simp only [State.memPut, State.emit, State.note_txns]
  split
  · rfl
  · exact State.tineUses_txns ..

theorem State.memAsk_txns (s : State) (p : Nat) (q : MemReq) : (s.memAsk p q).txns = s.txns := by
  unfold State.memAsk
  split
  · exact State.memPut_txns ..
  · rfl

/-- What an ATOMIC_MEM asks of memory: its whole line (05 R166). -/
def Txn.atomAsk (d : Txn) : MemReq :=
  { line := d.line, mask := 3, key := d.key, slice := d.slice, tc := d.tc, internal := d.internal, purpose := .atomRead d.id }

theorem State.toMemory_of_keyPasses {d c : Txn} (htxns : s.txns = [c]) (hid : c.id = d.id) (hkey : s.keyPasses d.key d.line = true)
    (hlost : s.stackLost (granPort (lineGran d.line)) = false) (hport : (s.port (mpPort (granPort (lineGran d.line)))).state < 2) :
    (s.toMemory d).txns = [{ d with phase := .atMemory, waitLine := none }] := by
  have hask : s.memRead d.line 3 d.key d.slice d.tc d.internal (.atomRead d.id) =
      (s.memAsk (granPort (lineGran d.line)) d.atomAsk, true) := by
    simp only [State.memRead, Txn.atomAsk, hkey, hlost, Bool.not_true, Bool.false_eq_true, if_false, if_neg (Nat.not_le.mpr hport)]
  simp only [State.toMemory, hask]
  exact congrArg State.txns (State.setTxn_of_txns ((State.memAsk_txns ..).trans htxns)
    { d with phase := .atMemory, waitLine := none } hid.symm)

theorem State.snooped_of_unheld {c t : Txn} {p tag h : Nat} (hc : c.AtTurn t p tag h) (hop : t.op = .atomicMem)
    (hchip : lineChip t.line = s.chip) (hway : (s.home h).way? t.line = none) (hwbuf : (s.home h).wbuf = []) :
    s.snooped c = (s.setFilt h t.line {}).toMemory { c with got := none, gotDirty := false } := by
  obtain ⟨-, hhome, hline, hcop, -, -, -, -, hgot, hcpoison⟩ := hc
  have hway' : ((s.setFilt h t.line {}).home h).way? t.line = none := by
    rw [State.setFilt, State.setHome_home]
    exact hway
  have hwbuf' : ((s.setFilt h t.line {}).home h).wbuf = [] := by
    rw [State.setFilt, State.setHome_home]
    exact hwbuf
  have hwait : s.dirtyWait c = (s, none) := by
    simp [State.dirtyWait, hgot]
  have hread : TOp.atomicMem.isRead = false := rfl
  unfold State.snooped
  simp only [hwait, hcpoison, hread, hline, hhome, hchip, hgot, hcop, hop, hway', hwbuf', List.any_nil, bne_self_eq_false,
    Bool.false_and, Bool.false_eq_true, if_false]

/-- An ATOMIC_MEM of a line that its home takes and does not have goes to the memory side. -/
theorem State.accept_of_atomicMem {t : Txn} {p tag fn n h : Nat} (ht : t.IsChange p tag) (hop : t.op = .atomicMem)
    (hh : HomeTakes s t.line t.slice fn t.op.need false n h) (hfilt : s.filt h t.line = {})
    (hway : (s.home h).way? t.line = none) (hwbuf : (s.home h).wbuf = [])
    (hkey : s.keyPasses (s.ownAt (lineGran t.line)).key t.line = true)
    (hport : (s.port (mpPort (granPort (lineGran t.line)))).state < 2) :
    ∃ x ∈ (s.accept t (some fn)).txns, x.op = .atomicMem ∧ x.phase = .atMemory ∧ x.line = t.line ∧ x.origin = .tile p tag := by
  obtain ⟨y, c, haccept, -, htxns, hturn, hckey⟩ := State.accept_reaches_turn ht hh hfilt
  obtain ⟨hchip, -, -, -, -, hlost, -, -, -, -, -, -, -, -⟩ := hh
  have hsnooped := State.snooped_of_unheld (s := s.tallied y) hturn hop hchip hway hwbuf
  obtain ⟨ho, -, hline, hcop, -, -, -, -, -, -⟩ := hturn
  rw [← hckey, ← hline] at hkey
  rw [← hline] at hlost hport
  have hasked := State.toMemory_of_keyPasses (s := (s.tallied y).setFilt h t.line {}) (d := { c with got := none, gotDirty := false })
    htxns rfl hkey hlost hport
  rw [haccept, hsnooped, State.settleN_of_not_ready hasked rfl, hasked]
  exact ⟨_, List.mem_singleton_self _, hcop.trans hop, rfl, hline, ho⟩

/-! ### The three requests -/

/-- The transaction of a WR_SECTOR (05 R162). -/
def State.sectorTxn (s : State) (port : Nat) (r : TpReq) (b : Bound) : Txn :=
  { s.tileTxn port r b false false r.addr.toNat .write with
    be := BitVec.ofNat 128 (r.be.toNat <<< (64 * flag r.sector)), sector := 64 * flag r.sector, alloc := false,
    data := setSector 0 (flag r.sector) r.wdata }

/-- The transaction of an ATOMIC_HOME or ATOMIC_MEM (05 R166). -/
def State.atomTxn (s : State) (port : Nat) (op : TOp) (r : TpReq) (b : Bound) (atom : Nat × Bool × Reg × Reg) : Txn :=
  { s.tileTxn port r b false false r.addr.toNat op with
    be := beRange (r.addr.toNat % 128) (if atom.2.1 then 8 else 4), sector := r.addr.toNat % 128, atom := atom }

theorem State.sectorTxn_isChange (s : State) (port : Nat) (b : Bound) (hpar : tpDparOk r = true) :
    (s.sectorTxn port r b).IsChange port r.tag.toNat := by
  have hparBad : (s.sectorTxn port r b).parBad = false := by
    change (!tpDparOk r) = false
    rw [hpar]
    rfl
  exact ⟨rfl, .inl rfl, rfl, rfl, rfl, hparBad, rfl, rfl, rfl, rfl, rfl, rfl, rfl⟩

theorem State.atomTxn_isChange (s : State) (port : Nat) {op : TOp} (hop : op = .atomicHome ∨ op = .atomicMem) (b : Bound)
    (atom : Nat × Bool × Reg × Reg) (hpar : tpDparOk r = true) : (s.atomTxn port op r b atom).IsChange port r.tag.toNat := by
  have hparBad : (s.atomTxn port op r b atom).parBad = false := by
    change (!tpDparOk r) = false
    rw [hpar]
    rfl
  exact ⟨rfl, .inr hop, rfl, rfl, rfl, hparBad, rfl, rfl, rfl, rfl, rfl, rfl, rfl⟩

theorem chipOf_eq_lineChip (a : Nat) : chipOf a = lineChip (lineOf a) := by
  unfold chipOf lineChip lineOf
  omega

theorem State.serveWrite_of_chip (port : Nat) (b : Bound) (hchip : chipOf r.addr.toNat = s.chip) :
    s.serveWrite port r b false = s.accept (s.sectorTxn port r b) (some b.fn) := by
  simp only [State.serveWrite, hchip, decide_true, Bool.true_or, bne_self_eq_false, Bool.false_and, Bool.false_eq_true, if_true, if_false]
  rfl

theorem State.serveAtomic_of_chip (port : Nat) (op : TOp) (b : Bound) (hchip : chipOf r.addr.toNat = s.chip) {x y : Reg} {o : Nat}
    {size : Bool} (hatom : atomOperands r.wdata = some (x, y, o, size)) (halign : r.addr.toNat % (if size then 8 else 4) = 0) :
    s.serveAtomic port op r b false = s.accept (s.atomTxn port op r b (o, size, x, y)) (some b.fn) := by
  simp only [State.serveAtomic, hatom, halign, hchip, bne_self_eq_false, beq_self_eq_true, Bool.true_or, Bool.not_true, Bool.or_self,
    Bool.false_eq_true, if_false]
  rfl

/-- The counters of a block do not keep a home from taking a request. -/
theorem homeTakes_tallied {line sl fn n h : Nat} {need : Need} {host : Bool} (hh : HomeTakes s line sl fn need host n h) {y : Tally}
    (hy : y.txns = s.txns) : HomeTakes (s.tallied y) line sl fn need host n h := by
  obtain ⟨hchip, hname, hphys, hgate, hwin, hlost, hmove, hlmove, htxns, hown, hretry, hheld, hup, hrole⟩ := hh
  exact ⟨hchip, hname, hphys, hgate, hwin, hlost, hmove, hlmove, hy.trans htxns, hown, hretry, hheld, hup, hrole⟩

theorem exec_wrSector_of_dirty {port : BitVec 8} {n h k : Nat} {l : LlcLine} (hgate : GateOpen s (lineOf r.addr.toNat) r b)
    (hfilt : s.filt h (lineOf r.addr.toNat) = {}) (hh : HomeTakes s (lineOf r.addr.toNat) b.slice b.fn .wr false n h)
    (ht : TileTakes s port.toNat 0x0A r b) (hway : (s.home h).way? (lineOf r.addr.toNat) = some (k, l)) (hdirty : l.dirty = true)
    (hpoison : l.poison = 0) (hlive : s.keyLive l.key = true) (hm : s.mirrored h = true) :
    ∃ t, exec (.wrSector port r) s = .next t ∧ .tileRsp port.toNat r.tag.toNat .ok 0 0 ∈ t.out ∧
      s.LineMade t h (lineOf r.addr.toNat) k (mergeLine l.data (setSector 0 (flag r.sector) r.wdata)
        (BitVec.ofNat 128 (r.be.toNat <<< (64 * flag r.sector)))) := by
  obtain ⟨y, hserved, htag, htxns⟩ := State.tileReq_of_tileTakes ht rfl hgate (.wrSector port r)
    (fun s b => s.serveWrite port.toNat r b false)
  have hchip : chipOf r.addr.toNat = (s.tallied y).chip := (chipOf_eq_lineChip _).trans hh.1
  rw [State.serveWrite_of_chip _ _ hchip] at hserved
  obtain ⟨hup, -, hpar, -⟩ := ht
  obtain ⟨hout, hmade⟩ := State.accept_of_dirty (s := s.tallied y) (State.sectorTxn_isChange _ _ b hpar) (.inl rfl)
    (homeTakes_tallied hh htxns) hfilt hup htag hway hdirty hpoison hlive hm (oldv := 0) rfl
  exact ⟨_, rfl, hserved ▸ hout, hserved ▸ ⟨hmade.here, hmade.elsewhere⟩⟩

theorem exec_atomicHome_of_dirty {port : BitVec 8} {n h k o : Nat} {l : LlcLine} {x y oldv : Reg} {size : Bool} {new : Line}
    (hgate : GateOpen s (lineOf r.addr.toNat) r b) (hfilt : s.filt h (lineOf r.addr.toNat) = {})
    (hh : HomeTakes s (lineOf r.addr.toNat) b.slice b.fn .amo false n h) (ht : TileTakes s port.toNat 0x10 r b)
    (hway : (s.home h).way? (lineOf r.addr.toNat) = some (k, l)) (hdirty : l.dirty = true) (hpoison : l.poison = 0)
    (hlive : s.keyLive l.key = true) (hm : s.mirrored h = true) (hatom : atomOperands r.wdata = some (x, y, o, size))
    (halign : r.addr.toNat % (if size then 8 else 4) = 0)
    (hnew : atomicLine l.data (r.addr.toNat % 128) o size x y = some (oldv, new)) :
    ∃ t, exec (.atomicHome port r) s = .next t ∧
      .tileRsp port.toNat r.tag.toNat .ok 0 (BitVec.ofNat 1024 oldv.toNat) ∈ t.out ∧
      s.LineMade t h (lineOf r.addr.toNat) k new := by
  obtain ⟨z, hserved, htag, htxns⟩ := State.tileReq_of_tileTakes ht rfl hgate (.atomicHome port r)
    (fun s b => s.serveAtomic port.toNat .atomicHome r b false)
  have hchip : chipOf r.addr.toNat = (s.tallied z).chip := (chipOf_eq_lineChip _).trans hh.1
  rw [State.serveAtomic_of_chip _ _ _ hchip hatom halign] at hserved
  obtain ⟨hup, -, hpar, -⟩ := ht
  obtain ⟨hout, hmade⟩ := State.accept_of_dirty (s := s.tallied z) (State.atomTxn_isChange _ _ (.inl rfl) b (o, size, x, y) hpar)
    (.inr rfl) (homeTakes_tallied hh htxns) hfilt hup htag hway hdirty hpoison hlive hm hnew
  exact ⟨_, rfl, hserved ▸ hout, hserved ▸ ⟨hmade.here, hmade.elsewhere⟩⟩

theorem exec_atomicMem_of_unheld {port : BitVec 8} {n h o : Nat} {x y : Reg} {size : Bool}
    (hgate : GateOpen s (lineOf r.addr.toNat) r b) (hfilt : s.filt h (lineOf r.addr.toNat) = {})
    (hh : HomeTakes s (lineOf r.addr.toNat) b.slice b.fn .amo false n h) (ht : TileTakes s port.toNat 0x11 r b)
    (hway : (s.home h).way? (lineOf r.addr.toNat) = none) (hwbuf : (s.home h).wbuf = [])
    (hatom : atomOperands r.wdata = some (x, y, o, size)) (halign : r.addr.toNat % (if size then 8 else 4) = 0)
    (hkey : s.keyPasses (s.ownAt (lineGran (lineOf r.addr.toNat))).key (lineOf r.addr.toNat) = true)
    (hport : (s.port (mpPort (granPort (lineGran (lineOf r.addr.toNat))))).state < 2) :
    ∃ t, exec (.atomicMem port r) s = .next t ∧ ∃ c ∈ t.txns,
      c.op = .atomicMem ∧ c.phase = .atMemory ∧ c.line = lineOf r.addr.toNat ∧ c.origin = .tile port.toNat r.tag.toNat := by
  obtain ⟨z, hserved, -, htxns⟩ := State.tileReq_of_tileTakes ht rfl hgate (.atomicMem port r)
    (fun s b => s.serveAtomic port.toNat .atomicMem r b false)
  have hchip : chipOf r.addr.toNat = (s.tallied z).chip := (chipOf_eq_lineChip _).trans hh.1
  rw [State.serveAtomic_of_chip _ _ _ hchip hatom halign] at hserved
  obtain ⟨-, -, hpar, -⟩ := ht
  have hsent := State.accept_of_atomicMem (s := s.tallied z)
    (State.atomTxn_isChange (s.tallied z) port.toNat (.inr rfl) b (o, size, x, y) hpar) rfl (homeTakes_tallied hh htxns) hfilt hway hwbuf
    hkey hport
  exact ⟨_, rfl, hserved ▸ hsent⟩

end

/-- Settles O20: a change that its home takes at once needs no snoop, and its turn is the only one; a dirty line has its room and its
mirror, so that the change is made in it and answered; ATOMIC_MEM finds nothing in the home, and asks memory. -/
theorem tileChangesOfHeldLines : Obligations.TileChangesOfHeldLines := by
  unfold Obligations.TileChangesOfHeldLines
  rintro s port r b n h _ rfl hgate hfilt
  refine ⟨?_, ?_, ?_⟩
  · intro k l hh ht hway hdirty hpoison hlive hm
    obtain ⟨t, ht, hout, hmade⟩ := exec_wrSector_of_dirty hgate hfilt hh ht hway hdirty hpoison hlive hm
    exact ⟨t, ht, hout, hmade.here, hmade.elsewhere⟩
  · intro k l x y o size oldv new hh ht hway hdirty hpoison hlive hm hatom halign hnew
    obtain ⟨t, ht, hout, hmade⟩ := exec_atomicHome_of_dirty hgate hfilt hh ht hway hdirty hpoison hlive hm hatom halign hnew
    exact ⟨t, ht, hout, hmade.here⟩
  · intro x y o size hh ht hway hwbuf hatom halign hkey hport
    exact exec_atomicMem_of_unheld hgate hfilt hh ht hway hwbuf hatom halign hkey hport

end Sys2Proof.Machine
end

section
/-! Class holds (06 R203): the park of 01 R48 follows the thermal code at every sample. -/

namespace Sys2Proof.Machine

/-! ### Park and trip (01 R48, 14 R429) -/

@[simp] theorem State.raise_sensors (s : State) (u kind cls subType subj sl fn : Nat) :
    (s.raise u kind cls subType subj sl fn).fawn.sensors = s.fawn.sensors := by
  unfold State.raise
  dsimp only
  repeat' split
  all_goals simp

/-- The thermal code is read from the thermal inputs alone. -/
theorem State.thermalCode_congr {s u : State} (h : u.fawn.sensors = s.fawn.sensors) : u.thermalCode = s.thermalCode := by
  have hsensor : u.sensor = s.sensor := funext fun k => by rw [State.sensor, State.sensor, h]
  have hdie : u.dieHottest = s.dieHottest := funext fun d => by
    rw [State.dieHottest, State.dieHottest, State.dieBlind, State.dieBlind, hsensor]
  rw [State.thermalCode, State.thermalCode, State.hottest, State.hottest, hdie]

/-- A block that has reached code 3: its action is taken, it is parked, and point 8 is asked for where it was not parked before. -/
def State.heldHot (s : State) : State :=
  let s : State := { s with fawn := { s.fawn with action := s.thermalCode } }
  if s.blk.parked then s
  else
    let s := (({ s with blk := { s.blk with parked := true } } : State).raise fwnUnit 0xE5 2 12 s.hotSubject 0 0).xoffAll
    if s.blk.fclkChange.getD s.blk.fclkPoint = 8 then { s with blk := { s.blk with fclkWanted := none } } else s.fclkWant 8

theorem State.heldHot_sensors (s : State) : s.heldHot.fawn.sensors = s.fawn.sensors := by
  unfold State.heldHot
  dsimp only
  split
  · rfl
  · split <;> simp [State.fclkWant]

theorem State.heldHot_parked (s : State) : s.heldHot.blk.parked = true := by
  unfold State.heldHot
  dsimp only
  split
  · assumption
  · split <;> simp [State.fclkWant]

theorem State.parkTrip_of_hot {s : State} (h : 3 ≤ s.thermalCode) : s.parkTrip =
    if s.thermalCode = 4 && !s.heldHot.blk.tripped then
      (({ s.heldHot with blk := { s.heldHot.blk with tripped := true } } : State).raise fwnUnit 0xE6 3 12
        s.heldHot.hotSubject 0 0).power 4 0
    else s.heldHot :=
  if_pos h

theorem State.parkTrip_of_cool {s : State} (h : ¬ 3 ≤ s.thermalCode) : s.parkTrip =
    if s.blk.parked then ({ s with blk := { s.blk with parked := false } } : State).xoffAll else s :=
  if_neg h

/-- Park and trip take no sample. -/
theorem State.parkTrip_sensors (s : State) : s.parkTrip.fawn.sensors = s.fawn.sensors := by
  by_cases hcode : 3 ≤ s.thermalCode
  · rw [State.parkTrip_of_hot hcode]
    split <;> simp [State.heldHot_sensors]
  · rw [State.parkTrip_of_cool hcode]
    split <;> simp

/-- From code 3 on the block is parked, below it is not. -/
theorem State.parkTrip_parked (s : State) : s.parkTrip.blk.parked = decide (3 ≤ s.thermalCode) := by
  by_cases hcode : 3 ≤ s.thermalCode
  · rw [State.parkTrip_of_hot hcode, decide_eq_true hcode]
    split <;> simp [State.heldHot_parked]
  · rw [State.parkTrip_of_cool hcode, decide_eq_false hcode]
    split
    · simp
    next hparked => exact eq_false_of_ne_true hparked

theorem State.parkTrip_parked_iff_code (s : State) : s.parkTrip.blk.parked = decide (3 ≤ s.parkTrip.thermalCode) := by
  rw [State.thermalCode_congr (State.parkTrip_sensors s), State.parkTrip_parked]

/-- A sample, in range or not, ends with park and trip evaluated. -/
theorem State.thermalSample_eq_parkTrip (s : State) (k : Nat) (v : Int) : ∃ u : State, s.thermalSample k v = u.parkTrip := by
  unfold State.thermalSample
  dsimp only
  split
  · exact ⟨_, rfl⟩
  · exact ⟨_, rfl⟩

/-- Settles O60: the park is the first term of `State.gateClosed`, and every sample ends with `State.parkTrip`. -/
theorem parkHoldsTheClass : Obligations.ParkHoldsTheClass := by
  unfold Obligations.ParkHoldsTheClass
  refine ⟨?_, ?_⟩
  · intro s p sl tine hparked
    simp [State.gateClosed, hparked]
  · intro s k v hpower
    obtain ⟨u, hu⟩ := State.thermalSample_eq_parkTrip s k.toNat v.toInt
    have hexec : exec (.thermalSample k v) s = .next u.parkTrip := by
      rw [← hu]
      exact congrArg Host.Outcome.next (if_neg hpower)
    exact ⟨_, hexec, State.parkTrip_parked_iff_code u⟩

end Sys2Proof.Machine
end

section
/-! What the way to memory, and the eviction of a line from a home, leave of the front of the block: its ports, the requests in flight
and those that are held. -/

namespace Sys2Proof.Machine

/-- What the answer to a request reads, and the requests that are not answered: the clock and the ports, the tags of the tiles, the
requests in flight and the held ones. -/
structure Desk where
  blk : Blk
  ports : Map PortSt
  tiles : Map TileSt
  held : List HeldReq
  txns : List Txn

/-- `Desk` of a state. -/
def State.desk (s : State) : Desk := { blk := s.blk, ports := s.ports, tiles := s.tiles, held := s.held, txns := s.txns }

@[simp] theorem State.desk_ite {c : Prop} [Decidable c] (a b : State) :
    (if c then a else b).desk = if c then a.desk else b.desk := apply_ite _ _ _ _

@[simp] theorem foldl_desk {α : Type} {f : State → α → State} (h : ∀ s a, (f s a).desk = s.desk) (l : List α) (s : State) :
    (l.foldl f s).desk = s.desk := foldl_keeps State.desk h l s

/-! ### Counters and entries -/

@[simp] theorem State.setMp_desk (s : State) (p : Nat) (m : MemPort) : (s.setMp p m).desk = s.desk := rfl
@[simp] theorem State.setHome_desk (s : State) (h : Nat) (x : HomeSt) : (s.setHome h x).desk = s.desk := rfl
@[simp] theorem State.setGuard_desk (s : State) (g : GuardOp) : (s.setGuard g).desk = s.desk := rfl
@[simp] theorem State.useFree_desk (s : State) : s.useFree.desk = s.desk := rfl
@[simp] theorem State.emit_desk (s : State) (o : Output) : (s.emit o).desk = s.desk := rfl
@[simp] theorem State.count_desk (s : State) (sl k n : Nat) : (s.count sl k n).desk = s.desk := rfl
@[simp] theorem State.note_desk (s : State) (u ev : Nat) (sl : Option Nat) (n : Nat) : (s.note u ev sl n).desk = s.desk := rfl

@[simp] theorem State.raise_desk (s : State) (u kind cls subType subj sl fn : Nat) :
    (s.raise u kind cls subType subj sl fn).desk = s.desk := by
  rw [State.raise_eq]
  rfl

@[simp] theorem State.use_desk (s : State) (x : Option Nat) (rd wr hsl job : Nat) : (s.use x rd wr hsl job).desk = s.desk := by
  unfold State.use
  split <;> rfl

@[simp] theorem State.tineUses_desk (s : State) (tine : Option Nat) (i : Nat) : (s.tineUses tine i).desk = s.desk := by
  unfold State.tineUses
  repeat' split
  all_goals rfl

/-! ### The memory ports -/

@[simp] theorem State.memPut_desk (s : State) (p tag : Nat) (r : MemReq) : (s.memPut p tag r).desk = s.desk := by
  unfold State.memPut
  dsimp only
  rw [State.emit_desk, State.note_desk]
  split
  · rfl
  · rw [State.count_desk]
    exact State.tineUses_desk ..

@[simp] theorem State.memAsk_desk (s : State) (p : Nat) (r : MemReq) : (s.memAsk p r).desk = s.desk := by
  unfold State.memAsk
  split <;> simp

@[simp] theorem State.guardRead_desk (s : State) (g : GuardOp) (m step : Nat) : (s.guardRead g m step).desk = s.desk :=
  State.memAsk_desk ..

@[simp] theorem State.guardWrite_desk (s : State) (g : GuardOp) (m step : Nat) (c : Sector) (hi : BitVec 32) :
    (s.guardWrite g m step c hi).desk = s.desk :=
  State.memAsk_desk ..

/-! ### Guarded writes (07 R238) -/

@[simp] theorem State.toReconstruct_desk (s : State) (g : GuardOp) : (s.toReconstruct g).desk = s.desk := by
  unfold State.toReconstruct
  dsimp only
  rw [foldl_desk fun s m => State.guardRead_desk ..]
  rfl

@[simp] theorem State.fullStart_desk (s : State) (g : GuardOp) : (s.fullStart g).desk = s.desk := by
  unfold State.fullStart
  dsimp only
  rw [foldl_desk fun s x => State.guardWrite_desk .., State.guardWrite_desk, foldl_desk fun s x => State.setGuard_desk ..]
  rfl

@[simp] theorem State.guardStart_desk (s : State) (g : GuardOp) : (s.guardStart g).desk = s.desk := by
  unfold State.guardStart
  dsimp only
  repeat' split
  all_goals simp

@[simp] theorem State.grantLocksN_desk (n : Nat) (s : State) (q : Nat) : (s.grantLocksN n q).desk = s.desk := by
  induction n generalizing s with
  | zero => rfl
  | succ n ih =>
    unfold State.grantLocksN
    dsimp only
    repeat' split
    all_goals simp [ih]

@[simp] theorem State.guardBegin_desk (s : State) (g : GuardOp) : (s.guardBegin g).desk = s.desk :=
  State.grantLocksN_desk ..

/-! ### Write-backs and ways (05 R152, R154) -/

@[simp] theorem State.raiseRetired_desk (s : State) (p key : Nat) : (s.raiseRetired p key).desk = s.desk := by
  unfold State.raiseRetired
  split <;> exact State.raise_desk ..

theorem State.memWrite_desk (s : State) (line mask key sl tc : Nat) (internal : Bool) (plain : Line) (poison : Nat)
    (pur : MPurpose) (job : Option Nat) : (s.memWrite line mask key sl tc internal plain poison pur job).1.desk = s.desk := by
  unfold State.memWrite
  dsimp only
  repeat' split
  · exact State.raiseRetired_desk ..
  · exact foldl_desk (fun u _ => State.guardBegin_desk u.fresh.2 _) _ s
  · rfl
  · exact State.memAsk_desk ..
  · exact State.memAsk_desk ..

@[simp] theorem State.mirrorDrop_desk (s : State) (h line : Nat) : (s.mirrorDrop h line).desk = s.desk := by
  unfold State.mirrorDrop
  split <;> rfl

@[simp] theorem State.wbPush_desk (s : State) (h line sl key mask poison : Nat) (data : Line) (job : Option Nat) :
    (s.wbPush h line sl key mask poison data job).desk = s.desk := by
  unfold State.wbPush
  dsimp only
  split
  · rfl
  · split <;> simp [State.memWrite_desk]

@[simp] theorem State.cleanLine_desk (s : State) (h k : Nat) : (s.cleanLine h k).desk = s.desk := by
  unfold State.cleanLine
  split
  · dsimp only
    split
    · exact State.wbPush_desk ..
    · rfl
  · rfl

@[simp] theorem State.evictWay_desk (s : State) (h k : Nat) : (s.evictWay h k).desk = s.desk :=
  State.cleanLine_desk s h k

/-- Giving a line a way leaves the desk, whatever the line that gives way. -/
theorem State.desk_of_allocate {s u : State} {h line sl key poison k : Nat} {data : Line} {force : Bool}
    (ha : s.allocate h line sl key poison data force = some (u, k)) : u.desk = s.desk := by
  unfold State.allocate at ha
  split at ha
  · cases ha
  split at ha
  · cases ha
  · cases ha
    exact State.evictWay_desk ..

end Sys2Proof.Machine
end

section
/-! A RD_ONCE of a line that its home has and no tile holds (05 R162): how the home takes it, and how it is answered. -/

namespace Sys2Proof.Machine

section

variable {s : State} {t : Txn} {p tag : Nat} {d : Line}

/-- A RD_ONCE of a tile for a line that is not transcoded, with no data yet. -/
structure Txn.IsReadOnce (t : Txn) (p tag : Nat) : Prop where
  origin : t.origin = .tile p tag
  op : t.op = .rdOnce
  fmt : t.fmt = 0
  internal : t.internal = false
  hostPort : t.hostPort = false
  checked : t.checked = false
  parBad : t.parBad = false
  tine : t.tine = none
  waitLine : t.waitLine = none
  got : t.got = none
  poison : t.poison = 0

theorem Txn.IsReadOnce.evicts (ht : t.IsReadOnce p tag) : t.evicts = false := by
  simp [Txn.evicts, ht.op]

/-! ### The home takes it (05 R167) -/

/-- What a home of line `line` takes a RD_ONCE for: to make `c` of it, which waits for its turn. -/
structure Txn.Entered (c : Txn) (p tag home line : Nat) : Prop where
  once : c.IsReadOnce p tag
  home : c.home = home
  line : c.line = line
  phase : c.phase = .behind

theorem State.admitTxn_of_readOnce {fn n h : Nat} (ht : t.IsReadOnce p tag) (hh : HomeTakes s t.line t.slice fn .rd false n h)
    (hfmt : (s.ownAt (lineGran t.line)).fmt = 0) :
    ∃ (y : Tally) (c : Txn), s.admitTxn t (some fn) = (s.tallied y).settle ∧ y.tiles = s.tiles ∧ y.txns = [c] ∧
      c.Entered p tag h t.line := by
  obtain ⟨hchip, hname, hphys, hgate, hwin, hlost, hmove, hlmove, htxns, hown, hretry, hheld, hup, hrole⟩ := hh
  have hneed : t.op.need = .rd := by
    rw [ht.op]
    rfl
  have hgateOf : s.gateOf t (some fn) = none := by
    simp only [State.gateOf, hchip, ht.evicts, ht.internal, ht.hostPort, bne_self_eq_false, Bool.false_and, Bool.false_eq_true, if_false,
      hneed]
    exact hgate
  have hbarred : s.barredAt t = none := by
    simp [State.barredAt, hwin, ht.parBad, hlost]
  simp only [State.admitTxn, hname, hgateOf, hbarred, hphys, hchip, hlmove, ht.evicts, htxns, hretry, ht.internal, ht.origin, ht.op,
    ht.tine, bne_self_eq_false, Bool.and_false, Bool.false_and, Bool.not_false, Bool.false_eq_true, if_false, List.any_nil,
    List.filter_nil, List.length_nil, List.find?_nil, Option.isSome_none, Bool.true_and]
  rw [if_neg (by decide)]
  have hcounts := ((s.charge_counts (instHomeRd h) t.slice t.tc 1).trans (State.note_counts _ (hslUnit h) 0x01 (some t.slice) 1)).trans
    (State.use_counts _ t.ctx 0 0 1 0)
  refine ⟨_, _, congrArg State.settle (hcounts.enter ht.checked), hcounts.tiles, by rw [htxns]; exact List.nil_append _, ?_⟩
  obtain ⟨-, -, htfmt, -, hhost, hc, hp, -, hw, hg, hpo⟩ := ht
  have hfmt' : (if t.fmt = 0 then (s.ownAt (lineGran t.line)).fmt else t.fmt) = 0 := by
    rw [if_pos htfmt, hfmt]
  exact ⟨⟨rfl, rfl, hfmt', rfl, hhost, hc, hp, rfl, hw, hg, hpo⟩, rfl, rfl, rfl⟩

theorem State.accept_of_readOnce {fn n h : Nat} (ht : t.IsReadOnce p tag) (hh : HomeTakes s t.line t.slice fn .rd false n h)
    (hfmt : (s.ownAt (lineGran t.line)).fmt = 0) :
    ∃ (y : Tally) (c : Txn), s.accept t (some fn) = (s.tallied y).settle ∧ y.tiles = s.tiles ∧ y.txns = [c] ∧
      c.Entered p tag h t.line := by
  obtain ⟨lvl, aged, hstamp⟩ : ∃ lvl aged, s.stamp t = { t with lvl := lvl, aged := aged } := ⟨_, _, s.stamp_eq ht.internal⟩
  have hstamped : Txn.IsReadOnce { t with lvl := lvl, aged := aged } p tag := by
    obtain ⟨ho, hop, htfmt, hi, hhost, hc, hp, htine, hw, hg, hpo⟩ := ht
    exact ⟨ho, hop, htfmt, hi, hhost, hc, hp, htine, hw, hg, hpo⟩
  have hmiss : s.tableMiss { t with lvl := lvl, aged := aged } = none := State.tableMiss_of_homeTakes hh
  simp only [State.accept, hstamp, hmiss]
  exact State.admitTxn_of_readOnce hstamped hh hfmt

/-! ### Its turn: it needs no snoop (05 R162) -/

theorem State.start_of_readOnce (ht : t.IsReadOnce p tag) (htxns : s.txns = [t]) (hchip : lineChip t.line = s.chip)
    (hfilt : s.filt t.home t.line = {}) : s.start t = { s with txns := [t.begun] } := by
  have hroom : s.filterRoom t = none := by
    simp [State.filterRoom, ht.op]
  have hplan : s.plan t {} = [] := by
    simp [State.plan, FiltEntry.ownerAgent, ht.op]
  have hset : s.setTxn t.begun = { s with txns := [t.begun] } := State.setTxn_of_txns htxns _ rfl
  unfold State.start
  split
  next h => cases ht.op.symm.trans h
  next h => cases ht.op.symm.trans h
  next =>
    simp only [hroom, hchip, hfilt, hplan, bne_self_eq_false, Bool.false_and, Bool.false_eq_true, if_false, List.foldl_nil]
    exact hset

theorem State.ready_of_entered {h line : Nat} (ht : t.Entered p tag h line) (htxns : s.txns = [t])
    (hheld : (s.home h).heldSets.contains (fsetOf line) = false) : s.ready t = true := by
  obtain ⟨honce, rfl, rfl, hphase⟩ := ht
  have hwaits : s.evictWaits t = false := by rw [State.evictWaits, honce.evicts, Bool.false_and]
  unfold State.ready
  rw [hphase]
  simp [honce.waitLine, hheld, hwaits, htxns, -List.contains_eq_mem]

/-- A RD_ONCE that its home has taken is begun, and goes on with what the home has of the line. -/
theorem State.settle_of_entered {h line : Nat} (ht : t.Entered p tag h line) (htxns : s.txns = [t])
    (hchip : lineChip line = s.chip) (hfilt : s.filt h line = {})
    (hheld : (s.home h).heldSets.contains (fsetOf line) = false) :
    s.settle = State.settleN 18 (State.snooped { s with txns := [t.begun] } t.begun) := by
  have hfirst := State.settleN_of_ready htxns (State.ready_of_entered ht htxns hheld) 19
  obtain ⟨honce, rfl, rfl, hphase⟩ := ht
  have hmove : s.move t = { s with txns := [t.begun] } := by
    rw [State.move, hphase]
    exact State.start_of_readOnce honce htxns hchip hfilt
  have hready : State.ready { s with txns := [t.begun] } t.begun = true := by
    change (t.begun.snoops.isEmpty && t.begun.waitLine.isNone) = true
    rw [show t.begun.waitLine = none from honce.waitLine]
    rfl
  have hsecond := State.settleN_of_ready (u := { s with txns := [t.begun] }) rfl hready 18
  rw [State.settle, show 4 * s.txns.length + 16 = 19 + 1 by rw [htxns]; rfl, hfirst, hmove]
  exact hsecond

/-! ### Its answer -/

theorem Txn.IsReadOnce.transcodes (ht : t.IsReadOnce p tag) : t.transcodes = false := by
  simp [Txn.transcodes, ht.fmt]

theorem Txn.IsReadOnce.grantOf (ht : t.IsReadOnce p tag) (e : FiltEntry) : grantOf t e 0 = (0, e) := by
  simp [Machine.grantOf, agentOf, ht.origin, ht.op]

/-- The home fills the line of a RD_ONCE in or bypasses it (05 R154), and answers it: the desk and the read are what they were. -/
theorem State.readDone_of_readOnce {v : State} {mem : Bool} (ht : t.IsReadOnce p tag) (h : s.readDone t d 0 0 mem = v) :
    ∃ (u : State) (c : Txn), v = u.finish c .ok 0 [d] 0 ∧ u.desk = s.desk ∧ c.origin = .tile p tag ∧ c.id = t.id := by
  unfold State.readDone at h
  extract_lets remote need bad moving fill bypass filled at h
  have hbad : bad = false := by
    unfold bad
    rw [Nat.zero_and]
    rfl
  have hdesk : ∀ w k, filled = some (w, k) → w.desk = s.desk := fun _ _ hw => State.desk_of_allocate (of_ite_none' hw)
  clear_value filled
  split at h
  next u c hfilled =>
    have hcase : u.desk = s.desk ∧ c.IsReadOnce p tag ∧ c.id = t.id := by
      split at hfilled
      next w k =>
        obtain ⟨rfl, rfl⟩ := Prod.mk.inj hfilled
        exact ⟨hdesk w k rfl, ht, rfl⟩
      next =>
        obtain ⟨rfl, rfl⟩ := Prod.mk.inj hfilled
        split
        · exact ⟨rfl, ⟨ht.origin, ht.op, ht.fmt, ht.internal, ht.hostPort, ht.checked, ht.parBad, ht.tine, ht.waitLine, ht.got,
            ht.poison⟩, rfl⟩
        · exact ⟨rfl, ht, rfl⟩
    obtain ⟨hu, hc, hid⟩ := hcase
    have hnoted : ((if c.bypassed then u.note (hslUnit c.home) 0x04 (some c.slice) 1 else u).use c.ctx 0 0 1 0).desk = s.desk := by
      rw [State.use_desk, State.desk_ite, State.note_desk, ite_self, hu]
    simp only [hbad, hc.transcodes, hc.grantOf, hc.op, Bool.false_eq_true, if_false, if_true] at h
    refine ⟨_, c, ?_, hnoted, hc.origin, hid⟩
    rw [← h]
    simp

/-- A RD_ONCE whose snoops are over is answered with what the home has. -/
theorem State.snooped_of_readOnce (ht : t.IsReadOnce p tag) (hforeign : t.foreign = false) (hchip : lineChip t.line = s.chip)
    (hup : s.comingUp t.home = false) (hrole : (s.home t.home).role ≠ 3) (hdata : s.homeData t.home t.line = some (d, 0, 3)) :
    ∃ (u : State) (c : Txn), s.snooped t = u.finish c .ok 0 [d] 0 ∧ u.desk = s.desk ∧ c.origin = .tile p tag ∧ c.id = t.id := by
  have hwait : s.dirtyWait t = (s, none) := by
    simp [State.dirtyWait, ht.got]
  have hturn : s.snooped t =
      (s.note (hslUnit t.home) 0x02 (some t.slice) 1).readDone t d 0 0 ((s.home t.home).way? t.line).isNone := by
    unfold State.snooped
    simp [hwait, ht.poison, ht.op, ht.got, hforeign, hchip, hup, hrole, hdata]
  obtain ⟨u, c, hdone, hdesk, ho, hid⟩ := State.readDone_of_readOnce ht hturn.symm
  exact ⟨u, c, hdone, hdesk.trans (State.note_desk ..), ho, hid⟩

/-! ### What an answer leaves of the held requests -/

theorem State.countDone_held {c : Txn} (ho : c.origin = .tile p tag) (st : Status) : (s.countDone c st).held = s.held := by
  simp only [State.countDone, ho]
  split
  · split <;> rfl
  · rfl

theorem State.use_held (s : State) (x : Option Nat) (rd wr hsl job : Nat) : (s.use x rd wr hsl job).held = s.held :=
  congrArg Desk.held (State.use_desk s x rd wr hsl job)

theorem State.reserve_held (s : State) (h : Nat) : (s.reserve h).held = s.held := by
  unfold State.reserve
  dsimp only
  split <;> rfl

theorem State.answer_held {c : Txn} (ho : c.origin = .tile p tag) (d : Line) :
    (s.answer c .ok 0 [d] 0).held = s.held := by
  simp only [State.answer, ho, State.retryNote, reduceCtorEq, if_false, if_true, State.tileRsps_held, State.use_held,
    State.countDone_held ho]

theorem State.finish_held {c : Txn} (ho : c.origin = .tile p tag) (d : Line) : (s.finish c .ok 0 [d] 0).held = s.held := by
  unfold State.finish
  dsimp only
  rw [State.answer_held ho]
  split
  · rw [State.reserve_held]
    split <;> rfl
  · split <;> rfl

/-- A RD_ONCE of an idle home that has the line, and whose filter does not list it, is answered at once; what is held stays held. -/
theorem State.accept_answers_readOnce {fn n h : Nat} (ht : t.IsReadOnce p tag) (hh : HomeTakes s t.line t.slice fn .rd false n h)
    (hfmt : (s.ownAt (lineGran t.line)).fmt = 0) (hfilt : s.filt h t.line = {}) (hdata : s.homeData h t.line = some (d, 0, 3))
    (hup : s.portUp p = true) (htag : tag ∈ (s.tile p).tags) :
    .tileRsp p tag .ok 0 d ∈ (s.accept t (some fn)).out ∧ (s.accept t (some fn)).held = s.held := by
  obtain ⟨y, c, haccept, htiles, htxns, hentered⟩ := State.accept_of_readOnce ht hh hfmt
  obtain ⟨hchip, -, -, -, -, -, -, -, -, -, -, hheld, hcoming, hrole⟩ := hh
  have hsettle := State.settle_of_entered (s := s.tallied y) hentered htxns hchip hfilt hheld
  obtain ⟨honce, hhome, hline, -⟩ := hentered
  rw [← hhome] at hcoming hrole hdata
  rw [← hline] at hchip hdata
  have hbegun : c.begun.IsReadOnce p tag := by
    obtain ⟨ho, hop, hcfmt, hi, hhost, hc, hpar, htine, hw, hg, hpo⟩ := honce
    exact ⟨ho, hop, hcfmt, hi, hhost, hc, hpar, htine, hw, hg, hpo⟩
  obtain ⟨u, c', hfinish, hdesk, ho, hid⟩ := State.snooped_of_readOnce (s := { s.tallied y with txns := [c.begun] }) hbegun rfl hchip
    hcoming hrole hdata
  have hports : u.ports = s.ports := congrArg Desk.ports hdesk
  have hblk : u.blk = s.blk := congrArg Desk.blk hdesk
  have htile : u.tile p = s.tile p := by
    rw [State.tile, State.tile, show u.tiles = s.tiles from (congrArg Desk.tiles hdesk).trans htiles]
  have hup' : u.portUp p = true := by
    rw [← hup, State.portUp, State.portUp, State.port, State.port, hports, hblk]
  obtain ⟨hout, hnotxns, -⟩ := State.finish_answered (d := d) ho hup' (htile ▸ htag) (congrArg Desk.txns hdesk) hid.symm
  rw [haccept, hsettle, hfinish, State.settleN_of_no_txns hnotxns]
  exact ⟨hout, (State.finish_held ho d).trans (congrArg Desk.held hdesk)⟩

end

end Sys2Proof.Machine
end

section
/-! The regulator (06 R192, R199, R201, R209, R212): throttles, a request held for hold_age, targets that are missed, implausible
feedback, and the staged values. -/

namespace Sys2Proof.Machine

section

variable {s : State}

/-! ### Throttles (06 R201) -/

theorem State.openGates_of_held_nil (h : s.held = []) : s.openGates = s := by
  rw [State.openGates, h]
  exact ite_self s

/-- A queue level is noted and changes nothing else of its port. -/
theorem State.sampleQ_mp (s : State) (p q : Nat) :
    (s.sampleQ p q).mp p = { s.mp p with qlevel := q, qMax := max (s.mp p).qMax q, qMin := min (s.mp p).qMin q } :=
  State.setMp_mp s p _

theorem State.sampleQ_throttle (s : State) (p q : Nat) : ((s.sampleQ p q).mp p).throttle = (s.mp p).throttle := by
  rw [State.sampleQ_mp]

/-- The mode of a port does not follow its queue level. -/
theorem State.sampleQ_mpMode (s : State) (p q : Nat) : (s.sampleQ p q).mpMode p = s.mpMode p := by
  have hcause : (s.sampleQ p q).holdCause p = s.holdCause p := by
    unfold State.holdCause
    rw [State.sampleQ_mp]
    rfl
  unfold State.mpMode
  rw [hcause]
  rfl

theorem State.throttleRise_of_entered {p q : Nat} (hheld : s.held = []) (hmode : s.mpMode p = 0)
    (h : (s.mp p).throttle < throttleOf q) : s.throttleRise p q =
      (s.sampleQ p q).setMp p { (s.sampleQ p q).mp p with throttle := throttleOf q, limitStage := 0, limitUsed := 0 } := by
  have hgoes : ((s.sampleQ p q).mpMode p != 0 || decide (throttleOf q ≤ ((s.sampleQ p q).mp p).throttle)) = false := by
    rw [State.sampleQ_mpMode, State.sampleQ_throttle, hmode, decide_eq_false (Nat.not_le.mpr h)]
    rfl
  simp only [State.throttleRise, hgoes, Bool.false_eq_true, if_false]
  exact State.openGates_of_held_nil hheld

theorem State.throttleFall_of_left {p q n : Nat} (hheld : s.held = []) (hmode : s.mpMode p = 0)
    (hn : (s.mp p).throttle = n + 1) (h : q + 3 ≤ throttleEntry (n + 1)) : s.throttleFall p q =
      (s.sampleQ p q).setMp p { (s.sampleQ p q).mp p with
        throttle := n, limitStage := if n = 0 then 1 else 0, limitUsed := 0 } := by
  have hgoes : ((s.sampleQ p q).mpMode p != 0 || decide (((s.sampleQ p q).mp p).throttle = 0) ||
      decide (q + 3 > throttleEntry ((s.sampleQ p q).mp p).throttle)) = false := by
    rw [State.sampleQ_mpMode, State.sampleQ_throttle, hmode, hn, decide_eq_false (Nat.succ_ne_zero n),
      decide_eq_false (Nat.not_lt.mpr h)]
    rfl
  have hlevel : ((s.sampleQ p q).mp p).throttle - 1 = n := by
    rw [State.sampleQ_throttle, hn, Nat.add_sub_cancel]
  simp only [State.throttleFall, hgoes, Bool.false_eq_true, if_false, hlevel]
  exact State.openGates_of_held_nil hheld

/-! ### Held requests (06 R199) -/

/-- A block whose held requests have all been let go. -/
def State.unheld (s : State) : State := { s with held := [] }

/-- The only held request, a RD_ONCE of a bound port, is served once its age is hold_age: the block then differs by its counters, and
nothing is held. -/
theorem State.heldLate_of_rdOnce {port : BitVec 8} {r : TpReq} {b : Bound} {hr : HeldReq} (hheld : s.held = [hr])
    (hcmd : hr.cmd = .rdOnce port r) (hfull : s.fullHold = false) (hfatal : s.fatal = false) (hage : s.holdAge ≤ hr.age)
    (hbound : s.bound port.toNat = some b) (hlost : b.lost = false) :
    ∃ y : Tally, s.heldLate hr = (s.unheld.tallied y).serveRead port.toNat .rdOnce r b true ∧
      y.tiles = s.tiles ∧ y.txns = s.txns := by
  have hgoes : (s.fullHold || s.fatal || decide (hr.age < s.holdAge)) = false := by
    rw [hfull, hfatal, decide_eq_false (Nat.not_lt.mpr hage)]
    rfl
  have hserve : ∀ u : State, u.held = [hr] → u.unheld.bound port.toNat = some b →
      u.letGo hr = u.unheld.serveRead port.toNat .rdOnce r b true := by
    intro u hu hub
    unfold State.unheld at hub ⊢
    simp [State.letGo, State.serveHeld, State.heldTile, hu, hcmd, hub, hlost]
  refine ⟨((s.outcome (s.heldSlice hr) hr.tc 5).onReq hr.port hr.tag fun q => { q with aged := some s.blk.tick }).tally, ?_, rfl, rfl⟩
  simp only [State.heldLate, hgoes, Bool.false_eq_true, if_false]
  exact hserve _ hheld hbound

theorem State.tileTxn_isReadOnce (s : State) (port : Nat) {r : TpReq} (b : Bound) (held : Bool) (hpar : tpDparOk r = true) :
    (s.tileTxn port r b held false r.addr.toNat .rdOnce).IsReadOnce port r.tag.toNat := by
  have hparBad : (s.tileTxn port r b held false r.addr.toNat .rdOnce).parBad = false := by
    change (!tpDparOk r) = false
    rw [hpar]
    rfl
  exact ⟨rfl, rfl, rfl, rfl, rfl, rfl, hparBad, rfl, rfl, rfl, rfl⟩

/-- A RD_ONCE that is served, of a line that an idle home of this chip has, is answered with the line. -/
theorem State.serveRead_answers_readOnce {port n h : Nat} {r : TpReq} {b : Bound} {d : Line} (held : Bool)
    (hup : s.portUp port = true) (htag : (s.tile port).tags.contains r.tag.toNat = true) (hpar : tpDparOk r = true)
    (hh : HomeTakes s (lineOf r.addr.toNat) b.slice b.fn .rd false n h) (hfilt : s.filt h (lineOf r.addr.toNat) = {})
    (hdata : s.homeData h (lineOf r.addr.toNat) = some (d, 0, 3)) (hfmt : (s.ownAt (lineGran (lineOf r.addr.toNat))).fmt = 0) :
    .tileRsp port r.tag.toNat .ok 0 d ∈ (s.serveRead port .rdOnce r b held).out ∧
      (s.serveRead port .rdOnce r b held).held = s.held := by
  have hchip : chipOf r.addr.toNat = s.chip := (chipOf_eq_lineChip _).trans hh.1
  have hserve : s.serveRead port .rdOnce r b held = s.accept (s.tileTxn port r b held false r.addr.toNat .rdOnce) (some b.fn) := by
    simp only [State.serveRead, hchip, decide_true, Bool.true_or, if_true]
  rw [hserve]
  exact State.accept_answers_readOnce (s.tileTxn_isReadOnce port b held hpar) hh hfmt hfilt hdata hup (List.contains_iff_mem.mp htag)

/-- HOLD_AGE_EXPIRY names the only held request. -/
theorem exec_holdAgeExpiry_of_held {port : BitVec 8} {tag : BitVec 10} {hr : HeldReq} (hheld : s.held = [hr])
    (hport : hr.port = port.toNat) (htag : hr.tag = tag.toNat) :
    exec (.holdAgeExpiry (port.setWidth 9) tag) s = .next (s.heldLate hr) := by
  have hwide : (port.setWidth 9).toNat = port.toNat := BitVec.toNat_setWidth_of_le (by decide)
  have hfound : (s.held.find? fun x => x.port == (port.setWidth 9).toNat && x.tag == tag.toNat) = some hr := by
    simp [hheld, hport, htag, hwide]
  simp only [exec, execHoldAgeExpiry, hfound]

/-! ### Targets and feedback (06 R192, R209) -/

/-- A state in which a class of a slice is noted as missing its target. -/
def State.unmetAt (s : State) (k : Nat) : State :=
  { s with qos := { s.qos with measure := tset {} s.qos.measure k { tget {} s.qos.measure k with unmet := true } } }

theorem State.unmetAt_unmet (s : State) (k : Nat) : (tget {} (s.unmetAt k).qos.measure k).unmet = true := by
  rw [State.unmetAt, tget_tset_self]

theorem State.targetUnmet_of_missed {sl c : Nat}
    (hhigh : ((List.range 8).any fun d => decide (16 ≤ (tget {} s.qos.ramps (rampKey d sl c)).high)) = true)
    (hmet : (tget {} s.qos.measure (sl * 4 + c)).unmet = false) :
    s.targetUnmet sl c = (s.unmetAt (sl * 4 + c)).raise qosUnit 0xC0 1 0 0 sl 0 := by
  simp only [State.targetUnmet, ge_iff_le, hhigh, hmet, Bool.not_false, Bool.and_self, if_true]
  rfl

theorem State.implausible_of_badTicks {p : Nat} (hfb : (s.mp p).implausible = false)
    (hbad : 16 ≤ (s.mp p).rttBadTicks ∨ 16 ≤ (s.mp p).qBadTicks) : s.implausible p =
      (s.setMp p { s.mp p with implausible := true }).raise qosUnit 0xC2 1 2 (mpPort p) 0 0 := by
  simp only [State.implausible, hfb, ge_iff_le, Bool.not_false, Bool.true_and, Bool.or_eq_true, decide_eq_true_eq, if_pos hbad]

theorem State.raise_mp (s : State) (u kind cls subType subj sl fn p : Nat) :
    (s.raise u kind cls subType subj sl fn).mp p = s.mp p := by
  rw [State.mp, State.mp, State.raise_mem]

theorem State.restoreFb_of_goodTicks {p : Nat} (hrestore : (s.mp p).restore = true) (hgood : 16 ≤ (s.mp p).goodTicks) :
    s.restoreFb p = s.setMp p { s.mp p with restore := false, implausible := false } := by
  simp [State.restoreFb, hrestore, Nat.not_lt.mpr hgood]

/-! ### Staged values (06 R212) -/

/-- Nothing is unstaged for no slice. -/
theorem State.unstage_none (s : State) : s.unstage (fun _ => false) = s := by
  simp [State.unstage]

/-- The staged values in force, each entry over the one it replaces, and nothing staged or armed any more (06 R212). -/
def Qos.applied (q : Qos) (now result : Nat) : Qos :=
  { q with classes := q.classesStaged.foldl (fun m x => tset {} m x.1 x.2) q.classes,
           slices := q.slicesStaged.foldl (fun m x => tset {} m x.1 x.2) q.slices,
           classesStaged := [], slicesStaged := [], armed := false, armApplyTick := now, armResult := result }

/-- A state with the staged values in force. -/
def State.qosApplied (s : State) (result : Nat) : State := { s with qos := s.qos.applied s.tick32 result }

/-- Armed values that are due at a boundary without a commit are in force; the result says whether an instance is oversubscribed. -/
theorem State.qosApply_of_due (harmed : s.qos.armed = true) (hdue : s.qos.armTick ≤ s.blk.tick)
    (hcommit : s.img.lastCommit ≠ s.blk.tick) :
    ∃ result, (result = 1 ∨ result = 3) ∧ s.qosApply = (s.qosApplied result).mgIrq 0x07 := by
  have hgoes : (!s.qos.armed || decide (s.blk.tick < s.qos.armTick)) = false := by
    rw [harmed, decide_eq_false (Nat.not_lt.mpr hdue)]
    rfl
  have hsame : (s.img.lastCommit == s.blk.tick) = false := beq_eq_false_iff_ne.mpr hcommit
  have hnone : ∀ {α : Type} (l : List α), (l.any fun _ => false) = false := fun l => by simp
  have hresult : ∀ c : Bool, (if c then 3 else 1) = 1 ∨ (if c then 3 else 1) = 3 := by decide
  refine ⟨_, hresult (regulated.any (s.qosApplied s.qos.armResult).oversubscribed), ?_⟩
  simp only [State.qosApply, hgoes, hsame, Bool.false_and, Bool.false_eq_true, if_false, State.unstage_none, hnone, Bool.or_self]
  rfl

end

/-- Settles O31. How long a queue level stood is not judged (log entry 92), the ticks of hold_age are counted by log entry 52, and the
good ticks of a restore by log entry 94; the served RD_ONCE is `State.serveRead_answers_readOnce`. -/
theorem regulatorCommands : Obligations.RegulatorCommands := by
  unfold Obligations.RegulatorCommands
  intro s
  refine ⟨?_, ?_, ?_, ?_, ?_, ?_, ?_, ?_⟩
  · intro p q hheld hmode
    refine ⟨fun h => ⟨_, rfl, ?_⟩, fun n hn h => ⟨_, rfl, ?_⟩⟩
    · rw [State.throttleRise_of_entered hheld hmode h, State.setMp_mp]
      exact ⟨rfl, rfl⟩
    · rw [State.throttleFall_of_left hheld hmode hn h, State.setMp_mp]
      exact ⟨rfl, rfl⟩
  · intro port r hr b n h d hheld hport htag hcmd hfull hfatal hage hup hout hbound hlost hpar hh hfilt hdata hfmt
    obtain ⟨y, hserved, htiles, htxns⟩ := State.heldLate_of_rdOnce hheld hcmd hfull hfatal hage hbound hlost
    have htile : (s.unheld.tallied y).tile port.toNat = s.tile port.toNat := by
      rw [State.tile, State.tile, ← htiles]
      rfl
    have hidle : HomeTakes s.unheld (lineOf r.addr.toNat) b.slice b.fn .rd false n h := hh
    obtain ⟨hrsp, hnone⟩ := State.serveRead_answers_readOnce (s := s.unheld.tallied y) true hup (htile ▸ hout) hpar
      (homeTakes_tallied hidle htxns) hfilt hdata hfmt
    rw [← hserved] at hrsp hnone
    exact ⟨_, exec_holdAgeExpiry_of_held hheld hport htag, hnone, hrsp⟩
  · intro sl c hhigh hmet
    refine ⟨_, rfl, ?_⟩
    rw [State.targetUnmet_of_missed hhigh hmet, State.raise_qos, State.raise_own]
    exact ⟨State.unmetAt_unmet .., rfl⟩
  · intro p hfb hbad
    refine ⟨_, rfl, ?_⟩
    rw [State.implausible_of_badTicks hfb hbad, State.raise_mp, State.setMp_mp]
  · intro p hrestore _ hgood
    refine ⟨_, rfl, ?_⟩
    rw [State.restoreFb_of_goodTicks hrestore hgood, State.setMp_mp]
  · intro hopen hmirror
    refine ⟨_, rfl, ?_⟩
    rw [State.mgWrite_of_open _ hopen, State.mgRsp_qos, State.qosArm, hmirror, if_neg Bool.false_ne_true]
  · intro hopen
    refine ⟨_, rfl, ?_⟩
    rw [State.mgWrite_of_open _ hopen, State.mgRsp_qos]
    rfl
  · intro harmed hdue hcommit
    obtain ⟨result, hresult, happly⟩ := State.qosApply_of_due harmed hdue hcommit
    refine ⟨_, congrArg Host.Outcome.next happly, ?_⟩
    rw [State.mgIrq_qos]
    exact ⟨rfl, rfl, rfl, rfl, rfl, hresult, State.emitAt_out_of_drives (s := s.qosApplied result) (o := .mgIrq 7)⟩

end Sys2Proof.Machine
end

section
/-! A CLOSE under the tag of the OPEN that it meets (08 R266, R271). -/

namespace Sys2Proof.Machine

section

variable {s : State} {port op : Nat} {r : TpReq} {b : Bound}

/-- A tag that is not outstanding is never answered (02 R56). -/
theorem State.tileRsp_of_not_outstanding {tag : Nat} (h : (s.tile port).tags.contains tag = false) (st : Status) (granted : Nat)
    (data : Line) : s.tileRsp port tag st granted data = s := by
  simp only [State.tileRsp, State.tileRsps, h, Bool.not_false, if_true]

theorem State.tileRsp_frees_tag (s : State) (port tag : Nat) (st : Status) (granted : Nat) (data : Line) :
    ((s.tileRsp port tag st granted data).tile port).tags.contains tag = false := by
  unfold State.tileRsp State.tileRsps
  dsimp only
  split
  next h => simpa using h
  next => split <;> simp [State.tile]

theorem State.fencePageIrq_tiles (s : State) (i : Nat) : (s.fencePageIrq i).tiles = s.tiles := by
  unfold State.fencePageIrq
  dsimp only
  split <;> simp

theorem State.fenceErr_tiles (s : State) (i source detail : Nat) : (s.fenceErr i source detail).tiles = s.tiles := by
  unfold State.fenceErr
  dsimp only
  split <;> simp [State.fencePageIrq_tiles]

/-- An OPEN that still waits is answered as its window closes (log entry 15), which frees its tag. -/
theorem State.closeWindow_frees_tag {w tag : Nat} (hstate : (s.win w).state = 1) (horigin : (s.win w).origin = .tile port tag) :
    ((s.closeWindow w 1).tile port).tags.contains tag = false := by
  have hclose : s.closeWindow w 1 =
      ((s.setWin w { lastReason := 1 }).tileRsp port tag .denied 0 0).fenceErr (s.win w).fence 2 1 := by
    simp [State.closeWindow, hstate, horigin]
  rw [hclose, State.tile, State.fenceErr_tiles]
  exact State.tileRsp_frees_tag ..

/-- A CLOSE under the tag of the OPEN that its window still owes an answer has no answer of its own. -/
theorem State.windowClose_of_own_tag {w : Nat} {x : Window}
    (hgate : s.gate (granOf r.addr.toNat) b.slice (some b.fn) .amo false false = none)
    (hfind : s.rw.windows.find? (fun w => w.2.state != 0 && w.2.base == r.addr.toNat) = some (w, x)) (hwin : s.win w = x)
    (hfn : x.fn = b.fn) (hstate : x.state = 1) (horigin : x.origin = .tile port r.tag.toNat) :
    s.windowClose port r b = s.closeWindow w 1 := by
  subst hwin
  simp only [State.windowClose, hgate, hfind, hfn, if_true]
  exact State.tileRsp_of_not_outstanding (State.closeWindow_frees_tag hstate horigin) ..

/-- A REDUCE_WR that its port takes while the block is not parked is served: it names no line whose gate could hold it. -/
theorem State.reduceWr_of_tileTakes (h : TileTakes s port 0x18 r b) (hparked : s.blk.parked = false) (cmd : Instr) :
    s.reduceWr port r cmd = ((s.taking port 0x18 r).gated r b).serveReduce port r b := by
  have henter := State.tileEnter_of_tileTakes h rfl
  obtain ⟨-, -, -, -, -, -, -, hbound, -, -⟩ := h
  have hbound' : (s.taking port 0x18 r).bound port = some b := hbound
  have hparked' : ((s.taking port 0x18 r).gated r b).blk.parked = false := by
    rw [State.gated_eq_tallied]
    exact hparked
  have hgate : (s.taking port 0x18 r).tileGate port r cmd b none = ((s.taking port 0x18 r).gated r b, true) := by
    change (if ((s.taking port 0x18 r).gated r b).gateShut none b.slice (s.servedClass b.slice r.tc.toNat) none then _ else _) = _
    rw [State.gateShut, hparked']
    rfl
  simp only [State.reduceWr, State.tileReq, henter, hbound', hgate]

/-- A control request whose descriptor says CLOSE. -/
theorem State.serveReduce_of_close (hbe : r.be = 0) (hchip : chipOf r.addr.toNat = s.chip) (hpar : tpDparOk r = true)
    (hop : (rwCtl r.wdata).op = 2) : s.serveReduce port r b = s.windowClose port r b := by
  simp [State.serveReduce, hbe, hchip, hpar, hop]

end

/-- Window 0 at lines 4 to 7, in OPENING: its OPEN came from tile port 5 under tag 9 and is not answered yet. -/
def openingWindow : Window :=
  { state := 1, slice := 2, fn := 1, ctx := 3, count := 1, base := 4 * 128, outBase := 4 * 128, blocks := 4, origin := .tile 5 9,
    shadows := (List.range 4).map fun i => (i, clearShadow) }

/-- The context of slice 2 that tile port 5 acts for. -/
def boundOfCloser : Bound := { slot := 0, ctx := 3, fn := 1, slice := 2, lost := false }

/-- CLOSE of the window, again under tag 9, with good parity: its descriptor holds ctl_op 2 alone. -/
def closeRequest : TpReq := { tag := 9, addr := 4 * 128, tc := 1, wdata := 2, dpar := 0xFE, cpar := true }

/-- Slice 2 with its context bound to tile ports 4 to 7 and granule 0 assigned to it; window 0 is `openingWindow`, and no tag of tile
port 5 is outstanding. -/
def blockWithOpening : State :=
  { ports := [(5, { state := 1 })], bindings := [(0, { first := 4, count := 4 })], slots := [(0, { ctx := some 3 })],
    ctxs := [(3, { state := 2, slot := 0, fn := 1, slice := 2, key := 5, fencePages := 1 })],
    fences := [(0, { state := 1, armer := 3, pending := 1 })],
    own := [(0, { slice := 2, fn := 1, key := 5, gstate := 1, wr := true, amo := true })], rw := { windows := [(0, openingWindow)] } }

/-- The tile port takes the request. -/
theorem blockWithOpening_tileTakes : TileTakes blockWithOpening 5 0x18 closeRequest boundOfCloser := by
  unfold TileTakes
  decide +kernel

/-- `blockWithOpening` once tile port 5 has taken the request. -/
def closingBlock : State := (blockWithOpening.taking 5 0x18 closeRequest).gated closeRequest boundOfCloser

theorem blockWithOpening_close :
    blockWithOpening.reduceWr 5 closeRequest (.reduceClose 5 closeRequest) = closingBlock.closeWindow 0 1 := by
  rw [State.reduceWr_of_tileTakes blockWithOpening_tileTakes rfl]
  exact (State.serveReduce_of_close rfl (by decide) (by decide +kernel) (by decide +kernel)).trans
    (State.windowClose_of_own_tag (x := openingWindow) (by decide) (by decide) (by decide) rfl rfl rfl)

/-- All that tile port 5 is sent is the answer of the OPEN. -/
theorem closingBlock_out : (closingBlock.closeWindow 0 1).out = [.tileRsp 5 9 .denied 0 0] := by
  decide +kernel

/-- Refutes O34: its clause of CLOSE leaves out that the window does not still wait to answer an OPEN under the tag of the CLOSE. In
`blockWithOpening` every hypothesis of the clause holds; closing the window answers the OPEN, and the tag is answered no more (02 R56). -/
theorem not_reduceRequests : ¬ Obligations.ReduceRequests := by
  unfold Obligations.ReduceRequests
  intro h
  obtain ⟨-, -, hclose⟩ := h blockWithOpening 5 closeRequest boundOfCloser blockWithOpening_tileTakes rfl rfl
  obtain ⟨t, ht, -, hanswer⟩ := hclose 0 openingWindow rfl (by decide) (by decide +kernel) (by decide) (by decide) (by decide) rfl
  obtain rfl := Host.Outcome.next.inj ht
  change _ ∈ (blockWithOpening.reduceWr 5 closeRequest (.reduceClose 5 closeRequest)).out at hanswer
  rw [blockWithOpening_close, closingBlock_out] at hanswer
  simp at hanswer

end Sys2Proof.Machine
end

section
/-! A window that converts while the addresses of its slice move (04 R145, 08 R270). -/

namespace Sys2Proof.Machine

/-- Window 0 at line 4, its output line 16, opened during the drain; both half blocks of its one block have reached count. -/
def windowToConvert : Window :=
  { state := 2, slice := 2, fn := 1, ctx := 3, count := 2, base := 4 * 128, outBase := 16 * 128, blocks := 1, openTick := 96,
    shadows := [(0, { clearShadow with lo := 2, hi := 2 })] }

/-- Line 16, dirty in home 0. -/
def outputLine : LlcLine := { line := 16, slice := 2, key := 5, data := 7, dirty := true }

/-- The walk of home `n` has not begun: every way held lines of a slice whose addresses move. -/
def drainOf (n : Nat) : DrainSt := { home := n, name := n, ways := 0xFFFF, filter := true }

/-- Slice 2 owns homes 0 and 1 and granule 0. A delta that changes its home set is draining, so that its addresses move (04 R143).
Window 0 is `windowToConvert`, and home 0 holds `outputLine`. -/
def drainingBlock : State :=
  { blk := { tick := 100 }, ports := [(256, { state := 1 })], mem := [(0, { trained := true, healthy := true })],
    own := [(0, { slice := 2, fn := 1, key := 5, gstate := 1, wr := true, amo := true })], keys := [(5, { state := 1, slice := 2, fn := 1 })],
    homes := [(0, { ownLines := [0], lines := [(16 * 16, outputLine)] })], rw := { windows := [(0, windowToConvert)] },
    img := { state := 5, movingSlices := [2], drain := [drainOf 0, drainOf 1],
             active := { slices := [(2, {})], homes := [(0, { ways := [⟨2, 0xFFFF, true⟩] }), (1, { ways := [⟨2, 0xFFFF, true⟩] })] } } }

theorem drainingBlock_working : drainingBlock.Working := by
  unfold State.Working
  decide

/-- The window's one output line, of zeros. -/
theorem drainingBlock_windowOut : drainingBlock.windowOut 0 windowToConvert = [(16, 0, 2 ^ 128 - 1)] := by
  decide +kernel

/-- The output is written at memory, and home 0 keeps no copy of its line (04 R145). -/
theorem drainingBlock_windowConvert : ((drainingBlock.windowConvert 0).home 0).way? 16 = none := by
  decide +kernel

/-- Refutes O35: its clause of the conversion asks that no address of slice 0 moves, and leaves out that the output line is not at a
moving address itself. In `drainingBlock` every hypothesis of the clause holds, and the home, which serves the line uncached, writes the
output at memory (04 R145): the line it had is gone. -/
theorem not_reduceWindowLife : ¬ Obligations.ReduceWindowLife := by
  unfold Obligations.ReduceWindowLife
  intro h
  obtain ⟨-, hconvert, -⟩ := h drainingBlock 0 drainingBlock_working
  obtain ⟨t, ht, -, -, -, hline⟩ := hconvert 0 0 (16 * 16) outputLine 16 0 (2 ^ 128 - 1) rfl (by decide) drainingBlock_windowOut
    (by decide) (by decide +kernel) (by decide) (by decide) (by decide) (by decide) (by decide) rfl (by decide +kernel)
    (by decide +kernel) rfl rfl rfl (by decide) (by decide)
  have hexec : exec (.windowConvert 0) drainingBlock = .next (drainingBlock.windowConvert 0) :=
    congrArg Host.Outcome.next (State.unlessStopped_of_working _ drainingBlock_working)
  rw [hexec] at ht
  obtain rfl := Host.Outcome.next.inj ht
  rw [drainingBlock_windowConvert] at hline
  exact absurd hline.symm (Option.some_ne_none _)

end Sys2Proof.Machine
end

section
/-! Submission of jobs (09 R282 to R284): what a descriptor that passes its checks makes of the job list, from the host's doorbell and
from a tile's JOB_SUBMIT. -/

namespace Sys2Proof.Machine

section

variable {s : State}

/-- The job that a descriptor of a context becomes, from the port that submits it (09 R282). -/
def State.newJob (s : State) (x port : Nat) (d : List Reg) : Job :=
  { id := s.nextId, desc := d, ctx := x, fn := (s.ctx x).fn, slice := (s.ctx x).slice,
    tc := s.servedClass (s.ctx x).slice (dTc d), port := port }

/-- A descriptor that passes becomes the last job of the list; the front of the block stays. -/
theorem State.submitJob_of_ok {x : Nat} {d : List Reg} (h : s.submitStatus x d = .ok) (port : Nat) :
    ∃ u, s.submitJob x port d = (u, .ok) ∧ u.front = s.front ∧ u.jobs = s.jobs ++ [s.newJob x port d] := by
  obtain ⟨v, hv, hfront, hjobs, hid⟩ : ∃ v : State, v = (if dFenceEn d then s.armFence x (dFence d) else s) ∧ v.front = s.front ∧
      v.jobs = s.jobs ∧ v.nextId = s.nextId := by
    refine ⟨_, rfl, ?_⟩
    split <;> simp [State.armFence, State.front]
  simp only [State.submitJob, h, if_true, ← hv]
  refine ⟨_, rfl, ?_, ?_⟩
  · rw [← hfront]
    split <;> simp [State.front, State.fresh]
  · rw [← hjobs, State.newJob, ← hid]
    split <;> simp [State.fresh]

/-! ### The doorbell of a view (09 R283) -/

/-- The canonical form does not show in what is read. -/
theorem tget_tset_eq_tget_mput {α : Type} [DecidableEq α] (d : α) (m : Map α) (k j : Nat) (v : α) :
    tget d (tset d m k v) j = tget d (mput m k v) j := by
  by_cases h : j = k
  · rw [h, tget_tset_self, tget, mget?_mput_self, Option.getD_some]
  · rw [tget_tset_ne d d m v h, tget, tget, mget?_mput_ne m v h]

theorem State.hostRsp_mem_out (hup : s.portUp hostPort = true) (tag : Nat) (st : Status) (d : Line) :
    .hostRsp tag st d ∈ (s.hostRsp tag st d).out := by
  have hup' : (State.reqClose { s with hostTags := s.hostTags.filter (·.1 != tag) } hostPort tag st).portUp hostPort = true := by
    rw [State.reqClose_eq]
    exact hup
  simp only [State.hostRsp, hup', if_true]
  exact List.mem_append_right _ (List.mem_singleton_self _)

/-- The state with the last word of a slot's descriptor written. -/
def State.wordSeven (s : State) (f c : Nat) (w : Reg) : State :=
  s.setView f { s.view f with jobDesc := tset 0 (s.view f).jobDesc (8 * c + 7) w }

/-- The eight words of a slot's descriptor. -/
def State.slotDesc (s : State) (f c : Nat) : List Reg :=
  (List.range 8).map fun k => tget 0 (s.view f).jobDesc (8 * c + k)

theorem State.wordSeven_slotDesc (s : State) (f c : Nat) (w : Reg) : (s.wordSeven f c w).slotDesc f c =
    (List.range 8).map fun k => tget 0 (mput (s.view f).jobDesc (8 * c + 7) w) (8 * c + k) := by
  simp only [State.slotDesc, State.wordSeven, State.setView_view, tget_tset_eq_tget_mput]

theorem State.submitDesc_of_ok {f c x : Nat} {w : Reg} (hslot : s.slotOf f c = some x) (hpins : s.pinsStatus c = .ok)
    (hok : s.submitStatus x ((s.wordSeven f c w).slotDesc f c) = .ok) (tag : Nat) :
    s.submitDesc f tag c w =
      let p := (s.wordSeven f c w).submitJob x hostPort ((s.wordSeven f c w).slotDesc f c)
      p.1.hostRsp tag p.2 0 := by
  have hpins' : (s.wordSeven f c w).pinsStatus c = .ok := hpins
  have hok' : (s.wordSeven f c w).submitStatus x ((s.wordSeven f c w).slotDesc f c) = .ok := hok
  rw [State.submitDesc, hslot]
  change (if ((s.wordSeven f c w).submitStatus x ((s.wordSeven f c w).slotDesc f c)).both ((s.wordSeven f c w).pinsStatus c) =
    (s.wordSeven f c w).submitStatus x ((s.wordSeven f c w).slotDesc f c) then _ else _) = _
  rw [hok', hpins', if_pos (show Status.ok.both .ok = .ok from rfl)]
  rfl

theorem exec_jobDescSubmit_of_ok {f : BitVec 12} {tag : BitVec 10} {c : BitVec 7} {w : Reg} {x : Nat}
    (hopen : s.HostOpen f.toNat tag.toNat) (hslot : s.slotOf f.toNat c.toNat = some x) (hpins : s.pinsStatus c.toNat = .ok)
    (hok : s.submitStatus x ((s.wordSeven f.toNat c.toNat w).slotDesc f.toNat c.toNat) = .ok) :
    ∃ t, exec (.jobDescSubmit f tag c w) s = .next t ∧ .hostRsp tag.toNat .ok 0 ∈ t.out ∧
      t.jobs = s.jobs ++ [s.newJob x hostPort ((s.wordSeven f.toNat c.toNat w).slotDesc f.toNat c.toNat)] := by
  obtain ⟨u, hcmd, hu, -⟩ := State.hostCmd_of_open (.jobDescSubmit f tag c w)
    (fun s => s.submitDesc f.toNat tag.toNat c.toNat w) hopen
  -- the request's arrival touches neither what the checks read nor the list
  have hokU : u.submitStatus x ((u.wordSeven f.toNat c.toNat w).slotDesc f.toNat c.toNat) = .ok := by rw [hu]; exact hok
  have hslotU : u.slotOf f.toNat c.toNat = some x := by rw [hu]; exact hslot
  have hpinsU : u.pinsStatus c.toNat = .ok := by rw [hu]; exact hpins
  obtain ⟨v, hsubmit, hfront, hjobs⟩ := State.submitJob_of_ok (s := u.wordSeven f.toNat c.toNat w) hokU hostPort
  have hup : v.portUp hostPort = true := by
    rw [State.portUp_of_front hfront, hu]
    exact hopen.1
  have hexec : exec (.jobDescSubmit f tag c w) s = .next (v.hostRsp tag.toNat .ok 0) := by
    refine congrArg Host.Outcome.next (hcmd.trans ?_)
    rw [State.submitDesc_of_ok hslotU hpinsU hokU, hsubmit]
  refine ⟨_, hexec, State.hostRsp_mem_out hup .., ?_⟩
  rw [State.hostRsp_jobs, hjobs, hu]
  rfl

/-! ### JOB_SUBMIT of a tile (09 R282) -/

/-- A request that names no line, and that its port takes while the block is not parked, is served. -/
theorem State.tileReq_of_lineless {port op : Nat} {r : TpReq} {b : Bound} (h : TileTakes s port op r b) (hop : tileExempt op = false)
    (hparked : s.blk.parked = false) (cmd : Instr) (serve : State → Bound → State) :
    s.tileReq port op r cmd (fun _ _ => none) serve = serve ((s.taking port op r).gated r b) b := by
  have henter := State.tileEnter_of_tileTakes h hop
  obtain ⟨-, -, -, -, -, -, -, hbound, -, -⟩ := h
  have hbound' : (s.taking port op r).bound port = some b := hbound
  have hparked' : ((s.taking port op r).gated r b).blk.parked = false := by
    rw [State.gated_eq_tallied]
    exact hparked
  have hgate : (s.taking port op r).tileGate port r cmd b none = ((s.taking port op r).gated r b, true) := by
    change (if ((s.taking port op r).gated r b).gateShut none b.slice (s.servedClass b.slice r.tc.toNat) none then _ else _) = _
    rw [State.gateShut, hparked']
    rfl
  simp only [State.tileReq, henter, hbound', hgate]

theorem exec_jobSubmit_of_ok {port : BitVec 8} {r : TpReq} {b : Bound} (h : TileTakes s port.toNat 0x21 r b)
    (hparked : s.blk.parked = false) (hbe : r.be = BitVec.allOnes 64) (hok : s.submitStatus b.ctx (descWords r.wdata) = .ok) :
    ∃ t, exec (.jobSubmit port r) s = .next t ∧ .tileRsp port.toNat r.tag.toNat .ok 0 0 ∈ t.out ∧
      t.jobs = s.jobs ++ [s.newJob b.ctx port.toNat (descWords r.wdata)] := by
  have hserved := State.tileReq_of_lineless h rfl hparked (.jobSubmit port r) (fun s b => s.tileSubmit port.toNat r b)
  obtain ⟨hup, -, hpar, -⟩ := h
  obtain ⟨u, hu, hokU, hupU, htagU, hjobsU, hnewU⟩ : ∃ u, u = (s.taking port.toNat 0x21 r).gated r b ∧
      u.submitStatus b.ctx (descWords r.wdata) = .ok ∧ u.portUp port.toNat = true ∧ r.tag.toNat ∈ (u.tile port.toNat).tags ∧
      u.jobs = s.jobs ∧ u.newJob b.ctx port.toNat (descWords r.wdata) = s.newJob b.ctx port.toNat (descWords r.wdata) := by
    have htag : r.tag.toNat ∈ ((s.taking port.toNat 0x21 r).tile port.toNat).tags :=
      (State.taking_tags s port.toNat 0x21 r).symm ▸ List.mem_append_right _ (List.mem_singleton_self _)
    refine ⟨_, rfl, ?_⟩
    unfold State.gated
    split <;> exact ⟨hok, hup, htag, rfl, rfl⟩
  obtain ⟨v, hsubmit, hfront, hjobs⟩ := State.submitJob_of_ok hokU port.toNat
  have hanswer : u.tileSubmit port.toNat r b = v.tileRsp port.toNat r.tag.toNat .ok 0 0 := by
    simp [State.tileSubmit, hbe, hpar, hsubmit]
  refine ⟨_, rfl, ?_, ?_⟩
  · rw [hserved, ← hu, hanswer]
    exact State.tileRsp_mem_tileRsps ((State.portUp_of_front hfront _).trans hupU) (State.tile_of_front hfront _ ▸ htagU) ..
  · rw [hserved, ← hu, hanswer, State.tileRsp_jobs, hjobs, hjobsU, hnewU]

end

/-- Settles O26: either door runs `State.submitJob`, which enters a descriptor that passes (`State.submitJob_of_ok`). -/
theorem jobsAreSubmitted : Obligations.JobsAreSubmitted := by
  unfold Obligations.JobsAreSubmitted
  refine fun s => ⟨?_, ?_⟩
  · intro f tag c w x d hopen hslot hpins hd hok
    rw [← State.wordSeven_slotDesc] at hd
    obtain ⟨t, ht, hout, hjobs⟩ := exec_jobDescSubmit_of_ok hopen hslot hpins (hd ▸ hok)
    exact ⟨t, ht, hout, _, hjobs, hd.symm, rfl, rfl, rfl⟩
  · intro port r b htakes hparked hbe hok
    obtain ⟨t, ht, hout, hjobs⟩ := exec_jobSubmit_of_ok htakes hparked hbe hok
    exact ⟨t, ht, hout, _, hjobs, rfl, rfl, rfl, rfl⟩

end Sys2Proof.Machine
end

section
/-! The life of a job and of a sequence window (09 R278, R279, R289, R296, R300). -/

namespace Sys2Proof.Machine

section

variable {s : State} {id : Nat} {j : Job}

/-! ### The list of jobs -/

theorem find?_map_of_find? {α : Type} {p : α → Bool} {f : α → α} {a : α} (hp : ∀ x, p (f x) = p x) {l : List α}
    (h : l.find? p = some a) : (l.map f).find? p = some (f a) := by
  have hcomp : p ∘ f = p := funext hp
  rw [List.find?_map, hcomp, h]
  rfl

theorem State.job?_id (h : s.job? id = some j) : j.id = id :=
  eq_of_beq (List.find?_some (p := fun x : Job => x.id == id) h)

/-- The job that replaces another of its number is found in its place. -/
theorem State.setJob_job? {j' : Job} (h : s.job? id = some j) (hid : j'.id = id) : (s.setJob j').job? id = some j' := by
  have hkeep : ∀ x : Job, ((if x.id == j'.id then j' else x).id == id) = (x.id == id) := by
    intro x
    by_cases hx : x.id = j'.id <;> simp [hx]
  have hfound := find?_map_of_find? (f := fun x : Job => if x.id == j'.id then j' else x) hkeep h
  simpa [State.job?, State.setJob, State.job?_id h, hid] using hfound

/-! ### Starting (09 R279) -/

theorem State.jobStart_of_picked {e : Nat} (h : s.job? id = some j) (hengine : j.engine = none) (hended : j.ended = none)
    (hpick : s.pickEngine j = some e) :
    s.jobStart id = (s.setJob { j with engine := some e, started := s.blk.tick }).note (jobUnit e) 0x01 (some j.slice) 1 := by
  simp [State.jobStart, h, hengine, hended, hpick]

theorem exec_jobStart_of_picked {e : Nat} (hw : s.Working) (h : s.job? id = some j) (hengine : j.engine = none)
    (hended : j.ended = none) (hpick : s.pickEngine j = some e) :
    ∃ t, exec (.jobStart id) s = .next t ∧ t.job? id = some { j with engine := some e, started := s.blk.tick } ∧ t.own = s.own := by
  refine ⟨_, congrArg Host.Outcome.next ((State.unlessStopped_of_working _ hw).trans
    (State.jobStart_of_picked h hengine hended hpick)), ?_, ?_⟩
  · have hid : j.id = id := State.job?_id h
    exact State.setJob_job? h hid
  · rfl

/-! ### A piece (09 R278) -/

theorem State.jobOfType_of_type {ty : Nat} (h : s.job? id = some j) (hty : dType j.desc = ty) : s.jobOfType id ty = s.jobRun id := by
  simp [State.jobOfType, h, hty]

theorem exec_jobPiece_of_next {e : BitVec 5} {pick : Nat} (h : s.jobNextOf e.toNat pick = some j) :
    exec (.jobPiece e pick) s = .next (s.jobRun j.id) := by
  simp only [exec, execJobPiece, h]

/-- The rows of the types of jobs, each one a unit of a job of its type (log entry 28). -/
theorem exec_of_jobType (id : Nat) {p : Instr × Nat}
    (hp : p ∈ [(Instr.copy id, 0x1), (.transcodeCopy id, 0x2), (.gather id, 0x3), (.scatterReduce id, 0x4), (.embedBag id, 0x5),
      (.kvAppend id, 0x6), (.kvGather id, 0x7), (.kvAge id, 0x8), (.rekeyCopy id, 0xA), (.zero id, 0xB), (.scrub id, 0xC),
      (.dirtyHarvest id, 0xD)]) (s : State) : exec p.1 s = .next (s.jobOfType id p.2) := by
  simp only [List.mem_cons, List.not_mem_nil, or_false] at hp
  rcases hp with rfl | rfl | rfl | rfl | rfl | rfl | rfl | rfl | rfl | rfl | rfl | rfl <;> rfl

/-! ### The end of a job (09 R289) -/

theorem State.jobComplete_of_ended (h : s.job? id = some j) (hended : j.ended = some 0) (hwrites : j.writes = [])
    (hredo : j.redo = []) (hreads : j.reads = []) : s.jobComplete id = s.finishJob j 0 := by
  simp [State.jobComplete, h, hended, hwrites, hredo, hreads]

/-- A fence that waits for one completion is signalled by it (11 R349). -/
theorem State.fenceOk_of_last {i : Nat} (hfatal : s.fatal = false) (harmed : (s.fence i).state = 1) (hlast : (s.fence i).pending = 1)
    (source : Nat) (v : Reg) : (s.fenceOk i source v).fence i = { s.fence i with
      value := if v.toNat > (s.fence i).value.toNat then v else (s.fence i).value, pending := 0, state := 2, source := source,
      detail := 0 } := by
  have hset : ∀ r, ((s.setFence i r).fencePageIrq i).fence i = r := by
    intro r
    rw [State.fencePageIrq_eq]
    have hlive : s.flt.fatal.isSome = false := hfatal
    simp [State.setFence, hlive, State.fence]
  simp [State.fenceOk, harmed, hlast, hset]

theorem State.finishJob_of_fence (hfence : dFenceEn j.desc = true) :
    ∃ u : State, s.finishJob j 0 = u.fenceOk (dFence j.desc) 1 (dValue j.desc) ∧ u.jobs = s.jobs.filter (·.id != j.id) ∧
      u.fences = s.fences ∧ u.flt = s.flt := by
  simp only [State.finishJob, hfence, if_true]
  exact ⟨_, rfl, rfl, rfl, rfl⟩

/-- A job that ends well leaves the list, and its fence, where no other completion is due, is signalled by a job. -/
theorem State.finishJob_signals (hfatal : s.fatal = false) (hfence : dFenceEn j.desc = true)
    (harmed : (s.fence (dFence j.desc)).state = 1) (hlast : (s.fence (dFence j.desc)).pending = 1) :
    (s.finishJob j 0).job? j.id = none ∧ ((s.finishJob j 0).fence (dFence j.desc)).state = 2 ∧
      ((s.finishJob j 0).fence (dFence j.desc)).source = 1 ∧ ((s.finishJob j 0).fence (dFence j.desc)).pending = 0 := by
  obtain ⟨u, hfinish, hjobs, hfences, hflt⟩ := State.finishJob_of_fence (s := s) hfence
  have hsame : u.fence (dFence j.desc) = s.fence (dFence j.desc) := by rw [State.fence, State.fence, hfences]
  have hfatal' : u.fatal = false := by rw [State.fatal, hflt]; exact hfatal
  have hgone : (u.fenceOk (dFence j.desc) 1 (dValue j.desc)).job? j.id = none := by
    rw [State.fenceOk_eq]
    simp [State.job?, hjobs]
  rw [hfinish, State.fenceOk_of_last hfatal' (hsame ▸ harmed) (hsame ▸ hlast)]
  exact ⟨hgone, rfl, rfl, rfl⟩

theorem exec_jobComplete_of_ended (hw : s.Working) (h : s.job? id = some j) (hended : j.ended = some 0) (hwrites : j.writes = [])
    (hredo : j.redo = []) (hreads : j.reads = []) : exec (.jobComplete id) s = .next (s.finishJob j 0) :=
  congrArg Host.Outcome.next ((State.unlessStopped_of_working _ hw).trans (State.jobComplete_of_ended h hended hwrites hredo hreads))

/-! ### Waiting for a page (09 R300) -/

theorem State.jobStop_of_running (h : s.job? id = some j) (hended : j.ended = none) (detail : Nat) :
    s.jobStop id detail = s.setJob { j with ended := some detail, buf := [] } := by
  simp [State.jobStop, h, hended]

theorem State.dropPage_jobs (s : State) (sl p : Nat) : (s.dropPage sl p).1.jobs = s.jobs := by
  unfold State.dropPage
  dsimp only
  split
  · rfl
  · split <;> rfl

theorem State.jobStop_ended (h : s.job? id = some j) (hended : j.ended = none) (detail : Nat) :
    ((s.jobStop id detail).job? id).map (·.ended) = some (some detail) := by
  have hid : j.id = id := State.job?_id h
  rw [State.jobStop_of_running h hended, State.setJob_job? (j' := { j with ended := some detail, buf := [] }) h hid]
  rfl

/-- A sequence job is ended, whether or not it has a page to give back. -/
theorem State.seqStop_ended (h : s.job? id = some j) (hended : j.ended = none) (detail : Nat) :
    ((s.seqStop j detail).job? id).map (·.ended) = some (some detail) := by
  obtain ⟨u, hstop, hjobs⟩ : ∃ u : State, s.seqStop j detail = (u.setJob { j with seqPage := none }).jobStop j.id detail ∧
      u.jobs = s.jobs := by
    refine ⟨_, rfl, ?_⟩
    split
    · exact State.dropPage_jobs ..
    · rfl
  obtain rfl := State.job?_id h
  have hfound : u.job? j.id = some j := by rw [State.job?, hjobs]; exact h
  rw [hstop]
  exact State.jobStop_ended (State.setJob_job? (j' := { j with seqPage := none }) hfound rfl) hended detail

theorem State.pageTimeout_of_late {k : Nat} (h : s.job? id = some j) (hended : j.ended = none) (hwait : j.waitSince = some k)
    (hlate : k + 16 ≤ s.blk.tick) : s.pageTimeout id = s.seqStop j 9 := by
  simp [State.pageTimeout, h, hended, hwait, hlate]

/-! ### Sequence windows (09 R296) -/

theorem State.seqCmd_of_idle {sl : Nat} (hsl : sl ≠ 0) (hpending : (s.seqw sl).pending = none)
    (hstate : (s.seqw sl).state = 0 ∨ (s.seqw sl).state = 2) (op : Nat) :
    s.seqCmd sl op = s.setSeqw sl { s.seqw sl with pending := some op } := by
  rcases hstate with h | h <;> simp [State.seqCmd, hsl, hpending, h]

/-- OPEN and CLOSE are one write, of JOB_SEQ_CMD. -/
theorem exec_of_seqCommand (sl : BitVec 7) {p : Instr × Nat} (hp : p ∈ [(Instr.seqOpen sl, 1), (.seqClose sl, 2)]) (s : State) :
    exec p.1 s = .next (s.mgWrite false fun s => s.seqCmd sl.toNat p.2) := by
  simp only [List.mem_cons, List.not_mem_nil, or_false] at hp
  rcases hp with rfl | rfl <;> rfl

theorem exec_seqCommand_of_idle {sl : BitVec 7} (hsl : sl ≠ 0) (hopen : s.MgOpen false) (hpending : (s.seqw sl.toNat).pending = none)
    (hstate : (s.seqw sl.toNat).state = 0 ∨ (s.seqw sl.toNat).state = 2) {p : Instr × Nat}
    (hp : p ∈ [(Instr.seqOpen sl, 1), (.seqClose sl, 2)]) :
    ∃ t, exec p.1 s = .next t ∧ t.seqw sl.toNat = { s.seqw sl.toNat with pending := some p.2 } ∧ t.own = s.own := by
  have hsl' : sl.toNat ≠ 0 := fun h => hsl (BitVec.eq_of_toNat_eq h)
  refine ⟨_, exec_of_seqCommand sl hp s, ?_⟩
  rw [State.mgWrite_of_open _ hopen, State.seqCmd_of_idle hsl' hpending hstate, State.mgRsp_eq]
  exact ⟨State.setSeqw_seqw .., rfl⟩

theorem State.seqOpened_of_written {sl : Nat} (hstate : (s.seqw sl).state = 1)
    (hwritten : (s.seqw sl).tableLines.1 + (s.seqw sl).tableLines.2.1 + (s.seqw sl).tableLines.2.2 ≤ (s.seqw sl).tab) :
    s.seqOpened sl = (s.setSeqw sl { s.seqw sl with state := 2 }).mgIrq 0x09 := by
  simp [State.seqOpened, hstate, hwritten]

theorem exec_seqWindowOpened_of_written {sl : BitVec 7} (hw : s.Working) (hstate : (s.seqw sl.toNat).state = 1)
    (hwritten : (s.seqw sl.toNat).tableLines.1 + (s.seqw sl.toNat).tableLines.2.1 + (s.seqw sl.toNat).tableLines.2.2 ≤
      (s.seqw sl.toNat).tab) :
    exec (.seqWindowOpened sl) s = .next ((s.setSeqw sl.toNat { s.seqw sl.toNat with state := 2 }).mgIrq 0x09) :=
  congrArg Host.Outcome.next ((State.unlessStopped_of_working _ hw).trans (State.seqOpened_of_written hstate hwritten))

end

/-- Settles O39, clause by clause through the lemmas above; that a piece is one unit of its job is log entry 28. -/
theorem jobLife : Obligations.JobLife := by
  unfold Obligations.JobLife
  refine fun s => ⟨?_, ?_, ?_, ?_, ?_, ?_⟩
  · intro id j e hw h _ hengine hended hpick
    exact exec_jobStart_of_picked hw h hengine hended hpick
  · intro e pick j hnext h p hp hty
    rw [exec_jobPiece_of_next hnext, exec_of_jobType j.id hp, State.jobOfType_of_type h hty]
  · rintro id j hw h rfl hended hwrites hredo hreads _ hfence harmed hlast
    exact ⟨_, exec_jobComplete_of_ended hw h hended hwrites hredo hreads, State.finishJob_signals hw.2.1 hfence harmed hlast⟩
  · intro id j k h _ hended hwait hlate
    refine ⟨_, rfl, ?_⟩
    rw [State.pageTimeout_of_late h hended hwait hlate]
    exact State.seqStop_ended h hended 9
  · intro sl hsl hopen hpending hstate p hp
    exact exec_seqCommand_of_idle hsl hopen hpending hstate hp
  · intro sl hw hstate hwritten
    refine ⟨_, exec_seqWindowOpened_of_written hw hstate hwritten, ?_, ?_⟩
    · rw [State.mgIrq_eq]
      exact State.setSeqw_seqw ..
    · intro hdrives
      have hdrives' : (s.setSeqw sl.toNat { s.seqw sl.toNat with state := 2 }).drives mgPort = true := hdrives
      simp only [State.mgIrq, State.emitAt, hdrives', if_true]
      rfl

end Sys2Proof.Machine
end

section
/-! A job of a slice whose sequence window has a record to write, which the next piece of any job of the slice writes (09 R297), to a
region whose stack is lost. -/

namespace Sys2Proof.Machine

/-- A job of slice 2 on engine 3, in its second tick, with descriptor `d`. -/
def startedJob (d : List Reg) : Job :=
  { id := 1, desc := d, ctx := 3, fn := 1, slice := 2, tc := 1, port := 5, engine := some 3, firstTick := some 99 }

/-- ZERO of the 64 bytes from address 512 on. -/
def zeroJob : Job := startedJob [0xB, 0, 512, 64]

/-- SCRUB of the line at address 512. -/
def scrubJob : Job := startedJob [0xC, 0, 512, 128]

/-- Line 4, dirty in home 0. -/
def jobLine : LlcLine := { line := 4, slice := 2, key := 5, data := 7, dirty := true }

/-- The sequence window of slice 2, its region granule 1. The entry of sequence 0 has changed and is not written yet, as it is until the
tick's end after a sequence job gave back its busy bit. -/
def unsavedWindow : SeqWin := { first := 1, granules := 1, seqCount := 4, state := 2, unsaved := [(0, 0)] }

/-- Slice 2 owns homes 0 and 1, granule 0 under key 5 and granule 1, the region of `unsavedWindow`, under key 6; `j` is its one job, and
home 0 holds `jobLine`. Stack 1, where granule 1 lies, is lost. -/
def unsavedBlock (j : Job) : State :=
  { blk := { tick := 100 }, ports := [(256, { state := 1 })], mem := [(0, { trained := true, healthy := true })], mpt := { lostMask := 2 },
    own := [(0, { slice := 2, fn := 1, key := 5, gstate := 1, rd := true, wr := true }),
      (1, { slice := 2, key := 6, gstate := 1, rd := true, sliceWide := true })],
    keys := [(5, { state := 1, slice := 2, fn := 1 }), (6, { state := 1, slice := 2 })],
    homes := [(0, { ownLines := [0], lines := [(16 * 4, jobLine)] }), (1, { ownLines := [0] })],
    img := { active := { slices := [(2, {})], homes := [(0, { ways := [⟨2, 0xFFFF, true⟩] }), (1, { ways := [⟨2, 0xFFFF, true⟩] })] } },
    seqs := [(2, unsavedWindow)], jobs := [j] }

theorem unsavedBlock_zeroJob_runs : JobRuns (unsavedBlock zeroJob) 1 zeroJob := by
  unfold JobRuns State.Working
  decide +kernel

theorem unsavedBlock_scrubJob_runs : JobRuns (unsavedBlock scrubJob) 1 scrubJob := by
  unfold JobRuns State.Working
  decide +kernel

theorem unsavedBlock_homeTakes : HomeTakes (unsavedBlock zeroJob) 4 2 1 .wr false 0 0 := by
  unfold HomeTakes
  decide +kernel

theorem unsavedBlock_zeroJob_writes : JobWrites (unsavedBlock zeroJob) zeroJob 512 64 0 jobLine :=
  ⟨by decide, by decide, by decide, by decide, rfl, rfl, rfl, by decide, by decide, 0, unsavedBlock_homeTakes⟩

/-- The piece of the ZERO writes the record as well, and is answered POISON (05 R174, 09 R289). -/
theorem unsavedBlock_zero_poisoned : (((unsavedBlock zeroJob).jobOfType 1 0xB).job? 1).map (·.ended) = some (some 2) := by
  decide +kernel

/-- So does the piece of the SCRUB. -/
theorem unsavedBlock_scrub_poisoned : (((unsavedBlock scrubJob).jobOfType 1 0xC).job? 1).map (·.ended) = some (some 2) := by
  decide +kernel

theorem not_nextUnit_of_ended {t : State} {id d : Nat} (h : (t.job? id).map (·.ended) = some (some d)) (cur : Nat) :
    ¬ NextUnit t id cur := by
  rintro ⟨j, hj, -, hended⟩
  rw [hj] at h
  simp [hended] at h

/-- Refutes O36: its clauses leave out that the window of the job's slice has no changed record to write. In `unsavedBlock zeroJob` every
hypothesis of the clause of ZERO holds; the piece also writes the window's record (09 R297), whose stack is lost, and with the answer
POISON the job has met its end. -/
theorem not_jobsWriteTheirUnits : ¬ Obligations.JobsWriteTheirUnits := by
  unfold Obligations.JobsWriteTheirUnits
  intro h
  obtain ⟨-, hzero, -⟩ := h (unsavedBlock zeroJob) 1 zeroJob 0 jobLine unsavedBlock_zeroJob_runs
  obtain ⟨t, ht, -, hnext⟩ := hzero (by decide) (by decide) unsavedBlock_zeroJob_writes
  obtain rfl := Host.Outcome.next.inj ht
  exact not_nextUnit_of_ended unsavedBlock_zero_poisoned 1 hnext

/-- Refutes O37: its clauses leave out that the window of the job's slice has no changed record to write. In `unsavedBlock scrubJob` every
hypothesis of the clause of SCRUB holds; the piece also writes the window's record (09 R297), whose stack is lost, and with the answer
POISON the job has met its end. -/
theorem not_jobsAddAndCheck : ¬ Obligations.JobsAddAndCheck := by
  unfold Obligations.JobsAddAndCheck
  intro h
  obtain ⟨-, -, hscrub⟩ := h (unsavedBlock scrubJob) 1 scrubJob unsavedBlock_scrubJob_runs
  obtain ⟨t, ht, hnext, -⟩ := hscrub 4 (by decide) (by decide) (by decide) (by decide) (by decide) (by decide) (by decide) (by decide)
  obtain rfl := Host.Outcome.next.inj ht
  exact not_nextUnit_of_ended unsavedBlock_scrub_poisoned 1 hnext

end Sys2Proof.Machine
end

section
/-! SA slots (10 R307, R308, R310): the write of a slot command, and the two timers of a slot that is being retired. -/

namespace Sys2Proof.Machine

section

variable {s : State}

/-- A register command on an open management port is answered OK in the state it makes. -/
theorem State.mgWrite_out_of_open {f : State → State} (h : s.MgOpen false) (hup : (f s).portUp mgPort = true) :
    s.mgWrite false f = (f s).emit (.mgRsp (f s).mgTag .ok 0) := by
  rw [State.mgWrite_of_open f h, State.mgRsp, if_pos hup]

theorem State.saCommand_of_idle (h : s.tin.saPending = none) (n op : Nat) :
    s.saCommand n op = { s with tin := { s.tin with saPending := some (n, op) } } := by
  rw [State.saCommand, h]
  rfl

theorem State.saCommand_of_pending (h : s.tin.saPending ≠ none) (n op : Nat) :
    s.saCommand n op = { s with tin := { s.tin with saResult := 6 } } :=
  if_pos (Option.isSome_iff_ne_none.mpr h)

/-- A slot command that finds none pending waits for the boundary (10 R308). -/
theorem State.mgWrite_saCommand_of_idle (hopen : s.MgOpen false) (h : s.tin.saPending = none) (n op : Nat) :
    s.mgWrite false (fun s => s.saCommand n op) =
      ({ s with tin := { s.tin with saPending := some (n, op) } } : State).emit (.mgRsp s.mgTag .ok 0) := by
  have hcmd := State.saCommand_of_idle h n op
  rw [State.mgWrite_out_of_open hopen (by rw [hcmd]; exact hopen.1), hcmd]

/-- A slot command that finds one pending is ignored with BUSY (10 R308). -/
theorem State.mgWrite_saCommand_of_pending (hopen : s.MgOpen false) (h : s.tin.saPending ≠ none) (n op : Nat) :
    s.mgWrite false (fun s => s.saCommand n op) =
      ({ s with tin := { s.tin with saResult := 6 } } : State).emit (.mgRsp s.mgTag .ok 0) := by
  have hcmd := State.saCommand_of_pending h n op
  rw [State.mgWrite_out_of_open hopen (by rw [hcmd]; exact hopen.1), hcmd]

theorem State.saQuarantine_of_due {n : Nat} (h : (s.sa n).state = 3) (hdue : (s.sa n).stateTick + 16 ≤ s.blk.tick) :
    (s.saQuarantine n).sa n = { s.sa n with state := 4, stateTick := s.blk.tick, material := 0 } := by
  simp only [State.saQuarantine, h, hdue, decide_true, Bool.and_self, if_true, State.setSa_sa]

theorem State.saFree_of_due {n : Nat} (h : (s.sa n).state = 4) (hdue : (s.sa n).stateTick + 16 ≤ s.blk.tick) :
    s.saFree n = (s.dropPaths n).setSa n
      { cfg := (s.sa n).cfg, tines := (s.sa n).tines, peer := (s.sa n).peer, sci := (s.sa n).sci, stateTick := s.blk.tick,
        staging := (s.sa n).staging, staged := (s.sa n).staged } := by
  simp only [State.saFree, h, hdue, decide_true, Bool.and_self, if_true]

end

/-- Settles O46: each clause is what the command or the timer makes of its slot. -/
theorem saSlotLife : Obligations.SaSlotLife := by
  unfold Obligations.SaSlotLife
  intro s n
  refine ⟨fun hopen hidle => ?_, fun hopen hpending => ?_, fun hstate hdue => ?_, fun hstate hdue => ?_⟩
  · have hwaits : ∀ op, ∃ t, (.next (s.mgWrite false fun s => s.saCommand n.toNat op) : Host.Outcome State Fault Refusal) = .next t ∧
        t.tin.saPending = some (n.toNat, op) ∧ t.sas = s.sas ∧ t.out = s.out ++ [.mgRsp s.mgTag .ok 0] := fun op =>
      ⟨_, congrArg _ (State.mgWrite_saCommand_of_idle hopen hidle n.toNat op), rfl, rfl, rfl⟩
    exact ⟨hwaits 1, hwaits 2, hwaits 3⟩
  · have hbusy : ∀ op, ∃ t, (.next (s.mgWrite false fun s => s.saCommand n.toNat op) : Host.Outcome State Fault Refusal) = .next t ∧
        t.tin.saPending = s.tin.saPending ∧ t.tin.saResult = 6 := fun op =>
      ⟨_, congrArg _ (State.mgWrite_saCommand_of_pending hopen hpending n.toNat op), rfl, rfl⟩
    exact ⟨hbusy 1, hbusy 2, hbusy 3⟩
  · have hslot := State.saQuarantine_of_due hstate hdue
    exact ⟨_, rfl, (congrArg SaSt.state hslot :), (congrArg SaSt.material hslot :), (congrArg SaSt.cfg hslot :)⟩
  · exact ⟨_, _, congrArg Host.Outcome.next (State.saFree_of_due hstate hdue), rfl, rfl, rfl, rfl, rfl, rfl, rfl, rfl, rfl⟩

end Sys2Proof.Machine
end

section
/-! Tick alignment (10 R330 to R334): the frames of an exchange, its stamps and its end, and the two ways to join. -/

namespace Sys2Proof.Machine

section

variable {s : State} {k num : Nat}

theorem State.emitCtl_of_open {t : Nat} {o : Output} (h : s.txPaused t s.tin.ctlPrio = false) : s.emitCtl t o = s.emit o := by
  rw [State.emitCtl, h, if_neg Bool.false_ne_true]

/-! ### The frames of an exchange (10 R331) -/

/-- A requester with a new exchange open on a tine. -/
def State.asking (s : State) (l : Nat) : State :=
  { s with tin := { s.tin with nextExch := (s.tin.nextExch + 1) % 65536, lastReq := s.blk.tick,
                               exchanges := s.tin.exchanges ++ [{ num := s.tin.nextExch, tine := l, tick := s.blk.tick }] } }

theorem State.timeAsk_of_due {c l : Nat} (href : s.refOf = some (c, false)) (hto : s.timeTo c = some l)
    (hdue : s.tin.lastReq + 4 ≤ s.blk.tick) (hopen : s.txPaused l s.tin.ctlPrio = false) :
    s.timeAsk = (s.asking l).emit (.timeTx l 1 s.tin.nextExch 0 0 (some (s.tin.nextExch % 256))) := by
  have hopen' : (s.asking l).txPaused l (s.asking l).tin.ctlPrio = false := hopen
  simp only [State.timeAsk, href, hto, if_pos hdue]
  exact State.emitCtl_of_open hopen'

theorem State.timeAsked_of_reference {c stamp : Nat} (href : s.refOf = some (c, true)) (hopen : s.txPaused k s.tin.ctlPrio = false) :
    s.timeAsked k num stamp =
      ({ s with tin := { s.tin with answers := s.tin.answers ++ [(num, k, stamp)] } } : State).emit
        (.timeTx k 2 num 0 0 (some (num % 256))) := by
  simp only [State.timeAsked, href, Bool.not_true, Bool.false_eq_true, if_false]
  exact State.emitCtl_of_open hopen

/-! ### The stamps of an exchange (10 R330, R331) -/

theorem State.onExchange_of_single {e : Exchange} (h : s.tin.exchanges = [e]) (hnum : e.num = num) (htine : e.tine = k)
    (f : Exchange → Exchange) : s.onExchange k num f = { s with tin := { s.tin with exchanges := [f e] } } := by
  simp [State.onExchange, h, hnum, htine]

/-- What the last of its four stamps makes of a requester's exchange: the offset enters the mean of the last four. -/
def State.exchanged (s : State) (o : Int) : State :=
  { s with tin := { s.tin with exchanges := [], offsets := (s.tin.offsets ++ [o]).drop (s.tin.offsets.length + 1 - 4) },
           blk := { s.blk with offsetNs := BitVec.ofInt 16 (meanOffset ((s.tin.offsets ++ [o]).drop (s.tin.offsets.length + 1 - 4))),
                               offsetTick := some s.blk.tick } }

theorem State.exchangeDone_of_four_stamps {e : Exchange} {t1 t2 t3 t4 : Nat} (h : s.tin.exchanges = [e]) (hnum : e.num = num)
    (htine : e.tine = k) (h1 : e.t1 = some t1) (h2 : e.t2 = some t2) (h3 : e.t3 = some t3) (h4 : e.t4 = some t4) :
    s.exchangeDone k num = s.exchanged ((((t2 : Int) - t1) + ((t3 : Int) - t4)) / 2) := by
  simp [State.exchangeDone, h, hnum, htine, h1, h2, h3, h4, State.exchanged]

theorem State.exchangeDone_of_open {e : Exchange} (h : s.tin.exchanges = [e]) (hnum : e.num = num) (htine : e.tine = k)
    (h4 : e.t4 = none) : s.exchangeDone k num = s := by
  simp only [State.exchangeDone, h, List.find?_cons, hnum, htine, beq_self_eq_true, Bool.and_self]
  split
  next hstamp => cases h4.symm.trans hstamp
  next => rfl

/-- TIME_RESP brings t4; of an exchange that has the other three stamps it is the last (10 R331). -/
theorem State.timeAnswered_of_last_stamp {e : Exchange} {stamp t1 t2 t3 : Nat} {r : Int} (h : s.tin.exchanges = [e])
    (hnum : e.num = num) (htine : e.tine = k) (h1 : e.t1 = some t1) (h2 : e.t2 = some t2) (h3 : e.t3 = some t3)
    (hrel : (s.tine k).macRel = some r) :
    s.timeAnswered k num stamp = s.exchanged ((((t2 : Int) - t1) + ((t3 : Int) - (((stamp : Int) - r).toNat : Nat))) / 2) := by
  have hphase : s.phaseOf k stamp = some ((stamp : Int) - r) := by rw [State.phaseOf, hrel, Option.map_some]
  simp only [State.timeAnswered, hphase, State.onExchange_of_single h hnum htine]
  exact State.exchangeDone_of_four_stamps rfl hnum htine h1 h2 h3 rfl

/-- TIME_FOLLOW_UP brings t2 and t3; of an exchange that has the other two stamps they are the last (10 R331). -/
theorem State.followUp_of_last_stamps {e : Exchange} {t1 t2 t3 t4 : Nat} (h : s.tin.exchanges = [e]) (hnum : e.num = num)
    (htine : e.tine = k) (h1 : e.t1 = some t1) (h4 : e.t4 = some t4) :
    (s.onExchange k num fun x => { x with t2 := some t2, t3 := some t3 }).exchangeDone k num =
      s.exchanged ((((t2 : Int) - t1) + ((t3 : Int) - t4)) / 2) := by
  rw [State.onExchange_of_single h hnum htine]
  exact State.exchangeDone_of_four_stamps rfl hnum htine h1 rfl rfl h4

/-- A requester whose TIME_REQ has left at `out`, under the stamp of its tine's MAC (10 R330). -/
def State.departed (s : State) (k stamp out : Nat) (e : Exchange) : State :=
  let u := s.setTine k { s.tine k with macRel := some ((stamp : Int) - out) }
  { u with tin := { u.tin with exchanges := [{ e with t1 := some out }] } }

theorem State.egress_of_request {e : Exchange} {id stamp phase : Nat} (hanswers : s.tin.answers = []) (h : s.tin.exchanges = [e])
    (htine : e.tine = k) (hid : e.num % 256 = id) (h1 : e.t1 = none) (h4 : e.t4 = none) :
    s.egress k id stamp phase = s.departed k stamp (s.blk.tick * 1000 + phase + field (s.tine k).latency 0 16) e := by
  simp only [State.egress, State.setTine_tin, hanswers, h, List.find?_nil, List.find?_cons, htine, hid, h1, beq_self_eq_true,
    Option.isNone_none, Bool.and_self]
  rw [State.onExchange_of_single (s := s.setTine k _) h rfl htine]
  exact State.exchangeDone_of_open rfl rfl htine h4

theorem State.mem_exchangeLate_exchanges (e : Exchange) :
    e ∈ (s.exchangeLate num).tin.exchanges ↔ e ∈ s.tin.exchanges ∧ ¬(e.num = num ∧ e.tick + 2 ≤ s.blk.tick) := by
  simp [State.exchangeLate, imp_iff_not_or]

/-! ### Joining (10 R334) -/

theorem State.chipJoin_of_follower {c refTick : Nat} (hjoined : s.tin.joined = false) (href : s.refOf = some (c, false))
    (hoffset : s.blk.offsetTick ≠ none) (htenant : s.tenantEnabled = false) :
    (s.chipJoin refTick).tin.joined = true ∧ (s.chipJoin refTick).blk.tick = refTick ∧ (s.chipJoin refTick).blk.offsetNs = 0 := by
  have hvalid : s.blk.offsetTick.isNone = false := by rw [Option.isNone_eq_false_iff]; exact Option.isSome_iff_ne_none.mpr hoffset
  simp only [State.chipJoin, hjoined, href, hvalid, htenant, Bool.not_false, Bool.not_true, Bool.or_self, Bool.false_eq_true, if_false,
    and_self]

theorem State.joinAlone_of_lowest {u : Nat} (hup : s.tin.firstUp = some u) (hjoined : s.tin.joined = false)
    (hlowest : s.lowestMember = true) (href : s.refOf = none) (hdue : u + 256 ≤ s.blk.tick) :
    s.joinAlone = { s with tin := { s.tin with joined := true } } := by
  simp [State.joinAlone, hup, hjoined, hlowest, href, hdue]

end

/-- Settles O45: each frame, stamp and timer does to the one exchange what its rule says; the four stamps close it. -/
theorem tickAlignment : Obligations.TickAlignment := by
  unfold Obligations.TickAlignment
  intro s k exch
  refine ⟨?_, ?_, ?_, ?_, ?_, ?_, ?_, ?_⟩
  · intro c l href hto hdue hopen
    exact ⟨_, congrArg Host.Outcome.next (State.timeAsk_of_due href hto hdue hopen), rfl, rfl, rfl, rfl⟩
  · intro c chip stamp href htakes hopen
    exact ⟨_, congrArg Host.Outcome.next ((if_pos htakes).trans (State.timeAsked_of_reference href hopen)), rfl, rfl⟩
  · intro id stamp phase e hanswers h htine hid h1 h4
    refine ⟨_, congrArg Host.Outcome.next (State.egress_of_request hanswers h htine hid h1 h4), rfl, ?_⟩
    exact congrArg TineSt.macRel (State.setTine_tine s k.toNat _)
  · rintro stamp e t1 t2 t3 _ _ r _ htakes h hnum htine h1 h2 h3 hrel rfl rfl rfl
    have hdone := State.timeAnswered_of_last_stamp (stamp := stamp.toNat) h hnum htine h1 h2 h3 hrel
    exact ⟨_, congrArg Host.Outcome.next ((if_pos htakes).trans hdone), rfl, rfl, rfl, rfl⟩
  · rintro e t1 t4 t2 t3 _ _ htakes h hnum htine h1 h4 rfl rfl
    have hdone := State.followUp_of_last_stamps (t2 := t2.toNat) (t3 := t3.toNat) h hnum htine h1 h4
    exact ⟨_, congrArg Host.Outcome.next ((if_pos htakes).trans hdone), rfl, rfl, rfl, rfl⟩
  · exact ⟨_, rfl, State.mem_exchangeLate_exchanges⟩
  · intro c refTick hjoined href hoffset htenant
    exact ⟨_, rfl, State.chipJoin_of_follower hjoined href hoffset htenant⟩
  · intro u hup hjoined hlowest href hdue
    exact ⟨_, congrArg Host.Outcome.next (State.joinAlone_of_lowest hup hjoined hlowest href hdue), rfl, rfl⟩

end Sys2Proof.Machine
end

section
/-! What sending over the tines touches (10 R309, R318, R319, R329): a message that is sent, or sent again, changes its slot, its path
and what is counted, and leaves the rest of the block as it was. -/

namespace Sys2Proof.Machine

/-- What the sending of a message touches: slots, paths, transfers, charges, counters and rings, and, where a packet number runs out,
the fault message of it. -/
structure Wire where
  sas : Map SaSt
  paths : Map PathSt
  out : List Output
  qos : Qos
  obs : Obs
  flt : Flt
  fawn : Fawn

/-- A state with another `Wire`; its recoveries stay. -/
def State.wired (s : State) (b : Wire) : State :=
  { s with sas := b.sas, paths := b.paths, out := b.out, qos := b.qos, obs := b.obs,
           flt := { b.flt with recs := s.flt.recs, waiting := s.flt.waiting }, fawn := b.fawn }

/-- One state comes of another by sending alone. -/
def State.OnWire (s u : State) : Prop := ∃ b, u = s.wired b

section

variable {s u v : State}

theorem State.OnWire.refl (s : State) : s.OnWire s := ⟨⟨s.sas, s.paths, s.out, s.qos, s.obs, s.flt, s.fawn⟩, rfl⟩

theorem State.OnWire.trans (h : s.OnWire u) (g : u.OnWire v) : s.OnWire v := by
  obtain ⟨b, rfl⟩ := h
  obtain ⟨c, rfl⟩ := g
  exact ⟨c, rfl⟩

theorem State.OnWire.tines (h : s.OnWire u) : u.tines = s.tines := by
  obtain ⟨b, rfl⟩ := h
  rfl

theorem State.OnWire.inbox (h : s.OnWire u) : u.inbox = s.inbox := by
  obtain ⟨b, rfl⟩ := h
  rfl

theorem State.OnWire.homes (h : s.OnWire u) : u.homes = s.homes := by
  obtain ⟨b, rfl⟩ := h
  rfl

theorem State.OnWire.txns (h : s.OnWire u) : u.txns = s.txns := by
  obtain ⟨b, rfl⟩ := h
  rfl

theorem State.OnWire.rw (h : s.OnWire u) : u.rw = s.rw := by
  obtain ⟨b, rfl⟩ := h
  rfl

theorem State.OnWire.tine (h : s.OnWire u) (t : Nat) : u.tine t = s.tine t := by
  rw [State.tine, State.tine, h.tines]

theorem State.OnWire.ite {c : Prop} [Decidable c] (hu : s.OnWire u) (hv : s.OnWire v) : s.OnWire (if c then u else v) := by
  split
  · exact hu
  · exact hv

theorem State.OnWire.foldl {α : Type} {f : State → α → State} (h : ∀ (s : State) a, s.OnWire (f s a)) (l : List α) (s : State) :
    s.OnWire (l.foldl f s) := by
  induction l generalizing s with
  | nil => exact .refl s
  | cons a l ih => exact (h s a).trans (ih (f s a))

end

/-! ### The parts of a sending -/

theorem State.emit_onWire (s : State) (o : Output) : s.OnWire (s.emit o) :=
  ⟨⟨s.sas, s.paths, s.out ++ [o], s.qos, s.obs, s.flt, s.fawn⟩, rfl⟩

theorem State.setSa_onWire (s : State) (n : Nat) (a : SaSt) : s.OnWire (s.setSa n a) :=
  ⟨⟨tset {} s.sas n a, s.paths, s.out, s.qos, s.obs, s.flt, s.fawn⟩, rfl⟩

theorem State.setPath_onWire (s : State) (n path : Nat) (p : PathSt) : s.OnWire (s.setPath n path p) :=
  ⟨⟨s.sas, tset {} s.paths (n * 256 + path) p, s.out, s.qos, s.obs, s.flt, s.fawn⟩, rfl⟩

theorem State.note_onWire (s : State) (u ev : Nat) (sl : Option Nat) (n : Nat) : s.OnWire (s.note u ev sl n) :=
  ⟨⟨s.sas, s.paths, s.out, s.qos, (s.note u ev sl n).obs, s.flt, s.fawn⟩, rfl⟩

theorem State.charge_onWire (s : State) (i sl t n : Nat) : s.OnWire (s.charge i sl t n) :=
  ⟨⟨s.sas, s.paths, s.out, (s.charge i sl t n).qos, s.obs, s.flt, s.fawn⟩, rfl⟩

theorem Flt.countClass_recoveries (f : Flt) (cls : Nat) :
    (f.countClass cls).recs = f.recs ∧ (f.countClass cls).waiting = f.waiting := by
  unfold Flt.countClass
  repeat' split
  all_goals exact ⟨rfl, rfl⟩

theorem Flt.noteLimit_recoveries (f : Flt) (u kind tick : Nat) :
    (f.noteLimit u kind tick).recs = f.recs ∧ (f.noteLimit u kind tick).waiting = f.waiting := by
  unfold Flt.noteLimit
  split <;> exact ⟨rfl, rfl⟩

/-- A fault message leaves the recoveries as they are. -/
theorem State.raise_recoveries (s : State) (u kind cls subType subj sl fn : Nat) :
    (s.raise u kind cls subType subj sl fn).flt.recs = s.flt.recs ∧
      (s.raise u kind cls subType subj sl fn).flt.waiting = s.flt.waiting := by
  unfold State.raise
  extract_lets m d q f1 f2 s1 s2 f3 s3
  have h1 : s1.flt.recs = s.flt.recs ∧ s1.flt.waiting = s.flt.waiting := by
    unfold s1
    split
    · exact ⟨rfl, rfl⟩
    · obtain ⟨hr, hw⟩ := Flt.countClass_recoveries s.flt cls
      obtain ⟨hr', hw'⟩ := Flt.noteLimit_recoveries (s.flt.countClass cls) u kind s.blk.tick
      exact ⟨hr'.trans hr, hw'.trans hw⟩
  have h2 : s2.flt = s1.flt := by
    unfold s2
    split
    · rfl
    · split <;> rfl
  have h3 : s3.flt = s2.flt := by
    unfold s3
    split <;> rfl
  rw [State.ring_flt, h3, h2]
  exact h1

theorem State.raise_onWire (s : State) (u kind cls subType subj sl fn : Nat) : s.OnWire (s.raise u kind cls subType subj sl fn) := by
  obtain ⟨hrecs, hwaiting⟩ := s.raise_recoveries u kind cls subType subj sl fn
  refine ⟨⟨s.sas, s.paths, s.out, s.qos, (s.raise u kind cls subType subj sl fn).obs,
    (s.raise u kind cls subType subj sl fn).flt, (s.raise u kind cls subType subj sl fn).fawn⟩, ?_⟩
  rw [State.wired, ← hrecs, ← hwaiting]
  exact State.raise_eq ..

/-! ### Sending and sending again -/

theorem State.sealFrame_onWire (s : State) (n t : Nat) (f : Frame) : s.OnWire (s.sealFrame n t f).1 := by
  unfold State.sealFrame
  dsimp only
  split
  · exact .refl s
  split
  · exact .refl s
  · exact (s.setSa_onWire ..).trans (.ite (State.raise_onWire ..) (.refl _))

theorem State.transmit_onWire (s : State) (n : Nat) (m : SentMsg) (path tc : Nat) : s.OnWire (s.transmit n m path tc) := by
  unfold State.transmit
  extract_lets p t f a
  split
  · exact .refl s
  split
  · exact s.setSa_onWire ..
  have hseal := s.sealFrame_onWire n t f
  split
  next hsealed =>
    rw [hsealed] at hseal
    exact hseal
  next hsealed =>
    rw [hsealed] at hseal
    exact ((((hseal.trans (State.setPath_onWire ..)).trans (State.emit_onWire ..)).trans (State.setSa_onWire ..)).trans
      (State.charge_onWire ..)).trans (State.note_onWire ..)

theorem State.resend_onWire (s : State) (n : Nat) (m : SentMsg) (avoid : Option Nat) : s.OnWire (s.resend n m avoid) := by
  unfold State.resend
  split
  · exact .refl s
  split
  · exact (State.transmit_onWire ..).trans (State.note_onWire ..)
  · exact .refl s

theorem State.pump_onWire (s : State) (n : Nat) : s.OnWire (s.pump n) := by
  refine .foldl (fun s x => ?_) _ s
  split
  · exact State.transmit_onWire ..
  · exact .refl s

theorem State.respray_onWire (s : State) (t : Nat) : s.OnWire (s.respray t) :=
  .foldl (fun _ _ => .foldl (fun _ _ => State.resend_onWire ..) _ _) _ s

end Sys2Proof.Machine
end

section
/-! The life of a tine and of the herd's members (10 R326 to R329). -/

namespace Sys2Proof.Machine

section

variable {s : State} {k : Nat}

/-! ### Links and DISCOVERY (10 R327, R328) -/

/-- A tine whose peer has paused no priority sends its DISCOVERY frame at once. -/
theorem State.discover_of_open (hpaused : (s.tine k).paused = 0) :
    s.discover k = (s.setTine k { s.tine k with lastSent := s.blk.tick }).emit (.discovery k (s.discovery k)) := by
  have hopen : (s.setTine k { s.tine k with lastSent := s.blk.tick }).txPaused k s.tin.ctlPrio = false := by
    simp [State.txPaused, hpaused]
  exact State.emitCtl_of_open hopen

theorem State.linkUp_of_down (hup : s.portUp (lpPort k) = true) (hstate : (s.tine k).state < 3) (huse : (s.tineRec k).use ≠ 3)
    (hspeaks : (s.tineRec k).speaks = true) (fast : Bool) :
    s.linkUp k fast = (s.setTine k { s.tine k with linkUp := true, fast := fast, state := 1, seenTick := s.blk.tick,
                                                   matching := false, goodTicks := 0 }).discover k := by
  have hin : ¬ (s.tine k).state ≥ 4 := by omega
  have hnotFailed : (s.tine k).state ≠ 3 := by omega
  simp [State.linkUp, hup, hin, hnotFailed, huse, hspeaks]

/-- The frame says nothing of the fields in which `v` differs from the tine. -/
theorem State.setTine_discovery {v : TineSt} (h : v.localReg = (s.tine k).localReg) :
    (s.setTine k v).discovery k = s.discovery k := by
  unfold State.discovery
  rw [State.setTine_tine, h]
  rfl

/-- A link comes up: the tine is discovering, and sends its DISCOVERY frame (10 R327). -/
theorem State.linkUp_discovers (hup : s.portUp (lpPort k) = true) (hstate : (s.tine k).state < 3) (huse : (s.tineRec k).use ≠ 3)
    (hspeaks : (s.tineRec k).speaks = true) (hpaused : (s.tine k).paused = 0) (fast : Bool) :
    (s.linkUp k fast).tine k = { s.tine k with linkUp := true, fast := fast, state := 1, seenTick := s.blk.tick, matching := false,
                                               goodTicks := 0, lastSent := s.blk.tick } ∧
      (s.linkUp k fast).out = s.out ++ [.discovery k (s.discovery k)] := by
  rw [State.linkUp_of_down hup hstate huse hspeaks, State.discover_of_open (by rw [State.setTine_tine]; exact hpaused),
    State.setTine_tine, State.setTine_discovery (by rfl), State.emit_tine, State.setTine_tine]
  exact ⟨rfl, rfl⟩

theorem TineRec.pair_of_herd {r : TineRec} (h : r.herd = true) : r.pair = false := by
  simp only [TineRec.herd, Bool.and_eq_true] at h
  simpa [TineRec.pair] using h.1.2

/-- A matching DISCOVERY frame brings a discovering tine up on its own link (10 R328). -/
theorem State.tineGood_of_discovering (hstate : (s.tine k).state = 1) (joined : Bool) :
    (s.tineGood k k joined).tine k =
      { s.tine k with matching := true, carries := k, state := 2, seenJoined := joined } := by
  unfold State.tineGood
  extract_lets x moved st u v
  have hst : st = 2 := if_pos hstate
  have hv : v = u := by simp [v, moved]
  have hu : u.tine k = { s.tine k with matching := true, carries := k, state := 2, seenJoined := joined } := by
    simp [u, x, hst]
  rw [hv, ← hu]
  split <;> rfl

/-- A tine that has noted what a DISCOVERY frame says of its sender. -/
def State.heard (s : State) (k : Nat) (d : Discovery) : State :=
  s.setTine k { s.tine k with seenChip := d.chip.toNat % 8, seenTine := d.tine.toNat % 64, seenJoined := false,
                              seenTick := s.blk.tick }

/-- DISCOVERY of the peer that the tine's record names is no stranger's, and the tine is good. -/
theorem State.discovered_of_peer {d : Discovery} (hherd : (s.tineRec k).herd = true) (hup : s.portUp (lpPort k) = true)
    (hlink : (s.tine k).linkUp = true) (hstate : (s.tine k).state = 1) (hid : d.herdId = s.blockRec.herdId) (hchip : d.chip.toNat < 8)
    (hmember : s.inHerd d.chip.toNat = true) (hother : d.chip.toNat ≠ s.chip) (htine : d.tine.toNat = (s.tineRec k).peerTine)
    (hpeer : d.chip.toNat = (s.tineRec k).peerChip) : s.discovered k d = (s.heard k d).tineGood k k d.joined := by
  have hspeaks : (s.tineRec k).speaks = true := by rw [TineRec.speaks, hherd, Bool.true_or]
  have hin : ¬ d.chip.toNat ≥ 8 := by omega
  have hmember' : ∀ v, (s.setTine k v).inHerd (s.tineRec k).peerChip = true := fun _ => hpeer ▸ hmember
  have hother' : ∀ v, (s.tineRec k).peerChip ≠ (s.setTine k v).chip := fun _ => hpeer ▸ hother
  rw [hpeer] at hin
  simp [State.discovered, State.heard, hspeaks, hup, hlink, hstate, TineRec.pair_of_herd hherd, hid, htine, hpeer, hin, hmember',
    hother']

theorem State.heard_good_tine {d : Discovery} (hstate : (s.tine k).state = 1) (hchip : d.chip.toNat < 8) (htine : d.tine.toNat < 64) :
    ((s.heard k d).tineGood k k d.joined).tine k =
      { s.tine k with seenChip := d.chip.toNat, seenTine := d.tine.toNat, seenJoined := d.joined, seenTick := s.blk.tick,
                      matching := true, carries := k, state := 2 } := by
  have hheard := State.setTine_tine s k { s.tine k with seenChip := d.chip.toNat % 8, seenTine := d.tine.toNat % 64, seenJoined := false,
                                                        seenTick := s.blk.tick }
  rw [Nat.mod_eq_of_lt hchip, Nat.mod_eq_of_lt htine] at hheard
  rw [State.tineGood_of_discovering (by rw [State.heard, State.setTine_tine]; exact hstate)]
  rw [State.heard, Nat.mod_eq_of_lt hchip, Nat.mod_eq_of_lt htine, hheard]

/-! ### Failure and return (10 R328, R329) -/

theorem State.tineFails_tine (s : State) (k cause : Nat) :
    (s.tineFails k cause).tine k = { s.tine k with state := 3, cause := cause, goodTicks := 0 } := by
  rw [State.tineFails, (State.respray_onWire _ k).tine k, State.setTine_tine]

/-- The kind of a tine that goes down, raised for the slices it strands or for none, leaves the tines. -/
theorem State.tineDown_tine (s : State) (k : Nat) :
    (s.tineDown k).tine k = { s.tine k with state := 3, cause := 0xC8, goodTicks := 0 } := by
  unfold State.tineDown
  extract_lets u
  have hu : s.OnWire u := by
    unfold u
    split
    · exact State.raise_onWire ..
    · exact .foldl (fun _ _ => State.raise_onWire ..) _ s
  rw [State.tineFails_tine, hu.tine]

theorem State.discoveryLate_of_silent (hlink : (s.tine k).linkUp = true) (hstate : (s.tine k).state = 1 ∨ (s.tine k).state = 2)
    (hspeaks : (s.tineRec k).speaks = true) (hsilent : (s.tine k).seenTick + 192 ≤ s.blk.tick) :
    s.discoveryLate k =
      ((s.setTine k { s.tine k with matching := false }).raise (tinUnit k) 0x6C 1 13 k 0 0).tineFails k 0x6C := by
  simp [State.discoveryLate, hlink, hstate, hspeaks, hsilent]

theorem State.linkFell_of_used (hlink : (s.tine k).linkUp = true) (hstate : (s.tine k).state = 1 ∨ (s.tine k).state = 2) :
    s.linkFell k = (s.setTine k { s.tine k with linkUp := false, matching := false, goodTicks := 0 }).tineDown k := by
  simp [State.linkFell, hlink, hstate]

/-- A failed tine that has been good for 16 ticks is up; what its connections then send leaves it so (10 R329). -/
theorem State.tineBack_of_good (hstate : (s.tine k).state = 3) (hgood : (s.tine k).goodTicks ≥ 16)
    (hwhole : (s.unit (tinUnit k)).failed = false) (honline : (s.unit (tinUnit k)).offlineAt = none) :
    (s.tineBack k).tine k = { s.tine k with state := 2, goodTicks := 0 } := by
  unfold State.tineBack
  extract_lets x u v
  rw [if_pos (by simp [x, hstate, hgood, hwhole, honline]), (State.OnWire.foldl (fun _ _ => State.pump_onWire ..) _ v).tine]
  change u.tine k = _
  exact State.setTine_tine s k _

/-! ### The loss of a member (10 R326) -/

theorem foldl_eq_self {α β : Type} {f : β → α → β} {b : β} {l : List α} (h : ∀ a ∈ l, f b a = b) : l.foldl f b = b := by
  induction l with
  | nil => rfl
  | cons a l ih =>
    rw [List.foldl_cons, h a (List.mem_cons_self ..)]
    exact ih fun x hx => h x (List.mem_cons_of_mem _ hx)

/-- A chip that no transaction waits for and of which no home holds a line leaves the homes as they are. -/
theorem State.dropChip_of_unheld {c : Nat} (htxns : s.txns = []) (hfilter : ∀ h, h < 136 → (s.home h).filter = []) :
    (s.dropChipSnoops c).dropChipLines c = s := by
  have hsnoops : s.dropChipSnoops c = s := by simp [State.dropChipSnoops, htxns]
  rw [hsnoops]
  refine foldl_eq_self fun h hh => ?_
  rw [hfilter h (List.mem_range.mp hh)]
  rfl

theorem State.chipLines_of_unheld (hfilter : ∀ h, h < 136 → (s.home h).filter = []) (c : Nat) (die : Option Nat) :
    s.chipLines c die = [] := by
  refine List.flatMap_eq_nil_iff.mpr fun h hh => ?_
  rw [hfilter h (List.mem_range.mp hh)]
  rfl

/-- A read of a tile that ends with an error is answered with it, and leaves the record of requests. -/
theorem State.remoteEnd_of_read {r : RemoteReq} {p tag : Nat} {st : Status} (hkind : r.kind = 0) (horigin : r.origin = .tile p tag)
    (hst : st ≠ .ok) (state : Nat) (data : Line) :
    s.remoteEnd r st state data =
      ({ s with remotes := s.remotes.filter fun x => !x.same r } : State).tileRsp p tag st 0 data := by
  have hposted : r.posted = false := by rw [RemoteReq.posted, hkind]; rfl
  simp only [State.remoteEnd, hposted, horigin, hst, Bool.false_and, Bool.false_eq_true, if_false]

/-- The tine that names a lost member: the first whose record reaches it, or tine 0. -/
def State.tineToward (s : State) (c : Nat) : Nat :=
  ((List.range 64).find? fun t => (s.tineRec t).herd && (s.tineRec t).peerChip == c).getD 0

/-- The block with a member noted as lost, and its kind raised. -/
def State.mourning (s : State) (c : Nat) : State :=
  let u := s.raise (tinUnit (s.tineToward c)) 0x71 2 11 c 0 0
  { u with tin := { u.tin with lost := u.tin.lost ||| BitVec.ofNat 8 (1 <<< c) } }

/-- The kind and the mark are all that a member's loss first changes. -/
theorem State.mourning_eq_wired (s : State) (c : Nat) :
    ∃ b, s.mourning c = { s.wired b with tin := { s.tin with lost := s.tin.lost ||| BitVec.ofNat 8 (1 <<< c) } } := by
  obtain ⟨b, hb⟩ := s.raise_onWire (tinUnit (s.tineToward c)) 0x71 2 11 c 0 0
  rw [State.mourning, hb]
  exact ⟨b, rfl⟩

/-- What the loss of a chip ends of the requests that wait for it, and of the slot toward it. -/
def State.bereft (s : State) (c : Nat) : State :=
  let u := (s.remotes.filter fun r => r.chip == c && r.done.isNone).foldl (fun (s : State) r => s.remoteEnd r .timeout 0 0) s
  { u with sas := u.sas.map fun a => if a.2.tx && a.2.kind == 1 && a.2.chip == c then (a.1, { a.2 with msgs := [] }) else a }

theorem State.chipLost_of_unheld {c : Nat} (htxns : (s.mourning c).txns = [])
    (hfilter : ∀ h, h < 136 → ((s.mourning c).home h).filter = []) (hflushes : ((s.mourning c).bereft c).flushes = []) :
    s.chipLost c = (s.mourning c).bereft c := by
  unfold State.chipLost
  extract_lets t u1 tin u2 u3 u4 u5 u6 clear u7
  have h2 : u2 = s.mourning c := rfl
  have h3 : u3 = s.mourning c := State.dropChip_of_unheld htxns hfilter
  have h4 : u4 = s.mourning c := by
    unfold u4
    rw [h3, State.chipLines_of_unheld hfilter]
    rfl
  have h5 : u5 = s.mourning c := by
    unfold u5
    rw [h4, State.settle, State.settleN_of_no_txns htxns]
  have h7 : u7 = (s.mourning c).bereft c := by
    rw [← h5]
    rfl
  rw [h7, hflushes]
  rfl

/-- Of a block in which one read of a tile waits for the lost chip, the read is answered and the rest stays. -/
theorem State.bereft_of_read {c p tag : Nat} {r : RemoteReq} (hremotes : s.remotes = [r]) (hchip : r.chip = c) (hdone : r.done = none)
    (hkind : r.kind = 0) (horigin : r.origin = .tile p tag) :
    ∃ sas, s.bereft c = { ({ s with remotes := [] } : State).tileRsp p tag .timeout 0 0 with sas := sas } := by
  have hends : s.remotes.filter (fun r => r.chip == c && r.done.isNone) = [r] := by
    simp [hremotes, hchip, hdone]
  have hnone : (s.remotes.filter fun x => !x.same r) = [] := by
    simp [hremotes, RemoteReq.same]
  unfold State.bereft
  rw [hends, List.foldl_cons, List.foldl_nil, State.remoteEnd_of_read hkind horigin (by decide), hnone]
  exact ⟨_, rfl⟩

/-- A member away for 4 ticks, of which the block holds nothing but a tile's read that waits for it: it is lost, and the read is
answered TIMEOUT. -/
theorem State.chipCheck_of_away {c p tag : Nat} {r : RemoteReq} (hmember : s.inHerd c = true) (hother : c ≠ s.chip)
    (haway : tget 0 s.tin.absent c ≥ 4) (hnew : Nat.testBit s.tin.lost.toNat c = false) (htxns : s.txns = []) (hflushes : s.flushes = [])
    (hfilter : ∀ h, h < 136 → (s.home h).filter = []) (hremotes : s.remotes = [r]) (hchip : r.chip = c) (hdone : r.done = none)
    (hkind : r.kind = 0) (horigin : r.origin = .tile p tag) (hup : s.portUp p = true) (htag : (s.tile p).tags.contains tag = true) :
    (s.chipCheck c).tin.lost = s.tin.lost ||| BitVec.ofNat 8 (1 <<< c) ∧ (s.chipCheck c).remotes = [] ∧
      .tileRsp p tag .timeout 0 0 ∈ (s.chipCheck c).out := by
  have hcheck : s.chipCheck c = s.chipLost c := by
    simp only [State.chipCheck, hmember, bne_iff_ne.mpr hother, haway, hnew, decide_true, Bool.not_false, Bool.and_self, if_true]
  have hlost := State.chipLost_of_unheld (s := s) (c := c)
  obtain ⟨b, hmourning⟩ := s.mourning_eq_wired c
  generalize s.mourning c = v at hlost hmourning
  have hup' : v.portUp p = true := by rw [hmourning]; exact hup
  have htag' : tag ∈ (v.tile p).tags := by rw [hmourning]; exact List.contains_iff_mem.mp htag
  have hmark : v.tin.lost = s.tin.lost ||| BitVec.ofNat 8 (1 <<< c) := by rw [hmourning]
  have hflushes' : v.flushes = [] := by rw [hmourning]; exact hflushes
  obtain ⟨sas, hbereft⟩ := State.bereft_of_read (s := v) (c := c) (by rw [hmourning]; exact hremotes) hchip hdone hkind horigin
  have hnoflush : (v.bereft c).flushes = [] := by
    rw [hbereft]
    exact (State.tileRsp_flushes ..).trans hflushes'
  rw [hcheck, hlost (by rw [hmourning]; exact htxns) (by rw [hmourning]; exact hfilter) hnoflush, hbereft]
  exact ⟨(congrArg TinState.lost (State.tileRsp_tin ..)).trans hmark, State.tileRsp_remotes ..,
    State.tileRsp_mem_tileRsps (s := { v with remotes := [] }) (d := 0) hup' htag' .timeout 0⟩

end

/-- Settles O44: each command of a tine's life changes that tine's state as its rule says, and what the tine then sends leaves it; a
member that is away leaves nothing of itself but the read, which is answered. -/
theorem tinesAndMembers : Obligations.TinesAndMembers := by
  unfold Obligations.TinesAndMembers
  intro s k
  refine ⟨?_, ?_, ?_, ?_, ?_, ?_, ?_⟩
  · intro fast hup hstate huse hspeaks hpaused
    obtain ⟨htine, hout⟩ := State.linkUp_discovers hup hstate huse hspeaks hpaused fast
    exact ⟨_, rfl, (congrArg TineSt.linkUp htine :), (congrArg TineSt.state htine :), (congrArg TineSt.fast htine :), hout⟩
  · intro hlink hstate hspeaks hdue hpaused
    have hsent : exec (.discoverySend k) s = .next (s.discover k.toNat) := by
      refine congrArg Host.Outcome.next (if_pos ?_)
      simp [hlink, hstate, hspeaks, hdue]
    rw [State.discover_of_open hpaused] at hsent
    exact ⟨_, hsent, congrArg TineSt.lastSent (State.setTine_tine s k.toNat _), rfl⟩
  · intro d hherd hup hlink hstate hcarries hid hchip hmember hother htine htineLt hpeer
    have hgood := State.discovered_of_peer hherd hup hlink hstate hid hchip hmember hother htine hpeer
    have hnow := State.heard_good_tine (s := s) hstate hchip htineLt
    exact ⟨_, congrArg Host.Outcome.next hgood, (congrArg TineSt.state hnow :), (congrArg TineSt.matching hnow :),
      (congrArg TineSt.seenChip hnow :), (congrArg TineSt.seenTine hnow :), (congrArg TineSt.seenTick hnow :)⟩
  · intro hlink hstate hspeaks hsilent
    have hfails := State.discoveryLate_of_silent hlink hstate hspeaks hsilent
    refine ⟨_, congrArg Host.Outcome.next hfails, ?_, ?_⟩
    · exact congrArg TineSt.state (State.tineFails_tine ..)
    · exact congrArg TineSt.cause (State.tineFails_tine ..)
  · intro hlink hstate
    have hdown := State.tineDown_tine (s.setTine k.toNat { s.tine k.toNat with linkUp := false, matching := false, goodTicks := 0 }) k.toNat
    refine ⟨_, congrArg Host.Outcome.next (State.linkFell_of_used hlink hstate), (congrArg TineSt.state hdown :),
      (congrArg TineSt.cause hdown :), ?_⟩
    rw [State.setTine_tine] at hdown
    exact (congrArg TineSt.linkUp hdown :)
  · intro hstate hgood hwhole honline
    have hback := State.tineBack_of_good hstate hgood hwhole honline
    exact ⟨_, rfl, (congrArg TineSt.state hback :), (congrArg TineSt.goodTicks hback :)⟩
  · intro chip r p tag hmember hother haway hnew htxns hflushes hfilter hremotes hchip hdone hkind horigin hup htag
    exact ⟨_, rfl, State.chipCheck_of_away hmember hother haway hnew htxns hflushes hfilter hremotes hchip hdone hkind horigin hup htag⟩

end Sys2Proof.Machine
end

section
/-! DATA and ACK frames of a connection (10 R316, R318, R319). -/

namespace Sys2Proof.Machine

section

variable {s : State} {k n : Nat} {f : Frame} {m : LinkMsg}

/-! ### The pauses that come with a frame (10 R317) -/

theorem foldl_emit (l : List Output) (s : State) : l.foldl State.emit s = { s with out := s.out ++ l } := by
  induction l generalizing s with
  | nil => rw [List.append_nil]; rfl
  | cons o l ih =>
    rw [List.foldl_cons, ih, State.emit, List.append_assoc]
    rfl

/-- The part of a tine that says which link it carries and what it pauses. -/
def TineSt.link (x : TineSt) : Nat × BitVec 8 × BitVec 8 := (x.carries, x.xoff, x.xoffBefore)

theorem State.setTine_link (s : State) (k : Nat) {x : TineSt} (h : x.link = (s.tine k).link) :
    ((s.setTine k x).tine k).link = (s.tine k).link := by
  rw [State.setTine_tine, h]

theorem State.ctlRelease_link (s : State) (k : Nat) :
    (∃ tines out, s.ctlRelease k = { s with tines := tines, out := out }) ∧ ((s.ctlRelease k).tine k).link = (s.tine k).link := by
  unfold State.ctlRelease
  extract_lets x u
  have hu : (u.tine k).link = (s.tine k).link := s.setTine_link k rfl
  split
  · exact ⟨⟨_, _, rfl⟩, rfl⟩
  split
  · exact ⟨⟨_, _, rfl⟩, hu⟩
  · rw [foldl_emit]
    exact ⟨⟨_, _, rfl⟩, hu⟩

/-- Sampling lp_tx_paused touches the tine and the transfers; the tine goes on with its link and its own pauses. -/
theorem State.pauseSeen_link (s : State) (k : Nat) (p : BitVec 8) :
    (∃ tines out, s.pauseSeen k p = { s with tines := tines, out := out }) ∧ ((s.pauseSeen k p).tine k).link = (s.tine k).link := by
  unfold State.pauseSeen
  split
  · exact ⟨⟨_, _, rfl⟩, rfl⟩
  · obtain ⟨⟨tines, out, hrelease⟩, hlink⟩ := (s.setTine k { s.tine k with paused := p }).ctlRelease_link k
    exact ⟨⟨tines, out, hrelease⟩, hlink.trans (s.setTine_link k rfl)⟩

/-! ### Admission (10 R316) -/

/-- What a frame without SecTAG must be for its tine to take it, by the receive slot of cipher 1 that knows its sender. -/
structure PlainFrame (s : State) (k n : Nat) (f : Frame) : Prop where
  up : s.portUp (lpPort k) = true
  state : (s.tine k).state < 4
  par : f.parErr = 0
  fcs : f.fcsErr = false
  version : f.version = 1
  etype : f.etype = 0x88B5
  default : s.blockRec.ethertype = 0
  udp : f.udp = false
  sec : f.sec = none
  slot : s.sas.find? (fun a => (!a.2.tx && (a.2.state == 2 || a.2.state == 3)) && a.2.cipher == 1 && a.2.peer == f.src
    && Nat.testBit a.2.tines.toNat (s.tine k).carries) = some (n, s.sa n)
  back : (s.returnSa n).isSome = true

theorem State.judgeFrame_of_plain (h : PlainFrame s k n f) : s.judgeFrame k f = (s.pauseSeen k f.paused, some n) := by
  obtain ⟨hup, hstate, hpar, hfcs, hversion, hetype, hdefault, hudp, hsec, hslot, hback⟩ := h
  obtain ⟨⟨tines, out, hpause⟩, hlink⟩ := s.pauseSeen_link k f.paused
  have hcarries : ((s.pauseSeen k f.paused).tine k).carries = (s.tine k).carries := congrArg (·.1) hlink
  have hstop : ¬ (s.tine k).state ≥ 4 := by omega
  rw [← hcarries] at hslot
  unfold State.judgeFrame
  generalize s.pauseSeen k f.paused = u at hpause hslot
  have hsas : u.sas = s.sas := by rw [hpause]
  have hback' : (u.returnSa n).isNone = false := by
    rw [hpause, Option.isNone_eq_false_iff]
    exact hback
  have hdefault' : u.blockRec.ethertype = 0 := by rw [hpause]; exact hdefault
  rw [← hsas] at hslot
  simp [hup, hstop, hpar, hfcs, hversion, hetype, hdefault', hudp, hsec, hslot, hback']

/-! ### The message of a frame (10 R316) -/

theorem State.smear_of_not_stopped (h : s.stopped = false) : s.smear k = s := by
  unfold State.smear
  rw [if_neg (by simp [h])]

/-- The message `m` as it stands in the ingress buffer. -/
def State.arrived (s : State) (t n tc path psn msn : Nat) (m : LinkMsg) : InMsg :=
  { sa := n, tine := t, chip := 255, slice := (s.sa n).slice, fn := (s.sa n).fn, herd := false, msg := m, path := path, psn := psn,
    msn := msn, tc := tc }

/-- A message of a connection without a herd that its window takes goes to the end of the buffer. -/
theorem State.msgIn_of_new {tc path psn msn : Nat} (hkind : (s.sa n).kind = 0) (hok : msgOk 0 m = true)
    (hseen : s.msnSeen n msn = false) (hwindow : (msn + 2 ^ 32 - (s.sa n).msn) % 2 ^ 32 < 8192) :
    (s.msgIn k n tc path psn msn m).2 = true ∧
      (s.msgIn k n tc path psn msn m).1.inbox = s.inbox ++ [s.arrived k n tc path psn msn m] ∧
      (s.msgIn k n tc path psn msn m).1.paths = s.paths := by
  have hherd : ((s.sa n).kind == 1) = false := by rw [hkind]; rfl
  have hwhole : ¬ (msn + 2 ^ 32 - (s.sa n).msn) % 2 ^ 32 ≥ 8192 := by omega
  unfold State.msgIn
  extract_lets a herd x u
  have hu : u.inbox = s.inbox ∧ u.paths = s.paths := by
    unfold u
    split <;> exact ⟨rfl, rfl⟩
  have hx : x = s.arrived k n tc path psn msn m := by simp [x, herd, State.arrived, hherd, a]
  rw [if_neg (by simp [hseen]), if_neg hwhole, if_neg (by simp [a, hkind, hok]), ← hx]
  exact ⟨rfl, congrArg (· ++ [x]) hu.1, hu.2⟩

/-- A packet number a message of which still stands in the buffer is not yet acknowledged. -/
theorem State.psnTaken_of_held {path psn : Nat} {x : InMsg} (hx : x ∈ s.inbox) (hsa : x.sa = n) (hpath : x.path = path)
    (hpsn : x.psn = psn) : s.psnTaken n path psn = s := by
  have hany : s.inbox.any (fun m => m.sa == n && m.path == path && m.psn == psn) = true :=
    List.any_eq_true.mpr ⟨x, hx, by simp [hsa, hpath, hpsn]⟩
  unfold State.psnTaken
  rw [if_pos (by rw [hany, Bool.or_true])]

/-- DATA: an admitted frame puts its message into the ingress buffer. -/
theorem State.dataIn_of_plain (hplain : PlainFrame s k n f) (hce : f.ce = false) (hxoff : (s.tine k).xoff = 0)
    (hbefore : (s.tine k).xoffBefore = 0) (hmsgs : f.msgs = [m]) (hkind : (s.sa n).kind = 0) (hok : msgOk 0 m = true)
    (hseen : s.msnSeen n f.msn.toNat = false) (hbelow : f.msn.toNat < (s.sa n).msn + 8192) (hfrom : (s.sa n).msn ≤ f.msn.toNat) :
    ∃ tc, (s.dataIn k f).inbox = s.inbox ++ [s.arrived k n tc f.path.toNat f.psn.toNat f.msn.toNat m] ∧
      (s.dataIn k f).paths = s.paths := by
  have hjudge := State.judgeFrame_of_plain hplain
  obtain ⟨⟨tines, out, hpause⟩, hlink⟩ := s.pauseSeen_link k f.paused
  have hpauses : ((s.pauseSeen k f.paused).tine k).xoff = 0 ∧ ((s.pauseSeen k f.paused).tine k).xoffBefore = 0 :=
    ⟨(congrArg (·.2.1) hlink :).trans hxoff, (congrArg (·.2.2) hlink :).trans hbefore⟩
  have hmsn : f.msn.toNat % 2 ^ 32 = f.msn.toNat := Nat.mod_eq_of_lt f.msn.isLt
  have hwindow : (f.msn.toNat + 2 ^ 32 - (s.sa n).msn) % 2 ^ 32 < 8192 := by omega
  unfold State.dataIn
  rw [hjudge]
  generalize s.pauseSeen k f.paused = v at hpause hpauses
  obtain ⟨hx, hb⟩ := hpauses
  have hmarked : (f.ce || Nat.testBit ((v.tine k).xoff ||| (v.tine k).xoffBefore).toNat f.prio.toNat) = false := by
    simp [hce, hx, hb]
  have hzip : [m].zip (List.range 64) = [(m, 0)] := rfl
  simp only [hmarked, hmsgs, hzip, List.isEmpty_cons, List.length_singleton, List.foldl_cons, List.foldl_nil, Nat.add_zero, hmsn,
    Bool.true_and, if_neg Bool.false_ne_true]
  generalize hw : v.note (tinUnit k) 0x19 (some (v.sa n).slice) 1 = w
  have hsa : w.sa n = s.sa n := by rw [← hw, hpause]; rfl
  have hseen' : w.msnSeen n f.msn.toNat = false := by rw [← hw, hpause]; exact hseen
  have hinbox : w.inbox = s.inbox := by rw [← hw, hpause]; rfl
  have hpaths : w.paths = s.paths := by rw [← hw, hpause]; rfl
  rw [← hsa] at hwindow hkind
  refine ⟨field w.tin.rxClass (2 * f.prio.toNat) 2, ?_⟩
  obtain ⟨htaken, hin, hkept⟩ := State.msgIn_of_new (k := k) (tc := field w.tin.rxClass (2 * f.prio.toNat) 2)
    (path := f.path.toNat) (psn := f.psn.toNat) hkind hok hseen' hwindow
  have harrived (tc : Nat) : w.arrived k n tc f.path.toNat f.psn.toNat f.msn.toNat m
      = s.arrived k n tc f.path.toNat f.psn.toNat f.msn.toNat m := by rw [State.arrived, hsa]; rfl
  have hheld : w.arrived k n (field w.tin.rxClass (2 * f.prio.toNat) 2) f.path.toNat f.psn.toNat f.msn.toNat m ∈
      (w.msgIn k n (field w.tin.rxClass (2 * f.prio.toNat) 2) f.path.toNat f.psn.toNat f.msn.toNat m).1.inbox := by
    rw [hin]
    exact List.mem_append_right _ (List.mem_singleton_self _)
  rw [if_neg (by decide), if_pos htaken,
    State.psnTaken_of_held (n := n) (path := f.path.toNat) (psn := f.psn.toNat) hheld rfl rfl rfl, hin, hkept, harrived, hinbox, hpaths]
  exact ⟨rfl, rfl⟩

/-! ### ACK and ACK_SEND (10 R318, R319) -/

theorem State.pump_of_none (h : (s.sa n).msgs = []) : s.pump n = s := by
  have hnone : (([n].filter fun n => (s.sa n).state == 2 && (s.sa n).tx).flatMap fun n =>
      ((s.sa n).msgs.filter (s.unsent n)).map fun m => (n, m)) = [] := by
    rw [List.flatMap_eq_nil_iff]
    intro j hj
    obtain rfl : j = n := List.mem_singleton.mp (List.mem_of_mem_filter hj)
    rw [h]
    rfl
  unfold State.pump State.pumpAll
  simp only [hnone]
  rfl

/-- An ACK that covers the one message of its connection ends the message's retention, and its path starts again. -/
theorem State.ackTaken_of_covered {rs : Nat} {m : SentMsg} (hback : s.returnSa rs = some n) (hmsgs : (s.sa n).msgs = [m])
    (hsent : m.sent = true) (hpath : m.path = f.path.toNat) (hcovers : ackCovers f m.psn = true) (hce : f.ceCount = 0) :
    s.ackTaken rs f
      = (s.setSa n { s.sa n with msgs := [] }).setPath n m.path { s.pathOf n m.path with retx := 0 } := by
  have hgone : ((m.path == f.path.toNat && ackCovers f m.psn) || seqLe m.msn f.msn.toNat) = true := by simp [hpath, hcovers]
  unfold State.ackTaken
  split
  next hno => exact absurd (hback.symm.trans hno) (Option.some_ne_none _)
  next n' hsome =>
    obtain rfl : n = n' := Option.some.inj (hback.symm.trans hsome)
    extract_lets path a gone some_ u p p' p'' w lost
    have hm : gone m = true := by
      change (m.sent && ((m.path == f.path.toNat && ackCovers f m.psn) || seqLe m.msn f.msn.toNat)) = true
      rw [hsent, hgone, Bool.and_true]
    have hany : some_ = true := by simp [some_, a, hmsgs, hm]
    have hkeep : a.msgs.filter (fun m => !gone m) = [] := by simp [a, hmsgs, hm]
    have hp : p'' = { s.pathOf n m.path with retx := 0 } := by
      unfold p'' p'
      rw [if_neg (by simp [hce]), if_pos hany]
      unfold p path
      rw [← hpath]
      rfl
    have hu : (w.sa n).msgs = [] := by
      change (u.sa n).msgs = []
      unfold u
      rw [State.setSa_sa]
      exact hkeep
    have hlost : lost = [] := by
      unfold lost
      rw [hu]
      rfl
    rw [hlost, List.foldl_nil, State.pump_of_none hu]
    unfold w u path
    rw [hp, hkeep, ← hpath]

/-- A frame that carries no SecTAG, of a slot of cipher 1, is sealed by its header alone. -/
theorem State.sealFrame_of_plain (s : State) {r : Nat} (t : Nat) (f : Frame) (h : (s.sa r).cipher = 1) :
    ∃ g, s.sealFrame r t f = (s, some g) ∧ g.msgs = f.msgs ∧ g.path = f.path ∧ g.psn = f.psn ∧ g.msn = f.msn ∧
      g.ceCount = f.ceCount := by
  unfold State.sealFrame
  dsimp only
  rw [if_pos h]
  exact ⟨_, rfl, rfl, rfl, rfl, rfl, rfl⟩

theorem State.emitCtl_of_unpaused (s : State) (o : Output) (h : (s.tine k).paused = 0) : s.emitCtl k o = s.emit o := by
  unfold State.emitCtl State.txPaused
  rw [if_neg (by simp [h])]

/-- ACK_SEND: the path's acknowledgement goes to the tine it may go by, and the path counts anew. -/
theorem State.ackSend_of_due {path r : Nat} (hstop : s.stopped = false) (hfatal : s.fatal = false)
    (hdue : (s.pathOf n path).sinceAck ≠ 0) (htx : (s.sa n).tx = false) (hback : s.returnSa n = some r)
    (htine : s.ackTine r = some k) (hpaused : (s.tine k).paused = 0) (hcipher : (s.sa r).cipher = 1) :
    ∃ g, s.ackSend n path
        = (s.setPath n path { s.pathOf n path with sinceAck := 0, ceCount := 0 }).emit (.tineTx k g) ∧
      g.msgs = [] ∧ g.path = BitVec.ofNat 8 path ∧ g.psn = BitVec.ofNat 32 ((s.pathOf n path).nextPsn + 2 ^ 32 - 1) ∧
      g.msn = BitVec.ofNat 32 ((s.sa n).msn + 2 ^ 32 - 1) ∧ g.ceCount = BitVec.ofNat 32 (s.pathOf n path).ceCount := by
  unfold State.ackSend
  extract_lets p sack f u
  rw [if_neg (by simp [hstop, hfatal, htx, p, hdue]), hback]
  dsimp only
  rw [htine]
  dsimp only
  obtain ⟨g, hseal, hmsgs, hpath, hpsn, hmsn, hce⟩ := u.sealFrame_of_plain k f hcipher
  rw [hseal]
  exact ⟨g, u.emitCtl_of_unpaused _ hpaused, hmsgs, hpath, hpsn, hmsn, hce⟩

end

/-- Settles O40: a DATA frame's message is the next of the buffer because its tine marks nothing, its window takes it and its packet
number still stands there; an ACK that covers the only message leaves nothing to send again or to pump; ACK_SEND emits at once, as its
tine is not paused. -/
theorem framesOfAConnection : Obligations.FramesOfAConnection := by
  unfold Obligations.FramesOfAConnection
  intro s hstop hfatal
  refine ⟨?_, ?_, ?_⟩
  · intro k f m n hup hstate hpar hfcs hversion hetype hdefault hudp hsec hslot hback hce hxoff hbefore hmsgs hkind hok hseen hbelow
      hfrom
    obtain ⟨tc, hin, hpaths⟩ := State.dataIn_of_plain ⟨hup, hstate, hpar, hfcs, hversion, hetype, hdefault, hudp, hsec, hslot,
      hback⟩ hce hxoff hbefore hmsgs hkind hok hseen hbelow hfrom
    have hexec : exec (.dataFrameReceive k f) s = .next (s.dataIn k.toNat f) := by
      change execDataFrameReceive k f s = _
      rw [execDataFrameReceive, if_pos hup, State.smear_of_not_stopped hstop, State.orLand_of_not_stopped _ _ hstop]
    exact ⟨_, _, hexec, hin, rfl, rfl, rfl, rfl, rfl, rfl, rfl, hpaths⟩
  · intro k f m rs n hup hjudge hback _ hmsgs hsent hpath hcovers hce
    have hexec : exec (.ackReceive k f) s = .next ((s.note (tinUnit k.toNat) 0x19 (some (s.sa rs).slice) 1).ackTaken rs f) := by
      change execAckReceive k f s = _
      rw [execAckReceive, if_pos hup, State.orLand_of_not_stopped _ _ hstop, State.ackIn, hjudge]
    rw [State.ackTaken_of_covered (s := s.note (tinUnit k.toNat) 0x19 (some (s.sa rs).slice) 1) hback hmsgs hsent hpath hcovers hce]
      at hexec
    exact ⟨_, hexec, rfl, rfl⟩
  · intro n path r k hdue htx hback htine hpaused hcipher
    obtain ⟨g, hsend, hmsgs, hpath, hpsn, hmsn, hce⟩ := State.ackSend_of_due hstop hfatal hdue htx hback htine hpaused hcipher
    refine ⟨_, g, rfl, ?_, hmsgs, ?_, hpsn, hmsn, hce, ?_⟩
    · rw [hsend]
      rfl
    · rw [hpath, BitVec.ofNat_toNat, BitVec.setWidth_eq]
    · rw [hsend]
      rfl

end Sys2Proof.Machine
end

section
/-! The messages of a connection between one receive slot and its return slot (10 R311): what is left of the block when a message is
taken out of the ingress buffer, and what it is to send an answer. -/

namespace Sys2Proof.Machine

section

variable {s u v : State} {n k : Nat} {a b : SaSt}

/-! ### The two slots (10 R311) -/

/-- What of a slot says whose it is and what it has still to send. -/
def SaSt.seat (a : SaSt) : Reg × BitVec 128 × Nat × List SentMsg := (a.cfg, a.peer, a.state, a.msgs)

theorem sameConn_congr {a b c d : SaSt} (hab : a.seat = c.seat) (hbd : b.seat = d.seat) : sameConn a b = sameConn c d := by
  obtain ⟨hacfg, hapeer, -, -⟩ : a.cfg = c.cfg ∧ a.peer = c.peer ∧ a.state = c.state ∧ a.msgs = c.msgs := by
    simpa [SaSt.seat] using hab
  obtain ⟨hbcfg, hbpeer, -, -⟩ : b.cfg = d.cfg ∧ b.peer = d.peer ∧ b.state = d.state ∧ b.msgs = d.msgs := by
    simpa [SaSt.seat] using hbd
  simp only [sameConn, SaSt.slice, SaSt.kind, SaSt.chip, hacfg, hapeer, hbcfg, hbpeer]

theorem SaSt.tx_congr {a c : SaSt} (h : a.seat = c.seat) : a.tx = c.tx := by
  have hcfg : a.cfg = c.cfg := congrArg (·.1) h
  rw [SaSt.tx, SaSt.tx, hcfg]

theorem State.sa_rx_of_linked (h : Linked s n k a b) : s.sa n = a := by
  rw [State.sa, h.1]
  simp [tget, mget?]

theorem State.sa_tx_of_linked (h : Linked s n k a b) : s.sa k = b := by
  obtain ⟨hsas, hlt, -⟩ := h
  rw [State.sa, hsas]
  simp [tget, mget?, hlt.ne]

/-- Two slots stand in the table: one of them may be changed in what is not its seat. -/
theorem State.linked_setSa (h : Linked s n k a b) {j : Nat} {c : SaSt} (hj : j = n ∨ j = k) (hc : c.seat = (s.sa j).seat) :
    ∃ a' b', Linked (s.setSa j c) n k a' b' := by
  have hrx := State.sa_rx_of_linked h
  have htx := State.sa_tx_of_linked h
  obtain ⟨hsas, hlt, hatx, hast, hbtx, hbst, hconn, hroom⟩ := h
  have hstate : c.state = (s.sa j).state := congrArg (·.2.2.1) hc
  have hne : c ≠ {} := by
    rintro rfl
    rcases hj with rfl | rfl
    · rw [hrx, hast] at hstate
      cases hstate
    · rw [htx, hbst] at hstate
      cases hstate
  rcases hj with rfl | rfl
  · rw [hrx] at hc hstate
    refine ⟨c, b, ?_, hlt, (SaSt.tx_congr hc).trans hatx, hstate.trans hast, hbtx, hbst, (sameConn_congr hc rfl).trans hconn, hroom⟩
    rw [State.setSa_sas, hsas, tset, if_neg hne]
    simp [mput]
  · rw [htx] at hc hstate
    have hmsgs : c.msgs = b.msgs := congrArg (·.2.2.2) hc
    refine ⟨a, c, ?_, hlt, hatx, hast, (SaSt.tx_congr hc).trans hbtx, hstate.trans hbst, (sameConn_congr rfl hc).trans hconn,
      hmsgs ▸ hroom⟩
    rw [State.setSa_sas, hsas, tset, if_neg hne]
    simp [mput, hlt.ne', hlt.not_gt]

theorem State.linked_congr (h : Linked s n k a b) (hsas : u.sas = s.sas) : Linked u n k a b := by
  rw [Linked, hsas]
  exact h

/-- The receive slots of the connection are the one. -/
theorem State.rxSlots_of_linked (h : Linked s n k a b) {j : Nat} (hj : j ∈ s.rxSlots n) : j = n ∨ j = k := by
  rw [State.rxSlots, h.1] at hj
  obtain ⟨x, hx, rfl⟩ := List.mem_map.mp hj
  have := List.mem_of_mem_filter hx
  simp only [List.mem_cons, List.not_mem_nil, or_false] at this
  rcases this with rfl | rfl
  · exact .inl rfl
  · exact .inr rfl

theorem State.returnSa_of_linked (h : Linked s n k a b) : s.returnSa n = some k := by
  have hrx := State.sa_rx_of_linked h
  obtain ⟨hsas, -, hatx, -, hbtx, hbst, hconn, -⟩ := h
  simp [State.returnSa, State.txSa, hsas, hrx, hatx, hbtx, hbst, hconn]

/-! ### A message leaves the buffer (10 R316, R318, R323) -/

/-- Taking a message touches, beside what sending touches, the tines alone, and the two slots stay a connection. -/
structure State.Aside (n k : Nat) (s u : State) : Prop where
  beside : ∃ w tines, u = { s.wired w with tines := tines }
  linked : ∃ a b, Linked u n k a b

theorem State.Aside.trans (h : s.Aside n k u) (g : u.Aside n k v) : s.Aside n k v := by
  obtain ⟨⟨w, tines, rfl⟩, -⟩ := h
  obtain ⟨⟨w', tines', rfl⟩, hlinked⟩ := g
  exact ⟨⟨w', tines', rfl⟩, hlinked⟩

theorem State.OnWire.aside (h : s.OnWire u) (hlinked : ∃ a b, Linked u n k a b) : s.Aside n k u := by
  obtain ⟨w, rfl⟩ := h
  exact ⟨⟨w, s.tines, rfl⟩, hlinked⟩

theorem State.setTine_aside (h : Linked s n k a b) (t : Nat) (x : TineSt) : s.Aside n k (s.setTine t x) :=
  ⟨⟨⟨s.sas, s.paths, s.out, s.qos, s.obs, s.flt, s.fawn⟩, tset (tineInit t) s.tines t x, rfl⟩, a, b, h⟩

theorem State.emit_aside (h : Linked s n k a b) (o : Output) : s.Aside n k (s.emit o) := (s.emit_onWire o).aside ⟨a, b, h⟩

theorem State.aside_refl (h : Linked s n k a b) : s.Aside n k s := (State.OnWire.refl s).aside ⟨a, b, h⟩

theorem State.msnTaken_aside (h : Linked s n k a b) (msn : Nat) : s.Aside n k (s.msnTaken n msn) := by
  unfold State.msnTaken
  have hslots : ∀ j ∈ s.rxSlots n, j = n ∨ j = k := fun _ => State.rxSlots_of_linked h
  generalize s.rxSlots n = l at hslots
  induction l generalizing s a b with
  | nil => exact State.aside_refl h
  | cons j l ih =>
    rw [List.foldl_cons]
    dsimp only
    obtain ⟨a', b', hstep⟩ := State.linked_setSa h (j := j) (c := { s.sa j with
      msn := (advance ((s.sa j).delivered.length + 1) (s.sa j).msn ((s.sa j).delivered ++ [msn])).1,
      delivered := (advance ((s.sa j).delivered.length + 1) (s.sa j).msn ((s.sa j).delivered ++ [msn])).2 })
      (hslots j List.mem_cons_self) rfl
    exact ((State.setSa_onWire ..).aside ⟨a', b', hstep⟩).trans (ih hstep fun i hi => hslots i (List.mem_cons_of_mem _ hi))

theorem State.sealFrame_linked (h : Linked s n k a b) {r : Nat} (hr : r = n ∨ r = k) (t : Nat) (f : Frame) :
    ∃ a b, Linked (s.sealFrame r t f).1 n k a b := by
  unfold State.sealFrame
  extract_lets x l g gsec gicv u w
  split
  · exact ⟨a, b, h⟩
  split
  · exact ⟨a, b, h⟩
  · obtain ⟨a', b', hu⟩ := State.linked_setSa h (c := { x with pn := x.pn + 1, raised72 := x.raised72 || x.pn + 1 ≥ 2 ^ 63 }) hr rfl
    refine ⟨a', b', State.linked_congr hu ?_⟩
    unfold w
    split
    · exact State.raise_sas ..
    · rfl

theorem State.emitCtl_aside (h : Linked s n k a b) (t : Nat) (o : Output) : s.Aside n k (s.emitCtl t o) := by
  unfold State.emitCtl
  split
  · exact State.setTine_aside h ..
  · exact State.emit_aside h ..

theorem State.ackSend_aside (h : Linked s n k a b) (path : Nat) : s.Aside n k (s.ackSend n path) := by
  unfold State.ackSend
  extract_lets p sack f u
  split
  · exact State.aside_refl h
  rw [State.returnSa_of_linked h]
  dsimp only
  split
  · exact State.aside_refl h
  next t _ =>
    have hu : s.OnWire u := State.setPath_onWire ..
    have hseal := u.sealFrame_onWire k t f
    have hlinked := State.sealFrame_linked (State.linked_congr h rfl : Linked u n k a b) (.inr rfl) t f
    split
    next v g hsealed =>
      rw [hsealed] at hseal hlinked
      obtain ⟨a', b', hv⟩ := hlinked
      exact ((hu.trans hseal).aside ⟨a', b', hv⟩).trans (State.emitCtl_aside hv ..)
    next v hsealed =>
      rw [hsealed] at hseal hlinked
      exact (hu.trans hseal).aside hlinked

theorem State.psnTaken_aside (h : Linked s n k a b) (path psn : Nat) : s.Aside n k (s.psnTaken n path psn) := by
  unfold State.psnTaken
  extract_lets p l
  split
  · exact State.aside_refl h
  split
  next j l' _ =>
    extract_lets u
    have hu : Linked u n k a b := State.linked_congr h rfl
    have hset : s.Aside n k u := (State.setPath_onWire ..).aside ⟨a, b, hu⟩
    split
    · exact hset.trans (State.ackSend_aside hu path)
    · exact hset

theorem State.xoffDrive_aside (h : Linked s n k a b) (t : Nat) : s.Aside n k (s.xoffDrive t) := by
  unfold State.xoffDrive
  extract_lets x m
  split
  · exact State.aside_refl h
  · have hset : Linked (s.setTine t { x with xoff := m }) n k a b := State.linked_congr h rfl
    exact (State.setTine_aside h ..).trans (State.emit_aside hset _)

/-- The block without message `m`, which nobody has taken yet. -/
def State.without (s : State) (m : InMsg) : State := { s with inbox := s.inbox.filter (· != m) }

/-- A message of the connection is taken: it stands in the buffer no more. -/
theorem State.taken_aside {m : InMsg} (h : Linked s m.sa k a b) : (s.without m).Aside m.sa k (s.taken m) := by
  have hwithout : Linked (s.without m) m.sa k a b := State.linked_congr h rfl
  have hmsn := State.msnTaken_aside hwithout m.msn
  obtain ⟨a', b', h'⟩ := hmsn.linked
  have hpsn := State.psnTaken_aside h' m.path m.psn
  obtain ⟨a'', b'', h''⟩ := hpsn.linked
  exact (hmsn.trans hpsn).trans (State.xoffDrive_aside h'' m.tine)

theorem State.not_mem_taken_inbox {m : InMsg} (h : Linked s m.sa k a b) : m ∉ (s.taken m).inbox := by
  obtain ⟨⟨w, tines, htaken⟩, -⟩ := State.taken_aside h
  rw [htaken]
  intro hm
  have := List.of_mem_filter (hm : m ∈ s.inbox.filter (· != m))
  simp at this

/-! ### An answer (10 R321) -/

theorem State.sealFrame_sends {j : Nat} {msg : LinkMsg} (h : Sends s j msg) (r t : Nat) (f : Frame) :
    Sends (s.sealFrame r t f).1 j msg := by
  unfold State.sealFrame
  extract_lets x l g gsec gicv u w
  split
  · exact h
  split
  · exact h
  · have hw : w.sas = u.sas := by
      unfold w
      split
      · exact State.raise_sas ..
      · rfl
    have hmsgs : (w.sa j).msgs = (s.sa j).msgs := by
      rw [State.sa, hw]
      change (u.sa j).msgs = _
      unfold u
      by_cases hj : j = r
      · rw [hj, State.setSa_sa]
      · rw [State.setSa_sa_ne s _ hj]
    rw [Sends, hmsgs]
    exact h

/-- The slot's messages, each of the number `m.msn` with a new place: none of them is lost. -/
theorem State.setSa_sends {m : SentMsg} {f : SentMsg → SentMsg} (h : m ∈ (s.sa k).msgs)
    (hf : (f m).msg = m.msg) : Sends (s.setSa k { s.sa k with msgs := (s.sa k).msgs.map f }) k m.msg := by
  rw [Sends, State.setSa_sa]
  exact ⟨f m, List.mem_map_of_mem h, hf⟩

theorem State.transmit_sends {m : SentMsg} (h : m ∈ (s.sa k).msgs) (path tc : Nat) : Sends (s.transmit k m path tc) k m.msg := by
  unfold State.transmit
  extract_lets p t f x
  split
  · exact ⟨m, h, rfl⟩
  split
  · exact State.setSa_sends h (by simp)
  have hseal := State.sealFrame_sends (s := s) ⟨m, h, rfl⟩ k t f
  split
  next hsealed =>
    rw [hsealed] at hseal
    exact hseal
  next v g hsealed =>
    rw [hsealed] at hseal
    obtain ⟨x, hx, hxm⟩ := hseal
    extract_lets v' v'' y m'
    have hmap : (if x.msn == m.msn then m' else x).msg = x.msg := by
      split
      · exact hxm.symm
      · rfl
    rw [← hxm]
    exact State.setSa_sends (s := v'') (f := fun x => if x.msn == m.msn then m' else x) hx hmap

/-- A message is sent on an ACTIVE slot that has room for it. -/
theorem State.sendMsg_sends (h : Linked s n k a b) (tc : Nat) (m : LinkMsg) (o : Origin) :
    ∃ u, s.sendMsg k tc m o = some u ∧ s.OnWire u ∧ Sends u k m := by
  have htx := State.sa_tx_of_linked h
  obtain ⟨-, -, -, -, hbtx, hbst, -, hroom⟩ := h
  have hfree : ¬ b.msgs.length ≥ 8192 := by omega
  unfold State.sendMsg
  rw [htx]
  extract_lets x sm v
  rw [if_neg (by simp [x, hbtx, hbst, hfree])]
  refine ⟨_, rfl, ?_, ?_⟩
  · split
    · exact (s.setSa_onWire ..).trans (State.transmit_onWire ..)
    · exact s.setSa_onWire ..
  · have hmem : sm ∈ (v.sa k).msgs := by
      unfold v
      rw [State.setSa_sa]
      exact List.mem_append_right _ (List.mem_singleton_self _)
    split
    · exact State.transmit_sends hmem ..
    · exact ⟨sm, hmem, rfl⟩

theorem State.sendOr_sends (h : Linked s n k a b) (tc : Nat) (m : LinkMsg) (o : Origin) :
    s.OnWire (s.sendOr (s.returnSa n) tc m o) ∧ Sends (s.sendOr (s.returnSa n) tc m o) k m := by
  obtain ⟨u, hsend, hwire, hsends⟩ := State.sendMsg_sends h tc m o
  rw [State.returnSa_of_linked h, State.sendOr, hsend]
  exact ⟨hwire, hsends⟩

end

end Sys2Proof.Machine
end

section
/-! What the eviction of a line from a home leaves alone of the links (10 R318): the slots of the connections, and the ingress buffer. -/

namespace Sys2Proof.Machine

/-- The slots of the connections and the messages that wait in the ingress buffer. -/
def State.mail (s : State) : Map SaSt × List InMsg := (s.sas, s.inbox)

@[simp] theorem State.mail_ite {c : Prop} [Decidable c] (a b : State) :
    (if c then a else b).mail = if c then a.mail else b.mail := apply_ite _ _ _ _

@[simp] theorem foldl_mail {α : Type} {f : State → α → State} (h : ∀ s a, (f s a).mail = s.mail) (l : List α) (s : State) :
    (l.foldl f s).mail = s.mail := foldl_keeps State.mail h l s

/-! ### Counters and entries -/

@[simp] theorem State.setMp_mail (s : State) (p : Nat) (m : MemPort) : (s.setMp p m).mail = s.mail := rfl
@[simp] theorem State.setGuard_mail (s : State) (g : GuardOp) : (s.setGuard g).mail = s.mail := rfl
@[simp] theorem State.emit_mail (s : State) (o : Output) : (s.emit o).mail = s.mail := rfl
@[simp] theorem State.count_mail (s : State) (sl k n : Nat) : (s.count sl k n).mail = s.mail := rfl
@[simp] theorem State.note_mail (s : State) (u ev : Nat) (sl : Option Nat) (n : Nat) : (s.note u ev sl n).mail = s.mail := rfl

@[simp] theorem State.raise_mail (s : State) (u kind cls subType subj sl fn : Nat) :
    (s.raise u kind cls subType subj sl fn).mail = s.mail := by
  rw [State.raise_eq]
  rfl

@[simp] theorem State.use_mail (s : State) (x : Option Nat) (rd wr hsl job : Nat) : (s.use x rd wr hsl job).mail = s.mail := by
  unfold State.use
  split <;> rfl

@[simp] theorem State.tineUses_mail (s : State) (tine : Option Nat) (i : Nat) : (s.tineUses tine i).mail = s.mail := by
  unfold State.tineUses
  repeat' split
  all_goals rfl

/-! ### The memory ports (07 R224) -/

@[simp] theorem State.memPut_mail (s : State) (p tag : Nat) (r : MemReq) : (s.memPut p tag r).mail = s.mail := by
  unfold State.memPut
  dsimp only
  rw [State.emit_mail, State.note_mail]
  split
  · rfl
  · rw [State.count_mail]
    exact State.tineUses_mail ..

@[simp] theorem State.memAsk_mail (s : State) (p : Nat) (r : MemReq) : (s.memAsk p r).mail = s.mail := by
  unfold State.memAsk
  split <;> simp

@[simp] theorem State.guardRead_mail (s : State) (g : GuardOp) (m step : Nat) : (s.guardRead g m step).mail = s.mail :=
  State.memAsk_mail ..

@[simp] theorem State.guardWrite_mail (s : State) (g : GuardOp) (m step : Nat) (c : Sector) (hi : BitVec 32) :
    (s.guardWrite g m step c hi).mail = s.mail :=
  State.memAsk_mail ..

/-! ### Guarded writes (07 R238) -/

@[simp] theorem State.toReconstruct_mail (s : State) (g : GuardOp) : (s.toReconstruct g).mail = s.mail := by
  unfold State.toReconstruct
  dsimp only
  rw [foldl_mail fun s m => State.guardRead_mail ..]
  rfl

@[simp] theorem State.fullStart_mail (s : State) (g : GuardOp) : (s.fullStart g).mail = s.mail := by
  unfold State.fullStart
  dsimp only
  rw [foldl_mail fun s x => State.guardWrite_mail .., State.guardWrite_mail, foldl_mail fun s x => State.setGuard_mail ..]
  rfl

@[simp] theorem State.guardStart_mail (s : State) (g : GuardOp) : (s.guardStart g).mail = s.mail := by
  unfold State.guardStart
  dsimp only
  repeat' split
  all_goals simp

@[simp] theorem State.grantLocksN_mail (n : Nat) (s : State) (q : Nat) : (s.grantLocksN n q).mail = s.mail := by
  induction n generalizing s with
  | zero => rfl
  | succ n ih =>
    unfold State.grantLocksN
    dsimp only
    repeat' split
    all_goals simp [ih]

@[simp] theorem State.guardBegin_mail (s : State) (g : GuardOp) : (s.guardBegin g).mail = s.mail :=
  State.grantLocksN_mail ..

/-! ### Write-backs and ways (05 R152, R154) -/

@[simp] theorem State.raiseRetired_mail (s : State) (p key : Nat) : (s.raiseRetired p key).mail = s.mail := by
  unfold State.raiseRetired
  split <;> exact State.raise_mail ..

theorem State.memWrite_mail (s : State) (line mask key sl tc : Nat) (internal : Bool) (plain : Line) (poison : Nat)
    (pur : MPurpose) (job : Option Nat) : (s.memWrite line mask key sl tc internal plain poison pur job).1.mail = s.mail := by
  unfold State.memWrite
  dsimp only
  repeat' split
  · exact State.raiseRetired_mail ..
  · exact foldl_mail (fun u _ => State.guardBegin_mail u.fresh.2 _) _ s
  · rfl
  · exact State.memAsk_mail ..
  · exact State.memAsk_mail ..

@[simp] theorem State.wbPush_mail (s : State) (h line sl key mask poison : Nat) (data : Line) (job : Option Nat) :
    (s.wbPush h line sl key mask poison data job).mail = s.mail := by
  have hdrop : ∀ u : State, (u.mirrorDrop h line).mail = u.mail := fun u => by
    unfold State.mirrorDrop
    split <;> rfl
  have hset : ∀ (u : State) (x : HomeSt), (u.setHome h x).mail = u.mail := fun _ _ => rfl
  unfold State.wbPush
  dsimp only
  split
  · rfl
  · split <;> simp [State.memWrite_mail, hdrop, hset]

@[simp] theorem State.evictWay_mail (s : State) (h k : Nat) : (s.evictWay h k).mail = s.mail := by
  have hclean : (s.cleanLine h k).mail = s.mail := by
    unfold State.cleanLine
    split
    · dsimp only
      split
      · exact State.wbPush_mail ..
      · rfl
    · rfl
  exact hclean

/-- Giving a line a way leaves slots and messages, whatever the line that gives way. -/
theorem State.mail_of_allocate {s u : State} {h line sl key poison k : Nat} {data : Line} {force : Bool}
    (ha : s.allocate h line sl key poison data force = some (u, k)) : u.mail = s.mail := by
  unfold State.allocate at ha
  split at ha
  · cases ha
  split at ha
  · cases ha
  · cases ha
    exact State.evictWay_mail ..

end Sys2Proof.Machine
end

section
/-! A request of another chip at its home (05 R167, 10 R321): how the home takes it, comes to its turn and answers it over the
connection it came by. -/

namespace Sys2Proof.Machine

section

variable {s u v : State} {t d : Txn} {sa xid chip n h k : Nat} {a b : SaSt}

/-! ### The home takes it (05 R167) -/

/-- What the home's taking of a request touches: counters and charges, the usage of contexts, the dirty log, and the requests in flight
with their numbers. -/
structure Bill where
  obs : Obs
  qos : Qos
  ctxs : Map CtxRec
  dirty : Map (BitVec 32)
  nextId : Nat
  txns : List Txn

/-- A state with another bill. -/
def State.billed (s : State) (b : Bill) : State :=
  { s with obs := b.obs, qos := b.qos, ctxs := b.ctxs, dirty := b.dirty, nextId := b.nextId, txns := b.txns }

/-- An operation that counts and charges: the requests in flight stay. -/
def State.Charges (s u : State) : Prop := ∃ b : Bill, u = s.billed { b with txns := s.txns }

theorem State.charges_refl (s : State) : s.Charges s := ⟨⟨s.obs, s.qos, s.ctxs, s.dirty, s.nextId, s.txns⟩, rfl⟩

theorem State.Charges.trans (hu : s.Charges u) (hv : u.Charges v) : s.Charges v := by
  obtain ⟨b, rfl⟩ := hu
  obtain ⟨c, rfl⟩ := hv
  exact ⟨c, rfl⟩

theorem State.Charges.ite {c : Prop} [Decidable c] (hu : s.Charges u) (hv : s.Charges v) : s.Charges (if c then u else v) := by
  split
  · exact hu
  · exact hv

theorem State.charge_charges (s : State) (i sl tc x : Nat) : s.Charges (s.charge i sl tc x) :=
  ⟨⟨s.obs, (s.charge i sl tc x).qos, s.ctxs, s.dirty, s.nextId, s.txns⟩, rfl⟩

theorem State.note_charges (s : State) (i ev : Nat) (sl : Option Nat) (x : Nat) : s.Charges (s.note i ev sl x) :=
  ⟨⟨(s.note i ev sl x).obs, s.qos, s.ctxs, s.dirty, s.nextId, s.txns⟩, rfl⟩

theorem State.use_charges (s : State) (x : Option Nat) (rd wr hsl job : Nat) : s.Charges (s.use x rd wr hsl job) := by
  unfold State.use
  split
  · exact ⟨⟨s.obs, s.qos, _, s.dirty, s.nextId, s.txns⟩, rfl⟩
  · exact s.charges_refl

theorem State.logDirty_charges (s : State) (line : Nat) : s.Charges (s.logDirty line) := by
  unfold State.logDirty
  dsimp only
  split
  · exact ⟨⟨s.obs, s.qos, s.ctxs, _, s.nextId, s.txns⟩, rfl⟩
  · exact s.charges_refl

theorem State.tineUses_charges (s : State) (x : Option Nat) (i : Nat) : s.Charges (s.tineUses x i) := by
  unfold State.tineUses
  split
  · split
    · exact s.charges_refl
    · exact ⟨⟨s.obs, _, s.ctxs, s.dirty, s.nextId, s.txns⟩, rfl⟩
  · exact s.charges_refl

/-- A request of a chip as it comes to the home of its line. -/
structure Txn.OfChip (t : Txn) (sa xid chip : Nat) : Prop where
  origin : t.origin = .remote sa xid chip
  internal : t.internal = false
  hostPort : t.hostPort = false
  checked : t.checked = false
  parBad : t.parBad = false
  absorbed : t.absorbed = false
  waitLine : t.waitLine = none
  snoops : t.snoops = []
  got : t.got = none
  poison : t.poison = 0
  foreign : t.foreign = false

/-- What the home makes of request `t`: `d`, which stands at home `h` and has taken no entry of the tiles' share (05 R167). -/
structure Txn.Lodged (d t : Txn) (h : Nat) : Prop where
  home : d.home = h
  line : d.line = t.line
  op : d.op = t.op
  slice : d.slice = t.slice
  data : d.data = t.data
  be : d.be = t.be
  sector : d.sector = t.sector
  atom : d.atom = t.atom
  cls : d.cls ≠ 0 ∧ d.cls ≠ 2

theorem State.admitTxn_of_chip {fno : Option Nat} {fn : Nat} (ht : t.OfChip sa xid chip) (hcls : t.cls = 0) (htfmt : t.fmt = 0)
    (hh : HomeTakes s t.line t.slice fn t.op.need false n h)
    (hfn : (if t.evicts then some (s.ownAt (lineGran t.line)).fn else fno) = some fn) :
    ∃ (b : Bill) (d : Txn), s.admitTxn t fno = (s.billed b).settle ∧ b.txns = [d] ∧ d.OfChip sa xid chip ∧ d.Lodged t h ∧
      d.phase = .behind ∧ d.fmt = (s.ownAt (lineGran t.line)).fmt := by
  obtain ⟨hchip, hname, hphys, hgate, hwin, hlost, hmove, hlmove, htxns, hown, hretry, hheld, hup, hrole⟩ := hh
  have hgateOf : s.gateOf t fno = none := by
    simp only [State.gateOf, hchip, ht.internal, ht.hostPort, ht.origin, bne_self_eq_false, Bool.not_false, Bool.and_true, hfn,
      Bool.false_eq_true, if_false]
    exact hgate
  have hbarred : s.barredAt t = none := by
    simp [State.barredAt, hwin, ht.parBad, hlost]
  simp only [State.admitTxn, hname, hgateOf, hbarred, hphys, hchip, hlmove, htxns, hretry, ht.internal, ht.origin,
    hcls, htfmt, ht.checked, bne_self_eq_false, Bool.and_false, Bool.false_and, Bool.not_false, Bool.not_true, Bool.false_eq_true,
    if_false, if_true, List.any_nil, List.filter_nil, List.length_nil, List.find?_nil, Option.isSome_none, Bool.true_and]
  generalize hw : (if (t.op == .write || t.op == .atomicHome || t.op == .atomicMem) = true then _ else _) = w
  have hcharged : s.Charges w := by
    rw [← hw]
    have huse (i : Nat) : s.Charges ((((s.charge i t.slice t.tc 1).tineUses t.tine i).note (hslUnit h) 1 (some t.slice) 1).use
        t.ctx 0 0 1 0) :=
      (((s.charge_charges ..).trans (State.tineUses_charges ..)).trans (State.note_charges ..)).trans (State.use_charges ..)
    exact .ite ((huse _).trans (State.logDirty_charges ..)) (huse _)
  obtain ⟨c, rfl⟩ := hcharged
  have hnone : (s.billed { c with txns := s.txns }).txns = [] := htxns
  simp only [hnone, List.any_nil, Bool.and_false, Bool.false_and, Bool.false_eq_true, if_false]
  have henter (x : Txn) (hx : x.checked = false) : (s.billed { c with txns := s.txns }).enter x
      = s.billed { c with nextId := c.nextId + 1, txns := [{ x with id := c.nextId }] } := by
    rw [State.enter, hx, if_neg Bool.false_ne_true, htxns]
    rfl
  refine ⟨_, _, congrArg State.settle (henter _ rfl), rfl, ⟨rfl, rfl, ht.hostPort, rfl, ht.parBad, rfl, ht.waitLine, ht.snoops,
    ht.got, ht.poison, ht.foreign⟩, ⟨rfl, rfl, rfl, rfl, rfl, rfl, rfl, rfl, ?_⟩, rfl, rfl⟩
  change (if t.evicts then 1 else 3) ≠ 0 ∧ (if t.evicts then 1 else 3) ≠ 2
  split <;> decide

theorem Txn.OfChip.stamped (ht : t.OfChip sa xid chip) (lvl : Nat) (aged : Option Nat) :
    Txn.OfChip { t with lvl := lvl, aged := aged } sa xid chip := by
  obtain ⟨ho, hi, hhost, hc, hp, ha, hw, hs, hg, hpo, hf⟩ := ht
  exact ⟨ho, hi, hhost, hc, hp, ha, hw, hs, hg, hpo, hf⟩

theorem State.accept_of_chip {fno : Option Nat} {fn : Nat} (ht : t.OfChip sa xid chip) (hcls : t.cls = 0) (htfmt : t.fmt = 0)
    (hh : HomeTakes s t.line t.slice fn t.op.need false n h)
    (hfn : (if t.evicts then some (s.ownAt (lineGran t.line)).fn else fno) = some fn) :
    ∃ (b : Bill) (d : Txn), s.accept t fno = (s.billed b).settle ∧ b.txns = [d] ∧ d.OfChip sa xid chip ∧ d.Lodged t h ∧
      d.phase = .behind ∧ d.fmt = (s.ownAt (lineGran t.line)).fmt := by
  obtain ⟨lvl, aged, hstamp⟩ : ∃ lvl aged, s.stamp t = { t with lvl := lvl, aged := aged } := ⟨_, _, s.stamp_eq ht.internal⟩
  have hmiss : s.tableMiss { t with lvl := lvl, aged := aged } = none := State.tableMiss_of_homeTakes hh
  simp only [State.accept, hstamp, hmiss]
  obtain ⟨b, d, hadmit, htxns, hd, hlodged, hrest⟩ := State.admitTxn_of_chip (ht.stamped lvl aged) hcls htfmt hh hfn
  obtain ⟨hhome, hline, hop, hslice, hdata, hbe, hsector, hatom, hdcls⟩ := hlodged
  exact ⟨b, d, hadmit, htxns, hd, ⟨hhome, hline, hop, hslice, hdata, hbe, hsector, hatom, hdcls⟩, hrest⟩

/-- A message of another chip is taken, and its request accepted, where the home of its line is this chip's and idle. -/
theorem State.msgAccept_of_homeTakes {m : InMsg} {fn : Nat} (hh : HomeTakes s t.line t.slice fn t.op.need false n h) :
    s.msgAccept m t = (s.taken m).accept t (if m.herd then none else some m.fn) := by
  obtain ⟨hchip, hname, hphys, -, -, -, -, -, htxns, -⟩ := hh
  simp [State.msgAccept, hchip, hname, hphys, htxns]

/-! ### Its turn (05 R162) -/

theorem State.ready_of_lodged (hd : d.OfChip sa xid chip) (hphase : d.phase = .behind) (htxns : s.txns = [d])
    (hheld : (s.home d.home).heldSets.contains (fsetOf d.line) = false) : s.ready d = true := by
  have hwaits : s.evictWaits d = false := by
    simp [State.evictWaits, htxns, hd.origin]
  unfold State.ready
  rw [hphase]
  simp [hd.waitLine, hheld, hwaits, htxns, -List.contains_eq_mem]

theorem State.start_of_lodged (hop : d.op = .rdOnce ∨ d.op = .write ∨ d.op = .atomicHome)
    (htxns : s.txns = [d]) (hchip : lineChip d.line = s.chip) (hfilt : s.filt d.home d.line = {}) :
    s.start d = { s with txns := [d.begun] } := by
  have hroom : s.filterRoom d = none := by
    rcases hop with h | h | h <;> simp [State.filterRoom, h]
  have hplan : s.plan d {} = [] := by
    rcases hop with h | h | h <;> simp [State.plan, State.sharerAgents, FiltEntry.ownerAgent, h, bitList]
  have hset : s.setTxn d.begun = { s with txns := [d.begun] } := State.setTxn_of_txns htxns _ rfl
  unfold State.start
  split
  next h => rw [h] at hop; simp at hop
  next h => rw [h] at hop; simp at hop
  next =>
    simp only [hroom, hchip, hfilt, hplan, bne_self_eq_false, Bool.false_and, Bool.false_eq_true, if_false, List.foldl_nil]
    exact hset

theorem State.settle_of_lodged (hd : d.OfChip sa xid chip) (hphase : d.phase = .behind) (htxns : s.txns = [d])
    (hheld : (s.home d.home).heldSets.contains (fsetOf d.line) = false) : s.settle = State.settleN 19 (s.start d) := by
  have hmove : s.move d = s.start d := by rw [State.move, hphase]
  have hfirst := State.settleN_of_ready htxns (State.ready_of_lodged hd hphase htxns hheld) 19
  rw [State.settle, show 4 * s.txns.length + 16 = 19 + 1 by rw [htxns]; rfl, hfirst, hmove]

/-- A request of a chip that needs no snoop goes on with what the home has of its line. -/
theorem State.settle_of_started (hd : d.OfChip sa xid chip) (hphase : d.phase = .behind) (htxns : s.txns = [d])
    (hop : d.op = .rdOnce ∨ d.op = .write ∨ d.op = .atomicHome) (hchip : lineChip d.line = s.chip)
    (hfilt : s.filt d.home d.line = {}) (hheld : (s.home d.home).heldSets.contains (fsetOf d.line) = false) :
    s.settle = State.settleN 18 (State.snooped { s with txns := [d.begun] } d.begun) := by
  have hready : State.ready { s with txns := [d.begun] } d.begun = true := by
    change (d.begun.snoops.isEmpty && d.begun.waitLine.isNone) = true
    rw [show d.begun.waitLine = none from hd.waitLine]
    rfl
  rw [State.settle_of_lodged hd hphase htxns hheld, State.start_of_lodged hop htxns hchip hfilt]
  exact State.settleN_of_ready (u := { s with txns := [d.begun] }) rfl hready 18

theorem Txn.OfChip.begun (hd : d.OfChip sa xid chip) : d.begun.OfChip sa xid chip := by
  obtain ⟨ho, hi, hhost, hc, hp, ha, hw, -, hg, hpo, -⟩ := hd
  exact ⟨ho, hi, hhost, hc, hp, ha, hw, rfl, hg, hpo, rfl⟩

theorem Txn.Lodged.begun (hd : d.Lodged t h) : d.begun.Lodged t h := by
  obtain ⟨hhome, hline, hop, hslice, hdata, hbe, hsector, hatom, hcls⟩ := hd
  exact ⟨hhome, hline, hop, hslice, hdata, hbe, hsector, hatom, hcls⟩

/-- A request of a chip that an idle home takes comes to its turn there, where no filter entry stands in its way. -/
theorem State.accept_of_chip_reaches_turn {fn : Nat} (ht : t.OfChip sa xid chip) (hcls : t.cls = 0) (htfmt : t.fmt = 0)
    (hop : t.op = .rdOnce ∨ t.op = .write ∨ t.op = .atomicHome) (hh : HomeTakes s t.line t.slice fn t.op.need false n h)
    (hfilt : s.filt h t.line = {}) :
    ∃ (b : Bill) (d : Txn), s.accept t (some fn) = State.settleN 18 ((s.billed b).snooped d) ∧ b.txns = [d] ∧
      d.OfChip sa xid chip ∧ d.Lodged t h ∧ d.fmt = (s.ownAt (lineGran t.line)).fmt := by
  have hevicts : t.evicts = false := by
    rcases hop with h | h | h <;> simp [Txn.evicts, h]
  obtain ⟨b, d, haccept, htxns, hd, hlodged, hphase, hfmt⟩ :=
    State.accept_of_chip (fno := some fn) ht hcls htfmt hh (by rw [hevicts]; rfl)
  obtain ⟨hchip, -, -, -, -, -, -, -, -, -, -, hheld, -, -⟩ := hh
  have hsettle := State.settle_of_started (s := s.billed b) hd hphase htxns (by rw [hlodged.op]; exact hop)
    (by rw [hlodged.line]; exact hchip) (by rw [hlodged.line, hlodged.home]; exact hfilt)
    (by rw [hlodged.line, hlodged.home]; exact hheld)
  exact ⟨{ b with txns := [d.begun] }, d.begun, haccept.trans hsettle, rfl, hd.begun, hlodged.begun, hfmt⟩

end

end Sys2Proof.Machine
end

section
/-! How a home answers a request of another chip (10 R321), and what a read, a write, an atomic and an eviction make of their line. -/

namespace Sys2Proof.Machine

section

variable {s u v : State} {t c d : Txn} {sa xid chip n h k : Nat} {a b : SaSt}

/-! ### The answer (10 R321) -/

/-- The message that answers a request. -/
def Txn.reply (t : Txn) (xid granted : Nat) (data : Line) : LinkMsg :=
  if t.op = .write then lineMsg 0x0B t.slice xid (t.line * 128) .ok 0 none 0
  else if t.op = .atomicHome ∨ t.op = .atomicMem then
    { lineMsg 0x0A t.slice xid (t.line * 128) .ok 0 (some data) with len := 8 }
  else lineMsg 0x0A t.slice xid (t.line * 128) .ok granted (if t.op.isRead then some data else none)

theorem Txn.Lodged.reply (hd : d.Lodged t h) (xid granted : Nat) (x : Line) : d.reply xid granted x = t.reply xid granted x := by
  simp only [Txn.reply, hd.op, hd.slice, hd.line]

/-- A request is over: its answer is sent, none is in flight, and the buffer and the homes are as they were. -/
structure State.Replied (s u : State) (k : Nat) (msg : LinkMsg) : Prop where
  sends : Sends u k msg
  inbox : u.inbox = s.inbox
  txns : u.txns = []
  lines : ∀ j, (u.home j).lines = (s.home j).lines
  filter : ∀ j, (u.home j).filter = (s.home j).filter

theorem State.remoteRsp_replies (hl : Linked s sa k a b) (htxns : s.txns = []) (c : Txn) (xid granted : Nat) (data : Line) :
    s.Replied (s.remoteRsp sa xid c .ok granted data) k (c.reply xid granted data) := by
  have hrsp : s.remoteRsp sa xid c .ok granted data = s.sendOr (s.returnSa sa) c.tc (c.reply xid granted data) (.internal 0 0) := by
    simp [State.remoteRsp, Txn.reply]
  obtain ⟨hwire, hsends⟩ := State.sendOr_sends hl c.tc (c.reply xid granted data) (.internal 0 0)
  rw [hrsp]
  exact ⟨hsends, hwire.inbox, hwire.txns.trans htxns, fun j => by rw [State.home_of_homes hwire.homes],
    fun j => by rw [State.home_of_homes hwire.homes]⟩

theorem State.answer_replies (hl : Linked s sa k a b) (htxns : s.txns = []) (ho : c.origin = .remote sa xid chip) (granted poison : Nat)
    (ds : List Line) : s.Replied (s.answer c .ok granted ds poison) k (c.reply xid granted (ds.headD 0)) := by
  have hanswer : s.answer c .ok granted ds poison = (s.countDone c .ok).remoteRsp sa xid c .ok granted (ds.headD 0) := by
    simp [State.answer, ho, State.retryNote]
  have hcount : ∃ e, s.countDone c .ok = s.outcome c.slice c.tc e := by
    rw [State.countDone, ho]
    exact ⟨_, rfl⟩
  obtain ⟨e, hcount⟩ := hcount
  rw [hanswer, hcount]
  obtain ⟨hsends, hinbox, hnone, hlines, hfilter⟩ :=
    State.remoteRsp_replies (s := s.outcome c.slice c.tc e) hl htxns c xid granted (ds.headD 0)
  exact ⟨hsends, hinbox, hnone, hlines, hfilter⟩

theorem State.finish_replies (hl : Linked s sa k a b) (htxns : s.txns = [d]) (hid : d.id = c.id) (ho : c.origin = .remote sa xid chip)
    (hcls : c.cls ≠ 0 ∧ c.cls ≠ 2) (granted poison : Nat) (ds : List Line) :
    s.Replied (s.finish c .ok granted ds poison) k (c.reply xid granted (ds.headD 0)) := by
  unfold State.finish
  extract_lets go u v w
  have hnone : u.txns = [] := by simp [u, htxns, hid]
  have hw : w = v := if_neg (by simp [hcls])
  have hv : Linked v sa k a b ∧ v.txns = [] ∧ v.inbox = s.inbox ∧ (∀ j, (v.home j).lines = (s.home j).lines) ∧
      ∀ j, (v.home j).filter = (s.home j).filter := by
    unfold v
    split
    · exact ⟨hl, hnone, rfl, fun j => State.setHome_home_eq u HomeSt.lines rfl, fun j => State.setHome_home_eq u HomeSt.filter rfl⟩
    · exact ⟨hl, hnone, rfl, fun _ => rfl, fun _ => rfl⟩
  obtain ⟨hlv, hvtxns, hvinbox, hvlines, hvfilter⟩ := hv
  obtain ⟨hsends, hinbox, hdone, hlines, hfilter⟩ := State.answer_replies hlv hvtxns ho granted poison ds
  rw [hw]
  exact ⟨hsends, hinbox.trans hvinbox, hdone, fun j => (hlines j).trans (hvlines j), fun j => (hfilter j).trans (hvfilter j)⟩

/-! ### A write or an atomic of a dirty line (05 R162, R178) -/

theorem State.linked_of_mail (hl : Linked s n k a b) (h : u.mail = s.mail) : Linked u n k a b :=
  State.linked_congr hl (congrArg Prod.fst h)

theorem State.acked_mail (s : State) (c : Txn) (old : Line) : (s.acked c old).mail = s.mail := by
  unfold State.acked
  split <;> rfl

theorem State.dirtyLine_mail (hm : s.mirrored h = true) (i : Nat) (l : LlcLine) : (s.dirtyLine h i l).mail = s.mail := by
  simp only [State.dirtyLine, hm, if_true]
  unfold State.mirrorPut
  dsimp only
  split
  · split <;> rfl
  · rfl

theorem State.changeDone_replies (hl : Linked s sa k a b) (htxns : s.txns = [d]) (hid : d.id = c.id)
    (ho : c.origin = .remote sa xid chip) (hcls : c.cls ≠ 0 ∧ c.cls ≠ 2) (hm : s.mirrored c.home = true) (old : Line) :
    Sends (s.changeDone c old) k (c.reply xid 0 old) ∧ (s.changeDone c old).inbox = s.inbox ∧ (s.changeDone c old).txns = [] ∧
      ∀ j, ((s.changeDone c old).home j).lines = (s.home j).lines := by
  have hkeeps := (State.acked_keeps s c old).trans (State.use_keeps _ c.ctx 0 0 1 0)
  have hmail : ((s.acked c old).use c.ctx 0 0 1 0).mail = s.mail := (State.use_mail ..).trans (State.acked_mail s c old)
  rw [State.changeDone_of_mirrored hm]
  obtain ⟨hsends, hinbox, hnone, hlines, -⟩ :=
    State.finish_replies (State.linked_of_mail hl hmail) (hkeeps.txns.trans htxns) hid ho hcls 0 0 [old]
  exact ⟨hsends, hinbox.trans (congrArg Prod.snd hmail), hnone, fun j => (hlines j).trans (hkeeps.lines j)⟩

/-- A write or an ATOMIC_HOME of a dirty line of a mirrored home is made in the line, and answered. -/
theorem State.writeDone_replies {i : Nat} {l : LlcLine} {oldv : Reg} {new : Line} (hl : Linked s sa k a b) (htxns : s.txns = [d])
    (hid : d.id = c.id) (ho : c.origin = .remote sa xid chip) (hcls : c.cls ≠ 0 ∧ c.cls ≠ 2)
    (hway : (s.home c.home).way? c.line = some (i, l)) (hdirty : l.dirty = true) (hlive : s.keyLive l.key = true)
    (hm : s.mirrored c.home = true) (hmoving : s.moving (s.lineSlice c.line) = false) (hnew : c.change l.data = some (oldv, new)) :
    Sends (s.writeDone c l.data 0) k (c.reply xid 0 (BitVec.ofNat 1024 oldv.toNat)) ∧ (s.writeDone c l.data 0).inbox = s.inbox ∧
      (s.writeDone c l.data 0).txns = [] ∧ s.LineMade (s.writeDone c l.data 0) c.home c.line i new := by
  obtain ⟨q, hdone⟩ := State.writeDone_of_dirty hway hdirty hlive hmoving hnew
  have hwork := State.dirtyLine_homeWork hm i { l with data := new, poison := q }
  have hmail := State.dirtyLine_mail hm i { l with data := new, poison := q }
  obtain ⟨seq, hlines⟩ := State.dirtyLine_lines hm i { l with data := new, poison := q }
  obtain ⟨hsends, hinbox, hnone, hkept⟩ := State.changeDone_replies (State.linked_of_mail hl hmail) (hwork.txns.trans htxns) hid ho hcls
    ((hwork.mirrored c.home).trans hm) (BitVec.ofNat 1024 oldv.toNat)
  rw [hdone]
  exact ⟨hsends, hinbox.trans (congrArg Prod.snd hmail), hnone, State.lineMade_of_lines hway ((hkept c.home).trans hlines) rfl⟩

/-- A write or an atomic of a chip, its turn come, is made in the line that its home holds. -/
theorem State.snooped_of_held_line {i : Nat} {l : LlcLine} (hc : c.OfChip sa xid chip) (hop : c.op = .write ∨ c.op = .atomicHome)
    (hchip : lineChip c.line = s.chip) (hway : (s.home c.home).way? c.line = some (i, l)) (hpoison : l.poison = 0) :
    s.snooped c = (s.setFilt c.home c.line {}).writeDone { c with got := none, gotDirty := false } l.data 0 := by
  have hdata : (s.setFilt c.home c.line {}).homeData c.home c.line = some (l.data, 0, 3) := by
    have hway' : ((s.setFilt c.home c.line {}).home c.home).way? c.line = some (i, l) := by
      rw [State.setFilt, State.setHome_home]
      exact hway
    rw [State.homeData, hway', ← hpoison]
  have hwait : s.dirtyWait c = (s, none) := by
    simp [State.dirtyWait, hc.got]
  have hread : c.op.isRead = false := by
    rcases hop with h | h <;> rw [h] <;> rfl
  unfold State.snooped
  simp only [hwait, hc.poison, hread, hchip, hc.got, hdata, bne_self_eq_false, Bool.false_and, Bool.false_eq_true, if_false]
  rcases hop with h | h <;> simp [h]

/-- A write or an atomic of another chip, of a dirty line of an idle home whose filter does not list it. -/
theorem State.accept_change_replies {i fn : Nat} {l : LlcLine} {oldv : Reg} {new : Line} (hl : Linked s sa k a b)
    (ht : t.OfChip sa xid chip) (hcls : t.cls = 0) (htfmt : t.fmt = 0) (hop : t.op = .write ∨ t.op = .atomicHome)
    (hh : HomeTakes s t.line t.slice fn t.op.need false n h) (hfilt : s.filt h t.line = {})
    (hway : (s.home h).way? t.line = some (i, l)) (hdirty : l.dirty = true) (hpoison : l.poison = 0)
    (hlive : s.keyLive l.key = true) (hm : s.mirrored h = true) (hnew : t.change l.data = some (oldv, new)) :
    Sends (s.accept t (some fn)) k (t.reply xid 0 (BitVec.ofNat 1024 oldv.toNat)) ∧ (s.accept t (some fn)).inbox = s.inbox ∧
      (((s.accept t (some fn)).home h).way? t.line).map (·.2.data) = some new := by
  obtain ⟨c, d, haccept, htxns, hd, hlodged, -⟩ := State.accept_of_chip_reaches_turn ht hcls htfmt (.inr hop) hh hfilt
  obtain ⟨hchip, -, -, -, -, -, -, hmoving, -⟩ := hh
  rw [← hlodged.home] at hm
  rw [← hlodged.home, ← hlodged.line] at hway ⊢
  rw [← hlodged.line] at hchip hmoving
  have hsnooped := State.snooped_of_held_line (s := s.billed c) hd (by rw [hlodged.op]; exact hop) hchip hway hpoison
  -- the filter has forgotten the line: no more differs from `s` in its home
  have hwork : (s.billed c).HomeWork ((s.billed c).setFilt d.home d.line {}) := State.setHome_homeWork rfl
  have hlines : (((s.billed c).setFilt d.home d.line {}).home d.home).lines = (s.home d.home).lines := by
    rw [State.setFilt, State.setHome_home]
    rfl
  have hnew' : Txn.change { d with got := none, gotDirty := false } l.data = some (oldv, new) := by
    rw [← hnew, Txn.change, Txn.change, hlodged.op, hlodged.sector, hlodged.atom, hlodged.data, hlodged.be]
  obtain ⟨hsends, hinbox, hnone, hmade⟩ := State.writeDone_replies (s := (s.billed c).setFilt d.home d.line {})
    (c := { d with got := none, gotDirty := false }) hl htxns rfl hd.origin hlodged.cls (by rw [HomeSt.way?, hlines]; exact hway)
    hdirty hlive ((hwork.mirrored d.home).trans hm) hmoving hnew'
  have hreply : Txn.reply { d with got := none, gotDirty := false } xid 0 (BitVec.ofNat 1024 oldv.toNat)
      = t.reply xid 0 (BitVec.ofNat 1024 oldv.toNat) := hlodged.reply ..
  rw [haccept, hsnooped, State.settleN_of_no_txns hnone, ← hreply]
  exact ⟨hsends, hinbox, hmade.here⟩

/-! ### A RD_ONCE of a line its home has (05 R154, R162) -/

theorem grantOf_of_rdOnce (hop : t.op = .rdOnce) (e : FiltEntry) (fwd : Nat) : grantOf t e fwd = (0, e) := by
  unfold grantOf
  split
  · rfl
  · rw [hop]

/-- The home fills the line of a RD_ONCE in or bypasses it (05 R154), and answers it. -/
theorem State.readDone_of_rdOnce {x : Line} {mem : Bool} (hop : d.op = .rdOnce) (hfmt : d.fmt = 0) (hv : s.readDone d x 0 0 mem = v) :
    ∃ (u : State) (c : Txn), v = u.finish c .ok 0 [x] 0 ∧ u.mail = s.mail ∧ u.desk = s.desk ∧
      c = { d with bypassed := c.bypassed } := by
  unfold State.readDone at hv
  extract_lets remote need bad moving fill bypass filled at hv
  have hbad : bad = false := by
    unfold bad
    rw [Nat.zero_and]
    rfl
  have hkept : ∀ w i, filled = some (w, i) → w.mail = s.mail ∧ w.desk = s.desk := fun _ _ hw =>
    ⟨State.mail_of_allocate (of_ite_none' hw), State.desk_of_allocate (of_ite_none' hw)⟩
  clear_value filled
  split at hv
  next u c hfilled =>
    have hcase : (u.mail = s.mail ∧ u.desk = s.desk) ∧ c = { d with bypassed := c.bypassed } := by
      split at hfilled
      next w i =>
        obtain ⟨rfl, rfl⟩ := Prod.mk.inj hfilled
        exact ⟨hkept w i rfl, rfl⟩
      next =>
        obtain ⟨rfl, rfl⟩ := Prod.mk.inj hfilled
        refine ⟨⟨rfl, rfl⟩, ?_⟩
        split <;> rfl
    obtain ⟨⟨hmail, hdesk⟩, hc⟩ := hcase
    have hcop : c.op = .rdOnce := by rw [hc]; exact hop
    have hplain : c.transcodes = false := by
      rw [hc]
      simp [Txn.transcodes, hfmt]
    have hnoted : ((if c.bypassed then u.note (hslUnit c.home) 0x04 (some c.slice) 1 else u).use c.ctx 0 0 1 0).mail = s.mail := by
      rw [State.use_mail, State.mail_ite, State.note_mail, ite_self, hmail]
    have hplaced : ((if c.bypassed then u.note (hslUnit c.home) 0x04 (some c.slice) 1 else u).use c.ctx 0 0 1 0).desk = s.desk := by
      rw [State.use_desk, State.desk_ite, State.note_desk, ite_self, hdesk]
    simp only [hbad, hplain, grantOf_of_rdOnce hcop, hcop, Bool.false_eq_true, if_false, if_true] at hv
    refine ⟨_, c, ?_, hnoted, hplaced, hc⟩
    rw [← hv]
    simp

/-- A RD_ONCE of another chip, of a line that an idle home has and whose filter does not list it. -/
theorem State.accept_rdOnce_replies {fn : Nat} {x : Line} (hl : Linked s sa k a b) (ht : t.OfChip sa xid chip) (hcls : t.cls = 0)
    (htfmt : t.fmt = 0) (hop : t.op = .rdOnce) (hh : HomeTakes s t.line t.slice fn t.op.need false n h) (hfilt : s.filt h t.line = {})
    (hdata : s.homeData h t.line = some (x, 0, 3)) (hfmt : (s.ownAt (lineGran t.line)).fmt = 0) :
    Sends (s.accept t (some fn)) k (t.reply xid 0 x) ∧ (s.accept t (some fn)).inbox = s.inbox := by
  obtain ⟨c, d, haccept, htxns, hd, hlodged, hdfmt⟩ := State.accept_of_chip_reaches_turn ht hcls htfmt (.inl hop) hh hfilt
  obtain ⟨hchip, -, -, -, -, -, -, -, -, -, -, -, hcoming, hrole⟩ := hh
  rw [← hlodged.home] at hcoming hrole
  rw [← hlodged.home, ← hlodged.line] at hdata
  rw [← hlodged.line] at hchip
  have hdop : d.op = .rdOnce := hlodged.op.trans hop
  have hwait : (s.billed c).dirtyWait d = (s.billed c, none) := by
    simp [State.dirtyWait, hd.got]
  have hcoming' : (s.billed c).comingUp d.home = false := hcoming
  have hrole' : ((s.billed c).home d.home).role ≠ 3 := hrole
  have hdata' : (s.billed c).homeData d.home d.line = some (x, 0, 3) := hdata
  have hchip' : lineChip d.line = (s.billed c).chip := hchip
  have hturn : (s.billed c).snooped d = ((s.billed c).note (hslUnit d.home) 0x02 (some d.slice) 1).readDone d x 0 0
      (((s.billed c).home d.home).way? d.line).isNone := by
    unfold State.snooped
    simp [hwait, hd.poison, hdop, hd.got, hd.foreign, hchip', hcoming', hrole', hdata']
  obtain ⟨u, e, hdone, hmail, hdesk, he⟩ := State.readDone_of_rdOnce hdop (hdfmt.trans hfmt) hturn.symm
  have hutxns : u.txns = [d] := (congrArg Desk.txns hdesk).trans htxns
  have hid : d.id = e.id := (congrArg Txn.id he).symm
  have horigin : e.origin = .remote sa xid chip := (congrArg Txn.origin he).trans hd.origin
  have hecls : e.cls = d.cls := (congrArg Txn.cls he :)
  obtain ⟨hsends, hinbox, hnone, -, -⟩ := State.finish_replies (State.linked_of_mail hl hmail) hutxns hid horigin
    (hecls ▸ hlodged.cls) 0 0 [x]
  have hreply : e.reply xid 0 x = t.reply xid 0 x := by
    rw [he]
    exact hlodged.reply ..
  rw [haccept, hdone, State.settleN_of_no_txns hnone, ← hreply]
  exact ⟨hsends, hinbox.trans (congrArg Prod.snd hmail)⟩

/-! ### An eviction (05 R55, 10 R321) -/

/-- The chip that owns a line gives it up: the filter forgets the line. -/
theorem State.evict_of_owner {e : FiltEntry} (hd : d.OfChip sa xid chip) (hop : d.op = .evictClean)
    (hfilter : (s.home d.home).filter = [(d.line, e)]) (hst : e.st ≥ 3) (howner : e.ownerAgent = some (true, chip)) :
    s.evict d = s.setFilt d.home d.line {} := by
  have hfilt : s.filt d.home d.line = e := by
    rw [State.filt, hfilter]
    simp [tget, mget?]
  have hnot2 : e.st ≠ 2 := by omega
  unfold State.evict
  simp only [hop, hfilt, State.ownsLine, howner, agentOf, hd.origin, hnot2, if_false, beq_self_eq_true, Option.isSome_some,
    Bool.and_self, if_true, reduceCtorEq]

theorem State.start_of_evictClean (hd : d.OfChip sa xid chip) (hop : d.op = .evictClean) (hchip : lineChip d.line = s.chip) :
    s.start d = (s.evict d).finish d .ok 0 [] 0 := by
  unfold State.start
  simp [hop, hd.absorbed, hchip]

/-- EVICT of a clean line by the chip that owns it, at an idle home. -/
theorem State.accept_evict_replies {fn : Nat} {fno : Option Nat} {e : FiltEntry} (hl : Linked s sa k a b) (ht : t.OfChip sa xid chip)
    (hcls : t.cls = 0) (htfmt : t.fmt = 0) (hop : t.op = .evictClean) (hh : HomeTakes s t.line t.slice fn t.op.need false n h)
    (hfn : (s.ownAt (lineGran t.line)).fn = fn) (hfilter : (s.home h).filter = [(t.line, e)]) (hst : e.st ≥ 3)
    (howner : e.ownerAgent = some (true, chip)) :
    Sends (s.accept t fno) k (t.reply xid 0 0) ∧ (s.accept t fno).inbox = s.inbox ∧ ((s.accept t fno).home h).filter = [] ∧
      ((s.accept t fno).home h).lines = (s.home h).lines := by
  have hevicts : t.evicts = true := by simp [Txn.evicts, hop]
  obtain ⟨c, d, haccept, htxns, hd, hlodged, hphase, -⟩ := State.accept_of_chip (fno := fno) ht hcls htfmt hh
    (by rw [hevicts, if_pos rfl, hfn])
  obtain ⟨hchip, -, -, -, -, -, -, -, -, -, -, hheld, -, -⟩ := hh
  have hdop : d.op = .evictClean := hlodged.op.trans hop
  rw [← hlodged.home] at hheld hfilter ⊢
  rw [← hlodged.line] at hheld hfilter hchip
  have hevict := State.evict_of_owner (s := s.billed c) hd hdop hfilter hst howner
  obtain ⟨hsends, hinbox, hnone, hlines, hfilters⟩ := State.finish_replies (s := (s.billed c).setFilt d.home d.line {}) (c := d) hl
    htxns rfl hd.origin hlodged.cls 0 0 []
  have hgone : (((s.billed c).setFilt d.home d.line {}).home d.home).filter = [] := by
    have hfilter' : ((s.billed c).home d.home).filter = [(d.line, e)] := hfilter
    rw [State.setFilt, State.setHome_home, hfilter']
    simp [tset, mdel]
  have hkept : (((s.billed c).setFilt d.home d.line {}).home d.home).lines = (s.home d.home).lines := by
    rw [State.setFilt, State.setHome_home]
    rfl
  rw [haccept, State.settle_of_lodged (s := s.billed c) hd hphase htxns hheld, State.start_of_evictClean (s := s.billed c) hd hdop hchip,
    hevict, State.settleN_of_no_txns hnone]
  exact ⟨hlodged.reply xid 0 0 ▸ hsends, hinbox, (hfilters _).trans hgone, (hlines _).trans hkept⟩

end

end Sys2Proof.Machine
end

section
/-! Requests that come over a tine (08 R273, 10 R315, R321, R323). -/

namespace Sys2Proof.Machine

section

variable {s : State} {m : InMsg} {n h k i : Nat} {a b : SaSt}

theorem State.onMsg_of_msgTakes {op : Nat} (ht : MsgTakes s i op m) (f : State → InMsg → State) : s.onMsg i op f = f s m := by
  obtain ⟨hin, hop, hstop, hfatal, hheld⟩ := ht
  simp [State.onMsg, hin, hop, hstop, hfatal, hheld]

/-- The request a message makes of its sender's. -/
theorem State.msgTxn_ofChip (s : State) (m : InMsg) (op : TOp) : (s.msgTxn m op).OfChip m.sa m.msg.xid.toNat m.chip :=
  ⟨rfl, rfl, rfl, rfl, rfl, rfl, rfl, rfl, rfl, rfl, rfl⟩

/-- The write a WRITE message makes (10 R321): of one sector, with its byte mask. -/
def State.writeTxn (s : State) (m : InMsg) : Txn :=
  { s.msgTxn m .write with
    be := BitVec.ofNat 128 (m.msg.be.toNat <<< (64 * (m.msg.addr.toNat / 64 % 2))), sector := 64 * (m.msg.addr.toNat / 64 % 2),
    alloc := false, data := setSector 0 (m.msg.addr.toNat / 64 % 2) (m.msg.data.setWidth 512) }

theorem State.writeTxn_ofChip (s : State) (m : InMsg) : (s.writeTxn m).OfChip m.sa m.msg.xid.toNat m.chip :=
  ⟨rfl, rfl, rfl, rfl, rfl, rfl, rfl, rfl, rfl, rfl, rfl⟩

/-- The atomic an ATOMIC message makes, of the operands it carries. -/
def State.atomicTxn (s : State) (m : InMsg) (x y : BitVec 64) (o : Nat) (size : Bool) : Txn :=
  { s.msgTxn m .atomicHome with
    be := beRange (m.msg.addr.toNat % 128) (if size then 8 else 4), sector := m.msg.addr.toNat % 128, atom := (o, size, x, y) }

theorem State.atomicTxn_ofChip (s : State) (m : InMsg) (x y : BitVec 64) (o : Nat) (size : Bool) :
    (s.atomicTxn m x y o size).OfChip m.sa m.msg.xid.toNat m.chip :=
  ⟨rfl, rfl, rfl, rfl, rfl, rfl, rfl, rfl, rfl, rfl, rfl⟩

theorem State.msgAtomic_of_operands {x y : BitVec 64} {o : Nat} {size : Bool}
    (hoperands : atomOperands (m.msg.data.setWidth 512) = some (x, y, o, size))
    (haligned : m.msg.addr.toNat % (if size then 8 else 4) = 0) : s.msgAtomic m = s.msgAccept m (s.atomicTxn m x y o size) := by
  unfold State.msgAtomic
  simp only [hoperands, haligned, bne_self_eq_false, Bool.false_eq_true, if_false]
  rfl

/-- The eviction an EVICT message of a clean line makes. -/
def State.evictionTxn (s : State) (m : InMsg) : Txn := { s.msgTxn m .evictClean with data := m.msg.data }

theorem State.evictionTxn_ofChip (s : State) (m : InMsg) : (s.evictionTxn m).OfChip m.sa m.msg.xid.toNat m.chip :=
  ⟨rfl, rfl, rfl, rfl, rfl, rfl, rfl, rfl, rfl, rfl, rfl⟩

/-- The entry a contribution of the network makes in an empty merge buffer (08 R273). -/
def InMsg.merged (m : InMsg) : Merge :=
  ⟨m.msg.addr.toNat / 64 * 64, m.slice, m.fn, isInt m.msg.sub.toNat, sectorVals m.msg.sub.toNat (m.msg.data.setWidth 512),
    m.msg.count.toNat, [(m.sa, m.msg.xid.toNat)]⟩

theorem chipOf_sector (x : Nat) : chipOf (x / 64 * 64) = chipOf x := by
  unfold chipOf
  omega

theorem State.msgContrib_enters (hherd : m.herd = false) (hfmt : m.msg.sub.toNat ≤ 6) (hchip : chipOf m.msg.addr.toNat = s.chip)
    (hcount : m.msg.count ≠ 0) (hmerge : tget [] (s.taken m).rw.merge (m.tine / 8) = []) :
    (s.msgContrib m).inbox = (s.taken m).inbox ∧
      (s.msgContrib m).rw.merge = tset [] (s.taken m).rw.merge (m.tine / 8) [m.merged] := by
  have hnonzero : m.msg.count.toNat ≠ 0 := fun h => hcount (BitVec.eq_of_toNat_eq h)
  have hhere : (decide (m.msg.sub.toNat > 6) || chipOf (m.msg.addr.toNat / 64 * 64) != s.chip ||
      decide (m.msg.count.toNat = 0)) = false := by
    simp [chipOf_sector, hchip, hnonzero, hfmt]
  have hmerge' : tget [] ((s.taken m).note (tinUnit m.tine) 0x0A (some m.slice) 1).rw.merge (m.tine / 8) = [] := hmerge
  have hroom : ¬ ([] : List Merge).length ≥ 256 := by decide
  unfold State.msgContrib
  simp only [hhere, hmerge', hherd, hroom, List.findIdx?_nil, List.any_nil, List.nil_append, Bool.false_eq_true, if_false]
  exact ⟨rfl, rfl⟩

/-- What taking a message leaves of what its home looks at: the homes, the table, the keys and the merge buffers. -/
structure State.HomesKept (s u : State) : Prop where
  takes : ∀ {line sl fn need host n h}, HomeTakes s line sl fn need host n h → HomeTakes u line sl fn need host n h
  home : ∀ h, u.home h = s.home h
  own : ∀ g, u.ownAt g = s.ownAt g
  key : ∀ x, u.keyLive x = s.keyLive x
  mirrored : ∀ h, u.mirrored h = s.mirrored h
  rw : u.rw = s.rw

theorem State.physOf_of_homes {u : State} (hhome : ∀ j, u.home j = s.home j) (hup : ∀ j, u.comingUp j = s.comingUp j) (x : Nat) :
    u.physOf x = s.physOf x := by
  simp only [State.physOf, hhome, hup]

theorem State.mirrored_of_homes {u : State} (hhome : ∀ j, u.home j = s.home j) (hup : ∀ j, u.comingUp j = s.comingUp j) (x : Nat) :
    u.mirrored x = s.mirrored x := by
  simp only [State.mirrored, State.buddy, State.nameOfHome, State.physOf_of_homes hhome hup, hhome]

theorem State.gate_congr {u : State} (hown : u.own = s.own) (hslc : u.slc = s.slc) (g sl : Nat) (fn : Option Nat) (need : Need)
    (host internal : Bool) : u.gate g sl fn need host internal = s.gate g sl fn need host internal := by
  simp only [State.gate, State.ownAt, State.member, State.writer, hown, hslc] <;> rfl

theorem State.taken_homesKept (hl : Linked s m.sa k a b) : s.HomesKept (s.taken m) := by
  obtain ⟨⟨w, tines, htaken⟩, -⟩ := State.taken_aside hl
  have hhome : ∀ j, (s.taken m).home j = s.home j := fun _ => by rw [htaken]; rfl
  have hup : ∀ j, (s.taken m).comingUp j = s.comingUp j := fun _ => by rw [htaken]; rfl
  refine ⟨?_, hhome, fun _ => by rw [htaken]; rfl, fun _ => by rw [htaken]; rfl, State.mirrored_of_homes hhome hup, by rw [htaken]; rfl⟩
  intro line sl fn need host n h hh
  obtain ⟨hchip, hname, hphys, hgate, hrest⟩ := hh
  rw [← State.physOf_of_homes hhome hup] at hphys
  rw [← State.gate_congr (u := s.taken m) (by rw [htaken]; rfl) (by rw [htaken]; rfl)] at hgate
  refine ⟨?_, ?_, hphys, hgate, ?_⟩
  all_goals rw [htaken]
  · exact hchip
  · exact hname
  · exact hrest

theorem State.HomesKept.filt {u : State} (h : s.HomesKept u) (i line : Nat) : u.filt i line = s.filt i line := by
  rw [State.filt, State.filt, h.home]

theorem State.HomesKept.homeData {u : State} (h : s.HomesKept u) (i line : Nat) : u.homeData i line = s.homeData i line := by
  rw [State.homeData, State.homeData, h.home]

/-- A request of the network that an idle home of this chip takes: its home then accepts it for the function it came from. -/
theorem State.msgAccept_of_network {t : Txn} {fn : Nat} (hherd : m.herd = false)
    (hh : HomeTakes s t.line t.slice fn t.op.need false n h) : s.msgAccept m t = (s.taken m).accept t (some m.fn) := by
  rw [State.msgAccept_of_homeTakes hh, hherd, if_neg Bool.false_ne_true]

end

/-- Settles O42: the message is taken, which leaves the homes and the connection what they are (`State.taken_homesKept`,
`State.taken_aside`); the home accepts its request, makes it and answers on the connection's return slot. -/
theorem requestsOverATine : Obligations.RequestsOverATine := by
  unfold Obligations.RequestsOverATine
  intro s i m n h k line a b hl hline
  subst hline
  have hkept := State.taken_homesKept hl
  have hgone := State.not_mem_taken_inbox hl
  obtain ⟨-, a', b', hlinked⟩ := State.taken_aside hl
  refine ⟨?_, ?_, ?_, ?_, ?_⟩
  · intro d ht hherd hsub hh hfilt hdata hfmt
    have hexec : exec (.readMessage i) s = .next ((s.taken m).accept (s.msgTxn m .rdOnce) (some m.fn)) := by
      change execReadMessage i s = _
      rw [execReadMessage, State.onMsg_of_msgTakes ht, State.msgRead, hsub,
        ← State.msgAccept_of_network (t := s.msgTxn m .rdOnce) hherd hh]
      rfl
    obtain ⟨hsends, hinbox⟩ := State.accept_rdOnce_replies (t := s.msgTxn m .rdOnce) hlinked (s.msgTxn_ofChip m _) rfl rfl rfl
      (hkept.takes hh) ((hkept.filt ..).trans hfilt) ((hkept.homeData ..).trans hdata) ((congrArg OwnEntry.fmt (hkept.own _)).trans hfmt)
    exact ⟨_, hexec, hinbox ▸ hgone, hsends⟩
  · intro w l ht hherd hh hfilt hway hdirty hpoison hlive hm
    have hexec : exec (.writeMessage i) s = .next ((s.taken m).accept (s.writeTxn m) (some m.fn)) := by
      change execWriteMessage i s = _
      rw [execWriteMessage, State.onMsg_of_msgTakes ht, ← State.msgAccept_of_network (t := s.writeTxn m) hherd hh]
      rfl
    rw [← hkept.home] at hway
    rw [← hkept.key] at hlive
    rw [← hkept.mirrored] at hm
    obtain ⟨hsends, hinbox, hline⟩ := State.accept_change_replies (t := s.writeTxn m) (oldv := 0) hlinked (s.writeTxn_ofChip m) rfl rfl
      (.inl rfl) (hkept.takes hh) ((hkept.filt ..).trans hfilt) hway hdirty hpoison hlive hm rfl
    exact ⟨_, hexec, hinbox ▸ hgone, hsends, hline⟩
  · intro w l e ht hherd hsub hh hfilter hst howner hway
    have hexec : exec (.evictMessage i) s = .next ((s.taken m).accept (s.evictionTxn m) none) := by
      change execEvictMessage i s = _
      rw [execEvictMessage, State.onMsg_of_msgTakes ht, State.msgEvict, hsub]
      have haccept := State.msgAccept_of_homeTakes (m := m) (t := s.evictionTxn m) hh
      rw [hherd, if_pos rfl] at haccept
      rw [← haccept]
      rfl
    rw [← hkept.home] at hfilter
    obtain ⟨hsends, hinbox, hforgot, hlines⟩ := State.accept_evict_replies (fno := none) (t := s.evictionTxn m) hlinked
      (s.evictionTxn_ofChip m) rfl rfl rfl (hkept.takes hh) (congrArg OwnEntry.fn (hkept.own _)) hfilter hst howner
    refine ⟨_, hexec, hinbox ▸ hgone, hforgot, ?_, hsends⟩
    rw [HomeSt.way?, hlines, hkept.home]
    exact hway
  · intro w l x y o size oldv new ht hherd hh hfilt hway hdirty hpoison hlive hm hoperands haligned hnew
    have hexec : exec (.atomicMessage i) s = .next ((s.taken m).accept (s.atomicTxn m x y o size) (some m.fn)) := by
      change execAtomicMessage i s = _
      rw [execAtomicMessage, State.onMsg_of_msgTakes ht, State.msgAtomic_of_operands hoperands haligned,
        ← State.msgAccept_of_network (t := s.atomicTxn m x y o size) hherd hh]
    rw [← hkept.home] at hway
    rw [← hkept.key] at hlive
    rw [← hkept.mirrored] at hm
    obtain ⟨hsends, hinbox, hline⟩ := State.accept_change_replies (t := s.atomicTxn m x y o size) hlinked
      (s.atomicTxn_ofChip m x y o size) rfl rfl (.inr rfl) (hkept.takes hh) ((hkept.filt ..).trans hfilt) hway hdirty hpoison hlive hm hnew
    exact ⟨_, hexec, hinbox ▸ hgone, hline, hsends⟩
  · intro ht hherd hsub hchip hcount hmerge
    rw [← hkept.rw] at hmerge
    obtain ⟨hinbox, hentered⟩ := State.msgContrib_enters hherd hsub hchip hcount hmerge
    refine ⟨s.msgContrib m, ?_, hinbox ▸ hgone, ?_⟩
    · change execContribMessage i s = _
      rw [execContribMessage, State.onMsg_of_msgTakes ht]
    · rw [hentered, hkept.rw]
      rfl

end Sys2Proof.Machine
end

section
/-! Fences and the objects of a host (the statements of 11_host_objects_and_memory_model.md, R345 and R347 to R357): what a
completion makes of a fence's record, the drain of a freed object, and the answers to reads and writes of a view. -/

namespace Sys2Proof.Machine

section

variable {s : State} {i : Nat}

/-! ### A completion with status OK (11 R349) -/

/-- A record that has counted one completion and taken the larger value. -/
def FenceRec.counted (r : FenceRec) (v : Reg) : FenceRec :=
  { r with value := if v.toNat > r.value.toNat then v else r.value, pending := r.pending - 1 }

/-- The record that a completion with status OK makes of one that awaits it and is not in ERROR (11 R349). -/
def FenceRec.completed (r : FenceRec) (source : Nat) (v : Reg) : FenceRec :=
  if r.pending = 1 ∧ r.state = 1 then { r.counted v with state := 2, source := source, detail := 0 } else r.counted v

/-- Outside the block-fatal state a fence's record takes what is written (13 R419). -/
theorem State.setFence_fences_of_live (hlive : s.fatal = false) (r : FenceRec) :
    (s.setFence i r).fences = tset {} s.fences i r := by
  have hlive' : s.flt.fatal.isSome = false := hlive
  simp [State.setFence, hlive']

theorem State.setFence_fence_of_live (hlive : s.fatal = false) (r : FenceRec) : (s.setFence i r).fence i = r := by
  rw [State.fence, State.setFence_fences_of_live hlive, tget_tset_self]

theorem State.fencePageIrq_fences (s : State) (i : Nat) : (s.fencePageIrq i).fences = s.fences := by
  rw [State.fencePageIrq_eq]

theorem State.fenceOk_fences_of_live (hlive : s.fatal = false) (herr : (s.fence i).state ≠ 3) (hpending : 0 < (s.fence i).pending)
    (source : Nat) (v : Reg) :
    (s.fenceOk i source v).fences = tset {} s.fences i ((s.fence i).completed source v) := by
  have hlast : (s.fence i).pending - 1 = 0 ↔ (s.fence i).pending = 1 := by omega
  simp only [State.fenceOk, if_neg herr, FenceRec.completed, Bool.and_eq_true, decide_eq_true_eq, beq_iff_eq, hlast]
  split
  · rw [State.fencePageIrq_fences]
    exact State.setFence_fences_of_live hlive _
  · exact State.setFence_fences_of_live hlive _

theorem FenceRec.counted_value (r : FenceRec) (v : Reg) : (r.counted v).value.toNat = max r.value.toNat v.toNat := by
  rw [FenceRec.counted]
  dsimp only
  split <;> omega

theorem FenceRec.completed_value (r : FenceRec) (source : Nat) (v : Reg) :
    (r.completed source v).value.toNat = max r.value.toNat v.toNat := by
  rw [← r.counted_value, FenceRec.completed]
  split <;> rfl

theorem FenceRec.completed_pending (r : FenceRec) (source : Nat) (v : Reg) :
    (r.completed source v).pending = r.pending - 1 := by
  rw [FenceRec.completed]
  split <;> rfl

end

/-- Settles O58: the record becomes `FenceRec.completed`, which signals an armed fence at its last completion alone. -/
theorem fenceCompletesOk : Obligations.FenceCompletesOk := by
  unfold Obligations.FenceCompletesOk
  intro s i source v hlive herr hpending
  refine ⟨_, State.fenceOk_fences_of_live hlive herr hpending source v, FenceRec.completed_value .., FenceRec.completed_pending ..,
    fun hlast => ?_, fun hmore => ?_⟩
  · rw [FenceRec.completed, if_pos hlast]
    exact ⟨rfl, rfl⟩
  · rw [FenceRec.completed, if_neg hmore]
    exact ⟨rfl, rfl⟩

section

variable {s : State} {f : Nat}

/-! ### The drain of a freed object (11 R345, R357) -/

/-- A drain report is the newest of the reports that wait. -/
theorem View.drain_getLast? (v : View) (r : Nat × Nat) : (v.drain r).drained.getLast? = some r := by
  have hroom : v.drained.length + 1 - 64 ≤ v.drained.length := by omega
  rw [View.drain, List.drop_append_of_le_length hroom, List.getLast?_concat]

theorem State.objGstate_own (s : State) (r : ObjRec) (old dst : Nat) : (s.objGstate r old dst).own =
    s.own.map fun e => if r.holds e.1 && e.2.gstate == old then (e.1, { e.2 with gstate := dst }) else e := rfl

theorem State.objGstate_objs (s : State) (r : ObjRec) (old dst : Nat) : (s.objGstate r old dst).objs = s.objs := rfl

theorem State.objDrained_of_quiet {o : Nat} (hfreed : (s.obj o).state = 2) (hpast : (s.obj o).freedAt < s.blk.tick)
    (hquiet : s.rangeQuiet (s.obj o).first (s.obj o).count (s.obj o).freedAt = true) :
    s.objDrained o = (((s.objGstate (s.obj o) 2 1).setObj o { gen := (s.obj o).gen }).setView (s.obj o).fn
      ((s.view (s.obj o).fn).drain (o, (s.obj o).gen))) := by
  simp only [State.objDrained, hfreed, hpast, hquiet, decide_true, Bool.and_self, if_true]
  rfl

/-! ### Answers of the host port -/

/-- A host port that is up answers. -/
theorem State.hostRsp_out_of_portUp (hup : s.portUp hostPort = true) (tag : Nat) (st : Status) (d : Line) :
    (s.hostRsp tag st d).out = s.out ++ [.hostRsp tag st d] := by
  rw [State.hostRsp, if_pos]
  · simp
  · rw [State.reqClose_eq]
    exact hup

theorem State.hostRsp_slot (s : State) (tag : Nat) (st : Status) (d : Line) (c : Nat) :
    (s.hostRsp tag st d).slot c = s.slot c := by
  rw [State.slot, State.hostRsp_slots, State.slot]

theorem State.hostRsp_fence (s : State) (tag : Nat) (st : Status) (d : Line) (i : Nat) :
    (s.hostRsp tag st d).fence i = s.fence i := by
  rw [State.fence, State.hostRsp_fences, State.fence]

/-- A command that rewrites its function's view and answers OK does so behind an open host port: the request's arrival touches
neither the functions nor the views. -/
theorem State.hostCmd_writes_view {tag : Nat} {v : View} {d : Line} {act : State → State} (hopen : s.HostOpen f tag) (cmd : Instr)
    (hact : ∀ u : State, u.fncs = s.fncs → u.views = s.views → act u = (u.setView f v).hostRsp tag .ok d) :
    (s.hostCmd f tag cmd act).out = s.out ++ [.hostRsp tag .ok d] ∧ (s.hostCmd f tag cmd act).views = tset {} s.views f v := by
  obtain ⟨u, hcmd, hu, -⟩ := State.hostCmd_of_open cmd act hopen
  have hviews : u.views = s.views := by rw [hu]
  rw [hcmd, hact u (by rw [hu]) hviews, State.hostRsp_views, State.setView_views, hviews, State.hostRsp_out_of_portUp]
  · rw [State.setView_out, hu]
    exact ⟨rfl, rfl⟩
  · have hup : u.portUp hostPort = true := by rw [hu]; exact hopen.1
    exact hup

/-- What the read of the reports answers lies in the views (11 R357). -/
theorem State.drainedRead_fst_of_views {u : State} (h : u.views = s.views) (f : Nat) :
    (u.drainedRead f).1 = (s.drainedRead f).1 := by
  rw [State.drainedRead, State.drainedRead, State.view, h]
  rfl

/-- The read of the reports takes the oldest (11 R357). -/
theorem State.drainedRead_snd (s : State) (f : Nat) :
    (s.drainedRead f).2 = s.setView f { s.view f with drained := (s.view f).drained.tail, drainedOverflow := false } := rfl

theorem State.drainedRsp_of_used {u : State} (hused : (s.fnc f).state ≠ 0) (tag : Nat) (hfncs : u.fncs = s.fncs)
    (hviews : u.views = s.views) : u.drainedRsp f tag =
      (u.setView f { s.view f with drained := (s.view f).drained.tail, drainedOverflow := false }).hostRsp tag .ok
        ((s.drainedRead f).1.setWidth 1024) := by
  have hused' : (u.fnc f).state ≠ 0 := by rwa [State.fnc, hfncs]
  have hview : u.view f = s.view f := by rw [State.view, hviews, State.view]
  rw [State.drainedRsp, if_neg hused', ← State.drainedRead_fst_of_views hviews, ← hview, ← State.drainedRead_snd]

theorem State.usageReq_of_used {u : State} (hused : (s.fnc f).state ≠ 0) (tag ctx : Nat) (hfncs : u.fncs = s.fncs)
    (hviews : u.views = s.views) : u.usageReq f tag ctx =
      (u.setView f { s.view f with usageCtx := ctx, usagePending := true, usageReady := false }).hostRsp tag .ok 0 := by
  have hused' : (u.fnc f).state ≠ 0 := by rwa [State.fnc, hfncs]
  have hview : u.view f = s.view f := by rw [State.view, hviews, State.view]
  rw [State.usageReq, if_neg hused', State.usageAsk, hview]

/-! ### Arming a kernel fence (11 R348, R353) -/

/-- The write that arms a slot's kernel fence and passes (11 R353). -/
theorem State.kfenceArm_of_ok {c x fence : Nat} (hctx : (s.slot c).ctx = some x) (hfn : (s.ctx x).fn = f)
    (harmed : (s.slot c).armed = false) (hmirror : s.isMirror = false) (hlost : s.ctxLost x = false)
    (hok : s.armStatus x fence = .ok) (tag : Nat) : s.kfenceArm f tag c fence =
      ((s.setSlot c { s.slot c with kfence := fence, armed := true }).armFence x fence).hostRsp tag .ok 0 := by
  simp [State.kfenceArm, hctx, hfn, harmed, hmirror, hlost, hok]

theorem State.armFence_slots (s : State) (x fence : Nat) : (s.armFence x fence).slots = s.slots := by
  simp [State.armFence]

theorem State.armFence_out (s : State) (x fence : Nat) : (s.armFence x fence).out = s.out := by
  simp [State.armFence]

theorem State.armFence_portUp (s : State) (x fence p : Nat) : (s.armFence x fence).portUp p = s.portUp p := by
  simp [State.armFence, State.portUp, State.port]

/-- Arming makes the record ARMED with one completion more to come (11 R348). -/
theorem State.armFence_fence_of_live (hlive : s.fatal = false) (x fence : Nat) : (s.armFence x fence).fence fence =
    { s.fence fence with state := 1, armer := x, pending := (s.fence fence).pending + 1 } :=
  State.setFence_fence_of_live hlive _

theorem exec_kfenceArm_of_ok {f : BitVec 12} {tag : BitVec 10} {c : BitVec 7} {fence : BitVec 20} {x : Nat}
    (hopen : s.HostOpen f.toNat tag.toNat) (hctx : (s.slot c.toNat).ctx = some x) (hfn : (s.ctx x).fn = f.toNat)
    (harmed : (s.slot c.toNat).armed = false) (hmirror : s.isMirror = false) (hlost : s.ctxLost x = false)
    (hok : s.armStatus x fence.toNat = .ok) :
    ∃ t, exec (.kfenceArm f tag c fence) s = .next t ∧ t.out = s.out ++ [.hostRsp tag.toNat .ok 0] ∧
      t.slot c.toNat = { s.slot c.toNat with kfence := fence.toNat, armed := true } ∧
      t.fence fence.toNat = { s.fence fence.toNat with state := 1, armer := x, pending := (s.fence fence.toNat).pending + 1 } := by
  obtain ⟨u, hcmd, hu, -⟩ := State.hostCmd_of_open (.kfenceArm f tag c fence)
    (fun s => s.kfenceArm f.toNat tag.toNat c.toNat fence.toNat) hopen
  obtain ⟨hup, -, hlive, -⟩ := hopen
  -- the request's arrival touches nothing that the checks read
  have hslot : u.slot c.toNat = s.slot c.toNat := by rw [hu]; rfl
  have hfence : u.fence fence.toNat = s.fence fence.toNat := by rw [hu]; rfl
  have harms : u.kfenceArm f.toNat tag.toNat c.toNat fence.toNat = _ :=
    State.kfenceArm_of_ok (hslot ▸ hctx) (by rw [hu]; exact hfn) (hslot ▸ harmed) (by rw [hu]; exact hmirror)
      (by rw [hu]; exact hlost) (by rw [hu]; exact hok) tag.toNat
  refine ⟨_, congrArg Host.Outcome.next (hcmd.trans harms), ?_, ?_, ?_⟩
  · rw [State.hostRsp_out_of_portUp, State.armFence_out, State.setSlot_out, hu]
    rw [State.armFence_portUp, hu]
    exact hup
  · rw [State.hostRsp_slot, State.slot, State.armFence_slots, ← hslot]
    exact State.setSlot_slot ..
  · rw [State.hostRsp_fence, State.armFence_fence_of_live, ← hfence]
    · rfl
    · rw [hu]
      exact hlive

/-! ### Fence pages and records (11 R351, R354) -/

theorem State.fpageCmd_eq (s : State) (cmd : Reg) : s.fpageCmd cmd = { s with ctxWin :=
    if s.ctxWin.pending = none then { s.ctxWin with pending := some cmd } else { s.ctxWin with result := 6 } } := by
  unfold State.fpageCmd
  cases s.ctxWin.pending <;> rfl

/-- The repair leaves the record dead and the fence off the list of the unreadable ones (11 R354). -/
theorem State.fenceRepair_fences (s : State) (i : Nat) : (s.fenceRepair i).fences =
    (s.setFence i { s.fence i with value := fenceDead, state := 3, source := 4, detail := 0x10, pending := 0 }).fences := by
  rw [State.fenceRepair, State.fencePageIrq_fences, State.raise_fences]

theorem State.fenceRepair_badFences (s : State) (i : Nat) :
    (s.fenceRepair i).badFences = s.badFences.filter (· != i) := by
  rw [State.fenceRepair, State.fencePageIrq_eq]
  simp

end

/-- Settles O48: a request at the host port takes its tag first, which leaves what the view, the slot and the fence hold; the
answer to a fence page command goes to the tag of the transfer (log entry 170), and the repair of a record does not ask for the
mark that says it is unreadable (log entry 163). -/
theorem objectsFencesAndUsage : Obligations.ObjectsFencesAndUsage := by
  unfold Obligations.ObjectsFencesAndUsage
  refine fun s => ⟨fun o hfreed hpast hquiet => ?drained, fun f tag hopen hused => ?read,
    fun _ _ _ _ _ => exec_kfenceArm_of_ok,
    fun cmd hopen => ?page, fun i hlive => ?repair, fun f tag ctx hopen hused => ?usage⟩
  case drained =>
    refine ⟨_, congrArg Host.Outcome.next (State.objDrained_of_quiet hfreed hpast hquiet), ?_, ?_, ?_⟩
    · rw [State.setView_objs, State.setObj_objs, State.objGstate_objs]
    · rw [State.setView_view]
      exact View.drain_getLast? ..
    · rw [State.setView_own, State.setObj_own, State.objGstate_own]
  case read =>
    exact ⟨_, rfl, State.hostCmd_writes_view hopen _ fun _ => State.drainedRsp_of_used hused _⟩
  case page =>
    have hup : (s.fpageCmd cmd).portUp mgPort = true := by rw [State.fpageCmd_eq]; exact hopen.1
    refine ⟨_, congrArg Host.Outcome.next (State.mgWrite_out_of_open hopen hup), ?_⟩
    rw [State.fpageCmd_eq]
    exact ⟨rfl, rfl, rfl⟩
  case repair =>
    refine ⟨_, rfl, ?_, ?_⟩
    · simp [State.fenceRepair_badFences]
    · rw [State.fence, State.fenceRepair_fences]
      exact State.setFence_fence_of_live (by rw [State.fatal, hlive]; rfl) _
  case usage =>
    obtain ⟨hout, hviews⟩ := State.hostCmd_writes_view hopen (.usageQuery f tag ctx)
      fun _ => State.usageReq_of_used hused tag.toNat ctx.toNat
    refine ⟨_, rfl, hout, ?_⟩
    rw [State.view, hviews, tget_tset_self]

end Sys2Proof.Machine
end

section
/-! Fault messages (13 R391, R394, R397, R399): what is raised, what the collector makes of a message and of a repeated one. -/

namespace Sys2Proof.Machine

section

variable {s : State}

/-! ### Raising (13 R391) -/

/-- An aggregator that has room takes the message behind those that wait (13 R391). -/
theorem State.raise_aggs_of_room {u : Nat} (hroom : (tget [] s.flt.aggs (dieOfUnit u)).length < 64)
    (kind cls subType subj sl fn : Nat) :
    (s.raise u kind cls subType subj sl fn).flt.aggs = tset [] s.flt.aggs (dieOfUnit u)
      (tget [] s.flt.aggs (dieOfUnit u) ++ [mkMsg u kind cls subType subj sl fn s.tick32]) := by
  simp only [State.raise, if_pos hroom, State.ring_flt]
  repeat' split
  all_goals rfl

/-- The oldest messages of the aggregator stay in front of the one raised (13 R391). -/
theorem State.raise_agg_of_room {u : Nat} (hroom : (tget [] s.flt.aggs (dieOfUnit u)).length < 64)
    (kind cls subType subj sl fn : Nat) :
    tget [] (s.raise u kind cls subType subj sl fn).flt.aggs (dieOfUnit u) =
      tget [] s.flt.aggs (dieOfUnit u) ++ [mkMsg u kind cls subType subj sl fn s.tick32] := by
  rw [State.raise_aggs_of_room hroom, tget_tset_self]

/-- A raised kind leaves the slices' counters but for its class's own of its slice (15 R458). -/
theorem State.raise_cntLive (s : State) (u kind cls subType subj sl fn : Nat) :
    (s.raise u kind cls subType subj sl fn).obs.cntLive =
      if cls = 1 then (s.count sl 64 1).obs.cntLive else if cls = 2 then (s.count sl 65 1).obs.cntLive else s.obs.cntLive := by
  have hring : ∀ (v : State) (u c a : Nat), (v.ring u c a).obs.cntLive = v.obs.cntLive := by
    intro v u c a
    unfold State.ring
    split <;> rfl
  unfold State.raise
  extract_lets m d q f1 f2 s1 s2 f3 s3
  have hs1 : s1.obs = s.obs := by unfold s1; split <;> rfl
  have hs3 : s3.obs = s2.obs := by unfold s3; split <;> rfl
  rw [hring, hs3]
  unfold s2 State.count
  rw [hs1]
  split
  · rfl
  · split
    · rfl
    · rw [hs1]

theorem State.count_cntLive (s : State) (sl k n : Nat) : tget 0 (s.count sl k n).obs.cntLive (sl * 128 + k) =
    tget 0 s.obs.cntLive (sl * 128 + k) + n := tget_tset_self ..

/-! ### The collector (13 R394, R399, R401) -/

/-- `s` with the class of a message counted (13 R399). -/
def State.counted (s : State) (m : Msg) : State := { s with flt := s.flt.countClass (msgClass m) }

/-- Counting a class touches the three counts alone (13 R399). -/
theorem Flt.countClass_eq (f : Flt) (cls : Nat) : f.countClass cls =
    { f with ce := (f.countClass cls).ce, cu := (f.countClass cls).cu, ft := (f.countClass cls).ft } := by
  unfold Flt.countClass
  repeat' split
  all_goals rfl

/-- The counts depend on the counts alone. -/
theorem Flt.countClass_aggs (f : Flt) (q : Map (List Msg)) (cls : Nat) :
    ({ f with aggs := q } : Flt).countClass cls = { f.countClass cls with aggs := q } := by
  unfold Flt.countClass
  repeat' split
  all_goals rfl

/-- A kind without a ce_limit reaches none (13 R401). -/
theorem State.limit_of_no_limit {m : Msg} (hlimit : (s.kindCfg (msgKind m)).ceLimit = 0) : s.limit m = (s, false) := by
  simp only [State.limit, if_pos hlimit]

/-- Two messages are of the same unit, kind, subject and tick (13 R394). -/
def sameMsg (m x : Msg) : Bool :=
  msgUnit x == msgUnit m && msgKind x == msgKind m && msgSubject x == msgSubject m && field x 93 32 == field m 93 32

/-- `s` with every message of the history that a message repeats marked (13 R394). -/
def State.marked (s : State) (m : Msg) : State :=
  { s with flt := { s.flt with hist := s.flt.hist.map fun x => if sameMsg m x then msgRepeat x else x } }

/-- A message of a kind without a ce_limit that repeats one of the history is counted and marks it, and does nothing else
(13 R394). -/
theorem State.arrive_of_repeated {m : Msg} (hlimit : (s.kindCfg (msgKind m)).ceLimit = 0) (hsame : s.flt.hist.any (sameMsg m) = true) :
    s.arrive m = (s.counted m).marked m := by
  have hlimit' : ((s.counted m).kindCfg (msgKind m)).ceLimit = 0 := by
    rw [← hlimit, State.counted, Flt.countClass_eq]
    rfl
  have hsame' : (s.counted m).flt.hist.any (sameMsg m) = true := by rwa [State.counted, Flt.countClass_eq]
  unfold State.arrive
  extract_lets c
  rw [State.limit_of_no_limit (s := c) hlimit']
  exact if_pos hsame'

/-- The alert touches what FLT_STATUS says of it, and the pins (13 R405). -/
theorem State.alert_eq (s : State) (m : Msg) : s.alert m = { s with
    flt := { s.flt with low := (s.alert m).flt.low, hold := (s.alert m).flt.hold, cls := (s.alert m).flt.cls,
                        alertTick := (s.alert m).flt.alertTick }, out := (s.alert m).out } := by
  unfold State.alert
  extract_lets c k must chosen
  repeat' split
  all_goals rfl

theorem State.stopOnFault_flt (s : State) (cls : Nat) : (s.stopOnFault cls).flt = s.flt := by
  unfold State.stopOnFault
  split <;> rfl

/-- The first error of the register: the one it holds, or else a message of the least class or above (13 R399). -/
def Flt.firstWith (f : Flt) (m : Msg) (t : Nat) : Option (Msg × Nat) :=
  match f.first with
  | some x => some x
  | none => if max 1 f.minClass ≤ msgClass m then some (m, t) else none

/-- The record that keeps a message which is none of the history's, as its first error where it holds none (13 R394, R399, R402). -/
def State.collected (s : State) (m : Msg) : State :=
  { s with flt := { s.flt.keep m with
      first := s.flt.firstWith m (s.blk.tick - (s.tick32 + 2 ^ 32 - field m 93 32) % 2 ^ 32),
      handling := s.flt.handling ++ (if s.recovers m then [(m, 0)] else if msgClass m = 2 then [(m, s.blk.tick + 9)] else []),
      undeclared := s.flt.undeclared ++ [m] } }

/-- What the collector tells of a message it has collected: the interrupt, the alert, a global stop, a PLDM event. -/
def State.reported (s : State) (m : Msg) : State :=
  let t := ((if (s.kindCfg (msgKind m)).irq then s.mgIrq 0x01 else s).alert m).stopOnFault (msgClass m)
  if msgClass m ≥ 2 then t.event 0 m.toNat else t

/-- A message of a kind without a ce_limit, the first of the history, with none being handled, is counted, collected and
reported (13 R399, R405). -/
theorem State.arrive_of_first {m : Msg} (hlimit : (s.kindCfg (msgKind m)).ceLimit = 0) (hhist : s.flt.hist = [])
    (hhandling : s.flt.handling = []) : s.arrive m = ((s.counted m).collected m).reported m := by
  have hlimit' : ((s.counted m).kindCfg (msgKind m)).ceLimit = 0 := by
    rw [← hlimit, State.counted, Flt.countClass_eq]
    rfl
  have hnew : ¬ (s.counted m).flt.hist.any (sameMsg m) = true := by
    rw [State.counted, Flt.countClass_eq]
    simp [hhist]
  have hesc : ¬ (s.counted m).escalates m = true := by
    simp only [State.escalates, State.counted]
    rw [Flt.countClass_eq]
    simp [hhandling]
  unfold State.arrive
  extract_lets c
  rw [State.limit_of_no_limit (s := c) hlimit']
  refine (if_neg hnew).trans ?_
  rw [if_neg (show ¬ (if false = true then c.limitHit m else c).escalates m = true from hesc)]
  rfl

/-- The report of a message changes what the collector's record says of the alert (13 R405). -/
theorem State.reported_flt (s : State) (m : Msg) : (s.reported m).flt = { s.flt with
    low := (s.reported m).flt.low, hold := (s.reported m).flt.hold, cls := (s.reported m).flt.cls,
    alertTick := (s.reported m).flt.alertTick } := by
  have htold : (s.reported m).flt = ((if (s.kindCfg (msgKind m)).irq then s.mgIrq 0x01 else s).alert m).flt := by
    simp only [State.reported]
    split
    · rw [State.event_eq, State.stopOnFault_flt]
    · rw [State.stopOnFault_flt]
  have hirq : (if (s.kindCfg (msgKind m)).irq then s.mgIrq 0x01 else s).flt = s.flt := by
    split <;> simp
  rw [htold, State.alert_eq, hirq]

/-- `s` with the messages `q` left at the aggregator of a die (13 R391). -/
def State.dequeued (s : State) (d : Nat) (q : List Msg) : State := { s with flt := { s.flt with aggs := tset [] s.flt.aggs d q } }

/-- The oldest message of an aggregator leaves it and arrives (13 R391). -/
theorem exec_faultMessage_of_queued {die : BitVec 3} {m : Msg} {q : List Msg} (hphase : 4 ≤ s.fawn.phase)
    (hagg : tget [] s.flt.aggs die.toNat = m :: q) : exec (.faultMessage die) s = .next ((s.dequeued die.toNat q).arrive m) := by
  have hdeliver : s.deliver die.toNat = (s.dequeued die.toNat q).arrive m := by
    rw [State.deliver, hagg]
    rfl
  rw [← hdeliver]
  exact congrArg Host.Outcome.next (if_neg (Nat.not_lt.mpr hphase))

end

/-- Settles O59: the collector holds one message, which the one that arrives repeats; what counts a raised kind is the
counter of its slice for its class. -/
theorem repeatedMessagesAreOne : Obligations.RepeatedMessagesAreOne := by
  unfold Obligations.RepeatedMessagesAreOne
  refine ⟨fun s die m x q hphase hagg hlimit hhist hunit hkind hsubject htick => ?_, fun s u kind ty subj sl fn => ⟨?_, ?_⟩⟩
  · have hsame : sameMsg m x = true := by simp [sameMsg, hunit, hkind, hsubject, htick]
    have hany : (s.dequeued die.toNat q).flt.hist.any (sameMsg m) = true := by
      rw [State.dequeued, show _ = s.flt.hist from rfl, hhist]
      simp [hsame]
    refine ⟨_, exec_faultMessage_of_queued hphase hagg, ?_⟩
    rw [State.arrive_of_repeated (s := s.dequeued die.toNat q) hlimit hany]
    simp only [State.marked, State.counted, State.dequeued, Flt.countClass_aggs]
    rw [Flt.countClass_eq]
    simp [hhist, hsame]
  · rw [State.raise_cntLive, if_pos rfl, State.count_cntLive]
  · rw [State.raise_cntLive, if_neg (by decide), if_pos rfl, State.count_cntLive]

end Sys2Proof.Machine
end

section
/-! The registers of the fault machinery (13 R398, R399, R405, R418, R420, R421, 07 R246): what a read returns and clears, injection,
and the dump. -/

namespace Sys2Proof.Machine

section

variable {s : State} {free : Bool}

/-! ### Writes and reads of the open management port (02 R70, 14 R438) -/

/-- A write that leaves the port up is answered OK in the state it makes. -/
theorem State.mgWrite_emits {f : State → State} (hopen : s.MgOpen free) (hup : (f s).portUp mgPort = true) :
    s.mgWrite free f = (f s).emit (.mgRsp (f s).mgTag .ok 0) := by
  rw [State.mgWrite_of_open f hopen, State.mgRsp, if_pos hup]

theorem State.mgRead_of_open (v : State → Reg) (after : State → State) (hopen : s.MgOpen free) :
    s.mgRead v after = (after s).mgRsp .ok (v s) := by
  obtain ⟨hup, hphase, hheld⟩ := hopen
  have hpast : s.fawn.phase ≠ 3 := by
    intro h
    simp [State.mgHeld, h] at hheld
  have hrun : ¬ s.fawn.phase < 3 := by omega
  simp [State.mgRead, hup, hrun, hpast]

/-- A read whose effect leaves the port up is answered with what the register held before. -/
theorem State.mgRead_emits {v : State → Reg} {after : State → State} (hopen : s.MgOpen free)
    (hup : (after s).portUp mgPort = true) : s.mgRead v after = (after s).emit (.mgRsp (after s).mgTag .ok (v s)) := by
  rw [State.mgRead_of_open v after hopen, State.mgRsp, if_pos hup]

/-- An interrupt of a management port that drives its outputs is the transfer made last. -/
theorem State.mgIrq_out_of_drives (h : s.drives mgPort = true) (vec : Nat) : (s.mgIrq vec).out = s.out ++ [.mgIrq vec] := by
  rw [State.mgIrq, State.emitAt_out_of_drives h]

theorem State.fltCountClear_countReg (s : State) : s.fltCountClear.flt.countReg = 0 := by
  simp [State.fltCountClear, Flt.countReg, rput, place]

/-! ### Injection (13 R418) -/

/-- An error of a dirty data entry whose mirror entry is good takes the mirror's data, and a first error of the way disables
nothing (05 R156). -/
theorem State.arrayError_of_mirrored {h k b : Nat} {l : LlcLine} {c : MirrorEnt} (hl : mget? (s.home h).lines k = some l)
    (hdirty : l.dirty = true) (hb : s.buddy h = some b) (hc : mget? (s.home b).mirror l.line = some c)
    (hfirst : (s.home h).tagErrs.all (fun e => e.1 != k) = true) :
    ((s.arrayError h k false false).home h).lines = mput (s.home h).lines k { l with data := c.data, poison := c.poison } := by
  have hagain : ∀ (u : State), (u.home h).tagErrs = (s.home h).tagErrs → ((u.wayErr h k).home h).lines = (u.home h).lines := by
    intro u hu
    have hnot : ((u.home h).tagErrs.any fun e => e.1 == k && decide (u.blk.tick ≤ e.2 + 1024)) = false := by
      rw [hu, List.any_eq_false]
      intro e he
      have := List.all_eq_true.mp hfirst e he
      simp_all
    simp [State.wayErr, hnot]
  have hraise : ∀ (u : State) (a b c d e f g : Nat), (u.raise a b c d e f g).home h = u.home h := by
    intro u a b c d e f g
    simp [State.home]
  simp only [State.arrayError, hl, hdirty, hb, hc, Option.bind_some, if_true, Bool.false_eq_true, if_false]
  rw [hagain] <;> simp [hraise]

end

/-- Settles O49: the collector is `State.arrive`, the reads return what their register held and clear it, and the answers go to
the tag of the transfer (log entry 170); the arrays of a home are those of log entry 186, one flipped bit is corrected by the
array itself (log entry 114), and a dump region of 0 MiB takes no dump (log entry 155). -/
theorem faultCollector : Obligations.FaultCollector := by
  unfold Obligations.FaultCollector
  refine fun s => ⟨fun u kind hopen hon hkind hroom => ?raise, fun die m q hphase hagg hlimit hhist hhandling => ?arrive,
    fun hlow hhold hdue => ?release, fun hopen => ?hold, fun hopen => ?first, fun hopen => ?counts, fun p hopen => ?errors,
    fun u loc hopen => ?one, fun u loc h k b l c hopen hon hh hu harray hk hlt hl hdirty hb hc hfirst => ?two,
    fun ok hdump => ?write, fun hdump hbytes => ?complete, fun hopen => ?read⟩
  case raise =>
    refine ⟨_, congrArg Host.Outcome.next (State.mgWrite_of_open _ hopen), ?_⟩
    rw [State.mgRsp_flt, if_pos (by simpa [hon] using hkind), State.raise_agg_of_room hroom]
  case arrive =>
    refine ⟨_, exec_faultMessage_of_queued hphase hagg, ?_⟩
    rw [State.arrive_of_first (s := s.dequeued die.toNat q) hlimit hhist hhandling, State.reported_flt]
    simp only [State.collected, State.counted, State.dequeued, Flt.countClass_aggs, Flt.keep]
    rw [Flt.countClass_eq]
    refine ⟨trivial, by simp [hhist], rfl, trivial, fun hnone hmin hcls => ?_, fun x hx => ?_⟩
    · simp [Flt.firstWith, hnone, hmin, hcls]
    · simp [Flt.firstWith, hx]
  case release =>
    refine ⟨_, congrArg Host.Outcome.next (if_pos (by simp [hlow, hhold, hdue])), rfl, rfl, rfl⟩
  case hold =>
    refine ⟨_, congrArg Host.Outcome.next (State.mgWrite_of_open _ hopen), ?_⟩
    rw [State.mgRsp_flt]
    split <;> exact ⟨rfl, rfl⟩
  case first =>
    refine ⟨_, congrArg Host.Outcome.next (State.mgWrite_of_open _ hopen), ?_⟩
    rw [State.mgRsp_flt]
    exact ⟨rfl, rfl⟩
  case counts =>
    exact ⟨_, congrArg Host.Outcome.next (State.mgRead_emits hopen hopen.1), rfl, s.fltCountClear_countReg⟩
  case errors =>
    exact ⟨_, congrArg Host.Outcome.next (State.mgRead_emits hopen hopen.1), rfl, rfl⟩
  case one =>
    have hkeeps : (if s.injectOn then s.injectFlip u.toNat loc.toNat false else s) = s := by
      simp [State.injectFlip]
    refine ⟨_, congrArg Host.Outcome.next (State.mgWrite_emits hopen (by rw [hkeeps]; exact hopen.1)), ?_⟩
    rw [hkeeps]
    exact ⟨rfl, rfl, rfl⟩
  case two =>
    have hclass : u.toNat / 256 = 1 ∧ u.toNat % 256 = h := by rw [hu, hslUnit, unitId]; omega
    have hflip : s.injectFlip u.toNat loc.toNat true = s.arrayError h k false false := by
      simp only [State.injectFlip, hclass, hh, harray, ← hk, hlt, decide_true, Bool.and_self, if_true]
    refine ⟨_, congrArg Host.Outcome.next (State.mgWrite_of_open _ hopen), ?_⟩
    rw [State.home, State.mgRsp_homes, if_pos hon, hflip, ← State.home, State.arrayError_of_mirrored hl hdirty hb hc hfirst,
      mget?_mput_self]
  case write =>
    refine ⟨_, rfl, ?_⟩
    simp only [State.dumpWrite, hdump, bne_self_eq_false, Bool.false_eq_true, if_false, true_and]
  case complete =>
    have hbytes' : s.flt.dumpBytes.isEmpty = false := by simpa using hbytes
    refine ⟨_, rfl, ?_⟩
    simp only [State.dumpComplete, hdump, hbytes', bne_self_eq_false, Bool.or_self, Bool.false_eq_true, if_false]
    refine ⟨?_, fun hdrives => ?_⟩
    · rw [State.mgIrq_flt]
      split <;> rfl
    · rw [State.mgIrq_out_of_drives]
      · split <;> rfl
      · split <;> exact hdrives
  case read =>
    exact ⟨_, congrArg Host.Outcome.next (State.mgRead_emits hopen hopen.1), rfl, rfl⟩

end Sys2Proof.Machine
end

section
/-! Failures and the recoveries they open (13 R395, R396, R404, R406, R408, R410 to R413). -/

namespace Sys2Proof.Machine

section

variable {s : State} {r : Nat}

/-! ### Records (13 R404) -/

@[simp] theorem State.setRec_recAt (s : State) (r : Nat) (x : Recovery) : (s.setRec r x).recAt r = x := tget_tset_self ..

theorem State.recAt_congr {u : State} (h : u.flt.recs = s.flt.recs) (i : Nat) : u.recAt i = s.recAt i := by
  rw [State.recAt, h, State.recAt]

theorem State.freeRec_congr {u : State} (h : u.flt.recs = s.flt.recs) : u.freeRec = s.freeRec := by
  simp only [State.freeRec, State.recAt_congr h]

/-- A record that is alone is the one its key reads. -/
theorem State.recAt_of_single {x : Recovery} (h : s.flt.recs = [(r, x)]) : s.recAt r = x := by
  simp [State.recAt, h, tget, mget?]

/-- A recovery that finds a free record runs in it, with vector 0x02 (13 R404). -/
theorem State.recOpen_of_free (hfree : s.freeRec = some r) {x : Recovery} (hnew : x.state = 0) :
    s.recOpen x = (s.setRec r { x with startTick := s.tick32, state := 1 }).mgIrq 0x02 := by
  simp [State.recOpen, hfree, hnew]

theorem State.recOpen_recAt_of_free (hfree : s.freeRec = some r) {x : Recovery} (hnew : x.state = 0) :
    (s.recOpen x).recAt r = { x with startTick := s.tick32, state := 1 } := by
  rw [State.recOpen_of_free hfree hnew, State.recAt, State.mgIrq_flt, ← State.recAt, State.setRec_recAt]

/-- Opening a record touches the collector and the transfers. -/
theorem State.recOpen_eq (s : State) (x : Recovery) :
    s.recOpen x = { s with flt := (s.recOpen x).flt, out := (s.recOpen x).out } := by
  unfold State.recOpen
  extract_lets y
  split
  · rw [State.mgIrq, State.emitAt_eq]
    rfl
  · rfl

/-! ### Declaration (13 R396, R406) -/

/-- `s` with every reaction declared. -/
def State.reacted (s : State) : State := { s with flt := { s.flt with undeclared := [] } }

/-- The one message that waits for its reaction gets it, where it meets the test (13 R396). -/
theorem State.declareIf_of_single {m : Msg} {p : Msg → Bool} (hm : s.flt.undeclared = [m]) (hp : p m = true) :
    s.declareIf p = s.reacted.declare m := by
  simp [State.declareIf, State.reacted, hm, hp]

theorem State.declareIf_of_none (hnone : s.flt.undeclared = []) (p : Msg → Bool) : s.declareIf p = s := by
  have heta : s = { s with flt := { s.flt with undeclared := [] } } := by rw [← hnone]
  simp only [State.declareIf, hnone, List.filter_nil, List.foldl_nil]
  exact heta.symm

theorem unitId_div {cls i : Nat} (h : i < 256) : unitId cls i / 256 = cls := by
  rw [unitId]
  omega

theorem unitId_mod {cls i : Nat} (h : i < 256) : unitId cls i % 256 = i := by
  rw [unitId]
  omega

/-- A home slice that has not failed fails with kind 0x4F (13 R396). -/
theorem State.unitFails_of_home {u h : Nat} (hu : u = hslUnit h) (hh : h < 136) (hsound : (s.unit u).failed = false) :
    s.unitFails u = (s.setUnit u { s.unit u with failed := true }).raise u 0x4F 1 3 u 0 0 := by
  have hcls : u / 256 = 1 := hu ▸ unitId_div (by omega)
  have hidx : u % 256 = h := hu ▸ unitId_mod (by omega)
  have hexists : unitExists u = true := by simp [unitExists, hcls, hidx, hh]
  simp [State.unitFails, hexists, hsound, hcls]

/-! ### Tines (13 R411) -/

/-- With nothing unacknowledged, nothing is sent again (10 R329). -/
theorem State.respray_of_quiet (hquiet : ∀ a ∈ s.sas, a.2.msgs = []) (t : Nat) : s.respray t = s := by
  refine foldl_eq_self fun a ha => ?_
  rw [hquiet a ha]
  rfl

theorem State.tineDeclare_of_failed {t : Nat} (hnew : s.inRecovery (tinUnit t) = false) (hfailed : (s.tine t).state = 3)
    (hquiet : ∀ a ∈ s.sas, a.2.msgs = []) : s.tineDeclare t = s.recOpen { kind := 3, unit := tinUnit t, step := 1 } := by
  simp [State.tineDeclare, hnew, hfailed, State.respray_of_quiet hquiet]

/-! ### Key engines (13 R412) -/

/-- A key engine whose neighbour is up is marked failed in a new epoch, and its recovery opens at the handover. -/
theorem State.keyDeclare_of_neighbour {p : Nat} (hnew : s.inRecovery (unitId 6 (1 + p)) = false)
    (hup : s.engineUp (1 + (p ^^^ 1)) = true) :
    s.keyDeclare (1 + p) = ((s.setUnit (unitId 6 (1 + p)) { s.unit (unitId 6 (1 + p)) with
      failed := true, epoch := ((s.unit (unitId 6 (1 + p))).epoch + 1) % 256 }).ring (unitId 6 (1 + p)) 0x81
        (((s.unit (unitId 6 (1 + p))).epoch + 1) % 256)).recOpen { kind := 4, unit := unitId 6 (1 + p), step := 2 } := by
  have hother : unitId 6 (1 + (p ^^^ 1)) ≠ unitId 6 (1 + p) := by
    have : p ^^^ 1 ≠ p := by
      intro h
      have hxor : p ^^^ (p ^^^ 1) = p ^^^ p := by rw [h]
      simp at hxor
    simp only [unitId]
    omega
  simp only [State.keyDeclare, hnew, Bool.or_false, decide_eq_true_eq, State.keyLeaves, Nat.add_sub_cancel_left]
  rw [if_neg (by omega), if_pos]
  rw [State.engineUp, State.unit, State.ring_units, ← State.unit, State.setUnit_unit_ne _ _ hother, ← State.engineUp]
  exact hup

/-! ### Job engines (13 R413) -/

/-- An engine without jobs goes offline in a new epoch, is a repair candidate, and its recovery opens. -/
theorem State.jobDeclare_of_idle {e : Nat} (hon : (s.engine e).offline = false) (hidle : s.startedOn e = []) :
    s.jobDeclare e = ((s.engineLeaves e).addRepair (jobUnit e) 3 0 0 0).recOpen { kind := 5, unit := jobUnit e, step := 1 } := by
  have hidle' : (s.engineLeaves e).startedOn e = [] := by
    rw [State.startedOn, State.engineLeaves, State.ring_jobs, State.setEngine_jobs, ← State.startedOn, hidle]
  simp [State.jobDeclare, hon, State.jobsLeave, hidle']

/-- A repair candidate is noted in the collector, and leaves the recoveries (13 R417). -/
theorem State.addRepair_eq (s : State) (u op array element spare : Nat) : s.addRepair u op array element spare = { s with
    flt := { s.flt with repairs := (s.addRepair u op array element spare).flt.repairs,
                        repairOverflow := (s.addRepair u op array element spare).flt.repairOverflow } } := by
  unfold State.addRepair
  extract_lets e
  repeat' split
  all_goals rfl

end

end Sys2Proof.Machine
end

section
/-! The declared failures of a home slice and of a stack (13 R408 to R410). -/

namespace Sys2Proof.Machine

section

variable {s u : State} {h p : Nat}

/-! ### What a fault message leaves (13 R391) -/

theorem State.OnWire.blk (hu : s.OnWire u) : u.blk = s.blk := by
  obtain ⟨b, rfl⟩ := hu
  rfl

theorem State.OnWire.mpt (hu : s.OnWire u) : u.mpt = s.mpt := by
  obtain ⟨b, rfl⟩ := hu
  rfl

theorem State.OnWire.guardOps (hu : s.OnWire u) : u.guardOps = s.guardOps := by
  obtain ⟨b, rfl⟩ := hu
  rfl

theorem State.OnWire.recs (hu : s.OnWire u) : u.flt.recs = s.flt.recs := by
  obtain ⟨b, rfl⟩ := hu
  rfl

/-! ### Stacks (13 R410) -/

/-- The isolation of a memory port touches the ports, what is held and the record of requests (02 R85). -/
theorem State.isolateOnly_of_mem (hp : p < 16) (s : State) (kind : Nat) : s.isolateOnly (mpPort p) kind = { s with
    ports := (s.isolateOnly (mpPort p) kind).ports, held := (s.isolateOnly (mpPort p) kind).held,
    reqs := (s.isolateOnly (mpPort p) kind).reqs } := by
  have hlow : ¬ mpPort p < 256 := by rw [mpPort]; omega
  have hhigh : mpPort p < 272 := by rw [mpPort]; omega
  simp only [State.isolateOnly, hlow, hhigh, if_false, if_true]
  rfl

/-- A stack with nothing outstanding is lost: its bit is set, and beyond that its loss raises kinds and isolates its port. -/
theorem State.loseStack_of_quiet (hp : p < 16) (hkept : s.stackLost p = false) (htxns : s.txns = []) (hguards : s.guardOps = [])
    (htags : (s.mp p).tags = []) (hwaiting : (s.mp p).waiting = []) :
    (s.loseStack p true).mpt.lostMask = s.mpt.lostMask ||| BitVec.ofNat 16 (1 <<< p) ∧
      (s.loseStack p true).flt.recs = s.flt.recs ∧ (s.loseStack p true).blk = s.blk := by
  unfold State.loseStack
  rw [if_neg (by rw [hkept]; exact Bool.false_ne_true)]
  extract_lets u1 m susp mpt u2 u3 u4 u5 u6 reqs port u7 u8
  have h1 : u1 = { s with ports := u1.ports, held := u1.held, reqs := u1.reqs } := State.isolateOnly_of_mem hp s _
  have hm : m = s.mp p := by unfold m; rw [h1]; rfl
  have h23 : u2.OnWire u3 := .ite (State.raise_onWire ..) (.refl _)
  have h34 : u3.OnWire u4 := .ite (State.raise_onWire ..) (.refl _)
  have h45 : u4.OnWire u5 := .ite (.foldl (fun _ _ => State.raise_onWire ..) _ _) (.refl _)
  have h56 : u5.OnWire u6 := .foldl (fun _ _ => State.raise_onWire ..) _ _
  have hwire : u2.OnWire u6 := ((h23.trans h34).trans h45).trans h56
  clear_value u6
  have hguards7 : u7.guardOps = [] := by
    rw [show u7.guardOps = u6.guardOps from rfl, hwire.guardOps, show u2.guardOps = u1.guardOps from rfl, h1]
    exact hguards
  have h8 : u8 = u7 := by unfold u8; rw [hguards7]; rfl
  have hreqs : reqs = [] := by unfold reqs; rw [hm, htags, hwaiting]; rfl
  have htxns7 : u7.txns = [] := by
    rw [show u7.txns = u6.txns from rfl, hwire.txns, show u2.txns = u1.txns from rfl, h1]
    exact htxns
  rw [hreqs, h8, List.foldl_nil, State.settle, State.settleN_of_no_txns htxns7]
  refine ⟨?_, ?_, ?_⟩
  · rw [show u7.mpt = u6.mpt from rfl, hwire.mpt]
    unfold u2
    rw [h1]
  · rw [show u7.flt = u6.flt from rfl, hwire.recs, show u2.flt = u1.flt from rfl, h1]
  · rw [show u7.blk = u6.blk from rfl, hwire.blk, show u2.blk = u1.blk from rfl, h1]

/-! ### Home slices (13 R408, R409) -/

theorem State.taintAt_eq (s : State) (h : Nat) : s.taintAt h = { s with obs := (s.taintAt h).obs } := by
  unfold State.taintAt
  split <;> rfl

/-- A home slice that has left service, in a new epoch (13 R414). -/
def HomeSt.left (x : HomeSt) : HomeSt := { x with role := 4, epoch := (x.epoch + 1) % 256 }

/-- `s` with a home slice out of service. -/
def State.withLeft (s : State) (h : Nat) : State := s.setHome h (s.home h).left

/-- A name that no slice serves has still none when another slice has left. -/
theorem State.physOf_withLeft_of_none {n : Nat} (hn : s.physOf n = none) (obs : Obs) :
    ({ s.withLeft h with obs := obs } : State).physOf n = none := by
  have hrole : ∀ j, ((s.withLeft h).home j).role = if j = h then 4 else (s.home j).role := by
    intro j
    by_cases hj : j = h
    · rw [if_pos hj, hj, State.withLeft, State.setHome_home, HomeSt.left]
    · rw [if_neg hj, State.withLeft, State.setHome_home_ne _ _ hj]
  have hname : ∀ j, ((s.withLeft h).home j).standsFor = (s.home j).standsFor :=
    fun j => State.setHome_home_eq s HomeSt.standsFor rfl
  have hhome : ∀ j, ({ s.withLeft h with obs := obs } : State).home j = (s.withLeft h).home j := fun _ => rfl
  have hup : ∀ j, ({ s.withLeft h with obs := obs } : State).comingUp j = s.comingUp j := fun _ => rfl
  simp only [State.physOf, hhome, hrole, hname, hup] at hn ⊢
  split at hn
  · cases hn
  next hn0 =>
    have hnot : ¬ (if n = h then 4 else (s.home n).role) = 0 := by
      split
      · decide
      · exact hn0
    rw [if_neg hnot]
    rw [List.find?_eq_none] at hn ⊢
    intro j hj
    have := hn j hj
    by_cases hjh : j = h
    · simp [hjh]
    · simpa [hjh] using this

/-- A home slice whose buddy's name is unserved leaves service, and no mirror with it. -/
theorem State.homeLeaves_of_alone (hname : s.nameOfHome h = h) (halone : s.physOf (h ^^^ 1) = none) :
    s.homeLeaves h = { s.withLeft h with obs := (s.homeLeaves h).obs } := by
  have hleft : (((s.taintAt h).setHome h ((s.taintAt h).home h).left).ring (hslUnit h) 0x81
      ((((s.taintAt h).home h).epoch + 1) % 256)).physOf (h ^^^ 1) = none := by
    rw [State.ring_eq, State.taintAt_eq]
    exact State.physOf_withLeft_of_none halone _
  have hname' : (s.taintAt h).nameOfHome h = h := by rw [State.taintAt_eq]; exact hname
  have hleaves : s.homeLeaves h = ((s.taintAt h).setHome h ((s.taintAt h).home h).left).ring (hslUnit h) 0x81
      ((((s.taintAt h).home h).epoch + 1) % 256) := by
    unfold State.homeLeaves
    extract_lets u1 x n u2 u3
    have hn : n = h := hname'
    rw [hn]
    rw [show u3.physOf (h ^^^ 1) = none from hleft]
    rfl
  rw [hleaves, State.ring_eq, State.taintAt_eq]
  rfl

/-- An emptied home slice: its arrays are lost (05 R180). -/
def HomeSt.emptied (x : HomeSt) : HomeSt :=
  { x with lines := [], filter := [], mirror := [], wbuf := [], retryQ := [], ackLog := [], heldSets := [], mirrorOk := false,
           ownLines := [] }

/-- A home slice that is replaced, and has no request, flush or window, is emptied. -/
theorem State.homeEmpty_of_idle {dst : Nat} (hdst : h ≠ dst) (htxns : s.txns = []) (hflushes : s.flushes = [])
    (hwins : s.rw.windows = []) (st : Status) : s.homeEmpty h dst st = s.setHome h (s.home h).emptied := by
  unfold State.homeEmpty
  extract_lets n log lost u1 u2 u3 x keep
  have h1 : u1 = s := by
    have hlost : lost = [] := by
      unfold lost
      rw [hwins]
      rfl
    unfold u1
    rw [hlost]
    rfl
  have h2 : u2 = s := by
    unfold u2
    rw [h1, htxns]
    rfl
  have h3 : u3 = s := by
    have heta : ({ s with flushes := [] } : State) = s := by rw [← hflushes]
    unfold u3
    rw [h2, hflushes]
    exact heta
  have hkeep : keep = [] := if_neg hdst
  unfold x
  rw [h3, hkeep]
  rfl

theorem spareOf_ge (d : Nat) : 128 ≤ spareOf d := by
  unfold spareOf
  split <;> omega

/-- The spare that may stand in depends on the roles of the spares (13 R409). -/
theorem State.findSpare_withLeft (hh : h < 128) (n : Nat) (obs : Obs) :
    ({ s.withLeft h with obs := obs } : State).findSpare n = s.findSpare n := by
  have hhome : ∀ j, 128 ≤ j → ({ s.withLeft h with obs := obs } : State).home j = s.home j :=
    fun j hj => State.setHome_home_ne s _ (by omega)
  have hcoming : ∀ j, ({ s.withLeft h with obs := obs } : State).comingUp j = s.comingUp j := fun _ => rfl
  simp only [State.findSpare, List.find?_map]
  congr 2
  funext d
  simp only [Function.comp_apply, hhome _ (spareOf_ge d), hcoming]
  rfl

theorem State.findRec_of_no_recs (hrecs : s.flt.recs = []) (p : Recovery → Bool) : s.findRec p = none := by
  rw [State.findRec, hrecs]
  rfl

theorem State.freeRec_of_no_recs (hrecs : s.flt.recs = []) : s.freeRec = some 0 := by
  have hrec : ∀ i, s.recAt i = {} := fun i => by rw [State.recAt, hrecs]; rfl
  simp only [State.freeRec, hrec]
  rfl

theorem State.nameOfHome_of_lt (hh : h < 128) : s.nameOfHome h = h := by
  simp [State.nameOfHome, hh]

/-- The record of a home slice whose spare is claimed: it has no mirror to copy (13 R408). -/
def standInRec (h sp : Nat) : Recovery := { kind := 1, unit := hslUnit h, name := h, spare := some sp, step := 2 }

/-- `s` with a home slice out of service and emptied, and other counters. -/
def State.vacated (s : State) (h : Nat) (obs : Obs) : State :=
  ({ s.withLeft h with obs := obs } : State).setHome h (s.home h).left.emptied

/-- An idle home slice without a mirror leaves with its arrays, and its recovery opens with a spare (13 R408). -/
theorem State.homeDeclare_of_idle {sp : Nat} (hh : h < 128) (hrole : (s.home h).role = 0) (halone : s.physOf (h ^^^ 1) = none)
    (hrecs : s.flt.recs = []) (htxns : s.txns = []) (hflushes : s.flushes = []) (hwins : s.rw.windows = [])
    (hspare : s.findSpare h = some sp) : ∃ obs, s.homeDeclare h = (s.vacated h obs).recOpen (standInRec h sp) := by
  refine ⟨(s.homeLeaves h).obs, ?_⟩
  have hleft := State.homeLeaves_of_alone (State.nameOfHome_of_lt hh) halone
  have hhome : ((s.homeLeaves h).home h) = (s.home h).left := by
    rw [hleft]
    exact State.setHome_home s h _
  have hphys : (s.homeLeaves h).physOf (h ^^^ 1) = none := by
    rw [hleft]
    exact State.physOf_withLeft_of_none halone _
  have hspare' : (s.homeLeaves h).findSpare h = some sp := by
    rw [hleft, State.findSpare_withLeft hh, hspare]
  have hrecs' : (s.homeLeaves h).flt.recs = [] := by rw [hleft]; exact hrecs
  have hne : h ≠ sp := by
    obtain ⟨d, -, rfl⟩ := List.mem_map.mp (List.mem_of_find?_eq_some hspare)
    have := spareOf_ge d
    omega
  have hempty := State.homeEmpty_of_idle (s := s.homeLeaves h) hne (by rw [hleft]; exact htxns) (by rw [hleft]; exact hflushes)
    (by rw [hleft]; exact hwins) .retry
  have hclaim : (s.homeLeaves h).claim { kind := 1, unit := hslUnit h, name := h } h .retry =
      ((s.homeLeaves h).setHome h (s.home h).left.emptied, some (standInRec h sp)) := by
    simp only [State.claim, hspare', hempty, hhome, State.mirroredLines, hphys]
    rfl
  simp only [State.homeDeclare, State.findRec_of_no_recs hrecs, hrole, State.nameOfHome_of_lt hh,
    State.findRec_of_no_recs hrecs', State.freeRec_of_no_recs hrecs', hclaim]
  exact congrArg (fun u : State => (u.setHome h (s.home h).left.emptied).recOpen (standInRec h sp)) hleft

end

/-- Settles O50: a failed unit raises its kind; a declared failure, alone in waiting, is reacted to (`State.declareIf_of_single`),
and its recovery takes the free record. -/
theorem failuresAreDeclared : Obligations.FailuresAreDeclared := by
  unfold Obligations.FailuresAreDeclared
  refine fun s => ⟨fun u h hu hh hsound hroom c hc => ?fails,
    fun name m h sp hm hkind hclass hh hunit hrole hname halone htxns hflushes hwins hrecs hwaiting hspare => ?home,
    fun p r hm hkept hport hfree htxns hguards htags hwaiting => ?stack,
    fun k m r hm hkind hclass hunit hnew hfailed hquiet hfree => ?tine,
    fun p m r hm hkind hclass hunit hnew hup hfree => ?key, fun e m r hm hkind hclass hunit hon hidle hfree => ?job⟩
  case fails =>
    have hfails := State.unitFails_of_home hu hh hsound
    have hexec : exec c s = .next (s.unitFails u.toNat) := by
      rcases hc with rfl | rfl <;> rfl
    refine ⟨_, hexec, ?_, ?_⟩
    · rw [hfails, State.unit, State.raise_units, ← State.unit, State.setUnit_unit]
    · rw [hfails]
      exact State.raise_agg_of_room (s := s.setUnit _ _) hroom ..
  case home =>
    have hcls : msgUnit m / 256 = 1 := hunit ▸ unitId_div (by omega)
    have hidx : msgUnit m % 256 = h := hunit ▸ unitId_mod (by omega)
    have hserves : s.homeNameOf h = h := by
      simp [State.homeNameOf, hrecs, State.nameOfHome_of_lt hh]
    obtain ⟨obs, hdeclare⟩ := State.homeDeclare_of_idle (s := s.reacted) hh hrole halone hrecs htxns hflushes hwins hspare
    have hexec : exec (.homeSliceRecovery name) s = .next (s.reacted.homeDeclare h) := by
      refine congrArg Host.Outcome.next ?_
      rw [State.declareIf_of_single hm]
      · simp only [State.declare, hkind, hclass, hcls, hidx]
        rw [if_neg (by decide), if_pos (by omega)]
      · simp [hkind, hcls, hidx, hserves, hname]
    refine ⟨_, hexec, ?_⟩
    have hfree : (s.reacted.vacated h obs).freeRec = some 0 := State.freeRec_of_no_recs hrecs
    have hrec := State.recOpen_recAt_of_free hfree (x := standInRec h sp) rfl
    have hhome : (s.reacted.homeDeclare h).home h = (s.home h).left.emptied := by
      rw [hdeclare, State.home, State.recOpen_eq]
      exact State.setHome_home ..
    have hund : (s.reacted.homeDeclare h).flt.undeclared = [] := by
      rw [hdeclare, State.recOpen_of_free hfree rfl, State.mgIrq_flt]
      rfl
    rw [hhome, hund, hdeclare]
    exact ⟨rfl, rfl, congrArg Recovery.state hrec, congrArg Recovery.kind hrec, congrArg Recovery.name hrec,
      congrArg Recovery.spare hrec, rfl, rfl⟩
  case stack =>
    have hgone : s.stackGone p.toNat = true := by simp [State.stackGone, hkept, hport]
    obtain ⟨hmask, hrecs, hblk⟩ := State.loseStack_of_quiet p.isLt hkept htxns hguards htags hwaiting
    have hexec : exec (.stackRecovery p) s = .next ((s.loseStack p.toNat true).recOpen
        { kind := 2, unit := mptUnit p.toNat, step := 2 }) := by
      refine congrArg Host.Outcome.next ?_
      rw [State.declareIf_of_none hm, if_pos hgone, State.stackDeclare, if_neg (by simp [hkept])]
    refine ⟨_, hexec, ?_, ?_⟩
    · rw [State.recOpen_eq]
      exact hmask
    · rw [State.recOpen_recAt_of_free ((State.freeRec_congr hrecs).trans hfree) rfl, State.tick32, hblk]
      rfl
  case tine =>
    have hcls : msgUnit m / 256 = 3 := hunit ▸ unitId_div (by omega)
    have hidx : msgUnit m % 256 = k.toNat := hunit ▸ unitId_mod (by omega)
    have hexec : exec (.tineRecovery k) s = .next (s.reacted.recOpen { kind := 3, unit := tinUnit k.toNat, step := 1 }) := by
      refine congrArg Host.Outcome.next ?_
      rw [State.declareIf_of_single hm]
      · simp only [State.declare, hkind, hclass, hcls, hidx]
        rw [if_neg (by simp), if_pos k.isLt]
        exact State.tineDeclare_of_failed hnew hfailed hquiet
      · simp [State.recovers, hkind, hcls, beq_iff_eq.mpr hunit]
    have hfree' : s.reacted.freeRec = some r := hfree
    refine ⟨_, hexec, fun hdrives => ?_, State.recOpen_recAt_of_free hfree' rfl⟩
    rw [State.recOpen_of_free hfree' rfl]
    exact State.mgIrq_out_of_drives (s := s.reacted.setRec r _) hdrives _
  case key =>
    have hcls : msgUnit m / 256 = 6 := hunit ▸ unitId_div (by omega)
    have hidx : msgUnit m % 256 = 1 + p.toNat := hunit ▸ unitId_mod (by omega)
    have hdeclare := State.keyDeclare_of_neighbour (s := s.reacted) hnew hup
    have hexec : exec (.keyEngineHandover p) s = .next (s.reacted.keyDeclare (1 + p.toNat)) := by
      refine congrArg Host.Outcome.next ?_
      rw [State.declareIf_of_single hm]
      · simp only [State.declare, hkind, hclass, hcls, hidx]
        rw [if_neg (by simp), if_pos (by omega)]
      · simp [hkind, hunit]
    have hunits : (s.reacted.keyDeclare (1 + p.toNat)).unit (unitId 6 (1 + p.toNat)) = { s.unit (unitId 6 (1 + p.toNat)) with
        failed := true, epoch := ((s.unit (unitId 6 (1 + p.toNat))).epoch + 1) % 256 } := by
      rw [hdeclare, State.unit, State.recOpen_eq, State.ring_units, ← State.unit, State.setUnit_unit]
      rfl
    refine ⟨_, hexec, congrArg UnitSt.failed hunits, congrArg UnitSt.epoch hunits, ?_⟩
    rw [hdeclare, State.recOpen_recAt_of_free _ rfl]
    · rw [State.tick32, State.ring_blk]
      rfl
    · rw [State.freeRec_congr (s := s) (by rw [State.ring_flt]; rfl), hfree]
  case job =>
    have hcls : msgUnit m / 256 = 5 := hunit ▸ unitId_div (by omega)
    have hidx : msgUnit m % 256 = e.toNat := hunit ▸ unitId_mod (by omega)
    have hdeclare := State.jobDeclare_of_idle (s := s.reacted) hon hidle
    have hexec : exec (.jobEngineRecovery e) s = .next (s.reacted.jobDeclare e.toNat) := by
      refine congrArg Host.Outcome.next ?_
      rw [State.declareIf_of_single hm]
      · simp only [State.declare, hkind, hclass, hcls, hidx]
        rw [if_neg (by simp), if_pos e.isLt]
      · simp [hkind, hunit]
    refine ⟨_, hexec, ?_, ?_⟩
    · rw [hdeclare, State.engine, State.recOpen_eq, State.addRepair_eq, State.engineLeaves, State.ring_engines, ← State.engine,
        State.setEngine_engine]
    · rw [hdeclare, State.recOpen_recAt_of_free _ rfl]
      · rw [State.tick32, State.addRepair_eq, State.engineLeaves, State.ring_blk]
        rfl
      · rw [State.freeRec_congr (s := s) (by rw [State.addRepair_eq, State.engineLeaves, State.ring_flt]; rfl), hfree]

end Sys2Proof.Machine
end

section
/-! The rest of a recovery, and planned offline (13 R404, R408, R414, R415). -/

namespace Sys2Proof.Machine

section

variable {s u : State} {r sp : Nat} {x y : Recovery}

/-! ### The record of a recovery that goes on (13 R404) -/

theorem State.setRec_recs_of_single (hrecs : s.flt.recs = [(r, x)]) (hy : y ≠ {}) : (s.setRec r y).flt.recs = [(r, y)] := by
  simp [State.setRec, hrecs, tset, hy, mput]

theorem Recovery.ne_default_of_state (h : y.state ≠ 0) : y ≠ {} := by
  rintro rfl
  exact h rfl

/-- A step of the one recovery that keeps its state and its spare keeps what is coming up. -/
theorem State.setRec_comingUp_of_single (hrecs : s.flt.recs = [(r, x)]) (hrun : x.state ≠ 0) (hstate : y.state = x.state)
    (hspare : y.spare = x.spare) (j : Nat) : (s.setRec r y).comingUp j = s.comingUp j := by
  have hy := Recovery.ne_default_of_state (hstate ▸ hrun)
  simp only [State.comingUp, State.setRec_recs_of_single hrecs hy, hrecs, List.any_cons, List.any_nil, hstate, hspare]
  rfl

/-! ### The way of a line that is copied (05 R154, 13 R408) -/

/-- The image, the windows, the ownership table, the shares and the count of free values are the same: what the choice of a way
reads beside the homes (05 R154). -/
def State.SameSpace (s u : State) : Prop :=
  u.img = s.img ∧ u.rw = s.rw ∧ u.own = s.own ∧ u.qos = s.qos ∧ u.freeCount = s.freeCount

/-- The way a new line takes depends on its home, on where the names are served, and on the space. -/
theorem State.pickWay_congr {h : Nat} (hspace : s.SameSpace u) (hhome : u.home h = s.home h) (hphys : u.physOf = s.physOf)
    (set sl : Nat) (force : Bool) : u.pickWay h set sl force = s.pickWay h set sl force := by
  obtain ⟨himg, hrw, hown, hqos, hfree⟩ := hspace
  have hrec : u.homeRec = s.homeRec := by funext n; rw [State.homeRec, himg, State.homeRec]
  have hqsl : u.qsl = s.qsl := by funext n; rw [State.qsl, hqos, State.qsl]
  have hname : u.nameOfHome h = s.nameOfHome h := by rw [State.nameOfHome, hhome, State.nameOfHome]
  have hset : u.inHomeSet = s.inHomeSet := by
    funext sl n
    simp only [State.inHomeSet, hrec]
  have hat : u.ownAt = s.ownAt := by funext g; rw [State.ownAt, hown, State.ownAt]
  have hchip : u.chip = s.chip := by rw [State.chip, State.blockRec, himg, State.chip, State.blockRec]
  have hline : u.homeName = s.homeName := by
    funext line
    simp only [State.homeName, State.homeSet, hset, hat, hchip]
  have hmask : u.wayMask h = s.wayMask h := by
    funext sl
    simp only [State.wayMask, hrec, hname]
  have hbarred : u.wayBarred h = s.wayBarred h := by
    funext set way sl
    simp only [State.wayBarred, himg, hname, hhome]
  have hshadows : u.shadowsIn h = s.shadowsIn h := by
    funext set sl
    simp only [State.shadowsIn, hrw, hline, hphys]
  have hways : u.waysFor h = s.waysFor h := by
    funext set sl
    simp only [State.waysFor, hmask, hbarred, hshadows, hhome, hrw]
  have hocc : u.occupancy h = s.occupancy h := by
    funext sl
    simp only [State.occupancy, hhome, hrw, hline, hphys]
  have hcap : u.occCap h = s.occCap h := by
    funext sl
    simp only [State.occCap, hrec, hname, hqsl, hmask]
  simp only [State.pickWay, hways, hocc, hcap, hhome, hqsl, hrec, hname, hfree]

/-- A line allocated in an empty data array. -/
theorem State.allocate_of_empty {h line sl key poison w : Nat} {data : Line} (hkey : s.keyLive key = true)
    (hempty : (s.home h).lines = []) (hway : s.pickWay h (setOf line) sl = some w) :
    ∃ v, s.allocate h line sl key poison data = some (v, setOf line * 16 + w) ∧ v.flt = s.flt ∧ v.txns = s.txns ∧
      (v.home h).lines = [(setOf line * 16 + w, { line := line, slice := sl, key := key, poison := poison, data := data })] := by
  have hevict : s.evictWay h (setOf line * 16 + w) = s.setHome h { s.home h with lines := [] } := by
    simp only [State.evictWay, State.cleanLine, hempty, mget?, mdel]
  refine ⟨(((s.setHome h { s.home h with lines := [] }).useFree).setHome h { s.home h with lines := [(setOf line * 16 + w,
    { line := line, slice := sl, key := key, poison := poison, data := data })] }), ?_, rfl, rfl, ?_⟩
  · have hhome : ((s.setHome h { s.home h with lines := [] }).useFree).home h = { s.home h with lines := [] } :=
      State.setHome_home s h _
    simp only [State.allocate, hkey, hway, hevict, hhome, Bool.not_true, Bool.false_eq_true, if_false]
    rfl
  · rw [State.setHome_home]

/-! ### The copy (13 R408 step 3) -/

/-- The clean line that a mirror entry keeps (05 R178). -/
def MirrorEnt.line (e : MirrorEnt) (line : Nat) : LlcLine :=
  { line := line, slice := e.slice, key := e.key, poison := e.poison, data := e.data }

/-- A readable mirror entry under a live key becomes a dirty line of the empty stand-in, while no delta drains (05 R181). -/
theorem State.copyLine_of_empty {line w b : Nat} {e : MirrorEnt} (hphys : s.physOf (x.name ^^^ 1) = some b)
    (he : mget? (s.home b).mirror line = some e) (hkey : s.keyLive e.key = true) (hdrain : s.img.state ≠ 5)
    (hempty : (s.home sp).lines = []) (hway : s.pickWay sp (setOf line) e.slice = some w) :
    (s.copyLine x sp line false).flt = s.flt ∧ (s.copyLine x sp line false).txns = s.txns ∧
      ∃ seq, mget? ((s.copyLine x sp line false).home sp).lines (setOf line * 16 + w) =
        some { e.line line with dirty := true, dirtySeq := seq } := by
  obtain ⟨v, hv, hflt, htxns, hlines⟩ := State.allocate_of_empty (poison := e.poison) (data := e.data) hkey hempty hway
  have hl : mget? (v.home sp).lines (setOf line * 16 + w) = some (e.line line) := by
    rw [hlines]
    simp [mget?, MirrorEnt.line]
  have hcopy : s.copyLine x sp line false = v.setHome sp { v.home sp with
      dirtyClock := (v.home sp).dirtyClock + 1,
      lines := mput (v.home sp).lines (setOf line * 16 + w)
        { e.line line with dirty := true, dirtySeq := (v.home sp).dirtyClock } } := by
    have hdrain' : (s.img.state == 5) = false := by simpa using hdrain
    simp only [State.copyLine, hphys, he, hkey, hdrain', Bool.false_and, Bool.not_true, Bool.false_eq_true,
      if_false, hv, hl]
  rw [hcopy]
  refine ⟨hflt, htxns, (v.home sp).dirtyClock, ?_⟩
  rw [State.setHome_home, mget?_mput_self]

/-- A recovery that has begun the piece of its last lines, its first in a tick. -/
def Recovery.lastPiece (x : Recovery) (tick : Nat) : Recovery := { x with left := [], cur := tick * 4 + 1 }

/-- `s` once the recovery `x` has begun the piece of its last lines. -/
def State.copying (s : State) (r : Nat) (x : Recovery) (sp : Nat) : State :=
  (s.setRec r (x.lastPiece s.blk.tick)).ring (hslUnit sp) 0x84 4

theorem State.copying_recs (hrecs : s.flt.recs = [(r, x)]) (hrun : x.state ≠ 0) :
    (s.copying r x sp).flt.recs = [(r, x.lastPiece s.blk.tick)] := by
  rw [State.copying, State.ring_flt]
  exact State.setRec_recs_of_single hrecs (Recovery.ne_default_of_state hrun)

theorem State.copying_home (s : State) (j : Nat) : (s.copying r x sp).home j = s.home j := by
  rw [State.copying, State.ring_eq]
  rfl

theorem State.copying_physOf (hrecs : s.flt.recs = [(r, x)]) (hrun : x.state ≠ 0) : (s.copying r x sp).physOf = s.physOf := by
  refine funext (State.physOf_of_homes s.copying_home fun j => ?_)
  rw [State.comingUp, State.copying, State.ring_flt, ← State.comingUp]
  exact State.setRec_comingUp_of_single (y := x.lastPiece s.blk.tick) hrecs hrun rfl rfl j

theorem State.copying_sameSpace (s : State) : s.SameSpace (s.copying r x sp) := by
  rw [State.copying, State.ring_eq]
  exact ⟨rfl, rfl, rfl, rfl, rfl⟩

/-- A piece of one line copies it, and with no transaction waiting does nothing else. -/
theorem State.copyPiece_of_single {line : Nat} (hx : s.recAt r = x) (hstate : x.state = 1) (hstep : x.step = 3)
    (hspare : x.spare = some sp) (hcur : x.cur = 0) (hleft : x.left = [line])
    (htxns : ((s.copying r x sp).copyLine x sp line false).txns = []) :
    s.copyPiece r none = (s.copying r x sp).copyLine x sp line false := by
  have hn : (if x.cur / 4 = s.blk.tick then x.cur % 4 else 0) = 0 := by
    rw [hcur]
    split <;> rfl
  have hsettle := State.settleN_of_no_txns htxns
  cases x
  dsimp only at hstate hstep hspare hcur hleft
  subst hstate hstep hspare hcur hleft
  simp only [State.copyPiece, hx, hn]
  exact hsettle _

/-! ### The stand-in serves (13 R408 step 5) -/

theorem State.recEnd_recAt (s : State) (r : Nat) : ((s.recEnd r).recAt r).state = 3 := by
  have hrec : (s.recEnd r).recAt r = { s.recAt r with state := 3, left := [], spare := none } := by
    unfold State.recEnd
    extract_lets x mine u flt
    rw [State.recAt, show flt.recs = u.flt.recs from rfl, State.mgIrq_flt]
    exact State.setRec_recAt ..
  rw [hrec]

/-- The end of a recovery touches the collector and the transfers (13 R402, R404). -/
theorem State.recEnd_eq (s : State) (r : Nat) : s.recEnd r = { s with flt := (s.recEnd r).flt, out := (s.recEnd r).out } := by
  unfold State.recEnd
  dsimp only
  rw [State.mgIrq, State.emitAt_eq]
  rfl

/-- The mirrors of a stand-in and of its buddy resume (13 R408): the filters and the roles of the homes stay. -/
theorem State.setHome_mirrorOk {h b : Nat} (hfilter : (s.home h).filter = []) (hrole : (s.home h).role = 2) (ok : Bool) :
    ((s.setHome b { s.home b with mirrorOk := ok }).home h).filter = [] ∧
      ((s.setHome b { s.home b with mirrorOk := ok }).home h).role = 2 :=
  ⟨(State.setHome_home_eq s (v := { s.home b with mirrorOk := ok }) HomeSt.filter rfl).trans hfilter,
    (State.setHome_home_eq s (v := { s.home b with mirrorOk := ok }) HomeSt.role rfl).trans hrole⟩

/-- A stand-in whose flush is answered serves with an empty filter, its recovery ends, and the flush is over. -/
theorem State.serve_of_answered {f : Flush} (hx : s.recAt r = x) (hstate : x.state = 1) (hstep : x.step = 4) (hspare : x.spare = some sp)
    (hrole : (s.home sp).role = 2) (hflushes : s.flushes = [f]) (hstand : f.standIn = true) (hname : f.name = x.name)
    (hports : f.ports = []) (hchips : f.chips = []) :
    ((s.serve r).home sp).filter = [] ∧ ((s.serve r).home sp).role = 2 ∧ ((s.serve r).recAt r).state = 3 ∧
      (s.serve r).flushes = [] := by
  have hdone : (s.flushes.any fun f => f.standIn && f.name == x.name && f.ports.isEmpty && f.chips.isEmpty) = true := by
    simp [hflushes, hstand, hname, hports, hchips]
  unfold State.serve
  extract_lets x' done u1 h y u2 u3 u4
  have hx' : x' = x := hx
  have hdone' : done = true := by unfold done; rw [hx']; exact hdone
  rw [show x'.spare = some sp from hx' ▸ hspare]
  dsimp only
  rw [if_neg (by simp [hx', hstate, hstep, hdone'])]
  have h1 : u1.flushes = [] := by
    unfold u1
    simp [hflushes, hstand, hname, hx']
  have h2 : (u2.home sp).role = 2 ∧ u2.flushes = [] := by
    unfold u2
    split
    next hleft =>
      have hne : sp ≠ h := by
        rintro rfl
        exact absurd (hleft.symm.trans hrole) (by decide)
      exact ⟨(congrArg HomeSt.role (State.setHome_home_ne u1 _ hne)).trans hrole, h1⟩
    next => exact ⟨hrole, h1⟩
  have h4 : (u4.home sp).role = 2 ∧ u4.flushes = [] := by
    unfold u4 u3
    rw [State.recEnd_eq, State.addRepair_eq]
    exact h2
  have hrest : (u4.recAt r).state = 3 ∧ u4.flushes = [] := ⟨State.recEnd_recAt u3 r, h4.2⟩
  clear_value u4
  have hserves : ∀ ok, ((u4.setHome sp { u4.home sp with filter := [], mirrorOk := ok }).home sp).filter = [] ∧
      ((u4.setHome sp { u4.home sp with filter := [], mirrorOk := ok }).home sp).role = 2 := by
    intro ok
    rw [State.setHome_home]
    exact ⟨rfl, h4.1⟩
  split
  · obtain ⟨hfilter, hrole'⟩ := State.setHome_mirrorOk (hserves _).1 (hserves _).2 true
    exact ⟨hfilter, hrole', hrest⟩
  · exact ⟨(hserves _).1, (hserves _).2, hrest⟩

/-! ### Planned offline (13 R414, R415) -/

/-- A unit command that finds none in progress waits for the boundary; another is refused (13 R415). -/
theorem State.unitCommand_of_idle (hcmd : s.flt.unitCmd = none) (hrun : s.flt.unitRunning = false) (op u : Nat) :
    s.unitCommand op u = { s with flt := { s.flt with unitCmd := some (op, u) } } := by
  simp [State.unitCommand, hcmd, hrun]

theorem State.unitCommand_of_busy (hbusy : s.flt.unitCmd ≠ none ∨ s.flt.unitRunning = true) (op u : Nat) :
    s.unitCommand op u = { s with flt := { s.flt with unitResult := 6 } } := by
  refine if_pos ?_
  simpa [Option.isSome_iff_ne_none] using hbusy

/-- OFFLINE and ONLINE are the writes of FLT_UNIT_CMD (13 R415). -/
theorem exec_unitCommand {u : BitVec 12} {c : Instr} {op : Nat} (hc : (c, op) ∈ [(Instr.offline u, 1), (.online u, 2)]) (s : State) :
    exec c s = .next (s.mgWrite true fun s => s.unitCommand op u.toNat) := by
  simp only [List.mem_cons, Prod.mk.injEq, List.not_mem_nil, or_false] at hc
  rcases hc with ⟨rfl, rfl⟩ | ⟨rfl, rfl⟩ <;> rfl

/-- The one recovery that meets a test is the one that is found. -/
theorem State.findRec_of_single {p : Recovery → Bool} (hrecs : s.flt.recs = [(r, x)]) (hstate : x.state = 1) (hp : p x = true) :
    s.findRec p = some r := by
  simp [State.findRec, hrecs, hstate, hp]

/-- A tine at the end of its time offline has nothing left but its messages, which go elsewhere (13 R414). -/
theorem State.offlineNext_of_tine {u : Nat} (hx : s.recAt r = x) (hstate : x.state = 1) (hkind : x.kind = 6) (hstep : x.step = 1)
    (hunit : x.unit = u) (hclass : u / 256 = 3) (hquiet : ∀ a ∈ s.sas, a.2.msgs = []) :
    s.offlineNext r = s.setRec r { x with step := 2 } := by
  have hunitQuiet : s.unitQuiet u = true := by simp [State.unitQuiet, hclass]
  have hrespray := State.respray_of_quiet (s := s.setRec r { x with step := 2 }) hquiet (u % 256)
  cases x
  dsimp only at hstate hkind hstep hunit
  subst hstate hkind hstep hunit
  simp only [State.offlineNext, hx, hclass, hunitQuiet]
  exact hrespray

/-- A recovery past its budget is marked, and raises kind 0xC9 (13 R404). -/
theorem State.recLate_of_over (hrun : (s.recAt r).state = 1) (hnew : (s.recAt r).overrun = false)
    (hover : (s.recAt r).budget ≤ (s.recAt r).age) :
    s.recLate r = (s.setRec r { s.recAt r with overrun := true }).raise fltUnit 0xC9 2 3 (s.recAt r).unit 0 0 := by
  refine if_pos ?_
  simp [hrun, hnew, hover]

end

/-- Settles O51: the piece copies its line to the stand-in, whose way `State.pickWay_congr` finds as before the piece; the other
clauses are what the command makes of its record. -/
theorem recoverySteps : Obligations.RecoverySteps := by
  unfold Obligations.RecoverySteps
  refine fun s => ⟨fun r x sp b line w e hw hrecs hstate hstep hrole hspare hcur hleft hphys hne he hkey hdrain hempty hway htxns => ?copy,
    fun r x sp f hw hrecs hstate hstep hspare hrole hflushes hstand hname hports hchips =>
      ⟨_, congrArg Host.Outcome.next (State.unlessStopped_of_working _ hw), State.serve_of_answered (State.recAt_of_single hrecs)
        hstate hstep hspare hrole hflushes hstand hname hports hchips⟩,
    fun r hrun hnew hover hroom => ?late, fun u c op hopen hc => ⟨fun hcmd hidle => ?idle, fun hbusy => ?busy⟩,
    fun u r x hw hrecs hunit hkind hstep hstate hage hclass hquiet => ?offline⟩
  case copy =>
    have hrun : x.state ≠ 0 := by rw [hstate]; decide
    have hphys' := State.copying_physOf (sp := sp) hrecs hrun
    have hway' : (s.copying r.toNat x sp).pickWay sp (setOf line) e.slice = some w := by
      rw [State.pickWay_congr s.copying_sameSpace (s.copying_home sp) hphys', hway]
    have hkey' : (s.copying r.toNat x sp).keyLive e.key = true := by rw [State.copying, State.ring_eq]; exact hkey
    have hdrain' : (s.copying r.toNat x sp).img.state ≠ 5 := by rw [State.copying, State.ring_img]; exact hdrain
    have htxns' : (s.copying r.toNat x sp).txns = [] := by rw [State.copying, State.ring_txns]; exact htxns
    obtain ⟨hflt, htxns'', seq, hline⟩ := State.copyLine_of_empty (s := s.copying r.toNat x sp) (sp := sp) (x := x) (e := e)
      (hphys' ▸ hphys) (by rw [State.copying_home]; exact he) hkey' hdrain' (by rw [State.copying_home]; exact hempty) hway'
    have hpiece := State.copyPiece_of_single (State.recAt_of_single hrecs) hstate hstep hspare hcur hleft (htxns''.trans htxns')
    refine ⟨_, { e.line line with dirty := true, dirtySeq := seq }, congrArg Host.Outcome.next
      ((State.unlessStopped_of_working _ hw).trans hpiece), ?_, hline, rfl, rfl, rfl, rfl, rfl⟩
    rw [State.recAt_of_single (hflt ▸ State.copying_recs hrecs hrun)]
    rfl
  case late =>
    refine ⟨_, congrArg Host.Outcome.next (State.recLate_of_over hrun hnew hover), ?_, ?_⟩
    · rw [State.recAt_congr (State.raise_recoveries ..).1, State.setRec_recAt]
    · exact State.raise_agg_of_room (s := s.setRec _ _) hroom ..
  case idle =>
    refine ⟨_, (exec_unitCommand hc s).trans (congrArg Host.Outcome.next (State.mgWrite_of_open _ hopen)), ?_⟩
    rw [State.unitCommand_of_idle hcmd hidle, State.mgRsp_flt, State.mgRsp_units]
    exact ⟨rfl, rfl⟩
  case busy =>
    refine ⟨_, (exec_unitCommand hc s).trans (congrArg Host.Outcome.next (State.mgWrite_of_open _ hopen)), ?_⟩
    rw [State.unitCommand_of_busy hbusy, State.mgRsp_flt]
    exact ⟨rfl, rfl⟩
  case offline =>
    have hfound : s.findRec (fun x => x.unit == u.toNat && x.kind == 6 && x.step == 1 && decide (x.age ≥ 8)) = some r :=
      State.findRec_of_single hrecs hstate (by simp [hunit, hkind, hstep, hage])
    have hnext := State.offlineNext_of_tine (State.recAt_of_single hrecs) hstate hkind hstep hunit hclass hquiet
    refine ⟨_, congrArg Host.Outcome.next (State.unlessStopped_of_working _ hw), ?_⟩
    rw [hfound]
    dsimp only
    rw [hnext, State.setRec_recAt]
    exact ⟨rfl, rfl⟩

end Sys2Proof.Machine
end

section
/-! Fawn's firmware (14 R427, R433 to R435). -/

namespace Sys2Proof.Machine

section

variable {s : State}

/-- Entering a state of the firmware touches FWN_FW_STATUS and the interrupt (14 R433). -/
@[simp] theorem State.fwSet_fawn (s : State) (st res : Nat) :
    (s.fwSet st res).fawn = { s.fawn with fwState := st, fwResult := res } := by
  unfold State.fwSet
  extract_lets was u
  split
  · rfl
  · rw [State.mgIrq_fawn]

/-- Before the collector runs Fawn keeps the kind of a fault, and nothing else of it (14 R439). -/
theorem State.raise_fawn (s : State) (u kind cls subType subj sl fn : Nat) : (s.raise u kind cls subType subj sl fn).fawn =
    { s.fawn with error := (s.raise u kind cls subType subj sl fn).fawn.error } := by
  unfold State.raise
  extract_lets m d q f1 f2 s1 s2 f3 s3
  have h1 : s1.fawn = s.fawn := by unfold s1; split <;> rfl
  have h2 : s2.fawn = s1.fawn := by unfold s2; split <;> [rfl; (split <;> rfl)]
  have h3 : s3.fawn = { s2.fawn with error := s3.fawn.error } := by unfold s3; split <;> rfl
  rw [State.ring_fawn, h3, h2, h1]

theorem State.firmwareKeys_fawn (s : State) : s.firmwareKeys.fawn = s.fawn := by
  unfold State.firmwareKeys State.deriveMeasured
  split <;> rfl

/-! ### Loading (14 R433, R434) -/

theorem State.fwOp_open (h : s.fawn.fwState = 0 ∨ s.fawn.fwState = 3) :
    (s.fwOp 1).fawn = { s.fawn with staging := [], stagedDigest := 0, fwState := 1 } := by
  rcases h with h | h <;> simp [State.fwOp, h]

theorem State.fwOp_close (h : s.fawn.fwState = 1) : (s.fwOp 2).fawn = { s.fawn with fwState := 2 } := by
  simp [State.fwOp, h]

theorem State.fwData_of_room {d : Reg} (h : s.fawn.fwState = 1) (hroom : s.fawn.staging.length + 8 ≤ 65536) :
    (s.fwData d).fawn = { s.fawn with staging := s.fawn.staging ++ leBytes d.toNat 8 } := by
  have hfits : ¬ s.fawn.staging.length + 8 > 65536 := by omega
  simp only [State.fwData, h, hfits, if_false]
  rfl

theorem State.fwCheck_of_valid (h : s.fawn.fwState = 2) (hvalid : fwFault s.fawn.staging = none) : s.fwCheck.fawn =
    { s.fawn with stagedDigest := BitVec.ofNat 384 (leNat (s.fawn.staging.drop (s.fawn.staging.length - 48))), fwState := 3,
                  fwResult := 0 } := by
  simp [State.fwCheck, h, hvalid]

/-- A check that fails leaves EMPTY with its code, and raises kind 0xE9 (14 R434). -/
theorem State.fwCheck_of_fault {r : Nat} (h : s.fawn.fwState = 2) (hfault : fwFault s.fawn.staging = some r) : s.fwCheck.fawn =
    { s.fawn with staging := [], fwState := 0, fwResult := r, error := s.fwCheck.fawn.error } := by
  have hcheck : s.fwCheck = (({ s with fawn := { s.fawn with staging := [] } } : State).fwSet 0 r).raise fwnUnit 0xE9 1 0 0 0 0 := by
    simp [State.fwCheck, h, hfault]
  rw [hcheck, State.raise_fawn, State.fwSet_fawn]

/-! ### Starting, and the handover (14 R433, R435) -/

/-- A first image starts in PROBATION, and Fawn leaves ROM (14 R433, R436). -/
theorem State.fwOp_start (h : s.fawn.fwState = 3) (hphase : s.fawn.phase = 4) :
    (s.fwOp 3).fawn.fwState = 5 ∧ (s.fwOp 3).fawn.phase = 5 ∧ (s.fwOp 3).fawn.running = true ∧
      (s.fwOp 3).fawn.fwDigest = s.fawn.stagedDigest := by
  simp only [State.fwOp, h, hphase, if_true]
  rw [State.setPhase_eq, State.fwSet_fawn]
  exact ⟨rfl, rfl, rfl, rfl⟩

theorem State.fwOp_arm (h : s.fawn.fwState = 3) (hphase : s.fawn.phase = 7) (hsoon : s.blk.tick + 2 ≤ s.fawn.fwTick) :
    (s.fwOp 4).fawn = { s.fawn with fwState := 4 } := by
  simp [State.fwOp, h, hphase, hsoon]

theorem State.fwOp_cancel (h : s.fawn.fwState = 4) : (s.fwOp 5).fawn = { s.fawn with fwState := 3, fwResult := 7 } := by
  simp [State.fwOp, h]

theorem State.handover_of_due (h : s.fawn.fwState = 4) (hdue : s.fawn.fwTick ≤ s.blk.tick) : s.handover.fawn =
    { s.fawn with prevDigest := some s.fawn.fwDigest, fwDigest := s.fawn.stagedDigest, stagedDigest := 0, area := !s.fawn.area,
                  running := true, beat := false, missed := 0, fwState := 5 } := by
  simp [State.handover, h, hdue, State.firmwareKeys_fawn]

/-! ### The heartbeat (14 R427, R435) -/

/-- A heartbeat of PROBATION ends it, and the image is a generation of its own (14 R433, log entry 54). -/
theorem State.heartbeat_of_running (hrun : s.fawn.running = true) :
    s.heartbeat.fawn.beat = true ∧ s.heartbeat.fawn.fwState = (if s.fawn.fwState = 5 then 0 else s.fawn.fwState) ∧
      s.heartbeat.fawn.fwGen = (if s.fawn.fwState = 5 then (s.fawn.fwGen + 1) % 65536 else s.fawn.fwGen) := by
  by_cases hprobation : s.fawn.fwState = 5 <;> simp [State.heartbeat, hrun, hprobation]

/-- 16 silent ticks of PROBATION with an image to return to: it is to restart at the next boundary (14 R435). -/
theorem State.fwRevert_of_previous {d : Digest} (h : s.fawn.fwState = 5) (hmissed : 16 ≤ s.fawn.missed)
    (hprev : s.fawn.prevDigest = some d) : s.fwRevert.fawn.fwState = 0 ∧ s.fwRevert.fawn.fwResult = 6 ∧
      s.fwRevert.fawn.running = false ∧ s.fwRevert.fawn.revertPending = true := by
  have hraise := State.raise_fawn (s.fwSet 0 6) fwnUnit 0xE9 1 0 0 0 0
  have hprev' : ((s.fwSet 0 6).raise fwnUnit 0xE9 1 0 0 0 0).fawn.prevDigest = some d := by
    rw [hraise, State.fwSet_fawn]
    exact hprev
  simp only [State.fwRevert, h, hmissed, decide_true, Bool.and_self, if_true, hprev']
  rw [hraise, State.fwSet_fawn]
  exact ⟨rfl, rfl, trivial, trivial⟩

/-- Firmware out of PROBATION that has missed 16 heartbeats stops with kind 0xEA (14 R427). -/
theorem State.fawnFails_of_silent (hrun : s.fawn.running = true) (h : s.fawn.fwState ≠ 5) (hmissed : 16 ≤ s.fawn.missed) :
    s.fawnFails = ({ s with fawn := { s.fawn with running := false, missed := 0, beat := false } } : State).raise
      fwnUnit 0xEA 3 0 0 0 0 := by
  refine if_pos ?_
  simp [hrun, h, hmissed]

end

/-- Settles O53: each clause is what one operation makes of Fawn's part of the state; the result that OPEN keeps is log entry 139,
and a success of any image raises fw_gen (log entry 54). -/
theorem firmware : Obligations.Firmware := by
  unfold Obligations.Firmware
  intro s
  have hwrite : ∀ (hopen : s.MgOpen true) (f : State → State), (s.mgWrite true f).fawn = (f s).fawn := fun hopen f => by
    rw [State.mgWrite_of_open f hopen, State.mgRsp_fawn]
  refine ⟨fun hopen => ⟨fun h => ⟨_, rfl, ?_⟩, fun d h hroom => ⟨_, rfl, ?_⟩, fun h => ⟨_, rfl, ?_⟩, fun h hphase => ⟨_, rfl, ?_⟩,
      fun h hphase hsoon => ⟨_, rfl, ?_⟩, fun h => ⟨_, rfl, ?_⟩⟩,
    fun h => ⟨fun hvalid => ⟨_, rfl, ?_⟩, fun r hfault => ⟨_, rfl, ?_⟩⟩, fun h hdue => ⟨_, rfl, ?_⟩,
    fun hrun => ⟨_, rfl, State.heartbeat_of_running hrun⟩, fun d h hmissed hprev => ⟨_, rfl, State.fwRevert_of_previous h hmissed hprev⟩,
    fun hrun h hmissed hroom => ⟨_, congrArg Host.Outcome.next (State.fawnFails_of_silent hrun h hmissed), ?_, ?_⟩⟩
  · rw [hwrite hopen, State.fwOp_open h]
    exact ⟨rfl, rfl, rfl⟩
  · rw [hwrite hopen, State.fwData_of_room h hroom]
    exact ⟨rfl, h⟩
  · rw [hwrite hopen, State.fwOp_close h]
    exact ⟨rfl, rfl⟩
  · rw [hwrite hopen]
    exact State.fwOp_start h hphase
  · rw [hwrite hopen, State.fwOp_arm h hphase hsoon]
    exact ⟨rfl, rfl⟩
  · rw [hwrite hopen, State.fwOp_cancel h]
    exact ⟨rfl, rfl, rfl⟩
  · rw [State.fwCheck_of_valid h hvalid]
    exact ⟨rfl, rfl, rfl⟩
  · rw [State.fwCheck_of_fault h hfault]
    exact ⟨rfl, rfl, rfl⟩
  · rw [State.handover_of_due h hdue]
    exact ⟨rfl, rfl, rfl, rfl⟩
  · rw [State.raise_fawn]
  · exact State.raise_agg_of_room (s := { s with fawn := { s.fawn with running := false, missed := 0, beat := false } }) hroom ..

end Sys2Proof.Machine
end

section
/-! The mirrored pair (14 R446 to R448, R451, R456): the command register, the frames of a set, and what is raised of a silent
partner. -/

namespace Sys2Proof.Machine

section

variable {s : State}

/-! ### The command register (14 R456) -/

theorem State.pairWrite_of_idle (op : Nat) (h : s.pair.pending = none) :
    s.pairWrite op = { s with pair := { s.pair with pending := some op } } := by
  simp [State.pairWrite, h]

theorem State.pairWrite_of_pending (op : Nat) (h : s.pair.pending ≠ none) :
    s.pairWrite op = { s with pair := { s.pair with result := 6 } } :=
  if_pos (Option.isSome_iff_ne_none.mpr h)

/-! ### Frames of a set (10 R309, R317, 14 R447) -/

/-- Sealing a frame of the pair SA touches the SA's packet number and the fault machinery (10 R309). -/
theorem State.sealFrame_of_pairSends {k a : Nat} (hsend : PairSends s k a) (f : Frame) :
    ∃ u g, s.sealFrame a k f = (u, some g) ∧ g.mirror = f.mirror ∧ s.OnWire u ∧ u.out = s.out ∧ u.pair = s.pair ∧ u.own = s.own ∧
      u.tin = s.tin := by
  obtain ⟨-, hpn⟩ := hsend
  have hwire := State.sealFrame_onWire s a k f
  unfold State.sealFrame at hwire ⊢
  dsimp only at hwire ⊢
  by_cases hplain : (s.sa a).cipher = 1
  · rw [if_pos hplain]
    exact ⟨_, _, rfl, rfl, .refl s, rfl, rfl, rfl, rfl⟩
  · have hleft : ¬ (s.sa a).pn ≥ 2 ^ 64 - 1 := by omega
    rw [if_neg hplain, if_neg hleft] at hwire ⊢
    refine ⟨_, _, rfl, rfl, hwire, ?_⟩
    split <;> simp

/-- The pair SA's frame goes out on the one mirror tine (14 R447). -/
theorem State.mirrorOut_of_sends {k a : Nat} (htine : s.mirrorTines = [k]) (hsa : s.pairSa = some a) (hsend : PairSends s k a)
    (i : Nat) (f : MirrorFrame) : ∃ g, g.mirror = some f ∧ (s.mirrorOut i f).out = s.out ++ [.tineTx k g] ∧
      (s.mirrorOut i f).pair = s.pair ∧ (s.mirrorOut i f).own = s.own := by
  obtain ⟨u, g, hseal, hmirror, hwire, hout, hpair, hown, htin⟩ :=
    State.sealFrame_of_pairSends hsend { prio := BitVec.ofNat 3 s.tin.ctlPrio, mirror := some f }
  have hfree : u.txPaused k u.tin.ctlPrio = false := by
    rw [htin, State.txPaused, hwire.tine]
    exact hsend.1
  have hsent : s.mirrorOut i f = u.emit (.tineTx k g) := by
    simp only [State.mirrorOut, htine, hsa, List.length_nil, Nat.zero_add, Nat.mod_one, List.getD_cons_zero, hseal]
    exact State.emitCtl_of_open hfree
  refine ⟨g, hmirror, ?_⟩
  rw [hsent, State.emit_pair, State.emit_own, hpair, hown]
  exact ⟨congrArg (· ++ [_]) hout, rfl, rfl⟩

theorem packRecs_singleton (r : MirrorRec) : packRecs [r] 0 [] = [[r]] := by simp [packRecs]

/-- The frame that carries a set of one record (14 R447). -/
def State.soleFrame (s : State) (n : Nat) (r : MirrorRec) : MirrorFrame :=
  { setTick := BitVec.ofNat 64 n, index := BitVec.ofNat 16 0, last := true, sweep := s.pair.sweepSet == some n,
    sweepEnds := s.pair.sweepSet == some n, senderState := BitVec.ofNat 3 s.pair.state, recs := [r] }

/-- `s` after the set of a tick was sent and others wait. -/
def State.setSent (s : State) (n : Nat) (rest : List (Nat × List MirrorRec)) : State :=
  { s with pair := { s.pair with changes := rest, sentTick := n } }

/-- The primary's oldest closed set of one record goes out as one frame, its last (14 R447). -/
theorem State.mirrorSend_of_closed {n k : Nat} {r : MirrorRec} {rest : List (Nat × List MirrorRec)} (hon : s.mirroring = true)
    (htine : s.mirrorTines = [k]) (hup : s.pairSaUp true = true) (hset : s.pair.changes = (n, [r]) :: rest)
    (hclosed : n < s.blk.tick) : s.mirrorSend = (s.mirrorOut 0 (s.soleFrame n r)).setSent n rest := by
  have hopen : ¬ n ≥ s.blk.tick := by omega
  unfold State.mirrorSend
  rw [hset]
  dsimp only
  rw [if_neg (by simp [hon, htine, hup, hclosed]), packRecs_singleton]
  rfl

/-! ### Frames taken (14 R447, R448, R453) -/

/-- A frame that the pair SA admits on a mirror tine is the mirror's to take (10 R316). -/
theorem State.mirrorIn_of_admitted {k n : Nat} {g : Frame} {f : MirrorFrame} (hjudge : s.judgeFrame k g = (s, some n))
    (hf : g.mirror = some f) (hkind : (s.sa n).kind = 2) (htine : s.mirrorTines.contains k = true) :
    s.mirrorIn k g = s.mirrorRx f := by
  simp only [State.mirrorIn, hjudge, hf]
  exact if_pos (by rw [hkind, htine]; rfl)

/-- `s` with what a frame says of its sender (14 R448). -/
def State.heardOf (s : State) (f : MirrorFrame) : State :=
  { s with pair := { s.pair with partnerState := f.senderState.toNat, lastFrameTick := s.blk.tick } }

/-- The primary in MIRRORING takes a frame as the acknowledgement of its sets (14 R447). -/
theorem State.mirrorRx_primary {f : MirrorFrame} (hrole : s.blockRec.pairRole = 1) (hstate : s.pair.state = 3) (hwell : s.fatal = false) :
    s.mirrorRx f = { s.heardOf f with pair := { (s.heardOf f).pair with lastSet := max s.pair.lastSet f.setTick.toNat } } := by
  simp [State.mirrorRx, hrole, hstate, hwell, State.heardOf]

/-- The mirror in MIRRORING keeps the frame of a later set (14 R447). -/
theorem State.mirrorRx_mirror {f : MirrorFrame} (hrole : s.blockRec.pairRole = 2) (hstate : s.pair.state = 3) (hwell : s.fatal = false)
    (hlater : s.pair.lastSet < f.setTick.toNat) : s.mirrorRx f = (s.heardOf f).rxPut f := by
  simp [State.mirrorRx, hrole, hstate, hwell, State.heardOf, hlater]

/-- The receive queue's one set after its only frame. -/
def soleSet (f : MirrorFrame) : RxSet :=
  { tick := f.setTick.toNat, frames := [(0, f.recs)], lastIndex := some 0, ends := f.sweepEnds }

theorem soleSet_complete (f : MirrorFrame) : (soleSet f).complete = true := by simp [RxSet.complete, soleSet]

/-- The only frame of a set makes a complete one of an empty receive queue (14 R447). -/
theorem State.rxPut_of_sole {f : MirrorFrame} (hempty : s.pair.rxSets = []) (hlast : f.last = true) (hindex : f.index = 0) :
    s.rxPut f = { s with pair := { s.pair with rxSets := [soleSet f], lastSetTick := s.blk.tick } } := by
  have hset : s.rxPut f = { s with pair := { s.pair with
      rxSets := [soleSet f], lastSetTick := if (soleSet f).complete then s.blk.tick else s.pair.lastSetTick } } := by
    simp [State.rxPut, hempty, hlast, hindex, soleSet]
    rfl
  rw [hset, if_pos (soleSet_complete f)]

/-! ### Sets applied (14 R447) -/

/-- The mirror's acknowledgement of a set (14 R447). -/
def State.setAck (s : State) (n : Nat) : MirrorFrame :=
  { setTick := BitVec.ofNat 64 n, last := true, senderState := BitVec.ofNat 3 s.pair.state }

/-- `s` after the last set of the receive queue was applied. -/
def State.setApplied (s : State) (n : Nat) : State :=
  { s with pair := { s.pair with lastSet := n, rxSets := [], sweeping := false, sweepEnded := false } }

/-- A boundary of the mirror in MIRRORING applies the next complete set, here one without records, and acknowledges it
(14 R447). -/
theorem State.mirrorApply_of_next {x : RxSet} (hrole : s.blockRec.pairRole = 2) (hstate : s.pair.state = 3)
    (hsweep : s.pair.sweeping = false) (hsets : s.pair.rxSets = [x]) (hnext : x.tick = s.pair.lastSet + 1) (hwhole : x.complete = true)
    (hends : x.ends = false) (hrecs : x.recs = []) (hup : s.pairSaUp true = true) :
    s.mirrorApply = (s.setApplied x.tick).mirrorOut x.tick (s.setAck x.tick) := by
  have hbegin : s.sweepBegins = s := if_neg (by simp [hsweep])
  have hfind : s.nextSet = some x := by simp [State.nextSet, hsweep, hsets, hnext]
  have hgo : ¬ (s.blockRec.pairRole != 2 || !(s.pair.state == 2 || s.pair.state == 3) || !x.complete) = true := by
    simp [hrole, hstate, hwhole]
  have hone : s.mirrorApplyOne = (s.setApplied x.tick).mirrorOut x.tick (s.setAck x.tick) := by
    unfold State.mirrorApplyOne
    rw [hfind]
    dsimp only
    rw [if_neg hgo]
    simp only [hends, hrecs, hstate, hsweep, hsets, List.foldl_nil, Bool.false_eq_true, if_false, Bool.false_and, Nat.reduceBEq,
      List.filter_cons, List.filter_nil, gt_iff_lt, lt_irrefl, decide_false]
    refine (if_pos hup).trans ?_
    simp only [State.setApplied, State.setAck, hstate]
  simp only [State.mirrorApply, hbegin, hsets, List.length_singleton, List.range_one, List.foldl_cons, List.foldl_nil, hone]

theorem State.pairSaUp_of_pairSa (h : s.pairSa.isSome = true) : s.pairSaUp true = true := by
  simp only [State.pairSa, State.txSa, Option.isSome_map, List.find?_isSome] at h
  obtain ⟨a, ha, hact⟩ := h
  refine List.any_eq_true.mpr ⟨a, ha, ?_⟩
  simp_all

/-! ### A partner that is behind, or silent (14 R447, R451) -/

theorem State.pairLag_of_behind (hrole : s.blockRec.pairRole = 2) (hstate : s.pair.state = 3) (hbehind : s.pair.lastSet + 6 ≤ s.blk.tick)
    (hnew : s.pair.lagRaised = false) : s.pairLag =
      ({ s with pair := { s.pair with lagRaised := true } } : State).raise pairUnit 0x90 1 0 0 0 0 := by
  simp [State.pairLag, hrole, hstate, hbehind, hnew]

/-- The pair enters a state under vector 0x0E (14 R446). -/
theorem State.pairGo_pair (s : State) (st : Nat) : (s.pairGo st).pair = { s.pair with state := st, stateTick := s.tick32 } := by
  rw [State.pairGo, State.notice_eq]
  exact State.mgIrq_pair (s := { s with pair := { s.pair with state := st, stateTick := s.tick32 } }) _

theorem State.pairGo_irq (hdrives : s.drives mgPort = true) (st : Nat) : .mgIrq 0x0E ∈ (s.pairGo st).out :=
  State.mem_notice_out (State.mgIrq_mem_out (s := { s with pair := { s.pair with state := st, stateTick := s.tick32 } }) hdrives _)

/-- `s` with the partner's loss raised (14 R451). -/
def State.lossRaised (s : State) : State := s.raise pairUnit 0x91 2 0 0 0 0

theorem State.lossRaised_role : s.lossRaised.blockRec = s.blockRec := by rw [State.blockRec, State.lossRaised, State.raise_img]; rfl

/-- `s` as the primary without a partner: the sets that waited are dropped (14 R451). -/
def State.unmirrored (s : State) : State := { s with pair := { s.pair with changes := [], partnerState := 0, sweeping := false } }

/-- `s` as the mirror without a partner: the sets received are dropped (14 R451). -/
def State.unfollowed (s : State) : State := { s with pair := { s.pair with rxSets := [], sweeping := false, sweepEnded := false } }

theorem State.pairLost_primary (hrole : s.blockRec.pairRole = 1) (hstate : s.pair.state = 3)
    (hlate : s.pair.lastFrameTick + 5 ≤ s.blk.tick) : s.pairLost = s.lossRaised.unmirrored.pairGo 4 := by
  unfold State.pairLost
  dsimp only
  rw [if_pos (by simp [hrole, hstate, hlate])]
  exact if_pos ((congrArg BlockRec.pairRole State.lossRaised_role).trans hrole)

theorem State.pairLost_mirror (hrole : s.blockRec.pairRole = 2) (hstate : s.pair.state = 3)
    (hlate : s.pair.lastSetTick + 5 ≤ s.blk.tick) : s.pairLost = s.lossRaised.unfollowed.pairGo 5 := by
  have hrole' : s.lossRaised.blockRec.pairRole ≠ 1 := by rw [State.lossRaised_role, hrole]; decide
  unfold State.pairLost
  dsimp only
  rw [if_pos (by simp [hrole, hstate, hlate])]
  exact if_neg hrole'

theorem State.unmirrored_drives (s : State) (p : Nat) : s.unmirrored.drives p = s.drives p := rfl

theorem State.unfollowed_drives (s : State) (p : Nat) : s.unfollowed.drives p = s.drives p := rfl

theorem State.lossRaised_drives : s.lossRaised.drives mgPort = s.drives mgPort := by
  rw [State.lossRaised, State.raise_eq]
  rfl

end

/-- Settles O55: each clause is what one operation makes of the pair's part of the state, the frames being sealed by the pair SA;
the answers go to the tag of the transfer (log entry 170). -/
theorem mirroredPair : Obligations.MirroredPair := by
  unfold Obligations.MirroredPair
  refine fun s => ⟨fun c op hopen hc => ?command, fun n r rest k a hon htine hup hsa hsend hset hclosed => ?send,
    fun k g f n hjudge hf hkind htine hwell => ?frame,
    fun x k hrole hstate hsweep hsets hnext hwhole hends hrecs htine hsends hsome => ?apply,
    fun hrole hstate hbehind hnew hroom => ?lag, fun hstate => ⟨fun hrole hlate => ?primary, fun hrole hlate => ?mirror⟩⟩
  case command =>
    have hexec : exec c s = .next (s.mgWrite false fun s => s.pairWrite op) := by
      simp only [List.mem_cons, Prod.mk.injEq, List.mem_nil_iff, or_false] at hc
      obtain ⟨rfl, rfl⟩ | ⟨rfl, rfl⟩ := hc <;> rfl
    refine ⟨fun h => ⟨_, hexec, ?_⟩, fun h => ⟨_, hexec, ?_⟩⟩
    · rw [State.mgWrite_emits (f := fun s => s.pairWrite op) hopen (by rw [State.pairWrite_of_idle op h]; exact hopen.1),
        State.pairWrite_of_idle op h]
      exact ⟨rfl, rfl⟩
    · rw [State.mgWrite_of_open _ hopen, State.mgRsp_pair, State.pairWrite_of_pending op h]
  case send =>
    obtain ⟨g, hg, hout, hpair, -⟩ := State.mirrorOut_of_sends htine hsa hsend 0 (s.soleFrame n r)
    refine ⟨_, g, _, congrArg Host.Outcome.next (State.mirrorSend_of_closed hon htine hup hset hclosed), hout, hg, rfl, rfl, rfl, ?_⟩
    exact ⟨rfl, rfl⟩
  case frame =>
    have hexec : exec (.mirrorFrame k g) s = .next (s.mirrorRx f) :=
      congrArg Host.Outcome.next (State.mirrorIn_of_admitted hjudge hf hkind htine)
    refine ⟨fun hrole hstate => ⟨_, hexec, ?_⟩, fun hrole hstate hlater hempty hlast hindex => ⟨_, soleSet f, hexec, ?_⟩⟩
    · rw [State.mirrorRx_primary hrole hstate hwell]
      exact ⟨rfl, rfl, rfl, hstate, rfl⟩
    · rw [State.mirrorRx_mirror hrole hstate hwell hlater, State.rxPut_of_sole (s := s.heardOf f) hempty hlast hindex]
      exact ⟨rfl, rfl, rfl, rfl, rfl, rfl⟩
  case apply =>
    obtain ⟨a, hsa⟩ := Option.isSome_iff_exists.mp hsome
    obtain ⟨g, hg, hout, hpair, hown⟩ := State.mirrorOut_of_sends (s := s.setApplied x.tick) htine hsa (hsends a hsa) x.tick
      (s.setAck x.tick)
    refine ⟨_, g, _, congrArg Host.Outcome.next (State.mirrorApply_of_next hrole hstate hsweep hsets hnext hwhole hends hrecs
      (State.pairSaUp_of_pairSa hsome)), ?_, ?_, hout, hg, rfl, hown⟩ <;> rw [hpair] <;> rfl
  case lag =>
    refine ⟨_, congrArg Host.Outcome.next (State.pairLag_of_behind hrole hstate hbehind hnew), ?_, ?_⟩
    · rw [State.raise_pair]
    · exact State.raise_agg_of_room (s := { s with pair := { s.pair with lagRaised := true } }) hroom ..
  case primary =>
    refine ⟨_, congrArg Host.Outcome.next (State.pairLost_primary hrole hstate hlate), ?_, ?_, fun hdrives => ?_⟩
    · rw [State.pairGo_pair]
    · rw [State.pairGo_pair]
      rfl
    · exact State.pairGo_irq (s := s.lossRaised.unmirrored) (by rwa [State.unmirrored_drives, State.lossRaised_drives]) 4
  case mirror =>
    refine ⟨_, congrArg Host.Outcome.next (State.pairLost_mirror hrole hstate hlate), ?_, ?_, fun hdrives => ?_⟩
    · rw [State.pairGo_pair]
    · rw [State.pairGo_pair]
      rfl
    · exact State.pairGo_irq (s := s.lossRaised.unfollowed) (by rwa [State.unfollowed_drives, State.lossRaised_drives]) 5

end Sys2Proof.Machine
end

section
/-! Two transfers at ports that are isolated, or become so (02 R53, R83, R84): a FLUSH_DONE whose data parity is the port's fourth
error of a tick, and a debug sample of an isolated tile. -/

namespace Sys2Proof.Machine

/-! ### FLUSH_DONE (02 R58) -/

/-- A FLUSH_DONE of name 0, with good control parity and bad data parity (02 R83). -/
def badDataFlushDone : TpReq := { tag := 9 }

/-- Tile port 5 is up and has had three errors in this tick (02 R84). -/
def blockWithThreeErrors : State := { ports := [(5, { state := 1, errs := 3 })] }

/-- What FLUSH_DONE makes of `blockWithThreeErrors`. -/
def isolatedBlock : State := blockWithThreeErrors.orLand (.flushDone 5 badDataFlushDone) fun s => s.flushDoneReq 5 badDataFlushDone

/-- The fourth error isolates the port, which drives nothing then (02 R53, R84). -/
theorem isolatedBlock_out : isolatedBlock.out = [] := by
  decide +kernel

/-- Refutes O22: its clause of FLUSH_DONE leaves out the parity of the data. In `blockWithThreeErrors` every hypothesis of the
clause holds, and the transfer isolates its port in place of an answer. -/
theorem not_tileMarkersFencesAndFlushes : ¬ Obligations.TileMarkersFencesAndFlushes := by
  unfold Obligations.TileMarkersFencesAndFlushes
  intro h
  obtain ⟨-, -, -, hflushDone⟩ := h blockWithThreeErrors 5 badDataFlushDone
  obtain ⟨t, ht, hanswer, -⟩ := hflushDone rfl rfl rfl (by decide +kernel) rfl rfl rfl rfl
  obtain rfl : isolatedBlock = t := Host.Outcome.next.inj ht
  rw [isolatedBlock_out] at hanswer
  exact absurd hanswer List.not_mem_nil

/-! ### DEBUG_SAMPLE (02 R74, 15 R463) -/

/-- A sample of an isolated tile port that has a binding is dropped (15 R463). -/
theorem State.debugSample_sink_of_isolated {s : State} {tile : Nat} {b : Bound} (hstate : (s.port tile).state = 2)
    (hbound : s.bound tile = some b) (pc stall fclk : Nat) : (s.debugSample tile pc stall fclk).sink = s.sink := by
  simp [State.debugSample, hstate, hbound]

/-- The debug port takes a sample with good parity. -/
theorem exec_debugSample_of_up {s : State} {tile : BitVec 8} {pc : BitVec 48} {stall : BitVec 4} {cpar : Bool}
    (hup : s.portUp 338 = true) (hpar : dbgCparOk tile.toNat pc.toNat stall.toNat cpar = true) (lane : BitVec 2) (fclk : BitVec 12) :
    exec (.debugSample lane tile pc stall cpar fclk) s = .next (s.debugSample tile.toNat pc.toNat stall.toNat fclk.toNat) := by
  simp [exec, execDebugSample, hup, hpar]

/-- The context bound to tile port 5, whose slot is traced. -/
def tracedBound : Bound := { slot := 0, ctx := 3, fn := 1, slice := 2, lost := false }

/-- The debug port is up, tile port 5 is isolated, and the slot bound to it is traced. -/
def blockWithIsolatedTile : State :=
  { ports := [(338, { state := 1 }), (5, { state := 2 })], bindings := [(0, { first := 4, count := 4 })],
    slots := [(0, { ctx := some 3, trace := { enable := true } })], ctxs := [(3, { state := 2, slot := 0, fn := 1, slice := 2 })] }

/-- Refutes O28: its clause of DEBUG_SAMPLE rules out a tile in state 3 alone, and an isolated one, in state 2, has its sample dropped
as well (`State.debugSample_sink_of_isolated`). In `blockWithIsolatedTile` every hypothesis of the clause holds. -/
theorem not_debugUrgencyAndTestPorts : ¬ Obligations.DebugUrgencyAndTestPorts := by
  unfold Obligations.DebugUrgencyAndTestPorts
  rintro ⟨hsample, -⟩
  have hbound : blockWithIsolatedTile.bound (5 : BitVec 8).toNat = some tracedBound := by decide
  have hpar : dbgCparOk (5 : BitVec 8).toNat (0 : BitVec 48).toNat (0 : BitVec 4).toNat true = true := by decide +kernel
  obtain ⟨t, ht, hsink, -⟩ := hsample blockWithIsolatedTile 0 5 0 0 true 0 tracedBound rfl hpar (by decide) hbound rfl rfl rfl rfl
    (by decide)
  obtain rfl := Host.Outcome.next.inj ((exec_debugSample_of_up rfl hpar 0 0).symm.trans ht)
  rw [State.debugSample_sink_of_isolated rfl hbound] at hsink
  exact absurd hsink (by simp)

end Sys2Proof.Machine
end

section
/-! A line of a trace (15 R465 to R467): four records of a slot make one line, which its home takes as a write of the slot's
context. -/

namespace Sys2Proof.Machine

section

variable {s : State}

/-! ### The line the writer makes (15 R467) -/

/-- The write of a line of a slot's trace, as the writer gives it to the line's home (15 R467). -/
def traceWrite (c x : Nat) (r : CtxRec) (tc now line : Nat) (data : Line) : Txn :=
  { id := 0, home := 0, line := line, op := .write, origin := .trace c, slice := r.slice, fn := r.fn, tc := tc, be := BitVec.allOnes 128,
    data := data, start := now, ctx := some x }

/-- The bytes of four records (15 R466). -/
def fourRecords (a b d e : TraceRec) : Line := BitVec.ofNat 1024 (a.num + b.num <<< 256 + d.num <<< 512 + e.num <<< 768)

/-- Four records of a slot, all that the sink holds, leave it as one line, and the slot's offset advances by the line's bytes
(15 R467). -/
theorem State.traceLine_of_four {c x : Nat} {a b d e : TraceRec} (hctx : (s.slot c).ctx = some x) (hon : (s.slot c).trace.on = true)
    (hsink : s.sink = [a, b, d, e]) (hslot : ∀ r ∈ s.sink, r.slot = c)
    (hroom : (s.slot c).trace.offset + 128 < 2 ^ (s.slot c).trace.sizeLog2) :
    ∃ (u : State) (tc now : Nat), s.traceLine c = u.accept (traceWrite c x (s.ctx x) tc now
        (lineOf ((s.slot c).trace.base + (s.slot c).trace.offset)) (fourRecords a b d e)) (some (s.ctx x).fn) ∧
      u = { s with sink := [], slots := u.slots, obs := { s.obs with cntLive := u.obs.cntLive }, out := u.out } ∧
      (u.slot c).trace.offset = (s.slot c).trace.offset + 128 := by
  have hmine : (s.sink.filter fun r => r.slot == c) = [a, b, d, e] := by
    rw [← hsink]
    exact List.filter_eq_self.mpr fun r hr => by simp [hslot r hr]
  have hothers : (s.sink.filter fun r => r.slot != c) = [] :=
    List.filter_eq_nil_iff.mpr fun r hr => by simp [hslot r hr]
  have hfin : ¬ (s.slot c).trace.offset + 128 ≥ 2 ^ (s.slot c).trace.sizeLog2 := by omega
  have hdata : (List.range 4).foldl (fun n i => n + (([a, b, d, e].take 4)[i]?.map TraceRec.num).getD 0 <<< (256 * i)) 0 =
      a.num + b.num <<< 256 + d.num <<< 512 + e.num <<< 768 := by simp [List.range_succ]
  unfold State.traceLine
  rw [hmine, hothers, hctx]
  dsimp only
  rw [hdata]
  simp only [hon, hfin, List.isEmpty_cons, Bool.not_true, Bool.false_eq_true, if_false, decide_false, Bool.false_and, Bool.false_or]
  refine ⟨_, _, _, rfl, ?_, ?_⟩
  · split
    · rw [State.hostIrq_eq]
      rfl
    · rfl
  · split
    · rw [State.slot, State.hostIrq_slots]
      exact congrArg (fun k : SlotSt => k.trace.offset) (State.setSlot_slot _ _ _)
    · exact congrArg (fun k : SlotSt => k.trace.offset) (State.setSlot_slot _ _ _)

/-! ### At the home of the line (05 R162, R167) -/

/-- `d` is the write of a line of a trace that stands at home `h`. -/
structure Txn.Logs (d : Txn) (c line h : Nat) (data : Line) : Prop where
  origin : d.origin = .trace c
  op : d.op = .write
  home : d.home = h
  line : d.line = line
  data : d.data = data
  be : d.be = BitVec.allOnes 128
  waitLine : d.waitLine = none
  got : d.got = none
  poison : d.poison = 0

theorem Txn.Logs.begun {d : Txn} {c line h : Nat} {data : Line} (hd : d.Logs c line h data) : d.begun.Logs c line h data := by
  obtain ⟨ho, hop, hhome, hline, hdata, hbe, hw, hg, hp⟩ := hd
  exact ⟨ho, hop, hhome, hline, hdata, hbe, hw, hg, hp⟩

theorem Txn.Logs.unsnooped {d : Txn} {c line h : Nat} {data : Line} (hd : d.Logs c line h data) :
    Txn.Logs { d with got := none, gotDirty := false } c line h data := by
  obtain ⟨ho, hop, hhome, hline, hdata, hbe, hw, -, hp⟩ := hd
  exact ⟨ho, hop, hhome, hline, hdata, hbe, hw, rfl, hp⟩

variable {c x n h tc now line : Nat} {r : CtxRec} {data : Line} {d : Txn}

/-- A request that an idle home enters is the one in flight. -/
theorem State.enter_of_billed (htxns : s.txns = []) (b : Bill) {t : Txn} (ht : t.checked = false) :
    (s.billed { b with txns := s.txns }).enter t =
      s.billed { b with nextId := b.nextId + 1, txns := [{ t with id := b.nextId }] } := by
  rw [State.enter, ht, if_neg Bool.false_ne_true, htxns]
  rfl

/-- The home of its line takes the write of a line of a trace (05 R167). -/
theorem State.accept_traceWrite (hh : HomeTakes s line r.slice r.fn .wr false n h) :
    ∃ (b : Bill) (d : Txn), s.accept (traceWrite c x r tc now line data) (some r.fn) = (s.billed b).settle ∧ b.txns = [d] ∧
      d.Logs c line h data ∧ d.phase = .behind := by
  obtain ⟨lvl, aged, hstamp⟩ : ∃ lvl aged, s.stamp (traceWrite c x r tc now line data) =
      { traceWrite c x r tc now line data with lvl := lvl, aged := aged } := ⟨_, _, s.stamp_eq rfl⟩
  have hmiss : s.tableMiss { traceWrite c x r tc now line data with lvl := lvl, aged := aged } = none :=
    State.tableMiss_of_homeTakes hh
  obtain ⟨hchip, hname, hphys, hgate, hwin, hlost, hmove, hlmove, htxns, hown, hretry, hheld, hup, hrole⟩ := hh
  simp only [State.accept, hstamp, hmiss]
  generalize ht : ({ traceWrite c x r tc now line data with lvl := lvl, aged := aged } : Txn) = t
  have hgateOf : s.gateOf t (some r.fn) = none := by
    simp only [State.gateOf, ← ht, traceWrite, hchip, bne_self_eq_false, Bool.false_eq_true, if_false]
    exact hgate
  have hbarred : s.barredAt t = none := by
    simp [State.barredAt, ← ht, traceWrite, hwin, hlost]
  have hevicts : (TOp.write == TOp.evictDirty || TOp.write == TOp.evictClean) = false := rfl
  have hwrites : (TOp.write == TOp.write || TOp.write == TOp.atomicHome || TOp.write == TOp.atomicMem) = true := rfl
  have hroom : decide (0 ≥ 416) = false := rfl
  subst ht
  simp only [traceWrite] at hgateOf hbarred ⊢
  simp only [State.admitTxn, hname, hgateOf, hbarred, hphys, hchip, hlmove, htxns, hretry, Txn.evicts, TOp.isRead, hevicts, hwrites,
    hroom, bne_self_eq_false, Bool.or_self, Bool.and_false, Bool.false_and, Bool.not_false, Bool.false_eq_true, if_false, if_true,
    List.any_nil, List.filter_nil, List.length_nil, List.find?_nil, Option.isSome_none, Bool.true_and]
  generalize hw : (State.logDirty _ _) = w
  obtain ⟨b, rfl⟩ : s.Charges w := hw ▸ ((((s.charge_charges ..).trans (State.tineUses_charges ..)).trans
    (State.note_charges ..)).trans (State.use_charges ..)).trans (State.logDirty_charges ..)
  rw [State.enter_of_billed htxns b rfl]
  exact ⟨_, _, rfl, rfl, ⟨rfl, rfl, rfl, rfl, rfl, rfl, rfl, rfl, rfl⟩, rfl⟩

theorem State.ready_of_logs (hd : d.Logs c line h data) (hphase : d.phase = .behind) (htxns : s.txns = [d])
    (hheld : (s.home h).heldSets.contains (fsetOf line) = false) : s.ready d = true := by
  obtain ⟨-, hop, hhome, hline, -, -, hwait, -, -⟩ := hd
  have hwaits : s.evictWaits d = false := by simp [State.evictWaits, Txn.evicts, hop]
  unfold State.ready
  rw [hphase]
  simp [hwait, hhome, hline, hheld, hwaits, htxns, -List.contains_eq_mem]

/-- The write of a line of a trace needs no snoop of a line that the filter does not list: its turn comes at once. -/
theorem State.settle_of_logs (hd : d.Logs c line h data) (hphase : d.phase = .behind) (htxns : s.txns = [d])
    (hheld : (s.home h).heldSets.contains (fsetOf line) = false) (hchip : lineChip line = s.chip) (hfilt : s.filt h line = {}) :
    s.settle = State.settleN 18 (State.snooped { s with txns := [d.begun] } d.begun) := by
  have hready := State.ready_of_logs hd hphase htxns hheld
  obtain ⟨-, hop, hhome, hline, -, -, hwait, -, -⟩ := hd
  have hstart := State.start_of_lodged (.inr (.inl hop)) htxns (by rwa [hline]) (by rwa [hline, hhome])
  have hmove : s.move d = { s with txns := [d.begun] } := by rw [State.move, hphase, hstart]
  have hnext : State.ready { s with txns := [d.begun] } d.begun = true := by
    change (d.begun.snoops.isEmpty && d.begun.waitLine.isNone) = true
    rw [show d.begun.waitLine = none from hwait]
    rfl
  rw [State.settle, show 4 * s.txns.length + 16 = 19 + 1 by rw [htxns]; rfl, State.settleN_of_ready htxns hready 19, hmove]
  exact State.settleN_of_ready (u := { s with txns := [d.begun] }) rfl hnext 18

/-- The write of a line of a trace that an idle home takes comes to its turn there. -/
theorem State.accept_traceWrite_reaches_turn (hh : HomeTakes s line r.slice r.fn .wr false n h) (hfilt : s.filt h line = {}) :
    ∃ (b : Bill) (d : Txn), s.accept (traceWrite c x r tc now line data) (some r.fn) = State.settleN 18 ((s.billed b).snooped d) ∧
      b.txns = [d] ∧ d.Logs c line h data := by
  obtain ⟨b, d, haccept, htxns, hd, hphase⟩ := State.accept_traceWrite (c := c) (x := x) (tc := tc) (now := now) (data := data) hh
  obtain ⟨hchip, -, -, -, -, -, -, -, -, -, -, hheld, -, -⟩ := hh
  have hsettle := State.settle_of_logs (s := s.billed b) hd hphase htxns hheld hchip hfilt
  exact ⟨{ b with txns := [d.begun] }, d.begun, haccept.trans hsettle, rfl, hd.begun⟩

/-- Its turn come, the write is made in the line that the home has. -/
theorem State.snooped_of_logs {k : Nat} {l : LlcLine} (hd : d.Logs c line h data) (hchip : lineChip line = s.chip)
    (hway : (s.home h).way? line = some (k, l)) (hpoison : l.poison = 0) :
    s.snooped d = (s.setFilt h line {}).writeDone { d with got := none, gotDirty := false } l.data 0 := by
  obtain ⟨-, hop, hhome, hline, -, -, -, hgot, hdpoison⟩ := hd
  have hdata : (s.setFilt h line {}).homeData h line = some (l.data, 0, 3) := by
    have hway' : ((s.setFilt h line {}).home h).way? line = some (k, l) := by
      rw [State.setFilt, State.setHome_home]
      exact hway
    rw [State.homeData, hway', ← hpoison]
  have hwait : s.dirtyWait d = (s, none) := by simp [State.dirtyWait, hgot]
  have hread : d.op.isRead = false := by rw [hop]; rfl
  unfold State.snooped
  simp only [hwait, hdpoison, hread, hline, hhome, hchip, hgot, hdata, bne_self_eq_false, Bool.false_and, Bool.false_eq_true, if_false]
  simp [hop]

/-! ### What the write leaves alone (15 R463) -/

/-- The slots of a block and its trace sink. -/
def State.sinks (s : State) := (s.slots, s.sink)

theorem State.reserve_sinks (s : State) (h : Nat) : (s.reserve h).sinks = s.sinks := by
  unfold State.reserve
  dsimp only
  split <;> rfl

theorem State.acked_sinks (s : State) (d : Txn) (old : Line) : (s.acked d old).sinks = s.sinks := by
  unfold State.acked
  split <;> rfl

theorem State.use_sinks (s : State) (x : Option Nat) (rd wr hsl job : Nat) : (s.use x rd wr hsl job).sinks = s.sinks := by
  unfold State.use
  split <;> rfl

theorem State.dirtyLine_sinks (hm : s.mirrored h = true) (k : Nat) (l : LlcLine) : (s.dirtyLine h k l).sinks = s.sinks := by
  simp only [State.dirtyLine, hm, if_true]
  unfold State.mirrorPut
  dsimp only
  split
  · split <;> rfl
  · rfl

/-- A trace's line that is written ends the request, and no one is answered (15 R467). -/
theorem State.finish_of_trace {d' : Txn} (ho : d.origin = .trace c) (htxns : s.txns = [d']) (hid : d'.id = d.id) (old : Line) :
    (s.finish d .ok 0 [old] 0).txns = [] ∧ (s.finish d .ok 0 [old] 0).sinks = s.sinks ∧
      ∀ j, ((s.finish d .ok 0 [old] 0).home j).lines = (s.home j).lines := by
  have hanswer : ∀ u : State, u.answer d .ok 0 [old] 0 = u := fun u => by simp [State.answer, ho, State.retryNote]
  unfold State.finish
  extract_lets go u v w
  rw [hanswer]
  have hu : u.txns = [] := by simp [u, htxns, hid]
  have hv : v.txns = [] ∧ v.sinks = s.sinks ∧ ∀ j, (v.home j).lines = (s.home j).lines := by
    unfold v
    split
    · exact ⟨hu, rfl, fun j => State.setHome_home_eq u HomeSt.lines rfl⟩
    · exact ⟨hu, rfl, fun _ => rfl⟩
  obtain ⟨hvtxns, hvsinks, hvlines⟩ := hv
  unfold w
  split
  · have hkeeps := State.reserve_keeps v d.home
    exact ⟨hkeeps.txns.trans hvtxns, (State.reserve_sinks ..).trans hvsinks, fun j => (hkeeps.lines j).trans (hvlines j)⟩
  · exact ⟨hvtxns, hvsinks, hvlines⟩

theorem State.changeDone_of_trace {d' : Txn} (ho : d.origin = .trace c) (htxns : s.txns = [d']) (hid : d'.id = d.id)
    (hm : s.mirrored d.home = true) (old : Line) :
    (s.changeDone d old).txns = [] ∧ (s.changeDone d old).sinks = s.sinks ∧
      ∀ j, ((s.changeDone d old).home j).lines = (s.home j).lines := by
  have hkeeps := (State.acked_keeps s d old).trans (State.use_keeps _ d.ctx 0 0 1 0)
  rw [State.changeDone_of_mirrored hm]
  obtain ⟨hnone, hsinks, hlines⟩ := State.finish_of_trace ho (hkeeps.txns.trans htxns) hid old
  exact ⟨hnone, hsinks.trans ((State.use_sinks ..).trans (State.acked_sinks ..)), fun j => (hlines j).trans (hkeeps.lines j)⟩

theorem beMask_allOnes : beMask (BitVec.allOnes 128).toNat 128 = 2 ^ 1024 - 1 := by decide +kernel

theorem mergeLine_allOnes (old new : Line) : mergeLine old new (BitVec.allOnes 128) = new := by
  refine BitVec.eq_of_toNat_eq ?_
  rw [mergeLine, beMask_allOnes, Nat.sub_self, Nat.and_zero, Nat.or_zero, Nat.and_two_pow_sub_one_eq_mod, BitVec.toNat_ofNat, Nat.mod_mod,
    Nat.mod_eq_of_lt new.isLt]

/-- The write of a line of a trace replaces the bytes of a dirty line of a mirrored home. -/
theorem State.writeDone_of_logs {d' : Txn} {k : Nat} {l : LlcLine} (hd : d.Logs c line h data) (htxns : s.txns = [d'])
    (hid : d'.id = d.id) (hway : (s.home h).way? line = some (k, l)) (hdirty : l.dirty = true) (hlive : s.keyLive l.key = true)
    (hm : s.mirrored h = true) (hmoving : s.moving (s.lineSlice line) = false) :
    (s.writeDone d l.data 0).txns = [] ∧ (s.writeDone d l.data 0).sinks = s.sinks ∧
      s.LineMade (s.writeDone d l.data 0) h line k data := by
  obtain ⟨ho, hop, rfl, rfl, rfl, hbe, -, -, -⟩ := hd
  have hnew : d.change l.data = some (0, d.data) := by
    rw [Txn.change, hop, hbe, mergeLine_allOnes]
    rfl
  obtain ⟨q, hdone⟩ := State.writeDone_of_dirty hway hdirty hlive hmoving hnew
  have hwork := State.dirtyLine_homeWork hm k { l with data := d.data, poison := q }
  obtain ⟨seq, hlines⟩ := State.dirtyLine_lines hm k { l with data := d.data, poison := q }
  obtain ⟨hnone, hsinks, hkept⟩ := State.changeDone_of_trace ho (hwork.txns.trans htxns) hid ((hwork.mirrored d.home).trans hm)
    (BitVec.ofNat 1024 (0 : Reg).toNat)
  rw [hdone]
  exact ⟨hnone, hsinks.trans (State.dirtyLine_sinks hm ..), State.lineMade_of_lines hway ((hkept d.home).trans hlines) rfl⟩

/-- A line of a trace whose home has the line dirty, and mirrored, is written there at once; the slots and the sink stay
(05 R162, 15 R467). -/
theorem State.accept_of_logs {k : Nat} {l : LlcLine} (hh : HomeTakes s line r.slice r.fn .wr false n h) (hfilt : s.filt h line = {})
    (hway : (s.home h).way? line = some (k, l)) (hdirty : l.dirty = true) (hpoison : l.poison = 0) (hlive : s.keyLive l.key = true)
    (hm : s.mirrored h = true) :
    (s.accept (traceWrite c x r tc now line data) (some r.fn)).sinks = s.sinks ∧
      s.LineMade (s.accept (traceWrite c x r tc now line data) (some r.fn)) h line k data := by
  obtain ⟨b, d, haccept, htxns, hd⟩ :=
    State.accept_traceWrite_reaches_turn (c := c) (x := x) (tc := tc) (now := now) (data := data) hh hfilt
  obtain ⟨hchip, -, -, -, -, -, -, hmoving, -, -, -, -, -, -⟩ := hh
  have hsnooped := State.snooped_of_logs (s := s.billed b) hd hchip hway hpoison
  -- the filter has forgotten the line: no more differs from `s` in its home
  have hlines : (((s.billed b).setFilt h line {}).home h).lines = (s.home h).lines := by
    rw [State.setFilt, State.setHome_home]
    rfl
  have hwork : (s.billed b).HomeWork ((s.billed b).setFilt h line {}) := State.setHome_homeWork rfl
  obtain ⟨hnone, hsinks, hhere, helse⟩ := State.writeDone_of_logs (s := (s.billed b).setFilt h line {}) hd.unsnooped htxns rfl
    (by rw [HomeSt.way?, hlines]; exact hway) hdirty hlive ((hwork.mirrored h).trans hm) hmoving
  rw [haccept, hsnooped, State.settleN_of_no_txns hnone]
  exact ⟨hsinks, hhere, fun j hj => (helse j hj).trans (by rw [hlines])⟩

end
end Sys2Proof.Machine
end

section
/-! Traces, the wait-for graph and the global stop (15 R465 to R469, R471 to R477). -/

namespace Sys2Proof.Machine

section

variable {s : State}

/-! ### Traces (15 R465, R467) -/

/-- A write of VIEW_TRACE_CTRL of a slot that the function has loaded is answered OK, and its enable waits for the boundary
(15 R465, R478). -/
theorem State.traceReq_of_loaded {f tag c x : Nat} (hslot : s.slotOf f c = some x) (hup : s.portUp hostPort = true) (ctrl : Reg) :
    (s.traceReq f tag c ctrl).out = s.out ++ [.hostRsp tag .ok 0] ∧ (s.traceReq f tag c ctrl).slot c = (s.traceCtrl c ctrl).slot c := by
  have hloaded : s.traceReq f tag c ctrl = (s.traceCtrl c ctrl).hostRsp tag .ok 0 := if_pos (by rw [hslot]; rfl)
  rw [hloaded, State.hostRsp_slot, State.hostRsp_out_of_portUp (s := s.traceCtrl c ctrl) hup]
  exact ⟨rfl, rfl⟩

theorem State.traceCtrl_slot (s : State) (c : Nat) (ctrl : Reg) : (s.traceCtrl c ctrl).slot c = { s.slot c with
    trace := { (s.slot c).trace with enable := bit ctrl.toNat 0, wrap := bit ctrl.toNat 1, irqEn := bit ctrl.toNat 2,
                                     sizeLog2 := field ctrl 3 5, vec := field ctrl 8 11, enabling := bit ctrl.toNat 0 } } :=
  State.setSlot_slot ..

/-- TRACE_LINE_WRITE with four records of a slot in the sink writes them. -/
theorem exec_traceLineWrite_of_four {c : BitVec 7} {a b d e : TraceRec} (hwork : s.Working) (hsink : s.sink = [a, b, d, e])
    (hslot : ∀ r ∈ s.sink, r.slot = c.toNat) : exec (.traceLineWrite c) s = .next (s.traceLine c.toNat) := by
  have hfour : (s.sink.filter fun r => r.slot == c.toNat).length ≥ 4 := by
    rw [List.filter_eq_self.mpr fun r hr => by simp [hslot r hr], hsink]
    exact le_rfl
  refine congrArg Host.Outcome.next ((State.unlessStopped_of_working _ hwork).trans (if_pos hfour))

/-! ### The wait-for graph (15 R468, R477) -/

theorem State.wfgAsk_of_service (hservice : s.inService = true) (hdump : s.flt.dump ≠ 3) :
    s.wfgAsk = { s with obs := { s.obs with wfgPending := true } } := by
  simp [State.wfgAsk, hservice, hdump]

/-- Latching the graph leaves what the stop has in the registers (15 R468). -/
theorem State.wfgLatch_eq (s : State) (atStop : Bool) : s.wfgLatch atStop = { s with
    obs := { s.obs with wfg := (s.wfgLatch atStop).obs.wfg, wfgState := (s.wfgLatch atStop).obs.wfgState,
                        wfgTick := (s.wfgLatch atStop).obs.wfgTick, wfgPending := false } } := by
  unfold State.wfgLatch
  split <;> rfl

/-! ### The global stop (15 R471, R472, R475, R477) -/

/-- `s` with other events in the rings of its units. -/
def State.withRings (s : State) (rings : Map (List Msg)) : State := { s with obs := { s.obs with rings := rings } }

/-- The rings of the units take an event, and nothing else does (15 R470). -/
theorem State.ringAll_eq_withRings (s : State) (code arg : Nat) : ∃ rings, s.ringAll code arg = s.withRings rings := by
  have hring : ∀ (u : State) (i : Nat), ∃ rings, u.ring i code arg = u.withRings rings := by
    intro u i
    unfold State.ring
    split
    · exact ⟨u.obs.rings, rfl⟩
    · exact ⟨_, rfl⟩
  have hfold : ∀ (l : List Nat) (u : State), ∃ rings, l.foldl (fun (s : State) i => s.ring i code arg) u = u.withRings rings := by
    intro l
    induction l with
    | nil => exact fun u => ⟨u.obs.rings, rfl⟩
    | cons i l ih =>
      intro u
      obtain ⟨first, hfirst⟩ := hring u i
      obtain ⟨rings, hrings⟩ := ih (u.ring i code arg)
      exact ⟨rings, by rw [List.foldl_cons, hrings, hfirst]; rfl⟩
  exact hfold allUnits s

theorem State.xoffAll_ports (s : State) : s.xoffAll.ports = s.ports := by rw [State.xoffAll_eq]

/-- Vector 0x10 is the last transfer of a change of the stop (15 R477). -/
theorem State.stopIrq_out {u : State} (hports : u.ports = s.ports) (hdrives : s.drives mgPort = true) :
    (u.xoffAll.mgIrq 0x10).out.getLast? = some (.mgIrq 0x10) := by
  have hdrives' : u.xoffAll.drives mgPort = true := by
    rw [State.drives, State.port, State.xoffAll_ports, hports]
    exact hdrives
  rw [State.mgIrq_out_of_drives hdrives', List.getLast?_concat]

theorem State.stopIrq_obs (s : State) : (s.xoffAll.mgIrq 0x10).obs = s.obs := by
  rw [State.mgIrq_obs, State.xoffAll_eq]

/-- A trigger that has fired stops the block in SERVICE (15 R471, R472). -/
theorem State.stopBegin_of_service (hfires : s.stopFires = true) (hwell : s.fatal = false) (hservice : s.inService = true) :
    ∃ u : State, s.stopBegin = u.xoffAll.mgIrq 0x10 ∧ u.ports = s.ports ∧ u.obs.stopState = 2 ∧ u.obs.stopAt = s.blk.tick ∧
      u.obs.fired = false := by
  obtain ⟨rings, hrings⟩ := s.ringAll_eq_withRings 0x86 s.blk.tick
  unfold State.stopBegin
  rw [hfires, hwell, hservice, hrings]
  simp only [Bool.not_true, Bool.or_self, Bool.false_eq_true, if_false]
  refine ⟨_, rfl, ?_⟩
  split
  · rw [State.wfgLatch_eq]
    exact ⟨rfl, rfl, rfl, rfl⟩
  · exact ⟨rfl, rfl, rfl, rfl⟩

/-- Elsewhere the stop is refused, and every trigger disarmed (15 R471, R472). -/
theorem State.stopBegin_of_refused (hfires : s.stopFires = true) (hrefused : s.fatal = true ∨ s.inService = false) :
    s.stopBegin = { s.stopDisarm with obs := { s.stopDisarm.obs with stopRefused := true } } := by
  have hno : (s.fatal || !s.inService) = true := by
    rcases hrefused with h | h <;> simp [h]
  unfold State.stopBegin
  rw [hfires, hno]
  rfl

theorem State.stopState_of_fires (hfires : s.stopFires = true) : s.obs.stopState = 1 := by
  simp only [State.stopFires, Bool.and_eq_true, beq_iff_eq] at hfires
  exact hfires.1

/-- A stop in which nothing landed is released: the rest state of the triggers is in force (15 R475). -/
theorem State.stopRelease_of_quiet (hstopped : s.stopped = true) (hlanded : s.obs.landed = []) :
    ∃ u : State, s.stopRelease = u.xoffAll.mgIrq 0x10 ∧ u.ports = s.ports ∧ u.obs.stopState = s.obs.rest ∧ u.obs.resume = false := by
  have hrest : ¬ s.obs.rest ≥ 2 := by
    unfold Obs.rest
    split <;> omega
  obtain ⟨rings, hrings⟩ := s.ringAll_eq_withRings 0x87 s.obs.stopAt
  have hreplay : ({ s.withRings rings with obs := { (s.withRings rings).obs with
      stopState := s.obs.rest, resume := false, fired := false } } : State).replayLanded =
      { s.withRings rings with obs := { (s.withRings rings).obs with
        stopState := s.obs.rest, resume := false, fired := false, landed := [] } } := by
    simp [State.replayLanded, State.stopped, State.withRings, hlanded, hrest]
  unfold State.stopRelease
  rw [hstopped, hrings]
  simp only [Bool.not_true, Bool.false_eq_true, if_false]
  exact ⟨_, congrArg (fun v : State => v.xoffAll.mgIrq 0x10) hreplay, rfl, rfl, rfl⟩

theorem State.stopped_of_expired (h : s.stopExpired = true) : s.stopped = true := by
  simp only [State.stopExpired, Bool.and_eq_true] at h
  exact h.1.1

end

/-- Settles O56: a line of a trace is written as any write of its context (`State.accept_of_logs`); the words of the graph and the
stops are fields of the registers, a stop takes effect at once (log entry 153), and the details of traces and graphs are those of log
entries 151 and 152; answers go to the tag of the transfer (log entry 170). -/
theorem tracesGraphsAndStops : Obligations.TracesGraphsAndStops := by
  unfold Obligations.TracesGraphsAndStops
  refine ⟨fun s => ⟨fun f tag c ctrl x hopen hslot => ?enable,
      fun c a b d e x n h w line l hwork hctx hon hsink hslot hroom hline hh hfilt hway hdirty hpoison hlive hm => ?line,
      fun hopen hservice hdump => ?ask, fun hlatched => ?ready, fun hopen => ?data⟩,
    fun s => ⟨fun hfires hwell hservice => ?stop, fun hfires hrefused => ?refused, fun hstopping => ?settled,
      fun hopen hstopped => ?resume, fun hexpired hlanded => ?expired, fun hopen => ?disarm⟩⟩
  case enable =>
    obtain ⟨u, hcmd, hu, -⟩ := State.hostCmd_of_open (.traceEnable f tag c ctrl)
      (fun s => s.traceReq f.toNat tag.toNat c.toNat ctrl) hopen
    have hslot' : u.slotOf f.toNat c.toNat = some x := by
      rw [hu]
      exact hslot
    have hup : u.portUp hostPort = true := by
      rw [hu]
      exact hopen.1
    have hout : u.out = s.out := by rw [hu]
    have hsame : u.slot c.toNat = s.slot c.toNat := by
      rw [hu]
      rfl
    obtain ⟨hanswer, hwritten⟩ := State.traceReq_of_loaded (tag := tag.toNat) hslot' hup ctrl
    refine ⟨_, congrArg Host.Outcome.next hcmd, by rw [hanswer, hout], ?_⟩
    rw [hwritten, State.traceCtrl_slot, hsame]
    exact ⟨rfl, rfl, rfl, rfl, rfl⟩
  case line =>
    obtain ⟨u, tc, now, htrace, hu, hoffset⟩ := State.traceLine_of_four hctx hon hsink hslot hroom
    rw [← hline] at htrace
    have hh' : HomeTakes u line (s.ctx x).slice (s.ctx x).fn .wr false n h := by
      rw [hu]
      exact hh
    have hhome : u.home h = s.home h := by
      rw [hu]
      rfl
    have hm' : u.mirrored h = true := by
      rw [hu]
      exact hm
    have hlive' : u.keyLive l.key = true := by
      rw [hu]
      exact hlive
    obtain ⟨hsinks, hmade, -⟩ := State.accept_of_logs (c := c.toNat) (x := x) (tc := tc) (now := now) (data := fourRecords a b d e) hh'
      (by rw [State.filt, hhome]; exact hfilt) (by rw [hhome]; exact hway) hdirty hpoison hlive' hm'
    have hempty : u.sink = [] := by rw [hu]
    refine ⟨_, (exec_traceLineWrite_of_four hwork hsink hslot).trans (congrArg Host.Outcome.next htrace), ?_, ?_, hmade⟩
    · exact (congrArg Prod.snd hsinks).trans hempty
    · rw [← hoffset, State.slot, State.slot]
      exact congrArg (fun m : Map SlotSt => (tget {} m c.toNat).trace.offset) (congrArg Prod.fst hsinks)
  case ask =>
    refine ⟨_, congrArg Host.Outcome.next (State.mgWrite_emits (f := State.wfgAsk) hopen ?_), ?_⟩ <;>
      rw [State.wfgAsk_of_service hservice hdump]
    · exact hopen.1
    · exact ⟨rfl, rfl⟩
  case ready =>
    have hready : s.wfgReady = ({ s with obs := { s.obs with wfgState := 2 } } : State).mgIrq 0x11 := if_pos hlatched
    refine ⟨_, congrArg Host.Outcome.next hready, State.mgIrq_obs .., fun hdrives => ?_⟩
    exact State.mgIrq_out_of_drives (s := { s with obs := { s.obs with wfgState := 2 } }) hdrives 0x11
  case data =>
    exact ⟨_, congrArg Host.Outcome.next (State.mgRead_emits (after := State.wfgAdvance) hopen hopen.1), rfl, rfl⟩
  case stop =>
    obtain ⟨u, hstop, hports, hstate, hat, hfired⟩ := State.stopBegin_of_service hfires hwell hservice
    refine ⟨_, congrArg Host.Outcome.next hstop, ?_⟩
    rw [State.stopIrq_obs]
    exact ⟨hstate, hat, hfired, State.stopIrq_out hports⟩
  case refused =>
    refine ⟨_, congrArg Host.Outcome.next (State.stopBegin_of_refused hfires hrefused), ?_, rfl, rfl, rfl, rfl, rfl⟩
    simp [State.stopDisarm, State.stopState_of_fires hfires]
  case settled => exact ⟨_, congrArg Host.Outcome.next (if_pos hstopping), rfl, rfl⟩
  case resume =>
    refine ⟨_, congrArg Host.Outcome.next (State.mgWrite_emits
      (f := fun s => if s.stopped then { s with obs := { s.obs with resume := true } } else s) hopen ?_), ?_⟩ <;> rw [if_pos hstopped]
    · exact hopen.1
    · exact ⟨rfl, rfl⟩
  case expired =>
    obtain ⟨u, hrelease, hports, hstate, hresume⟩ := State.stopRelease_of_quiet (State.stopped_of_expired hexpired) hlanded
    refine ⟨_, congrArg Host.Outcome.next ((if_pos hexpired).trans hrelease), ?_⟩
    rw [State.stopIrq_obs]
    exact ⟨hstate, hresume, State.stopIrq_out hports⟩
  case disarm =>
    exact ⟨_, congrArg Host.Outcome.next (State.mgWrite_emits (f := State.stopDisarm) hopen hopen.1), rfl, rfl, rfl, rfl, rfl⟩

end Sys2Proof.Machine
end
